-- ==== Sys2Proof/Word.lean ====
section
/-! DEFINITION. The widths the spec names, as words. -/

namespace Sys2Proof

/-- A byte. -/
abbrev Byte := BitVec 8
/-- A 32-bit word: an FP32 pattern, a check word of R345, a kind word of R268. -/
abbrev W32 := BitVec 32
/-- A 64-bit word: a CRC-64 of R132, a sequence ID of R112. -/
abbrev W64 := BitVec 64
/-- A polder P0 to P7 (R16). -/
abbrev Pol := Fin 8
/-- A fabric port F0 to F11 (R262). -/
abbrev Port := Fin 12
/-- A drive position A0, A1, B0, B1 (R234). -/
abbrev Drive := Fin 4
/-- A compute tile C0 to C3 (R16). -/
abbrev Tile := Fin 4
/-- A steward S0 to S3 (R24). -/
abbrev Stw := Fin 4
/-- A gatherer source 000h to 1FFh (R513). -/
abbrev Source := Fin 512
/-- A composition record 2440h + i (R327). -/
abbrev Comp := Fin 16
/-- A binding record 2B80h + i (R180). -/
abbrev Binding := Fin 64
/-- A tenant 000h to FFFh (R36). -/
abbrev Tenant := Fin 4096
/-- A ring pair (R531). -/
abbrev Ring := Fin 64
/-- A management port M0 or M1 (R504). -/
abbrev Mgmt := Fin 2

end Sys2Proof
end

