-- ==== Sys2Proof/Types.lean ====
section
/-! DEFINITION. The records that commands carry as operands: slots, requests, packets, messages. -/

namespace Sys2Proof

/-- The fields of a slot that its word gives (R51, R100): its lane, wait, signal and deadline, and, where its operation has a format
byte, its input and output format codes and its rounding mode (`rz`: toward zero); and the unit of its class and its slot number. -/
structure Slot where
  unit : Nat := 0
  idx : Nat := 0
  lane : Fin 32 := 0
  waitGate : Fin 4096 := 0
  waitCount : Fin 256 := 0
  sigGate : Fin 4096 := 0
  sigCount : Fin 256 := 0
  deadline : Fin 256 := 0
  fin : Fin 16 := 0
  fout : Fin 16 := 0
  rz : Bool := false
  deriving DecidableEq, Repr

/-- The operands of a SCORE or WSUM (R126, R127): the row and byte offset of the unit's first block, the
operand bytes, KV heads, query heads per KV head, the unit's channels, the staging half. The page format is the slot's.
`upset` says that the stored bits of a sector failed to read as written (R347). DESIGN CHOICE, log entry 61. -/
structure BankOp where
  row : Nat
  off : Nat
  bytes : Nat
  heads : Nat
  g : Nat
  c : Nat
  half : Nat := 0
  upset : Bool := false
  deriving DecidableEq, Repr

/-- The operands of a culvert operation (R69): the first unit of the span on the chain, its length, the
bytes, the staging half, the tap core and its local-store offset, the bytes that a CSCATTER or CGATHER deals to or
from each unit in turn (0: each unit's share is one run), and whether a CSCATTER fills the write staging that WRITE reads (R67,
R165). DEDUCED, log entry 140. -/
structure CulvertOp where
  first : Nat
  span : Nat
  bytes : Nat
  half : Nat := 0
  core : Nat := 0
  at_ : Nat := 0
  chan : Nat := 0
  toWrite : Bool := false
  deriving DecidableEq, Repr

/-- A sequence core's vector operation kinds (R70). -/
inductive VopKind where
  | add | mul | fma | max | min | scale
  deriving DecidableEq, Repr

/-- Who sent a request: a node over the fabric with its message identifier, the key slot it came
under (0 when unencrypted) and the polder select it named as its own (R266, R270), a host ring and slot with its cookie (R112, R536), or the partner's mirror record of a
number (R362), which no command names. -/
inductive Src where
  | fabric (node msg keySlot : Nat) (sel : Nat := 15)
  | ring (r : Ring) (slot cookie : Nat)
  | mirror (n : Nat)
  deriving DecidableEq, Repr

/-- A request as it arrives: its source, its 32-byte header (R112), the length of its body and of the
reply buffer (R536), and, of an APPEND or an ATTEND, the body's bytes. `reserved` says that a reserved byte of its
submission entry is not zero; `replyAt` is its reply address, `entryCtr` its entry's counter (R545). -/
structure Req where
  src : Src
  hdr : BitVec 256
  bodyLen : Nat := 0
  replyLen : Nat := 0
  body : List Nat := []
  reserved : Bool := false
  replyAt : Nat := 0
  entryCtr : Nat := 0
  deriving DecidableEq, Repr

/-- The operands of a CVT (R70, R96): its elements, its source and destination, the channels of a TERP7 block. Its formats are the
slot's. -/
structure CvtOp where
  n : Nat
  src : Nat
  dst : Nat
  c : Nat := 8
  deriving DecidableEq, Repr

/-- What the hub signals an external gate on (R54): a mesh message's arrival in the region that begins at a byte of the reservoir, a
tier fill's completion, a host DMA's completion. A void signal needs no name. -/
inductive GateEvent where
  | mesh (region : Nat)
  | tier
  | hostDma
  deriving DecidableEq, Repr

/-- A slot of an image (R51): its 128 bits, and the length or count operand that R65 limits where the slot itself holds it (none: it
comes from a ring entry, or there is none). DEDUCED, log entry 35. -/
structure ImgSlot where
  word : BitVec 128
  held : Option Nat := none
  deriving DecidableEq, Repr

/-- What an image declares for a lane (R123, R125): where page lists, query vectors, chunk partials and a write's body arrive in the
reservoir; for a restore (R254), where header sectors arrive and where its staging stands. DEDUCED, log entry 141. -/
structure LaneIn where
  pages : Nat := 0
  query : Nat := 0
  partials : Nat := 0
  body : Nat := 0
  header : Nat := 0
  staging : Nat := 0
  deriving DecidableEq, Repr

/-- A tide-program image (R48): the header's fields and the slot list of each unit. A reservoir region is its first byte, its bytes
and its owner units; a local-store region its core, first byte and bytes; a slot list its unit's number and its slots; a gate an external
gate with its events; a ring an admitting lane and its ring; a REPEAT's bound its unit's number, its slot and the bound; `lanesIn` what
it declares for a lane. `reservedSet` says that a reserved field of the header is not zero. DEDUCED, log entry 35. -/
structure Image where
  edition : Nat := 3
  ident : Nat := 0
  family : Nat := 0
  bucket : Nat := 0
  concurrency : Nat := 64
  rotation : List Nat := [0, 0, 0, 0, 1, 1, 1, 1, 2, 2, 3, 3, 3, 3, 4, 4]
  regions : List (Nat × Nat × List Nat) := []
  lsRegions : List (Nat × Nat × Nat) := []
  slots : List (Nat × List ImgSlot) := []
  gates : List (Nat × List GateEvent) := []
  deadlines : List Nat := []
  buckets : List Nat := []
  rings : List (Nat × Nat) := []
  tierRing : Option Nat := none
  repeatBounds : List (Nat × Nat × Nat) := []
  admitCore : Nat := 0
  lanesIn : List (Nat × LaneIn) := []
  reservedSet : Bool := false
  deriving DecidableEq, Repr

/-- A Lemweave packet (R266): its header's fields, its payload as it travels and its check. A link-control frame is a packet of type 1 whose
subtype stands in `kind` (R275). Reserved bits are zero. DESIGN CHOICE, log entry 52. -/
structure Packet where
  version : Nat := 1
  ptype : Nat := 0
  cls : Fin 8
  enc : Bool := false
  last : Bool := false
  dst : Nat
  polSel : Nat := 15
  hop : Nat
  src : Nat
  srcSel : Nat := 15
  kind : Nat
  msg : Nat
  off : Nat
  total : Nat
  key : Nat := 0
  kindWord : Nat := 0
  data : List Nat := []
  check : Nat := 0
  deriving DecidableEq, Repr

/-- The payload length of a packet (R266 bytes 2–3). -/
def Packet.len (k : Packet) : Nat := k.data.length

/-- A HELLO's payload (R276). -/
structure Hello where
  vendor : Nat := 0
  product : Nat := 0
  revision : Nat := 0
  serial : Nat := 0
  digest : Nat
  node : Nat
  port : Nat
  pairLink : Bool
  ready : Bool
  heard : Bool
  seq : Nat := 0
  deriving DecidableEq, Repr

/-- The header of a conduit message (R301). -/
structure CHdr where
  conduit : Nat
  seq : Nat := 0
  ack : Nat := 0
  map : Nat := 0
  grant : Nat := 0
  peer : Nat := 0
  gen : Nat := 0
  deriving DecidableEq, Repr

/-- Bytes 0 to 47 of a page header (R186) as they travel. -/
structure PageHdr where
  lost : Bool := false
  owner : Nat
  layer : Nat
  group : Nat
  valid : Nat
  first : Nat
  formats : Nat
  heads : Nat
  dim : Nat
  valOff : Nat
  check : Nat
  written : Nat := 0
  deriving DecidableEq, Repr

/-- A PUT message's common body (R302): the sequence, the page key, the handle and the pinned flag. -/
structure Put where
  seqId : Nat
  key : Nat
  handle : Nat
  pinned : Bool
  deriving DecidableEq, Repr

/-- A PAIR_BEAT payload (R364). DESIGN CHOICE, log entry 76. -/
structure Beat where
  seq : Nat
  epoch : Nat
  sole : Bool
  fenced : Bool
  probation : Bool
  rebuilding : Bool
  detached : Bool
  down : Nat
  placed : Nat
  partnerHolds : Bool
  deriving DecidableEq, Repr

/-- A WOA message (R493): the path it came on, 0 for M0, 1 for M1, 2 for the PF1 mailbox, its bytes, and its IPv6 source address as an
OCTET_STRING. -/
structure WoaMsg where
  path : Fin 3
  bytes : List Nat
  source : Nat := 0
  deriving DecidableEq, Repr

/-- A firmware bundle: its bytes (R468), whether its signature verifies, and what its kind-03h sections spell, whose layout the spec does not
give. DESIGN CHOICE, log entry 12. DEDUCED, log entry 35. -/
structure Bundle where
  bytes : List Nat
  sigOk : Bool
  images : List Image
  deriving DecidableEq, Repr

/-- A Tidegauge metering record (R444). -/
structure MRecord where
  seq : Nat
  time : Nat
  tenant : Nat
  kind : Nat
  amount : Nat
  deriving DecidableEq, Repr

/-- A key envelope: its bytes (R412), and the shared secret that ML-KEM-1024 decapsulation of its bytes 80 to 1647 gives under the transport key
(R413). The secret key that decides it is nowhere in the spec, so the secret comes with the command. DESIGN CHOICE, log entry 80. -/
structure Envelope where
  bytes : List Nat
  secret : List Nat
  deriving DecidableEq, Repr

/-- The resources that share bandwidth (R328). -/
inductive Resource where
  | fabric (p : Port)
  | host
  | flash (rootB : Bool)
  | stack (k : Pol)
  deriving DecidableEq, Repr

/-- What a drive answers the flash engine with (R234, R236, R261): whether it is an NVMe controller with NSID 1, the data and metadata bytes of
its LBA format, its capacity in LBAs, whether it has a volatile write cache, its link as 2910h.03 shows it, and, from its health log, the
media errors and the percentage used. DESIGN CHOICE, log entry 47. -/
structure NvmeReply where
  controller : Bool := true
  nsid : Bool := true
  data : Nat := 4096
  meta_ : Nat := 0
  blocks : Nat := 0
  cache : Bool := false
  link : Nat := 0x58
  health : Option (Nat × Nat) := none
  deriving DecidableEq, Repr

/-- What a PTP message says (R389): its port, the offset it shows, and whether it locks. -/
structure PtpMsg where
  port : Mgmt
  offset : Int
  domain : Nat
  deriving DecidableEq, Repr

/-- A block that the expander or the hub's checker judged malformed (R253): a weight share of a binding
with the tags of the requests it touches, a page record being restored, or a T2 record copied to T3. -/
inductive Malformed where
  | weight (b : Binding) (tags : List Nat)
  | restore (seqId key : Nat)
  | copy (seqId key : Nat)
  deriving DecidableEq, Repr

/-- A device read of host memory that failed (R543). -/
inductive DmaRead where
  | entry (r : Ring)
  | body (tag : Nat)
  | boot
  | pageRecord (seqId key : Nat)
  | spill (seqId : Nat)
  | conduit (c : Nat)
  | weight (b : Binding) (p : Pol)
  deriving DecidableEq, Repr

end Sys2Proof
end

