-- ==== Sys2Proof/Syntax.lean ====
section
/-! DEFINITION. The commands of the block: one constructor for each row of spec/opcode_table.json. -/

namespace Sys2Proof

/-- A command (a row of the table). Its operands are what the sender of the command or the environment says. -/
inductive Instr where
  /-- SCORE (R126). -/
  | score (p : Pol) (c : Slot) (o : BankOp)
  /-- WSUM (R127). -/
  | wsum (p : Pol) (c : Slot) (o : BankOp)
  /-- WRITE (R67). -/
  | write (p : Pol) (c : Slot) (row : Nat) (off : Nat) (bytes : Nat) (upset : Bool)
  /-- COPY (R67). -/
  | copy (p : Pol) (c : Slot) (srcRow : Nat) (srcOff : Nat) (dstRow : Nat) (dstOff : Nat) (bytes : Nat)
  /-- VERIFY (R67). -/
  | verify (p : Pol) (c : Slot) (row : Nat) (off : Nat) (bytes : Nat) (upset : Bool)
  /-- CSCATTER (R69). -/
  | cscatter (p : Pol) (c : Slot) (o : CulvertOp)
  /-- CBCAST (R69). -/
  | cbcast (p : Pol) (c : Slot) (o : CulvertOp)
  /-- CREDUCE (R128). -/
  | creduce (p : Pol) (c : Slot) (o : CulvertOp)
  /-- CGATHER (R128). -/
  | cgather (p : Pol) (c : Slot) (o : CulvertOp)
  /-- VOP (R70). -/
  | vop (p : Pol) (c : Slot) (kind : VopKind) (n : Nat) (a : Nat) (b : Nat) (d : Nat) (dst : Nat)
  /-- EXP (R110). -/
  | exp (p : Pol) (c : Slot) (n : Nat) (src : Nat) (dst : Nat)
  /-- SOFTMAX (R108). -/
  | softmax (p : Pol) (c : Slot) (n : Nat) (heads : Nat) (scores : Nat) (state : Nat) (probs : Nat) (alpha : Nat) (scale : W32) (page : Nat) (first : Bool)
  /-- OACC (R70). -/
  | oacc (p : Pol) (c : Slot) (n : Nat) (d : Nat) (o : Nat) (w : Nat) (alpha : Nat) (first : Bool)
  /-- MERGE (R130). -/
  | merge (p : Pol) (c : Slot) (d : Nat) (parts : List (Nat × Bool)) (dst : Nat)
  /-- CVT (R105). -/
  | cvt (p : Pol) (c : Slot) (o : CvtOp)
  /-- CRC64 (R70). -/
  | crc64 (p : Pol) (c : Slot) (bytes : Nat) (src : Nat) (dst : Nat)
  /-- MSEND (R70). -/
  | msend (p : Pol) (c : Slot) (bytes : Nat) (src : Nat) (dstPol : Pol) (dstOff : Nat)
  /-- ADMIT (R58). -/
  | admitSlot (p : Pol) (c : Slot) (ring : Fin 16) (firstLane : Nat) (count : Nat) (n : Nat) (dst : Nat)
  /-- DONE (R63). -/
  | done (p : Pol) (c : Slot) (status : Nat) (detail : Nat) (at_ : Nat) (bytes : Nat)
  /-- WLOAD (R71). -/
  | wload (p : Pol) (c : Slot) (bytes : Nat) (src : Nat)
  /-- MM (R98). -/
  | mm (p : Pol) (c : Slot) (r : Nat) (src : Nat) (accRow : Nat) (ins : Nat) (cols : Nat) (add : Bool)
  /-- OUTF (R167). -/
  | outf (p : Pol) (c : Slot) (bytes : Nat) (accOff : Nat) (cols : Nat) (dstPol : Pol) (dstUnit : Nat)
  /-- OUTR (R71). -/
  | outr (p : Pol) (c : Slot) (bytes : Nat) (accOff : Nat) (cols : Nat) (dst : Nat)
  /-- BSOFT (R173). -/
  | bsoft (p : Pol) (c : Slot) (scores : Nat) (state : Nat) (out : Nat) (d : Nat) (scale : W32) (keyBase : Nat) (queryPos : List Nat) (bf16 : Bool) (first : Bool)
  /-- SWAP (R71). -/
  | swap (p : Pol) (c : Slot)
  /-- XBLK (R251). -/
  | xblk (p : Pol) (c : Slot) (m : Nat) (dst : Nat)
  /-- XTAB (R248). -/
  | xtab (p : Pol) (c : Slot) (src : Nat) (slot : Fin 4)
  /-- XREQ (R72). -/
  | xreq (p : Pol) (c : Slot) (bytes : Nat) (blocks : List (List Nat)) (drive : Option Drive)
  /-- DCOPY (R73). -/
  | dcopy (p : Pol) (c : Slot) (bytes : Nat) (row : Nat) (unit : Nat) (off : Nat) (res : Nat) (toHbm : Bool) (upset : Bool)
  /-- DLS (R73). -/
  | dls (p : Pol) (c : Slot) (bytes : Nat) (res : Nat) (core : Nat) (at_ : Nat) (toCore : Bool) (transpose : Nat)
  /-- DMESH (R73). -/
  | dmesh (p : Pol) (c : Slot) (bytes : Nat) (res : Nat) (dstPol : Pol) (dstOff : Nat)
  /-- DFILL (R73). -/
  | dfill (p : Pol) (c : Slot) (bytes : Nat) (row : Nat) (unit : Nat) (off : Nat) (upset : Bool)
  /-- NOP (R75). -/
  | nop (p : Pol) (cls : Fin 6) (c : Slot)
  /-- WAITONLY (R75). -/
  | waitonly (p : Pol) (cls : Fin 6) (c : Slot)
  /-- REPEAT (R61). -/
  | repeatSlot (p : Pol) (cls : Fin 6) (c : Slot) (len : Nat) (count : Nat) (fromEntry : Bool)
  /-- END (R75). -/
  | endSlot (p : Pol) (cls : Fin 6) (c : Slot)
  /-- EXTERNAL_GATE_SIGNAL (R54). -/
  | externalGateSignal (p : Pol) (gate : Fin 4096) (count : Nat) (event : GateEvent)
  /-- DEADLINE_EXPIRY (R56). -/
  | deadlineExpiry (p : Pol) (cls : Fin 6) (c : Slot)
  /-- STALL_LIMIT_EXPIRY (R57). -/
  | stallLimitExpiry (p : Pol) (cls : Fin 6) (c : Slot)
  /-- PASS_CLOSE (R50). -/
  | passClose (p : Pol)
  /-- POLDER_STOPPED (R84). -/
  | polderStopped (p : Pol)
  /-- TIDE_BOUNDARY (R382). -/
  | tideBoundary
  /-- IMAGE_LOAD (R48). -/
  | imageLoad (p : Pol) (im : Image)
  /-- QUIESCE (R84). -/
  | quiesce (p : Pol)
  /-- CLEAR_STOPPED (R84). -/
  | clearStopped (p : Pol)
  /-- RESUME (R84). -/
  | resume (p : Pol)
  /-- ATTEND (R118). -/
  | attend (r : Req)
  /-- ATTEND_TOKEN_LIMIT (R119). -/
  | attendTokenLimit (tag : Nat)
  /-- EPOCH_HOLD_EXPIRY (R316). -/
  | epochHoldExpiry (tag : Nat)
  /-- REPLAY (R138). -/
  | replay (tag : Nat)
  /-- ORDERING_FENCE (R540). -/
  | orderingFence (r : Ring) (slot : Nat) (cookie : Nat)
  /-- PREFILL (R160). -/
  | prefill (r : Req)
  /-- APPEND (R160). -/
  | append (r : Req)
  /-- TOKEN_BASE (R162). -/
  | tokenBase (tag : Nat)
  /-- BODY_SEGMENT (R159). -/
  | bodySegment (key : Nat) (source : Nat) (off : Nat) (len : Nat) (bytes : List Nat) (reserved : Bool)
  /-- BODY_TIMEOUT (R160). -/
  | bodyTimeout (tag : Nat)
  /-- WEIGHT_LOAD (R151). -/
  | weightLoad (b : Binding) (header : List Nat) (segments : List (List Nat)) (sizes : List (List Nat)) (hasQ : Bool) (wFmt : Fin 16) (aFmt : Fin 16) (tables : Nat)
  /-- WEIGHT_LOAD_END (R416). -/
  | weightLoadEnd (b : Binding)
  /-- FORK (R198). -/
  | fork (r : Req)
  /-- FORK_CREATE (R199). -/
  | forkCreate (r : Req)
  /-- RELEASE (R206). -/
  | release (r : Req)
  /-- RELEASE_TRUNCATE (R206). -/
  | releaseTruncate (r : Req)
  /-- PIN (R201). -/
  | pin (r : Req)
  /-- UNPIN (R201). -/
  | unpin (r : Req)
  /-- SWAP_OUT (R213). -/
  | swapOut (r : Req)
  /-- SWAP_IN (R215). -/
  | swapIn (r : Req)
  /-- FLUSH (R214). -/
  | flush (r : Req)
  /-- ABORT (R219). -/
  | abort (r : Req)
  /-- ABORT_ALL (R218). -/
  | abortAll (r : Req)
  /-- TOMBSTONE_EXPIRY (R220). -/
  | tombstoneExpiry (waiter : Nat)
  /-- QUERY_SUMMARY (R217). -/
  | querySummary (r : Req)
  /-- QUERY_LAYER_COUNTS (R217). -/
  | queryLayerCounts (r : Req)
  /-- QUERY_TENANT_USAGE (R217). -/
  | queryTenantUsage (r : Req)
  /-- SEQUENCE_WIDE_TURN (R191). -/
  | sequenceWideTurn (tag : Nat)
  /-- PRE_EMPTION (R212). -/
  | preEmption
  /-- MOVE_COMPLETE (R193). -/
  | moveComplete (seqId : Nat) (lost : List Nat)
  /-- MOVE_FAILED (R258). -/
  | moveFailed (seqId : Nat)
  /-- SWEEP_CANDIDATES (R202). -/
  | sweepCandidates
  /-- SWEEP_ALL_PINNED (R202). -/
  | sweepAllPinned
  /-- SWEEP_END (R202). -/
  | sweepEnd
  /-- BINDING_ENABLE (R180). -/
  | bindingEnable (b : Binding)
  /-- BINDING_DISABLE (R222). -/
  | bindingDisable (b : Binding)
  /-- BINDING_SHAPE_WRITE (R180). -/
  | bindingShapeWrite (b : Binding) (sub : Nat) (value : Nat)
  /-- REFETCH_RESULT (R253). -/
  | refetchResult (m : Malformed) (good : Bool)
  /-- DEMOTION (R257). -/
  | demotion
  /-- NVME_COMPLETION (R234). -/
  | nvmeCompletion (d : Drive) (cmd : Nat) (ok : Bool) (r : NvmeReply)
  /-- NVME_COMMAND_TIMEOUT (R236). -/
  | nvmeCommandTimeout (d : Drive) (cmd : Nat)
  /-- DRIVE_FATAL_STATUS (R236). -/
  | driveFatalStatus (d : Drive)
  /-- DRIVE_LINK_LOST (R236). -/
  | driveLinkLost (d : Drive)
  /-- DRIVE_OFFLINE (R261). -/
  | driveOffline (d : Drive)
  /-- DRIVE_REINITIALISE (R261). -/
  | driveReinitialise (d : Drive)
  /-- PORT_ENABLE (R277). -/
  | portEnable (n : Port)
  /-- PORT_DISABLE (R277). -/
  | portDisable (n : Port)
  /-- LANES_TRAINED (R277). -/
  | lanesTrained (n : Port)
  /-- PCS_LOCK (R277). -/
  | pcsLock (n : Port)
  /-- PORT_STATE_TIMEOUT (R277). -/
  | portStateTimeout (n : Port)
  /-- HELLO (R276). -/
  | hello (n : Port) (h : Hello)
  /-- HELLO_TIMER (R275). -/
  | helloTimer (n : Port)
  /-- LOSS_OF_LOCK (R277). -/
  | lossOfLock (n : Port) (pcs : Bool)
  /-- FEC_DEGRADE (R277). -/
  | fecDegrade (n : Port) (corrected : Nat) (uncorrectable : Nat)
  /-- LIVENESS_TIMEOUT (R277). -/
  | livenessTimeout (n : Port)
  /-- HOLD_DOWN_EXPIRY (R278). -/
  | holdDownExpiry (n : Port)
  /-- CREDIT (R281). -/
  | credit (n : Port) (grants : List Nat)
  /-- CREDIT_TIMER (R279). -/
  | creditTimer (n : Port)
  /-- PATH_DOWN (R287). -/
  | pathDown (n : Port) (dst : Nat)
  /-- PATH_DOWN_HOLD_EXPIRY (R287). -/
  | pathDownHoldExpiry (n : Port) (dst : Nat)
  /-- PACKET_RECEIVE (R285). -/
  | packetReceive (n : Port) (first : Bool) (cut : Bool) (k : Packet)
  /-- NODE_ID_WRITE (R274). -/
  | nodeIdWrite (node : Nat)
  /-- ROUTING_COMMIT (R284). -/
  | routingCommit
  /-- REASSEMBLY_TIMEOUT (R299). -/
  | reassemblyTimeout (source : Nat) (msg : Nat)
  /-- MISS_FETCH_DONE (R310). -/
  | missFetchDone (conduit : Nat) (ns : Nat)
  /-- OPEN (R303). -/
  | openMsg (h : CHdr) (node : Nat) (window : Nat)
  /-- OPEN_ACK (R303). -/
  | openAck (h : CHdr) (node : Nat) (code : Nat)
  /-- ACK (R307). -/
  | ack (h : CHdr)
  /-- PUT_PAGE (R317). -/
  | putPage (h : CHdr) (u : Put) (hdr : PageHdr) (data : List Nat)
  /-- PUT_RECORD (R318). -/
  | putRecord (h : CHdr) (u : Put) (record : List Nat)
  /-- PUT_REF (R317). -/
  | putRef (h : CHdr) (u : Put)
  /-- SEAL (R319). -/
  | seal (h : CHdr) (seqId : Nat) (binding : Binding) (base : Pol) (counts : List Nat) (state : Nat)
  /-- SEALED (R319). -/
  | sealed (h : CHdr) (seqId : Nat) (refused : Bool)
  /-- BUCKET_DONE (R320). -/
  | bucketDone (h : CHdr) (comp : Comp) (bucket : Nat) (span : Nat) (stranded : List Nat)
  /-- CLOSE (R303). -/
  | close (h : CHdr)
  /-- FETCH (R357). -/
  | fetch (h : CHdr) (seqId : Nat) (key : Nat) (frame : Nat) (checkOk : Bool)
  /-- FETCHED (R352). -/
  | fetched (h : CHdr) (seqId : Nat) (key : Nat) (result : Nat) (hdr : PageHdr) (data : List Nat)
  /-- CONDUIT_RETRY (R308). -/
  | conduitRetry (conduit : Nat) (seq : Nat)
  /-- CONDUIT_OPEN_CONTROL (R303). -/
  | conduitOpenControl
  /-- CONDUIT_CLOSE_CONTROL (R303). -/
  | conduitCloseControl
  /-- CONDUIT_RESET_CONTROL (R303). -/
  | conduitResetControl
  /-- TRANSFER_FREEZE (R317). -/
  | transferFreeze (comp : Comp) (seqId : Nat)
  /-- FREEZE_LIMIT_EXPIRY (R321). -/
  | freezeLimitExpiry (comp : Comp) (seqId : Nat)
  /-- CHART_PREPARE (R324). -/
  | chartPrepare (comp : Comp) (node : Nat) (epoch : Nat) (changes : List (Nat × Nat)) (digest : Nat)
  /-- PREPARED (R325). -/
  | prepared (comp : Comp) (node : Nat) (epoch : Nat)
  /-- CHART_REFUSE (R325). -/
  | chartRefuse (comp : Comp) (node : Nat) (epoch : Nat) (reason : Nat)
  /-- CHART_COMMIT (R325). -/
  | chartCommit (comp : Comp) (epoch : Nat) (boundary : Nat)
  /-- COMMITTED (R323). -/
  | committed (comp : Comp) (node : Nat) (epoch : Nat)
  /-- CHART_ABORT (R325). -/
  | chartAbort (comp : Comp) (epoch : Nat)
  /-- CHART_RESEND (R324). -/
  | chartResend (comp : Comp) (node : Nat)
  /-- CHART_BOUNDARY (R325). -/
  | chartBoundary (comp : Comp)
  /-- CHART_PROPOSE (R322). -/
  | chartPropose (comp : Comp)
  /-- CHART_COMMIT_CONTROL (R325). -/
  | chartCommitControl (comp : Comp)
  /-- CHART_ABORT_CONTROL (R325). -/
  | chartAbortControl (comp : Comp)
  /-- CHART_INSTALL (R325). -/
  | chartInstall (comp : Comp)
  /-- ABANDON_TRANSFERS (R320). -/
  | abandonTransfers (comp : Comp)
  /-- SCHEDULER_SELECT (R331). -/
  | schedulerSelect (r : Resource)
  /-- TENANT_POLICING_WRITE (R342). -/
  | tenantPolicingWrite (t : Tenant) (sub : Nat) (value : Nat)
  /-- REREAD_DONE (R352). -/
  | rereadDone (frame : Nat) (pass : Bool) (seqs : List Nat)
  /-- FETCH_TIMEOUT (R352). -/
  | fetchTimeout (frame : Nat)
  /-- REWRITE_READBACK (R352). -/
  | rewriteReadback (frame : Nat) (pass : Bool)
  /-- PATROL_READ (R356). -/
  | patrolRead (frame : Nat) (upset : Bool) (corrections : Nat)
  /-- MIRROR_RECORD (R363). -/
  | mirrorRecord (seq : Nat) (placed : Nat) (r : Req)
  /-- MIRROR_ACK (R361). -/
  | mirrorAck (placed : Nat) (refused : Nat)
  /-- RECORD_HOLD_EXPIRY (R363). -/
  | recordHoldExpiry (seq : Nat)
  /-- PAIR_BEAT (R364). -/
  | pairBeat (n : Port) (b : Beat)
  /-- PAIR_BEAT_TIMER (R364). -/
  | pairBeatTimer
  /-- BEAT_TIMEOUT (R365). -/
  | beatTimeout
  /-- REBUILD (R368). -/
  | rebuild
  /-- ABANDON_REBUILD (R380). -/
  | abandonRebuild
  /-- FENCE (R371). -/
  | fence
  /-- PROBATION (R371). -/
  | probation
  /-- LIFT (R371). -/
  | lift (epoch : Nat)
  /-- LEASE_EXPIRY (R371). -/
  | leaseExpiry
  /-- LEASE_RENEWAL (R371). -/
  | leaseRenewal (epoch : Nat)
  /-- LEASE_WRITE (R575). -/
  | leaseWrite (us : Nat)
  /-- ORPHAN_MARK (R373). -/
  | orphanMark (comp : Nat) (bucket : Nat)
  /-- ORPHAN_CLEAR (R373). -/
  | orphanClear (comp : Nat) (bucket : Nat)
  /-- WATCHDOG_EXPIRY (R377). -/
  | watchdogExpiry (k : Stw)
  /-- STEWARD_RESTARTED (R377). -/
  | stewardRestarted (k : Stw)
  /-- BID (R386). -/
  | bid (node : Nat) (group : Nat) (ceiling : Nat) (epoch : Nat)
  /-- BID_TIMER (R383). -/
  | bidTimer
  /-- LEADER_EVALUATE (R386). -/
  | leaderEvaluate
  /-- TIDE_PREPARE (R388). -/
  | tidePrepare (group : Nat) (epoch : Nat) (tempo : Nat) (boundary : Nat)
  /-- READY (R387). -/
  | ready (node : Nat) (group : Nat) (epoch : Nat)
  /-- TIDE_REFUSE (R387). -/
  | tideRefuse (node : Nat) (group : Nat) (epoch : Nat) (reason : Nat)
  /-- TIDE_COMMIT (R388). -/
  | tideCommit (group : Nat) (epoch : Nat) (tempo : Nat) (boundary : Nat)
  /-- CANCEL (R388). -/
  | cancel (group : Nat) (epoch : Nat)
  /-- TIDE_DONE (R387). -/
  | tideDone (node : Nat) (group : Nat) (epoch : Nat)
  /-- TIDE_RESEND (R387). -/
  | tideResend (node : Nat)
  /-- PROPOSAL_CUTOFF (R387). -/
  | proposalCutoff
  /-- PTP_MESSAGE (R389). -/
  | ptpMessage (m : PtpMsg)
  /-- POWER_ESTIMATE (R390). -/
  | powerEstimate (compute : Nat) (memory : Nat) (links : Nat) (tempoFit : Nat) (concFit : Nat) (floor : Nat)
  /-- POWER_CALIBRATION (R567). -/
  | powerCalibration (answers : Nat) (watts : List Nat)
  /-- THROTTLE_RELEASE (R391). -/
  | throttleRelease
  /-- POWER_CAP_WRITE (R390). -/
  | powerCapWrite (watts : Nat)
  /-- DROOP (R394). -/
  | droop (t : Tile) (det : Fin 64) (mv : Nat)
  /-- DROOP_CLEAR (R395). -/
  | droopClear (t : Tile)
  /-- DROOP_LONG (R396). -/
  | droopLong (t : Tile)
  /-- GAUGE_READING (R397). -/
  | gaugeReading (margins : List Int) (temps : List Nat)
  /-- THERMAL_TICK (R399). -/
  | thermalTick (tileTemps : List Int) (stackTemps : List Int)
  /-- THERMAL_RECOVERY_TICK (R399). -/
  | thermalRecoveryTick (tileTemps : List Int) (stackTemps : List Int)
  /-- DAMP_IDLE_EXPIRY (R401). -/
  | dampIdleExpiry (p : Pol)
  /-- DRY_IDLE_EXPIRY (R401). -/
  | dryIdleExpiry (p : Pol)
  /-- POLDER_WAKE (R401). -/
  | polderWake (p : Pol)
  /-- SLEEP_AUTOMATIC (R401). -/
  | sleepAutomatic (p : Pol)
  /-- HOLD_WET (R401). -/
  | holdWet (p : Pol)
  /-- HOLD_DAMP (R401). -/
  | holdDamp (p : Pol)
  /-- HOLD_DRY (R401). -/
  | holdDry (p : Pol)
  /-- AUTOMATIC_SLEEP_WRITE (R401). -/
  | automaticSleepWrite (on : Bool)
  /-- NONCE (R411). -/
  | nonce (nonce : Nat)
  /-- REPORT_STANDS (R411). -/
  | reportStands (signature : Nat)
  /-- ENVELOPE_WEIGHT_KEY (R414). -/
  | envelopeWeightKey (e : Envelope)
  /-- ENVELOPE_JOB_KEY (R414). -/
  | envelopeJobKey (e : Envelope)
  /-- ENVELOPE_SESSION_KEYS (R414). -/
  | envelopeSessionKeys (e : Envelope)
  /-- SWITCH_GENERATION (R421). -/
  | switchGeneration
  /-- ERASE_GENERATION_0 (R437). -/
  | eraseGeneration0
  /-- ERASE_GENERATION_1 (R437). -/
  | eraseGeneration1
  /-- ERASE_SLOT (R437). -/
  | eraseSlot
  /-- BREACH (R432). -/
  | breach (source : Nat)
  /-- SIGNATURE_RECHECK (R410). -/
  | signatureRecheck (ok : Bool)
  /-- ENTROPY_FAILURE (R404). -/
  | entropyFailure
  /-- POLICY_LOCK (R435). -/
  | policyLock
  /-- BREACH_LEVEL_WRITE (R435). -/
  | breachLevelWrite (source : Nat) (level : Nat)
  /-- CONFIDENTIAL_START (R428). -/
  | confidentialStart
  /-- CONFIDENTIAL_END (R428). -/
  | confidentialEnd
  /-- METERING_RECORD_TIMER (R444). -/
  | meteringRecordTimer
  /-- METERING_RECORD (R445). -/
  | meteringRecord (bytes : List Nat)
  /-- COUNTER_CHECKPOINT (R446). -/
  | counterCheckpoint
  /-- CRYSTAL_COMPARE (R447). -/
  | crystalCompare (ppm : Int)
  /-- TENANT_READING (R448). -/
  | tenantReading (t : Tenant) (nonce : Nat)
  /-- LOG_READING (R448). -/
  | logReading (count : Nat) (nonce : Nat)
  /-- READING_STANDS (R448). -/
  | readingStands (signature : Nat)
  /-- IMAGE_LOAD_TIDEGAUGE (R449). -/
  | imageLoadTidegauge (image : List Nat)
  /-- UPDATE_PACKAGE (R450). -/
  | updatePackage (bytes : List Nat) (sigOk : Bool)
  /-- UPDATE_ENABLE_CHANGE (R451). -/
  | updateEnableChange (on : Bool)
  /-- LOG_CLEAR (R454). -/
  | logClear (first : Nat) (count : Nat) (digest : Nat)
  /-- GAUGE_TIME_ADJUSTMENT (R453). -/
  | gaugeTimeAdjustment (ns : Int)
  /-- TENANT_RETIRE (R453). -/
  | tenantRetire (t : Tenant)
  /-- ISLAND_POWER_ON (R447). -/
  | islandPowerOn (keyOk : Bool)
  /-- POWER_ON (R464). -/
  | powerOn
  /-- WARM_RESET (R461). -/
  | warmReset (cause : Nat)
  /-- WARM_RESET_CONTROL (R459). -/
  | warmResetControl
  /-- PERST (R566). -/
  | perst
  /-- SELF_CHECK_COMPLETE (R464). -/
  | selfCheckComplete (rail : Option Nat)
  /-- IDENTITY_DERIVED (R406). -/
  | identityDerived (record : List Nat) (sigOk : Bool) (key : List Nat)
  /-- GAUGE_START_READ (R398). -/
  | gaugeStartRead (margins : List Int)
  /-- TRAINING_COMPLETE (R464). -/
  | trainingComplete (trained : Nat)
  /-- BOOT_DESCRIPTOR (R467). -/
  | bootDescriptor (desc : List Nat) (list : List Nat)
  /-- BUNDLE_WRITE (R466). -/
  | bundleWrite (path : Fin 3) (total : Nat)
  /-- BUNDLE_RECEIVED (R470). -/
  | bundleReceived (b : Bundle)
  /-- STEWARD_READY (R472). -/
  | stewardReady (k : Stw)
  /-- PROGRAMS_LOADED (R473). -/
  | programsLoaded
  /-- PTP_LOCK (R463). -/
  | ptpLock (port : Mgmt) (time : Nat)
  /-- PTP_WAIT_EXPIRY (R464). -/
  | ptpWaitExpiry
  /-- START_STEP_TIMEOUT (R474). -/
  | startStepTimeout (reason : Nat) (detail : Nat)
  /-- BERM_CONTROL (R480). -/
  | bermControl
  /-- WOA_READ (R495). -/
  | woaRead (m : WoaMsg)
  /-- WOA_WRITE (R495). -/
  | woaWrite (m : WoaMsg)
  /-- SEGMENT (R496). -/
  | segment (m : WoaMsg)
  /-- WOA_ACK (R496). -/
  | woaAck (m : WoaMsg)
  /-- WOA_ABORT (R503). -/
  | woaAbort (m : WoaMsg)
  /-- WOA_RETRANSMIT (R497). -/
  | woaRetransmit (client : Nat) (xfer : Nat)
  /-- WOA_IDLE_TIMEOUT (R498). -/
  | woaIdleTimeout (client : Nat) (xfer : Nat)
  /-- H2DPOST (R507). -/
  | h2dpost (m : WoaMsg)
  /-- D2HLEN (R531). -/
  | d2hlen (value : Nat)
  /-- SOURCE_ARRIVAL (R516). -/
  | sourceArrival (x : Source)
  /-- GATHERER_SELECT (R519). -/
  | gathererSelect
  /-- GCLAIM (R525). -/
  | gclaim (k : Stw)
  /-- GCOMPLETE (R516). -/
  | gcomplete (k : Stw) (x : Source)
  /-- GTHRESH (R518). -/
  | gthresh (k : Stw) (value : Fin 16)
  /-- GPEND_SET (R516). -/
  | gpendSet (x : Source)
  /-- GPEND_CLEAR (R516). -/
  | gpendClear (x : Source)
  /-- COMPLETE (R516). -/
  | complete (pf1 : Bool) (x : Source)
  /-- SETPEND_SET (R525). -/
  | setpendSet (pf1 : Bool) (x : Source)
  /-- SETPEND_CLEAR (R525). -/
  | setpendClear (pf1 : Bool) (x : Source)
  /-- SOURCE_SET_PENDING (R527). -/
  | sourceSetPending
  /-- SOURCE_CLEAR_PENDING (R527). -/
  | sourceClearPending
  /-- SOURCE_CONFIGURATION (R520). -/
  | sourceConfiguration (value : Nat)
  /-- SQTAIL (R547). -/
  | sqtail (r : Ring) (tail : Nat)
  /-- SUBMISSION_READ (R539). -/
  | submissionRead (r : Ring) (entry : List Nat) (body : List Nat)
  /-- CQHEAD (R548). -/
  | cqhead (r : Ring) (head : Nat)
  /-- RING_ENABLE (R535). -/
  | ringEnable (r : Ring) (sqBase : Nat) (cqBase : Nat) (rcfg : Nat)
  /-- RING_DISABLE (R535). -/
  | ringDisable (r : Ring)
  /-- RING_DRAINED (R535). -/
  | ringDrained (r : Ring)
  /-- COALESCING_TIMEOUT (R542). -/
  | coalescingTimeout (r : Ring)
  /-- WINDOW_READ (R533). -/
  | windowRead (off : Nat) (len : Nat) (upset : List Nat)
  /-- WINDOW_WRITE (R534). -/
  | windowWrite (off : Nat) (bytes : List Nat)
  /-- DMA_READ_FAILURE (R543). -/
  | dmaReadFailure (d : DmaRead)
  /-- AREA_REGISTER (R544). -/
  | areaRegister (conduit : Bool) (list : Option (List Nat))
  /-- AREA_RELEASE (R544). -/
  | areaRelease (conduit : Bool)
  /-- HOST_LOSS (R549). -/
  | hostLoss
  /-- PF1_RESET (R549). -/
  | pf1Reset
  /-- BUS_MASTER_ENABLE (R549). -/
  | busMasterEnable (on : Bool)
  /-- PWRFAIL (R446). -/
  | pwrfail
  /-- PWRFAIL_RECOVERY (R565). -/
  | pwrfailRecovery
  /-- PWRGOOD_DEASSERT (R565). -/
  | pwrgoodDeassert
  /-- RAIL_EXCURSION (R565). -/
  | railExcursion (rail : Nat) (mv : Nat)
  /-- THERMTRIP (R569). -/
  | thermtrip (tileTemps : List Int) (stackTemps : List Int)
  /-- REGULATOR_POLL (R567). -/
  | regulatorPoll (readings : List Nat) (statuses : List Nat) (answers : Nat)
  /-- MIRROR_RETRY (R363). -/
  | mirrorRetry (seq : Nat)
  /-- NO_ANSWER_TO_OPEN (R303). -/
  | noAnswerToOpen (conduit : Nat)
  /-- STACK_INTERFACE_FAILURE (R369). -/
  | stackInterfaceFailure (p : Pol)
  /-- MANAGEMENT_LINK_CHANGE (R505). -/
  | managementLinkChange (m : Mgmt) (state : Fin 3)
  /-- REQUEST_BODY_READ (R158). -/
  | requestBodyRead (tag : Nat) (bytes : List Nat)
  /-- STEWARD_MEMORY_PARITY_FAILURE (R377). -/
  | stewardMemoryParityFailure (k : Stw)
  /-- PTP_HOLDOVER (R389). -/
  | ptpHoldover
  /-- ICMPV6_MESSAGE (R504). -/
  | icmpv6Message (m : Mgmt) (solicitation : Bool) (ident : Nat)
  /-- MSI_X_MASK_WRITE (R518). -/
  | msiXMaskWrite (pf1 : Bool) (enable : Bool) (functionMask : Bool) (vector : Nat) (masked : Bool)
  /-- ENTROPY_HEALTH_TEST_PASS (R404). -/
  | entropyHealthTestPass
  /-- ISLAND_SUPPLY_OUT_OF_RANGE (R453). -/
  | islandSupplyOutOfRange
  /-- DRIVE_INITIALISATION_TIMEOUT (R261). -/
  | driveInitialisationTimeout (d : Drive)
  deriving DecidableEq, Repr

end Sys2Proof
end

