-- ==== Sys2Proof/Decode.lean ====
section
/-! DEFINITION. The decoder of the table's bits. No row of the table gives bits, so no word spells a command. -/

namespace Sys2Proof

/-- The command that a word of `nbits` bits spells by the table's bits: none, since the block takes commands and has no
encoding of them. DESIGN CHOICE, log entry 129. -/
def decodeTableWord (_nbits _w : Nat) : Option Instr := none

end Sys2Proof
end

