-- ==== Sys2Proof/Config.lean ====
section
/-! DEFINITION. The limits of the part, the values a part carries, and the values that the spec leaves open. -/

namespace Sys2Proof.Config

/-- Frames per stack (R182, 1018h.0F). -/
def framesPerStack : Nat := 0x10C300
/-- Request tags (R23). -/
def tags : Nat := 131072
/-- Sequence descriptors (R187). -/
def descriptors : Nat := 2097152
/-- The serial number of the part (1018h.04, "Per part"). -/
opaque serial : BitVec 32
/-- The management ports' MAC addresses (1E01h.02, "Per part"). -/
opaque mac : Nat → BitVec 48
/-- The security engine's public values: identity key digest and key, package record, transport key and certificate. -/
opaque publicValue : Nat → BitVec 64
/-- A value that the spec leaves open, fresh for each value of the counter. DESIGN CHOICE, log entry 2. -/
opaque freeValue : Nat → BitVec 64
/-- EXP's result within the bound of R110 for an operand. DESIGN CHOICE, log entry 11. -/
opaque expFree : BitVec 32 → BitVec 32
/-- A cryptographic digest of R403 over named data: the model names the data by numbers. DESIGN CHOICE, log entry 12. -/
opaque digest : List Nat → BitVec 512

end Sys2Proof.Config
end

