-- ==== Sys2Proof/Machine/State.lean ====
section
/-! DEFINITION. The state of the block, all of it plain data, the reasons a step can stop, and the state at reset. -/

namespace Sys2Proof.Machine

/-- A keyed list: keys strictly rising, at most one value for a key. -/
abbrev Map (α : Type) := List (Nat × α)

/-- Package power states (R565). -/
inductive Power where
  | off | aon | pump | memory | core | ready | running | failing | down
  deriving DecidableEq, Repr

/-- The lands and package state (R561, R565, R569). `hiZ` is outputs high-impedance. -/
structure Pkg where
  pwr : Power := .ready
  thermtrip : Bool := false
  hiZ : Bool := false
  updEn : Bool := false
  record : List Nat := []
  deriving DecidableEq, Repr

/-- Start states (R464), in the order of the codes of 2000h.01. -/
inductive StartState where
  | rom | identity | margin | training | awaitBundle | verify | stewards | programs | joining | serving | berm
  deriving DecidableEq, Repr

/-- Steward states (2000h.0A). -/
inductive StewardState where
  | off | running | halted
  deriving DecidableEq, Repr

/-- The start sequence, downloads, berm mode and stewards (R459 to R483, R377). `path` is 0 none, 1 PF0, 2 PF1.
`latch` is the breach latch, `timeSet` that device time has been set since power-on (R463), `portsUp` that the fabric ports
are enabled (R464), `total` the bytes that a download will deliver (R576), `fails` the failed-start records (reason, step, detail), `gone` the stewards halted for good.
DESIGN CHOICE, log entry 4. -/
structure Start where
  st : StartState := .rom
  path : Nat := 0
  pulling : Bool := false
  boot : Nat := 0
  total : Nat := 0
  bytes : Nat := 0
  fails : List (Nat × Nat × Nat) := []
  bermCause : Nat := 0
  resetCause : Nat := 1
  latch : Bool := false
  trained : Nat := 0
  loaded : Nat := 0
  stewards : Map StewardState := []
  duty : List Nat := [0, 1, 2, 3]
  restarts : Map (List Nat) := []
  gone : List Nat := []
  timeSet : Bool := false
  portsUp : Bool := false
  identity : Bool := false
  entropyOk : Bool := true
  bundle : Option Bundle := none
  entered : Nat := 0
  deriving DecidableEq, Repr

/-- Program states of a polder (R84), in the order of the codes of 2410h.01. -/
inductive ProgState where
  | empty | loaded | running | stopping | stopped
  deriving DecidableEq, Repr

/-- Sleep states (R400). -/
inductive SleepState where
  | wet | damp | dry
  deriving DecidableEq, Repr

/-- What sleep control holds (2404h.05). -/
inductive SleepHold where
  | automatic | wet | damp | dry
  deriving DecidableEq, Repr

/-- An entry on a request ring (R125, R254). `frames` is the page list, `query` the BF16 query vectors and `body` the bytes of a write
that R123 delivers with it, `at_` where they arrive, known once its lane is bound; `answers` says that its lane answers for its group
(R31). DEDUCED, log entry 141. -/
structure RingEntry where
  tag : Nat
  gen : Nat := 0
  kind : Nat
  bucket : Nat := 0
  home : Bool := false
  homePolder : Nat := 0
  replay : Bool := false
  attach : Bool := false
  oFmt : Nat := 0
  group : Nat := 0
  seqId : Nat := 0
  layer : Nat := 0
  participants : Nat := 0
  scale : Nat := 0
  limit : Nat := 0
  firstChunk : Nat := 0
  chunkCount : Nat := 0
  pageCount : Nat := 0
  lastValid : Nat := 0
  lastHere : Bool := false
  frames : List Nat := []
  query : List Nat := []
  body : List Nat := []
  at_ : LaneIn := {}
  answers : Bool := false
  attachFrame : Nat := 0
  attachSlot : Nat := 0
  deriving DecidableEq, Repr

/-- A lane's binding (R58 to R63, R138). `checkDetail` is the CHECK_FAIL detail that a taint asks for, 0 for a page frame;
a lane that has reported is free from `freeAt` on. -/
structure Lane where
  entry : RingEntry
  voided : Bool := false
  late : Bool := false
  tainted : Bool := false
  frames : List Nat := []
  checkDetail : Nat := 0
  reported : Bool := false
  freeAt : Nat := 0
  wrote : Bool := false
  deriving DecidableEq, Repr

/-- A wait in progress (R51, R55, R57): the gate, the count, when it began, and its slot's number, lane and deadline. -/
structure Wait where
  gate : Nat
  count : Nat
  began : Nat
  idx : Nat
  lane : Nat := 0
  deadline : Nat := 0
  expired : Bool := false
  deriving DecidableEq, Repr

/-- A polder (R18, R76, R84, R400). `closed` says that a pass has closed and the units idle until a tide boundary, `recorded`
that a fault is recorded and not cleared, `closeCtl` and `closeSleep` what was marked of a quiesce when the pass closed, `damping` and
`drying` that it goes damp at the next barrier and dry once it no longer runs (R401). `gates` and `absorb` are keyed by gate, `lanes` by
lane 1 to 31, `rings` by ring, `buf` by the buffer address of Slots; by class and unit stand `ptr`, the slot a unit is at, `until_`, when
it may begin that slot, `waits`, and `repeats`, the REPEATs it is inside, innermost first: first slot, last slot, runs left.
`barrierUntil` is the end of the pass barrier, `heldStarts` the bank units whose starts a lower ceiling holds, in order (R43), `tileFmt`
the format of each array's tile registers, `busyAt` when an entry of a ring last came or went (R401), `carried` the check words that came with the staged sectors of bank units (R167), `meshIn` what a DMESH under way still puts into the outbound queue. DESIGN CHOICE, log entry 5. -/
structure Polder where
  prog : ProgState := .empty
  image : Option Image := none
  pendingImage : Option Image := none
  hold : Bool := false
  quiesceCtl : Bool := false
  quiesceSleep : Bool := false
  closed : Bool := false
  closeCtl : Bool := false
  closeSleep : Bool := false
  recorded : Bool := false
  faultCode : Nat := 0
  faultLoc : Nat := 0
  faultTime : Nat := 0
  faultCount : Nat := 0
  refusal : Nat := 0
  sleep : SleepState := .wet
  sleepHold : SleepHold := .automatic
  damping : Bool := false
  drying : Bool := false
  down : Bool := false
  gates : Map Nat := []
  absorb : Map Nat := []
  lanes : Map Lane := []
  rings : Map (List RingEntry) := []
  waits : Map Wait := []
  ended : List Nat := []
  computing : Map Nat := []
  ptr : Map Nat := []
  until_ : Map Nat := []
  barrierUntil : Nat := 0
  heldStarts : List Nat := []
  repeats : Map (List (Nat × Nat × Nat)) := []
  buf : Map Nat := []
  active : Map Nat := []
  tileFmt : Map Nat := []
  busyAt : Nat := 0
  carried : Map Nat := []
  outq : Nat := 0
  meshIn : Nat := 0
  xq : List (List Nat) := []
  xtab : Map Nat := []
  steps : Map Nat := []
  weightFrames : Nat := 0
  tailUsed : Nat := 0
  deriving DecidableEq, Repr

/-- The recovery ladder's states of a frame (R352). -/
inductive Health where
  | good | suspect | reread | fetching | rewriting | lost
  deriving DecidableEq, Repr

/-- A frame that holds a page (R186, R352): its header, its reference count (FFFFFFh pinned), the ladder's state
with the sequence it runs under, whether it is a sweep candidate (R201), whether its ladder runs for the partner's
fetch and cannot fetch back (R357), and when its own fetch went out. -/
structure Frame where
  hdr : PageHdr
  count : Nat
  health : Health := .good
  ladderSeq : Nat := 0
  candidate : Bool := false
  noFetch : Bool := false
  since : Nat := 0
  deriving DecidableEq, Repr

/-- Sequence states (R187), in the order of the codes 01h to 06h. -/
inductive SeqState where
  | active | spilling | spilled | flushing | flushed | restoring
  deriving DecidableEq, Repr

/-- A leaf entry (R189): a frame number or spill slot, and the location 0 none, 1 T1, 2 T2, 3 lost. -/
structure Leaf where
  val : Nat
  loc : Nat
  deriving DecidableEq, Repr

/-- A page held in T2 or T3 (R230, R240): its page header, its record as the device wrote it there, the recorded frame of a shared record
(0 none), whether it is lost, and the block of its image that its record begins in. DESIGN CHOICE, log entry 49. -/
structure Stored where
  hdr : PageHdr
  data : List Nat := []
  shared : Nat := 0
  lost : Bool := false
  block : Nat := 0
  deriving DecidableEq, Repr

/-- A sequence descriptor (R187) with its counts and leaf entries. `stored` holds what T2 or T3 holds by page key, `moving` the
frames that a restore fills, `taken` the frames that it re-references (R215), both with their keys. `reserved` is what a move under way holds in its
destination tier, `mover` the tag of the request that started it (none for an automatic move), `drive` and `extents` the place of a T3 image in list order,
`written` how far its writing is: 0 Writes are under way, 1 a Flush of the drive's cache, 2 done (R237), `since` when its drive's present commands went
out (R236). DESIGN CHOICE, log entry 49. -/
structure Seq where
  binding : Nat
  base : Nat
  st : SeqState := .active
  prior : SeqState := .active
  counts : List Nat := []
  leaves : Map Leaf := []
  parent : Nat := 0
  t2 : Nat := 0
  t3 : Nat := 0
  lastUse : Nat := 0
  reserved : Nat := 0
  mover : Option Nat := none
  drive : Nat := 0
  extents : List Nat := []
  written : Nat := 0
  since : Nat := 0
  stored : Map Stored := []
  moving : List (Nat × Nat) := []
  taken : List (Nat × Nat) := []
  deriving DecidableEq, Repr

/-- Where a request stands: held for its turn, its body awaited, running, its mirror records under way, its move under way. -/
inductive Phase where
  | held | body | running | mirror | move | recover
  deriving DecidableEq, Repr

/-- A request that holds a tag (R23). `order` is its place in admission order, `t1` the frames reserved (R209), `plan` the frames that its checks reserved and it has not taken (R160): each one's polder, and whether of the tail
reserve, `writes`
the page keys with the fresh frame and the old tail frame (R165, R168), `outstanding` the lanes yet to report,
`reports` what they reported (a status code with its detail, or with the polder for LATE), `tainted` the frames they met
(R138), `claimed` that its mirror records are under way (R361), `results` the result bytes that the lanes which answer reported, by
group times 8 plus polder, `written` the fresh frames whose write is done, `attn` and `respan` a PREFILL's byte 25 and r, `lostKeys` the pages
that a restore found lost (R216), `since` when it was admitted. -/
structure Request where
  gen : Nat
  src : Src
  hdr : BitVec 256
  kind : Nat
  seqId : Nat
  layer : Nat
  order : Nat
  phase : Phase
  isWrite : Bool := false
  checked : Bool := false
  tokens : Nat := 0
  firstHead : Nat := 0
  heads : Nat := 0
  base : Nat := 0
  limit : Nat := 0
  bucket : Nat := 0
  t1 : Nat := 0
  plan : List (Nat × Bool) := []
  writes : List (Nat × Nat × Nat) := []
  outstanding : Nat := 0
  reports : List (Nat × Nat) := []
  tainted : List Nat := []
  replayed : Bool := false
  lastRecord : Nat := 0
  bodyKey : Nat := 0
  bodyLen : Nat := 0
  body : List Nat := []
  claimed : Bool := false
  results : Map (List Nat) := []
  written : List Nat := []
  attn : Nat := 0
  respan : Nat := 0
  lostKeys : List Nat := []
  since : Nat := 0
  replyAt : Nat := 0
  entryCtr : Nat := 0
  deriving DecidableEq, Repr

/-- A request kept for the abort window after it completed (R220). -/
structure Kept where
  tag : Nat
  gen : Nat
  src : Src
  seqId : Nat
  time : Nat
  deriving DecidableEq, Repr

/-- A tombstone (R220) with the tags of the ABORTs that wait on it. -/
structure Tombstone where
  src : Src
  seqId : Nat
  waiters : List Nat
  since : Nat
  deriving DecidableEq, Repr

/-- A request held at check 3 (R316): the table's row that holds it and when it arrived. -/
structure ChartHold where
  req : Req
  comp : Nat
  order4 : Bool
  since : Nat
  deriving DecidableEq, Repr

/-- A PREFILL body being received (R158, R159): its ranges present. -/
structure Body where
  tag : Nat
  len : Nat
  ranges : List (Nat × Nat) := []
  source : Nat := 0
  frames : List Nat := []
  deriving DecidableEq, Repr

/-- An array's weight share of a layer (R144, R150, R152): its layer, its array (polder times 2 plus array), its coded bytes, and where it
stands: 1 resident in T1, in `places`, frames of its polder's stack; 2 in T2, from the spill block in `places`; 3 in T3, in `places`, extents
of `drive`. `seals` are the tags and serials of its sealed runs in T2 (R425). -/
structure Share where
  layer : Nat
  array : Nat
  coded : Nat
  tier : Nat
  places : List Nat := []
  drive : Nat := 0
  seals : List (Nat × Nat) := []
  deriving DecidableEq, Repr

/-- What a binding holds of its weight set (R144 to R153, R417): its declared weight and activation formats (R148), the polders that hold a
share, the shares in layer order, its static tables, its key. -/
structure Weights where
  loaded : Bool := false
  loading : Bool := false
  serial : Nat := 0
  hasQ : Bool := false
  wFmt : Nat := 3
  aFmt : Nat := 3
  polders : List Nat := []
  shares : List Share := []
  tables : Nat := 0
  key : Option Nat := none
  intact : Bool := false
  digest : Nat := 0
  deriving DecidableEq, Repr

/-- A tenant's committed charges and reservations in T1 (frames), T2 and T3 (blocks) (R208, R209). -/
structure Charges where
  t1 : Nat := 0
  t2 : Nat := 0
  t3 : Nat := 0
  r1 : Nat := 0
  r2 : Nat := 0
  r3 : Nat := 0
  deriving DecidableEq, Repr

/-- The recount sweep (R202): whether it runs, over every pinned page or the candidates, and its journal. -/
structure Sweep where
  running : Bool := false
  all : Bool := false
  journal : List (Nat × Int) := []
  deriving DecidableEq, Repr

/-- Drive states (2910h.01). -/
inductive DriveState where
  | absent | initialising | ready | refused | withdrawn | offline
  deriving DecidableEq, Repr

/-- A drive position (R234 to R236, R261): the sequences whose images it holds, the binding of each weight share it holds, its extents, those in
use and those deallocated since the start, its volatile write cache, its link, its health log's percentage used. -/
structure DriveSt where
  st : DriveState := .absent
  reason : Nat := 0
  timeouts : Nat := 0
  images : List Nat := []
  weights : List Nat := []
  total : Nat := 0
  used : List Nat := []
  cleared : List Nat := []
  cache : Bool := false
  link : Nat := 0
  wear : Nat := 0
  deriving DecidableEq, Repr

/-- Port states (R277), in the order of the codes of 2510h.01. -/
inductive PortState where
  | disabled | training | pcsUp | hello | active | hold
  deriving DecidableEq, Repr

/-- A fabric port (R265, R275 to R281). Counts of units are per class, kept modulo 2 to the 32. `held` are received
packets that wait in the ingress buffer for reassembly room (R296, R311); port number 12 stands for those whose port has left
ACTIVE since, and for what this device sends to itself (R285). `ctl` are the link-control frames that wait for the next packet to leave, `ctlSent`
that one has left since the last packet (R275), `inFrame` the packets in the 400GMII frame it has open, `rxLost` that the rest of
the frame it receives is discarded (R265), `lastRx` when a valid frame or packet last came (R279), `since` when it entered TRAINING or PCS_UP. -/
structure PortSt where
  st : PortState := .disabled
  nbr : Option Hello := none
  hellos : Nat := 0
  heard : Bool := false
  holdMs : Nat := 0
  lastHold : Option Nat := none
  activeSince : Nat := 0
  granted : List Nat := []
  consumed : List Nat := []
  rxGranted : List Nat := []
  rxConsumed : List Nat := []
  returned : List Nat := []
  seq : Nat := 0
  held : List Packet := []
  ctl : List Packet := []
  ctlSent : Bool := false
  inFrame : Nat := 0
  rxLost : Bool := false
  lastRx : Nat := 0
  since : Nat := 0
  deriving DecidableEq, Repr

/-- A reassembly context (R295): the message length, its kind, kind word, source polder select and key slot, the ranges placed and their bytes by
offset, when it opened. -/
structure Context where
  source : Nat
  msg : Nat
  total : Nat
  kind : Nat
  kindWord : Nat
  sel : Nat := 15
  slot : Nat := 0
  ranges : List (Nat × Nat) := []
  parts : Map (List Nat) := []
  opened : Nat
  deriving DecidableEq, Repr

/-- Conduit states (2701h.02). -/
inductive ConduitState where
  | closed | opening | ready | error
  deriving DecidableEq, Repr

/-- A numbered message of a conduit or of the pair that is not yet placed (R308, R363): its operation, the bytes after its conduit or mirror
header, what it names (a sequence, or the tag that waits on a record), its operation word, its transmissions, its message identifier, a bit for each port
that a packet of the latest transmission left by, when the last packet left, and the packets that have yet to leave. -/
structure SentMsg where
  op : Nat := 0
  body : List Nat
  what : Nat := 0
  word : Nat := 0
  tries : Nat := 0
  msg : Nat := 0
  ports : Nat := 0
  last : Nat := 0
  left : Nat := 0
  deriving DecidableEq, Repr

/-- A conduit end (R300 to R309, R326). `writes` is the serial of its record's last eviction (R425). -/
structure Conduit where
  st : ConduitState := .closed
  node : Nat := 0
  peer : Nat := 0
  clsKey : Nat := 3
  window : Nat := 16
  grant : Nat := 512
  next : Nat := 1
  placed : Nat := 0
  gen : Nat := 0
  granted : Nat := 0
  used : Nat := 0
  unplaced : Map SentMsg := []
  rxPlaced : Nat := 0
  rxMap : Nat := 0
  rxGrant : Nat := 0
  reason : Nat := 0
  closing : Bool := false
  tries : Nat := 0
  onDie : Bool := true
  writes : Nat := 0
  use : Nat := 0
  deriving DecidableEq, Repr

/-- Chart states (2440h.02). -/
inductive ChartState where
  | idle | proposing | prepared | transferring
  deriving DecidableEq, Repr

/-- The source's side of a transfer (R317, R368): its conduit once it is open, the sequences still to go in order, whether the
copy of the first has been sent, its freeze with the place it takes in the sequence's order, when that was, whether its SEAL is sent, and
what was sent by sequence, page key and frame. -/
structure Transfer where
  conduit : Option Nat := none
  todo : List Nat := []
  copied : Bool := false
  freeze : Option Nat := none
  frozenAt : Nat := 0
  sealing : Bool := false
  sent : List (Nat × Nat × Nat) := []
  deriving DecidableEq, Repr

/-- A page that a transfer has staged here (R317 to R319): its location 1 with a frame or 2 with a spill-map index. -/
structure Staged where
  seqId : Nat
  key : Nat
  loc : Nat
  val : Nat
  pinned : Bool
  stored : Option Stored := none
  deriving DecidableEq, Repr

/-- What a conduit has staged: pages, the frame of each handle, and the sequences for which room was refused. -/
structure Stage where
  pages : List Staged := []
  handles : Map Nat := []
  bad : List Nat := []
  deriving DecidableEq, Repr

/-- An entry of the chart in transit at this device (R317 to R320): in or out, the other node, the sequences sealed here or there,
those stranded at the source, the source's transfer, and whether its BUCKET_DONE has been sent. -/
structure Transit where
  inbound : Bool
  peer : Nat
  sealed_ : List Nat := []
  stranded : List Nat := []
  move : Transfer := {}
  ended : Bool := false
  deriving DecidableEq, Repr

/-- A composition record (R314, R322 to R327). Charts keep entry index to entry; an entry not listed is 0 (no owner). `chartLen`
and `pendLen` are the entries that the current chart and the fault manager's pending chart hold, `prep` is the chart that an
epoch under way makes current, `boundary` its commit boundary; `resend` and `sentTo` the wait in microseconds of the message that awaits a member's
answer and when it last went (R324). -/
structure Chart where
  st : ChartState := .idle
  epoch : Nat := 0
  chart : Map Nat := []
  chartLen : Nat := 0
  pend : Map Nat := []
  pendLen : Nat := 0
  prep : Map Nat := []
  pendEpoch : Nat := 0
  proposer : Nat := 0
  members : List Nat := []
  answered : List Nat := []
  boundary : Option Nat := none
  committed : List Nat := []
  committedAt : Nat := 0
  transit : Map Transit := []
  stranded : List (Nat × Nat) := []
  resend : Map Nat := []
  sentTo : Map Nat := []
  deriving DecidableEq, Repr

/-- A unit of work waiting in a scheduler's class (R328): its length, its tenant (none for the system queue or a
bypass of the upper level), whether it is sourced, its flow, its packet, the port it came by, and whether that port has left ACTIVE since, so
that its units return no more. DESIGN CHOICE, log entry 60. -/
structure Work where
  len : Nat
  tenant : Option Nat := none
  sourced : Bool := false
  flow : Nat := 0
  pkt : Option Packet := none
  inPort : Option Nat := none
  stale : Bool := false
  deriving DecidableEq, Repr

/-- A bucket of rate and depth (R332, R339): its content in thousandths of a byte and when it was last filled. -/
structure Bucket where
  level : Nat
  at_ : Nat := 0
  deriving DecidableEq, Repr

/-- The schedulers (R328 to R343). Queues, deficits and ceilings are keyed by resource number times 8 plus class,
`visit` by resource; `upper` queues by class and tenant; `vtime` by class and tier, `tags` by class, tier and tenant,
`inTier` the keys that hold a head; `fvtime` by class and tenant, `ftags` by class, tenant and flow. `waiting` are the
packets that wait for an eligible primary hop with units (R286). -/
structure Sched where
  queues : Map (List Work) := []
  waiting : List (Nat × Work) := []
  deficit : Map Nat := []
  visit : Map Nat := []
  ceil : Map Bucket := []
  upper : Map (List Work) := []
  vtime : Map Nat := []
  tags : Map Nat := []
  inTier : List Nat := []
  fvtime : Map Nat := []
  ftags : Map Nat := []
  committed : Map Bucket := []
  peak : Map Bucket := []
  deriving DecidableEq, Repr

/-- Pair states (2C10h.01). -/
inductive PairState where
  | off | forming | paired | soleOwner | detached | rebuilding
  deriving DecidableEq, Repr

/-- The redundant pair (R357 to R368). `unplaced` are the records sent and not yet placed, with the tag that waits and
the transmissions; `heldRecs` are received records held for their turn or for a resource, `lacking` the one that a resource lacks, with the time from
which it has; `mode` is the pair mode in effect (R292). -/
structure Pair where
  mode : Bool := false
  st : PairState := .off
  partner : Nat := 0
  conduit : Nat := 0
  beatSeq : Nat := 0
  lastBeat : Option Beat := none
  lastAt : Nat := 0
  down : Nat := 0
  next : Nat := 1
  placed : Nat := 0
  unplaced : Map SentMsg := []
  sent : Nat := 0
  rxPlaced : Nat := 0
  heldRecs : Map Req := []
  lacking : Option (Nat × Nat) := none
  cause : Nat := 0
  move : Transfer := {}
  rebuilt : List Nat := []
  receiving : Bool := false
  deriving DecidableEq, Repr

/-- Fence states (2C20h.03). -/
inductive FenceState where
  | live | fenced | probation
  deriving DecidableEq, Repr

/-- Fence epoch, lease and state (R370, R371, R575). -/
structure Fence where
  epoch : Nat := 0
  lease : Nat := 0
  from_ : Nat := 0
  st : FenceState := .live
  deriving DecidableEq, Repr

/-- An entry of the steward event log (R376). -/
structure LogEntry where
  time : Nat
  code : Nat
  cls : Nat := 0
  unit : Nat := 0
  count : Nat := 0
  data : Nat := 0
  deriving DecidableEq, Repr

/-- The steward event log: newest first, at most 1 048 576 entries. -/
structure EvLog where
  entries : List LogEntry := []
  written : Nat := 0
  lost : Nat := 0
  deriving DecidableEq, Repr

/-- A tide proposal or commit: epoch, tempo, boundary (R385). -/
structure Tide where
  epoch : Nat
  tempo : Nat
  boundary : Nat
  deriving DecidableEq, Repr

/-- Tempo and the tide protocol (R382 to R388). -/
structure Tempo where
  cur : Nat := 1000
  epoch : Nat := 0
  pend : Option Tide := none
  commit : Option Tide := none
  proposal : Option Tide := none
  ready : List Nat := []
  bids : Map Nat := []
  last : Option Tide := none
  done : List Nat := []
  highest : Nat := 0
  above : Option Nat := none
  members : Map Nat := []
  sentAt : Map Nat := []
  deriving DecidableEq, Repr

/-- The power governor (R390 to R393): the last estimates newest first, the cap ceiling, the concurrency ceiling of a memory
throttle and that of an absorption, what the last estimate says would fit the cap, and the highest average seen. `paused` are
the classes it pauses; `rails` the rails it calibrates from. -/
structure PowerGov where
  compute : Nat := 0
  memory : Nat := 0
  links : Nat := 0
  recent : List Nat := []
  capCeil : Option Nat := none
  concCeil : Nat := 512
  absorb : Option Nat := none
  tempoFit : Nat := 1400
  concFit : Nat := 512
  floor : Nat := 0
  highest : Nat := 0
  paused : List Nat := []
  overSince : Option Nat := none
  rails : Map Nat := []
  deriving DecidableEq, Repr

/-- A compute tile's droop state (R394 to R396): detectors low, the tempo when it began, when it began, whether logged. -/
structure TileSt where
  droop : Bool := false
  low : List Nat := []
  tempo : Nat := 0
  began : Nat := 0
  logged : Bool := false
  last : Nat := 0
  deriving DecidableEq, Repr

/-- Thermal and margin governors (R397 to R399). Temperatures are in 0.1 degree C. `deferred` is a gauge reading put off by a droop.
DESIGN CHOICE, log entry 7. -/
structure Thermal where
  ceiling : Nat := 1400
  stackCeil : Map Nat := []
  gaugeCeil : Nat := 1400
  trim : Nat := 0
  margins : List Int := []
  temps : List Nat := []
  tiles : List Int := []
  stackTemps : List Int := []
  deferred : Bool := false
  rampFrom : Nat := 0
  rampUntil : Nat := 0
  deriving DecidableEq, Repr

/-- PTP (R389): 0 unsynchronised, 1 and 2 locked through M0 and M1; the offset still to slew. -/
structure Ptp where
  st : Nat := 0
  offset : Int := 0
  slew : Int := 0
  deriving DecidableEq, Repr

/-- A job key slot (R418 to R421): its two generations, the sending one, the identifiers drawn. -/
structure JobSlot where
  gen0 : Option (Nat × Nat) := none
  gen1 : Option (Nat × Nat) := none
  sending : Bool := false
  drawn : Nat := 0
  deriving DecidableEq, Repr

/-- A measurement entry (R408). -/
structure Meas where
  kind : Nat
  index : Nat := 0
  ident : Nat := 0
  time : Nat := 0
  digest : Nat := 0
  deriving DecidableEq, Repr

/-- An attestation report (R411). -/
structure Report where
  nonce : Nat
  time : Nat
  count : Nat
  meas : Map Meas
  flags : Nat := 0
  level : Nat := 255
  node : Nat := 0
  sig : Nat := 0
  deriving DecidableEq, Repr

/-- The security engine (R403 to R437). `storeKey` holds the storage keys, GCM's 32 bytes and then XTS's 64, `writeSerial` the serial of the last
sealed write (R426). -/
structure Sec where
  identityKey : Bool := false
  transportKey : Bool := false
  storageKeys : Bool := false
  slots : Map JobSlot := []
  session : Option (Nat × Nat) := none
  meas : Map Meas := []
  count : Nat := 0
  pending : Option Report := none
  report : Option Report := none
  acted : Option Nat := none
  locked : Bool := false
  conf : Bool := false
  msgId : Nat := 0
  storeKey : Nat := 0
  writeSerial : Nat := 0
  envResult : Nat := 0
  deriving DecidableEq, Repr

/-- The metering aggregator (R444): sums by tenant times 8 plus kind, charges last reported, record sequence, records on
their way to Tidegauge. -/
structure Meter where
  sums : Map Nat := []
  reported : Map Nat := []
  seq : Nat := 0
  queue : List MRecord := []
  deriving DecidableEq, Repr

/-- Tidegauge states (5000h.01). -/
inductive GaugeState where
  | awaiting | running | readOnly | halted | mismatch
  deriving DecidableEq, Repr

/-- An entry of Tidegauge's event log (R452). -/
structure GEntry where
  seq : Nat
  time : Nat
  code : Nat
  data : Nat := 0
  deriving DecidableEq, Repr

/-- A reading (R448): a snapshot. `first` and the entries are a log reading's; `next`, `unlogged`, `epoch`, `version` and `image`
stand as they stood at the snapshot. -/
structure Reading where
  kind : Nat
  tenant : Nat
  nonce : Nat
  time : Nat
  device : Nat
  lastRec : Nat
  counters : List Nat := []
  residue : Nat := 0
  first : Nat := 0
  entries : List GEntry := []
  next : Nat := 0
  unlogged : Nat := 0
  epoch : Nat := 0
  version : Nat := 0
  image : Nat := 0
  flags : Nat := 0
  digest : Nat := 0
  sig : Nat := 0
  deriving DecidableEq, Repr

/-- A counter checkpoint in the sealed store (R439, R446): counters, residues, charges with their unit residues, gauge time and
the last applied record. -/
structure Checkpoint where
  counters : Map Nat := []
  residue : Map Nat := []
  charge : Map Nat := []
  frac : Map Nat := []
  time : Nat := 0
  lastRec : Nat := 0
  deriving DecidableEq, Repr

/-- Tidegauge (R438 to R458). Counters are keyed by tenant times 8 plus 1 to 6 (R441), `residue` is the attended
remainder, `charge` the level being integrated with `since` the gauge time it began, `frac` the unit residue. `clean` says that
the last shutdown left a checkpoint. DESIGN CHOICE, log entry 9. -/
structure Gauge where
  st : GaugeState := .awaiting
  version : Nat := 0
  digest : Nat := 0
  approvedVersion : Nat := 0
  approvedDigest : Nat := 0
  pendVersion : Nat := 0
  pendDigest : Nat := 0
  counters : Map Nat := []
  residue : Map Nat := []
  charge : Map Nat := []
  since : Map Nat := []
  frac : Map Nat := []
  time : Nat := 0
  lastRec : Nat := 0
  epochs : Map Nat := []
  log : List GEntry := []
  next : Nat := 1
  unlogged : Nat := 0
  asked : Option Reading := none
  reading : Option Reading := none
  exported : List (Nat × Nat × Nat) := []
  signed : Nat := 0
  sealed_ : Bool := false
  update : Nat := 0
  checkpoint : Checkpoint := {}
  clean : Bool := true
  keyOk : Bool := true
  deriving DecidableEq, Repr

/-- A segmented transfer (R496): its direction, object, size and value, the acknowledged offset, how far its segments have been
sent, the path of the latest client message, the rounds without progress (R497), the ranges placed of a write with the segments
placed since its last ACK, and whether S0 was restarted meanwhile (R377). -/
structure Xfer where
  write : Bool
  key : Nat
  total : Nat
  value : Nat := 0
  acked : Nat := 0
  sent : Nat := 0
  path : Nat
  rounds : Nat := 0
  ranges : List (Nat × Nat) := []
  placed : Nat := 0
  broken : Bool := false
  heard : Nat := 0
  since : Nat := 0
  deriving DecidableEq, Repr

/-- What the device puts out, as the rules name it. The state keeps it newest first. DEDUCED, log entry 126. -/
inductive Out where
  | completion (src : Src) (tag gen status detail : Nat) (body : List Nat) (at_ replyAt : Nat) (data : List Nat)
  | hostWrite (addr : Nat) (bytes : List Nat)
  | partials (tag : Nat) (bytes : List Nat)
  | segment (tag : Nat) (bytes : List Nat)
  | msix (pf1 : Bool) (vector : Nat)
  | packet (port : Nat) (k : Packet)
  | frameEnd (port : Nat)
  | errorEnd (port : Nat)
  | delivered (source sel msg kind kindWord slot : Nat) (bytes : List Nat)
  | work (resource len : Nat)
  | conduit (number op seq word : Nat)
  | entry (conduit seq how : Nat)
  | chart (comp op node epoch word : Nat)
  | tide (op node epoch tempo boundary : Nat)
  | record (seq tag : Nat)
  | recordAck (placed refused : Nat)
  | woa (path : Nat) (bytes : List Nat)
  | window (off : Nat) (bytes : List Nat) (failed : List Nat)
  | unsupported (off : Nat)
  | reg (agent off value : Nat)
  | nvme (drive op : Nat)
  | flashWrite (drive : Nat) (units : List (Nat × List Nat))
  | avs (mv : Nat)
  | pmbus (cmd : Nat)
  | icmp (port kind ident : Nat)
  | outcome (word : Nat)
  deriving DecidableEq, Repr

/-- WOA (R493 to R507): open transfers by client times 65 536 plus transfer, the kept responses of writes (transfer, object, time;
newest first), the mailbox: the message in H2DBUF that S0 has not taken, D2HLEN, the messages that wait for D2HBUF; and the
management ports' links as last reported. -/
structure Woa where
  xfers : Map Xfer := []
  kept : List (Nat × Nat × Nat) := []
  h2d : Option WoaMsg := none
  d2h : Nat := 0
  waiting : List (Out × Nat) := []
  links : Map Nat := []
  deriving DecidableEq, Repr

/-- A gatherer source (R515, R516). Routes are 0 to 3 for S0 to S3, 4 for PF0, 5 for PF1. `held` is the priority at
which the route took it, `nextMode` a mode that waits for the next IDLE (R526), `selected` when it was last selected (R521). -/
structure GSource where
  enable : Bool := false
  pending : Bool := false
  active : Bool := false
  route : Option Nat := none
  prio : Nat := 0
  mask : Nat := 0
  rearm : Bool := false
  vector : Nat := 0
  count : Nat := 0
  last : Nat := 0
  deliveries : Nat := 0
  nextMode : Option Bool := none
  held : Nat := 0
  selected : Nat := 0
  deriving DecidableEq, Repr

/-- A function's MSI-X state (R518): the capability's enable, the function mask, and the vectors whose mask bit is clear. -/
structure MsiX where
  enable : Bool := false
  functionMask : Bool := false
  unmasked : List Nat := []
  deriving DecidableEq, Repr

/-- The event gatherer (R513 to R527): sources, claim queues and thresholds of the stewards, MSI-X of PF0 (0) and PF1 (1). -/
structure Gatherer where
  sources : Map GSource := []
  claim : Map (List Nat) := []
  thresh : Map Nat := []
  msix : Map MsiX := []
  deriving DecidableEq, Repr

/-- A ring pair (R531, R535 to R550). `st` is 0 disabled, 1 enabled, 2 draining, 3 error. `reserved` counts the entries
read and not yet completed, `unread` the completions that the host has not consumed, `unsig` the completions since the ring's last arrival and
`unsigAt` when the first of them was written. -/
structure RingSt where
  st : Nat := 0
  err : Nat := 0
  sqBase : Nat := 0
  cqBase : Nat := 0
  rcfg : Nat := 0
  sqTail : Nat := 0
  sqHead : Nat := 0
  cqHead : Nat := 0
  cqTail : Nat := 0
  phase : Bool := true
  reserved : Nat := 0
  unread : Nat := 0
  unsig : Nat := 0
  unsigAt : Nat := 0
  counter : Nat := 0
  outCounter : Nat := 0
  deriving DecidableEq, Repr

/-- A registered area of host memory (R544). -/
structure Area where
  st : Nat := 0
  reason : Nat := 0
  bytes : Nat := 0
  regions : List (Nat × Nat) := []
  deriving DecidableEq, Repr

/-- The host link (R544, R549), the spill area's allocation (R229, R232), the tag table's tags and serials by spill-map index (R426), and the DMA
writes that wait for Bus Master Enable.
PRESUMED, log entry 10. -/
structure HostLink where
  master : Bool := false
  spill : Area := {}
  conduit : Area := {}
  spillMap : Map (Nat × Nat) := []
  seals : Map (Nat × Nat) := []
  waiting : List Out := []
  deriving DecidableEq, Repr

/-- The state of the block. -/
structure State where
  pending : List Instr := []
  freeCtr : Nat := 0
  time : Nat := 0
  pkg : Pkg := {}
  start : Start := {}
  regs : Map Nat := []
  polders : Map Polder := []
  mem : List Host.Cell := []
  sideband : Map Nat := []
  frames : Map Frame := []
  retired : List Nat := []
  seqs : Map Seq := []
  sweep : Sweep := {}
  moveFails : Nat := 0
  lostSeqs : List Nat := []
  lostHere : List Nat := []
  orphans : List (Nat × Nat) := []
  reqs : Map Request := []
  gens : Map Nat := []
  orderCtr : Nat := 0
  kept : List Kept := []
  tombs : List Tombstone := []
  holds : Map ChartHold := []
  bodies : Map Body := []
  bodyHeld : Option Nat := none
  weights : Map Weights := []
  charges : Map Charges := []
  drives : Map DriveSt := []
  ports : Map PortSt := []
  routes0 : Map Nat := []
  routes1 : Map Nat := []
  bank : Bool := false
  routed : Bool := false
  downMarks : Map Nat := []
  downSent : Map Nat := []
  contexts : List Context := []
  conduits : Map Conduit := []
  stage : Map Stage := []
  miss : List Packet := []
  charts : Map Chart := []
  sched : Sched := {}
  pair : Pair := {}
  fence : Fence := {}
  log : EvLog := {}
  tempo : Tempo := {}
  power : PowerGov := {}
  tiles : Map TileSt := []
  thermal : Thermal := {}
  ptp : Ptp := {}
  sec : Sec := {}
  meter : Meter := {}
  gauge : Gauge := {}
  woa : Woa := {}
  gath : Gatherer := {}
  rings : Map RingSt := []
  host : HostLink := {}
  out : List Out := []
  deriving DecidableEq, Repr

/-- Why the block stops with a fault. DESIGN CHOICE, log entry 131. -/
inductive Fault where
  /-- Raised by no meaning: every behaviour that the spec calls a fault is an effect on the state (a contract fault, a
  failed check, a status). Safe: nothing stops. -/
  | none
  deriving DecidableEq, Repr

/-- Why the block refuses a command. -/
inductive Refusal where
  /-- Raised by an arm of Dispatch that has no meaning yet. Safe: nothing is claimed of the command. -/
  | notModelled (mnemonic : String)
  deriving DecidableEq, Repr

/-- The state at power-on reset (R459, R464): every register at its default, every list empty, PWRGOOD about to end the reset.
DESIGN CHOICE, log entry 3. -/
def State.reset : State := {}

end Sys2Proof.Machine
end

