-- ==== Sys2Proof/Machine/Store.lean ====
section
/-! DEFINITION. Keyed lists and memory: reading, writing and removing one entry, and the canonical form. -/

namespace Sys2Proof.Machine

/-- The value at a key. -/
def Map.find {α : Type} : Map α → Nat → Option α
  | [], _ => none
  | (k, v) :: m, i => if k = i then some v else Map.find m i

/-- The value at a key, or a default. -/
def Map.getD {α : Type} (m : Map α) (i : Nat) (d : α) : α := (Map.find m i).getD d

/-- Store a value at a key, in key order. -/
def Map.put {α : Type} : Map α → Nat → α → Map α
  | [], i, v => [(i, v)]
  | (k, w) :: m, i, v =>
    if i < k then (i, v) :: (k, w) :: m else if i = k then (i, v) :: m else (k, w) :: Map.put m i v

/-- Remove a key. -/
def Map.del {α : Type} : Map α → Nat → Map α
  | [], _ => []
  | (k, w) :: m, i => if k = i then Map.del m i else (k, w) :: Map.del m i

/-- Store a value at a key; the default is stored by removing the key. -/
def Map.putD {α : Type} [DecidableEq α] (m : Map α) (i : Nat) (v d : α) : Map α :=
  if v = d then Map.del m i else Map.put m i v

/-- Change the value at a key, where there is one. -/
def Map.adjust {α : Type} (m : Map α) (i : Nat) (f : α → α) : Map α :=
  match Map.find m i with
  | some v => Map.put m i (f v)
  | none => m

/-- Whether a key is present. -/
def Map.has {α : Type} (m : Map α) (i : Nat) : Bool := (Map.find m i).isSome

/-- The keys. -/
def Map.keys {α : Type} (m : Map α) : List Nat := m.map Prod.fst

/-- The values. -/
def Map.vals {α : Type} (m : Map α) : List α := m.map Prod.snd

/-- Change every value. -/
def Map.each {α : Type} (m : Map α) (f : Nat → α → α) : Map α := m.map fun e => (e.1, f e.1 e.2)

/-- Keep the entries that meet a test. -/
def Map.keep {α : Type} (m : Map α) (f : Nat → α → Bool) : Map α := m.filter fun e => f e.1 e.2

/-- The lowest key from `lo` on, below `hi`, that is absent. -/
def Map.free {α : Type} (m : Map α) (lo : Nat) : Nat → Option Nat
  | 0 => none
  | n + 1 => if Map.has m lo then Map.free m (lo + 1) n else some lo

/-- Keys strictly rise. -/
abbrev Map.wf {α : Type} (m : Map α) : Prop := m.Pairwise fun a b => a.1 < b.1

/-- The canonical form of memory: addresses strictly rise and no byte listed is 0, what an unlisted byte reads as. -/
abbrev Memory.wf (m : List Host.Cell) : Prop :=
  (m.Pairwise fun a b => a.1 < b.1) ∧ ∀ c ∈ m, c.2 ≠ 0

/-- One byte of a stack, by its window offset (R534). A byte that nothing has written reads 0: every start scrubs the
stacks to zero (R465). DESIGN CHOICE, log entry 137. -/
def Memory.read (m : List Host.Cell) (a : Nat) : Byte := Map.getD m a 0

/-- Write one byte. -/
def Memory.write (m : List Host.Cell) (a : Nat) (b : Byte) : List Host.Cell := Map.putD m a b 0

/-- Read a run of bytes, each as a number. -/
def Memory.bytes (m : List Host.Cell) (a n : Nat) : List Nat :=
  (List.range n).map fun i => (Memory.read m (a + i)).toNat

/-- Write a run of bytes. -/
def Memory.store (m : List Host.Cell) (a : Nat) : List Nat → List Host.Cell
  | [] => m
  | b :: bs => Memory.store (Memory.write m a (BitVec.ofNat 8 b)) (a + 1) bs

/-- Clear a run of bytes to 0. -/
def Memory.clear (m : List Host.Cell) (a n : Nat) : List Host.Cell :=
  m.filter fun c => !(decide (a ≤ c.1) && decide (c.1 < a + n))

/-- The number that bytes spell, least significant byte first (R14). -/
def leNat : List Nat → Nat
  | [] => 0
  | b :: bs => b % 256 + 256 * leNat bs

/-- The `n` bytes of a number, least significant byte first (R14). -/
def leBytes : Nat → Nat → List Nat
  | 0, _ => []
  | n + 1, v => v % 256 :: leBytes n (v / 256)

/-- The number in the `n` bytes from offset `o` on. -/
def fieldAt (bs : List Nat) (o n : Nat) : Nat := leNat ((bs.drop o).take n)

/-- Bits `[hi:lo]` of a number. -/
def bits (v hi lo : Nat) : Nat := v / 2 ^ lo % 2 ^ (hi + 1 - lo)

/-- Bit `i` of a number. -/
def bit (v i : Nat) : Bool := v / 2 ^ i % 2 == 1

/-- A Bool as a bit. -/
def b2n (b : Bool) : Nat := if b then 1 else 0

/-- Add to a list of numbers without repeats. -/
def insertNat (l : List Nat) (n : Nat) : List Nat := if l.contains n then l else l ++ [n]

/-- Entry `i` of a list of numbers, 0 past its end. -/
def nth (l : List Nat) (i : Nat) : Nat := l.getD i 0

/-- Set entry `i` of a list of numbers, 0 filling up to it. -/
def setNth (l : List Nat) (i v : Nat) : List Nat :=
  if i < l.length then l.set i v else l ++ List.replicate (i - l.length) 0 ++ [v]

end Sys2Proof.Machine
end

