-- ==== Sys2Proof/Machine/Objects.lean ====
section
/-! DEFINITION. The object dictionary: each object's type size, access code, default and value range, and its register. -/

namespace Sys2Proof.Machine

/-- Access codes (R487). -/
inductive Access where
  | ro | rw | wo | const | sealed_
  deriving DecidableEq, Repr

/-- A row of the dictionary: `count` objects from `key` (index times 256 plus subindex) on, the size in bytes of the type,
whether a shorter value is allowed (a DOMAIN or a VISIBLE_STRING), the access code, the default, the lowest and highest
value (for sizes up to 8 bytes), and the bits that are not reserved (0: all). -/
structure ObjRow where
  key : Nat
  count : Nat
  size : Nat
  var : Bool
  access : Access
  dflt : Nat
  lo : Nat
  hi : Nat
  mask : Nat
  deriving DecidableEq, Repr

/-- Objects 1000h to 1E01h. -/
def objRows0 : List ObjRow := [
  ⟨0x100000, 1, 4, false, .const, 0x80000, 0x0, 0xFFFFFFFF, 0x0⟩,
  ⟨0x100100, 1, 1, false, .ro, 0x0, 0x0, 0xFF, 0x0⟩,
  ⟨0x100800, 1, 16, true, .const, 0x323758382D485456, 0x0, 0x0, 0x0⟩,
  ⟨0x100900, 1, 4, true, .const, 0x3142, 0x0, 0xFFFFFFFF, 0x0⟩,
  ⟨0x100A00, 1, 8, true, .ro, 0x0, 0x0, 0xFFFFFFFFFFFFFFFF, 0x0⟩,
  ⟨0x101800, 1, 1, false, .const, 0xF, 0x0, 0xFF, 0x0⟩,
  ⟨0x101801, 1, 4, false, .const, 0xA7C3E1, 0x0, 0xFFFFFFFF, 0x0⟩,
  ⟨0x101802, 1, 4, false, .const, 0x848, 0x0, 0xFFFFFFFF, 0x0⟩,
  ⟨0x101803, 1, 4, false, .const, 0x4201, 0x0, 0xFFFFFFFF, 0x0⟩,
  ⟨0x101804, 1, 4, false, .const, 0x0, 0x0, 0xFFFFFFFF, 0x0⟩,
  ⟨0x101805, 1, 1, false, .const, 0x8, 0x0, 0xFF, 0x0⟩,
  ⟨0x101806, 1, 1, false, .const, 0x96, 0x0, 0xFF, 0x0⟩,
  ⟨0x101807, 1, 1, false, .const, 0x2, 0x0, 0xFF, 0x0⟩,
  ⟨0x101808, 1, 1, false, .const, 0x8, 0x0, 0xFF, 0x0⟩,
  ⟨0x101809, 1, 1, false, .const, 0x48, 0x0, 0xFF, 0x0⟩,
  ⟨0x10180A, 1, 2, false, .const, 0x400, 0x0, 0xFFFF, 0x0⟩,
  ⟨0x10180B, 1, 1, false, .const, 0x18, 0x0, 0xFF, 0x0⟩,
  ⟨0x10180C, 1, 1, false, .const, 0xC, 0x0, 0xFF, 0x0⟩,
  ⟨0x10180D, 1, 1, false, .const, 0x30, 0x0, 0xFF, 0x0⟩,
  ⟨0x10180E, 1, 1, false, .const, 0x3, 0x0, 0xFF, 0x0⟩,
  ⟨0x10180F, 1, 4, false, .const, 0x10C300, 0x0, 0xFFFFFFFF, 0x0⟩,
  ⟨0x1E0000, 1, 1, false, .const, 0x8, 0x0, 0xFF, 0x0⟩,
  ⟨0x1E0001, 1, 2, false, .rw, 0xA366, 0x0, 0xFFFF, 0x0⟩,
  ⟨0x1E0002, 1, 4, false, .rw, 0x7D0, 0x64, 0xEA60, 0x0⟩,
  ⟨0x1E0003, 1, 2, false, .rw, 0x14, 0x5, 0x3E8, 0x0⟩,
  ⟨0x1E0004, 1, 1, false, .ro, 0x0, 0x0, 0xFF, 0x0⟩,
  ⟨0x1E0005, 4, 4, false, .ro, 0x0, 0x0, 0xFFFFFFFF, 0x0⟩,
  ⟨0x1E0100, 1, 1, false, .const, 0x6, 0x0, 0xFF, 0x0⟩,
  ⟨0x1E0101, 1, 1, false, .ro, 0x0, 0x0, 0xFF, 0x0⟩,
  ⟨0x1E0102, 1, 6, false, .const, 0x0, 0x0, 0xFFFFFFFFFFFF, 0x0⟩]
/-- Objects 1E01h to 2200h. -/
def objRows1 : List ObjRow := [
  ⟨0x1E0103, 1, 16, false, .rw, 0x0, 0x0, 0x0, 0x0⟩,
  ⟨0x1E0104, 1, 1, false, .rw, 0x40, 0x1, 0x80, 0x0⟩,
  ⟨0x1E0105, 1, 16, false, .ro, 0x0, 0x0, 0x0, 0x0⟩,
  ⟨0x1E0106, 1, 4, false, .ro, 0x0, 0x0, 0xFFFFFFFF, 0x0⟩,
  ⟨0x1E1000, 1, 1, false, .const, 0x10, 0x0, 0xFF, 0x0⟩,
  ⟨0x1E1001, 16, 17, false, .rw, 0x0, 0x0, 0x0, 0x0⟩,
  ⟨0x200000, 1, 1, false, .const, 0xC, 0x0, 0xFF, 0x0⟩,
  ⟨0x200001, 1, 1, false, .ro, 0x0, 0x0, 0xFF, 0x0⟩,
  ⟨0x200002, 1, 4294967295, true, .wo, 0x0, 0x0, 0x0, 0x0⟩,
  ⟨0x200003, 1, 1, false, .ro, 0x0, 0x0, 0xFF, 0x0⟩,
  ⟨0x200004, 2, 4, false, .ro, 0x0, 0x0, 0xFFFFFFFF, 0x0⟩,
  ⟨0x200006, 1, 64, false, .ro, 0x0, 0x0, 0x0, 0x0⟩,
  ⟨0x200007, 1, 4, false, .rw, 0x12C, 0xA, 0xE10, 0x0⟩,
  ⟨0x200008, 1, 4, false, .rw, 0x5, 0x1, 0xE10, 0x0⟩,
  ⟨0x200009, 1, 8, false, .ro, 0x0, 0x0, 0xFFFFFFFFFFFFFFFF, 0x0⟩,
  ⟨0x20000A, 1, 4, false, .ro, 0x0, 0x0, 0xFFFFFFFF, 0x0⟩,
  ⟨0x20000B, 1, 1, false, .ro, 0xE4, 0x0, 0xFF, 0x0⟩,
  ⟨0x20000C, 1, 1, false, .wo, 0x0, 0x0, 0xFF, 0x0⟩,
  ⟨0x210000, 1, 1, false, .const, 0xA, 0x0, 0xFF, 0x0⟩,
  ⟨0x210001, 2, 1, false, .ro, 0x0, 0x0, 0xFF, 0x0⟩,
  ⟨0x210003, 1, 1, false, .wo, 0x0, 0x0, 0xFF, 0x0⟩,
  ⟨0x210004, 3, 8, false, .ro, 0x0, 0x0, 0xFFFFFFFFFFFFFFFF, 0x0⟩,
  ⟨0x210007, 1, 1, false, .ro, 0x1, 0x0, 0xFF, 0x0⟩,
  ⟨0x210008, 1, 4, false, .ro, 0x0, 0x0, 0xFFFFFFFF, 0x0⟩,
  ⟨0x210009, 2, 1, false, .ro, 0x0, 0x0, 0xFF, 0x0⟩,
  ⟨0x220000, 1, 1, false, .const, 0xA, 0x0, 0xFF, 0x0⟩,
  ⟨0x220001, 1, 2, false, .rw, 0x3E8, 0xFA, 0x578, 0x0⟩,
  ⟨0x220002, 1, 2, false, .ro, 0x3E8, 0x0, 0xFFFF, 0x0⟩,
  ⟨0x220003, 1, 8, false, .ro, 0x0, 0x0, 0xFFFFFFFFFFFFFFFF, 0x0⟩,
  ⟨0x220004, 1, 2, false, .ro, 0x0, 0x0, 0xFFFF, 0x0⟩]
/-- Objects 2200h to 2300h. -/
def objRows2 : List ObjRow := [
  ⟨0x220005, 1, 8, false, .ro, 0x0, 0x0, 0xFFFFFFFFFFFFFFFF, 0x0⟩,
  ⟨0x220006, 1, 2, false, .ro, 0x3E8, 0x0, 0xFFFF, 0x0⟩,
  ⟨0x220007, 1, 1, false, .ro, 0x1, 0x0, 0xFF, 0x0⟩,
  ⟨0x220008, 2, 4, false, .ro, 0x0, 0x0, 0xFFFFFFFF, 0x0⟩,
  ⟨0x22000A, 1, 4, false, .rw, 0x32, 0xA, 0x2710, 0x0⟩,
  ⟨0x220100, 1, 1, false, .const, 0xC, 0x0, 0xFF, 0x0⟩,
  ⟨0x220101, 1, 2, false, .rw, 0x3E8, 0x1C2, 0x47E, 0x0⟩,
  ⟨0x220102, 1, 1, false, .rw, 0x6, 0x0, 0xFF, 0x3F⟩,
  ⟨0x220103, 5, 2, false, .ro, 0x0, 0x0, 0xFFFF, 0x0⟩,
  ⟨0x220108, 2, 1, false, .ro, 0x0, 0x0, 0xFF, 0x0⟩,
  ⟨0x22010A, 1, 2, false, .ro, 0x0, 0x0, 0xFFFF, 0x0⟩,
  ⟨0x22010B, 1, 2, false, .rw, 0x14, 0x5, 0x64, 0x0⟩,
  ⟨0x22010C, 1, 4, false, .ro, 0x0, 0x0, 0xFFFFFFFF, 0x0⟩,
  ⟨0x221000, 1, 1, false, .const, 0x5, 0x0, 0xFF, 0x0⟩,
  ⟨0x221001, 1, 2, false, .rw, 0x0, 0x0, 0xFFFF, 0x0⟩,
  ⟨0x221002, 1, 4, false, .rw, 0x0, 0x0, 0xFFFFFFFF, 0xFFFFF⟩,
  ⟨0x221003, 1, 2, false, .ro, 0x0, 0x0, 0xFFFF, 0x0⟩,
  ⟨0x221004, 1, 1, false, .ro, 0x0, 0x0, 0xFF, 0x0⟩,
  ⟨0x221005, 1, 4, false, .ro, 0x0, 0x0, 0xFFFFFFFF, 0x0⟩,
  ⟨0x221100, 1, 65536, true, .rw, 0x0, 0x0, 0x0, 0x0⟩,
  ⟨0x222000, 1, 1, false, .const, 0x6, 0x0, 0xFF, 0x0⟩,
  ⟨0x222001, 1, 8, false, .ro, 0x0, 0x0, 0xFFFFFFFFFFFFFFFF, 0x0⟩,
  ⟨0x222002, 1, 1, false, .rw, 0x0, 0x0, 0xFF, 0x0⟩,
  ⟨0x222003, 1, 1, false, .ro, 0x0, 0x0, 0xFF, 0x0⟩,
  ⟨0x222004, 1, 4, false, .ro, 0x0, 0x0, 0xFFFFFFFF, 0x0⟩,
  ⟨0x222005, 1, 4, false, .rw, 0x3E8, 0x0, 0xFFFFFFFF, 0x0⟩,
  ⟨0x222006, 1, 4, false, .ro, 0x0, 0x0, 0xFFFFFFFF, 0x0⟩,
  ⟨0x230000, 1, 1, false, .const, 0x7, 0x0, 0xFF, 0x0⟩,
  ⟨0x230001, 3, 2, false, .ro, 0x0, 0x0, 0xFFFF, 0x0⟩,
  ⟨0x230004, 1, 2, false, .rw, 0x3B6, 0x320, 0x41A, 0x0⟩]
/-- Objects 2300h to 2404h. -/
def objRows3 : List ObjRow := [
  ⟨0x230005, 1, 2, false, .rw, 0x384, 0x320, 0x41A, 0x0⟩,
  ⟨0x230006, 1, 2, false, .ro, 0x578, 0x0, 0xFFFF, 0x0⟩,
  ⟨0x230007, 1, 4, false, .ro, 0x0, 0x0, 0xFFFFFFFF, 0x0⟩,
  ⟨0x231000, 1, 1, false, .const, 0x6, 0x0, 0xFF, 0x0⟩,
  ⟨0x231001, 1, 1, false, .rw, 0x28, 0x14, 0x50, 0x0⟩,
  ⟨0x231002, 1, 1, false, .rw, 0x32, 0x19, 0x32, 0x0⟩,
  ⟨0x231003, 1, 2, false, .rw, 0x64, 0x14, 0x3E8, 0x0⟩,
  ⟨0x231004, 2, 4, false, .ro, 0x0, 0x0, 0xFFFFFFFF, 0x0⟩,
  ⟨0x231006, 1, 1, false, .ro, 0x0, 0x0, 0xFF, 0x0⟩,
  ⟨0x232000, 1, 1, false, .const, 0x8, 0x0, 0xFF, 0x0⟩,
  ⟨0x232001, 1, 2, false, .rw, 0x2EE, 0x28A, 0x384, 0x0⟩,
  ⟨0x232002, 1, 2, false, .ro, 0x0, 0x0, 0xFFFF, 0x0⟩,
  ⟨0x232003, 1, 1, false, .rw, 0x32, 0x0, 0x64, 0x0⟩,
  ⟨0x232004, 1, 2, false, .ro, 0x0, 0x0, 0xFFFF, 0x0⟩,
  ⟨0x232005, 1, 2, false, .rw, 0x3C, 0xA, 0xE10, 0x0⟩,
  ⟨0x232006, 1, 8, false, .ro, 0x0, 0x0, 0xFFFFFFFFFFFFFFFF, 0x0⟩,
  ⟨0x232007, 1, 2, false, .ro, 0x578, 0x0, 0xFFFF, 0x0⟩,
  ⟨0x232008, 1, 4, false, .ro, 0x0, 0x0, 0xFFFFFFFF, 0x0⟩,
  ⟨0x232100, 1, 1024, true, .ro, 0x0, 0x0, 0x0, 0x0⟩,
  ⟨0x233000, 1, 1, false, .const, 0x10, 0x0, 0xFF, 0x0⟩,
  ⟨0x233001, 16, 4, false, .ro, 0x0, 0x0, 0xFFFFFFFF, 0x0⟩,
  ⟨0x233100, 1, 1, false, .const, 0xD, 0x0, 0xFF, 0x0⟩,
  ⟨0x233101, 13, 2, false, .ro, 0x0, 0x0, 0xFFFF, 0x0⟩,
  ⟨0x233200, 1, 1, false, .const, 0x5, 0x0, 0xFF, 0x0⟩,
  ⟨0x233201, 1, 4, false, .ro, 0x0, 0x0, 0xFFFFFFFF, 0x0⟩,
  ⟨0x233202, 1, 2, false, .ro, 0x0, 0x0, 0xFFFF, 0x0⟩,
  ⟨0x233203, 3, 4, false, .ro, 0x0, 0x0, 0xFFFFFFFF, 0x0⟩,
  ⟨0x240100, 1, 1, false, .const, 0x3, 0x0, 0xFF, 0x0⟩,
  ⟨0x240200, 1, 4, false, .rw, 0x100000, 0x10000, 0x1000000, 0x0⟩,
  ⟨0x240400, 1, 1, false, .const, 0x6, 0x0, 0xFF, 0x0⟩]
/-- Objects 2404h to 2440h. -/
def objRows4 : List ObjRow := [
  ⟨0x240401, 1, 1, false, .rw, 0x1, 0x0, 0x1, 0x0⟩,
  ⟨0x240402, 1, 4, false, .rw, 0x64, 0x0, 0xFFFFFFFF, 0x0⟩,
  ⟨0x240403, 1, 4, false, .rw, 0x2710, 0x0, 0xFFFFFFFF, 0x0⟩,
  ⟨0x240404, 1, 2, false, .ro, 0x0, 0x0, 0xFFFF, 0x0⟩,
  ⟨0x240405, 1, 1, false, .wo, 0x0, 0x0, 0xFF, 0x0⟩,
  ⟨0x240406, 1, 4, false, .ro, 0x0, 0x0, 0xFFFFFFFF, 0x0⟩,
  ⟨0x241000, 1, 1, false, .const, 0xA, 0x0, 0xFF, 0x0⟩,
  ⟨0x241001, 1, 1, false, .ro, 0x0, 0x0, 0xFF, 0x0⟩,
  ⟨0x241002, 1, 4, false, .ro, 0x0, 0x0, 0xFFFFFFFF, 0x0⟩,
  ⟨0x241003, 2, 2, false, .ro, 0x0, 0x0, 0xFFFF, 0x0⟩,
  ⟨0x241005, 1, 1, false, .ro, 0x0, 0x0, 0xFF, 0x0⟩,
  ⟨0x241006, 1, 4, false, .ro, 0x0, 0x0, 0xFFFFFFFF, 0x0⟩,
  ⟨0x241007, 1, 8, false, .ro, 0x0, 0x0, 0xFFFFFFFFFFFFFFFF, 0x0⟩,
  ⟨0x241008, 1, 4, false, .ro, 0x0, 0x0, 0xFFFFFFFF, 0x0⟩,
  ⟨0x241009, 1, 1, false, .ro, 0x0, 0x0, 0xFF, 0x0⟩,
  ⟨0x24100A, 1, 1, false, .wo, 0x0, 0x0, 0xFF, 0x0⟩,
  ⟨0x242000, 1, 1, false, .const, 0x30, 0x0, 0xFF, 0x0⟩,
  ⟨0x242001, 48, 2, false, .rw, 0x0, 0x0, 0xFFFF, 0x0⟩,
  ⟨0x243000, 1, 1, false, .const, 0x7, 0x0, 0xFF, 0x0⟩,
  ⟨0x243001, 7, 4, false, .ro, 0x0, 0x0, 0xFFFFFFFF, 0x0⟩,
  ⟨0x244000, 1, 1, false, .const, 0xD, 0x0, 0xFF, 0x0⟩,
  ⟨0x244001, 1, 2, false, .rw, 0x0, 0x0, 0xFFFF, 0x0⟩,
  ⟨0x244002, 1, 1, false, .ro, 0x0, 0x0, 0xFF, 0x0⟩,
  ⟨0x244003, 2, 4, false, .ro, 0x0, 0x0, 0xFFFFFFFF, 0x0⟩,
  ⟨0x244005, 1, 1, false, .rw, 0x1, 0x1, 0x8, 0x0⟩,
  ⟨0x244006, 1, 8, false, .rw, 0x0, 0x0, 0xFFFFFFFFFFFFFFFF, 0x0⟩,
  ⟨0x244007, 1, 4, false, .rw, 0x3E8, 0x64, 0x186A0, 0x0⟩,
  ⟨0x244008, 1, 4, false, .rw, 0x3E8, 0xA, 0x186A0, 0x0⟩,
  ⟨0x244009, 1, 4, false, .rw, 0x64, 0xA, 0x2710, 0x0⟩,
  ⟨0x24400A, 1, 1, false, .wo, 0x0, 0x0, 0xFF, 0x0⟩]
/-- Objects 2440h to 2600h. -/
def objRows5 : List ObjRow := [
  ⟨0x24400B, 1, 4, false, .rw, 0x0, 0x0, 0xFFFFFFFF, 0x0⟩,
  ⟨0x24400C, 1, 64, false, .ro, 0x0, 0x0, 0x0, 0x0⟩,
  ⟨0x24400D, 1, 1, false, .ro, 0x0, 0x0, 0xFF, 0x0⟩,
  ⟨0x246000, 1, 2097152, true, .ro, 0x0, 0x0, 0x0, 0x0⟩,
  ⟨0x247000, 1, 2097152, true, .rw, 0x0, 0x0, 0x0, 0x0⟩,
  ⟨0x250000, 1, 1, false, .const, 0x4, 0x0, 0xFF, 0x0⟩,
  ⟨0x250001, 1, 1, false, .rw, 0x0, 0x0, 0x1, 0x0⟩,
  ⟨0x250002, 1, 2, false, .rw, 0x3E8, 0xA, 0x2710, 0x0⟩,
  ⟨0x250003, 1, 2, false, .rw, 0x4, 0x2, 0x8, 0x0⟩,
  ⟨0x250004, 1, 2, false, .rw, 0x8, 0x1, 0x40, 0x0⟩,
  ⟨0x251000, 1, 1, false, .const, 0xE, 0x0, 0xFF, 0x0⟩,
  ⟨0x251001, 1, 1, false, .ro, 0x0, 0x0, 0xFF, 0x0⟩,
  ⟨0x251002, 1, 1, false, .rw, 0x1, 0x0, 0x1, 0x0⟩,
  ⟨0x251003, 1, 1, false, .rw, 0x0, 0x0, 0x1, 0x0⟩,
  ⟨0x251004, 1, 4, false, .ro, 0x0, 0x0, 0xFFFFFFFF, 0x0⟩,
  ⟨0x251005, 1, 16, false, .ro, 0x0, 0x0, 0x0, 0x0⟩,
  ⟨0x251006, 1, 16, false, .rw, 0x1000100010001000100010001000100, 0x0, 0x0, 0x0⟩,
  ⟨0x251007, 1, 4, false, .ro, 0x0, 0x0, 0xFFFFFFFF, 0x0⟩,
  ⟨0x251008, 1, 8, false, .ro, 0x0, 0x0, 0xFFFFFFFFFFFFFFFF, 0x0⟩,
  ⟨0x251009, 3, 4, false, .ro, 0x0, 0x0, 0xFFFFFFFF, 0x0⟩,
  ⟨0x25100C, 2, 8, false, .ro, 0x0, 0x0, 0xFFFFFFFFFFFFFFFF, 0x0⟩,
  ⟨0x25100E, 1, 1, false, .ro, 0x0, 0x0, 0xFF, 0x0⟩,
  ⟨0x260000, 1, 1, false, .const, 0xB, 0x0, 0xFF, 0x0⟩,
  ⟨0x260001, 1, 4, false, .rw, 0x0, 0x0, 0xFFFFFFFF, 0xFFFFF⟩,
  ⟨0x260002, 1, 1, false, .rw, 0x10, 0x2, 0x3F, 0x0⟩,
  ⟨0x260003, 1, 1, false, .ro, 0x0, 0x0, 0xFF, 0x0⟩,
  ⟨0x260004, 1, 1, false, .wo, 0x0, 0x0, 0xFF, 0x0⟩,
  ⟨0x260005, 1, 4, false, .rw, 0x3E8, 0xA, 0xF4240, 0x0⟩,
  ⟨0x260006, 1, 8, false, .ro, 0x0, 0x0, 0xFFFFFFFFFFFFFFFF, 0x0⟩,
  ⟨0x260007, 5, 4, false, .ro, 0x0, 0x0, 0xFFFFFFFF, 0x0⟩]
/-- Objects 2601h to 2810h. -/
def objRows6 : List ObjRow := [
  ⟨0x260100, 1, 65536, true, .rw, 0x0, 0x0, 0x0, 0x0⟩,
  ⟨0x260200, 1, 65536, true, .ro, 0x0, 0x0, 0x0, 0x0⟩,
  ⟨0x270000, 1, 1, false, .const, 0xD, 0x0, 0xFF, 0x0⟩,
  ⟨0x270001, 1, 2, false, .const, 0x4000, 0x0, 0xFFFF, 0x0⟩,
  ⟨0x270002, 2, 4, false, .ro, 0x0, 0x0, 0xFFFFFFFF, 0x0⟩,
  ⟨0x270004, 1, 2, false, .ro, 0x0, 0x0, 0xFFFF, 0x0⟩,
  ⟨0x270005, 1, 4, false, .ro, 0x0, 0x0, 0xFFFFFFFF, 0x0⟩,
  ⟨0x270006, 1, 4, false, .rw, 0x1F4, 0x32, 0x186A0, 0x0⟩,
  ⟨0x270007, 7, 4, false, .ro, 0x0, 0x0, 0xFFFFFFFF, 0x0⟩,
  ⟨0x270100, 1, 1, false, .const, 0xA, 0x0, 0xFF, 0x0⟩,
  ⟨0x270101, 1, 4, false, .rw, 0x0, 0x0, 0xFFFFFFFF, 0xFFFFF⟩,
  ⟨0x270102, 1, 1, false, .ro, 0x0, 0x0, 0xFF, 0x0⟩,
  ⟨0x270103, 1, 4, false, .rw, 0x0, 0x0, 0xFFFFFFFF, 0xFFFFF⟩,
  ⟨0x270104, 1, 4, false, .ro, 0x0, 0x0, 0xFFFFFFFF, 0x0⟩,
  ⟨0x270105, 1, 4, false, .rw, 0x3, 0x0, 0xFFFFFFFF, 0xFFFF0007⟩,
  ⟨0x270106, 1, 4, false, .rw, 0x2000010, 0x0, 0xFFFFFFFF, 0xFFFF00FF⟩,
  ⟨0x270107, 1, 4, false, .ro, 0x1, 0x0, 0xFFFFFFFF, 0x0⟩,
  ⟨0x270108, 1, 4, false, .ro, 0x0, 0x0, 0xFFFFFFFF, 0x0⟩,
  ⟨0x270109, 1, 1, false, .ro, 0x0, 0x0, 0xFF, 0x0⟩,
  ⟨0x27010A, 1, 1, false, .wo, 0x0, 0x0, 0xFF, 0x0⟩,
  ⟨0x280000, 1, 1, false, .const, 0x3, 0x0, 0xFF, 0x0⟩,
  ⟨0x280001, 1, 2, false, .rw, 0x100, 0x1, 0xFFFF, 0x0⟩,
  ⟨0x280002, 1, 2, false, .ro, 0x0, 0x0, 0xFFFF, 0x0⟩,
  ⟨0x280003, 1, 4, false, .ro, 0x0, 0x0, 0xFFFFFFFF, 0x0⟩,
  ⟨0x280100, 1, 1, false, .const, 0x4, 0x0, 0xFF, 0x0⟩,
  ⟨0x280101, 2, 1, false, .rw, 0x4, 0x3, 0x7, 0x0⟩,
  ⟨0x280103, 2, 1, false, .rw, 0x5, 0x3, 0x7, 0x0⟩,
  ⟨0x281000, 1, 1, false, .const, 0x5, 0x0, 0xFF, 0x0⟩,
  ⟨0x281001, 1, 5, false, .rw, 0x101040802, 0x0, 0xFFFFFFFFFF, 0x0⟩,
  ⟨0x281002, 1, 32, false, .rw, 0xFFFFFFFFFFFFFFFFFFFFFFFFFFFFFFFFFFFFFFFFFFFFFFFF000003E8000009C4, 0x0, 0x0, 0x0⟩]
/-- Objects 2810h to 2901h. -/
def objRows7 : List ObjRow := [
  ⟨0x281003, 1, 32, false, .rw, 0x1000000010000000100000001000000010000000100000001000000010000, 0x0, 0x0, 0x0⟩,
  ⟨0x281004, 1, 64, false, .ro, 0x0, 0x0, 0x0, 0x0⟩,
  ⟨0x281005, 1, 4, false, .ro, 0x0, 0x0, 0xFFFFFFFF, 0x0⟩,
  ⟨0x281100, 1, 1, false, .const, 0x5, 0x0, 0xFF, 0x0⟩,
  ⟨0x281101, 1, 5, false, .rw, 0x101020804, 0x0, 0xFFFFFFFFFF, 0x0⟩,
  ⟨0x281102, 1, 32, false, .rw, 0xFFFFFFFFFFFFFFFFFFFFFFFFFFFFFFFFFFFFFFFFFFFFFFFFFFFFFFFFFFFFFFFF, 0x0, 0x0, 0x0⟩,
  ⟨0x281103, 1, 32, false, .rw, 0x1000000010000000100000001000000010000000100000001000000010000, 0x0, 0x0, 0x0⟩,
  ⟨0x281104, 1, 64, false, .ro, 0x0, 0x0, 0x0, 0x0⟩,
  ⟨0x281105, 1, 4, false, .ro, 0x0, 0x0, 0xFFFFFFFF, 0x0⟩,
  ⟨0x281200, 1, 1, false, .const, 0x5, 0x0, 0xFF, 0x0⟩,
  ⟨0x281201, 1, 5, false, .rw, 0x101010208, 0x0, 0xFFFFFFFFFF, 0x0⟩,
  ⟨0x281202, 1, 32, false, .rw, 0xFFFFFFFFFFFFFFFFFFFFFFFFFFFFFFFFFFFFFFFFFFFFFFFFFFFFFFFFFFFFFFFF, 0x0, 0x0, 0x0⟩,
  ⟨0x281203, 1, 32, false, .rw, 0x1000000010000000100000001000000010000000100000001000000010000, 0x0, 0x0, 0x0⟩,
  ⟨0x281204, 1, 64, false, .ro, 0x0, 0x0, 0x0, 0x0⟩,
  ⟨0x281205, 1, 4, false, .ro, 0x0, 0x0, 0xFFFFFFFF, 0x0⟩,
  ⟨0x281300, 1, 1, false, .const, 0x5, 0x0, 0xFF, 0x0⟩,
  ⟨0x281301, 1, 5, false, .rw, 0x102040802, 0x0, 0xFFFFFFFFFF, 0x0⟩,
  ⟨0x281302, 1, 32, false, .rw, 0xFFFFFFFFFFFFFFFFFFFFFFFFFFFFFFFFFFFFFFFFFFFFFFFFFFFFFFFFFFFFFFFF, 0x0, 0x0, 0x0⟩,
  ⟨0x281303, 1, 32, false, .rw, 0x1000000010000000100000001000000010000000100000001000000010000, 0x0, 0x0, 0x0⟩,
  ⟨0x281304, 1, 64, false, .ro, 0x0, 0x0, 0x0, 0x0⟩,
  ⟨0x281305, 1, 4, false, .ro, 0x0, 0x0, 0xFFFFFFFF, 0x0⟩,
  ⟨0x290000, 1, 1, false, .const, 0x9, 0x0, 0xFF, 0x0⟩,
  ⟨0x290001, 3, 4, false, .ro, 0x0, 0x0, 0xFFFFFFFF, 0x0⟩,
  ⟨0x290004, 1, 1, false, .rw, 0x1, 0x0, 0x1, 0x0⟩,
  ⟨0x290005, 1, 4, false, .rw, 0xE10, 0x3C, 0x93A80, 0x0⟩,
  ⟨0x290006, 1, 4, false, .rw, 0x100000, 0x0, 0xFFFFFFFF, 0x0⟩,
  ⟨0x290007, 1, 4, false, .ro, 0x0, 0x0, 0xFFFFFFFF, 0x0⟩,
  ⟨0x290008, 1, 4, false, .rw, 0x1000, 0x0, 0xFFFFFFFF, 0x0⟩,
  ⟨0x290009, 1, 1, false, .ro, 0x0, 0x0, 0xFF, 0x0⟩,
  ⟨0x290100, 1, 1, false, .const, 0x6, 0x0, 0xFF, 0x0⟩]
/-- Objects 2901h to 2B31h. -/
def objRows8 : List ObjRow := [
  ⟨0x290101, 1, 2, false, .ro, 0x0, 0x0, 0xFFFF, 0x0⟩,
  ⟨0x290102, 2, 4, false, .ro, 0x0, 0x0, 0xFFFFFFFF, 0x0⟩,
  ⟨0x290104, 2, 8, false, .ro, 0x0, 0x0, 0xFFFFFFFFFFFFFFFF, 0x0⟩,
  ⟨0x290106, 1, 4, false, .ro, 0x0, 0x0, 0xFFFFFFFF, 0x0⟩,
  ⟨0x291000, 1, 1, false, .const, 0xA, 0x0, 0xFF, 0x0⟩,
  ⟨0x291001, 3, 1, false, .ro, 0x0, 0x0, 0xFF, 0x0⟩,
  ⟨0x291004, 5, 4, false, .ro, 0x0, 0x0, 0xFFFFFFFF, 0x0⟩,
  ⟨0x291009, 1, 1, false, .ro, 0x0, 0x0, 0xFF, 0x0⟩,
  ⟨0x29100A, 1, 1, false, .wo, 0x0, 0x0, 0xFF, 0x0⟩,
  ⟨0x292000, 1, 1, false, .const, 0x3, 0x0, 0xFF, 0x0⟩,
  ⟨0x292001, 1, 4, false, .rw, 0xF4240, 0x3E8, 0x1C9C380, 0x0⟩,
  ⟨0x292002, 1, 1, false, .rw, 0x3, 0x1, 0x10, 0x0⟩,
  ⟨0x292003, 1, 1, false, .ro, 0x0, 0x0, 0xFF, 0x0⟩,
  ⟨0x2A0000, 1, 1, false, .const, 0x7, 0x0, 0xFF, 0x0⟩,
  ⟨0x2A0001, 1, 1, false, .ro, 0x0, 0x0, 0xFF, 0x0⟩,
  ⟨0x2A0002, 2, 8, false, .ro, 0x0, 0x0, 0xFFFFFFFFFFFFFFFF, 0x0⟩,
  ⟨0x2A0004, 4, 4, false, .ro, 0x0, 0x0, 0xFFFFFFFF, 0x0⟩,
  ⟨0x2B0100, 1, 2, false, .rw, 0x100, 0x40, 0x200, 0x0⟩,
  ⟨0x2B0200, 1, 2, false, .ro, 0x100, 0x0, 0xFFFF, 0x0⟩,
  ⟨0x2B1000, 1, 1, false, .const, 0xD, 0x0, 0xFF, 0x0⟩,
  ⟨0x2B1001, 13, 4, false, .ro, 0x0, 0x0, 0xFFFFFFFF, 0x0⟩,
  ⟨0x2B1100, 1, 1, false, .const, 0x4, 0x0, 0xFF, 0x0⟩,
  ⟨0x2B1101, 4, 4, false, .ro, 0x0, 0x0, 0xFFFFFFFF, 0x0⟩,
  ⟨0x2B3000, 1, 1, false, .const, 0xD, 0x0, 0xFF, 0x0⟩,
  ⟨0x2B3001, 13, 4, false, .ro, 0x0, 0x0, 0xFFFFFFFF, 0x0⟩,
  ⟨0x2B3100, 1, 1, false, .const, 0x5, 0x0, 0xFF, 0x0⟩,
  ⟨0x2B3101, 1, 4, false, .rw, 0x4E20, 0x0, 0xFFFFFFFF, 0x0⟩,
  ⟨0x2B3102, 1, 4, false, .rw, 0x3E80, 0x0, 0xFFFFFFFF, 0x0⟩,
  ⟨0x2B3103, 1, 4, false, .rw, 0xF4240, 0x0, 0xFFFFFFFF, 0x0⟩,
  ⟨0x2B3104, 1, 4, false, .rw, 0xBB8, 0x0, 0xFFFFFFFF, 0x0⟩]
/-- Objects 2B31h to 2B43h. -/
def objRows9 : List ObjRow := [
  ⟨0x2B3105, 1, 2, false, .rw, 0x7D, 0x3E, 0x578, 0x0⟩,
  ⟨0x2B3200, 1, 1, false, .const, 0x4, 0x0, 0xFF, 0x0⟩,
  ⟨0x2B3201, 1, 2, false, .rw, 0x400, 0x100, 0x2000, 0x0⟩,
  ⟨0x2B3202, 1, 2, false, .ro, 0x0, 0x0, 0xFFFF, 0x0⟩,
  ⟨0x2B3203, 1, 4, false, .rw, 0x2710, 0x0, 0xFFFFFFFF, 0x0⟩,
  ⟨0x2B3204, 1, 4, false, .ro, 0x0, 0x0, 0xFFFFFFFF, 0x0⟩,
  ⟨0x2B3300, 1, 1, false, .const, 0x3, 0x0, 0xFF, 0x0⟩,
  ⟨0x2B3301, 1, 4, false, .rw, 0x2000, 0x400, 0x10000, 0x0⟩,
  ⟨0x2B3302, 2, 4, false, .ro, 0x0, 0x0, 0xFFFFFFFF, 0x0⟩,
  ⟨0x2B3400, 1, 1, false, .const, 0x5, 0x0, 0xFF, 0x0⟩,
  ⟨0x2B3401, 1, 2, false, .ro, 0x0, 0x0, 0xFFFF, 0x0⟩,
  ⟨0x2B3402, 2, 4, false, .ro, 0x0, 0x0, 0xFFFFFFFF, 0x0⟩,
  ⟨0x2B3404, 1, 1, false, .ro, 0x0, 0x0, 0xFF, 0x0⟩,
  ⟨0x2B3405, 1, 4, false, .ro, 0x0, 0x0, 0xFFFFFFFF, 0x0⟩,
  ⟨0x2B4000, 1, 1, false, .const, 0x8, 0x0, 0xFF, 0x0⟩,
  ⟨0x2B4001, 1, 4, false, .const, 0x10C300, 0x0, 0xFFFFFFFF, 0x0⟩,
  ⟨0x2B4002, 1, 4, false, .rw, 0x4000, 0x1000, 0x20000, 0x0⟩,
  ⟨0x2B4003, 6, 4, false, .ro, 0x0, 0x0, 0xFFFFFFFF, 0x0⟩,
  ⟨0x2B4100, 1, 1, false, .const, 0x6, 0x0, 0xFF, 0x0⟩,
  ⟨0x2B4101, 1, 1, false, .rw, 0x1, 0x0, 0x1, 0x0⟩,
  ⟨0x2B4102, 1, 4, false, .rw, 0x2000, 0x0, 0xFFFFFFFF, 0x0⟩,
  ⟨0x2B4103, 1, 4, false, .rw, 0x4000, 0x0, 0xFFFFFFFF, 0x0⟩,
  ⟨0x2B4104, 1, 4, false, .rw, 0x186A0, 0x0, 0xFFFFFFFF, 0x0⟩,
  ⟨0x2B4105, 2, 4, false, .ro, 0x0, 0x0, 0xFFFFFFFF, 0x0⟩,
  ⟨0x2B4200, 1, 1, false, .const, 0x5, 0x0, 0xFF, 0x0⟩,
  ⟨0x2B4201, 1, 1, false, .wo, 0x0, 0x0, 0xFF, 0x0⟩,
  ⟨0x2B4202, 1, 1, false, .ro, 0x0, 0x0, 0xFF, 0x0⟩,
  ⟨0x2B4203, 3, 4, false, .ro, 0x0, 0x0, 0xFFFFFFFF, 0x0⟩,
  ⟨0x2B4300, 1, 1, false, .const, 0x3, 0x0, 0xFF, 0x0⟩,
  ⟨0x2B4301, 1, 4, false, .rw, 0x64, 0x1, 0xF4240, 0x0⟩]
/-- Objects 2B43h to 2C20h. -/
def objRows10 : List ObjRow := [
  ⟨0x2B4302, 1, 2, false, .ro, 0x0, 0x0, 0xFFFF, 0x0⟩,
  ⟨0x2B4303, 1, 4, false, .ro, 0x0, 0x0, 0xFFFFFFFF, 0x0⟩,
  ⟨0x2B4400, 1, 1, false, .const, 0xD, 0x0, 0xFF, 0x0⟩,
  ⟨0x2B4401, 13, 4, false, .ro, 0x0, 0x0, 0xFFFFFFFF, 0x0⟩,
  ⟨0x2B8000, 1, 1, false, .const, 0xB, 0x0, 0xFF, 0x0⟩,
  ⟨0x2B8001, 4, 2, false, .rw, 0x0, 0x0, 0xFFFF, 0x0⟩,
  ⟨0x2B8005, 1, 4, false, .rw, 0x0, 0x0, 0xFFFFFFFF, 0x0⟩,
  ⟨0x2B8006, 1, 1, false, .rw, 0x0, 0x0, 0xFF, 0x0⟩,
  ⟨0x2B8007, 3, 1, false, .ro, 0x0, 0x0, 0xFF, 0x0⟩,
  ⟨0x2B800A, 1, 1, false, .wo, 0x0, 0x0, 0xFF, 0x0⟩,
  ⟨0x2B800B, 1, 1, false, .rw, 0x0, 0x0, 0x1, 0x0⟩,
  ⟨0x2C0000, 1, 1, false, .const, 0x8, 0x0, 0xFF, 0x0⟩,
  ⟨0x2C0001, 8, 4, false, .ro, 0x0, 0x0, 0xFFFFFFFF, 0x0⟩,
  ⟨0x2C0800, 1, 1, false, .const, 0x5, 0x0, 0xFF, 0x0⟩,
  ⟨0x2C0801, 1, 4, false, .rw, 0x15180, 0xE10, 0x93A80, 0x0⟩,
  ⟨0x2C0802, 4, 4, false, .ro, 0x0, 0x0, 0xFFFFFFFF, 0x0⟩,
  ⟨0x2C1000, 1, 1, false, .const, 0xA, 0x0, 0xFF, 0x0⟩,
  ⟨0x2C1001, 1, 1, false, .ro, 0x0, 0x0, 0xFF, 0x0⟩,
  ⟨0x2C1002, 3, 4, false, .ro, 0x0, 0x0, 0xFFFFFFFF, 0x0⟩,
  ⟨0x2C1005, 1, 4, false, .rw, 0xC8, 0x14, 0x2710, 0x0⟩,
  ⟨0x2C1006, 1, 4, false, .rw, 0x3E8, 0x64, 0x186A0, 0x0⟩,
  ⟨0x2C1007, 1, 1, false, .wo, 0x0, 0x0, 0xFF, 0x0⟩,
  ⟨0x2C1008, 1, 1, false, .ro, 0x0, 0x0, 0xFF, 0x0⟩,
  ⟨0x2C1009, 1, 8, false, .ro, 0x0, 0x0, 0xFFFFFFFFFFFFFFFF, 0x0⟩,
  ⟨0x2C100A, 1, 1, false, .ro, 0x0, 0x0, 0xFF, 0x0⟩,
  ⟨0x2C2000, 1, 1, false, .const, 0x5, 0x0, 0xFF, 0x0⟩,
  ⟨0x2C2001, 2, 4, false, .rw, 0x0, 0x0, 0xFFFFFFFF, 0x0⟩,
  ⟨0x2C2003, 1, 1, false, .ro, 0x0, 0x0, 0xFF, 0x0⟩,
  ⟨0x2C2004, 1, 8, false, .wo, 0x0, 0x0, 0xFFFFFFFFFFFFFFFF, 0x0⟩,
  ⟨0x2C2005, 1, 2, false, .ro, 0x0, 0x0, 0xFFFF, 0x0⟩]
/-- Objects 2C21h to 2E00h. -/
def objRows11 : List ObjRow := [
  ⟨0x2C2100, 1, 4, false, .wo, 0x0, 0x0, 0xFFFFFFFF, 0x0⟩,
  ⟨0x2C3000, 1, 1, false, .const, 0x4, 0x0, 0xFF, 0x0⟩,
  ⟨0x2C3001, 2, 8, false, .ro, 0x0, 0x0, 0xFFFFFFFFFFFFFFFF, 0x0⟩,
  ⟨0x2C3003, 1, 4, false, .rw, 0x0, 0x0, 0xFFFFF, 0x0⟩,
  ⟨0x2C3004, 1, 32, false, .ro, 0x0, 0x0, 0x0, 0x0⟩,
  ⟨0x2C4000, 1, 1, false, .const, 0x2, 0x0, 0xFF, 0x0⟩,
  ⟨0x2C4001, 1, 4, false, .rw, 0x186A0, 0x3E8, 0x989680, 0x0⟩,
  ⟨0x2C4002, 1, 4, false, .ro, 0x0, 0x0, 0xFFFFFFFF, 0x0⟩,
  ⟨0x2D0000, 1, 1, false, .const, 0x6, 0x0, 0xFF, 0x0⟩,
  ⟨0x2D0001, 1, 2, false, .const, 0x200, 0x0, 0xFFFF, 0x0⟩,
  ⟨0x2D0002, 1, 2, false, .const, 0x600, 0x0, 0xFFFF, 0x0⟩,
  ⟨0x2D0003, 1, 2, false, .const, 0x200, 0x0, 0xFFFF, 0x0⟩,
  ⟨0x2D0004, 1, 4, false, .ro, 0x0, 0x0, 0xFFFFFFFF, 0x0⟩,
  ⟨0x2D0005, 1, 8, false, .ro, 0x0, 0x0, 0xFFFFFFFFFFFFFFFF, 0x0⟩,
  ⟨0x2D0006, 1, 4, false, .ro, 0x0, 0x0, 0xFFFFFFFF, 0x0⟩,
  ⟨0x2D0100, 1, 1, false, .const, 0x7, 0x0, 0xFF, 0x0⟩,
  ⟨0x2D0101, 1, 2, false, .rw, 0x0, 0x0, 0xFFFF, 0x1FF⟩,
  ⟨0x2D0102, 1, 4, false, .rw, 0x0, 0x0, 0xFFFFFFFF, 0x7FF3FF3⟩,
  ⟨0x2D0103, 1, 1, false, .ro, 0x0, 0x0, 0xFF, 0x0⟩,
  ⟨0x2D0104, 2, 2, false, .ro, 0x0, 0x0, 0xFFFF, 0x0⟩,
  ⟨0x2D0106, 1, 1, false, .wo, 0x0, 0x0, 0xFF, 0x0⟩,
  ⟨0x2D0107, 1, 4, false, .ro, 0x0, 0x0, 0xFFFFFFFF, 0x0⟩,
  ⟨0x2D0200, 1, 64, false, .ro, 0x0, 0x0, 0x0, 0x0⟩,
  ⟨0x2D0300, 1, 64, false, .ro, 0x0, 0x0, 0x0, 0x0⟩,
  ⟨0x2D0400, 1, 1, false, .const, 0x4, 0x0, 0xFF, 0x0⟩,
  ⟨0x2D0401, 4, 1, false, .ro, 0x0, 0x0, 0xFF, 0x0⟩,
  ⟨0x2E0000, 1, 1, false, .const, 0x6, 0x0, 0xFF, 0x0⟩,
  ⟨0x2E0001, 1, 1, false, .ro, 0x0, 0x0, 0xFF, 0x0⟩,
  ⟨0x2E0002, 1, 1, false, .ro, 0xFF, 0x0, 0xFF, 0x0⟩,
  ⟨0x2E0003, 1, 4, false, .ro, 0x0, 0x0, 0xFFFFFFFF, 0x0⟩]
/-- Objects 2E00h to 2E20h. -/
def objRows12 : List ObjRow := [
  ⟨0x2E0004, 1, 1, false, .ro, 0x0, 0x0, 0xFF, 0x0⟩,
  ⟨0x2E0005, 1, 8, false, .ro, 0x0, 0x0, 0xFFFFFFFFFFFFFFFF, 0x0⟩,
  ⟨0x2E0006, 1, 4, false, .ro, 0x0, 0x0, 0xFFFFFFFF, 0x0⟩,
  ⟨0x2E0100, 1, 1, false, .const, 0x3, 0x0, 0xFF, 0x0⟩,
  ⟨0x2E0101, 1, 64, false, .ro, 0x0, 0x0, 0x0, 0x0⟩,
  ⟨0x2E0102, 1, 2592, false, .ro, 0x0, 0x0, 0x0, 0x0⟩,
  ⟨0x2E0103, 1, 4096, true, .ro, 0x0, 0x0, 0x0, 0x0⟩,
  ⟨0x2E1000, 1, 1, false, .const, 0x3, 0x0, 0xFF, 0x0⟩,
  ⟨0x2E1001, 1, 64, false, .wo, 0x0, 0x0, 0x0, 0x0⟩,
  ⟨0x2E1002, 1, 13003, true, .ro, 0x0, 0x0, 0x0, 0x0⟩,
  ⟨0x2E1003, 1, 8, false, .ro, 0x0, 0x0, 0xFFFFFFFFFFFFFFFF, 0x0⟩,
  ⟨0x2E1100, 1, 1568, false, .ro, 0x0, 0x0, 0x0, 0x0⟩,
  ⟨0x2E1200, 1, 1, false, .const, 0x3, 0x0, 0xFF, 0x0⟩,
  ⟨0x2E1201, 1, 1728, true, .wo, 0x0, 0x0, 0x0, 0x0⟩,
  ⟨0x2E1202, 1, 1, false, .ro, 0x0, 0x0, 0xFF, 0x0⟩,
  ⟨0x2E1203, 1, 4, false, .ro, 0x0, 0x0, 0xFFFFFFFF, 0x0⟩,
  ⟨0x2E1300, 1, 1, false, .const, 0x5, 0x0, 0xFF, 0x0⟩,
  ⟨0x2E1301, 1, 2, false, .rw, 0x1, 0x0, 0xFFFF, 0xFFF⟩,
  ⟨0x2E1302, 1, 1, false, .ro, 0x0, 0x0, 0xFF, 0x0⟩,
  ⟨0x2E1303, 1, 4, false, .ro, 0x0, 0x0, 0xFFFFFFFF, 0x0⟩,
  ⟨0x2E1304, 1, 1, false, .wo, 0x0, 0x0, 0xFF, 0x0⟩,
  ⟨0x2E1305, 1, 2, false, .ro, 0x0, 0x0, 0xFFFF, 0x0⟩,
  ⟨0x2E2000, 1, 1, false, .const, 0x8, 0x0, 0xFF, 0x0⟩,
  ⟨0x2E2001, 1, 1, false, .rw, 0x2, 0x0, 0x3, 0x0⟩,
  ⟨0x2E2002, 1, 1, false, .rw, 0x1, 0x0, 0x3, 0x0⟩,
  ⟨0x2E2003, 1, 1, false, .rw, 0x3, 0x0, 0x3, 0x0⟩,
  ⟨0x2E2004, 1, 1, false, .rw, 0x2, 0x0, 0x3, 0x0⟩,
  ⟨0x2E2005, 1, 1, false, .rw, 0x1, 0x0, 0x3, 0x0⟩,
  ⟨0x2E2006, 1, 1, false, .rw, 0x0, 0x0, 0x3, 0x0⟩,
  ⟨0x2E2007, 1, 1, false, .rw, 0x2, 0x0, 0x3, 0x0⟩]
/-- Objects 2E20h to 3000h. -/
def objRows13 : List ObjRow := [
  ⟨0x2E2008, 1, 1, false, .wo, 0x0, 0x0, 0xFF, 0x0⟩,
  ⟨0x2E3000, 1, 1, false, .const, 0x4, 0x0, 0xFF, 0x0⟩,
  ⟨0x2E3001, 1, 8, false, .ro, 0x0, 0x0, 0xFFFFFFFFFFFFFFFF, 0x0⟩,
  ⟨0x2E3002, 3, 4, false, .ro, 0x0, 0x0, 0xFFFFFFFF, 0x0⟩,
  ⟨0x2E4000, 1, 1, false, .const, 0x2, 0x0, 0xFF, 0x0⟩,
  ⟨0x2E4001, 1, 1, false, .rw, 0x0, 0x0, 0x1, 0x0⟩,
  ⟨0x2E4002, 1, 1, false, .ro, 0x0, 0x0, 0xFF, 0x0⟩,
  ⟨0x2F0000, 1, 1, false, .const, 0xA, 0x0, 0xFF, 0x0⟩,
  ⟨0x2F0001, 3, 1, false, .ro, 0x0, 0x0, 0xFF, 0x0⟩,
  ⟨0x2F0004, 2, 4, false, .ro, 0x0, 0x0, 0xFFFFFFFF, 0x0⟩,
  ⟨0x2F0006, 1, 1, false, .rw, 0x0, 0x0, 0x1, 0x0⟩,
  ⟨0x2F0007, 1, 4, false, .ro, 0x0, 0x0, 0xFFFFFFFF, 0x0⟩,
  ⟨0x2F0008, 1, 8, false, .ro, 0x0, 0x0, 0xFFFFFFFFFFFFFFFF, 0x0⟩,
  ⟨0x2F0009, 1, 4, false, .ro, 0x0, 0x0, 0xFFFFFFFF, 0x0⟩,
  ⟨0x2F000A, 1, 4, false, .rw, 0xC350, 0x64, 0xF4240, 0x0⟩,
  ⟨0x2F1000, 1, 1, false, .const, 0x5, 0x0, 0xFF, 0x0⟩,
  ⟨0x2F1001, 1, 8, false, .rw, 0x0, 0x0, 0xFFFFFFFFFFFFFFFF, 0x0⟩,
  ⟨0x2F1002, 1, 2, false, .rw, 0x0, 0x1, 0x400, 0x0⟩,
  ⟨0x2F1003, 1, 1, false, .wo, 0x0, 0x0, 0xFF, 0x0⟩,
  ⟨0x2F1004, 1, 1, false, .ro, 0x0, 0x0, 0xFF, 0x0⟩,
  ⟨0x2F1005, 1, 8, false, .ro, 0x0, 0x0, 0xFFFFFFFFFFFFFFFF, 0x0⟩,
  ⟨0x300000, 1, 1, false, .const, 0x14, 0x0, 0xFF, 0x0⟩,
  ⟨0x300001, 1, 4, false, .rw, 0xFFFFFFFF, 0x0, 0xFFFFFFFF, 0x0⟩,
  ⟨0x300002, 1, 4, false, .rw, 0x0, 0x0, 0xFFFFFFFF, 0x0⟩,
  ⟨0x300003, 2, 4, false, .rw, 0xFFFFFFFF, 0x0, 0xFFFFFFFF, 0x0⟩,
  ⟨0x300005, 6, 4, false, .ro, 0x0, 0x0, 0xFFFFFFFF, 0x0⟩,
  ⟨0x30000B, 1, 2, false, .rw, 0x0, 0x0, 0xFFFF, 0x0⟩,
  ⟨0x30000C, 1, 2, false, .rw, 0x100, 0x1, 0xFFFF, 0x0⟩,
  ⟨0x30000D, 1, 4, false, .rw, 0xFFFFFFFF, 0x0, 0xFFFFFFFF, 0x0⟩,
  ⟨0x30000E, 1, 4, false, .rw, 0x100000, 0x0, 0xFFFFFFFF, 0x0⟩]
/-- Objects 3000h to 5003h. -/
def objRows14 : List ObjRow := [
  ⟨0x30000F, 1, 4, false, .rw, 0xFFFFFFFF, 0x0, 0xFFFFFFFF, 0x0⟩,
  ⟨0x300010, 1, 4, false, .rw, 0x200000, 0x0, 0xFFFFFFFF, 0x0⟩,
  ⟨0x300011, 2, 8, false, .ro, 0x0, 0x0, 0xFFFFFFFFFFFFFFFF, 0x0⟩,
  ⟨0x300013, 1, 4, false, .ro, 0x0, 0x0, 0xFFFFFFFF, 0x0⟩,
  ⟨0x300014, 1, 2, false, .rw, 0x0, 0x0, 0xFFFF, 0xFFF⟩,
  ⟨0x500000, 1, 1, false, .const, 0xA, 0x0, 0xFF, 0x0⟩,
  ⟨0x500001, 1, 1, false, .sealed_, 0x0, 0x0, 0xFF, 0x0⟩,
  ⟨0x500002, 1, 4, false, .sealed_, 0x0, 0x0, 0xFFFFFFFF, 0x0⟩,
  ⟨0x500003, 1, 64, false, .sealed_, 0x0, 0x0, 0x0, 0x0⟩,
  ⟨0x500004, 1, 4, false, .sealed_, 0x0, 0x0, 0xFFFFFFFF, 0x0⟩,
  ⟨0x500005, 1, 64, false, .sealed_, 0x0, 0x0, 0x0, 0x0⟩,
  ⟨0x500006, 1, 4, false, .sealed_, 0x0, 0x0, 0xFFFFFFFF, 0x0⟩,
  ⟨0x500007, 2, 8, false, .sealed_, 0x0, 0x0, 0xFFFFFFFFFFFFFFFF, 0x0⟩,
  ⟨0x500009, 1, 7239, true, .sealed_, 0x0, 0x0, 0x0, 0x0⟩,
  ⟨0x50000A, 1, 65536, true, .wo, 0x0, 0x0, 0x0, 0x0⟩,
  ⟨0x500100, 1, 1, false, .const, 0x3, 0x0, 0xFF, 0x0⟩,
  ⟨0x500101, 1, 72, false, .wo, 0x0, 0x0, 0x0, 0x0⟩,
  ⟨0x500102, 1, 65536, true, .sealed_, 0x0, 0x0, 0x0, 0x0⟩,
  ⟨0x500103, 1, 4, false, .sealed_, 0x0, 0x0, 0xFFFFFFFF, 0x0⟩,
  ⟨0x500200, 1, 1, false, .const, 0x7, 0x0, 0xFF, 0x0⟩,
  ⟨0x500201, 1, 2, false, .sealed_, 0x0, 0x0, 0xFFFF, 0x0⟩,
  ⟨0x500202, 1, 8, false, .sealed_, 0x0, 0x0, 0xFFFFFFFFFFFFFFFF, 0x0⟩,
  ⟨0x500203, 1, 8, false, .sealed_, 0x1, 0x0, 0xFFFFFFFFFFFFFFFF, 0x0⟩,
  ⟨0x500204, 1, 8, false, .sealed_, 0x0, 0x0, 0xFFFFFFFFFFFFFFFF, 0x0⟩,
  ⟨0x500205, 1, 8, false, .rw, 0x0, 0x0, 0xFFFFFFFFFFFFFFFF, 0x0⟩,
  ⟨0x500206, 1, 32, false, .sealed_, 0x0, 0x0, 0x0, 0x0⟩,
  ⟨0x500207, 1, 80, false, .wo, 0x0, 0x0, 0x0, 0x0⟩,
  ⟨0x500300, 1, 1, false, .const, 0x3, 0x0, 0xFF, 0x0⟩,
  ⟨0x500301, 1, 65536, true, .wo, 0x0, 0x0, 0x0, 0x0⟩,
  ⟨0x500302, 2, 1, false, .sealed_, 0x0, 0x0, 0xFF, 0x0⟩]
/-- Objects 5004h to 5010h. -/
def objRows15 : List ObjRow := [
  ⟨0x500400, 1, 4, false, .wo, 0x0, 0x0, 0xFFFFFFFF, 0x0⟩,
  ⟨0x501000, 1, 1, false, .const, 0xA, 0x0, 0xFF, 0x0⟩,
  ⟨0x501001, 1, 2, false, .rw, 0x0, 0x0, 0xFFFF, 0xFFF⟩,
  ⟨0x501002, 6, 8, false, .sealed_, 0x0, 0x0, 0xFFFFFFFFFFFFFFFF, 0x0⟩,
  ⟨0x501008, 1, 4, false, .sealed_, 0x0, 0x0, 0xFFFFFFFF, 0x0⟩,
  ⟨0x501009, 1, 2, false, .wo, 0x0, 0x0, 0xFFFF, 0x0⟩,
  ⟨0x50100A, 1, 2, false, .sealed_, 0x0, 0x0, 0xFFFF, 0x0⟩]
/-- The dictionary in key order, one row for records that share a layout (their first index stands for all). -/
def objTable : List ObjRow := objRows0 ++ objRows1 ++ objRows2 ++ objRows3 ++ objRows4 ++ objRows5 ++ objRows6 ++ objRows7 ++ objRows8 ++ objRows9 ++ objRows10 ++ objRows11 ++ objRows12 ++ objRows13 ++ objRows14 ++ objRows15

/-- The records that share a layout, as (first index, last index). -/
def objSpans : List (Nat × Nat) :=
  [(0x1E01, 0x1E02), (0x2410, 0x2417), (0x2440, 0x244F), (0x2460, 0x246F), (0x2470, 0x247F), (0x2510, 0x251B),
   (0x2910, 0x2913), (0x2B80, 0x2BBF), (0x2C00, 0x2C07), (0x2F10, 0x2F11), (0x3000, 0x3FFF)]

/-- The key of the row that describes an object: the index of a record becomes the first of its layout. -/
def objFold (k : Nat) : Nat :=
  match objSpans.find? fun p => decide (p.1 ≤ k / 256) && decide (k / 256 ≤ p.2) with
  | some p => p.1 * 256 + k % 256
  | none => k

/-- The row of an object. -/
def objRow (k : Nat) : Option ObjRow :=
  objTable.find? fun r => decide (r.key ≤ objFold k) && decide (objFold k < r.key + r.count)

/-- Whether an index exists (R491). -/
def objIndex (index : Nat) : Bool :=
  objTable.any fun r => r.key / 256 == objFold (index * 256) / 256

/-- An object's default (R488). -/
def objDefault (k : Nat) : Nat :=
  match objRow k with
  | some r => r.dflt
  | none => 0

/-- The greatest value of an object's type. -/
def objMax (k : Nat) : Nat :=
  match objRow k with
  | some r => 256 ^ r.size - 1
  | none => 0

/-- An object's value as its register holds it. DESIGN CHOICE, log entry 138. -/
def State.obj (s : State) (k : Nat) : Nat := Map.getD s.regs k (objDefault k)

/-- Store an object's value. -/
def State.setObj (s : State) (k v : Nat) : State := { s with regs := Map.putD s.regs k v (objDefault k) }

/-- Add to a counter: 64-bit counters wrap, narrower ones saturate (R379). DESIGN CHOICE, log entry 13. -/
def State.bumpBy (s : State) (k n : Nat) : State :=
  let m := objMax k
  s.setObj k (if m = 2 ^ 64 - 1 then (s.obj k + n) % 2 ^ 64 else min (s.obj k + n) m)

/-- Count one event in a saturating counter. -/
def State.bump (s : State) (k : Nat) : State := s.bumpBy k 1

/-- The key of a subindex of record `i` of a layout whose first index is `first`. -/
def recKey (first i sub : Nat) : Nat := (first + i) * 256 + sub

end Sys2Proof.Machine
end

