-- ==== Sys2Proof/Machine/Flags.lean ====
section
/-! DEFINITION. Status codes, event codes, and the flags that the device computes from its state. -/

namespace Sys2Proof.Machine

/-- Terminal statuses (R135). -/
inductive Status where
  | ok | late | moved | stateLost | pageLost | quota | malformed | fenced | aborted | alreadyDone | contractFault
  | checkFail | busy
  deriving DecidableEq, Repr

/-- A status's code (R135). -/
def Status.code : Status → Nat
  | .ok => 0 | .late => 1 | .moved => 2 | .stateLost => 3 | .pageLost => 4 | .quota => 5 | .malformed => 6
  | .fenced => 7 | .aborted => 8 | .alreadyDone => 9 | .contractFault => 10 | .checkFail => 11 | .busy => 12

/-- A terminal answer: the status, its detail code and bytes 4 on of its status body (R136), with any counts after it. -/
structure Answer where
  status : Status
  detail : Nat := 0
  body : List Nat := []
  deriving DecidableEq, Repr

/-- BUSY_RETRY with a detail. -/
def Answer.busy (d : Nat) : Answer := ⟨.busy, d, []⟩
/-- MALFORMED with a detail and the byte offset of the offending field (R135). -/
def Answer.malformed (d off : Nat) : Answer := ⟨.malformed, d, leBytes 4 off⟩
/-- OK with a body. -/
def Answer.ok (body : List Nat := []) : Answer := ⟨.ok, 0, body⟩

/-- The code of a program state (2410h.01). -/
def ProgState.code : ProgState → Nat
  | .empty => 0 | .loaded => 1 | .running => 2 | .stopping => 3 | .stopped => 4

/-- The code of a start state (2000h.01). -/
def StartState.code : StartState → Nat
  | .rom => 0 | .identity => 1 | .margin => 2 | .training => 3 | .awaitBundle => 4 | .verify => 5 | .stewards => 6
  | .programs => 7 | .joining => 8 | .serving => 9 | .berm => 10

/-- The code of a port state (2510h.01). -/
def PortState.code : PortState → Nat
  | .disabled => 0 | .training => 1 | .pcsUp => 2 | .hello => 3 | .active => 4 | .hold => 5

/-- The code of a conduit state (2701h.02). -/
def ConduitState.code : ConduitState → Nat
  | .closed => 0 | .opening => 1 | .ready => 2 | .error => 3

/-- The code of a chart state (2440h.02). -/
def ChartState.code : ChartState → Nat
  | .idle => 0 | .proposing => 1 | .prepared => 2 | .transferring => 3

/-- The code of a pair state (2C10h.01). -/
def PairState.code : PairState → Nat
  | .off => 0 | .forming => 1 | .paired => 2 | .soleOwner => 3 | .detached => 4 | .rebuilding => 5

/-- The code of a fence state (2C20h.03). -/
def FenceState.code : FenceState → Nat
  | .live => 0 | .fenced => 1 | .probation => 2

/-- The code of a drive state (2910h.01). -/
def DriveState.code : DriveState → Nat
  | .absent => 0 | .initialising => 1 | .ready => 2 | .refused => 3 | .withdrawn => 4 | .offline => 5

/-- The code of a sequence state (R187). -/
def SeqState.code : SeqState → Nat
  | .active => 1 | .spilling => 2 | .spilled => 3 | .flushing => 4 | .flushed => 5 | .restoring => 6

/-- The code of a sleep state (2404h.04). -/
def SleepState.code : SleepState → Nat
  | .wet => 0 | .damp => 1 | .dry => 2

/-- The code of a steward state (2000h.0A). -/
def StewardState.code : StewardState → Nat
  | .off => 0 | .running => 1 | .halted => 2

/-- The code of Tidegauge's state (5000h.01). -/
def GaugeState.code : GaugeState → Nat
  | .awaiting => 0 | .running => 1 | .readOnly => 2 | .halted => 3 | .mismatch => 4

/-- A polder, a port, a drive, a ring's record. -/
def State.polder (s : State) (p : Nat) : Polder := Map.getD s.polders p {}
def State.setPolder (s : State) (p : Nat) (x : Polder) : State := { s with polders := Map.put s.polders p x }
def State.port (s : State) (n : Nat) : PortSt := Map.getD s.ports n {}
def State.setPort (s : State) (n : Nat) (x : PortSt) : State := { s with ports := Map.put s.ports n x }
def State.drive (s : State) (d : Nat) : DriveSt := Map.getD s.drives d {}
def State.setDrive (s : State) (d : Nat) (x : DriveSt) : State := { s with drives := Map.put s.drives d x }
def State.ring (s : State) (r : Nat) : RingSt := Map.getD s.rings r {}
def State.setRing (s : State) (r : Nat) (x : RingSt) : State := { s with rings := Map.put s.rings r x }
def State.conduit (s : State) (c : Nat) : Conduit := Map.getD s.conduits c {}
def State.setConduit (s : State) (c : Nat) (x : Conduit) : State := { s with conduits := Map.put s.conduits c x }
def State.chart (s : State) (i : Nat) : Chart := Map.getD s.charts i {}
def State.setChart (s : State) (i : Nat) (x : Chart) : State := { s with charts := Map.put s.charts i x }
def State.charge (s : State) (t : Nat) : Charges := Map.getD s.charges t {}
def State.setCharge (s : State) (t : Nat) (x : Charges) : State := { s with charges := Map.put s.charges t x }
def State.weight (s : State) (b : Nat) : Weights := Map.getD s.weights b {}
def State.setWeight (s : State) (b : Nat) (x : Weights) : State := { s with weights := Map.put s.weights b x }
/-- A steward's state. -/
def State.steward (s : State) (k : Nat) : StewardState := Map.getD s.start.stewards k .off

/-- A steward's running priority (R518): the highest priority among the sources it holds. -/
def State.runPrio (s : State) (k : Nat) : Option Nat :=
  let l := s.gath.sources.filter fun e => e.2.active && decide (e.2.route = some k)
  if l.isEmpty then none else some ((l.map fun e => e.2.held).foldl max 0)

/-- The error register 1001h (R510). -/
def State.errorRegister (s : State) : Nat :=
  let b1 := s.polders.any fun e => e.2.down || decide (e.2.prog = .stopped)
  let b2 := s.ports.any fun e => decide (e.2.st = .hold)
  let b3 := decide (s.obj 0x250001 = 1) && decide (s.pair.st ≠ .paired)
  let b4 := decide (s.fence.st = .fenced)
  let b5 := s.sec.acted.isSome
  let b6 := decide (s.start.fails ≠ [])
  let b7 := decide (s.gauge.st ≠ .running)
  b2n (b1 || b2 || b3 || b4 || b5 || b6 || b7) + 2 * b2n b1 + 4 * b2n b2 + 8 * b2n b3 + 16 * b2n b4 + 32 * b2n b5 +
    64 * b2n b6 + 128 * b2n b7

/-- HSTATUS (R531). -/
def State.hstatus (s : State) : Nat := s.start.st.code + 256 * b2n s.sec.conf

end Sys2Proof.Machine
end

