-- ==== Sys2Proof/Machine/Clock.lean ====
section
/-! DEFINITION. Device time and gauge time. -/

namespace Sys2Proof.Machine

/-- Nanoseconds that device time counts in one nanosecond: one more or one less where a PTP correction is slewed in, once in 10
microseconds (R389: at most 100 microseconds a second). -/
def State.timeStep (s : State) : Nat :=
  if s.gauge.time % 10000 ≠ 0 ∨ s.ptp.slew = 0 then 1 else if 0 < s.ptp.slew then 2 else 0

/-- The block with nothing to do: device time (R389) and gauge time (R439) each count one nanosecond, and every polder's mesh
port takes 512 bytes from its outbound queue (R17), which a DMESH under way fills as fast (R73). DESIGN CHOICE, log entry 14. -/
def State.tick (s : State) : State :=
  { s with time := s.time + s.timeStep, ptp := { s.ptp with slew := s.ptp.slew + 1 - s.timeStep }, gauge := { s.gauge with time := s.gauge.time + 1 },
           polders := Map.each s.polders fun _ x => { x with outq := x.outq + min x.meshIn 512 - 512, meshIn := x.meshIn - 512 } }

/-- The rate of permits at a polder (R382, R394, R395): the current tempo, or the droop fraction of the tempo that was current when
its tile's droop began, never above the current tempo. -/
def State.rate (s : State) (p : Nat) : Nat :=
  match Map.find s.tiles (p / 2) with
  | some t => if t.droop then min s.tempo.cur (t.tempo * s.obj 0x231002 / 100) else s.tempo.cur
  | none => s.tempo.cur

/-- The concurrency ceiling of the power cap (R391, R392). -/
def State.capConcurrency (s : State) : Nat := min s.power.concCeil (s.power.absorb.getD 512)

/-- Microseconds of device time since a moment. -/
def State.since (s : State) (t : Nat) : Nat := (s.time - t) / 1000

end Sys2Proof.Machine
end

