-- ==== Sys2Proof/Machine/Arith.lean ====
section
/-! DEFINITION. The number formats of R86 to R94, their conversions, and the arithmetic of R101 to R110. -/

namespace Sys2Proof.Machine

/-- A number as the units compute with it: not a number, an infinity, or sign, integer significand and power of two. -/
inductive Num where
  | nan
  | inf (neg : Bool)
  | fin (neg : Bool) (m : Nat) (e : Int)
  deriving DecidableEq, Repr

/-- A floating-point format (R87). `special` is 2 where the top exponent holds infinity and NaN, 1 where only its last
mantissa is NaN, 0 where there is neither. -/
structure FloatFmt where
  eb : Nat
  mb : Nat
  bias : Nat
  special : Nat
  deriving DecidableEq, Repr

/-- FP32, code 0h. -/
def fp32 : FloatFmt := ⟨8, 23, 127, 2⟩
/-- BF16, code 1h. -/
def bf16 : FloatFmt := ⟨8, 7, 127, 2⟩
/-- FP16, code 2h. -/
def fp16 : FloatFmt := ⟨5, 10, 15, 2⟩
/-- FP8 E4M3, code 3h. -/
def e4m3 : FloatFmt := ⟨4, 3, 7, 1⟩
/-- FP8 E5M2, code 4h. -/
def e5m2 : FloatFmt := ⟨5, 2, 15, 2⟩
/-- FP6 E3M2, code 5h. -/
def e3m2 : FloatFmt := ⟨3, 2, 3, 0⟩
/-- FP6 E2M3, code 6h. -/
def e2m3 : FloatFmt := ⟨2, 3, 1, 0⟩
/-- FP4 E2M1, code 7h. -/
def e2m1 : FloatFmt := ⟨2, 1, 1, 0⟩

/-- The value of a bit pattern of a floating-point format (R87), subnormals included (R104). -/
def FloatFmt.decode (f : FloatFmt) (v : Nat) : Num :=
  let neg := bit v (f.eb + f.mb)
  let ex := v / 2 ^ f.mb % 2 ^ f.eb
  let mn := v % 2 ^ f.mb
  let top := 2 ^ f.eb - 1
  if f.special = 2 ∧ ex = top then (if mn = 0 then .inf neg else .nan)
  else if f.special = 1 ∧ ex = top ∧ mn = 2 ^ f.mb - 1 then .nan
  else if ex = 0 then .fin neg mn (1 - (f.bias : Int) - f.mb)
  else .fin neg (2 ^ f.mb + mn) ((ex : Int) - f.bias - f.mb)

/-- `m` times 2 to the `k`, rounded to an integer: to nearest even, or toward zero (R101). -/
def roundShift (rz : Bool) (m : Nat) (k : Int) : Nat :=
  match k with
  | .ofNat n => m * 2 ^ n
  | .negSucc n =>
    let d := 2 ^ (n + 1)
    let q := m / d
    let r := m % d
    if rz then q else if 2 * r > d then q + 1 else if 2 * r = d ∧ q % 2 = 1 then q + 1 else q

/-- The magnitude code nearest to `m` times 2 to the `e`, its exponent unbounded above. -/
def FloatFmt.roundMag (f : FloatFmt) (rz : Bool) (m : Nat) (e : Int) : Nat :=
  if m = 0 then 0 else
    let low : Int := 1 - (f.bias : Int)
    let top := max (e + Nat.log2 m) low
    let q := top - f.mb
    (top - low).toNat * 2 ^ f.mb + roundShift rz m (e - q)

/-- The code of the largest finite magnitude. -/
def FloatFmt.maxMag (f : FloatFmt) : Nat :=
  if f.special = 2 then (2 ^ f.eb - 1) * 2 ^ f.mb - 1
  else if f.special = 1 then 2 ^ (f.eb + f.mb) - 2
  else 2 ^ (f.eb + f.mb) - 1

/-- Whether the format is FP32, BF16 or FP16, which overflow to infinity (R105). -/
def FloatFmt.wide (f : FloatFmt) : Bool := decide (f.special = 2) && decide (3 ≤ f.mb)

/-- Encode with the rounding and the out-of-range rules of R101, R105 and R106. -/
def FloatFmt.encode (f : FloatFmt) (rz : Bool) (x : Num) : Nat :=
  let sgn (neg : Bool) := b2n neg * 2 ^ (f.eb + f.mb)
  let infMag := (2 ^ f.eb - 1) * 2 ^ f.mb
  match x with
  | .nan => if f.wide then infMag + 2 ^ (f.mb - 1) else if f.special = 2 then 0x7E else if f.special = 1 then 0x7F else 0
  | .inf neg => sgn neg + (if f.special = 2 then infMag else f.maxMag)
  | .fin neg m e =>
    let c := f.roundMag rz m e
    sgn neg + (if c ≤ f.maxMag then c else if f.wide && !rz then infMag else f.maxMag)

/-- Round to an integer of `w` bits in two's complement, saturating; the flag says that it saturated or was NaN (R105, R107). -/
def encodeInt (w : Nat) (rz : Bool) (x : Num) : Nat × Bool :=
  let hi := 2 ^ (w - 1) - 1
  let wrap (neg : Bool) (n : Nat) := if neg then (2 ^ w - n) % 2 ^ w else n
  match x with
  | .nan => (0, true)
  | .inf neg => (wrap neg (if neg then hi + 1 else hi), true)
  | .fin neg m e =>
    let n := roundShift rz m e
    if n ≤ (if neg then hi + 1 else hi) then (wrap neg n, false) else (wrap neg (if neg then hi + 1 else hi), true)

/-- The value of a two's complement integer of `w` bits, scaled by 2 to the `e`. -/
def decodeInt (w v : Nat) (e : Int) : Num :=
  let v := v % 2 ^ w
  if v < 2 ^ (w - 1) then .fin false v e else .fin true (2 ^ w - v) e

/-- The floating-point format of a code of R86, where the code is one. -/
def floatOf : Nat → Option FloatFmt
  | 0 => some fp32 | 1 => some bf16 | 2 => some fp16 | 3 => some e4m3 | 4 => some e5m2
  | 5 => some e3m2 | 6 => some e2m3 | 7 => some e2m1
  | _ => none

/-- The width in bits of an element of a format code (R86). -/
def elemBits : Nat → Nat
  | 0 => 32 | 1 => 16 | 2 => 16 | 3 => 8 | 4 => 8 | 5 => 6 | 6 => 6 | 7 => 4
  | 8 => 8 | 9 => 6 | 10 => 4 | 11 => 8 | 12 => 8 | 13 => 4 | 14 => 32 | _ => 7

/-- The value of an unscaled element (R87), and of an MX element before its scale (R89). -/
def decodeElem (fmt v : Nat) : Num :=
  match fmt with
  | 8 => e4m3.decode v
  | 9 => e2m3.decode v
  | 10 => e2m1.decode v
  | 11 => decodeInt 8 v (-6)
  | 12 => decodeInt 8 v 0
  | 13 => decodeInt 4 v 0
  | 14 => decodeInt 32 v 0
  | c => match floatOf c with
    | some f => f.decode v
    | none => .nan

/-- Scale a value by a power of two. -/
def Num.scale (x : Num) (k : Int) : Num :=
  match x with
  | .fin neg m e => .fin neg m (e + k)
  | y => y

/-- An MX element under scale field `X` (R89); FFh reads NaN. -/
def decodeMx (fmt X v : Nat) : Num :=
  if X = 255 then .nan else (decodeElem fmt v).scale ((X : Int) - 127)

/-- A TERP7 element under channel exponent `X` (R92); FFh reads NaN. -/
def decodeTerp (X v : Nat) : Num :=
  if X = 255 then .nan else .fin (bit v 6) (v % 64) ((X : Int) - 132)

/-- Element `i` of packed elements of `w` bits (R88). -/
def packedAt (bs : List Nat) (w i : Nat) : Nat := leNat bs / 2 ^ (w * i) % 2 ^ w

/-- Pack elements of `w` bits in ascending order from bit 0 (R88). -/
def packNat (w : Nat) : List Nat → Nat
  | [] => 0
  | v :: vs => v % 2 ^ w + 2 ^ w * packNat w vs

/-- The bytes of packed elements. -/
def packElems (w : Nat) (vs : List Nat) : List Nat := leBytes ((w * vs.length + 7) / 8) (packNat w vs)

/-- Bytes that `n` elements take in a format: strips for the MX formats (R90), the block for TERP7 with 64 tokens (R93). -/
def fmtBytes (fmt n : Nat) : Nat :=
  if fmt = 15 then n / 64 * 57
  else if 8 ≤ fmt ∧ fmt ≤ 11 then n / 32 + n * elemBits fmt / 8
  else (n * elemBits fmt + 7) / 8

/-- Where strip elements stand (R90): the scale byte and the element of element `i` of a vector of `n`. -/
def stripAt (fmt n : Nat) (bs : List Nat) (i : Nat) : Num :=
  let strip := i / 256
  let base := strip * (8 + 256 * elemBits fmt / 8)
  let blocks := min 8 (n / 32 - strip * 8)
  decodeMx fmt (nth bs (base + i % 256 / 32)) (packedAt (bs.drop (base + blocks)) (elemBits fmt) (i % 256))

/-- Decode `n` elements of a format from bytes; `c` is the channel count of a TERP7 block. -/
def decodeVec (fmt n c : Nat) (bs : List Nat) : List Num :=
  (List.range n).map fun i =>
    if fmt = 15 then decodeTerp (nth bs (i % c)) (packedAt (bs.drop c) 7 i)
    else if 8 ≤ fmt ∧ fmt ≤ 11 then stripAt fmt n bs i
    else decodeElem fmt (packedAt bs (elemBits fmt) i)

/-- The exponent field of the largest magnitude among the inputs, with `bias` added, clamped to 0 to 254 (R91, R94);
FFh when an input is NaN or infinite. -/
def sharedExp (xs : List Num) (bias : Int) : Nat :=
  let step (acc : Option Int) (x : Num) : Option Int :=
    match x with
    | .fin _ m e => if m = 0 then acc else some (match acc with | some a => max a (e + Nat.log2 m) | none => e + Nat.log2 m)
    | _ => acc
  if xs.any (fun x => match x with | .fin .. => false | _ => true) then 255
  else match xs.foldl step none with
    | some a => (min 254 (max 0 (a + bias))).toNat
    | none => 0

/-- An MX block's scale and elements (R91). -/
def encodeMxBlock (fmt : Nat) (rz : Bool) (xs : List Num) : Nat × List Nat :=
  let E : Int := match fmt with | 8 => 8 | 9 => 2 | 10 => 2 | _ => 0
  let X := sharedExp xs (127 - E)
  let one (x : Num) : Nat :=
    let y := x.scale (127 - (X : Int))
    match fmt with
    | 8 => e4m3.encode rz y
    | 9 => e2m3.encode rz y
    | 10 => e2m1.encode rz y
    | _ =>
      match y with
      | .fin neg m e =>
        let n := min 127 (roundShift rz m (e + 6))
        if neg then (256 - n) % 256 else n
      | _ => 0
  (X, if X = 255 then xs.map (fun _ => 0) else xs.map one)

/-- Cut a list into runs of `n`. -/
def chunks {α : Type} (n : Nat) : Nat → List α → List (List α)
  | 0, _ => []
  | k + 1, l => if l.isEmpty then [] else l.take n :: chunks n k (l.drop n)

/-- The strips of an MX vector (R90). -/
def encodeStrips (fmt : Nat) (rz : Bool) (xs : List Num) : List Nat :=
  (chunks 256 (xs.length + 1) xs).flatMap fun strip =>
    let bl := (chunks 32 9 strip).map (encodeMxBlock fmt rz)
    bl.map Prod.fst ++ packElems (elemBits fmt) (bl.flatMap Prod.snd)

/-- A TERP7 block of `c` channels from elements in token order (R94). -/
def encodeTerpBlock (c : Nat) (rz : Bool) (xs : List Num) : List Nat :=
  let exps := (List.range c).map fun ch =>
    sharedExp ((List.range (xs.length / c)).map fun t => xs.getD (t * c + ch) .nan) 127
  let one (i : Nat) (x : Num) : Nat :=
    let X := nth exps (i % c)
    if X = 255 then 0 else
    match x.scale (132 - (X : Int)) with
    | .fin neg m e => b2n neg * 64 + min 63 (roundShift rz m e)
    | _ => 0
  exps ++ packElems 7 ((xs.zipIdx).map fun p => one p.2 p.1)

/-- Encode one element of an unscaled format, with the count it adds under R107. -/
def encodeElem (fmt : Nat) (rz : Bool) (x : Num) : Nat × Nat :=
  match fmt with
  | 12 => let r := encodeInt 8 rz x; (r.1, b2n r.2)
  | 13 => let r := encodeInt 4 rz x; (r.1, b2n r.2)
  | 14 => let r := encodeInt 32 rz x; (r.1, b2n r.2)
  | c => match floatOf c with
    | some f => (f.encode rz x, b2n (decide (x = .nan) && decide (f.special = 0)))
    | none => (0, 0)

/-- Encode a vector in a format; the bytes, and the count of arithmetic exceptions (R107). -/
def encodeVec (fmt c : Nat) (rz : Bool) (xs : List Num) : List Nat × Nat :=
  if fmt = 15 then (encodeTerpBlock c rz xs, 0)
  else if 8 ≤ fmt ∧ fmt ≤ 11 then (encodeStrips fmt rz xs, 0)
  else
    let r := xs.map (encodeElem fmt rz)
    (packElems (elemBits fmt) (r.map Prod.fst), (r.map Prod.snd).sum)

/-- The exact product (R102). -/
def Num.mul (x y : Num) : Num :=
  match x, y with
  | .nan, _ => .nan
  | _, .nan => .nan
  | .inf a, .inf b => .inf (a != b)
  | .inf a, .fin b m _ => if m = 0 then .nan else .inf (a != b)
  | .fin a m _, .inf b => if m = 0 then .nan else .inf (a != b)
  | .fin a m e, .fin b n f => .fin (a != b) (m * n) (e + f)

/-- The exact sum; a zero sum of unlike signs is +0. -/
def Num.add (x y : Num) : Num :=
  match x, y with
  | .nan, _ => .nan
  | _, .nan => .nan
  | .inf a, .inf b => if a = b then .inf a else .nan
  | .inf a, .fin .. => .inf a
  | .fin .., .inf b => .inf b
  | .fin a m e, .fin b n f =>
    let g := min e f
    let p : Int := (if a then -1 else 1) * (m * 2 ^ (e - g).toNat : Nat)
    let q : Int := (if b then -1 else 1) * (n * 2 ^ (f - g).toNat : Nat)
    let r := p + q
    if r = 0 then .fin (a && b) 0 g else .fin (decide (r < 0)) r.natAbs g

/-- The negation. -/
def Num.neg : Num → Num
  | .nan => .nan
  | .inf a => .inf (!a)
  | .fin a m e => .fin (!a) m e

/-- Round to an FP32 pattern, to nearest even (R101). -/
def toF32 (x : Num) : Nat := fp32.encode false x
/-- The value of an FP32 pattern. -/
def ofF32 (v : Nat) : Num := fp32.decode v
/-- Round to FP32, as a value. -/
def Num.round (x : Num) : Num := ofF32 (toF32 x)
/-- FP32 addition. -/
def fadd (x y : Nat) : Nat := toF32 ((ofF32 x).add (ofF32 y))
/-- FP32 multiplication. -/
def fmul (x y : Nat) : Nat := toF32 ((ofF32 x).mul (ofF32 y))
/-- FP32 fused multiply-add. -/
def ffma (x y z : Nat) : Nat := toF32 (((ofF32 x).mul (ofF32 y)).add (ofF32 z))

/-- Whether one number is below another; false with a NaN. -/
def Num.lt (x y : Num) : Bool :=
  match x.add y.neg with
  | .fin neg m _ => neg && decide (m ≠ 0)
  | .inf neg => neg
  | .nan => match x, y with
    | .inf a, .inf b => a && !b
    | _, _ => false

/-- The greater of two; NaN when either is (R108), +0 above -0. DEDUCED, log entry 15. -/
def fmax (x y : Nat) : Nat :=
  let a := ofF32 x
  let b := ofF32 y
  if a = .nan ∨ b = .nan then 0x7FC00000 else if a.lt b then y else if b.lt a then x else min x y

/-- The lesser of two; NaN when either is, -0 below +0. -/
def fmin (x y : Nat) : Nat :=
  let a := ofF32 x
  let b := ofF32 y
  if a = .nan ∨ b = .nan then 0x7FC00000 else if a.lt b then x else if b.lt a then y else max x y

/-- One level of a pairwise tree. -/
def pairUp : List Nat → List Nat
  | a :: b :: l => fadd a b :: pairUp l
  | l => l

/-- A pairwise tree over a list in ascending order (R103). -/
def treeSum : Nat → List Nat → Nat
  | 0, l => l.headD 0
  | n + 1, l => treeSum n (pairUp l)

/-- The pairwise tree over all of a list. -/
def ftree (l : List Nat) : Nat := treeSum l.length l

/-- The pairwise tree over exact products: the first level's sums are the first rounding (R102, R103). A single product is
rounded as it enters the accumulation. -/
def productTree (ps : List Num) : Nat :=
  let rec first : List Num → List Nat
    | a :: b :: l => toF32 (a.add b) :: first l
    | [a] => [toF32 a]
    | [] => []
  ftree (first ps)

/-- The scale of `expFixed`: 2 to the 300. -/
def expOne : Nat := 2 ^ 300

/-- Terms `k` on of the exponential series in fixed point: `t` is the present term. -/
def expSeries (y : Int) : Nat → Nat → Int → Int
  | 0, _, _ => 0
  | n + 1, k, t => t + expSeries y n (k + 1) (t * y / ((expOne : Int) * ((k : Int) + 1)))

/-- Square a fixed-point number `n` times. -/
def expSquare : Nat → Int → Int
  | 0, v => v
  | n + 1, v => expSquare n (v * v / (expOne : Int))

/-- The exponential of m times 2 to the e, between -120 and 90, in units of 2 to the -300, to far below R110's bound. -/
def expFixed (neg : Bool) (m : Nat) (e : Int) : Nat :=
  let y : Int := (if neg then -1 else 1) * (roundShift true m (e + 300) : Nat) / 256
  (expSquare 8 (expSeries y 60 0 expOne)).toNat

/-- R110: whether an FP32 pattern is within the bound of the exponential `a` (in units of 2 to the -300). -/
def expOk (a r : Nat) : Bool :=
  match ofF32 r with
  | .fin false m e =>
    let v := roundShift true m (e + 300)
    let d := if v ≤ a then a - v else v - a
    if 2 ^ 174 ≤ a then decide (d * 2 ^ 22 ≤ a) else decide (d ≤ 2 ^ 151)
  | _ => false

/-- EXP (R110): a free value within the bound; 0 for minus infinity, and beyond FP32's range infinity (R105). -/
def fexp (x : Nat) : Nat :=
  match ofF32 x with
  | .nan => 0x7FC00000
  | .inf true => 0
  | .inf false => 0x7F800000
  | .fin neg m e =>
    let whole := roundShift true m e
    if whole ≥ 90 ∧ !neg then 0x7F800000
    else
      let a := if whole ≥ 120 then 0 else expFixed neg m e
      let near := toF32 (.fin false a (-300))
      let free := (Config.expFree (BitVec.ofNat 32 x)).toNat
      if near = 0x7F800000 then near else if expOk a free then free else near

/-- BF16 rounding of an FP32 value, as the FP32 pattern it widens to (R109). -/
def bf16Round (x : Nat) : Nat := bf16.encode false (ofF32 x) * 65536

end Sys2Proof.Machine
end

