-- ==== Sys2Proof/Machine/Crc.lean ====
section
/-! DEFINITION. The check words: CRC-32C (R345) and CRC-64 (R132), both reflected. -/

namespace Sys2Proof.Machine

/-- One bit of a reflected CRC. -/
def crcBit (poly c : Nat) : Nat := if c % 2 = 1 then Nat.xor (c / 2) poly else c / 2

/-- One byte of a reflected CRC. -/
def crcByte (poly c b : Nat) : Nat :=
  let r := crcBit poly
  r (r (r (r (r (r (r (r (Nat.xor c (b % 256)))))))))

/-- A reflected CRC with an initial value of all ones and a final exclusive-or with all ones. -/
def crc (width poly : Nat) (bs : List Nat) : Nat :=
  Nat.xor (bs.foldl (crcByte poly) (2 ^ width - 1)) (2 ^ width - 1)

/-- CRC-32C, polynomial 1EDC6F41h (R345), reflected to 82F63B78h. -/
def crc32c (bs : List Nat) : Nat := crc 32 0x82F63B78 bs

/-- CRC-64 with the ECMA-182 polynomial 42F0E1EBA9EA3693h (R132), reflected to C96C5795D7870F42h. -/
def crc64 (bs : List Nat) : Nat := crc 64 0xC96C5795D7870F42 bs

/-- A sector's check word: over its 64 bytes and its index within its stack (R345). -/
def sectorWord (bs : List Nat) (index : Nat) : Nat := crc32c (bs ++ leBytes 4 index)

end Sys2Proof.Machine
end

