-- ==== Sys2Proof/Machine/Gatherer.lean ====
section
/-! DEFINITION. The event gatherer (R513 to R527) and the steward event log (R376). -/

namespace Sys2Proof.Machine

/-- Whether a source is listed in R514 and R542; the others never fire. -/
def sourceReal (x : Nat) : Bool :=
  if x < 0x40 then decide (x ≤ 0x18)
  else if x < 0xC0 then decide (x % 16 ≤ 10)
  else if x < 0xF0 then true
  else if x < 0x100 then decide (x % 4 ≠ 3)
  else decide (x ≤ 0x182)

/-- A source's state. -/
def State.source (s : State) (x : Nat) : GSource := Map.getD s.gath.sources x {}

/-- Store a source's state. -/
def State.setSource (s : State) (x : Nat) (g : GSource) : State :=
  { s with gath := { s.gath with sources := Map.put s.gath.sources x g } }

/-- An arrival at a source (R516, R526). -/
def GSource.arrive (g : GSource) : GSource :=
  let counted := { g with count := min (g.count + 1) 0xFFFF }
  match g.active, g.pending with
  | false, false => { g with pending := true, rearm := g.nextMode.getD g.rearm, nextMode := none }
  | false, true => if g.rearm then g else counted
  | true, false => if g.rearm then { g with pending := true } else counted
  | true, true => g

/-- An arrival; a source that is not listed never fires (R513). -/
def State.arrive (s : State) (x : Nat) : State :=
  if sourceReal x then s.setSource x (s.source x).arrive else s

/-- Source k of a polder (R513). -/
def polderSource (p k : Nat) : Nat := 0x40 + 16 * p + k
/-- Source k of a port. -/
def portSource (n k : Nat) : Nat := 0xC0 + 4 * n + k
/-- Source k of a drive. -/
def driveSource (d k : Nat) : Nat := 0xF0 + 4 * d + k

/-- Write an entry of the steward event log (R376). The unit classes are 1 polder, 2 port, 3 drive, 4 steward, 5 link.
DESIGN CHOICE, log entry 16. -/
def State.logEvent (s : State) (code : Nat) (cls unit count data : Nat := 0) : State :=
  let full := decide (s.log.entries.length ≥ 1048576)
  let e : LogEntry := ⟨s.time, code, cls, unit, count, data⟩
  let s := { s with log := ⟨(e :: s.log.entries).take 1048576, s.log.written + 1, s.log.lost + b2n full⟩ }
  if full then s.arrive 0x016 else s

/-- Software clears pending (R516). -/
def GSource.clear (g : GSource) : GSource :=
  if g.pending then (if g.active then { g with pending := false } else { g with pending := false, count := 0 }) else g

/-- The route completes the source (R516). -/
def GSource.complete (g : GSource) : GSource :=
  if g.pending then { g with active := false, route := none }
  else { g with active := false, route := none, last := g.count, count := 0, rearm := g.nextMode.getD g.rearm, nextMode := none }

/-- Whether a target accepts a source (R518). -/
def State.accepts (s : State) (g : GSource) (t : Nat) : Bool :=
  bit g.mask t &&
  if t < 4 then
    decide (s.steward t = .running) && decide (Map.getD s.gath.thresh t 0 ≤ g.prio) &&
    (match s.runPrio t with | none => true | some q => decide (q < g.prio))
  else
    let m := Map.getD s.gath.msix (t - 4) {}
    m.enable && !m.functionMask && m.unmasked.contains g.vector

/-- The first accepting target in the order of R519. -/
def State.target (s : State) (g : GSource) : Option Nat := [0, 1, 2, 3, 4, 5].find? (s.accepts g)

/-- Whether a source is eligible (R519). -/
def State.eligible (s : State) (g : GSource) : Bool :=
  g.pending && g.enable && !g.active && (s.target g).isSome

/-- The eligible source of highest priority, the lowest number among equals (R519). -/
def State.selected (s : State) : Option Nat :=
  let better (acc : Option (Nat × GSource)) (e : Nat × GSource) :=
    if s.eligible e.2 then
      match acc with
      | some a => if a.2.prio < e.2.prio then some e else acc
      | none => some e
    else acc
  (s.gath.sources.foldl better none).map Prod.fst

/-- An MSI-X write is 4 bytes of the host link's class 0 (R330), the twelfth resource. -/
def State.msixWork (s : State) : State :=
  { s with sched := { s.sched with queues := Map.put s.sched.queues 96 (Map.getD s.sched.queues 96 [] ++ [{ len := 4 }]) } }

/-- Route a source to a target and deliver it (R516, R519); PF0's MSI-X writes wait for its Bus Master Enable (R549). -/
def State.deliver (s : State) (x t : Nat) : State :=
  let g := s.source x
  let g' := { g with pending := false, active := true, route := some t, held := g.prio, deliveries := min (g.deliveries + 1) (2 ^ 32 - 1),
                     selected := s.time }
  let s := (s.setSource x g').bump 0x2D0005
  if t < 4 then
    { s with gath := { s.gath with claim := Map.put s.gath.claim t (Map.getD s.gath.claim t [] ++ [x]) } }
  else if t = 4 ∧ !s.host.master then { s with host := { s.host with waiting := s.host.waiting ++ [.msix false g.vector] } }
  else { s.msixWork with out := .msix (decide (t = 5)) g.vector :: s.out }

/-- Sources routed to an agent go back to PENDING, their counts kept (R516), and leave its claim queue. -/
def State.unroute (s : State) (t : Nat) : State :=
  let back (_ : Nat) (g : GSource) : GSource :=
    if g.active && decide (g.route = some t) then { g with pending := true, active := false, route := none } else g
  { s with gath := { s.gath with sources := Map.each s.gath.sources back, claim := Map.put s.gath.claim t [] } }

/-- Completion of a source by an agent (R516). -/
def State.completeBy (s : State) (t x : Nat) : State :=
  let g := s.source x
  if g.active && decide (g.route = some t) then s.setSource x g.complete else s.bump 0x2D0004

/-- Whether a mask that takes effect now comes within 3 steps of a source's selection, which it does not stop (R521). -/
def State.raced (s : State) (g : GSource) : Bool := g.active && decide (s.time * s.tempo.cur ≤ g.selected * s.tempo.cur + 3000)

/-- Count the deliveries that a mask forbids and that were selected within its window (R521, 2D00h.06). -/
def State.countRaced (s : State) (forbids : GSource → Bool) : State :=
  s.bumpBy 0x2D0006 (s.gath.sources.filter fun e => s.raced e.2 && forbids e.2).length

/-- A configuration write to a source (R520, R526, R527); none when it is refused. -/
def State.configure (s : State) (x value : Nat) : Option State :=
  let mask := bits value 13 8
  let vector := bits value 26 16
  if (bit mask 4 && decide (vector ≥ 1536)) || (bit mask 5 && decide (vector ≥ 512)) then none
  else
    let g := s.source x
    let stops := g.active && (!bit value 0 || !bit mask (g.route.getD 7))
    let s := if stops && s.raced g then s.bump 0x2D0006 else s
    let g := { g with enable := bit value 0, prio := bits value 7 4, mask := mask, vector := vector }
    some (s.setSource x (if g.active || g.pending then { g with nextMode := some (bit value 1) }
      else { g with rearm := bit value 1, nextMode := none }))

/-- SOURCE_ARRIVAL (R516). -/
def execSourceArrival (x : Source) (s : State) : Host.Outcome State Fault Refusal := .next (s.arrive x)

/-- GATHERER_SELECT (R519). -/
def State.select (s : State) : State :=
  match s.selected with
  | some x => match s.target (s.source x) with
    | some t => s.deliver x t
    | none => s
  | none => s
def execGathererSelect (s : State) : Host.Outcome State Fault Refusal := .next s.select

/-- GCLAIM (R525): the highest-priority source in the steward's claim queue. A halted steward reads valid 0 (R526). -/
def State.claim (s : State) (k : Nat) : State :=
  let q := Map.getD s.gath.claim k []
  let best := q.foldl (fun (acc : Option Nat) x => match acc with
    | some a => if (s.source a).held < (s.source x).held then some x else acc
    | none => some x) none
  match best with
  | none => { s with out := .reg k 0x0000 0 :: s.out }
  | some x =>
    { s with gath := { s.gath with claim := Map.put s.gath.claim k (q.erase x) },
             out := .reg k 0x0000 (x + 2 ^ 15 + (s.source x).held * 2 ^ 16) :: s.out }
def execGclaim (k : Stw) (s : State) : Host.Outcome State Fault Refusal := .next (s.claim k)

/-- GCOMPLETE (R525, R516). -/
def execGcomplete (k : Stw) (x : Source) (s : State) : Host.Outcome State Fault Refusal := .next (s.completeBy k x)

/-- A steward's threshold is set (R521, R525). -/
def State.setThreshold (s : State) (k value : Nat) : State :=
  let s := s.countRaced fun g => decide (g.route = some k) && decide (g.held < value)
  { s with gath := { s.gath with thresh := Map.put s.gath.thresh k value } }
/-- GTHRESH (R525). -/
def execGthresh (k : Stw) (value : Fin 16) (s : State) : Host.Outcome State Fault Refusal := .next (s.setThreshold k value)

/-- GPEND with a set (R525): an arrival. -/
def execGpendSet (x : Source) (s : State) : Host.Outcome State Fault Refusal := .next (s.arrive x)

/-- GPEND with a clear (R525, R516). -/
def State.clearPending (s : State) (x : Nat) : State := s.setSource x (s.source x).clear
def execGpendClear (x : Source) (s : State) : Host.Outcome State Fault Refusal := .next (s.clearPending x)

/-- The agent number of a host function. -/
def hostAgent (pf1 : Bool) : Nat := if pf1 then 5 else 4

/-- Whether a function's window is served: PF0 ends every BAR access with Unsupported Request in berm mode (R478). -/
def State.windowServed (s : State) (pf1 : Bool) : Bool := pf1 || decide (s.start.st ≠ .berm)

/-- COMPLETE in a host function's window (R525). -/
def execComplete (pf1 : Bool) (x : Source) (s : State) : Host.Outcome State Fault Refusal :=
  .next (if s.windowServed pf1 then s.completeBy (hostAgent pf1) x else s)

/-- SETPEND with a set (R525): only a source whose mask names the function. -/
def execSetpendSet (pf1 : Bool) (x : Source) (s : State) : Host.Outcome State Fault Refusal :=
  .next (if bit (s.source x).mask (hostAgent pf1) ∧ s.windowServed pf1 then s.arrive x else s)

/-- SETPEND with a clear (R525). -/
def execSetpendClear (pf1 : Bool) (x : Source) (s : State) : Host.Outcome State Fault Refusal :=
  .next (if bit (s.source x).mask (hostAgent pf1) ∧ s.windowServed pf1 then s.clearPending x else s)

/-- Control 01h of 2D01h.06 on the selected source (R527). -/
def execSourceSetPending (s : State) : Host.Outcome State Fault Refusal := .next (s.arrive (s.obj 0x2D0101))

/-- Control 02h of 2D01h.06 on the selected source (R527). -/
def execSourceClearPending (s : State) : Host.Outcome State Fault Refusal := .next (s.clearPending (s.obj 0x2D0101))

/-- A write of 2D01h.02 (R520, R527); a refused write changes nothing (R490). -/
def execSourceConfiguration (value : Nat) (s : State) : Host.Outcome State Fault Refusal :=
  .next ((s.configure (s.obj 0x2D0101) value).getD s)

/-- A write of a host function's MSI-X enable, function mask or a vector's mask (R518); disabling the capability returns
the function's sources to PENDING (R516). -/
def State.msixWrite (s : State) (pf1 enable functionMask : Bool) (vector : Nat) (masked : Bool) : State :=
  let i := b2n pf1
  let m := Map.getD s.gath.msix i {}
  let un := m.unmasked.filter fun v => v != vector
  let m' : MsiX := ⟨enable, functionMask, if masked then un else un ++ [vector]⟩
  let s := s.countRaced fun g => decide (g.route = some (hostAgent pf1)) && (functionMask || (masked && decide (g.vector = vector)))
  let s := { s with gath := { s.gath with msix := Map.put s.gath.msix i m' } }
  if m.enable && !enable then s.unroute (hostAgent pf1) else s
def execMsiXMaskWrite (pf1 enable functionMask : Bool) (vector : Nat) (masked : Bool) (s : State) :
    Host.Outcome State Fault Refusal := .next (s.msixWrite pf1 enable functionMask vector masked)

/-- GSTATE's word of a source (R525). -/
def GSource.word (g : GSource) : Nat := g.count + 2 ^ 16 * g.last + 2 ^ 32 * b2n g.pending + 2 ^ 33 * b2n g.active + 2 ^ 34 * g.route.getD 7

/-- STATE's word of a source in a host function's window (R525). -/
def GSource.hostWord (g : GSource) (pf1 : Bool) : Nat :=
  g.last + 2 ^ 16 * b2n g.pending + 2 ^ 17 * b2n (g.active && decide (g.route = some (hostAgent pf1)))

/-- A read of a steward's register other than GCLAIM (R525); an offset that the table gives no read reads zero. -/
def State.stewardRead (s : State) (k off : Nat) : Nat :=
  if off = 0x10 then Map.getD s.gath.thresh k 0
  else if off = 0x18 then (s.runPrio k).getD 0 + 16 * b2n (s.runPrio k).isSome
  else if 0x1000 ≤ off ∧ off < 0x2000 ∧ off % 8 = 0 then (s.source ((off - 0x1000) / 8)).word
  else 0

/-- A read of a host function's gatherer window (R525). -/
def State.functionRead (s : State) (pf1 : Bool) (off : Nat) : Nat :=
  if 0x1000 ≤ off ∧ off < 0x1800 ∧ off % 4 = 0 then (s.source ((off - 0x1000) / 4)).hostWord pf1 else 0

end Sys2Proof.Machine
end

