-- ==== Sys2Proof/Machine/Gcm.lean ====
section
/-! DEFINITION. AES-256-GCM, the cipher that the spec names for packets, envelopes, records and bounce buffers (R271, R413, R425): AES of FIPS 197, and
the counter mode and tag of NIST SP 800-38D with a 96-bit IV. PRESUMED, log entry 161. -/

namespace Sys2Proof.Machine

/-- Twice a byte in AES's field. -/
def aesDouble (a : Nat) : Nat := if a < 128 then 2 * a else Nat.xor (2 * a % 256) 0x1B

/-- The product of two bytes in AES's field. -/
def aesTimes (a b : Nat) : Nat :=
  ((List.range 8).foldl (fun (acc : Nat × Nat) i => (if bit b i then Nat.xor acc.1 acc.2 else acc.1, aesDouble acc.2)) (0, a)).1

/-- The inverse of a byte, 0 for 0: its power 254. -/
def aesInverse (a : Nat) : Nat :=
  let sq (x : Nat) : Nat := aesTimes x x
  ((List.range 6).foldl (fun (acc : Nat × Nat) _ => (aesTimes acc.1 (sq acc.2), sq acc.2)) (sq a, sq a)).1

/-- Rotate a byte left. -/
def rotByte (b n : Nat) : Nat := (b * 2 ^ n + b / 2 ^ (8 - n)) % 256

/-- The substitution of a byte. -/
def aesSub (a : Nat) : Nat :=
  let b := aesInverse (a % 256)
  Nat.xor (Nat.xor (Nat.xor (Nat.xor (Nat.xor b (rotByte b 1)) (rotByte b 2)) (rotByte b 3)) (rotByte b 4)) 0x63

/-- Exclusive-or of two runs of bytes, as long as the first. -/
def xorBytes (a b : List Nat) : List Nat := a.zipIdx.map fun x => Nat.xor x.1 (nth b x.2)

/-- The next word of a key schedule of words already there, newest first (AES-256: 8 words of key). -/
def nextWord (ws : List (List Nat)) (rcon i : Nat) : List Nat :=
  let t := ws.headD []
  let t := if i % 8 = 0 then xorBytes ((t.drop 1 ++ t.take 1).map aesSub) [rcon] else if i % 8 = 4 then t.map aesSub else t
  xorBytes (ws.getD 7 []) t

/-- The 60 words of a key of 32 bytes, in order. -/
def keySchedule (key : List Nat) : List (List Nat) :=
  let first := ((List.range 8).map fun i => (key.drop (4 * i)).take 4).reverse
  (((List.range 52).foldl (fun (acc : List (List Nat) × Nat) j =>
    let i := j + 8
    (nextWord acc.1 acc.2 i :: acc.1, if i % 8 = 0 then aesDouble acc.2 else acc.2)) (first, 1)).1).reverse

/-- The round key of a round: 16 bytes. -/
def roundKey (ws : List (List Nat)) (r : Nat) : List Nat := ((ws.drop (4 * r)).take 4).flatten

/-- Shift the rows of a block kept by columns. -/
def shiftRows (b : List Nat) : List Nat := (List.range 16).map fun i => nth b ((i + 4 * (i % 4)) % 16)

/-- Mix the columns of a block. -/
def mixColumns (b : List Nat) : List Nat :=
  (List.range 16).map fun i =>
    let c (k : Nat) : Nat := nth b (i / 4 * 4 + (i + k) % 4)
    Nat.xor (Nat.xor (aesDouble (c 0)) (Nat.xor (aesDouble (c 1)) (c 1))) (Nat.xor (c 2) (c 3))

/-- AES-256 of a block under a key schedule. -/
def aesBlock (ws : List (List Nat)) (b : List Nat) : List Nat :=
  let b := (List.range 13).foldl (fun b r => xorBytes (mixColumns (shiftRows (b.map aesSub))) (roundKey ws (r + 1))) (xorBytes b (roundKey ws 0))
  xorBytes (shiftRows (b.map aesSub)) (roundKey ws 14)

/-- The number that bytes spell, most significant byte first. -/
def beNat (bs : List Nat) : Nat := leNat bs.reverse
/-- The `n` bytes of a number, most significant byte first. -/
def beBytes (n v : Nat) : List Nat := (leBytes n v).reverse

/-- The product of two blocks in GCM's field. -/
def ghashTimes (x y : Nat) : Nat :=
  ((List.range 128).foldl (fun (acc : Nat × Nat) i =>
    (if bit x (127 - i) then Nat.xor acc.1 acc.2 else acc.1,
     if acc.2 % 2 = 1 then Nat.xor (acc.2 / 2) (0xE1 * 2 ^ 120) else acc.2 / 2)) (0, y)).1

/-- A run of bytes as blocks of 16, the last filled up with zeros; the fuel is at least their number. -/
def blocks16 (bs : List Nat) : Nat → List (List Nat)
  | 0 => []
  | n + 1 => if bs = [] then [] else ((bs ++ List.replicate 15 0).take 16) :: blocks16 (bs.drop 16) n

/-- GCM's hash of associated data and ciphertext. -/
def ghash (h : Nat) (aad c : List Nat) : Nat :=
  let lens := beBytes 8 (8 * aad.length) ++ beBytes 8 (8 * c.length)
  ((blocks16 aad aad.length) ++ blocks16 c c.length ++ [lens]).foldl (fun y b => ghashTimes (Nat.xor y (beNat b)) h) 0

/-- GCM's key stream from counter 2 on, as bytes. -/
def keyStream (ws : List (List Nat)) (iv : List Nat) (n : Nat) : List Nat :=
  (List.range ((n + 15) / 16)).flatMap fun i => aesBlock ws (iv ++ beBytes 4 (i + 2))

/-- GCM's tag over associated data and ciphertext: 16 bytes. -/
def gcmTag (key iv aad c : List Nat) : List Nat :=
  let ws := keySchedule key
  xorBytes (beBytes 16 (ghash (beNat (aesBlock ws (List.replicate 16 0))) aad c)) (aesBlock ws (iv ++ beBytes 4 1))

/-- What GCM makes of data under a key and IV, and back: the exclusive-or with the key stream. -/
def gcmText (key iv data : List Nat) : List Nat := xorBytes data (keyStream (keySchedule key) iv data.length)

/-- Seal data: its ciphertext, then the tag (R271, R413). -/
def gcmSeal (key iv aad data : List Nat) : List Nat :=
  let c := gcmText key iv data
  c ++ gcmTag key iv aad c

/-- Open a sealed run: its data, none where it is shorter than a tag or its tag does not verify. -/
def gcmOpen (key iv aad sealed_ : List Nat) : Option (List Nat) :=
  let n := sealed_.length - 16
  let c := sealed_.take n
  if 16 ≤ sealed_.length ∧ sealed_.drop n = gcmTag key iv aad c then some (gcmText key iv c) else none

end Sys2Proof.Machine
end

