-- ==== Sys2Proof/Machine/Sha3.lean ====
section
/-! DEFINITION. SHA3-512, the digest that the spec names throughout (R276, R323, R408, R413): FIPS 202's Keccak over 25 lanes of 64 bits.
PRESUMED, log entry 161. -/

namespace Sys2Proof.Machine

/-- Rotate a lane left. -/
def rotLane (x n : Nat) : Nat := (x * 2 ^ (n % 64) + x / 2 ^ (64 - n % 64)) % 2 ^ 64

/-- The rotation of the lane at (x, y), by 5 y + x. -/
def laneTurns : List Nat :=
  [0, 1, 62, 28, 27, 36, 44, 6, 55, 20, 3, 10, 43, 25, 39, 41, 45, 15, 21, 8, 18, 2, 61, 56, 14]

/-- The constants of the 24 rounds. -/
def roundConstants : List Nat :=
  [0x0000000000000001, 0x0000000000008082, 0x800000000000808A, 0x8000000080008000, 0x000000000000808B, 0x0000000080000001,
   0x8000000080008081, 0x8000000000008009, 0x000000000000008A, 0x0000000000000088, 0x0000000080008009, 0x000000008000000A,
   0x000000008000808B, 0x800000000000008B, 0x8000000000008089, 0x8000000000008003, 0x8000000000008002, 0x8000000000000080,
   0x000000000000800A, 0x800000008000000A, 0x8000000080008081, 0x8000000000008080, 0x0000000080000001, 0x8000000080008008]

/-- One round: theta, rho and pi, chi, iota. -/
def keccakRound (a : List Nat) (rc : Nat) : List Nat :=
  let col (x : Nat) : Nat := (List.range 5).foldl (fun c y => Nat.xor c (nth a (x % 5 + 5 * y))) 0
  let c := (List.range 5).map col
  let d := (List.range 5).map fun x => Nat.xor (nth c ((x + 4) % 5)) (rotLane (nth c ((x + 1) % 5)) 1)
  let t := (List.range 25).map fun i => Nat.xor (nth a i) (nth d (i % 5))
  let b := (List.range 25).map fun i =>
    let from_ := (i % 5 + 3 * (i / 5)) % 5 + 5 * (i % 5)
    rotLane (nth t from_) (nth laneTurns from_)
  (List.range 25).map fun i =>
    let at_ (k : Nat) : Nat := nth b ((i % 5 + k) % 5 + i / 5 * 5)
    Nat.xor (Nat.xor (at_ 0) (Nat.land (2 ^ 64 - 1 - at_ 1) (at_ 2))) (if i = 0 then rc else 0)

/-- The permutation. -/
def keccak (a : List Nat) : List Nat := roundConstants.foldl keccakRound a

/-- Absorb a block of 72 bytes into the lanes. -/
def absorbBlock (a : List Nat) (block : List Nat) : List Nat :=
  keccak ((List.range 25).map fun i => Nat.xor (nth a i) (if i < 9 then leNat ((block.drop (8 * i)).take 8) else 0))

/-- Absorb whole blocks, the fuel at least their number. -/
def absorbAll (a : List Nat) (bs : List Nat) : Nat → List Nat
  | 0 => a
  | n + 1 => if bs = [] then a else absorbAll (absorbBlock a (bs.take 72)) (bs.drop 72) n

/-- SHA3-512 of a run of bytes: 64 bytes. -/
def sha3 (bs : List Nat) : List Nat :=
  let gap := 72 - bs.length % 72
  let pad := if gap = 1 then [0x86] else [6] ++ List.replicate (gap - 2) 0 ++ [0x80]
  let a := absorbAll (List.replicate 25 0) (bs ++ pad) (bs.length / 72 + 1)
  (List.range 8).flatMap fun i => leBytes 8 (nth a i)

end Sys2Proof.Machine
end

