-- ==== Sys2Proof/Machine/Wire.lean ====
section
/-! DEFINITION. Bytes on the wire: fields, the part's public values, a packet's header, check and cipher (R266, R267, R271, R418, R419), and the payloads of
link-control frames (R275, R276, R364). -/

namespace Sys2Proof
open Sys2Proof.Machine

/-- The header's 32 bytes with a hop limit (R266). -/
def Packet.headerAt (k : Packet) (hop len : Nat) : List Nat :=
  [k.version % 16 + 16 * (k.ptype % 16), k.cls.val + 8 * b2n k.enc + 16 * b2n k.last] ++ leBytes 2 len ++
    leBytes 4 (k.dst % 2 ^ 20 + 2 ^ 20 * (k.polSel % 16) + 2 ^ 24 * (hop % 64)) ++
    leBytes 4 (k.src % 2 ^ 20 + 2 ^ 20 * (k.srcSel % 16) + 2 ^ 24 * (k.kind % 256)) ++ leBytes 4 k.msg ++ leBytes 4 (k.off % 2 ^ 20) ++
    leBytes 4 (k.total % 2 ^ 21) ++ leBytes 2 k.key ++ [0, 0] ++ leBytes 4 k.kindWord

/-- The header's bytes as they travel. -/
def Packet.header (k : Packet) : List Nat := k.headerAt k.hop k.len

/-- The packet's check (R267): CRC-64 over the header, the hop limit as zero, and the payload. -/
def Packet.sum (k : Packet) : Nat := crc64 (k.headerAt 0 k.len ++ k.data)

/-- Whether a packet's check agrees. -/
def Packet.ok (k : Packet) : Bool := decide (k.check = k.sum)

/-- A packet with its check (R267). -/
def Packet.checked (k : Packet) : Packet := { k with check := k.sum }

/-- The GCM IV of an encrypted packet (R419). -/
def Packet.iv (k : Packet) : List Nat := leBytes 4 (k.src % 2 ^ 20) ++ leBytes 4 k.msg ++ leBytes 4 (k.off % 2 ^ 20)

/-- A packet of clear data sealed under a key (R271): ciphertext, then the tag; the additional data is the header, the hop limit as zero. -/
def Packet.sealUnder (key : Nat) (k : Packet) : Packet :=
  { k with data := gcmSeal (leBytes 32 key) k.iv (k.headerAt 0 (k.len + 16)) k.data }

/-- The data bytes of a packet sealed under a key (R271), none where the tag fails. -/
def Packet.openUnder (key : Nat) (k : Packet) : Option (List Nat) := gcmOpen (leBytes 32 key) k.iv (k.headerAt 0 k.len) k.data

/-- A HELLO's 64 payload bytes (R276). -/
def Hello.bytes (h : Hello) : List Nat :=
  leBytes 4 h.vendor ++ leBytes 4 h.product ++ leBytes 4 h.revision ++ leBytes 4 h.serial ++ leBytes 16 h.digest ++ leBytes 4 (h.node % 2 ^ 20) ++
    [h.port % 256, b2n h.pairLink + 2 * b2n h.ready + 4 * b2n h.heard] ++ leBytes 2 h.seq ++ List.replicate 24 0

/-- A PAIR_BEAT's 32 payload bytes (R364), sent at a moment. -/
def Beat.bytes (b : Beat) (now : Nat) : List Nat :=
  leBytes 8 now ++ leBytes 4 b.seq ++ leBytes 4 b.epoch ++
    [b2n b.sole + 2 * b2n b.fenced + 4 * b2n b.probation + 8 * b2n b.rebuilding + 16 * b2n b.detached, b.down % 256, 0, 0] ++ leBytes 4 b.placed ++
    List.replicate 8 0

end Sys2Proof

namespace Sys2Proof.Machine

/-- Fields, each of a number of bytes, one after another, least significant byte first (R14). -/
def fields (l : List (Nat × Nat)) : Nat := l.foldr (fun f acc => f.2 % 256 ^ f.1 + 256 ^ f.1 * acc) 0

/-- Bytes that the part carries and the spec does not give: value `which`. -/
def publicRun (which n : Nat) : List Nat := (List.range n).map fun j => (Config.publicValue (which * 65536 + j)).toNat % 256
def publicBytes (which n : Nat) : Nat := leNat (publicRun which n)

/-- The identity public key: that of the package record (R406, R407). -/
def State.idKey (s : State) : List Nat := (s.pkg.record.drop 92).take 2592

/-- The identity key digest (2E01h.01): SHA3-512 of the identity public key, zeros while there is no such key (R403, R406). -/
def State.idDigest (s : State) : Nat := if s.sec.identityKey then leNat (sha3 s.idKey) else 0

/-- A job key slot, and the key that a key index names (R418): of its generation and direction, none where that is not installed. -/
def State.jobSlot (s : State) (k : Nat) : JobSlot := Map.getD s.sec.slots k {}
def State.keyAt (s : State) (index : Nat) : Option Nat :=
  let j := s.jobSlot (index % 4096)
  (if bit index 14 then j.gen1 else j.gen0).map fun p => if bit index 15 then p.2 else p.1

end Sys2Proof.Machine
end

