-- ==== Sys2Proof/Machine/Egress.lean ====
section
/-! DEFINITION. What leaves the device: credits (R280, R281), routing and spray (R283 to R288), sourced messages (R269, R329, R335, R336, R420), and work for the schedulers (R328, R330). -/

namespace Sys2Proof.Machine

/-- Credit units of a packet (R280). -/
def needUnits (len : Nat) : Nat := (40 + len + 255) / 256

/-- Available units of a class: granted less consumed, modulo 2 to the 32 (R280, R281). -/
def PortSt.avail (x : PortSt) (c : Nat) : Nat := (nth x.granted c + (2 ^ 32 - nth x.consumed c % 2 ^ 32)) % 2 ^ 32

/-- Resource numbers: fabric ports 0 to 11, the host link, the root ports A and B, the stacks (R328). -/
def hostLink : Nat := 12
def flashRoot (d : Nat) : Nat := 13 + d / 2
def stackRes (k : Nat) : Nat := 15 + k
def resNumber : Resource → Nat
  | .fabric p => p
  | .host => hostLink
  | .flash b => 13 + b2n b
  | .stack k => stackRes k

/-- A resource's queue of a class. -/
def resClass (res c : Nat) : Nat := res * 8 + c % 8

/-- Put a unit of work at the end of a resource's class. -/
def State.enqueue (s : State) (res c : Nat) (w : Work) : State :=
  let k := resClass res c
  { s with sched := { s.sched with queues := Map.put s.sched.queues k (Map.getD s.sched.queues k [] ++ [w]) } }

/-- A unit of work of the host link, flash or a stack interface (R330). -/
def State.work (s : State) (res c len : Nat) : State := s.enqueue res c { len := len }

/-- This device's node (2600h.01). -/
def State.me (s : State) : Nat := s.obj 0x260001

/-- The domain of a node (R272). -/
def domainOf (node : Nat) : Nat := node / 2 ^ 14 % 64

/-- An entry of the active routing bank (R283, R284). DEDUCED, log entry 128. -/
def State.routeEntry (s : State) (dst : Nat) : Nat :=
  Map.getD (if s.bank then s.routes1 else s.routes0) (dst % 2 ^ 14) 0

/-- The hops of an entry from a bit on: four of four bits each, hop 0 first. -/
def hopsAt (e lo : Nat) : List Nat := (List.range 4).map fun i => e / 2 ^ (lo + 4 * i) % 16

/-- Whether pair mode makes a port a pair link (R292). -/
def State.pairLink (s : State) (n : Nat) : Bool := s.pair.mode && (decide (n = 10) || decide (n = 11))

/-- The key of a port and a destination that a PATH_DOWN named there. -/
def downKey (n dst : Nat) : Nat := n * 2 ^ 20 + dst

/-- Whether a hop is eligible for a packet (R286, R292): MIRROR messages travel on pair links only. -/
def State.eligibleHop (s : State) (k : Packet) (inPort : Option Nat) (n : Nat) : Bool :=
  decide (n < 12) && decide ((s.port n).st = .active) && decide (some n ≠ inPort) && !Map.has s.downMarks (downKey n k.dst) &&
  (if s.pairLink n then decide (k.dst = s.pair.partner ∨ k.src = s.pair.partner) else decide (k.kind ≠ 8))

/-- What R286 says of a packet: no eligible hop, a wait for units, or a port. -/
inductive Hop where
  | none
  | wait
  | go (n : Nat)
  deriving DecidableEq, Repr

/-- The hop with the most available units that cover the need, the lowest position among equals. -/
def State.bestHop (s : State) (k : Packet) (hops : List Nat) : Option Nat :=
  let c := k.cls.val
  hops.foldl (fun acc n =>
    if (s.port n).avail c < needUnits k.len then acc
    else match acc with
      | some b => if (s.port b).avail c < (s.port n).avail c then some n else acc
      | none => some n) none

/-- The choice among the primaries, or among the alternates when no primary is eligible (R286). -/
def State.chooseHop (s : State) (k : Packet) (inPort : Option Nat) : Hop :=
  let e := s.routeEntry k.dst
  let pick (l : List Nat) : Hop := match s.bestHop k l with | some n => .go n | Option.none => .wait
  match (hopsAt e 0).filter (s.eligibleHop k inPort), (hopsAt e 16).filter (s.eligibleHop k inPort) with
  | [], [] => .none
  | [], alt => pick alt
  | prim, _ => pick prim

/-- The node that addresses only the link neighbour (R272). -/
def linkNode : Nat := 0xFFFFF

/-- A link-control frame (R275). DESIGN CHOICE, log entry 52. -/
def State.controlFrame (s : State) (subtype : Nat) (payload : List Nat) : Packet :=
  ({ ptype := 1, cls := 0, dst := linkNode, hop := 0, src := s.me, kind := subtype, msg := 0, off := 0, total := 0, data := payload } : Packet).checked

/-- Whether packets wait that a port could send. -/
def State.packetsWait (s : State) (n : Nat) : Bool :=
  (List.range 8).any (fun c => !(Map.getD s.sched.queues (resClass n c) []).isEmpty) || s.sched.upper.any fun e => !e.2.isEmpty

/-- A link-control frame leaves. -/
def State.putControl (s : State) (n : Nat) (k : Packet) : State :=
  { s.setPort n { s.port n with ctlSent := true } with out := .packet n k :: s.out }

/-- Send a link-control frame ahead of every class: at most one leaves between two packets (R275). DEDUCED, log entry 153. -/
def State.sendControl (s : State) (n subtype : Nat) (payload : List Nat) : State :=
  let k := s.controlFrame subtype payload
  let x := s.port n
  if x.ctlSent && s.packetsWait n then s.setPort n { x with ctl := x.ctl ++ [k] } else s.putControl n k

/-- The next link-control frame that waited leaves. -/
def State.releaseControl (s : State) (n : Nat) : State :=
  match (s.port n).ctl with
  | [] => s
  | k :: l => (s.setPort n { s.port n with ctl := l }).putControl n k

/-- Close the 400GMII frame that a port has open (R265). -/
def State.closeFrame (s : State) (n : Nat) : State :=
  if (s.port n).inFrame = 0 then s else { s.setPort n { s.port n with inFrame := 0 } with out := .frameEnd n :: s.out }

/-- A packet takes its place in the port's 400GMII frame, which closes after 16 (R265), and the next link-control frame follows (R275). -/
def State.afterPacket (s : State) (n : Nat) : State :=
  let x := s.port n
  let s := s.setPort n { x with inFrame := x.inFrame + 1, ctlSent := false }
  (if x.inFrame + 1 ≥ 16 then s.closeFrame n else s).releaseControl n

/-- Send a CREDIT (R275, R281): eight cumulative grants, class 0 first. -/
def State.sendCredit (s : State) (n : Nat) : State :=
  let x := s.port n
  (s.setPort n { x with returned := [] }).sendControl n 2 ((List.range 8).flatMap fun c => leBytes 4 (nth x.rxGranted c))

/-- Return a packet's units to the neighbour (R281): a CREDIT goes as soon as 16 have been returned since the last. -/
def State.returnUnits (s : State) (n c len : Nat) : State :=
  let x := s.port n
  let u := needUnits len
  let x := { x with rxGranted := setNth x.rxGranted c ((nth x.rxGranted c + u) % 2 ^ 32), returned := [nth x.returned 0 + u] }
  let s := s.setPort n x
  if nth x.returned 0 ≥ 16 ∧ x.st = .active then s.sendCredit n else s

/-- A received packet leaves its ingress buffer: its units return, unless its port has left ACTIVE since. -/
def State.leaveIngress (s : State) (k : Packet) (w : Work) : State :=
  match w.inPort with
  | some n => if w.stale then s else s.returnUnits n k.cls k.len
  | none => s

/-- Send a PATH_DOWN out of an ACTIVE port, at most one per port and destination in any 10 microseconds (R287). -/
def State.sendPathDown (s : State) (n dst : Nat) : State :=
  let key := downKey n dst
  let due := match Map.find s.downSent key with | some t => decide (s.since t ≥ 10) | none => true
  if due && decide ((s.port n).st = .active) then
    { s.bump 0x26000A with downSent := Map.put s.downSent key s.time }.sendControl n 4 (leBytes 4 (dst % 2 ^ 20))
  else s

/-- Discard a packet that no hop can take (R286, R287): counted, raised, its units returned, and answered by PATH_DOWN where it
was received. -/
def State.discardNoRoute (s : State) (k : Packet) (w : Work) (answer : Bool) : State :=
  let s := ((s.bump 0x260007).arrive 0x015).leaveIngress k w
  match w.inPort with
  | some n => if answer then s.sendPathDown n k.dst else s
  | none => s

/-- Assign a packet to an egress class queue by R286, or let it wait. -/
def State.spray (s : State) (w : Work) (k : Packet) : State :=
  match s.chooseHop k w.inPort with
  | .go n => s.enqueue n k.cls w
  | .wait => { s with sched := { s.sched with waiting := s.sched.waiting ++ [(k.cls.val, w)] } }
  | .none => s.discardNoRoute k w true

/-- Take the waiting packets through R286 again: credit came, or the eligible hops changed. -/
def State.respray (s : State) : State :=
  let l := s.sched.waiting
  let s := { s with sched := { s.sched with waiting := [] } }
  l.foldl (fun s x => match x.2.pkt with | some k => s.spray x.2 k | none => s) s

/-- The packets of a message (R267, R269, R271): every packet but the last is full; under a key each is sealed. -/
def packetsOf (key : Option Nat) (k : Packet) (data : List Nat) : List Packet :=
  let room := if key.isSome then 4080 else 4096
  (List.range ((data.length + room - 1) / room)).map fun i =>
    let part := (data.drop (i * room)).take room
    let p := { k with off := i * room, total := data.length, data := part, last := decide (i * room + part.length = data.length) }
    (match key with | some x => p.sealUnder x | none => p).checked

/-- The key index under which this device sends with a slot (R418, R421); 0 for none. -/
def State.keyIndex (s : State) (slot : Nat) : Nat :=
  if slot = 0 then 0 else slot % 4096 + 2 ^ 14 * b2n (Map.getD s.sec.slots slot {}).sending + 2 ^ 15

/-- Whether a slot may source no further message (R420). -/
def State.exhausted (s : State) (slot : Nat) : Bool :=
  decide (slot ≠ 0) && decide ((Map.getD s.sec.slots slot {}).drawn ≥ 2 ^ 32 - 2 ^ 24)

/-- The identifiers of this device's open messages, whatever their destination (R270). -/
def State.openIds (s : State) : List Nat :=
  let l (m : Map SentMsg) : List Nat := (m.filter fun e => decide (e.2.tries ≠ 0)).map fun e => e.2.msg
  (s.conduits.flatMap fun e => l e.2.unplaced) ++ l s.pair.unplaced

/-- The next identifier from one on that no open message has (R270). -/
def freshId (l : List Nat) (id : Nat) : Nat → Nat
  | 0 => id
  | n + 1 => if l.contains id then freshId l ((id + 1) % 2 ^ 32) n else id

/-- Draw a message identifier, counted for the slot it goes under (R270, R420). PRESUMED, log entry 65. -/
def State.drawId (s : State) (slot : Nat) : State × Nat :=
  let id := freshId s.openIds (s.sec.msgId % 2 ^ 32) s.openIds.length
  let s := { s with sec := { s.sec with msgId := (id + 1) % 2 ^ 32 } }
  if slot = 0 then (s, id)
  else
    let j := Map.getD s.sec.slots slot {}
    let n := j.drawn + 1
    let s := { s with sec := { s.sec with slots := Map.put s.sec.slots slot { j with drawn := n } } }
    (if n = 2 ^ 31 ∨ n = 2 ^ 32 - 2 ^ 24 then s.arrive 0x00F else s, id)

/-- Whether two runs of bytes overlap. -/
def overlaps (a n b m : Nat) : Bool := decide (a < b + m) && decide (b < a + n)

/-- Add a range of bytes to a list of ranges, joining what overlaps (R158, R295). -/
def addRange (l : List (Nat × Nat)) (a n : Nat) : List (Nat × Nat) :=
  let near := l.filter fun x => decide (x.1 ≤ a + n) && decide (a ≤ x.1 + x.2)
  let far := l.filter fun x => !(decide (x.1 ≤ a + n) && decide (a ≤ x.1 + x.2))
  let lo := near.foldl (fun m x => min m x.1) a
  let hi := near.foldl (fun m x => max m (x.1 + x.2)) (a + n)
  (lo, hi - lo) :: far

/-- Bytes that the ranges hold. -/
def rangeTotal (l : List (Nat × Nat)) : Nat := (l.map Prod.snd).sum

/-- Reassembly bytes reserved (2700h.05). -/
def State.reserved (s : State) : Nat := (s.contexts.map fun c => c.total).sum

/-- Whether a range overlaps ranges placed. -/
def overlapsAny (l : List (Nat × Nat)) (a n : Nat) : Bool := l.any fun r => overlaps r.1 r.2 a n

/-- A complete message's bytes. -/
def Context.bytes (c : Context) : List Nat := (Map.vals c.parts).flatten

/-- A complete message goes to its consumer (R298), whose own command says what it does; one of a reserved operation is discarded, a conduit's
counted (R302, R323, R362, R385). DESIGN CHOICE, log entry 154. -/
def State.handOver (s : State) (c : Context) : State :=
  let op := if c.kind = 5 then c.kindWord / 2 ^ 20 % 256 else c.kindWord % 256
  let last := if c.kind = 5 then 12 else if c.kind = 6 then 6 else if c.kind = 7 then 7 else 2
  if 5 ≤ c.kind ∧ (op = 0 ∨ last < op) then (if c.kind = 5 then s.bump 0x270008 else s)
  else { s with out := .delivered c.source c.sel c.msg c.kind c.kindWord c.slot c.bytes :: s.out }

/-- Offer a packet of clear data to reassembly (R295 to R298): none when no context or space is free. -/
def State.reassemble (s : State) (k : Packet) : Option State :=
  let mine (c : Context) : Bool := decide (c.source = k.src) && decide (c.msg = k.msg)
  let bad := some (s.bump 0x270008)
  let put (c : Context) (rest : List Context) : Option State :=
    let r := addRange c.ranges k.off k.len
    let c := { c with ranges := r, parts := Map.put c.parts k.off k.data }
    if k.off + k.len > c.total ∨ r.length > 512 then bad
    else if rangeTotal r = c.total then
      some ({ s with contexts := rest }.handOver c)
    else some { s with contexts := rest ++ [c] }
  if k.len = 0 ∨ k.total = 0 ∨ k.total > 1048576 then bad
  else match s.contexts.find? mine with
  | some c => if c.total ≠ k.total ∨ overlapsAny c.ranges k.off k.len then bad else put c (s.contexts.filter fun c => !mine c)
  | none =>
    if s.contexts.length ≥ 4096 ∨ s.reserved + k.total > 16777216 then none
    else put { source := k.src, msg := k.msg, total := k.total, kind := k.kind, kindWord := k.kindWord, sel := k.srcSel, slot := k.key % 4096,
               opened := s.time } s.contexts

/-- Bytes that the miss buffer holds. -/
def State.missBytes (s : State) : Nat := (s.miss.map fun k => k.len).sum

/-- Ask the host for a record that is not on-die (R304, R310). -/
def State.fetchRecord (s : State) (c : Nat) : State :=
  if (s.conduit c).onDie then s else (s.bump 0x270009).work hostLink 1 256

/-- What the Lemweave engine does with a packet of clear data (R295, R310, R311): none when it must wait in its ingress buffer. -/
def State.acceptClear (s : State) (k : Packet) : Option State :=
  let c := k.kindWord % 2 ^ 20
  let x := s.conduit c
  if k.kind = 5 ∧ k.kindWord / 2 ^ 20 % 256 ≠ 1 ∧ x.st = .closed then some (s.bump 0x270008)
  else if k.kind = 5 ∧ k.kindWord / 2 ^ 20 % 256 ≠ 1 ∧ !x.onDie then
    if s.missBytes + k.len > 2097152 then none
    else
      let first := !s.miss.any fun p => decide (p.kindWord % 2 ^ 20 = c)
      let s := { s with miss := s.miss ++ [k] }
      some (if first then s.fetchRecord c else s)
  else s.reassemble k

/-- What it does with a packet (R271, R419, R422): one under no key, or whose tag fails, is discarded and counted. -/
def State.accept (s : State) (k : Packet) : Option State :=
  if !k.enc then s.acceptClear { k with key := 0 }
  else match s.keyAt k.key with
    | none => some (s.bump 0x2E3003)
    | some x => match k.openUnder x with
      | none => some (s.bump 0x2E3002)
      | some data => (s.acceptClear { k with enc := false, data := data }).map fun s => s.bump 0x2E3001

/-- The system queue's place among the tenants of the upper level (R335). -/
def systemQueue : Nat := 4096

/-- The upper level's queue of a class and tenant. -/
def upperKey (c : Nat) (tenant : Option Nat) : Nat := c * 8192 + tenant.getD systemQueue

/-- The flows that hold queued work, and the default flow of a tenant and class (R336). -/
def State.flowsInUse (s : State) : List Nat :=
  (s.sched.upper.flatMap fun e => e.2.map fun w => e.1 * 2 ^ 40 + w.flow).dedup
def defaultFlow : Nat := 2 ^ 40 - 1

/-- The later of two 64-bit tags (R337). DEDUCED, log entry 59. -/
def laterTag (a b : Nat) : Nat := if (a % 2 ^ 64 + 2 ^ 64 - b % 2 ^ 64) % 2 ^ 64 < 2 ^ 63 then a else b

/-- The key of a flow's finish tag. -/
def flowKey (u flow : Nat) : Nat := u * 2 ^ 41 + flow

/-- A packet that the device sources to itself (R285 test 1): the hub takes it, or counts a reserved polder select; one that must wait is held
with the packets of no port. -/
def State.deliverOwn (s : State) (k : Packet) : State :=
  if 8 ≤ k.polSel ∧ k.polSel < 15 then s.bump 0x260009
  else match s.accept k with
    | some s => s
    | none => s.setPort 12 { s.port 12 with held := (s.port 12).held ++ [k] }

/-- A packet that the device sources (R272, R285, R331, R335): an undeliverable one is discarded and counted; one in a strict class is
sprayed, one in a weighted class queues at the upper level. -/
def State.sourcePacket (s : State) (tenant : Option Nat) (flow : Nat) (k : Packet) : State :=
  if k.dst = s.me then s.deliverOwn k
  else if k.dst = 0 ∨ k.dst = linkNode ∨ domainOf k.dst ≠ domainOf s.me then s.bump 0x260009
  else if s.routeEntry k.dst % 16 = 15 ∨ s.chooseHop k none = .none then s.discardNoRoute k { len := 0 } false
  else
    let w : Work := { len := k.len + 40, tenant := tenant, sourced := true, flow := flow, pkt := some k }
    if k.cls.val < 3 then s.spray w k
    else
      let u := upperKey k.cls.val tenant
      let known := (Map.getD s.sched.upper u []).any fun x => decide (x.flow = flow)
      let full := !known && decide (s.flowsInUse.length ≥ 32768)
      let w := if full then { w with flow := defaultFlow } else w
      let s := if full ∧ k.off = 0 then s.bump 0x280003 else s
      let old := (Map.getD s.sched.upper u []).any fun x => decide (x.flow = w.flow)
      let fk := flowKey u w.flow
      let s := if old then s else
        { s with sched := { s.sched with ftags := Map.put s.sched.ftags fk (laterTag (Map.getD s.sched.ftags fk 0) (Map.getD s.sched.fvtime u 0)) } }
      { s with sched := { s.sched with upper := Map.put s.sched.upper u (Map.getD s.sched.upper u [] ++ [w]) } }

/-- A message that the device sources: its kind, class, destination and polder select there, key slot, identifier and bytes. A device whose node is
unassigned sources nothing (R274), an exhausted slot sends nothing (R420), and one whose sending generation holds no key neither.
DESIGN CHOICE, log entry 52. -/
def State.sourceMessage (s : State) (kind c dst pol slot msg : Nat) (data : List Nat) (tenant : Option Nat) (flow : Nat) (kindWord : Nat := 0) : State :=
  let key := if slot = 0 then none else s.keyAt (s.keyIndex slot)
  if s.me = 0 ∨ s.exhausted slot ∨ (slot ≠ 0 ∧ key = none) then s
  else
    let k : Packet := { cls := Fin.ofNat 8 c, enc := decide (slot ≠ 0), dst := dst, polSel := pol, hop := s.obj 0x260002, src := s.me, kind := kind,
                        msg := msg, off := 0, total := 0, key := s.keyIndex slot, kindWord := kindWord }
    (packetsOf key k data).foldl (fun s k => s.sourcePacket tenant flow k) s

/-- A strict message outside the conduits: CHART in class 0, TIDE in class 1 (R329). -/
def State.sendSystem (s : State) (kind c dst : Nat) (data : List Nat) (kindWord : Nat) : State :=
  let r := s.drawId 0
  r.1.sourceMessage kind c dst 15 0 r.2 data none kind kindWord

/-- A MIRROR message to the partner (R362): its operation, record number, what is placed here, a record refused, and a record's request. -/
def State.sendMirror (s : State) (op msg seq refused : Nat) (body : List Nat) : State :=
  s.sourceMessage 8 2 s.pair.partner 15 0 msg
    (leBytes 4 seq ++ leBytes 4 s.pair.rxPlaced ++ leBytes 4 refused ++ [0, 0, 0, 0] ++ body) none (2 ^ 21) op

/-- Acknowledge what is placed of the partner's records, and name one that is refused, 0 for none (R361, R363). -/
def State.sendMirrorAck (s : State) (refused : Nat) : State :=
  let s := { s with out := .recordAck (s.pair.rxPlaced % 2 ^ 32) (refused % 2 ^ 32) :: s.out }
  let r := s.drawId 0
  r.1.sendMirror 2 r.2 0 refused []

end Sys2Proof.Machine
end

