-- ==== Sys2Proof/Machine/Pages.lean ====
section
/-! DEFINITION. Stack bytes and their check words, bindings, frames and their pools, page keys, reference counts, charges. -/

namespace Sys2Proof.Machine

/-- The sectors that a run of bytes touches. -/
def sectorsOf (a n : Nat) : List Nat := if n = 0 then [] else (List.range ((a + n - 1) / 64 + 1 - a / 64)).map (a / 64 + ·)

/-- The check word of a sector from its bytes (R345); the index is the sector's place within its stack. DEDUCED, log entry 17. -/
def wordOf (m : List Host.Cell) (sec : Nat) : Nat := sectorWord (Memory.bytes m (sec * 64) 64) (sec % 2 ^ 31)

/-- Write bytes of a stack: every sector touched gets a fresh check word (R346). -/
def State.writeStack (s : State) (a : Nat) (bs : List Nat) : State :=
  let m := Memory.store s.mem a bs
  { s with mem := m, sideband := (sectorsOf a bs.length).foldl (fun b sec => Map.put b sec (wordOf m sec)) s.sideband }

/-- Zero a frame. -/
def State.zeroFrame (s : State) (k : Nat) : State :=
  { s with mem := Memory.clear s.mem (k * 65536) 65536,
           sideband := Map.keep s.sideband fun sec _ => decide (sec / 1024 ≠ k) }

/-- Whether a sector's bytes agree with its check word. -/
def State.sectorOk (s : State) (sec : Nat) : Bool :=
  match Map.find s.sideband sec with
  | some w => decide (w = wordOf s.mem sec)
  | none => true

/-- Whether every sector of a run reads as its check word says; `upset` says that the stored bits failed to read (R347). -/
def State.readOk (s : State) (a n : Nat) (upset : Bool) : Bool := !upset && (sectorsOf a n).all s.sectorOk

/-- The window offset of a byte of a bank unit's row (R182, R533). Unit u of a stack is unit u mod 4 of quad
8 (u / 32) + (u mod 32) / 4. -/
def bankAddr (p u row off : Nat) : Nat :=
  (p * 2 ^ 21 + row * 256 + (u / 32 * 8 + u % 32 / 4)) * 65536 + u % 4 * 16384 + off

/-- The frame that a byte lies in. -/
def frameOf (a : Nat) : Nat := a / 65536

/-- The polder whose stack holds a frame (R182). -/
def framePolder (f : Nat) : Nat := f / 2 ^ 21
/-- The row of a frame. -/
def frameRow (f : Nat) : Nat := f % 2 ^ 21 / 256

/-- The shape of a binding's pages (R180, R181). -/
structure Shape where
  layers : Nat
  qHeads : Nat
  kvHeads : Nat
  d : Nat
  h : Nat
  kFmt : Nat
  vFmt : Nat
  n : Nat
  groups : Nat
  transform : Nat
  deriving DecidableEq, Repr

/-- A binding's record (R222). -/
def State.shape (s : State) (b : Nat) : Shape :=
  let o (sub : Nat) := s.obj (recKey 0x2B80 b sub)
  ⟨o 1, o 2, o 3, o 4, o 5, o 6 % 16, o 6 / 16, o 7, o 8, o 0xB⟩

/-- Query heads per KV head. -/
def Shape.g (sh : Shape) : Nat := sh.qHeads / sh.kvHeads
/-- Channels of a bank unit. -/
def Shape.c (sh : Shape) : Nat := sh.d / 4

/-- Bytes of one KV head in one unit (R185). -/
def headBytes (fmt c : Nat) : Nat :=
  if fmt = 15 then 57 * c else if fmt = 8 then 64 * (c + c / 32) else 64 * c * (elemBits fmt / 8)

/-- Element `i` of token `t` of KV head `h` in a unit's region of a page (R185). -/
def regionElem (fmt c : Nat) (bs : List Nat) (h t i : Nat) : Num :=
  let b := bs.drop (h * headBytes fmt c)
  if fmt = 15 then decodeTerp (nth b i) (packedAt (b.drop c) 7 (t * c + i))
  else if fmt = 8 then stripAt 8 c (b.drop (t * (c + c / 32))) i
  else decodeElem fmt (packedAt ((b.drop ((t * c + i) * elemBits fmt / 8)).take 4) (elemBits fmt) 0)

/-- Round up to whole sectors. -/
def roundUp64 (n : Nat) : Nat := (n + 63) / 64 * 64

/-- The key region's bytes for `n` heads (R184). -/
def Shape.keyRegion (sh : Shape) (n : Nat) : Nat := roundUp64 (n * headBytes sh.kFmt sh.c)
/-- The value region's bytes for `n` heads. -/
def Shape.valRegion (sh : Shape) (n : Nat) : Nat := roundUp64 (n * headBytes sh.vFmt sh.c)
/-- The value region's offset (R186). -/
def Shape.valOff (sh : Shape) : Nat := 256 + sh.keyRegion sh.n

/-- Heads per group (R181): the largest n up to 16 that fits, 0 when none does. -/
def Shape.headsPerGroup (sh : Shape) : Nat :=
  ((List.range 17).filter fun n => decide (sh.keyRegion n + sh.valRegion n ≤ 12288)).foldl max 0

/-- Whether the fields meet every constraint of R180 but L times groups. -/
def Shape.legal (sh : Shape) : Bool :=
  decide (1 ≤ sh.layers ∧ sh.layers ≤ 256) && decide (1 ≤ sh.kvHeads ∧ sh.kvHeads ≤ 256) &&
  decide (sh.qHeads % sh.kvHeads = 0) && decide (sh.d % 4 = 0 ∧ 4 ≤ sh.d ∧ sh.d ≤ 256) &&
  decide (1 ≤ sh.h ∧ sh.h ≤ 65536) &&
  [1, 2, 3, 4, 8, 15].contains sh.kFmt && [1, 2, 3, 4, 8].contains sh.vFmt &&
  (sh.kFmt != 15 || decide (sh.d % 32 = 0)) && (sh.kFmt != 8 || decide (sh.d % 128 = 0)) &&
  (sh.vFmt != 8 || decide (sh.d % 128 = 0))

/-- The groups that `n` heads per group give. -/
def Shape.groupsFor (sh : Shape) (n : Nat) : Nat := (sh.kvHeads + n - 1) / n

/-- KV heads of a group. -/
def Shape.headsIn (sh : Shape) (g : Nat) : Nat := min sh.n (sh.kvHeads - g * sh.n)

/-- The key of a page (R188). -/
def pageKey (sh : Shape) (layer g page : Nat) : Nat := (layer * sh.groups + g) * 16384 + page
/-- The layer of a key. -/
def keyLayer (sh : Shape) (k : Nat) : Nat := k / 16384 / sh.groups
/-- The group of a key. -/
def keyGroup (sh : Shape) (k : Nat) : Nat := k / 16384 % sh.groups
/-- The page index of a key. -/
def keyPage (k : Nat) : Nat := k % 16384
/-- The polder that R122 gives a page. -/
def pagePolder (base g page : Nat) : Nat := (base + g + page / 16) % 8

/-- The tenant of a sequence (R112). -/
def tenantOf (seqId : Nat) : Nat := seqId / 2 ^ 52 % 4096

/-- The key of a per-tenant object (R492). -/
def tenantKey (t sub : Nat) : Nat := recKey 0x3000 t sub

/-- Frames of a polder that hold pages. -/
def State.usedFrames (s : State) (p : Nat) : Nat :=
  ((s.frames.filter fun e => decide (framePolder e.1 = p)).length) - (s.polder p).tailUsed

/-- Retired frames of a polder that hold no page (R355). -/
def State.retiredFree (s : State) (p : Nat) : Nat :=
  (s.retired.filter fun f => decide (framePolder f = p) && !Map.has s.frames f).length

/-- The body buffer in force, in MiB a polder (2B32h.01): a write takes effect when no body buffer is in use. -/
def State.bodyMiB (s : State) : Nat := if s.bodies = [] then s.obj 0x2B3201 else s.bodyHeld.getD (s.obj 0x2B3201)

/-- Frames of a polder's page pool, or of its tail reserve, that the checks of admitted requests reserved and that are not taken yet (R160). -/
def State.planned (s : State) (p : Nat) (tail : Bool) : Nat :=
  (s.reqs.map fun e => (e.2.plan.filter fun x => decide (x = (p, tail))).length).sum

/-- Whether a frame holds a resident weight share (R152). -/
def State.weightFrame (s : State) (k : Nat) : Bool := s.weights.any fun w => w.2.shares.any fun h => decide (h.tier = 1) && h.places.contains k

/-- Free frames of a polder's page pool (R183): a down polder has none (R482), and frame 000000h is never allocated. -/
def State.freeFrames (s : State) (p : Nat) : Nat :=
  if (s.polder p).down then 0 else
  Config.framesPerStack - b2n (decide (p = 0)) - s.obj 0x2B4002 - 16 * s.bodyMiB - s.obj 0x2B3301 -
    (s.polder p).weightFrames - s.usedFrames p - s.retiredFree p - s.planned p false

/-- Tail-reserve frames of a polder not in use. -/
def State.freeTails (s : State) (p : Nat) : Nat :=
  if (s.polder p).down then 0 else s.obj 0x2B3301 - (s.polder p).tailUsed - s.planned p true

/-- The lowest frame of a polder that is in no use (R182), beside those of a list. The body buffer stands at the top of the stack, the table
pool below it. DESIGN CHOICE, log entry 18. -/
def State.pickBeside (s : State) (p : Nat) (l : List Nat) : Option Nat :=
  let top := Config.framesPerStack - 16 * s.bodyMiB - s.obj 0x2B4002
  let rec go (f : Nat) : Nat → Option Nat
    | 0 => none
    | n + 1 =>
      let k := p * 2 ^ 21 + f
      if k = 0 || Map.has s.frames k || s.retired.contains k || s.weightFrame k || l.contains k then go (f + 1) n else some k
  go 0 top

/-- The lowest frame of a polder that is in no use (R182). -/
def State.pickFrame (s : State) (p : Nat) : Option Nat := s.pickBeside p []

/-- The lowest `n` frames of a polder that are in no use, beside those of a list. -/
def State.pickFrames (s : State) (p : Nat) : Nat → List Nat → Option (List Nat)
  | 0, l => some l
  | n + 1, l => match s.pickBeside p l with
    | some k => s.pickFrames p n (l ++ [k])
    | none => none

/-- The 16 KiB rows that a run of stack bytes touches, each of one bank pair (R224, R533). -/
def rowsOf (off len : Nat) : List Nat := if len = 0 then [] else (List.range ((off + len - 1) / 16384 + 1 - off / 16384)).map (off / 16384 + ·)

/-- The polder and the bank unit of a row (R182). -/
def rowUnit (row : Nat) : Nat × Nat := (row / 2 ^ 23, row / 4 % 256 / 8 * 32 + row / 4 % 8 * 4 + row % 4)

/-- Count the accesses to rows that a bank unit in the middle of an operation holds, and for how long (R140). DEDUCED, log entry 105. -/
def State.bankHolds (s : State) (rows : List Nat) : State :=
  rows.foldl (fun s row =>
    let u := rowUnit row
    let free := Map.getD (s.polder u.1).until_ u.2 0
    if free ≤ s.time then s
    else (s.bump 0x2B1102).setObj 0x2B1103 (max (s.obj 0x2B1103) ((free - s.time) * s.rate u.1 / 1000))) s

/-- Hub access to a run of a stack's bytes in a class of its interface (R140, R227, R330). DEDUCED, log entry 150. -/
def State.stackAccess (s : State) (c off len : Nat) : State :=
  ((rowsOf off len).foldl (fun s row => s.work (stackRes (row / 2 ^ 23)) c (min len 16384)) s).bankHolds (rowsOf off len)

/-- Hub access to a page (R140, R227, R330): its header and its regions, one unit of work for each bank unit of its quad. -/
def State.pageAccess (s : State) (c k : Nat) (sh : Shape) : State :=
  ((List.range 4).foldl (fun s _ => s.work (stackRes (framePolder k)) c (256 + sh.keyRegion sh.n + sh.valRegion sh.n)) s).bankHolds (rowsOf (k * 65536) 65536)

/-- Whether a frame's header and page area read as they were written (R141, R347). -/
def State.pageReads (s : State) (f : Nat) (sh : Shape) : Bool :=
  s.readOk (f * 65536) 256 false &&
    (List.range 4).all fun u => s.readOk (f * 65536 + u * 16384 + 256) (sh.keyRegion sh.n + sh.valRegion sh.n) false

/-- Bytes 0 to 47 of a page header (R186). -/
def hdrBytes (f : Frame) : List Nat :=
  let h := f.hdr
  [1, 1, b2n h.lost, 0] ++ leBytes 4 f.count ++ leBytes 8 h.owner ++ leBytes 2 h.layer ++ [h.group % 256, h.valid] ++
  leBytes 4 h.first ++ [h.formats, h.heads] ++ leBytes 2 h.dim ++ leBytes 2 256 ++ leBytes 2 h.valOff ++
  leBytes 8 h.check ++ leBytes 8 h.written

/-- What the first 48 bytes of a page header say (R186). -/
def hdrOf (bs : List Nat) : PageHdr :=
  let f (a n : Nat) : Nat := leNat ((bs.drop a).take n)
  { lost := bit (f 2 1) 0, owner := f 8 8, layer := f 16 2, group := f 18 1, valid := f 19 1, first := f 20 4 % 2 ^ 21, formats := f 24 1,
    heads := f 25 1, dim := f 26 2, valOff := f 30 2, check := f 32 8, written := f 40 8 }

/-- Store a frame's record and write its header sector. -/
def State.putFrame (s : State) (k : Nat) (f : Frame) : State :=
  { s with frames := Map.put s.frames k f }.writeStack (k * 65536) (hdrBytes f)

/-- The bytes of a frame's key and value regions, unit by unit (R186). -/
def State.regions (s : State) (k : Nat) (sh : Shape) : List Nat :=
  (List.range 4).flatMap fun u => Memory.bytes s.mem (k * 65536 + u * 16384 + 256) (sh.keyRegion sh.n + sh.valRegion sh.n)

/-- The payload check of a frame (R186). -/
def State.payloadCheck (s : State) (k : Nat) (sh : Shape) : Nat := crc64 (s.regions k sh)

/-- Change a tenant's charges. -/
def State.chargeBy (s : State) (t : Nat) (f : Charges → Charges) : State := s.setCharge t (f (s.charge t))

/-- Usage in a tier, reservations included (R211), in frames for T1 and blocks for T2 and T3. -/
def Charges.usage (c : Charges) (tier : Nat) : Nat :=
  if tier = 1 then c.t1 + c.r1 else if tier = 2 then c.t2 + c.r2 else c.t3 + c.r3

/-- Whether a tenant has quota for `n` more in a tier (R208 to R210). -/
def State.quotaFor (s : State) (t tier n : Nat) : Bool :=
  let limit := s.obj (tenantKey t (if tier = 1 then 1 else if tier = 2 then 3 else 4))
  decide (n = 0) || decide (limit = 0xFFFFFFFF) ||
    decide ((s.charge t).usage tier + n ≤ (if tier = 1 then limit else 16 * limit))

/-- The QUOTA answer (R135). -/
def quotaAnswer (tier t : Nat) : Answer := ⟨.quota, 0, [tier, 0] ++ leBytes 2 t⟩

/-- Free a frame whose count fell to zero: it returns to the page pool and its charge is released (R200). -/
def State.freeFrame (s : State) (k : Nat) : State :=
  match Map.find s.frames k with
  | none => s
  | some f =>
    let s := s.writeStack (k * 65536) (hdrBytes { f with count := 0 })
    { s with frames := Map.del s.frames k }.chargeBy (tenantOf f.hdr.owner) fun c => { c with t1 := c.t1 - 1 }

/-- The count that pins a page (R200). -/
def pinned : Nat := 0xFFFFFF

/-- Journal a change of references while the sweep runs (R202). -/
def State.journal (s : State) (k : Nat) (d : Int) : State :=
  if s.sweep.running then { s with sweep := { s.sweep with journal := (k, d) :: s.sweep.journal } } else s

/-- The page engine changes a frame's count, by a read and a write of its header sector (R200, R330). -/
def State.recount (s : State) (k : Nat) (f : Frame) (n : Nat) : State := (s.stackAccess 4 (k * 65536) 64).putFrame k { f with count := n }

/-- One more reference to a frame (R200). -/
def State.addRef (s : State) (k : Nat) : State :=
  match Map.find s.frames k with
  | none => s
  | some f => (if f.count = pinned then s else s.recount k f (f.count + 1)).journal k 1

/-- One reference fewer (R200). -/
def State.dropRef (s : State) (k : Nat) : State :=
  match Map.find s.frames k with
  | none => s
  | some f =>
    (if f.count = pinned then s else if f.count ≤ 1 then s.freeFrame k else s.recount k f (f.count - 1)).journal k (-1)

/-- Drop many references. -/
def State.dropRefs (s : State) (ks : List Nat) : State := ks.foldl State.dropRef s

/-- References to a frame: by page tables at location 1 or 3, and those that a restore under way has taken (R200, R203, R215). -/
def State.refsTo (s : State) (k : Nat) : Nat :=
  (s.seqs.map fun e => if e.2.st = .flushed then 0 else
    (e.2.leaves.filter fun l => decide (l.2.val = k) && (decide (l.2.loc = 1) || decide (l.2.loc = 3))).length +
      (e.2.taken.filter fun x => decide (x.2 = k)).length).sum

/-- The frames that a sequence's table names. -/
def Seq.frameList (q : Seq) : List Nat :=
  (q.leaves.filter fun l => decide (l.2.loc = 1) || decide (l.2.loc = 3)).map fun l => l.2.val

/-- Tokens held in a layer. -/
def Seq.tokens (q : Seq) (layer : Nat) : Nat := nth q.counts layer

/-- The lowest layer count (R196). -/
def Seq.lowest (q : Seq) : Nat :=
  match q.counts with
  | [] => 0
  | c :: cs => cs.foldl min c

/-- The highest layer count. -/
def Seq.highest (q : Seq) : Nat := q.counts.foldl max 0

/-- Leaf entries of one layer. -/
def Seq.layerLeaves (q : Seq) (sh : Shape) (layer : Nat) : Map Leaf := Map.keep q.leaves fun k _ => decide (keyLayer sh k = layer)

/-- Whether every page of a layer can be read in T1 (R28): a lost page stands in T1 too. -/
def Seq.resident (q : Seq) (sh : Shape) (layer : Nat) : Bool :=
  decide (q.st = .active) &&
  (q.layerLeaves sh layer).all fun l => decide (l.2.loc = 1) || decide (l.2.loc = 3)

/-- Store a sequence. -/
def State.setSeq (s : State) (i : Nat) (q : Seq) : State := { s with seqs := Map.put s.seqs i q }

/-- The tier of T1 private frames and of shared frames of a sequence (R187). -/
def State.privateFrames (s : State) (q : Seq) : Nat :=
  (q.leaves.filter fun l => decide (l.2.loc = 1) && (match Map.find s.frames l.2.val with | some f => decide (f.count = 1) | none => false)).length
def State.sharedFrames (s : State) (q : Seq) : Nat :=
  (q.leaves.filter fun l => decide (l.2.loc = 1) && (match Map.find s.frames l.2.val with | some f => decide (2 ≤ f.count) | none => false)).length

/-- Mark a page lost (R207): the flag in its header, and location 3 in every sequence that names it and wherever it is staged. -/
def State.loseFrame (s : State) (k : Nat) : State :=
  match Map.find s.frames k with
  | none => s
  | some f =>
    let s := (s.putFrame k { f with hdr := { f.hdr with lost := true }, health := .lost }).bump 0x2B4008
    let visit (_ : Nat) (q : Seq) : Seq :=
      { q with leaves := Map.each q.leaves fun _ l => if l.val = k ∧ l.loc = 1 then { l with loc := 3 } else l }
    let staged (p : Staged) : Staged := if p.val = k ∧ p.loc = 1 then { p with loc := 3 } else p
    let s := { s with seqs := Map.each s.seqs visit, stage := Map.each s.stage fun _ (g : Stage) => { g with pages := g.pages.map staged } }
    (s.arrive (polderSource (framePolder k) 3)).logEvent 2 1 (framePolder k) 1 k

end Sys2Proof.Machine
end

