-- ==== Sys2Proof/Machine/Inlet.lean ====
section
/-! DEFINITION. The inlet's shared operations: header fields, completion records, the end of a request, and the lanes it held. -/

namespace Sys2Proof
open Sys2Proof.Machine

/-- A field of `n` bytes at byte `a` of a request header, least significant byte first (R112). -/
def Machine.hdrField (h : BitVec 256) (a n : Nat) : Nat := h.toNat / 2 ^ (8 * a) % 2 ^ (8 * n)

/-- The header's fields (R112). -/
def Req.kind (r : Req) : Nat := hdrField r.hdr 0 1
def Req.flags (r : Req) : Nat := hdrField r.hdr 1 1
def Req.layer (r : Req) : Nat := hdrField r.hdr 2 2
def Req.epoch (r : Req) : Nat := hdrField r.hdr 4 4
def Req.seqId (r : Req) : Nat := hdrField r.hdr 8 8
def Req.fence (r : Req) : Nat := hdrField r.hdr 16 4
def Req.byte (r : Req) (a : Nat) : Nat := hdrField r.hdr a 1
def Req.tenant (r : Req) : Nat := tenantOf r.seqId

/-- Whether two sources name the same handle: the node and message identifier, or the ring and slot (R218). -/
def Src.same : Src → Src → Bool
  | .fabric n m _ _, .fabric n' m' _ _ => decide (n = n') && decide (m = m')
  | .ring r k _, .ring r' k' _ => decide (r = r') && decide (k = k')
  | _, _ => false

/-- The key slot that a request came under; 0 when it came unencrypted or on a ring. DEDUCED, log entry 50. -/
def Src.keySlot : Src → Nat
  | .fabric _ _ k _ => k
  | .ring .. | .mirror _ => 0

/-- Whether a request is a mirror record that is applied here (R363). -/
def Src.isMirror : Src → Bool
  | .mirror _ => true
  | _ => false

end Sys2Proof

namespace Sys2Proof.Machine

/-- The counter of completions by status for a kind (R143, R179, R222). -/
def statusCounter (kind code : Nat) : Nat :=
  (if kind = 1 then 0x2B1000 else if kind = 2 ∨ kind = 3 then 0x2B3000 else 0x2B4400) + code + 1

/-- Count a status where its chapter counts it: a reserved kind's by no kind's counter (R222). -/
def State.countStatus (s : State) (kind seqId : Nat) (a : Answer) : State :=
  let s := if 1 ≤ kind ∧ kind ≤ 11 then s.bump (statusCounter kind a.status.code) else s
  match a.status with
  | .quota => s.bump (tenantKey (tenantOf seqId) 9)
  | .moved => s.bump 0x243004
  | .busy =>
    if a.detail = 4 then s.bump 0x2B3303
    else if a.detail = 5 ∨ a.detail = 6 then s.bump 0x2B3204
    else if 7 ≤ a.detail ∧ a.detail ≤ 9 then s.bump 0x2B4006
    else if a.detail = 0x0C then s.bump 0x243005
    else if a.detail = 0x0D then s.bump 0x243006
    else s
  | _ => s

/-- Submission and completion ring sizes (R531). -/
def RingSt.sqSize (g : RingSt) : Nat := 2 ^ (6 + bits g.rcfg 3 0)
def RingSt.cqSize (g : RingSt) : Nat := 2 ^ (6 + bits g.rcfg 7 4)

/-- The GCM IV of a stream of confidential operation (R429, R546): its kind, its ring, a counter. -/
def streamIv (kind r counter : Nat) : List Nat := leBytes 4 (r + kind * 2 ^ 24) ++ leBytes 8 counter

/-- Host-to-device data of a stream opened under its session key (R429, R545), none where the tag fails. -/
def State.fromHost (s : State) (kind r counter : Nat) (bs : List Nat) : Option (List Nat) :=
  match s.sec.session with
  | some k => gcmOpen (leBytes 32 k.1) (streamIv kind r counter) [] bs
  | none => none

/-- Device-to-host data of a stream: the ciphertext and its tag in confidential operation, else as it is (R429, R545). -/
def State.toHost (s : State) (kind r counter : Nat) (bs : List Nat) : List Nat :=
  match s.sec.session with
  | some k => if s.sec.conf then gcmSeal (leBytes 32 k.2) (streamIv kind r counter) [] bs else bs
  | none => bs

/-- Bytes of a ring entry, and of a tag (R536, R545). -/
def State.entrySize (s : State) : Nat := if s.sec.conf then 128 else 64
def State.tagSize (s : State) : Nat := if s.sec.conf then 16 else 0

/-- The 64 bytes of a completion entry (R538): the status body, then what names the request, the reply's bytes and the device time. -/
def completionEntry (src : Src) (tag gen : Nat) (body : List Nat) (at_ wrote : Nat) (phase : Bool) : List Nat :=
  match src with
  | .ring r slot cookie =>
    body.take 32 ++ leBytes 4 cookie ++ [r.val, 0] ++ leBytes 2 slot ++ leBytes 4 wrote ++ leBytes 4 (tag % 2 ^ 17 + gen * 2 ^ 17) ++
      leBytes 8 at_ ++ List.replicate 7 0 ++ [b2n phase]
  | .fabric .. | .mirror _ => []

/-- The writes of a completion to host memory (R537, R538, R545, R547): the reply, then the entry in the ring's next slot. The reply bytes that
the entry names count the tag. DESIGN CHOICE, log entry 102. -/
def State.hostWrites (s : State) (r : Nat) (o : Out) : List Out :=
  match o with
  | .completion src tag gen _ _ body at_ replyAt data =>
    let g := s.ring r
    let n := g.outCounter + 1
    let wrote := if data = [] then 0 else data.length + s.tagSize
    let entry := s.toHost 0x81 r n (completionEntry src tag gen body at_ wrote g.phase)
    let entry := if s.sec.conf then entry ++ leBytes 8 n ++ List.replicate 39 0 ++ [b2n g.phase] else entry
    .hostWrite (g.cqBase + g.cqTail * s.entrySize) entry :: (if data = [] then [] else [.hostWrite replyAt (s.toHost 0x82 r n data)])
  | _ => []

/-- Write a completion entry on a ring (R538, R539): the next slot, the phase at a wrap, the reserved entry, the
coalescing count of R542. -/
def State.ringEntry (s : State) (r : Nat) : State :=
  let g := s.ring r
  let tail := (g.cqTail + 1) % g.cqSize
  let n := g.unsig + 1
  let fire := decide (n ≥ bits g.rcfg 23 16)
  let g := { g with cqTail := tail, phase := if tail = 0 then !g.phase else g.phase, reserved := g.reserved - 1, unread := g.unread + 1,
                    unsig := if fire then 0 else n, unsigAt := if n = 1 then s.time else g.unsigAt, outCounter := g.outCounter + b2n s.sec.conf }
  let s := s.setRing r g
  if fire then s.arrive (0x100 + r) else s

/-- Put a completion out: to the fabric at once, to a ring by a DMA write that waits for Bus Master Enable (R549). -/
def State.emit (s : State) (o : Out) : State :=
  match o with
  | .completion (.ring r _ _) .. =>
    if s.host.master then { s.ringEntry r with out := o :: s.hostWrites r o ++ (s.ringEntry r).out }
    else { s with host := { s.host with waiting := s.host.waiting ++ [o] } }
  | _ => { s with out := o :: s.out }

/-- The end of a mirror record applied here (R363): placed when it ended OK or its outcome does not matter (R360), and
acknowledged at once; any other stays held and is tried again. -/
def State.recordDone (s : State) (n : Nat) (placed : Bool) : State :=
  if !placed then s
  else
    let p := s.pair
    { s with pair := { p with rxPlaced := n, heldRecs := Map.del p.heldRecs n } }.sendMirrorAck 0

/-- A status body (R136): the status code, the detail, two zero bytes, then bytes 4 to 31 as R135 lays them out, unused bytes zero; the
bytes of a longer one follow. -/
def Answer.statusBody (a : Answer) : List Nat := [a.status.code, a.detail, 0, 0] ++ a.body ++ List.replicate (28 - a.body.length) 0

/-- Bytes of a status body with what follows it (R136, R268). -/
def Answer.bytes (a : Answer) : Nat := a.statusBody.length

/-- Put out a request's one terminal status (R15), with the reply's bytes where it has any: a REPLY under its request's identifier and key slot to
the node and polder select that sent it, its kind word the status code, its payload the PARTIALs or the status body (R268, R270, R329, R423), or a
completion entry and the reply buffer's bytes: the PARTIALs, or the layer counts that follow a status body (R537, R538). -/
def State.reply (s : State) (src : Src) (tag gen tenant replyAt : Nat) (data : List Nat) (a : Answer) : State :=
  let done (data : List Nat) (s : State) : State := s.emit (.completion src tag gen a.status.code a.detail a.statusBody s.time replyAt data)
  match src with
  | .fabric node msg slot sel =>
    done [] (s.sourceMessage 2 (s.obj 0x280102) node sel slot msg (if data = [] then a.statusBody else data) (some tenant) tag a.status.code)
  | .ring .. =>
    let data := if data = [] then a.statusBody.drop 32 else data
    done data (s.work hostLink 0 (s.entrySize + (if data = [] then 0 else data.length + s.tagSize)))
  | .mirror n => s.recordDone n (decide (a.status = .ok))

/-- Keep a completed request for the abort window (R220): the 131 072 most recent. -/
def State.keep (s : State) (k : Kept) : State := { s with kept := (k :: s.kept).take 131072 }

/-- End a request that holds no tag: counted, answered, kept for the abort window with tag 0 (R220), and of no other effect. DEDUCED, log
entry 51. DESIGN CHOICE, log entry 152. -/
def State.refuse (s : State) (r : Req) (a : Answer) : State :=
  if r.src.isMirror then s.reply r.src 0 0 r.tenant 0 [] (if 7 ≤ r.kind ∧ r.kind ≤ 9 then .ok else a)
  else
    let s := if r.kind ≤ 9 then s.keep ⟨0, 0, r.src, r.seqId, s.time⟩ else s
    (s.countStatus r.kind r.seqId a).reply r.src 0 0 r.tenant r.replyAt [] a

/-- An ABORT that has ended waits on no tombstone, and a tombstone stands until the last of its ABORTs has ended (R220). -/
def State.stopWaiting (s : State) (tag : Nat) : State :=
  { s with tombs := (s.tombs.map fun (t : Tombstone) => { t with waiters := t.waiters.filter fun w => w != tag }).filter fun t => !t.waiters.isEmpty }

/-- Release a request's reservations: its T1 quota, its fresh frames, its tail-reserve frames, its body buffer (R168, R209). -/
def State.releaseHeld (s : State) (tag : Nat) (q : Request) : State :=
  let t := tenantOf q.seqId
  let s := s.chargeBy t fun c => { c with r1 := c.r1 - q.t1 }
  let drop (s : State) (w : Nat × Nat × Nat) : State :=
    let s := { s with frames := Map.del s.frames w.2.1 }
    if w.2.2 = 0 then s else
      let p := framePolder w.2.1
      s.setPolder p { s.polder p with tailUsed := (s.polder p).tailUsed - 1 }
  let s := q.writes.foldl drop s
  { s with bodies := Map.keep s.bodies fun _ b => decide (b.tag ≠ tag) }

/-- Void the lanes that a request holds and take its entries off the rings (R62). A void lane is the void signal to every external gate
on which its slots wait (Polder.takeWait). DEDUCED, log entry 132. -/
def State.voidLanes (s : State) (tag : Nat) : State :=
  let each (_ : Nat) (p : Polder) : Polder :=
    { p with lanes := Map.each p.lanes fun _ l => if l.entry.tag = tag then { l with voided := true } else l,
             rings := Map.each p.rings fun _ es => es.filter fun e => e.tag != tag,
             busyAt := if p.rings.any fun r => r.2.any fun e => e.tag == tag then s.time else p.busyAt }
  { s with polders := Map.each s.polders each }

/-- Write the one completion record of a request that holds a tag: its tag is free again (R15, R23), the sequence's last
use is now (R187; a QUERY of a tenant names no sequence), and the record is kept for the abort window. `data` are the PARTIALs that it ends
with. DEDUCED, log entry 125. -/
def State.complete (s : State) (tag : Nat) (q : Request) (a : Answer) (data : List Nat := []) : State :=
  let s := if q.src.isMirror then s else s.countStatus q.kind q.seqId a
  let a := if q.src.isMirror && decide (7 ≤ q.kind) && decide (q.kind ≤ 9) then .ok else a
  let s := (if q.kind = 10 then s.stopWaiting tag else s)
  let s := { s with reqs := Map.del s.reqs tag }
  let ofTenant := decide (q.kind = 11) && decide (hdrField q.hdr 20 1 = 2)
  let s := match Map.find s.seqs q.seqId with
    | some e => if ofTenant then s else s.setSeq q.seqId { e with lastUse := s.time }
    | none => s
  let s := if q.kind = 10 || q.kind = 11 || q.src.isMirror then s else s.keep ⟨tag, q.gen, q.src, q.seqId, s.time⟩
  s.reply q.src tag q.gen (tenantOf q.seqId) q.replyAt data a

/-- End a request by an event from outside (R137): nothing is committed, its lanes are void, its frames return. -/
def State.endRequest (s : State) (tag : Nat) (a : Answer) : State :=
  match Map.find s.reqs tag with
  | none => s
  | some q => ((s.releaseHeld tag q).voidLanes tag).complete tag q a

/-- The lowest free tag (R23). DESIGN CHOICE, log entry 19. -/
def State.freeTag (s : State) : Option Nat := Map.free s.reqs 0 Config.tags

/-- Take a request's tag: the generation of a tag rises at each use, modulo 2 to the 15 (R379). A mirror record takes none of
the request tags (R363 bypasses check 4): the model numbers it above them. -/
def State.take (s : State) (r : Req) (phase : Phase) : Option (Nat × Request × State) :=
  match (if r.src.isMirror then Map.free s.reqs Config.tags 64 else s.freeTag) with
  | none => none
  | some tag =>
    let gen := (Map.getD s.gens tag 0 + 1) % 32768
    let q : Request := { gen := gen, src := r.src, hdr := r.hdr, kind := r.kind, seqId := r.seqId, layer := r.layer,
                         order := s.orderCtr + 1, phase := phase, bodyLen := r.bodyLen, body := r.body,
                         replyAt := r.replyAt, entryCtr := r.entryCtr, since := s.time }
    let s := { s with gens := Map.put s.gens tag gen, orderCtr := s.orderCtr + 1, reqs := Map.put s.reqs tag q }
    some (tag, q, match r.src with | .ring .. => s.bump 0x2F0008 | _ => s)

/-- Store a request. -/
def State.setReq (s : State) (tag : Nat) (q : Request) : State := { s with reqs := Map.put s.reqs tag q }

/-- Sequence-wide kinds (R191). -/
def wideKind (kind : Nat) : Bool := decide (4 ≤ kind) && decide (kind ≤ 9)

/-- Whether an earlier-admitted request must complete before another (R119, R162, R191). -/
def Request.blocks (e q : Request) : Bool :=
  decide (e.order < q.order) && decide (e.seqId = q.seqId) && decide (e.kind ≤ 9) && decide (q.kind ≤ 9) &&
  (wideKind e.kind || wideKind q.kind || (e.isWrite && decide (e.layer = q.layer)))

/-- The transfers whose source this device is (R317, R368). -/
def State.transfers (s : State) : List Transfer :=
  s.pair.move :: s.charts.flatMap fun c => (Map.vals c.2.transit).map fun t => t.move

/-- Whether a transfer has taken its place in a sequence's order before a request (R317). -/
def Transfer.before (m : Transfer) (q : Request) : Bool :=
  decide (m.todo.head? = some q.seqId) && (match m.freeze with | some o => decide (o < q.order) | none => false)

/-- Whether a request is held: by an earlier request, by a transfer's freeze, or by an automatic move of its sequence (R191,
R212, R257, R317). -/
def State.heldBack (s : State) (q : Request) : Bool :=
  s.reqs.any (fun e => e.2.blocks q) || s.transfers.any (fun m => m.before q) ||
  (match Map.find s.seqs q.seqId with
   | some e => e.mover.isNone && [SeqState.spilling, .flushing, .restoring].contains e.st
   | none => false)

/-- Whether a duty set's steward is halted for good (R482). -/
def State.dutyGone (s : State) (d : Nat) : Bool := s.start.gone.contains (nth s.start.duty d)
/-- Whether a duty set's steward is halted, for good or while it restarts. -/
def State.dutyDown (s : State) (d : Nat) : Bool := decide (s.steward (nth s.start.duty d) = .halted)
/-- What a duty set's steward does, where it is not halted. -/
def State.byDuty (s : State) (d : Nat) (f : State → State) : State := if s.dutyDown d then s else f s
/-- What a duty set's steward may refuse; a halted one refuses it. -/
def State.dutyTry (s : State) (d : Nat) (x : Option State) : Option State := if s.dutyDown d then none else x
/-- Whether a duty set's steward is halted and restarting (R377). -/
def State.dutyHeld (s : State) (d : Nat) : Bool :=
  decide (s.steward (nth s.start.duty d) = .halted) && !s.dutyGone d

/-- Add to a tenant's metering sum of a kind (R444). -/
def State.meterAdd (s : State) (t kind n : Nat) : State :=
  { s with meter := { s.meter with sums := Map.put s.meter.sums (t * 8 + kind) (Map.getD s.meter.sums (t * 8 + kind) 0 + n) } }

/-- The first failing condition: least byte offset, then least detail (R117). -/
def firstBad (l : List (Nat × Nat × Bool)) : Option (Nat × Nat) :=
  l.foldl (fun acc x => if x.2.2 then
      match acc with
      | none => some (x.1, x.2.1)
      | some a => if x.1 < a.1 ∨ (x.1 = a.1 ∧ x.2.1 < a.2) then some (x.1, x.2.1) else some a
    else acc) none

/-- STATE_LOST (R135). -/
def lostAnswer (seqId pos : Nat) : Answer := ⟨.stateLost, 0, leBytes 4 pos ++ leBytes 8 seqId⟩

/-- PAGE_LOST (R135). -/
def pageLostAnswer (layer g pos n : Nat) : Answer :=
  ⟨.pageLost, 0, leBytes 2 layer ++ [g, 0] ++ leBytes 4 pos ++ leBytes 4 n⟩

/-- MOVED (R135, R316): the node, polder select Fh, and the current chart epoch. -/
def movedAnswer (node epoch : Nat) : Answer := ⟨.moved, 0, leBytes 4 (node % 2 ^ 20 + 0xF * 2 ^ 20) ++ leBytes 4 epoch⟩

end Sys2Proof.Machine
end

