-- ==== Sys2Proof/Machine/Tables.lean ====
section
/-! DEFINITION. The table pools (R183, R187 to R189, R232, R241): granules, descriptors, page tables and the spill map as they stand in table-pool
frames. -/

namespace Sys2Proof.Machine

/-- Whether a sequence has an admitted or held request, and how many (R187 bytes 44–47). A QUERY of a tenant's usage is on no sequence. -/
def State.inFlight (s : State) (seqId : Nat) : Nat :=
  (s.reqs.filter fun e => decide (e.2.seqId = seqId) && !(decide (e.2.kind = 11) && decide (hdrField e.2.hdr 20 1 = 2))).length +
    (s.holds.filter fun h => decide (h.2.req.seqId = seqId)).length

/-- Page-table granules that a sequence needs (R188): leaves, level 2, level 1, the root, and its count granules. -/
def Seq.granules (q : Seq) : Nat :=
  let distinct (d : Nat) := (q.leaves.map fun l => l.1 / d).dedup.length
  if q.st = .flushed then 0 else distinct 64 + distinct 4096 + distinct 262144 + 1 + (q.counts.length + 63) / 64

/-- Table-pool frames that the spill map and its tag table take once `n` more entries stand (R232, R426): 8 192 entries of the map to a frame, 2 048 of
the table, entry 0 unused. -/
def State.mapFrames (s : State) (n : Nat) : Nat :=
  let top := max ((Map.keys s.host.spillMap).foldl max 0) (if n = 0 then 0 else s.host.spillMap.length + n)
  if top = 0 then 0 else top / 8192 + 1 + (top / 2048 + 1)

/-- These frames on a polder: frame j lies on polder j mod 8. DESIGN CHOICE, log entry 45. -/
def mapFramesOn (frames p : Nat) : Nat := (frames + 7 - p % 8) / 8

/-- Free table granules of a polder (2B40h.05): 256 to a frame, two descriptors to a granule, the spill map's frames whole. The sequence index
takes none, and a polder's descriptors fill their granules from the first on (R187). DESIGN CHOICE, log entry 18. -/
def State.freeGranules (s : State) (p : Nat) : Nat :=
  if (s.polder p).down then 0 else
  let mine := s.seqs.filter fun e => decide (e.2.base = p)
  256 * s.obj 0x2B4002 - (mine.map fun e => e.2.granules).sum - (mine.length + 1) / 2 - 256 * mapFramesOn (s.mapFrames 0) p

/-- Whether the table pools have room for the spill map with `n` more entries. -/
def State.mapRoom (s : State) (n : Nat) : Bool :=
  (List.range 8).all fun p => decide (256 * (mapFramesOn (s.mapFrames n) p - mapFramesOn (s.mapFrames 0) p) ≤ s.freeGranules p)

/-- The image handle of a descriptor (R241). -/
def Seq.handle (e : Seq) : Nat :=
  match e.st with
  | .spilled => 1
  | .flushed => 2 + 4 * (e.drive % 4) + 256 * (e.extents.headD 0 % 2 ^ 32)
  | .restoring => if e.prior = .spilled then 1 else 2 + 4 * (e.drive % 4) + 256 * (e.extents.headD 0 % 2 ^ 32)
  | .flushing => if e.prior = .spilled then 1 else 0
  | .active | .spilling => 0

/-- A descriptor's bytes (R187), its root and count granules at the addresses given. -/
def State.descriptor (s : State) (seqId : Nat) (e : Seq) (root counts handle : Nat) : List Nat :=
  leBytes 8 seqId ++ leBytes 2 e.binding ++ [e.base % 8, e.st.code] ++ leBytes 4 root ++ leBytes 4 counts ++ leBytes 8 e.parent ++
    leBytes 4 (s.privateFrames e) ++ leBytes 4 (s.sharedFrames e) ++ leBytes 4 e.t2 ++ leBytes 4 e.t3 ++ leBytes 4 (s.inFlight seqId) ++
    leBytes 8 e.lastUse ++ leBytes 8 handle ++ List.replicate 64 0

/-- The first frame of a polder's table pool. DESIGN CHOICE, log entry 18. -/
def State.tableBase (s : State) (p : Nat) : Nat := p * 2 ^ 21 + (Config.framesPerStack - 16 * s.bodyMiB - s.obj 0x2B4002)

/-- The address of a polder's table granule (R187). -/
def State.granuleAt (s : State) (p g : Nat) : Nat := (s.tableBase p + g / 256) % 2 ^ 24 + 2 ^ 24 * (g % 256)

/-- A granule's 64 entries of 4 bytes. -/
def granule (f : Nat → Nat) : List Nat := (List.range 64).flatMap fun i => leBytes 4 (f i)

/-- A leaf entry (R189). -/
def Leaf.word (l : Leaf) : Nat := l.val % 2 ^ 24 + 2 ^ 24 * l.loc

/-- The numbers of the granules that a level of a page table has, ascending: keys by 64 for leaves, 4 096 for level 2, 262 144 for level 1. -/
def Seq.nodes (e : Seq) (d : Nat) : List Nat := (e.leaves.map fun l => l.1 / d).dedup

/-- The granules of one sequence from granule `first` on (R187, R188): its count granules, the root, level 1, level 2, the leaves; none for a
FLUSHED sequence. An upper entry is the granule's address, zero where nothing lies below it. DESIGN CHOICE, log entry 18. -/
def State.seqGranules (s : State) (e : Seq) (first : Nat) : List (List Nat) :=
  if e.st = .flushed then [] else
  let n := (e.counts.length + 63) / 64
  let one := e.nodes 262144
  let two := e.nodes 4096
  let three := e.nodes 64
  let link (base : Nat) (l : List Nat) (k : Nat) : Nat :=
    if l.contains k then s.granuleAt e.base (base + (l.takeWhile fun x => decide (x ≠ k)).length) else 0
  let b1 := first + n + 1
  let b2 := b1 + one.length
  let b3 := b2 + two.length
  ((List.range n).map fun j => granule fun i => nth e.counts (64 * j + i)) ++ [granule (link b1 one)] ++
    (one.map fun k => granule fun i => link b2 two (64 * k + i)) ++ (two.map fun k => granule fun i => link b3 three (64 * k + i)) ++
    (three.map fun k => granule fun i => match Map.find e.leaves (64 * k + i) with | some l => l.word | none => 0)

/-- A polder's descriptors, by sequence, and its sequences' own granules, which follow the descriptors' (R187, R188). -/
def State.tableParts (s : State) (p : Nat) : Map (List Nat) × List (List Nat) :=
  let mine := s.seqs.filter fun e => decide (e.2.base = p)
  let d := (mine.length + 1) / 2
  mine.foldl (fun (acc : Map (List Nat) × List (List Nat)) e =>
    let at_ := d + acc.2.length
    let n := (e.2.counts.length + 63) / 64
    let live := e.2.st ≠ .flushed
    let desc := s.descriptor e.1 e.2 (if live then s.granuleAt p (at_ + n) else 0) (if live then s.granuleAt p at_ else 0) e.2.handle
    (acc.1 ++ [(e.1, desc)], acc.2 ++ s.seqGranules e.2 at_)) ([], [])

/-- A sequence's descriptor as its polder's table pool holds it (R187). -/
def State.ownDescriptor (s : State) (seqId : Nat) (e : Seq) : List Nat := Map.getD (s.tableParts e.base).1 seqId (s.descriptor seqId e 0 0 e.handle)

/-- A polder's table granules (R187, R188): its descriptors in order of sequence ID, two to a granule, then each sequence's own granules.
DESIGN CHOICE, log entry 18. -/
def State.tableGranules (s : State) (p : Nat) : List (List Nat) :=
  let own := s.tableParts p
  let desc := Map.vals own.1
  let pair (i : Nat) : List Nat := desc.getD (2 * i) [] ++ desc.getD (2 * i + 1) (List.replicate 128 0)
  (List.range ((desc.length + 1) / 2)).map pair ++ own.2

/-- An entry of the spill map (R232): zero where it is not valid. -/
def State.mapEntry (s : State) (i : Nat) : Nat :=
  match Map.find s.host.spillMap i with
  | some r => r.1 % 2 ^ 32 + 2 ^ 32 * ((r.2 - 1) % 16) + 2 ^ 36
  | none => 0

/-- An entry of the tag table (R426): the tag, then the serial. -/
def State.tagEntry (s : State) (i : Nat) : List Nat :=
  match Map.find s.host.seals i with
  | some r => leBytes 16 r.1 ++ leBytes 8 r.2 ++ List.replicate 8 0
  | none => List.replicate 32 0

/-- A byte of frame `j` of the spill map and its tag table: of each five frames the first is the map's, the others the table's for the same entries,
so that the frames stay where they are as the map grows. DESIGN CHOICE, log entry 45. -/
def State.mapByte (s : State) (j off : Nat) : Nat :=
  if j % 5 = 0 then nth (leBytes 8 (s.mapEntry (8192 * (j / 5) + off / 8))) (off % 8)
  else nth (s.tagEntry (8192 * (j / 5) + 2048 * (j % 5 - 1) + off / 32)) (off % 32)

/-- A byte of a polder's table pool (R183): its granules from the first frame on, and the spill map's frames from the last frame down.
DESIGN CHOICE, log entry 18. -/
def State.tableByte (s : State) (p off : Nat) : Nat :=
  let size := 65536 * s.obj 0x2B4002
  let back := (size - 1 - off) / 65536
  if back < mapFramesOn (s.mapFrames 0) p then
    s.mapByte (8 * back + p) (off % 65536)
  else nth ((s.tableGranules p).getD (off / 256) []) (off % 256)

/-- A byte of the stacks as the device reads it (R183, R533): a table-pool frame holds what its tables hold. -/
def State.stackByte (s : State) (a : Nat) : Nat :=
  let p := framePolder (frameOf a)
  let base := s.tableBase p * 65536
  if base ≤ a ∧ a < base + 65536 * s.obj 0x2B4002 then s.tableByte p (a - base) else (Memory.read s.mem a).toNat

end Sys2Proof.Machine
end

