-- ==== Sys2Proof/Machine/Owner.lean ====
section
/-! DEFINITION. Who answers a request: fences (R370), charts (R313 to R316), the pair's lead (R358, R359, R367). -/

namespace Sys2Proof.Machine

/-- The composition record that a tenant is bound to (R313). -/
def State.compOf (s : State) (t : Nat) : Option Nat :=
  let id := s.obj (tenantKey t 0xB)
  if id = 0 then none else (List.range 16).find? fun i => decide (s.obj (recKey 0x2440 i 1) = id)

/-- The bucket of a sequence (R314). -/
def bucketOf (seqId : Nat) : Nat := seqId / 2 ^ 36 % 65536

/-- Spans of a composition. -/
def State.spans (s : State) (i : Nat) : Nat := s.obj (recKey 0x2440 i 5)

/-- The span of a KV-head group (2440h.06). -/
def State.spanOf (s : State) (i g : Nat) : Nat :=
  ((List.range (s.spans i - 1)).filter fun j => decide (s.obj (recKey 0x2440 i 6) / 256 ^ j % 256 ≤ g)).length

/-- The chart entry of a bucket and span. -/
def State.entryIdx (s : State) (i seqId span : Nat) : Nat := bucketOf seqId * s.spans i + span

/-- An entry's owner node (R314). -/
def entryNode (e : Nat) : Nat := e % 2 ^ 20
/-- An entry's slice. -/
def entrySlice (e : Nat) : Nat := e / 2 ^ 20 % 64
/-- Whether the owner is a pair. -/
def entryPair (e : Nat) : Bool := bit e 26

/-- Whether this device owns an entry: its node, or its partner's when the entry names a pair (R316). -/
def State.owns (s : State) (e : Nat) : Bool :=
  decide (entryNode e ≠ 0) &&
  (decide (entryNode e = s.me) || (entryPair e && decide (s.pair.st ≠ .off) && decide (entryNode e = s.pair.partner)))

/-- Whether this device is the holder of a sequence and span. -/
def State.holder (s : State) (i seqId span : Nat) : Bool :=
  let c := s.chart i
  let idx := s.entryIdx i seqId span
  if c.stranded.contains (seqId, s.me) then true else
  match Map.find c.transit idx with
  | some t => if t.inbound then t.sealed_.contains seqId else !t.sealed_.contains seqId
  | none => s.owns (Map.getD c.chart idx 0) && !c.stranded.any (fun p => decide (p.1 = seqId))

/-- The node that holds a sequence and span as far as this device knows (R316, R320). -/
def State.holderNode (s : State) (i seqId span : Nat) : Nat :=
  let c := s.chart i
  let idx := s.entryIdx i seqId span
  if s.holder i seqId span then s.me else
  match c.stranded.find? fun p => decide (p.1 = seqId) with
  | some p => p.2
  | none => match Map.find c.transit idx with
    | some t => t.peer
    | none => entryNode (Map.getD c.chart idx 0)

/-- What check 3 says of a request (R316). `wait` names the composition and whether the table's row 4 holds it. -/
inductive Verdict where
  | go
  | stop (a : Answer)
  | wait (comp : Nat) (order4 : Bool)
  deriving DecidableEq, Repr

/-- The table of R316, for a request of a tenant's sequence with chart epoch E; `create` is a creation or a FORK. -/
def State.chartCheck (s : State) (seqId epoch span : Nat) (create : Bool) : Verdict :=
  match s.compOf (tenantOf seqId) with
  | none => .go
  | some i =>
    let c := s.chart i
    let e := c.epoch
    if epoch > e then .wait i false
    else if epoch + 1 < e ∨ (epoch + 1 = e ∧ s.since c.committedAt ≥ s.obj (recKey 0x2440 i 7)) then
      .stop (movedAnswer (s.holderNode i seqId span) e)
    else if s.holder i seqId span then .go
    else match Map.find c.transit (s.entryIdx i seqId span) with
      | some t => if t.inbound && !t.sealed_.contains seqId then
          (if create then .wait i true else .stop (movedAnswer t.peer e))
        else .stop (movedAnswer (s.holderNode i seqId span) e)
      | none => .stop (movedAnswer (s.holderNode i seqId span) e)

/-- The chart epoch that a MOVED on a tenant's sequence names. -/
def State.epochOf (s : State) (seqId : Nat) : Nat :=
  match s.compOf (tenantOf seqId) with
  | some i => (s.chart i).epoch
  | none => 0

/-- The polder-down mask that a beat carries (R364): STOPPED, or a failed stack interface (R369). -/
def State.downMask (s : State) : Nat :=
  ((List.range 8).map fun p => if (s.polder p).down || decide ((s.polder p).prog = .stopped) then 2 ^ p else 0).sum

/-- Whether a sequence has pages on a polder of a mask. -/
def State.pagesOn (s : State) (seqId mask : Nat) : Bool :=
  match Map.find s.seqs seqId with
  | some q => q.frameList.any fun f => bit mask (framePolder f)
  | none => false

/-- Whether a sequence belongs to the pair: its chart entry names a pair, or its tenant is bound to no composition (R358). -/
def State.pairOwned (s : State) (seqId : Nat) : Bool :=
  decide (s.pair.st ≠ .off) && decide (s.pair.st ≠ .forming) &&
  match s.compOf (tenantOf seqId) with
  | none => true
  | some i => entryPair (Map.getD (s.chart i).chart (s.entryIdx i seqId 0) 0)

/-- Whether the chart, or for an unbound tenant the lower node ID, names this device as the lead (R358). -/
def State.namedLead (s : State) (seqId : Nat) : Bool :=
  match s.compOf (tenantOf seqId) with
  | none => decide (s.me < s.pair.partner)
  | some i => decide (entryNode (Map.getD (s.chart i).chart (s.entryIdx i seqId 0) 0) = s.me)

/-- Whether this device leads a sequence (R358). -/
def State.leads (s : State) (seqId : Nat) : Bool :=
  if !s.pairOwned seqId then true else
  match s.pair.st with
  | .soleOwner => true
  | .rebuilding => true
  | .detached => false
  | _ =>
    if s.namedLead seqId then !s.pagesOn seqId s.downMask && decide (s.fence.st ≠ .probation)
    else (match s.pair.lastBeat with | some b => b.probation | none => false) || s.pagesOn seqId s.pair.down

/-- What the pair says of a request: a DETACHED device, a sequence lost here or on a polder down here, and a write on a
sequence that the partner leads are answered MOVED (R359, R367, R369, R372). -/
def State.pairCheck (s : State) (seqId : Nat) (write : Bool) : Verdict :=
  if !s.pairOwned seqId then .go else
  let away := Verdict.stop (movedAnswer s.pair.partner (s.epochOf seqId))
  match s.pair.st with
  | .detached => away
  | .paired =>
    if s.lostHere.contains seqId || s.pagesOn seqId s.downMask || (write && !s.leads seqId) then away else .go
  | _ => .go

/-- Check 2 (R370). -/
def State.fenceCheck (s : State) (fence : Nat) (write : Bool) : Verdict :=
  if s.fence.st = .fenced ∨ fence ≠ s.fence.epoch then .stop ⟨.fenced, 0, leBytes 4 s.fence.epoch⟩
  else if s.fence.st = .probation ∧ s.pair.st ≠ .paired ∧ write then .stop (.busy 0x0E)
  else .go

/-- Checks 2 and 3 in order. -/
def State.checks23 (s : State) (r : Req) (write create : Bool) (span : Nat) : Verdict :=
  match s.fenceCheck r.fence write with
  | .go => match s.chartCheck r.seqId r.epoch span create with
    | .go => s.pairCheck r.seqId write
    | v => v
  | v => v

/-- The answer that a hold's bound writes (R316). -/
def holdAnswer (order4 : Bool) : Answer := .busy (if order4 then 0x0C else 0x0D)

/-- Hold a request at check 3, or end it as its bound would where 4 096 are held (R316). -/
def State.holdReq (s : State) (r : Req) (comp : Nat) (order4 : Bool) : State :=
  if s.holds.length ≥ 4096 then s.refuse r (holdAnswer order4)
  else { s with orderCtr := s.orderCtr + 1,
                holds := Map.put s.holds (s.orderCtr + 1) ⟨r, comp, order4, s.time⟩ }

/-- Whether a bucket is marked orphaned (R373). -/
def State.orphan (s : State) (seqId : Nat) : Bool :=
  match s.compOf (tenantOf seqId) with
  | some i => s.orphans.contains (s.obj (recKey 0x2440 i 1), bucketOf seqId)
  | none => false

/-- A tombstone's request has arrived (R220): it ends ABORTED with no effect, naming the first of the ABORTs that wait, and every one of them ends
OK. DESIGN CHOICE, log entry 152. -/
def State.entomb (s : State) (r : Req) (t : Tombstone) : State :=
  let winner := t.waiters.headD 0
  let gen := match Map.find s.reqs winner with | some q => q.gen | none => 0
  let s := s.refuse r ⟨.aborted, 0, leBytes 4 (winner + gen * 2 ^ 17)⟩
  let s := { s with tombs := s.tombs.filter fun x => !(x.src.same t.src) }
  t.waiters.foldl (fun s w => match Map.find s.reqs w with | some q => s.complete w q (.ok) | none => s) s

/-- The tombstone that an arriving request bears. -/
def State.tombOf (s : State) (r : Req) : Option Tombstone :=
  if r.kind ≥ 10 ∨ r.src.isMirror then none else s.tombs.find? fun t => t.src.same r.src

/-- The first steps of every request, which the inlet admits in SERVING only (R464): a tombstone, check 1, checks 2 and 3, and the hold of check 3. What stands when they
pass is `next`; a mirror record bypasses checks 2 and 3 (R363). `needs` says that the request needs a descriptor; `bad` are the failing fields of check 1.
DEDUCED, log entry 94. -/
def State.gate (s : State) (r : Req) (write create needs : Bool) (span : Nat) (bad : List (Nat × Nat × Bool))
    (next : State → State) : State :=
  if s.start.st ≠ .serving then s else
  match s.tombOf r with
  | some t => s.entomb r t
  | none =>
    let missing := needs && !Map.has s.seqs r.seqId && (r.src.isMirror || (decide (s.chartCheck r.seqId r.epoch span create = .go) &&
      decide (s.pairCheck r.seqId write = .go)))
    let slot := s.obj (tenantKey r.tenant 0x14)
    match firstBad ((8, 4, missing) :: (8, 0x14, decide (slot ≠ 0) && decide (r.src.keySlot ≠ slot) && !r.src.isMirror) ::
      (61, 1, r.reserved) :: bad) with
    | some (off, d) =>
      if off = 8 ∧ d = 4 ∧ (s.lostSeqs.contains r.seqId || s.orphan r.seqId) then s.refuse r (lostAnswer r.seqId 0)
      else s.refuse r (.malformed d off)
    | none => match (if r.src.isMirror then .go else s.checks23 r write create span) with
      | .go => if s.lostSeqs.contains r.seqId ∧ needs then s.refuse r (lostAnswer r.seqId 0) else next s
      | .stop a => s.refuse r a
      | .wait i o => s.holdReq r i o

end Sys2Proof.Machine
end

