-- ==== Sys2Proof/Machine/Bodies.lean ====
section
/-! DEFINITION. What requests carry and what they are answered with: query vectors, tokens, hidden states (R115, R123, R148, R158, R164),
PARTIALs and reply segments (R131, R170, R176, R177). -/

namespace Sys2Proof.Machine

/-- The bytes of packed elements of a format (R88, R90). -/
def bodyBytes (fmt n : Nat) : Nat := if fmt = 8 then (n + 31) / 32 + n else (n * elemBits fmt + 7) / 8

/-- Bytes of an ATTEND's query vectors (R115). -/
def queryBytes (sh : Shape) (heads qFmt kind : Nat) : Nat := if kind = 3 then 0 else heads * sh.g * bodyBytes qFmt sh.d

/-- Bytes of an ATTEND's body (R115). -/
def attendBody (sh : Shape) (heads qFmt kind aFmt : Nat) : Nat :=
  queryBytes sh heads qFmt kind +
  (if kind = 1 then 2 * heads * bodyBytes aFmt sh.d else if kind = 2 ∨ kind = 3 then bodyBytes aFmt sh.h else 0)

/-- Bytes of one PARTIAL (R131). -/
def partialBytes (d oFmt : Nat) : Nat := 16 + d * (if oFmt = 1 then 2 else 4)

/-- The PARTIAL o format that a request asks for (R113, R157). -/
def Request.oFmt (q : Request) : Nat :=
  if q.kind = 3 then hdrField q.hdr 24 1 / 16 else if q.kind = 1 then hdrField q.hdr 26 1 / 16 else 0

/-- Elements in one format as they stand in another, rounded to nearest even (R123, R148). -/
def recode (from_ to_ n : Nat) (bs : List Nat) : List Nat :=
  if from_ = to_ then bs else (encodeVec to_ 1 false (decodeVec from_ n 1 bs)).1

/-- The KV heads of a request before those of one of its groups. -/
def Request.headsBefore (q : Request) (sh : Shape) (g : Nat) : Nat := g * sh.n - q.firstHead

/-- The query vectors of a group's query heads in BF16 (R115, R123): the home polder's conversion, where the format is another. -/
def Request.queriesOf (q : Request) (sh : Shape) (g : Nat) : List Nat :=
  if q.kind ≠ 1 ∨ hdrField q.hdr 27 1 % 4 = 3 then []
  else
    let fmt := hdrField q.hdr 26 1 % 16
    let vec := sh.g * bodyBytes fmt sh.d
    recode fmt 1 (sh.headsIn g * sh.g * sh.d) ((q.body.drop (q.headsBefore sh g * vec)).take (sh.headsIn g * vec))

/-- The keys and values of a group in a body of `n` tokens (R114, R164): for each token, its heads' keys, then its heads' values. -/
def Request.keysOf (q : Request) (sh : Shape) (g fmt n : Nat) (body : List Nat) : List Nat :=
  let vec := bodyBytes fmt sh.d
  let part (i : Nat) : List Nat := (body.drop ((i * q.heads + q.headsBefore sh g) * vec)).take (sh.headsIn g * vec)
  (List.range n).flatMap fun t => part (2 * t) ++ part (2 * t + 1)

/-- What a write carries beside its header and queries (R114, R164): whether hidden states, its format, its bytes. A PREFILL's body is in
its body buffer (R159). -/
def Request.carries (q : Request) (sh : Shape) : Option (Bool × Nat × List Nat) :=
  if q.kind = 1 then
    let a := hdrField q.hdr 27 1
    if a % 4 = 0 then none
    else some (decide (2 ≤ a % 4), a / 4 % 16, q.body.drop (queryBytes sh q.heads (hdrField q.hdr 26 1 % 16) (a % 4)))
  else if q.kind = 2 then some (decide (hdrField q.hdr 24 1 / 16 % 4 = 1), hdrField q.hdr 24 1 % 16, q.body)
  else none

/-- The bytes of a write that the inlet delivers to a lane of a group (R123, R148, R164): the group's keys and values, or the hidden
states in the weight set's activation format. -/
def Request.bodyOf (q : Request) (sh : Shape) (aFmt g : Nat) : List Nat :=
  match q.carries sh with
  | none => []
  | some (true, fmt, bs) => recode fmt aFmt (q.tokens * sh.h) bs
  | some (false, fmt, bs) => q.keysOf sh g fmt q.tokens bs

/-- Whether a request needs projection (R145). -/
def Request.projects (q : Request) : Bool :=
  (decide (q.kind = 1) && decide (2 ≤ hdrField q.hdr 27 1 % 4)) ||
    (decide (q.kind = 2) && decide (hdrField q.hdr 24 1 / 16 % 4 = 1)) || decide (q.kind = 3)

/-- The groups of a request: the first, and one past the last. -/
def Request.groupSpan (q : Request) (sh : Shape) : Nat × Nat := (q.firstHead / sh.n, (q.firstHead + q.heads + sh.n - 1) / sh.n)

/-- Bytes 0 to 15 of a PARTIAL's check (R132): the binding prefix, never sent. -/
def bindingPrefix (seqId layer head epoch : Nat) : List Nat := leBytes 8 seqId ++ leBytes 2 layer ++ leBytes 2 head ++ leBytes 4 epoch

/-- The check word of a PARTIAL (R132); of a prefill PARTIAL the prefix goes on with its token's absolute position (R176). -/
def partialCheck (q : Request) (head : Nat) (pos : Option Nat) (bs : List Nat) : Nat :=
  crc64 (bindingPrefix q.seqId q.layer head (hdrField q.hdr 4 4) ++ (match pos with | some p => leBytes 4 p | none => []) ++ bs)

/-- Tokens that a PREFILL answers: every one, the last r, or none (R157, R175). -/
def Request.answered (q : Request) : Nat := if q.attn = 1 then q.tokens else if q.attn = 2 then q.respan else 0

/-- Tokens of a query block (R170). -/
def blockTokens (g : Nat) : Nat := max 1 (256 / g)

/-- The query blocks of a PREFILL that hold an answered token (R170, R175). -/
def Request.blocksOf (q : Request) (g : Nat) : List Nat :=
  let t := blockTokens g
  let first := (q.tokens - q.answered) / t
  (List.range ((q.tokens + t - 1) / t - first)).map (first + ·)

/-- The key blocks that a query block attends to (R170): those whose first position is not beyond every query of it. -/
def Request.keyBlocksOf (q : Request) (g block : Nat) : Nat :=
  let last := q.base + min q.tokens ((block + 1) * blockTokens g) - 1
  last / 256 + 1

/-- The reply segments of a PREFILL over the fabric (R170, R177): the first token of each, counted in the prompt, and its tokens. There is one for
each query block that holds an answered token, or more where one would pass 1 MiB. DEDUCED, log entry 21. -/
def Request.segments (q : Request) (sh : Shape) : List (Nat × Nat) :=
  let t := blockTokens sh.g
  let k := max 1 ((2 ^ 20 - 16) / (q.heads * sh.g * partialBytes sh.d q.oFmt))
  match q.src with
  | .ring .. | .mirror _ => []
  | .fabric .. => if q.answered = 0 then [] else (q.blocksOf sh.g).flatMap fun b =>
      let lo := max (b * t) (q.tokens - q.answered)
      let hi := min ((b + 1) * t) q.tokens
      (List.range ((hi - lo + k - 1) / k)).map fun j => (lo + j * k, min k (hi - lo - j * k))

/-- Where a group's results of a query block stand among those reported (R31, R170): block b at polder (base + b) mod 8, which merges it, or
at the lowest polder that reported for the group where that one holds no lane of it. DEDUCED, log entry 21. -/
def mergedAt (results : Map (List Nat)) (base g block : Nat) : Nat :=
  let k := g * 8 + (base + block) % 8
  if Map.has results k then k else ((List.range 8).map (g * 8 + ·)).find? (Map.has results) |>.getD k

/-- A PREFILL's PARTIALs of some of its tokens, each token's heads ascending (R177, R537), taken in turn from what the polders that merged
them reported. -/
def Request.tokenParts (q : Request) (sh : Shape) (base : Nat) : List Nat → Map (List Nat) → List (List Nat)
  | [], _ => []
  | i :: l, res =>
    let span := q.groupSpan sh
    let r := ((List.range (span.2 - span.1)).map (span.1 + ·)).foldl (fun (a : List Nat × Map (List Nat)) g =>
      let k := mergedAt res base g (i / blockTokens sh.g)
      let bs := Map.getD a.2 k []
      let n := sh.headsIn g * sh.g * partialBytes sh.d q.oFmt
      (a.1 ++ bs.take n, Map.adjust a.2 k fun _ => bs.drop n)) ([], res)
    r.1 :: q.tokenParts sh base l r.2

/-- A PREFILL's PARTIALs token by token, from the first answered token on. -/
def Request.partials (q : Request) (sh : Shape) (base : Nat) : List (List Nat) :=
  q.tokenParts sh base ((List.range q.answered).map (q.tokens - q.answered + ·)) q.results

/-- A reply segment's bytes (R177): its header, then whole PARTIALs. -/
def Request.segmentBytes (q : Request) (sh : Shape) (parts : List (List Nat)) (index : Nat) (x : Nat × Nat) : List Nat :=
  leBytes 4 (q.base + x.1) ++ leBytes 2 x.2 ++ leBytes 2 (q.heads * sh.g) ++ leBytes 4 index ++ leBytes 4 0 ++
    ((parts.drop (x.1 - (q.tokens - q.answered))).take x.2).flatten

/-- The quarters that each of `n` arrays takes of `q` (R144): the first and the count, in contiguous runs, the first q mod n one more. -/
def dealQuarters (q n : Nat) : List (Nat × Nat) :=
  (List.range n).map fun i => (i * (q / n) + min i (q % n), q / n + b2n (decide (i < q % n)))

/-- A quarter of a projection in the order of R144: 0 K, 1 V, 2 Q; its head, its quarter of the head. -/
def quarterAt (sh : Shape) (k : Nat) : Nat × Nat × Nat :=
  let h := k / 4
  if h < sh.kvHeads then (0, h, k % 4) else if h < 2 * sh.kvHeads then (1, h - sh.kvHeads, k % 4) else (2, h - 2 * sh.kvHeads, k % 4)

/-- Quarters of a binding's projections (R144). -/
def Shape.quarters (sh : Shape) (hasQ : Bool) : Nat := 4 * (2 * sh.kvHeads + if hasQ then sh.qHeads else 0)

/-- The tiles of an array's share of `k` quarters in their order (R146, R150): for each column tile its columns, and for each input tile of it
the tile's rows from `h` that are not zero. -/
def shareTiles (sh : Shape) (k : Nat) : List (Nat × Nat) :=
  let cols := k * sh.c
  (List.range ((cols + 255) / 256)).flatMap fun j => (List.range ((sh.h + 255) / 256)).map fun i =>
    (min 256 (cols - 256 * j), min 256 (sh.h - 256 * i))

end Sys2Proof.Machine
end

