-- ==== Sys2Proof/Machine/Commit.lean ====
section
/-! DEFINITION. Writing tokens (R160 to R168), placing lanes (R122 to R125), mirroring a write (R360, R361), and the end of a request's lanes (R137, R138). -/

namespace Sys2Proof.Machine

/-- A page that a write touches: its group and page index, and whether it is a tail page (R165). -/
structure Touch where
  group : Nat
  page : Nat
  tail : Bool
  deriving DecidableEq, Repr

/-- The pages that `n` tokens from position `base` touch in groups `g0` to `g1` - 1. -/
def touched (base n g0 g1 : Nat) : List Touch :=
  if n = 0 then [] else
  (List.range (g1 - g0)).flatMap fun i => (List.range ((base + n - 1) / 64 + 1 - base / 64)).map fun j =>
    ⟨g0 + i, base / 64 + j, decide (j = 0) && decide (base % 64 ≠ 0)⟩

/-- How many touched pages of a kind lie on a polder. -/
def touchedOn (l : List Touch) (base p : Nat) (tail : Bool) : Nat :=
  (l.filter fun t => decide (t.tail = tail) && decide (pagePolder base t.group t.page = p)).length

/-- The granules that a sequence's page table gains with the pages touched (R188). -/
def Seq.growth (e : Seq) (sh : Shape) (layer : Nat) (l : List Touch) : Nat :=
  let leaves := l.foldl (fun m t => Map.put m (pageKey sh layer t.group t.page) ⟨0, 1⟩) e.leaves
  ({ e with leaves := leaves } : Seq).granules - e.granules

/-- The quota, page-pool and tail-reserve checks (R118 check 6; R160 checks 8 and 9); a lost set 1 refuses what needs a
page-pool frame (R482). `grow` are the granules that the new pages need, whose want is BUSY_RETRY 08h (R183, R196), met after the page pool's.
DESIGN CHOICE, log entry 18. -/
def State.frameChecks (s : State) (tenant base grow : Nat) (l : List Touch) : Option Answer :=
  let fresh := (l.filter fun t => !t.tail).length
  if fresh ≠ 0 ∧ s.dutyGone 1 then some (.busy 0x11)
  else if !s.quotaFor tenant 1 fresh then some (quotaAnswer 1 tenant)
  else if (List.range 8).any fun p => decide (s.freeFrames p < touchedOn l base p false) then some (.busy 0x07)
  else if grow ≠ 0 ∧ s.freeGranules base < grow then some (.busy 0x08)
  else if (List.range 8).any fun p => decide (s.freeTails p < touchedOn l base p true) then some (.busy 0x04)
  else none

/-- Tokens that will stand once every earlier-admitted write on a sequence and layer has ended OK (R160). -/
def State.plannedTokens (s : State) (seqId layer order : Nat) : Nat :=
  (match Map.find s.seqs seqId with | some q => q.tokens layer | none => 0) +
  ((s.reqs.filter fun e => e.2.isWrite && decide (e.2.seqId = seqId) && decide (e.2.layer = layer) &&
    decide (e.2.order < order)).map fun e => e.2.tokens).sum

/-- Whether every polder that holds a share of a binding's weights can run it (R145). -/
def State.canProject (s : State) (b : Nat) : Bool :=
  (s.weight b).polders.all fun p =>
    (decide ((s.polder p).prog = .loaded) || decide ((s.polder p).prog = .running)) && !(s.polder p).down

/-- Take the fresh frame of a touched page: a page-pool frame, or a tail-reserve frame whose header keeps the owner of the
page it replaces (R166), on the polder where the page is placed (R122). It holds zero until it is written, so that slots beyond the last token
are zero (R165). None when no frame is free. DEDUCED, log entry 140. -/
def State.takeFrame (s : State) (sh : Shape) (seqId layer top : Nat) (q : Seq) (t : Touch) :
    Option (State × (Nat × Nat × Nat)) :=
  let p := pagePolder q.base t.group t.page
  match s.pickFrame p with
  | none => none
  | some k =>
    let key := pageKey sh layer t.group t.page
    let old := if t.tail then (match Map.find q.leaves key with | some l => l.val | none => 0) else 0
    let owner := match Map.find s.frames old with | some f => f.hdr.owner | none => seqId
    let hdr : PageHdr := { owner := owner, layer := layer, group := t.group, valid := min 64 (top - t.page * 64),
                           first := t.page * 64, formats := sh.kFmt + 16 * sh.vFmt, heads := sh.headsIn t.group,
                           dim := sh.d, valOff := sh.valOff, check := 0 }
    let s := { s with frames := Map.put s.frames k { hdr := hdr, count := 0 } }.zeroFrame k
    let s := if t.tail then s.setPolder p { s.polder p with tailUsed := (s.polder p).tailUsed + 1 } else s
    some (s, (key, k, old))

/-- Take the fresh frames of all touched pages. -/
def State.takeFrames (s : State) (sh : Shape) (seqId layer top : Nat) (q : Seq) :
    List Touch → Option (State × List (Nat × Nat × Nat))
  | [] => some (s, [])
  | t :: l =>
    match s.takeFrame sh seqId layer top q t with
    | none => none
    | some (s, w) =>
      match s.takeFrames sh seqId layer top q l with
      | none => none
      | some (s, ws) => some (s, w :: ws)

/-- The chunks of a group on a polder: the first and the count, for `pages` pages (R122). -/
def chunksOn (base g pages p : Nat) : Nat × Nat :=
  let o := (p + 16 * 8 - base % 8 - g % 8) % 8
  let total := (pages + 15) / 16
  (o, if o < total then (total - o + 7) / 8 else 0)

/-- The pages of a group on a polder in chunk and page order (R123). -/
def pagesOn (base g pages p : Nat) : List Nat :=
  let c := chunksOn base g pages p
  (List.range c.2).flatMap fun i => (List.range 16).map (fun j => (c.1 + 8 * i) * 16 + j) |>.filter (· < pages)

/-- The frame of a page: the one that the request writes, else the one that the page table names. -/
def frameFor (sh : Shape) (q : Seq) (writes : List (Nat × Nat × Nat)) (layer g page : Nat) : Nat :=
  let key := pageKey sh layer g page
  match writes.find? fun w => decide (w.1 = key) with
  | some w => w.2.1
  | none => match Map.find q.leaves key with
    | some l => l.val
    | none => 0

/-- The ring of an entry: the header's ring for its bucket or kind, else the bucket's own (R120). DEDUCED, log entry 20. -/
def ringOf (im : Option Image) (kind bucket : Nat) : Nat :=
  let k := if kind = 1 then bucket else 16 + kind
  match im with
  | some im => match im.rings.find? fun e => decide (e.1 = k) with
    | some e => e.2
    | none => k % 16
  | none => k % 16

/-- Put an entry on a polder's ring; one that finds the ring full waits behind it (R58). -/
def State.enring (s : State) (p : Nat) (e : RingEntry) : State :=
  let x := s.polder p
  let r := ringOf x.image e.kind e.bucket
  s.setPolder p { x with rings := Map.put x.rings r (Map.getD x.rings r [] ++ [e]) }

/-- The lane of a group that answers for it (R31, R130, R170): of an ATTEND the home polder's, or the lowest polder's where the home
holds no page of the group; of a PREFILL every lane, since each polder merges query blocks. DEDUCED, log entry 141. -/
def Request.answersAt (q : Request) (base : Nat) (holders : List Nat) (p : Nat) : Bool :=
  if q.kind = 1 then decide (p = if holders.contains base then base else holders.headD base) else decide (q.kind = 3) && decide (q.attn ≠ 0)

/-- The ring entries of an ATTEND, APPEND or PREFILL (R123, R125): one for each group and polder that holds a page it reads or
writes, and, for a projection, one on each polder that holds a weight share and has no other. -/
def entriesOf (s : State) (tag : Nat) (q : Request) (e : Seq) (sh : Shape) (project : Bool) : List (Nat × RingEntry) :=
  let (g0, g1) := q.groupSpan sh
  let pages := (q.limit + 63) / 64
  let reads := decide (q.kind = 1) || decide (q.attn ≠ 0)
  let onPolder (g p : Nat) : List Nat := (pagesOn e.base g pages p).filter fun pg =>
    reads || (q.writes.any fun w => decide (w.1 = pageKey sh q.layer g pg))
  let groups := (List.range (g1 - g0)).map (g0 + ·)
  let holders (g : Nat) : List Nat := (List.range 8).filter fun p => !(onPolder g p).isEmpty
  let part := ((List.range 8).map fun p => if groups.any fun g => (holders g).contains p then 2 ^ p else 0).sum
  let one (p g : Nat) (pgs : List Nat) : RingEntry :=
    let c := chunksOn e.base g pages p
    let w := q.writes.find? fun w => decide (keyGroup sh w.1 = g) && decide (pgs.contains (keyPage w.1))
    { tag := tag, gen := q.gen, kind := q.kind, bucket := q.bucket, home := decide (p = e.base), homePolder := e.base,
      replay := q.replayed, attach := (match w with | some w => !(decide (q.kind = 1) && q.replayed && q.written.contains w.2.1) | none => false),
      oFmt := q.oFmt, group := g,
      seqId := q.seqId, layer := q.layer, participants := part, scale := hdrField q.hdr (if q.kind = 3 then 28 else 20) 4,
      limit := q.limit, firstChunk := c.1, chunkCount := c.2, pageCount := pgs.length,
      lastValid := if q.limit % 64 = 0 then 64 else q.limit % 64, lastHere := pgs.contains (pages - 1),
      frames := pgs.map (frameFor sh e q.writes q.layer g), query := q.queriesOf sh g,
      body := if w.isSome || project then q.bodyOf sh (s.weight e.binding).aFmt g else [],
      answers := q.answersAt e.base (holders g) p, attachFrame := (match w with | some w => w.2.1 | none => 0),
      attachSlot := q.base % 64 }
  let main := groups.flatMap fun g => (holders g).map fun p => (p, one p g (onPolder g p))
  let extra := if project then ((s.weight e.binding).polders.filter fun p => !main.any fun m => decide (m.1 = p)).map
    fun p => (p, one p g0 []) else []
  main ++ extra

/-- Bind a request to the rings: its entries are placed and each must report (R123). -/
def State.place (s : State) (tag : Nat) (q : Request) (e : Seq) (sh : Shape) (project : Bool) : State :=
  let es := entriesOf s tag q e sh project
  let s := es.foldl (fun s x => s.enring x.1 x.2) s
  s.setReq tag { q with phase := .running, outstanding := es.length, reports := [], tainted := [] }

/-- The lost pages that a request would read: the first's group and position, and how many (R207). -/
def lostPages (sh : Shape) (e : Seq) (layer g0 g1 : Nat) : List (Nat × Nat) :=
  ((e.layerLeaves sh layer).filter fun l => decide (l.2.loc = 3) && decide (g0 ≤ keyGroup sh l.1) &&
    decide (keyGroup sh l.1 < g1)).map fun l => (keyPage l.1 * 64, keyGroup sh l.1)

/-- The lost pages of a request's range of heads. -/
def Request.lostPages (q : Request) (sh : Shape) (e : Seq) : List (Nat × Nat) :=
  Machine.lostPages sh e q.layer (q.groupSpan sh).1 (q.groupSpan sh).2

/-- PAGE_LOST for the lost pages of a request, the first position the lowest (R135). -/
def lostPagesAnswer (layer : Nat) (l : List (Nat × Nat)) : Answer :=
  let best := l.foldl (fun (a : Nat × Nat) x => if x.1 < a.1 then x else a) (l.headD (0, 0))
  pageLostAnswer layer best.2 best.1 l.length

/-- Link the pages that a write made and advance the layer's count (R168). -/
def State.link (s : State) (q : Request) : State :=
  match Map.find s.seqs q.seqId with
  | none => s
  | some e =>
    let sh := s.shape e.binding
    let t := tenantOf q.seqId
    let one (s : State) (w : Nat × Nat × Nat) : State :=
      match Map.find s.frames w.2.1 with
      | none => s
      | some f =>
        let s := s.putFrame w.2.1 { f with hdr := { f.hdr with check := s.payloadCheck w.2.1 sh, written := s.time }, count := 1 }
        if w.2.2 = 0 then s.chargeBy t fun c => { c with r1 := c.r1 - 1, t1 := c.t1 + 1 }
        else
          let p := framePolder w.2.1
          let s := match Map.find s.frames w.2.2 with
            | some o => s.writeStack (w.2.2 * 65536) (hdrBytes { o with count := 0 })
            | none => s
          let s := { s with frames := Map.del s.frames w.2.2 }
          s.setPolder p { s.polder p with tailUsed := (s.polder p).tailUsed - 1 }
    let s := q.writes.foldl one s
    let leaves := q.writes.foldl (fun l w => Map.put l w.1 ⟨w.2.1, 1⟩) e.leaves
    s.setSeq q.seqId { e with leaves := leaves, counts := setNth e.counts q.layer (q.base + q.tokens) }

/-- The sum of positions plus one over `n` tokens from `base` (R441). -/
def positionSum (base n : Nat) : Nat := ((base + n) * (base + n + 1) - base * (base + 1)) / 2

/-- The amounts that a request ending OK adds to its tenant's sums (R441, R444). -/
def State.meterRequest (s : State) (q : Request) : State :=
  let t := tenantOf q.seqId
  if q.kind = 1 then
    let s := s.meterAdd t 3 (q.limit * q.heads)
    if q.isWrite then s.meterAdd t 2 q.heads else s
  else if q.kind = 2 then s.meterAdd t 2 (q.tokens * q.heads)
  else if q.kind = 3 then
    let s := s.meterAdd t 1 (q.tokens * q.heads)
    let n := if q.attn = 1 then q.tokens else if q.attn = 2 then q.respan else 0
    if n = 0 then s else s.meterAdd t 3 (positionSum (q.base + q.tokens - n) n * q.heads)
  else s

/-- Source a PREFILL's reply segments (R177): one message for each, under its own identifier. -/
def State.replySegments (s : State) (tag : Nat) (q : Request) (sh : Shape) (parts : List (List Nat)) : State :=
  match q.src with
  | .ring .. | .mirror _ => s
  | .fabric node msg slot sel => (q.segments sh).zipIdx.foldl (fun s x =>
      let bs := q.segmentBytes sh parts x.2 x.1
      let r := s.drawId slot
      { r.1 with out := .segment tag bs :: r.1.out }.sourceMessage 4 (s.obj 0x280104) node sel slot r.2 bs (some (tenantOf q.seqId)) tag msg) s

/-- Commit a request that ends OK and write its completion, indivisibly (R168, R197): an ATTEND's PARTIALs (R133), the token
counts of R178. DEDUCED, log entry 48. -/
def State.commit (s : State) (tag : Nat) (q : Request) : State :=
  let s := if q.isWrite then s.link q else s
  let s := if q.src.isMirror then s else s.meterRequest q
  let s := { s with bodies := Map.keep s.bodies fun _ b => decide (b.tag ≠ tag) }
  let sh := match Map.find s.seqs q.seqId with | some e => s.shape e.binding | none => s.shape 64
  let base := match Map.find s.seqs q.seqId with | some e => e.base | none => 0
  let parts := if q.kind = 3 then q.partials sh base else Map.vals q.results
  let s := if q.kind = 3 then s.replySegments tag q sh parts else s
  let segmented := decide (q.kind = 3) && !(q.segments sh).isEmpty
  let s := if q.kind = 2 ∨ segmented ∨ parts.flatten = [] then s else { s with out := .partials tag parts.flatten :: s.out }
  let body := if q.kind = 1 then [] else
    leBytes 4 (q.base + q.tokens) ++ (if q.kind = 3 then leBytes 4 (q.segments sh).length else [])
  s.complete tag q (.ok body) (if q.kind = 2 ∨ segmented then [] else parts.flatten)

/-- Whether a request's effects are mirrored first (R360): on every sequence of the pair while PAIRED, and on those sealed at the
partner during a rebuild (R368). -/
def State.mirrored (s : State) (q : Request) : Bool :=
  (decide (s.pair.st = .paired) || (decide (s.pair.st = .rebuilding) && s.pair.rebuilt.contains q.seqId)) &&
    s.pairOwned q.seqId && !q.src.isMirror && (q.isWrite || wideKind q.kind)

/-- Send a mirror record (R289, R362, R363), `retry` counting the transmission: a MIRROR message under no key, a fresh identifier at its first transmission. -/
def State.sendRecord (s : State) (n : Nat) (retry : Bool) : State :=
  match Map.find s.pair.unplaced n with
  | none => s
  | some m =>
    let r := if m.tries = 0 then s.drawId 0 else (s, m.msg)
    let m := { m with tries := if retry then m.tries + 1 else m.tries, msg := r.2, ports := 0, last := s.time }
    let s := { r.1 with pair := { r.1.pair with unplaced := Map.put r.1.pair.unplaced n m }, out := .record n m.what :: r.1.out }
    s.sendMirror 1 m.msg n 0 m.body

/-- Send numbered records up to the window of 64 unplaced (R363); a fenced device sends none (R371). -/
def State.sendWindow (s : State) : State :=
  if s.fence.st = .fenced then s else
  let hi := min (s.pair.next - 1) (s.pair.placed + 64)
  let news := (List.range (hi - s.pair.sent)).map fun i => s.pair.sent + 1 + i
  let s := { s with pair := { s.pair with sent := max s.pair.sent hi } }.bumpBy 0x2C1009 news.length
  news.foldl (fun s n => s.sendRecord n true) s

/-- Number the records of a request, by the bytes of each one's request, and claim its completion record (R361). -/
def State.mirror (s : State) (tag : Nat) (q : Request) (recs : List (List Nat)) : State :=
  let first := s.pair.next
  let un := recs.zipIdx.foldl (fun u x => Map.put u (first + x.2) { body := x.1, what := tag }) s.pair.unplaced
  let s := { s with pair := { s.pair with next := first + recs.length, unplaced := un } }
  (s.setReq tag { q with phase := .mirror, claimed := true, lastRecord := first + recs.length - 1 }).sendWindow

/-- The header of the APPEND that a mirror record of a write bears (R163, R360): kind-0 body, FP32. -/
def appendHeader (q : Request) (n : Nat) : List Nat :=
  let h (a k : Nat) : List Nat := leBytes k (hdrField q.hdr a k)
  [2, 0] ++ leBytes 2 q.layer ++ h 4 4 ++ leBytes 8 q.seqId ++ h 16 4 ++ [n % 256, 0, q.firstHead % 256, q.heads % 256] ++ List.replicate 8 0

/-- The tokens `lo` to `hi` that a write put into its fresh frames, as a kind-0 body in FP32 (R164, R360): the values as the pages hold them.
DESIGN CHOICE, log entry 155. -/
def State.writtenBody (s : State) (q : Request) (sh : Shape) (lo hi : Nat) : List Nat :=
  let frame (h t : Nat) : Nat := match q.writes.find? fun w => decide (w.1 = pageKey sh q.layer (h / max 1 sh.n) (t / 64)) with
    | some w => w.2.1
    | none => 0
  let side (t : Nat) (value : Bool) : List Nat := (List.range q.heads).flatMap fun i =>
    let h := q.firstHead + i
    let region (u : Nat) : List Nat :=
      let (off, n) := if value then (sh.valOff, sh.valRegion sh.n) else (256, sh.keyRegion sh.n)
      Memory.bytes s.mem (frame h t * 65536 + u * 16384 + off) n
    (List.range 4).flatMap fun u => (List.range sh.c).flatMap fun j =>
      leBytes 4 (toF32 (regionElem (if value then sh.vFmt else sh.kFmt) sh.c (region u) (h % max 1 sh.n) (t % 64) j))
  (List.range (hi - lo)).flatMap fun k => side (lo + k) false ++ side (lo + k) true

/-- The requests of a request's records (R360, R362): a write's tokens cut at page boundaries, each an APPEND with an FP32 body; any
other request as admitted. -/
def recordsOf (s : State) (q : Request) : List (List Nat) :=
  if q.isWrite then
    let sh := match Map.find s.seqs q.seqId with | some e => s.shape e.binding | none => s.shape 64
    (touched q.base q.tokens 0 1).map fun t =>
      let lo := max q.base (t.page * 64)
      let hi := min (q.base + q.tokens) (t.page * 64 + 64)
      appendHeader q (hi - lo) ++ s.writtenBody q sh lo hi
  else [leBytes 32 q.hdr.toNat]

/-- The LATE answer's mask of polders (R135). -/
def lateMask (reports : List (Nat × Nat)) : Nat :=
  ((List.range 8).map fun p => if reports.contains (1, p) then 2 ^ p else 0).sum

/-- End a request without effect: its lanes have all reported. -/
def State.fail (s : State) (tag : Nat) (q : Request) (a : Answer) : State := (s.releaseHeld tag q).complete tag q a

/-- End a request OK: through its mirror records where the pair is PAIRED, at once otherwise; BUSY_RETRY detail 10h where its
reply's key slot is exhausted (R420). -/
def State.finishOk (s : State) (tag : Nat) (q : Request) : State :=
  if s.exhausted q.src.keySlot then s.fail tag q (.busy 0x10)
  else if s.mirrored q then s.mirror tag q (recordsOf s q) else s.commit tag q

/-- What the inlet does when every lane has reported (R137, R138): the highest-ranked status in the order PAGE_LOST,
CHECK_FAIL, LATE, OK; a tainted page that is lost ends it PAGE_LOST, other tainted pages wait for the ladder, and a replay that is tainted
again ends CHECK_FAIL; a malformed
weight block (10h here) waits for its refetch (R253). -/
def State.settle (s : State) (tag : Nat) : State :=
  match Map.find s.reqs tag with
  | none => s
  | some q =>
    if q.phase ≠ .running ∨ q.outstanding ≠ 0 then s
    else if q.reports.any (fun x => decide (x.1 = 4)) then
      let l := match Map.find s.seqs q.seqId with
        | some e => q.lostPages (s.shape e.binding) e
        | none => []
      s.fail tag q (lostPagesAnswer q.layer l)
    else match q.reports.find? fun x => decide (x.1 = 0x0B) with
      | some x => s.fail tag q ⟨.checkFail, x.2, []⟩
      | none =>
        if q.reports.any fun x => decide (x.1 = 0x10) then s.setReq tag { q with phase := .recover }
        else if q.tainted ≠ [] then
          let lost := q.tainted.any fun f => match Map.find s.frames f with | some x => decide (x.health = .lost) | none => false
          let l := match Map.find s.seqs q.seqId with | some e => q.lostPages (s.shape e.binding) e | none => []
          if lost then s.fail tag q (lostPagesAnswer q.layer l)
          else if q.replayed then s.fail tag q ⟨.checkFail, 2, []⟩ else s.setReq tag { q with phase := .recover }
        else if q.reports.any (fun x => decide (x.1 = 1)) then s.fail tag q ⟨.late, 0, [lateMask q.reports]⟩
        else s.finishOk tag q

end Sys2Proof.Machine
end

