-- ==== Sys2Proof/Machine/Ladder.lean ====
section
/-! DEFINITION. The start of the recovery ladder (R352, R353, R573) and the taint of a lane (R138, R349). -/

namespace Sys2Proof.Machine

/-- Whether a sequence still names a frame: in its table, or as a frame that one of its requests writes (R573). -/
def State.names (s : State) (seqId f : Nat) : Bool :=
  (match Map.find s.seqs seqId with
   | some q => q.frameList.contains f
   | none => false) ||
  s.reqs.any fun e => decide (e.2.seqId = seqId) && e.2.writes.any fun w => decide (w.2.1 = f) || decide (w.2.2 = f)

/-- Put a frame on the ladder at a state (R352): the failure is counted, raised and logged. -/
def State.onLadder (s : State) (f : Nat) (x : Frame) (h : Health) (seqId : Nat) (external : Bool) : State :=
  let p := framePolder f
  let s := { s with frames := Map.put s.frames f { x with health := h, ladderSeq := seqId } }
  ((s.bump (recKey 0x2C00 p (if external then 2 else 1))).arrive (polderSource p 2)).logEvent 1 1 p 1 f

/-- A sector of a frame failed its check in a read that names a sequence, or none (R347, R352, R353). A lost frame, a frame
on the ladder already and a frame that the sequence no longer names start nothing (R573). -/
def State.checkFailed (s : State) (f : Nat) (seqId : Option Nat) (external : Bool) : State :=
  match Map.find s.frames f with
  | none => s
  | some x =>
    if x.health ≠ .good ∧ x.health ≠ .suspect then s
    else match seqId with
      | none => if x.health = .suspect then s else s.onLadder f x .suspect 0 external
      | some i => if s.names i f then s.onLadder f x .reread i external else s

/-- A request's read of a SUSPECT frame passed every check: the ladder runs beside the request (R353). -/
def State.besideLadder (s : State) (f : Nat) (seqId : Option Nat) (external : Bool) : State :=
  match Map.find s.frames f, seqId with
  | some x, some i => if x.health = .suspect then s.onLadder f x .reread i external else s
  | _, _ => s

/-- Whether a frame's lost flag is set (R351). -/
def State.lostFrame (s : State) (f : Nat) : Bool :=
  match Map.find s.frames f with
  | some x => x.hdr.lost
  | none => false

/-- A lane as it stands now: one that has reported is free once its DONE's latency has run out (R60, R63). -/
def Polder.laneAt (x : Polder) (now l : Nat) : Option Lane :=
  match Map.find x.lanes l with
  | some a => if a.reported ∧ a.freeAt ≤ now then none else some a
  | none => none

/-- The sequence that a lane's binding names. -/
def State.laneSeq (s : State) (p l : Nat) : Option Nat :=
  match (s.polder p).laneAt s.time l with
  | some a => some a.entry.seqId
  | none => none

/-- Taint a lane: with the frame that failed, or with the CHECK_FAIL detail that its request ends with (R138, R349). -/
def State.taint (s : State) (p l : Nat) (frames : List Nat) (detail : Nat) : State :=
  let x := s.polder p
  match x.laneAt s.time l with
  | none => s
  | some a =>
    let a := { a with tainted := true, frames := a.frames ++ frames, checkDetail := if a.checkDetail = 0 then detail else a.checkDetail }
    s.setPolder p { x with lanes := Map.put x.lanes l a }

/-- A read of `n` bytes of a stack by a unit of a polder in a lane (R347): a lost or failing frame taints the lane where
`tainting` says so, and a failure starts the ladder. The Bool says whether the bytes may be used. -/
def State.unitRead (s : State) (p l a n : Nat) (upset tainting : Bool) : State × Bool :=
  let f := frameOf a
  let sq := s.laneSeq p l
  if s.lostFrame f then ((if tainting then s.taint p l [f] 0 else s), false)
  else if s.readOk a n upset then (s.besideLadder f sq false, true)
  else
    let s := s.checkFailed f sq false
    ((if tainting then s.taint p l [f] 0 else s), false)

end Sys2Proof.Machine
end

