-- ==== Sys2Proof/Machine/Coder.lean ====
section
/-! DEFINITION. The exponent coder: coded fields, block headers, code tables, decoding (R242 to R252) and coding (R249, R250). -/

namespace Sys2Proof.Machine

/-- The coded field of a format (R242): its lowest bit and its width. -/
def codedField : Nat → Option (Nat × Nat)
  | 0 => some (23, 8) | 1 => some (7, 8) | 2 => some (10, 5) | 3 => some (3, 4) | 4 => some (2, 5) | 8 => some (3, 4)
  | _ => none

/-- Whether a format is an MX format (R86). -/
def isMx (fmt : Nat) : Bool := decide (8 ≤ fmt) && decide (fmt ≤ 11)

/-- Whether code lengths meet R246: a Kraft sum of exactly 1, or one symbol of length 1. -/
def kraftOk (lens : List Nat) : Bool :=
  let used := lens.filter fun l => decide (0 < l)
  used.all (fun l => decide (l ≤ 15)) && (decide (used = [1]) || decide ((used.map fun l => 2 ^ (15 - l)).sum = 2 ^ 15))

/-- Symbols in the order that canonical codes take them (R246), as (length, symbol). -/
def codeOrder (lens : List Nat) : List (Nat × Nat) :=
  (List.range 15).flatMap fun k => (lens.zipIdx.filter fun e => decide (e.1 = k + 1)).map fun e => (e.1, e.2)

/-- The canonical codes (R246), as (length, code, symbol). -/
def canonical (lens : List Nat) : List (Nat × Nat × Nat) :=
  let step (acc : Option (Nat × Nat) × List (Nat × Nat × Nat)) (e : Nat × Nat) : Option (Nat × Nat) × List (Nat × Nat × Nat) :=
    let code := match acc.1 with
      | none => 0
      | some (l, c) => (c + 1) * 2 ^ (e.1 - l)
    (some (e.1, code), (e.1, code, e.2) :: acc.2)
  ((codeOrder lens).foldl step (none, [])).2.reverse

/-- Read one code, most significant bit first: the symbol and the bits that follow (R245, R252). -/
def readCode (codes : List (Nat × Nat × Nat)) (n v : Nat) : List Bool → Option (Nat × List Bool)
  | [] => none
  | b :: bs =>
    let v := 2 * v + b2n b
    match codes.find? fun c => decide (c.1 = n + 1) && decide (c.2.1 = v) with
    | some c => some (c.2.2, bs)
    | none => if n ≥ 15 then none else readCode codes (n + 1) v bs

/-- Read `w` bits, most significant first. -/
def readBits (v : Nat) : Nat → List Bool → Option (Nat × List Bool)
  | 0, bs => some (v, bs)
  | _ + 1, [] => none
  | n + 1, b :: bs => readBits (2 * v + b2n b) n bs

/-- The exponents of `n` elements from the exponent stream: a static table's symbols are exponents; an adaptive table's are
offsets from the base, symbol 16 the escape (R247). -/
def readExps (codes : List (Nat × Nat × Nat)) (w : Nat) (base : Option Nat) : Nat → List Bool → Option (List Nat × List Bool)
  | 0, bs => some ([], bs)
  | n + 1, bs =>
    match readCode codes 0 0 bs with
    | none => none
    | some (sym, bs) =>
      let one := match base with
        | none => some (sym, bs)
        | some b => if sym = 16 then readBits 0 w bs else some (b + sym, bs)
      match one with
      | none => none
      | some (x, bs) => match readExps codes w base n bs with
        | none => none
        | some (xs, bs) => some (x :: xs, bs)

/-- The bits of bytes, each from bit 0 upward. -/
def bitsOf (bs : List Nat) : List Bool := bs.flatMap fun b => (List.range 8).map (bit b)

/-- A block's header fields (R244). -/
structure BlockHdr where
  coding : Nat
  fmt : Nat
  table : Nat
  size : Nat
  payload : Nat
  check : Nat
  strip : Nat
  base : Nat
  lens : List Nat
  deriving DecidableEq, Repr

/-- The 17 code lengths of an adaptive header. -/
def headerLens (bs : List Nat) : List Nat := (List.range 17).map fun i => bits (leNat ((bs.drop 16).take 9)) (4 * i + 3) (4 * i)

/-- Read and check a block's header (R244, R252 condition 1). -/
def readHeader (bs : List Nat) : Option BlockHdr :=
  let h : BlockHdr := ⟨nth bs 1 % 4, nth bs 2 % 16, nth bs 3, leNat ((bs.drop 4).take 2), leNat ((bs.drop 6).take 2),
    leNat ((bs.drop 8).take 4), leNat ((bs.drop 12).take 2), nth bs 14, headerLens bs⟩
  let coded := (codedField h.fmt).isSome
  let w := match codedField h.fmt with | some f => f.2 | none => 0
  let ok := decide (bs.length ≥ 32) && decide (crc32c (bs.take 28) = leNat ((bs.drop 28).take 4)) && decide (nth bs 0 = 1) &&
    decide (nth bs 1 < 3) && decide (nth bs 2 < 16) && decide (nth bs 3 < 64) && (decide (h.coding = 1) || decide (h.table = 0)) &&
    (decide (h.coding = 0) || coded) && decide (1 ≤ h.size) && decide (h.size ≤ 4096) &&
    (if isMx h.fmt then decide (0 < h.strip) && decide (h.size % h.strip = 0) && decide (h.strip * 8 % (8 + 32 * elemBits h.fmt) = 0) &&
      decide (h.strip * 8 ≤ 8 * (8 + 32 * elemBits h.fmt)) else decide (h.strip = 0)) &&
    (if h.coding = 2 then decide (h.base + 16 ≤ 2 ^ w) else decide (h.base = 0) && h.lens.all (fun l => decide (l = 0))) &&
    decide (nth bs 15 = 0) && decide (nth bs 24 < 16) && ((bs.drop 25).take 3).all (fun b => decide (b = 0)) &&
    decide (bs.length = 32 + h.payload) && (decide (h.coding ≠ 0) || decide (h.payload = h.size))
  if ok then some h else none

/-- Lengths of a static table record for a block's format (R248), where the record is sound and names the table. -/
def staticLens (rec_ : Nat) (table fmt w : Nat) : Option (List Nat) :=
  let bs := leBytes 160 rec_
  let ok := decide (nth bs 0 = 1) && decide (nth bs 1 = table) && decide (nth bs 2 = fmt) && decide (nth bs 3 = w) &&
    decide (leNat ((bs.drop 144).take 4) = crc32c (bs.take 144))
  if ok then some ((List.range (2 ^ w)).map fun i => bits (nth bs (16 + i / 2)) (4 * (i % 2) + 3) (4 * (i % 2))) else none

/-- Elements of a strip of an MX format. -/
def stripElems (fmt strip : Nat) : Nat := strip * 8 / (8 + 32 * elemBits fmt) * 32

/-- The element runs of a block: for each run its scale bytes and its elements. -/
def runsOf (h : BlockHdr) : List (Nat × Nat) :=
  if isMx h.fmt then List.replicate (h.size / h.strip) (stripElems h.fmt h.strip / 32, stripElems h.fmt h.strip)
  else [(0, h.size * 8 / elemBits h.fmt)]

/-- Put a coded field and its residual back together. -/
def joinElem (lo w r x : Nat) : Nat := r % 2 ^ lo + x * 2 ^ lo + r / 2 ^ lo * 2 ^ (lo + w)

/-- Rebuild the bytes of a coded block from its residual stream, as a number read from bit `at_` on, and its exponents. -/
def rebuild (eb lo w resid : Nat) : Nat → List (Nat × Nat) → List Nat → List Nat
  | _, [], _ => []
  | at_, (sc, n) :: runs, exps =>
    let rb := eb - w
    let at' := at_ + 8 * sc
    (List.range sc).map (fun i => resid / 2 ^ (at_ + 8 * i) % 256) ++
    packElems eb ((List.range n).map fun i => joinElem lo w (resid / 2 ^ (at' + rb * i) % 2 ^ rb) (nth exps i)) ++
    rebuild eb lo w resid (at' + rb * n) runs (exps.drop n)

/-- Decode a block with the static tables held (R251, R252); none when it is malformed. -/
def decodeBlock (tables : Map Nat) (bs : List Nat) : Option (List Nat) :=
  match readHeader bs with
  | none => none
  | some h =>
    let payload := bs.drop 32
    let out : Option (List Nat) :=
      if h.coding = 0 then some payload
      else match codedField h.fmt with
        | none => none
        | some (lo, w) =>
          let lens := if h.coding = 1 then (Map.vals tables).findSome? fun r => staticLens r h.table h.fmt w else some h.lens
          match lens with
          | none => none
          | some lens =>
            if !kraftOk lens then none
            else
              let runs := runsOf h
              let n := (runs.map Prod.snd).sum
              let rbits := (runs.map fun r => 8 * r.1 + (elemBits h.fmt - w) * r.2).sum
              let rbytes := (rbits + 7) / 8
              let resid := leNat (payload.take rbytes)
              match readExps (canonical lens) w (if h.coding = 2 then some h.base else none) n (bitsOf (payload.drop rbytes)) with
              | none => none
              | some (exps, rest) =>
                if rbytes ≤ payload.length ∧ resid / 2 ^ rbits = 0 ∧ rest.length < 8 ∧ rest.all (fun b => !b) then
                  some (rebuild (elemBits h.fmt) lo w resid 0 runs exps)
                else none
    match out with
    | some o => if o.length = h.size ∧ crc32c o = h.check then some o else none
    | none => none

/-- Cut bytes into blocks by their headers (R244). -/
def splitBlocks : Nat → List Nat → List (List Nat)
  | 0, _ => []
  | n + 1, bs =>
    if bs.isEmpty then []
    else
      let len := 32 + leNat ((bs.drop 6).take 2)
      bs.take len :: splitBlocks n (bs.drop len)

/-- The steps of a block (R251). -/
def blockSteps (bs : List Nat) : Nat :=
  let d := min 4096 (leNat ((bs.drop 4).take 2))
  (if nth bs 1 % 4 = 0 then 0 else 8) + (d + 127) / 128

/-- Exponents of a run of whole sections' elements (R249). -/
def exponentsOf (fmt strip : Nat) (bs : List Nat) : List Nat :=
  match codedField fmt with
  | none => []
  | some (lo, w) =>
    if isMx fmt then
      let e := stripElems fmt strip
      (chunks strip (bs.length + 1) bs).flatMap fun st => ((st.drop (e / 32)).take e).map fun b => b / 2 ^ lo % 2 ^ w
    else (List.range (bs.length * 8 / elemBits fmt)).map fun i => packedAt ((bs.drop (i * elemBits fmt / 8)).take 4) (elemBits fmt) 0 / 2 ^ lo % 2 ^ w

/-- The adaptive window (R249): the lowest base whose 16 values hold the most elements. -/
def windowBase (w : Nat) (exps : List Nat) : Nat :=
  let held (b : Nat) := (exps.filter fun x => decide (b ≤ x) && decide (x < b + 16)).length
  (List.range (2 ^ w - 15)).foldl (fun best b => if held b > held best then b else best) 0

/-- Counts of the 17 symbols (R249). -/
def symbolCounts (base : Nat) (exps : List Nat) : List Nat :=
  (List.range 16).map (fun i => (exps.filter fun x => decide (x = base + i)).length) ++
  [(exps.filter fun x => decide (x < base) || decide (base + 16 ≤ x)).length]

/-- Merge two lists of packages by weight; the first list's go first among equals. -/
def mergeByWeight : Nat → List (Nat × List Nat) → List (Nat × List Nat) → List (Nat × List Nat)
  | 0, a, b => a ++ b
  | _, [], b => b
  | _, a, [] => a
  | n + 1, x :: a, y :: b => if x.1 ≤ y.1 then x :: mergeByWeight n a (y :: b) else y :: mergeByWeight n (x :: a) b

/-- Pair up packages in order; an odd one out is dropped. -/
def pairPackages : List (Nat × List Nat) → List (Nat × List Nat)
  | x :: y :: l => (x.1 + y.1, x.2 ++ y.2) :: pairPackages l
  | _ => []

/-- Insert a leaf by weight, after its equals. -/
def insertLeaf (x : Nat × List Nat) : List (Nat × List Nat) → List (Nat × List Nat)
  | [] => [x]
  | y :: l => if x.1 < y.1 then x :: y :: l else y :: insertLeaf x l

/-- Huffman lengths limited to 15 bits by the package-merge method, leaves before merged nodes among equals (R249). -/
def packageMerge (counts : List Nat) : List Nat :=
  let leaves := ((counts.zipIdx.filter fun e => decide (0 < e.1)).map fun e => (e.1, [e.2])).foldl (fun l x => insertLeaf x l) []
  if leaves.length ≤ 1 then counts.map fun c => if 0 < c then 1 else 0
  else
    let step (l : List (Nat × List Nat)) : List (Nat × List Nat) :=
      mergeByWeight (l.length + leaves.length) leaves (pairPackages l)
    let last := (List.range 14).foldl (fun l _ => step l) leaves
    let picked := (last.take (2 * leaves.length - 2)).flatMap Prod.snd
    (List.range counts.length).map fun i => (picked.filter fun x => decide (x = i)).length

/-- The bits of a code of a length, most significant first (R245). -/
def codeBits (len code : Nat) : List Bool := (List.range len).map fun i => bit code (len - 1 - i)

/-- The code of an exponent under an adaptive table, with the exponent after an escape (R247). -/
def expBits (w base : Nat) (codes : List (Nat × Nat × Nat)) (x : Nat) : List Bool :=
  let inside := decide (base ≤ x) && decide (x < base + 16)
  match codes.find? fun c => decide (c.2.2 = if inside then x - base else 16) with
  | some c => codeBits c.1 c.2.1 ++ if inside then [] else codeBits w x
  | none => []

/-- Bits into bytes filled from bit 0 upward, zero bits at the end (R245). -/
def bytesOfBits (bs : List Bool) : List Nat := leBytes ((bs.length + 7) / 8) (packNat 1 (bs.map b2n))

/-- The residual bits of an element, its coded field taken out (R242). -/
def residOf (lo w v : Nat) : Nat := v % 2 ^ lo + v / 2 ^ (lo + w) * 2 ^ lo

/-- The residual bits of bytes of a format (R245): scale bytes in their strip positions, then each element's residual. -/
def residBits (fmt strip : Nat) (bs : List Nat) : List Bool :=
  match codedField fmt with
  | none => []
  | some (lo, w) =>
    let eb := elemBits fmt
    let one (v : Nat) : List Bool := (List.range (eb - w)).map (bit (residOf lo w v))
    if isMx fmt then
      let e := stripElems fmt strip
      (chunks strip (bs.length + 1) bs).flatMap fun st => bitsOf (st.take (e / 32)) ++ (((st.drop (e / 32)).take e).flatMap one)
    else (List.range (bs.length * 8 / eb)).flatMap fun i => one (packedAt ((bs.drop (i * eb / 8)).take 4) eb 0)

/-- The block sizes of a section (R243): whole strips for MX formats, 4 096 bytes otherwise. -/
def blockSize (fmt strip : Nat) : Nat := if isMx fmt then 4096 / strip * strip else 4096

/-- A block of the hub's coder (R244): its header, then its payload. -/
def blockOf (coding fmt strip base : Nat) (lens raw payload : List Nat) : List Nat :=
  let h := [1, coding, fmt, 0] ++ leBytes 2 raw.length ++ leBytes 2 payload.length ++ leBytes 4 (crc32c raw) ++
    leBytes 2 (if isMx fmt then strip else 0) ++ [if coding = 2 then base else 0, 0] ++ leBytes 9 (if coding = 2 then packNat 4 lens else 0) ++ [0, 0, 0]
  h ++ leBytes 4 (crc32c h) ++ payload

/-- The blocks of a section as the hub codes it, each with whether it is coded (R243 to R250). -/
def codeSection (fmt strip : Nat) (bs : List Nat) : List (List Nat × Bool) :=
  let blocks := chunks (blockSize fmt strip) (bs.length + 1) bs
  match codedField fmt with
  | none => blocks.map fun b => (blockOf 0 fmt strip 0 [] b b, false)
  | some (_, w) =>
    let all := exponentsOf fmt strip bs
    let base := windowBase w all
    let lens := packageMerge (symbolCounts base all)
    let codes := canonical lens
    blocks.map fun b =>
      let payload := bytesOfBits (residBits fmt strip b) ++ bytesOfBits ((exponentsOf fmt strip b).flatMap (expBits w base codes))
      if payload.length ≥ b.length then (blockOf 0 fmt strip 0 [] b b, false) else (blockOf 2 fmt strip base lens b payload, true)

end Sys2Proof.Machine
end

