-- ==== Sys2Proof/Machine/Seal.lean ====
section
/-! DEFINITION. What protects the data that the device places in host memory and on its drives (R403, R425 to R427): records and weight shares in T2
under AES-256-GCM with the storage key, blocks in T3 under AES-256-XTS. PRESUMED, log entry 161. -/

namespace Sys2Proof.Machine

/-- A number of `words` 64-bit words drawn from the DRBG (R404), and the state after it. DESIGN CHOICE, log entry 2. -/
def State.draw (s : State) (words : Nat) : State × Nat :=
  ({ s with freeCtr := s.freeCtr + words },
    (List.range words).foldl (fun acc i => acc + (Config.freeValue (s.freeCtr + i)).toNat * 2 ^ (64 * i)) 0)

/-- The storage keys of a start (R403): 32 bytes for GCM, then the two keys of XTS. -/
def State.gcmKey (s : State) : List Nat := leBytes 32 s.sec.storeKey
def State.xtsKey (s : State) : List Nat := leBytes 64 (s.sec.storeKey / 2 ^ 256)

/-- Put DMA writes to host memory out, in order: at once, or when Bus Master Enable is set again (R549). -/
def State.toHostMemory (s : State) (l : List Out) : State :=
  if s.host.master then { s with out := l.reverse ++ s.out } else { s with host := { s.host with waiting := s.host.waiting ++ l } }

/-- The host address of a byte of a registered area (R544): its regions in list order. -/
def areaAddress : List (Nat × Nat) → Nat → Nat
  | [], off => off
  | r :: l, off => if off < r.2 then r.1 + off else areaAddress l (off - r.2)

/-- The writes of a run of bytes into the spill area from a block on, 4 KiB at a time (R229). -/
def spillWrites (regions : List (Nat × Nat)) (block : Nat) (bs : List Nat) : List Out :=
  (List.range ((bs.length + 4095) / 4096)).map fun i => Out.hostWrite (areaAddress regions (4096 * (block + i))) ((bs.drop (4096 * i)).take 4096)

/-- Seal a run of bytes into the spill area from a block on (R425, R426): one GCM message whose IV is a number and the next write serial, the
ciphertext to host memory. The tag and the serial stay in the device. -/
def State.sealRun (s : State) (n block : Nat) (bs : List Nat) : State × Nat × Nat :=
  let serial := (s.sec.writeSerial + 1) % 2 ^ 64
  let iv := leBytes 4 n ++ leBytes 8 serial
  let c := gcmText s.gcmKey iv bs
  ({ s with sec := { s.sec with writeSerial := serial } }.toHostMemory (spillWrites s.host.spill.regions block c), leNat (gcmTag s.gcmKey iv [] c), serial)

/-- Seal a weight share in runs of 64 KiB (R425): the tag and serial of each. What stands for the index in a run's IV is its first block.
DESIGN CHOICE, log entry 46. -/
def State.sealShare (s : State) (block : Nat) (bs : List Nat) : State × List (Nat × Nat) :=
  (List.range ((bs.length + 65535) / 65536)).foldl (fun (acc : State × List (Nat × Nat)) i =>
    let r := acc.1.sealRun (block + 16 * i) (block + 16 * i) ((bs.drop (65536 * i)).take 65536)
    (r.1, acc.2 ++ [r.2])) (s, [])

/-- XTS's next tweak block: twice the last in its field. -/
def xtsNext (t : Nat) : Nat := if t < 2 ^ 127 then 2 * t else Nat.xor (2 * t % 2 ^ 128) 0x87

/-- Blocks of 16 bytes under XTS. -/
def xtsBlocks (ws : List (List Nat)) : List (List Nat) → Nat → List Nat
  | [], _ => []
  | b :: l, t => xorBytes (aesBlock ws (xorBytes b (leBytes 16 t))) (leBytes 16 t) ++ xtsBlocks ws l (xtsNext t)

/-- A data unit of 4 096 bytes under XTS (R425): the tweak is the LBA in its first eight bytes and the drive position in the next eight.
DESIGN CHOICE, log entry 47. -/
def xtsUnit (key : List Nat) (drive lba : Nat) (bs : List Nat) : List Nat :=
  let t := leNat (aesBlock (keySchedule (key.drop 32)) (leBytes 8 lba ++ leBytes 8 drive))
  xtsBlocks (keySchedule (key.take 32)) (blocks16 bs bs.length) t

/-- Fill a run of bytes up with zeros to whole blocks of 4 KiB. -/
def toBlocks (bs : List Nat) : List Nat := bs ++ List.replicate ((bs.length + 4095) / 4096 * 4096 - bs.length) 0

/-- Write whole blocks into extents of a drive in list order (R235, R238, R427): each under its LBA. -/
def State.toFlash (s : State) (d : Nat) (extents : List Nat) (bs : List Nat) : State :=
  let lba (i : Nat) : Nat := 1024 * nth extents (i / 1024) + i % 1024
  let units := (List.range (bs.length / 4096)).map fun i => (lba i, xtsUnit s.xtsKey d (lba i) ((bs.drop (4096 * i)).take 4096))
  { s with out := .flashWrite d units :: s.out }

end Sys2Proof.Machine
end

