-- ==== Sys2Proof/Machine/Tiers.lean ====
section
/-! DEFINITION. The tiers below T1 (R229 to R232, R238 to R240, R255, R259, R260): page records, the spill area, T3 images, and the start of a restore. -/

namespace Sys2Proof.Machine

/-- A section of a frame (R231): the key regions, or the value regions, of units 0 to 3 in order. -/
def State.section_ (s : State) (k : Nat) (sh : Shape) (value : Bool) : List Nat :=
  let (off, n) := if value then (sh.valOff, sh.valRegion sh.n) else (256, sh.keyRegion sh.n)
  (List.range 4).flatMap fun u => Memory.bytes s.mem (k * 65536 + u * 16384 + off) n

/-- Bytes of a token's strip of an MX page section (R185). -/
def Shape.strip (sh : Shape) (fmt : Nat) : Nat := if isMx fmt then sh.c + sh.c / 32 else 0

/-- The coded blocks of a frame's key section and of its value section, each with whether it is coded (R243 to R250). -/
def State.codedBlocks (s : State) (k : Nat) (sh : Shape) : List (List Nat × Bool) × List (List Nat × Bool) :=
  (codeSection sh.kFmt (sh.strip sh.kFmt) (s.section_ k sh false), codeSection sh.vFmt (sh.strip sh.vFmt) (s.section_ k sh true))

/-- A frame's page record as the hub codes it (R230); `shared` is the recorded frame of a shared record, 0 for another. -/
def State.record (s : State) (k : Nat) (sh : Shape) (shared : Nat) : List Nat :=
  let bl := s.codedBlocks k sh
  let body := (bl.1 ++ bl.2).flatMap Prod.fst
  let hdr := match Map.find s.frames k with | some f => hdrBytes { f with count := 0 } | none => List.replicate 48 0
  let h := [1, if shared = 0 then 0 else 1] ++ leBytes 2 (64 + body.length) ++ leBytes 4 shared ++ hdr ++ leBytes 2 bl.1.length ++ leBytes 2 bl.2.length
  h ++ leBytes 4 (crc32c h) ++ body

/-- A record with its shared flag and recorded frame set, 0 for not shared (R230, R318): its header's check follows. -/
def reshare (rec : List Nat) (frame : Nat) : List Nat :=
  let h := [nth rec 0, nth rec 1 / 2 * 2 + b2n (decide (frame ≠ 0))] ++ (rec.drop 2).take 2 ++ leBytes 4 frame ++ (rec.drop 8).take 52
  h ++ leBytes 4 (crc32c h) ++ rec.drop 64

/-- Bytes of a frame's page record (R230). -/
def State.recordBytes (s : State) (k : Nat) (sh : Shape) : Nat := (s.record k sh 0).length

/-- Blocks of a section (R243). -/
def sectionBlocks (fmt strip n : Nat) : Nat :=
  let b := blockSize fmt strip
  (n + b - 1) / b

/-- Blocks of the key and of the value section of a binding's pages. -/
def Shape.keyBlocks (sh : Shape) : Nat := sectionBlocks sh.kFmt (sh.strip sh.kFmt) (4 * sh.keyRegion sh.n)
def Shape.valBlocks (sh : Shape) : Nat := sectionBlocks sh.vFmt (sh.strip sh.vFmt) (4 * sh.valRegion sh.n)

/-- Bytes of a record with every block raw (R260). -/
def Shape.rawRecord (sh : Shape) : Nat :=
  64 + 4 * (sh.keyRegion sh.n + sh.valRegion sh.n) + 32 * (sh.keyBlocks + sh.valBlocks)

/-- Spill blocks of a record (R229). -/
def recordBlocks (bytes : Nat) : Nat := (bytes + 4095) / 4096

/-- Spill blocks registered (R229). -/
def State.spillBlocks (s : State) : Nat := if s.host.spill.st = 1 then s.host.spill.bytes / 4096 else 0

/-- The runs of spill blocks in use, by first block and count: page records, and streamed weight shares (R152, R229). -/
def State.spillRuns (s : State) : List (Nat × Nat) :=
  Map.vals s.host.spillMap ++ s.weights.flatMap fun w => (w.2.shares.filter fun h => decide (h.tier = 2)).map fun h =>
    (nth h.places 0, recordBlocks h.coded)

/-- Free spill blocks (2900h.02). -/
def State.spillFree (s : State) : Nat := s.spillBlocks - (s.spillRuns.map Prod.snd).sum

/-- The first run of `n` free spill blocks (R229). -/
def State.spillFit (s : State) (n : Nat) : Option Nat :=
  let runs := s.spillRuns
  let starts := 0 :: runs.map fun r => r.1 + r.2
  let ok (a : Nat) : Bool := decide (a + n ≤ s.spillBlocks) && runs.all fun r => decide (a + n ≤ r.1) || decide (r.1 + r.2 ≤ a)
  let good := starts.filter ok
  if good.isEmpty then none else some (good.foldl min (good.headD 0))

/-- Take a spill-map entry for a record and write it sealed (R232, R426): its index. DESIGN CHOICE, log entry 45. -/
def State.takeSpill (s : State) (rec : List Nat) : Option (State × Nat) :=
  match s.spillFit (recordBlocks rec.length), Map.free s.host.spillMap 1 16777215 with
  | some a, some i =>
    let r := s.sealRun i a rec
    some ({ r.1 with host := { r.1.host with spillMap := Map.put r.1.host.spillMap i (a, recordBlocks rec.length), seals := Map.put r.1.host.seals i r.2 } }, i)
  | _, _ => none

/-- Free spill-map entries, and their tags with them. -/
def HostLink.freeSpill (h : HostLink) (idx : List Nat) : HostLink :=
  { h with spillMap := idx.foldl Map.del h.spillMap, seals := idx.foldl Map.del h.seals }

/-- Free the T2 records of a sequence and their charge. -/
def State.freeT2 (s : State) (seqId : Nat) (e : Seq) : State :=
  let idx := (e.leaves.filter fun l => decide (l.2.loc = 2)).map fun l => l.2.val
  let s := { s with host := s.host.freeSpill idx }
  s.chargeBy (tenantOf seqId) fun c => { c with t2 := c.t2 - e.t2 }

/-- Flash extents of an image of `blocks` 4 KiB blocks (R235). -/
def extentsOf (blocks : Nat) : Nat := (blocks + 1023) / 1024

/-- Blocks of an image's page index (R240). -/
def indexBlocks (pages : Nat) : Nat := (pages * 8 + 4095) / 4096

/-- Blocks of the extent list of an image whose other blocks number `base` (R238, R239). -/
def listBlocks (base : Nat) : Nat :=
  let e0 := extentsOf (base + 1)
  (4 * extentsOf (base + (4 * e0 + 4095) / 4096) + 4095) / 4096

/-- Blocks of an image: header, extent list, page index and records (R238 to R240, R259). -/
def imageBlocks (pages records : Nat) : Nat :=
  let base := 1 + indexBlocks pages + records
  base + listBlocks base

/-- Bytes of a stored page's record. -/
def Stored.bytes (x : Stored) : Nat := x.data.length

/-- Blocks of a stored page's record in an image: none of a lost page (R229, R240). -/
def Stored.blocks (x : Stored) : Nat := if x.lost then 0 else recordBlocks x.bytes

/-- The pages of an image with the blocks that their records begin in, from block `first` on (R238, R240). -/
def placeRecords (first : Nat) : Map Stored → Map Stored
  | [] => []
  | (k, x) :: l => (k, { x with block := if x.lost then 0 else first }) :: placeRecords (first + x.blocks) l

/-- An entry of an image's page index (R240). -/
def indexEntry (x : Nat × Stored) : List Nat :=
  leBytes 8 (x.1 % 2 ^ 24 + 2 ^ 24 * b2n (decide (x.2.shared ≠ 0)) + 2 ^ 25 * b2n x.2.lost + 2 ^ 32 * x.2.block)

/-- The image header block (R239): its extents, its page-index entries, its blocks, the descriptor as at commit and the layer counts. -/
def imageHeader (extents pages blocks : Nat) (desc : List Nat) (counts : List Nat) : List Nat :=
  let h := [1, 0, 0, 0] ++ leBytes 4 extents ++ leBytes 4 ((4 * extents + 4095) / 4096) ++ leBytes 4 pages ++ leBytes 4 blocks ++ leBytes 4 0 ++ desc ++
    ((List.range 256).flatMap fun l => leBytes 4 (nth counts l)) ++ List.replicate 2912 0
  h ++ leBytes 8 (crc64 h)

/-- The blocks of an image in order (R238): header, extent list, page index, and the records of the pages that are not lost. -/
def imageBytes (extents : List Nat) (img : Map Stored) (blocks : Nat) (desc counts : List Nat) : List Nat :=
  imageHeader extents.length img.length blocks desc counts ++ toBlocks (extents.flatMap (leBytes 4)) ++ toBlocks (img.flatMap indexEntry) ++
    (img.filter fun x => !x.2.lost).flatMap fun x => toBlocks x.2.data

/-- Extents of a drive that are free (2910h.05). -/
def DriveSt.free (d : DriveSt) : Nat := d.total - d.used.length

/-- The lowest `n` free extents; extent 0 is never used (R235). -/
def DriveSt.pick (d : DriveSt) (n : Nat) : List Nat :=
  (((List.range (d.used.length + n + 1)).drop 1).filter fun x => !d.used.contains x).take n

/-- Take extents of a drive: one not written since the start is deallocated first (R235). -/
def State.takeExtents (s : State) (d n : Nat) : State × List Nat :=
  let x := s.drive d
  let l := x.pick n
  let new := l.filter fun e => !x.cleared.contains e
  let s := new.foldl (fun s _ => s.work (flashRoot d) 5 4194304) (s.setDrive d { x with used := x.used ++ l, cleared := x.cleared ++ new })
  ({ s with out := new.map (fun _ => .nvme d 9) ++ s.out }, l)

/-- Give extents of a drive back. -/
def State.giveExtents (s : State) (d : Nat) (l : List Nat) : State :=
  s.setDrive d { s.drive d with used := (s.drive d).used.filter fun e => !l.contains e }

/-- Free the T3 image of a sequence, its charge and its extents. -/
def State.freeT3 (s : State) (seqId : Nat) (e : Seq) : State :=
  let s := s.setDrive e.drive { s.drive e.drive with images := (s.drive e.drive).images.erase seqId }
  (s.giveExtents e.drive e.extents).chargeBy (tenantOf seqId) fun c => { c with t3 := c.t3 - e.t3 }

/-- The page keys of a sequence that T2 or T3 is to give back. -/
def Seq.storedKeys (e : Seq) : List Nat := Map.keys e.stored

/-- The pages of a stored sequence that are lost already: marked so, as on a drive that was withdrawn, or in an area or on a drive that cannot
be read, or sealed under storage keys that are erased (R236, R237, R240, R433, R482). -/
def State.goneKeys (s : State) (e : Seq) : List Nat :=
  let all := decide (e.st = .flushed ∨ (e.st = .restoring ∧ e.prior = .flushed)) && decide ((s.drive e.drive).st ≠ .ready)
  let t2 := decide (e.st = .spilled ∨ (e.st = .restoring ∧ e.prior = .spilled)) && decide (s.host.spill.st ≠ 1)
  if all || t2 || !s.sec.storageKeys then e.storedKeys
  else (e.stored.filter fun x => x.2.lost).map Prod.fst

/-- The frame that a flushed page re-references instead of being restored (R215). DEDUCED, log entry 42. -/
def State.rerefOf (s : State) (x : Stored) : Option Nat :=
  if x.shared = 0 then none
  else match Map.find s.frames x.shared with
    | some f =>
      if 1 ≤ f.count ∧ !f.hdr.lost ∧ f.hdr.owner = x.hdr.owner ∧ f.hdr.layer = x.hdr.layer ∧ f.hdr.group = x.hdr.group ∧
          f.hdr.first = x.hdr.first ∧ f.hdr.valid = x.hdr.valid ∧ f.hdr.check = x.hdr.check then some x.shared else none
    | none => none

/-- Whether a polder's image declares a tier ring (R255). -/
def State.hasTier (s : State) (p : Nat) : Bool :=
  match (s.polder p).image with
  | some im => im.tierRing.isSome
  | none => false

/-- Take one frame for a page being restored, and put its restore entry on the polder's tier ring (R254). -/
def State.restoreFrame (s : State) (tag gen : Nat) (e : Seq) (sh : Shape) (key : Nat) (x : Stored) : Option (State × Nat) :=
  let p := pagePolder e.base (keyGroup sh key) (keyPage key)
  match s.pickFrame p, (s.polder p).image with
  | some k, some im =>
    let s := { s with frames := Map.put s.frames k { hdr := x.hdr, count := 0 } }
    let entry : RingEntry := { tag := tag, gen := gen, kind := 0xE1, lastHere := decide (e.st = .flushed),
                               firstChunk := sh.keyBlocks, chunkCount := sh.valBlocks,
                               attachFrame := k, pageCount := x.bytes - 64, layer := 4 * sh.keyRegion sh.n,
                               group := 4 * sh.valRegion sh.n, body := hdrBytes { hdr := x.hdr, count := 1 } ++ List.replicate 208 0 }
    let x := s.polder p
    let r := im.tierRing.getD 0
    some (s.setPolder p { x with rings := Map.put x.rings r (Map.getD x.rings r [] ++ [entry]) }, k)
  | _, _ => none

/-- Take frames for all pages to be restored. -/
def State.restoreFrames (s : State) (tag gen : Nat) (e : Seq) (sh : Shape) : Map Stored → Option (State × List (Nat × Nat))
  | [] => some (s, [])
  | (key, x) :: l =>
    match s.restoreFrame tag gen e sh key x with
    | none => none
    | some (s, k) => match s.restoreFrames tag gen e sh l with
      | none => none
      | some (s, ks) => some (s, (key, k) :: ks)

/-- What reading a record for a restore puts on the host link or a root port (R330). -/
def State.recordRead (s : State) (e : Seq) (x : Stored) : State :=
  if e.st = .flushed then s.work (flashRoot e.drive) 3 (4096 * recordBlocks x.bytes) else s.work hostLink 4 x.bytes

/-- A restore takes its turn (R193, R215, R255): the T1 quota, the frames and the tier rings stand, the T1 charge is reserved
and the sequence is RESTORING. `mover` is the tag and generation of the SWAP_IN, none for the start that flag [0]
makes: its lanes then bear a tag that no request holds. DESIGN CHOICE, log entry 43. -/
def State.startRestore (s : State) (seqId : Nat) (mover : Option (Nat × Nat)) : Except Answer State :=
  match Map.find s.seqs seqId with
  | none => .error (.malformed 4 8)
  | some e =>
    if e.st ≠ .spilled ∧ e.st ≠ .flushed then .error (.busy 2)
    else if s.dutyGone 2 then .error (.busy 0x11)
    else
      let sh := s.shape e.binding
      let gone := s.goneKeys e
      let live := Map.keep e.stored fun k _ => !gone.contains k
      let taken := live.filterMap fun x => match s.rerefOf x.2 with
        | some f => some (x.1, f)
        | none => none
      let back := Map.keep live fun _ x => (s.rerefOf x).isNone
      let polders := back.map fun x => pagePolder e.base (keyGroup sh x.1) (keyPage x.1)
      let n := back.length
      let t := tenantOf seqId
      if !s.quotaFor t 1 n then .error (quotaAnswer 1 t)
      else if (List.range 8).any fun p => decide (s.freeFrames p < (polders.filter fun q => decide (q = p)).length) then .error (.busy 7)
      else if e.st = .flushed ∧ s.freeGranules e.base < ({ e with st := .active, leaves := e.stored.map fun x => (x.1, ⟨0, 1⟩) } : Seq).granules then
        .error (.busy 8)
      else if polders.any fun p => !s.hasTier p then .error (.busy 0x0A)
      else
        let m := mover.getD (Config.tags, 0)
        match s.restoreFrames m.1 m.2 e sh back with
        | none => .error (.busy 7)
        | some (s, ks) =>
          let s := back.foldl (fun s x => s.recordRead e x.2) s
          let s := taken.foldl (fun s x => s.addRef x.2) s
          let s := s.chargeBy t fun c => { c with r1 := c.r1 + n }
          .ok (s.setSeq seqId { e with st := .restoring, prior := e.st, reserved := n, moving := ks, taken := taken,
                                       mover := mover.map Prod.fst, since := s.time })

end Sys2Proof.Machine
end

