-- ==== Sys2Proof/Machine/Attend.lean ====
section
/-! DEFINITION. ATTEND (R113 to R124), the fixing of its token limit, the epoch hold's bound, replays and ordering fences. -/

namespace Sys2Proof.Machine

/-- The failing offset of a body length mismatch: the entry's field on a ring, the first body byte over the fabric (R117). -/
def lengthOffset : Src → Nat
  | .ring .. => 40
  | .fabric .. | .mirror _ => 32

/-- The failing KV-head range fields: bounds and group ends (06h), a span crossed (13h) (R113, R315). `a` is the byte offset
of the first head. DEDUCED, log entry 22. DEDUCED, log entry 40. -/
def State.rangeBad (s : State) (sh : Shape) (tenant a first count : Nat) : List (Nat × Nat × Bool) :=
  let last := first + count
  let crosses := match s.compOf tenant with
    | some i => decide (sh.n ≠ 0) && decide (s.spanOf i (first / sh.n) ≠ s.spanOf i ((last - 1) / sh.n))
    | none => false
  [(a, 6, decide (sh.n = 0) || decide (first % sh.n ≠ 0) || decide (first ≥ sh.kvHeads)),
   (a, 0x13, crosses),
   (a + 1, 6, decide (count = 0) || decide (last > sh.kvHeads) || (decide (last % sh.n ≠ 0) && decide (last ≠ sh.kvHeads)))]

/-- FP32 infinity or NaN. -/
def notFinite (v : Nat) : Bool := decide (bits v 30 23 = 255)

/-- Bytes a ring's reply buffer holds for a reply: 16 more for the tag in confidential operation (R545). -/
def State.replyRoom (s : State) (r : Req) : Nat := if s.sec.conf then r.replyLen - 16 else r.replyLen

/-- Whether a ring request's reply could exceed its reply length (R537). -/
def State.replyShort (s : State) (r : Req) (n : Nat) : Bool :=
  match r.src with
  | .ring .. => decide (s.replyRoom r < n)
  | .fabric .. | .mirror _ => false

/-- The failing fields of an ATTEND (R117). -/
def State.attendBad (s : State) (r : Req) : List (Nat × Nat × Bool) :=
  let kind := r.byte 27 % 4
  let qFmt := r.byte 26 % 16
  let oFmt := r.byte 26 / 16
  let aFmt := r.byte 27 / 4 % 16
  let first := r.byte 24
  let count := r.byte 25
  let plain :=
    [(1, 1, decide (r.flags / 2 ≠ 0)), (20, 8, notFinite (hdrField r.hdr 20 4)),
     (26, 3, decide (2 < qFmt) || decide (1 < oFmt)), (27, 1, decide (r.byte 27 / 64 ≠ 0)), (27, 3, decide (2 < aFmt)),
     (28, 1, decide (hdrField r.hdr 28 4 ≠ 0))]
  match Map.find s.seqs r.seqId with
  | none => plain
  | some q =>
    let sh := s.shape q.binding
    let w := s.weight q.binding
    plain ++ s.rangeBad sh r.tenant 24 first count ++
    [(2, 5, decide (r.layer ≥ sh.layers)),
     (27, 7, decide (kind ≠ 0) && decide (s.plannedTokens r.seqId r.layer (s.orderCtr + 1) + 1 > 1048576)),
     (27, 9, decide (kind = 3) && w.loaded && !w.hasQ),
     (27, 0x0B, decide (2 ≤ kind) && (!w.loaded || decide (sh.transform ≠ 0))),
     (lengthOffset r.src, 2, decide (r.bodyLen ≠ attendBody sh count qFmt kind aFmt)),
     (44, 0x15, s.replyShort r (count * sh.g * partialBytes sh.d oFmt))]

/-- Check 5 of R118 and check 7 of R160: BUSY_RETRY 02h, or 03h when flag [0] has started a swap-in. -/
def residentAnswer (flag0 : Bool) : Answer := .busy (if flag0 then 3 else 2)

/-- The residency refusal of a request: it starts the swap-in where flag [0] asks and one can start. -/
def State.busyAway (s : State) (seqId flags : Nat) : State × Answer :=
  if bit flags 0 then
    match s.startRestore seqId none with
    | .ok s => (s, residentAnswer true)
    | .error _ => (s, residentAnswer (match Map.find s.seqs seqId with | some e => decide (e.st = .restoring) | none => false))
  else (s, residentAnswer false)

/-- Checks 5 to 7 of R118 and 7 to 10 of R160 for a request of known fields: the answer that stops it, if one does. The T1
charge is reserved when they pass (R209). -/
def State.resourceChecks (s : State) (q : Request) (e : Seq) : Except (State × Answer) (State × Request) :=
  let sh := s.shape e.binding
  let (g0, g1) := q.groupSpan sh
  let base := s.plannedTokens q.seqId q.layer q.order
  let need := if q.kind = 1 ∨ q.attn ≠ 0 then e.resident sh q.layer
    else decide (e.st = .active) && (List.range (g1 - g0)).all fun i =>
      match Map.find e.leaves (pageKey sh q.layer (g0 + i) (e.tokens q.layer / 64)) with
      | some l => decide (l.loc = 1) || decide (l.loc = 3)
      | none => true
  if !need then .error (s.busyAway q.seqId (hdrField q.hdr 1 1))
  else
    let l := touched base q.tokens g0 g1
    match s.frameChecks (tenantOf q.seqId) e.base (e.growth sh q.layer l) l with
    | some a => .error (s, a)
    | none =>
      if q.projects && !s.canProject e.binding then .error (s, .busy 0x12)
      else
        let n := (l.filter fun t => !t.tail).length
        .ok (s.chargeBy (tenantOf q.seqId) fun c => { c with r1 := c.r1 + n },
          { q with checked := true, t1 := n, plan := l.map fun t => (pagePolder e.base t.group t.page, t.tail) })

/-- Take a tag for a request that reads or writes a layer; where nothing holds it, its resource checks come now (R192).
DEDUCED, log entry 39. -/
def State.enter (s : State) (r : Req) (set : Request → Request) : State :=
  match s.take r .held with
  | none => s.refuse r (.busy 1)
  | some (tag, q, s1) =>
    let q := set q
    let s1 := s1.setReq tag q
    if s1.heldBack q then s1
    else match Map.find s1.seqs q.seqId with
      | none => s1
      | some e => match s1.resourceChecks q e with
        | .ok (s2, q) => s2.setReq tag q
        | .error (_, a) =>
          let s0 := (s.busyAway q.seqId (if a = residentAnswer true then r.flags else 0)).1
          s0.refuse r a

/-- ATTEND (R118): checks 1 to 4, and 5 to 7 where nothing holds the request. -/
def State.attend (s : State) (r : Req) : State :=
  let kind := r.byte 27 % 4
  let span := match s.compOf r.tenant, Map.find s.seqs r.seqId with
    | some i, some q => s.spanOf i (r.byte 24 / (s.shape q.binding).n)
    | _, _ => 0
  s.gate r (decide (kind ≠ 0)) false true span (s.attendBad r) fun s =>
    s.enter r fun q => { q with isWrite := decide (kind ≠ 0), tokens := if kind = 0 then 0 else 1,
                                firstHead := r.byte 24, heads := r.byte 25 }

/-- The smallest length bucket that holds a token limit (R120). -/
def bucketFor (limit : Nat) : Nat := ((List.range 10).find? fun k => decide (limit ≤ 2 ^ (11 + k))).getD 9

/-- The PARTIALs of an ATTEND over no token: m minus infinity, l and o zero (R124, R131, R132). -/
def emptyPartials (q : Request) (sh : Shape) : List Nat :=
  let oFmt := q.oFmt
  (List.range (q.heads * sh.g)).flatMap fun j =>
    let bs := leBytes 4 0xFF800000 ++ List.replicate (4 + sh.d * (if oFmt = 1 then 2 else 4)) 0
    bs ++ leBytes 8 (partialCheck q (q.firstHead * sh.g + j) none bs)

/-- The answer of a held request whose descriptor is gone (R192). -/
def State.goneAnswer (s : State) (seqId : Nat) : Answer :=
  if s.lostSeqs.contains seqId || s.orphan seqId then lostAnswer seqId 0 else .malformed 4 8

/-- Fix the base and the limit of a request whose hold has lifted, take its frames and bind its lanes (R119, R162). The
surplus or shortage of its reservation is settled. -/
def State.bind (s : State) (tag : Nat) (q : Request) (e : Seq) : State :=
  let sh := s.shape e.binding
  let base := e.tokens q.layer
  let (g0, g1) := q.groupSpan sh
  let l := touched base q.tokens g0 g1
  let n := (l.filter fun t => !t.tail).length
  let q := { q with base := base, limit := base + q.tokens, bucket := bucketFor (base + q.tokens) }
  let lost := q.lostPages sh e
  if q.limit = 0 ∧ q.kind = 1 then s.finishOk tag { q with results := [(0, emptyPartials q sh)] }
  else if lost ≠ [] ∧ (q.kind = 1 ∨ q.attn ≠ 0) then s.fail tag q (lostPagesAnswer q.layer lost)
  else match s.takeFrames sh q.seqId q.layer (base + q.tokens) e l with
    | none => s.fail tag q (.busy 7)
    | some (s2, ws) =>
      let s2 := s2.chargeBy (tenantOf q.seqId) fun c => { c with r1 := c.r1 + n - q.t1 }
      s2.place tag { q with t1 := n, plan := [], writes := ws } e sh q.projects

/-- A hold lifts (R119, R162, R192): the checks that waited are made, then the token limit or base is fixed. -/
def State.lift (s : State) (tag : Nat) (q : Request) : State :=
  if s.heldBack q then s
  else match Map.find s.seqs q.seqId with
    | none => s.fail tag q (s.goneAnswer q.seqId)
    | some e =>
      if q.checked then s.bind tag q e
      else match s.resourceChecks q e with
        | .ok (s2, q) => s2.bind tag q e
        | .error (s2, a) => s2.fail tag q a

/-- ATTEND_TOKEN_LIMIT (R119). -/
def State.tokenLimit (s : State) (tag : Nat) : State :=
  match Map.find s.reqs tag with
  | some q => if q.kind = 1 ∧ q.phase = .held then s.lift tag q else s
  | none => s

/-- EPOCH_HOLD_EXPIRY (R316): the hold's bound passes. -/
def State.epochHoldExpiry (s : State) (hold : Nat) : State :=
  match Map.find s.holds hold with
  | none => s
  | some h =>
    if s.since h.since < s.obj (recKey 0x2440 h.comp 8) then s
    else { s with holds := Map.del s.holds hold }.refuse h.req (holdAnswer h.order4)

/-- REPLAY (R138): once the ladder has ended on every tainted frame, PAGE_LOST when one is lost, else the request runs once
more with the replay flag, its reservation and frames as they stand. -/
def State.replay (s : State) (tag : Nat) : State :=
  match Map.find s.reqs tag with
  | none => s
  | some q =>
    if q.phase ≠ .recover ∨ q.reports.any (fun x => decide (x.1 = 0x10)) then s else
    let of (f : Nat) : Health := match Map.find s.frames f with | some x => x.health | none => .good
    if q.tainted.any fun f => decide (of f = .lost) then
      match Map.find s.seqs q.seqId with
      | none => s.fail tag q (s.goneAnswer q.seqId)
      | some e => s.fail tag q (lostPagesAnswer q.layer (q.lostPages (s.shape e.binding) e))
    else if q.tainted.any fun f => decide (of f ≠ .good) then s
    else match Map.find s.seqs q.seqId with
      | none => s.fail tag q (s.goneAnswer q.seqId)
      | some e => (s.place tag { q with replayed := true, results := [] } e (s.shape e.binding)
        (q.projects && (decide (q.kind ≠ 1) || q.writes.any fun w => !q.written.contains w.2.1))).bump 0x2B1101

/-- ATTEND (R118). -/
def execAttend (r : Req) (s : State) : Host.Outcome State Fault Refusal := .next (s.attend r)
/-- ATTEND_TOKEN_LIMIT (R119, R120, R123, R124). -/
def execAttendTokenLimit (tag : Nat) (s : State) : Host.Outcome State Fault Refusal := .next (s.tokenLimit tag)
/-- EPOCH_HOLD_EXPIRY (R316): `tag` is the hold's number. -/
def execEpochHoldExpiry (tag : Nat) (s : State) : Host.Outcome State Fault Refusal := .next (s.epochHoldExpiry tag)
/-- REPLAY (R138). -/
def execReplay (tag : Nat) (s : State) : Host.Outcome State Fault Refusal := .next (s.replay tag)
/-- ORDERING_FENCE (R142, R540): it takes no tag and completes OK once every completed request's writes are in their stacks. -/
def execOrderingFence (r : Ring) (slot cookie : Nat) (s : State) : Host.Outcome State Fault Refusal :=
  .next ((s.emit (.completion (.ring r slot cookie) 0 0 0 0 (Answer.ok).statusBody s.time 0 [])).bump 0x2B1104)

end Sys2Proof.Machine
end

