-- ==== Sys2Proof/Machine/Prefill.lean ====
section
/-! DEFINITION. PREFILL and APPEND (R157 to R164), their bodies and token base. -/

namespace Sys2Proof.Machine

/-- Tokens that a PREFILL answers (R157). -/
def prefillAnswered (r : Req) : Nat :=
  let mode := r.byte 25 % 4
  if mode = 1 then hdrField r.hdr 20 2 else if mode = 2 then hdrField r.hdr 26 2 else 0

/-- Bytes of a PREFILL's body (R158). -/
def prefillBody (sh : Shape) (hdr : BitVec 256) : Nat :=
  let n := hdrField hdr 20 2
  let a := hdrField hdr 25 1
  bodyBytes (hdrField hdr 24 1 % 16) (n * sh.h) +
  (if a % 4 ≠ 0 ∧ bit a 3 then n * hdrField hdr 23 1 * sh.g * sh.d * (if bit a 4 then 2 else 1) else 0)

/-- The body length that a PREFILL declares: the descriptor's over the fabric, the entry's on a ring (R158, R536). -/
def prefillDeclared (r : Req) : Nat :=
  match r.src with
  | .fabric .. => leNat ((r.body.drop 4).take 8)
  | .ring .. | .mirror _ => r.bodyLen

/-- The context limit of R36: the offset and condition of detail 07h. -/
def State.tooLong (s : State) (r : Req) (n : Nat) : Bool :=
  decide (s.plannedTokens r.seqId r.layer (s.orderCtr + 1) + n > 1048576)

/-- The failing fields of a PREFILL (R157, R161). An r that is not zero outside mode 2, and a scale that is not zero in mode 0, fail with
detail 01h. DESIGN CHOICE, log entry 149. -/
def State.prefillBad (s : State) (r : Req) : List (Nat × Nat × Bool) :=
  let n := hdrField r.hdr 20 2
  let a := r.byte 25
  let mode := a % 4
  let hFmt := r.byte 24 % 16
  let oFmt := r.byte 24 / 16
  let rr := hdrField r.hdr 26 2
  let scale := hdrField r.hdr 28 4
  let descReserved := match r.src with
    | .fabric .. => decide (leNat ((r.body.drop 12).take 4) ≠ 0)
    | .ring .. | .mirror _ => false
  let plain :=
    [(1, 1, decide (r.flags / 2 ≠ 0)), (20, 0x0A, decide (n = 0) || decide (n > 8192)),
     (24, 3, !([1, 2, 3, 8].contains hFmt) || decide (1 < oFmt)),
     (25, 1, decide (mode = 3) || decide (a / 32 ≠ 0)),
     (26, 0x0A, decide (mode = 2) && (decide (rr = 0) || decide (rr > n))), (26, 1, decide (mode ≠ 2) && decide (rr ≠ 0)),
     (28, 8, notFinite scale), (28, 1, decide (mode = 0) && decide (scale ≠ 0)), (44, 1, descReserved)]
  match Map.find s.seqs r.seqId with
  | none => plain
  | some q =>
    let sh := s.shape q.binding
    let w := s.weight q.binding
    plain ++ s.rangeBad sh r.tenant 22 (r.byte 22) (r.byte 23) ++
    [(2, 5, decide (r.layer ≥ sh.layers)), (20, 7, s.tooLong r n),
     (24, 0x0B, !w.loaded || decide (sh.transform ≠ 0)),
     (25, 9, decide (mode ≠ 0) && !bit a 3 && w.loaded && !w.hasQ),
     (25, 0x0C, decide (mode ≠ 0) && decide (sh.g > 256)),
     (44, 0x15, s.replyShort r (prefillAnswered r * r.byte 23 * sh.g * partialBytes sh.d oFmt))]

/-- The failing fields of an APPEND (R163, R161). -/
def State.appendBad (s : State) (r : Req) : List (Nat × Nat × Bool) :=
  let n := r.byte 20
  let fmt := r.byte 24 % 16
  let kind := r.byte 24 / 16 % 4
  let plain :=
    [(1, 1, decide (r.flags / 2 ≠ 0)), (20, 0x0A, decide (n = 0) || decide (n > 64)), (21, 1, decide (r.byte 21 ≠ 0)),
     (24, 1, decide (2 ≤ kind) || decide (r.byte 24 / 64 ≠ 0)),
     (24, 3, if kind = 0 then !([0, 1, 2, 3].contains fmt) else !([1, 2, 3, 8].contains fmt)),
     (25, 1, decide (hdrField r.hdr 25 7 ≠ 0))]
  match Map.find s.seqs r.seqId with
  | none => plain
  | some q =>
    let sh := s.shape q.binding
    plain ++ s.rangeBad sh r.tenant 22 (r.byte 22) (r.byte 23) ++
    [(2, 5, decide (r.layer ≥ sh.layers)), (20, 7, s.tooLong r n),
     (24, 0x0B, decide (kind = 1) && (!(s.weight q.binding).loaded || decide (sh.transform ≠ 0))),
     (lengthOffset r.src, 2, decide (r.bodyLen ≠
       (if kind = 0 then n * 2 * r.byte 23 * bodyBytes fmt sh.d else bodyBytes fmt (n * sh.h))))]

/-- The span that a request's range of heads lies in (R315). -/
def State.rangeSpan (s : State) (r : Req) (first : Nat) : Nat :=
  match s.compOf r.tenant, Map.find s.seqs r.seqId with
  | some i, some q => s.spanOf i (first / (s.shape q.binding).n)
  | _, _ => 0

/-- APPEND (R160, R163). -/
def State.append (s : State) (r : Req) : State :=
  s.gate r true false true (s.rangeSpan r (r.byte 22)) (s.appendBad r) fun s =>
    s.enter r fun q => { q with isWrite := true, tokens := r.byte 20, firstHead := r.byte 22, heads := r.byte 23 }

/-- Body-buffer frames, by their index in each stack, that no body holds (R159). -/
def State.bodyFree (s : State) : List Nat :=
  let top := 16 * s.bodyMiB
  let used := (s.bodies.map fun b => b.2.frames).flatten
  ((List.range top).map (Config.framesPerStack - top + ·)).filter fun f =>
    !used.contains f && !(List.range 8).any fun p => Map.has s.frames (p * 2 ^ 21 + f)

/-- PREFILL (R160): checks 1 to 5; the request then waits for its body. -/
def State.prefill (s : State) (r : Req) : State :=
  s.gate r true false true (s.rangeSpan r (r.byte 22)) (s.prefillBad r) fun s =>
    match s.take r .body with
    | none => s.refuse r (.busy 1)
    | some (tag, q, s1) =>
      let len := prefillDeclared r
      let n := (len + 65535) / 65536
      let free := s.bodyFree
      if free.length < n then s.refuse r (.busy 5)
      else
        let key := match r.src with | .fabric .. => leNat (r.body.take 4) | .ring .. | .mirror _ => 0
        let source := match r.src with | .fabric node .. => node | .ring .. | .mirror _ => 2 ^ 20
        let q := { q with isWrite := true, tokens := hdrField r.hdr 20 2, firstHead := r.byte 22, heads := r.byte 23,
                          attn := r.byte 25 % 4, respan := hdrField r.hdr 26 2, bodyKey := key, bodyLen := len, body := [] }
        { s1 with bodyHeld := if s1.bodies = [] then none else s1.bodyHeld,
                  bodies := Map.put s1.bodies tag { tag := tag, len := len, source := source, frames := free.take n } }.setReq tag q

/-- Write bytes of a body at an offset into its buffer in each of the eight stacks (R159). -/
def State.writeBody (s : State) (frames : List Nat) (off : Nat) (bs : List Nat) : State :=
  let at_ (p o : Nat) : Nat := (p * 2 ^ 21 + nth frames (o / 65536)) * 65536 + o % 65536
  (List.range 8).foldl (fun s p => (bs.zipIdx).foldl (fun s b => s.writeStack (at_ p (off + b.2)) [b.1]) s) s

/-- The whole body is present (R160 check 6): its length is judged, then the request goes on to its hold or its checks. -/
def State.bodyPresent (s : State) (tag : Nat) (q : Request) (len : Nat) : State :=
  match Map.find s.seqs q.seqId with
  | none => s.fail tag q (s.goneAnswer q.seqId)
  | some e =>
    if len ≠ prefillBody (s.shape e.binding) q.hdr ∨ len ≠ q.bodyLen then
      s.fail tag q (.malformed 2 (lengthOffset q.src))
    else
      let q := { q with phase := .held }
      let s := s.setReq tag q
      if s.heldBack q then s
      else match s.resourceChecks q e with
        | .ok (s, q) => s.setReq tag q
        | .error (s, a) => s.fail tag q a

/-- BODY_SEGMENT (R158, R159): the segment's bytes enter the buffer; a segment whose key no open PREFILL of its source bears
is discarded (R221). A longer segment than a message can carry does not arrive, and one whose header's reserved bytes are not zero ends the
PREFILL, naming their place in that header (R7). DESIGN CHOICE, log entry 151. -/
def State.bodySegment (s : State) (key source off len : Nat) (bytes : List Nat) (reserved : Bool) : State :=
  if 1048560 < len then s else
  match s.bodies.find? fun b => decide (b.2.source = source) &&
      (match Map.find s.reqs b.1 with | some q => decide (q.bodyKey = key) && decide (q.phase = .body) | none => false) with
  | none => s
  | some (tag, b) =>
    match Map.find s.reqs tag with
    | none => s
    | some q =>
      if reserved then s.fail tag q (.malformed 1 4)
      else if off + len > b.len then s.fail tag q (.malformed 2 (lengthOffset q.src))
      else
        let b := { b with ranges := addRange b.ranges off len }
        let s := { s with bodies := Map.put s.bodies tag b }.writeBody b.frames off (bytes.take len)
        if rangeTotal b.ranges = b.len then s.bodyPresent tag q b.len else s

/-- REQUEST_BODY_READ (R543, R158, R545): the DMA read of a ring's PREFILL body ends; a session tag that fails discards it (R430). -/
def State.bodyRead (s : State) (tag : Nat) (bytes : List Nat) : State :=
  match Map.find s.reqs tag, Map.find s.bodies tag with
  | some q, some b =>
    if q.phase ≠ .body then s
    else match q.src with
      | .fabric .. | .mirror _ => s
      | .ring r .. =>
        let n := b.len + s.tagSize
        let s := s.work hostLink 3 n
        match (if s.sec.conf then s.fromHost 2 r q.entryCtr (bytes.take n) else some (bytes.take n)) with
        | none => s.fail tag q ⟨.checkFail, 4, []⟩
        | some bs =>
          let s := { s with bodies := Map.put s.bodies tag { b with ranges := [(0, bs.length)] } }
          (s.writeBody b.frames 0 bs).bodyPresent tag q bs.length
  | _, _ => s

/-- BODY_TIMEOUT (R160 check 6): the body timeout after the header's admission. -/
def State.bodyTimeout (s : State) (tag : Nat) : State :=
  match Map.find s.reqs tag with
  | some q => if q.phase = .body ∧ s.obj 0x2B3203 ≤ s.since q.since then s.fail tag q (.busy 6) else s
  | none => s

/-- TOKEN_BASE (R162). -/
def State.tokenBase (s : State) (tag : Nat) : State :=
  match Map.find s.reqs tag with
  | some q => if (q.kind = 2 ∨ q.kind = 3) ∧ q.phase = .held then s.lift tag q else s
  | none => s

/-- PREFILL (R157, R160). -/
def execPrefill (r : Req) (s : State) : Host.Outcome State Fault Refusal := .next (s.prefill r)
/-- APPEND (R160, R163). -/
def execAppend (r : Req) (s : State) : Host.Outcome State Fault Refusal := .next (s.append r)
/-- TOKEN_BASE (R162). -/
def execTokenBase (tag : Nat) (s : State) : Host.Outcome State Fault Refusal := .next (s.tokenBase tag)
/-- BODY_SEGMENT (R158, R159, R221). -/
def execBodySegment (key source off len : Nat) (bytes : List Nat) (reserved : Bool) (s : State) : Host.Outcome State Fault Refusal :=
  .next (s.bodySegment key source off len bytes reserved)
/-- BODY_TIMEOUT (R160). -/
def execBodyTimeout (tag : Nat) (s : State) : Host.Outcome State Fault Refusal := .next (s.bodyTimeout tag)
/-- REQUEST_BODY_READ (R158, R543). -/
def execRequestBodyRead (tag : Nat) (bytes : List Nat) (s : State) : Host.Outcome State Fault Refusal := .next (s.bodyRead tag bytes)

end Sys2Proof.Machine
end

