-- ==== Sys2Proof/Machine/Sequences.lean ====
section
/-! DEFINITION. Sequence-wide requests (R191 to R206): FORK, RELEASE, PIN, their turn and their commit; the recount sweep (R202). -/

namespace Sys2Proof.Machine

/-- Bytes that the first `v` tokens of a KV head's block take in a format, and the whole block's bytes (R185). -/
def tokenBytes (fmt c v : Nat) : Nat :=
  if fmt = 15 then c + v * (7 * c / 8) else if fmt = 8 then v * (c + c / 32) else v * c * (elemBits fmt / 8)

/-- A region with the slots from `v` on of every head's block set to zero (R205). -/
def cutRegion (fmt c v n : Nat) (bs : List Nat) : List Nat :=
  let hb := headBytes fmt c
  let keep := tokenBytes fmt c v
  let one (h : Nat) : List Nat := (bs.drop (h * hb)).take keep ++ List.replicate (hb - keep) 0
  let out := (List.range n).flatMap one
  out ++ List.replicate (bs.length - out.length) 0

/-- Make the page area of a truncating copy: slots `v` to 63 zero, a fresh header with a count of 1 (R205). -/
def State.copyPage (s : State) (sh : Shape) (src dst v : Nat) : State :=
  match Map.find s.frames src with
  | none => s
  | some f =>
    let kr := sh.keyRegion sh.n
    let vr := sh.valRegion sh.n
    let unit (s : State) (u : Nat) : State :=
      let keys := cutRegion sh.kFmt sh.c v sh.n (Memory.bytes s.mem (src * 65536 + u * 16384 + 256) kr)
      let vals := cutRegion sh.vFmt sh.c v sh.n (Memory.bytes s.mem (src * 65536 + u * 16384 + 256 + kr) vr)
      s.writeStack (dst * 65536 + u * 16384) (List.replicate 256 0 ++ keys ++ vals ++ List.replicate (12288 - kr - vr) 0)
    let s := (List.range 4).foldl unit ((s.pageAccess 4 src sh).pageAccess 4 dst sh)
    let hdr := { f.hdr with valid := v, lost := false, check := s.payloadCheck dst sh, written := s.time }
    (s.putFrame dst { hdr := hdr, count := 1 }).bump 0x2B4007

/-- The leaf entries of a sequence whose page begins below a position in layers that `test` picks, or holds the position. -/
def Seq.leavesBelow (e : Seq) (p : Nat) : Map Leaf := Map.keep e.leaves fun k _ => decide (keyPage k * 64 < p)

/-- The pages that a truncation to `p` copies: in every layer (above `p`, for a RELEASE) the page that holds position p - 1. -/
def Seq.copied (e : Seq) (sh : Shape) (p : Nat) (over_ : Bool) : Map Leaf :=
  if p % 64 = 0 then [] else
  Map.keep e.leaves fun k _ => decide (keyPage k = p / 64) && (!over_ || decide (p < e.tokens (keyLayer sh k)))

/-- What the source frames of truncating copies say (R574): every one reads well, or some wait for the ladder in the state
given. -/
def State.copySources (s : State) (seqId : Nat) (sh : Shape) (ks : List Nat) : Bool × State :=
  let health (k : Nat) : Health := match Map.find s.frames k with | some f => f.health | none => .good
  let clean := ks.all fun k => decide (health k = .good) && s.pageReads k sh
  (clean, ks.foldl (fun s k => if health k = .suspect ∨ (health k = .good ∧ !s.pageReads k sh) then s.checkFailed k (some seqId) true else s) s)

/-- Take page-pool frames for copies: their keys and frames, reserved against the tenant. -/
def State.takeCopies (s : State) (e : Seq) (sh : Shape) : List Nat → Option (State × List (Nat × Nat × Nat))
  | [] => some (s, [])
  | key :: l =>
    match s.pickFrame (pagePolder e.base (keyGroup sh key) (keyPage key)), Map.find s.frames ((Map.find e.leaves key).getD ⟨0, 0⟩).val with
    | some k, some f =>
      let s := { s with frames := Map.put s.frames k { hdr := f.hdr, count := 0 } }
      match s.takeCopies e sh l with
      | none => none
      | some (s, ws) => some (s, (key, k, 0) :: ws)
    | _, _ => none

/-- Quota and frames for truncating copies (R118 checks 6 and 7): the answer that stops them. -/
def State.copyRoom (s : State) (seqId : Nat) (e : Seq) (sh : Shape) (keys : List Nat) : Option Answer :=
  let t := tenantOf seqId
  let on (p : Nat) : Nat := (keys.filter fun k => decide (pagePolder e.base (keyGroup sh k) (keyPage k) = p)).length
  if !s.quotaFor t 1 keys.length then some (quotaAnswer 1 t)
  else if (List.range 8).any fun p => decide (s.freeFrames p < on p) then some (.busy 7)
  else none

/-- The child of a FORK, the position and the tenant (R194, R198). -/
def forkChild (hdr : BitVec 256) (seqId : Nat) : Nat := tenantOf seqId * 2 ^ 52 + hdrField hdr 20 8 % 2 ^ 52
def forkPos (hdr : BitVec 256) : Nat := hdrField hdr 28 4 % 2 ^ 21
/-- The position of a RELEASE or PIN (R194). -/
def widePos (hdr : BitVec 256) : Nat := hdrField hdr 20 4 % 2 ^ 21

/-- The child that a FORK to `p` makes: shared pages below, the copies, its parent (R198). -/
def childOf (e : Seq) (parent now p : Nat) (copies : List (Nat × Nat × Nat)) : Seq :=
  let shared := Map.keep e.leaves fun k _ => decide (keyPage k < p / 64)
  { binding := e.binding, base := e.base, counts := e.counts.map fun _ => p, parent := parent, lastUse := now,
    leaves := copies.foldl (fun l w => Map.put l w.1 ⟨w.2.1, 1⟩) shared }

/-- An empty sequence (R199). -/
def emptySeq (binding base layers now : Nat) : Seq := { binding := binding, base := base, counts := List.replicate layers 0, lastUse := now }

/-- Creates and FORKs that wait for their mirror records, each of which has its descriptor to come (R36, R361). -/
def State.creating (s : State) : Nat := (s.reqs.filter fun e => decide (e.2.kind = 4) && decide (e.2.phase = .mirror)).length

/-- Whether a descriptor and a table's granules can be had (R36, R196). -/
def State.tableRoom (s : State) (q : Seq) : Bool :=
  decide (s.seqs.length + s.creating < Config.descriptors) && decide (q.granules + 1 ≤ s.freeGranules q.base)

/-- A request's effects that wait for its mirror records, or its commit at once. -/
abbrev Turn := Except (Bool × Answer) State

/-- The wide requests that change nothing before their commit end through `commit` or their mirror record (R360, R361). -/
def State.finishWide (s : State) (tag : Nat) (q : Request) (commit : State → Nat → Request → State) : State :=
  if s.exhausted q.src.keySlot then s.fail tag q (.busy 0x10)
  else if s.mirrored q then s.mirror tag q (recordsOf s q) else commit s tag q

/-- Commit of a FORK (R198, R197). -/
def State.commitFork (s : State) (tag : Nat) (q : Request) : State :=
  match Map.find s.seqs q.seqId with
  | none => s.fail tag q (s.goneAnswer q.seqId)
  | some e =>
    let sh := s.shape e.binding
    let p := forkPos q.hdr
    let src (w : Nat × Nat × Nat) : Nat := ((Map.find e.leaves w.1).getD ⟨0, 0⟩).val
    let s := q.writes.foldl (fun s w => s.copyPage sh (src w) w.2.1 (p % 64)) s
    let n := q.writes.length
    let s := s.chargeBy (tenantOf q.seqId) fun c => { c with r1 := c.r1 - n, t1 := c.t1 + n }
    let child := childOf e q.seqId s.time p q.writes
    let shared := (Map.keep e.leaves fun k _ => decide (keyPage k < p / 64)).map fun l => l.2.val
    let s := shared.foldl State.addRef s
    (s.setSeq (forkChild q.hdr q.seqId) child).complete tag q
      (.ok (leBytes 4 p ++ leBytes 4 shared.length ++ leBytes 4 n))

/-- A FORK's turn (R118 checks 5 to 7, R196, R574). -/
def State.forkTurn (s : State) (tag : Nat) (q : Request) (e : Seq) : Turn :=
  let sh := s.shape e.binding
  let p := forkPos q.hdr
  let copies := e.copied sh p false
  let lost := (e.leavesBelow p).filter fun l => decide (l.2.loc = 3)
  let r := s.copySources q.seqId sh (copies.map fun l => l.2.val)
  if s.dutyGone 1 then .error (false, .busy 0x11)
  else if Map.has s.seqs (forkChild q.hdr q.seqId) then .error (false, .malformed 0x0D 20)
  else if p > e.lowest then .error (false, .malformed 0x0E 28)
  else if e.st ≠ .active then .error (true, .busy 2)
  else if lost ≠ [] then .error (false, lostPagesAnswer (keyLayer sh (lost.headD (0, ⟨0, 0⟩)).1) (lost.map fun l => (keyPage l.1 * 64, keyGroup sh l.1)))
  else if !r.1 then .ok r.2
  else match s.copyRoom q.seqId e sh (Map.keys copies) with
    | some a => .error (false, a)
    | none =>
      if !s.tableRoom (childOf e q.seqId s.time p ((Map.keys copies).map fun k => (k, 0, 0))) then .error (false, .busy 8)
      else match s.takeCopies e sh (Map.keys copies) with
        | none => .error (false, .busy 7)
        | some (s, ws) =>
          let s := s.chargeBy (tenantOf q.seqId) fun c => { c with r1 := c.r1 + ws.length }
          let q := { q with writes := ws, t1 := ws.length }
          .ok ((s.setReq tag q).finishWide tag q State.commitFork)

/-- The base polder of a create: as asked, or the one with the most free frames, the lowest among equals (R199). -/
def State.createBase (s : State) (hdr : BitVec 256) : Nat :=
  let b := hdrField hdr 22 1
  if b ≠ 8 then b
  else (List.range 8).foldl (fun best p => if s.freeFrames p > s.freeFrames best then p else best) 0

/-- Commit of a create (R199). -/
def State.commitCreate (s : State) (tag : Nat) (q : Request) : State :=
  let b := hdrField q.hdr 20 2
  let base := s.createBase q.hdr
  (s.setSeq q.seqId (emptySeq b base (s.shape b).layers s.time)).complete tag q (.ok [base])

/-- A create's turn. -/
def State.createTurn (s : State) (tag : Nat) (q : Request) : Turn :=
  if s.dutyGone 1 then .error (false, .busy 0x11)
  else if Map.has s.seqs q.seqId then .error (false, .malformed 0x0D 8)
  else if !s.tableRoom (emptySeq (hdrField q.hdr 20 2) (s.createBase q.hdr) (s.shape (hdrField q.hdr 20 2)).layers s.time) then .error (false, .busy 8)
  else .ok (s.finishWide tag q State.commitCreate)

/-- Drop everything that a sequence holds, in every tier (R206). -/
def State.dropAll (s : State) (seqId : Nat) (e : Seq) : State :=
  let s := (s.freeT2 seqId e).dropRefs e.frameList
  let s := if e.st = .flushed then s.freeT3 seqId e else s
  { s with seqs := Map.del s.seqs seqId }

/-- Commit of a whole RELEASE (R206). -/
def State.commitRelease (s : State) (tag : Nat) (q : Request) : State :=
  match Map.find s.seqs q.seqId with
  | none => s.complete tag q (.ok (leBytes 8 0))
  | some e =>
    let s' := s.dropAll q.seqId e
    s'.complete tag q (.ok (leBytes 4 (s.frames.length - s'.frames.length) ++ leBytes 4 0))

/-- Cut a sequence to `p` tokens in the layers that hold more; `copies` are the new tails (R206, R216). -/
def State.truncate (s : State) (seqId : Nat) (e : Seq) (sh : Shape) (p : Nat) (copies : List (Nat × Nat × Nat)) : State :=
  let gone := Map.keep e.leaves fun k _ => decide (p < e.tokens (keyLayer sh k)) &&
    (decide ((p + 63) / 64 * 64 ≤ keyPage k * 64) || copies.any fun w => decide (w.1 = k))
  let left := Map.keep e.leaves fun k _ => !Map.has gone k
  let s := s.setSeq seqId { e with leaves := copies.foldl (fun l w => Map.put l w.1 ⟨w.2.1, 1⟩) left,
                                   counts := e.counts.map fun c => min c p }
  s.dropRefs ((gone.filter fun l => decide (l.2.loc = 1) || decide (l.2.loc = 3)).map fun l => l.2.val)

/-- Commit of a truncating RELEASE (R206). -/
def State.commitTruncate (s : State) (tag : Nat) (q : Request) : State :=
  match Map.find s.seqs q.seqId with
  | none => s.fail tag q (s.goneAnswer q.seqId)
  | some e =>
    let sh := s.shape e.binding
    let p := widePos q.hdr
    let n := q.writes.length
    let s := q.writes.foldl (fun s w => s.copyPage sh ((Map.find e.leaves w.1).getD ⟨0, 0⟩).val w.2.1 (p % 64)) s
    let s := s.chargeBy (tenantOf q.seqId) fun c => { c with r1 := c.r1 - n, t1 := c.t1 + n }
    let s' := s.truncate q.seqId e sh p q.writes
    s'.complete tag q (.ok (leBytes 4 (s.frames.length - s'.frames.length) ++ leBytes 4 p))

/-- A RELEASE's turn. DEDUCED, log entry 38. -/
def State.releaseTurn (s : State) (tag : Nat) (q : Request) (e : Seq) : Turn :=
  let sh := s.shape e.binding
  let p := widePos q.hdr
  if s.dutyGone 1 then .error (false, .busy 0x11)
  else if !bit (hdrField q.hdr 1 1) 1 then .ok (s.finishWide tag q State.commitRelease)
  else
    let copies := e.copied sh p true
    let lost := copies.filter fun l => decide (l.2.loc = 3)
    let r := s.copySources q.seqId sh (copies.map fun l => l.2.val)
    if p > e.lowest then .error (false, .malformed 0x0E 20)
    else if e.st ≠ .active then .error (false, .busy 2)
    else if lost ≠ [] then .error (false, lostPagesAnswer (keyLayer sh (lost.headD (0, ⟨0, 0⟩)).1) (lost.map fun l => (keyPage l.1 * 64, keyGroup sh l.1)))
    else if !r.1 then .ok r.2
    else match s.copyRoom q.seqId e sh (Map.keys copies), s.takeCopies e sh (Map.keys copies) with
      | some a, _ => .error (false, a)
      | _, none => .error (false, .busy 7)
      | none, some (s, ws) =>
        let s := s.chargeBy (tenantOf q.seqId) fun c => { c with r1 := c.r1 + ws.length }
        let q := { q with writes := ws, t1 := ws.length }
        .ok ((s.setReq tag q).finishWide tag q State.commitTruncate)

/-- The frames that a PIN or an unpin to `p` acts on (R201), lost ones too, which their entries still name (R207). -/
def Seq.pinRange (e : Seq) (p : Nat) : List Nat :=
  (e.leaves.filter fun l => (decide (l.2.loc = 1) || decide (l.2.loc = 3)) && decide (keyPage l.1 < p / 64)).map fun l => l.2.val

/-- Start the recount sweep over the candidates or over every pinned page (R202); one that runs takes both. DESIGN CHOICE, log
entry 136. -/
def State.startSweep (s : State) (all : Bool) : State :=
  { s with sweep := if s.sweep.running then { s.sweep with all := s.sweep.all || all } else ⟨true, all, []⟩ }

/-- Commit of a PIN or an unpin (R201); a steward sweeps when candidates wait (R202). -/
def State.commitPin (s : State) (tag : Nat) (q : Request) : State :=
  match Map.find s.seqs q.seqId with
  | none => s.fail tag q (s.goneAnswer q.seqId)
  | some e =>
    let range := e.pinRange (widePos q.hdr)
    if bit (hdrField q.hdr 1 1) 1 then
      let marked := range.filter fun k => match Map.find s.frames k with | some f => decide (f.count = pinned) | none => false
      let s := { s with frames := marked.foldl (fun m k => Map.adjust m k fun f => { f with candidate := true }) s.frames }
      (if marked = [] then s else s.startSweep false).complete tag q (.ok (leBytes 4 marked.length))
    else
      let one (s : State) (k : Nat) : State :=
        match Map.find s.frames k with
        | some f => if f.count = pinned then s else s.recount k f pinned
        | none => s
      (range.foldl one s).complete tag q (.ok (leBytes 4 range.length))

/-- A PIN's turn. -/
def State.pinTurn (s : State) (tag : Nat) (q : Request) (e : Seq) : Turn :=
  if s.dutyGone 1 then .error (false, .busy 0x11)
  else if widePos q.hdr > e.lowest then .error (false, .malformed 0x0E 20)
  else if e.st ≠ .active then .error (true, .busy 2)
  else .ok (s.finishWide tag q State.commitPin)

/-- The failing fields that the sequence-level requests share (R194): reserved flags, layer, body, and the bytes of `zero`. -/
def wideBad (r : Req) (flags : Nat) (zero : List (Nat × Nat)) : List (Nat × Nat × Bool) :=
  [(1, 1, decide (Nat.land r.flags (255 - flags) ≠ 0)), (2, 1, decide (r.layer ≠ 0)),
   (lengthOffset r.src, 2, decide (r.bodyLen ≠ 0))] ++
  zero.map fun z => (z.1, 1, decide (hdrField r.hdr z.1 z.2 ≠ 0))

/-- The lowest token count that a sequence's layers will have once every earlier-admitted write has ended OK. -/
def State.plannedLowest (s : State) (seqId : Nat) : Nat :=
  match Map.find s.seqs seqId with
  | none => 0
  | some q => match (List.range q.counts.length).map fun l => s.plannedTokens seqId l (s.orderCtr + 1) with
    | [] => 0
    | c :: cs => cs.foldl min c

/-- Spans that sequence-level requests are judged by: span 0 (R315). -/
def wideSpan : Nat := 0

end Sys2Proof.Machine
end

