-- ==== Sys2Proof/Machine/Moves.lean ====
section
/-! DEFINITION. Moves between tiers (R193, R212 to R216, R255 to R260), the turn of a sequence-wide request (R191, R192) and the commands of both. -/

namespace Sys2Proof.Machine

/-- The pages that a spill moves: those of count 1 (R213). -/
def State.privatePages (s : State) (e : Seq) : Map Leaf :=
  Map.keep e.leaves fun _ l => decide (l.loc = 1) && (match Map.find s.frames l.val with | some f => decide (f.count = 1) | none => false)

/-- Whether a frame among pages is on the ladder or suspect, so that a move that meets it fails (R353). -/
def State.suspectIn (s : State) (m : Map Leaf) : Bool :=
  m.any fun l => decide (l.2.loc = 1) && (match Map.find s.frames l.2.val with | some f => decide (f.health ≠ .good) | none => false)

/-- The frames among pages whose stored bytes fail their checks (R141). -/
def State.unread (s : State) (sh : Shape) (m : Map Leaf) : List Nat :=
  (m.filter fun l => decide (l.2.loc = 1) && !s.pageReads l.2.val sh).map fun l => l.2.val

/-- Check failures met in a read for a sequence, or for none (R352, R353). -/
def State.failReads (s : State) (l : List Nat) (seqId : Option Nat) : State := l.foldl (fun s f => s.checkFailed f seqId true) s

/-- A spill takes its turn (R193, R213, R260): its pages are settled, and the reservation is that of raw records. The stacks are read, and the
records go to the host, in their classes (R227, R330). DEDUCED, log entry 150. -/
def State.startSpill (s : State) (seqId : Nat) (e : Seq) (mover : Option Nat) : Except Answer State :=
  let pages := s.privatePages e
  let sh := s.shape e.binding
  let raw := pages.length * recordBlocks sh.rawRecord
  let t := tenantOf seqId
  if s.dutyGone 2 then .error (.busy 0x11)
  else if !s.quotaFor t 2 raw then .error (quotaAnswer 2 t)
  else if s.spillBlocks = 0 ∨ s.spillFree < raw ∨ s.host.spillMap.length + pages.length > 16777215 then .error (.busy 9)
  else if !s.mapRoom pages.length then .error (.busy 8)
  else if s.suspectIn pages then .error (.busy 0x0B)
  else
    let one (s : State) (l : Nat × Leaf) : State := (s.pageAccess 5 l.2.val sh).work hostLink 5 (s.recordBytes l.2.val sh)
    let s := pages.foldl one (s.chargeBy t fun c => { c with r2 := c.r2 + raw })
    .ok (s.setSeq seqId { e with st := .spilling, prior := e.st, reserved := raw, mover := mover, moving := pages.map fun l => (l.1, l.2.val) })

/-- The drive that takes an image: the lowest ready position with the free extents (R257). DESIGN CHOICE, log entry 44. -/
def State.driveFor (s : State) (extents : Nat) : Option Nat :=
  (List.range 4).find? fun d => decide ((s.drive d).st = .ready) && decide (extents ≤ (s.drive d).free)

/-- What a flush reads and writes of one page (R214, R227, R330): a T1 page through the hub coder, a T2 record as it stands. -/
def State.flushPage (s : State) (d : Nat) (e : Seq) (sh : Shape) (l : Nat × Leaf) : State :=
  if l.2.loc = 1 then (s.pageAccess 6 l.2.val sh).work (flashRoot d) 4 (4096 * recordBlocks (s.recordBytes l.2.val sh))
  else if l.2.loc = 2 then
    let n := match Map.find e.stored l.1 with | some x => x.bytes | none => 0
    (s.work hostLink 6 n).work (flashRoot d) 4 (4096 * recordBlocks n)
  else s

/-- A flush takes its turn (R193, R214, R260): the extents that raw records would need are taken. -/
def State.startFlush (s : State) (seqId : Nat) (e : Seq) (mover : Option Nat) : Except Answer State :=
  let sh := s.shape e.binding
  let held := (e.leaves.filter fun l => decide (l.2.loc ≠ 3)).length
  let raw := imageBlocks e.leaves.length (held * recordBlocks sh.rawRecord)
  let t := tenantOf seqId
  if s.dutyGone 2 then .error (.busy 0x11)
  else if !s.quotaFor t 3 raw then .error (quotaAnswer 3 t)
  else match s.driveFor (extentsOf raw) with
    | none => .error (.busy 9)
    | some d =>
      if s.suspectIn e.leaves then .error (.busy 0x0B)
      else
        let x := (s.chargeBy t fun c => { c with r3 := c.r3 + raw }).takeExtents d (extentsOf raw)
        let s := e.leaves.foldl (fun s l => s.flushPage d e sh l) x.1
        let s := { s with out := .nvme d 1 :: s.out }
        .ok (s.setSeq seqId { e with st := .flushing, prior := e.st, reserved := raw, mover := mover, drive := d, extents := x.2, written := 0, since := s.time })

/-- Count what the hub coder did for a frame, and the record's bytes (2A00h.02, 2A00h.03, 2901h.04, 2901h.05). -/
def State.countCoded (s : State) (k : Nat) (sh : Shape) : State :=
  let bl := (s.codedBlocks k sh).1 ++ (s.codedBlocks k sh).2
  let coded := (bl.filter fun b => b.2).length
  (((s.bumpBy 0x2A0002 coded).bumpBy 0x2A0003 (bl.length - coded)).bumpBy 0x290104 (4 * (sh.keyRegion sh.n + sh.valRegion sh.n))).bumpBy
    0x290105 (s.recordBytes k sh)

/-- Move one page of a spill (R193, R230, R232): its record `r` takes spill blocks, and its leaf names them. `blocks` counts those taken so far;
none where they do not fit. -/
def State.spillPage (s : State) (sh : Shape) (e : Seq) (blocks : Nat) (m : Nat × Nat) (hdr : PageHdr) (r : List Nat) : Option (State × Seq × Nat) :=
  match s.takeSpill r with
  | none => none
  | some (s, i) =>
    some ((s.countCoded m.2 sh).bump 0x290102,
      { e with leaves := Map.put e.leaves m.1 ⟨i, 2⟩, stored := Map.put e.stored m.1 { hdr := hdr, data := r } }, blocks + recordBlocks r.length)

/-- The same of a page whose frame the state names, after the pages before it. -/
def spillOne (sh : Shape) (acc : Option (State × Seq × Nat)) (m : Nat × Nat) : Option (State × Seq × Nat) :=
  match acc with
  | none => none
  | some (s, e, blocks) =>
    match Map.find s.frames m.2 with
    | none => none
    | some f => s.spillPage sh e blocks m f.hdr (s.record m.2 sh 0)

/-- Commit of a spill (R193, R213, R230, R259): the records go out, the pages lie in T2, their frames are free; a record that finds no room
fails the move. A page lost meanwhile stays where it is (R207). -/
def State.commitSpill (s : State) (seqId : Nat) (e : Seq) : Option (State × List Nat) :=
  let sh := s.shape e.binding
  let pages := e.moving.filter fun m => match Map.find e.leaves m.1 with | some l => decide (l.loc = 1) | none => false
  match pages.foldl (spillOne sh) (some (s, e, 0)) with
  | none => none
  | some (s, e', blocks) =>
    let s := s.chargeBy (tenantOf seqId) fun c => { c with r2 := c.r2 - e.reserved, t2 := c.t2 + blocks }
    let s := s.setSeq seqId { e' with st := .spilled, t2 := blocks, reserved := 0, mover := none, moving := [] }
    some (s.dropRefs (pages.map Prod.snd), leBytes 4 pages.length ++ leBytes 4 blocks ++ [3])

/-- What a T3 image holds of one page (R214, R240). -/
def State.imagePage (s : State) (e : Seq) (sh : Shape) (l : Nat × Leaf) : Option Stored :=
  if l.2.loc = 2 then (Map.find e.stored l.1).map fun x => { x with shared := 0, data := reshare x.data 0 }
  else match Map.find s.frames l.2.val with
    | none => none
    | some f =>
      if l.2.loc = 3 then some { hdr := f.hdr, lost := true }
      else
        let shared := if f.count = 1 then 0 else l.2.val
        some { hdr := f.hdr, data := s.record l.2.val sh shared, shared := shared }

/-- Commit of a flush (R193, R214, R237 to R241, R259). `lost` are the T2 records that a copy found malformed (R253). The pages moved (R195) are
all of the image's, those lost and those copied from T2 included. DESIGN CHOICE, log entry 44. -/
def State.commitFlush (s : State) (seqId : Nat) (e : Seq) (lost : List Nat) : State × List Nat :=
  let sh := s.shape e.binding
  let held : Map Stored := e.leaves.filterMap fun l => match s.imagePage e sh l with
    | some x => some (l.1, if lost.contains l.1 then { x with lost := true } else x)
    | none => none
  let records := ((Map.vals held).map Stored.blocks).sum
  let blocks := imageBlocks held.length records
  let img := placeRecords (blocks - records) held
  let keep := e.extents.take (extentsOf blocks)
  let copied := ((Map.keep img fun k x => (match Map.find e.leaves k with | some l => decide (l.loc = 2) | none => false) && !x.lost).map fun x => x.2.bytes).sum
  let s := ((e.leaves.filter fun l => decide (l.2.loc = 1)).foldl (fun s l => s.countCoded l.2.val sh) s).bumpBy 0x290105 copied
  let s := (s.freeT2 seqId e).dropRefs e.frameList
  let d := s.drive e.drive
  let s := (s.setDrive e.drive { d with images := d.images ++ [seqId] }).giveExtents e.drive (e.extents.drop (extentsOf blocks))
  let s := s.chargeBy (tenantOf seqId) fun c => { c with r3 := c.r3 - e.reserved, t3 := c.t3 + blocks }
  let e' : Seq := { e with st := .flushed, t2 := 0, t3 := blocks, reserved := 0, mover := none, leaves := [], stored := img, extents := keep }
  let s := s.setSeq seqId e'
  (s.toFlash e.drive keep (imageBytes keep img blocks (s.descriptor seqId e' 0 0 0) e.counts), leBytes 4 img.length ++ leBytes 4 blocks ++ [5])

/-- The frames taken by a restore that were lost meanwhile (R207, R216), with their keys. -/
def State.lostTaken (s : State) (e : Seq) : List Nat :=
  (e.taken.filter fun x => match Map.find s.frames x.2 with | some f => f.hdr.lost | none => true).map Prod.fst

/-- Commit of a restore (R193, R215, R216): the frames are linked, the source charge and image released; with lost pages, a recorded shared page
lost meanwhile among them, the sequence is cut to the lowest of them and the answer is PAGE_LOST, which of several at that position names the
first by page key. DESIGN CHOICE, log entry 43. -/
def State.commitRestore (s : State) (seqId : Nat) (e : Seq) (lost : List Nat) : State × Answer :=
  let sh := s.shape e.binding
  let t := tenantOf seqId
  let fell := s.lostTaken e
  let lost := ((lost ++ s.goneKeys e).filter fun k => Map.has e.stored k && !e.taken.any (fun x => decide (x.1 = k))).dedup
  let lost := lost.foldl (fun l k => insertNat l k) fell
  let good := e.moving.filter fun m => !lost.contains m.1
  let bad := e.moving.filter fun m => lost.contains m.1
  let link (s : State) (m : Nat × Nat) : State :=
    match Map.find s.frames m.2 with
    | some f => s.putFrame m.2 { f with count := 1 }
    | none => s
  let s := good.foldl link s
  let s := { s with frames := (bad.map Prod.snd).foldl Map.del s.frames }
  let s := s.chargeBy t fun c => { c with r1 := c.r1 - e.reserved, t1 := c.t1 + good.length }
  let kept := Map.keep e.leaves fun _ l => decide (l.loc ≠ 2)
  let leaves := (good ++ e.taken).foldl (fun m x => Map.put m x.1 ⟨x.2, if fell.contains x.1 then 3 else 1⟩) kept
  let s := if e.prior = .flushed then s.freeT3 seqId e else s.freeT2 seqId e
  let s := s.bumpBy 0x290103 good.length
  let e' : Seq := { e with st := .active, t2 := 0, t3 := 0, reserved := 0, mover := none, moving := [], taken := [], stored := [], extents := [],
                           leaves := leaves }
  if lost = [] then
    (s.setSeq seqId e', .ok (leBytes 4 good.length ++ leBytes 4 e.taken.length ++ [1]))
  else
    let first := lost.foldl (fun b k => if keyPage k < keyPage b then k else b) (lost.headD 0)
    let p := keyPage first * 64
    let s := (s.setSeq seqId e').truncate seqId e' sh p []
    (s.bumpBy 0x2B4008 (lost.length - fell.length), pageLostAnswer (keyLayer sh first) (keyGroup sh first) p lost.length)

/-- Undo a move (R193): the reservation and what the destination held are returned, the sequence is in its prior state. -/
def State.undoMove (s : State) (seqId : Nat) : State :=
  match Map.find s.seqs seqId with
  | none => s
  | some e =>
    let t := tenantOf seqId
    let back : Seq := { e with st := e.prior, reserved := 0, mover := none, moving := [], taken := [] }
    match e.st with
    | .spilling => (s.chargeBy t fun c => { c with r2 := c.r2 - e.reserved }).setSeq seqId back
    | .flushing => ((s.chargeBy t fun c => { c with r3 := c.r3 - e.reserved }).giveExtents e.drive e.extents).setSeq seqId { back with extents := [] }
    | .restoring =>
      let s := { s with frames := (e.moving.map Prod.snd).foldl Map.del s.frames }
      let s := s.chargeBy t fun c => { c with r1 := c.r1 - e.reserved }
      let mine (y : RingEntry) : Bool := decide (y.kind = 0xE1) && e.moving.any fun m => decide (m.2 = y.attachFrame)
      let clear (_ : Nat) (x : Polder) : Polder := { x with rings := Map.each x.rings fun _ es => es.filter fun y => !mine y, busyAt := if x.rings.any fun r => r.2.any mine then s.time else x.busyAt }
      let s := { s with polders := Map.each s.polders clear }
      (s.setSeq seqId back).dropRefs (e.taken.map Prod.snd)
    | _ => s

/-- Commit the move of a sequence and, where a request started it, write its completion (R193, R197). -/
def State.commitMove (s : State) (seqId : Nat) (e : Seq) (lost : List Nat) : State :=
  let finish (s : State) (a : Answer) : State :=
    match e.mover with
    | none => s
    | some tag => match Map.find s.reqs tag with
      | some q => s.complete tag q a
      | none => s
  match e.st with
  | .spilling =>
    match s.commitSpill seqId e with
    | some (s', body) =>
      let s' := if e.mover.isNone then (s'.bump 0x2B4105).bumpBy (tenantKey (tenantOf seqId) 0xA) e.moving.length else s'
      finish s' (.ok body)
    | none => finish (s.undoMove seqId) (.busy 0x0B)
  | .flushing =>
    let r := s.commitFlush seqId e lost
    let s' := if e.mover.isNone then (r.1.bump 0x290007).bumpBy 0x290106 e.leaves.length else r.1
    finish s' (.ok r.2)
  | .restoring =>
    let r := s.commitRestore seqId e lost
    finish r.1 r.2
  | _ => s

/-- Commit of a request whose move is done. -/
def State.commitMoved (s : State) (_tag : Nat) (q : Request) : State :=
  match Map.find s.seqs q.seqId with
  | some e => s.commitMove q.seqId e q.lostKeys
  | none => s

/-- A move fails (R193, R258): the sequence is as it was, the request that started it ends BUSY_RETRY 0Bh, and one that no request started is
counted. -/
def State.moveFailed (s : State) (seqId : Nat) : State :=
  match Map.find s.seqs seqId with
  | none => s
  | some e =>
    if e.st ≠ .spilling ∧ e.st ≠ .flushing ∧ e.st ≠ .restoring then s
    else
      let s := s.undoMove seqId
      match e.mover with
      | none => { s with moveFails := s.moveFails + 1 }
      | some tag => match Map.find s.reqs tag with
        | some q => s.complete tag q (.busy 0x0B)
        | none => s

/-- The pages that a move under way reads out of T1 (R213, R214). -/
def State.moveReads (_s : State) (e : Seq) : Map Leaf :=
  match e.st with
  | .spilling => Map.keep e.leaves fun k _ => e.moving.any fun m => decide (m.1 = k)
  | .flushing => e.leaves
  | _ => []

/-- MOVE_COMPLETE (R193): `lost` are the page keys that a restore or a copy found malformed after the refetch (R253). An image is complete once
its Writes are, and its drive's cache is flushed (R237). A page out of T1 that is suspect or fails its checks fails the move (R141, R353). A
request's move is mirrored before it commits. A move out of T1 fails where no storage key stands to seal its records (R425, R432). -/
def State.moveComplete (s : State) (seqId : Nat) (lost : List Nat) : State :=
  match Map.find s.seqs seqId with
  | none => s
  | some e =>
    let reads := s.moveReads e
    let bad := s.unread (s.shape e.binding) reads
    if e.st = .flushing ∧ e.written ≠ 2 then s
    else if e.st ≠ .restoring ∧ !s.sec.storageKeys then s.moveFailed seqId
    else if bad ≠ [] ∨ s.suspectIn reads then (s.failReads bad (e.mover.map fun _ => seqId)).moveFailed seqId
    else match e.mover with
    | none => s.commitMove seqId e lost
    | some tag => match Map.find s.reqs tag with
      | none => s.commitMove seqId e lost
      | some q =>
        if q.phase ≠ .move then s
        else if s.exhausted q.src.keySlot then (s.undoMove seqId).complete tag q (.busy 0x10)
        else
          let q := { q with lostKeys := lost }
          (s.setReq tag q).finishWide tag q State.commitMoved
def execMoveComplete (seqId : Nat) (lost : List Nat) (s : State) : Host.Outcome State Fault Refusal := .next (s.moveComplete seqId lost)

/-- MOVE_FAILED (R193, R258). -/
def execMoveFailed (seqId : Nat) (s : State) : Host.Outcome State Fault Refusal := .next (s.moveFailed seqId)

/-- End a request by an event from outside, its move undone (R137, R193). -/
def State.endAny (s : State) (tag : Nat) (a : Answer) : State :=
  match Map.find s.reqs tag with
  | none => s
  | some q => (if q.phase = .move then s.undoMove q.seqId else s).endRequest tag a

/-- End every request that meets a test and whose record is unclaimed. -/
def State.endEvery (s : State) (test : Nat → Request → Bool) (a : Answer) : State :=
  ((Map.keep s.reqs fun t q => test t q && !q.claimed).map Prod.fst).foldl (fun s t => s.endAny t a) s

/-- A move's turn: a sequence already where it is asked to go ends OK with zero pages (R195). -/
def State.moveTurn (s : State) (tag : Nat) (q : Request) (e : Seq) : Turn :=
  let none_ (code : Nat) : Turn := .ok (s.finishWide tag q fun s tag q => s.complete tag q (.ok (leBytes 8 0 ++ [code])))
  let moving (r : Except Answer State) : Turn :=
    match r with
    | .error a => .error (false, a)
    | .ok s => .ok (s.setReq tag { q with phase := .move })
  if s.dutyGone 2 then .error (false, .busy 0x11)
  else if q.kind = 7 then
    match e.st with
    | .active => moving (s.startSpill q.seqId e (some tag))
    | st => none_ st.code
  else if q.kind = 9 then
    match e.st with
    | .active => moving (s.startFlush q.seqId e (some tag))
    | .spilled => moving (s.startFlush q.seqId e (some tag))
    | st => none_ st.code
  else match e.st with
    | .active => none_ 1
    | _ => moving (s.startRestore q.seqId (some (tag, q.gen)))

/-- Commit a request whose mirror records are placed, or are given up (R361, R366): each kind as it commits unmirrored; a
move of a sequence already where it is asked to go ends OK with zero pages. -/
def State.commitClaimed (s : State) (tag : Nat) (q : Request) : State :=
  let flag := bit (hdrField q.hdr 1 1) 1
  if q.kind ≤ 3 then s.commit tag q
  else if q.kind = 4 then (if flag then s.commitCreate tag q else s.commitFork tag q)
  else if q.kind = 5 then (if flag then s.commitTruncate tag q else s.commitRelease tag q)
  else if q.kind = 6 then s.commitPin tag q
  else match Map.find s.seqs q.seqId with
    | some e => if e.mover = some tag then s.commitMoved tag q else s.complete tag q (.ok (leBytes 8 0 ++ [e.st.code]))
    | none => s.fail tag q (s.goneAnswer q.seqId)

/-- Commit, in record order, the requests whose last record is one of `n` numbers from `first` on. -/
def State.commitRecords (s : State) (first n : Nat) : State :=
  (List.range n).foldl (fun s i =>
    match s.reqs.find? fun e => decide (e.2.phase = .mirror) && decide (e.2.lastRecord = first + i) with
    | some e => s.commitClaimed e.1 e.2
    | none => s) s

/-- Give up the records that are not placed (R366): no more are sent, and every write that waits for one commits. -/
def State.giveUpRecords (s : State) : State :=
  let p := s.pair
  { s with pair := { p with placed := p.next - 1, sent := p.next - 1, unplaced := [] } }.commitRecords (p.placed + 1) (p.next - 1 - p.placed)

/-- The turn of a sequence-wide request (R191, R192): its checks against the state now committed, then its effect, its mirror
record or its move. -/
def State.wideTurn (s : State) (tag : Nat) (q : Request) : Turn :=
  let create := decide (q.kind = 4) && bit (hdrField q.hdr 1 1) 1
  if create then s.createTurn tag q
  else match Map.find s.seqs q.seqId with
    | none => if q.kind = 5 ∧ s.lostSeqs.contains q.seqId then
        .ok ({ s with lostSeqs := s.lostSeqs.erase q.seqId }.finishWide tag q State.commitRelease)
      else .error (false, s.goneAnswer q.seqId)
    | some e =>
      if q.kind = 4 then s.forkTurn tag q e
      else if q.kind = 5 then s.releaseTurn tag q e
      else if q.kind = 6 then s.pinTurn tag q e
      else s.moveTurn tag q e

/-- Whether the steward duty that a sequence-wide request needs is halted and restarting (R377): set 1 for FORK, RELEASE and
PIN, set 2 for the moves. -/
def State.wideHeld (s : State) (kind : Nat) : Bool := s.dutyHeld (if kind ≤ 6 then 1 else 2)

/-- Admission of a sequence-wide request: a tag, then its turn at once where nothing holds it (R191, R192). -/
def State.enterWide (s : State) (r : Req) : State :=
  match s.take r .held with
  | none => s.refuse r (.busy 1)
  | some (tag, q, s1) =>
    if s1.heldBack q ∨ s1.wideHeld q.kind then s1
    else match s1.wideTurn tag q with
      | .ok s => s
      | .error (flag, a) =>
        if flag then
          let x := s.busyAway r.seqId r.flags
          x.1.refuse r x.2
        else s.refuse r a

/-- SEQUENCE_WIDE_TURN (R191, R192): nothing holds the request any more. -/
def State.takeTurn (s : State) (tag : Nat) : State :=
  match Map.find s.reqs tag with
  | none => s
  | some q =>
    if q.phase ≠ .held ∨ !wideKind q.kind ∨ s.heldBack q ∨ s.wideHeld q.kind then s
    else match s.wideTurn tag q with
      | .ok s => s
      | .error (flag, a) =>
        if flag then
          let x := s.busyAway q.seqId (hdrField q.hdr 1 1)
          x.1.fail tag q x.2
        else s.fail tag q a
def execSequenceWideTurn (tag : Nat) (s : State) : Host.Outcome State Fault Refusal := .next (s.takeTurn tag)

/-- FORK without create (R194, R198, R315). DEDUCED, log entry 37. -/
def State.fork (s : State) (r : Req) : State :=
  let child := forkChild r.hdr r.seqId
  s.gate r true true true wideSpan (wideBad r 3 [] ++
    [(20, 1, decide (hdrField r.hdr 26 2 / 16 ≠ 0)), (28, 1, decide (hdrField r.hdr 28 4 / 2 ^ 21 ≠ 0)),
     (20, 0x0D, Map.has s.seqs child), (20, 0x12, decide (bucketOf child ≠ bucketOf r.seqId)),
     (28, 0x0E, Map.has s.seqs r.seqId && decide (forkPos r.hdr > s.plannedLowest r.seqId))]) fun s => s.enterWide r
/-- FORK with create (R194, R199). -/
def State.forkCreate (s : State) (r : Req) : State :=
  s.gate r true true false wideSpan (wideBad r 3 [(23, 9)] ++
    [(22, 1, decide (hdrField r.hdr 22 1 > 8)), (8, 0x0D, Map.has s.seqs r.seqId),
     (20, 0x0F, decide (hdrField r.hdr 20 2 ≥ 64) || decide (s.obj (recKey 0x2B80 (hdrField r.hdr 20 2) 9) % 16 = 0))])
    fun s => if s.lostSeqs.contains r.seqId then s.refuse r (lostAnswer r.seqId 0) else s.enterWide r
/-- FORK: the header's create flag says which. -/
def execFork (r : Req) (s : State) : Host.Outcome State Fault Refusal :=
  .next (if bit r.flags 1 then s.forkCreate r else s.fork r)

/-- FORK with the create flag. -/
def execForkCreate (r : Req) (s : State) : Host.Outcome State Fault Refusal :=
  .next (if bit r.flags 1 then s.forkCreate r else s.fork r)

/-- RELEASE (R194, R206, R372): a lost sequence's record is removed. -/
def State.release (s : State) (r : Req) : State :=
  let trunc := bit r.flags 1
  let lost := s.lostSeqs.contains r.seqId
  s.gate r true false (!lost) wideSpan (wideBad r 2 (if trunc then [(24, 8)] else [(20, 12)]) ++
    [(20, 1, trunc && decide (hdrField r.hdr 20 4 / 2 ^ 21 ≠ 0)),
     (20, 0x0E, trunc && Map.has s.seqs r.seqId && decide (widePos r.hdr > s.plannedLowest r.seqId))]) fun s => s.enterWide r
/-- RELEASE without truncate. -/
def execRelease (r : Req) (s : State) : Host.Outcome State Fault Refusal := .next (s.release r)
/-- RELEASE with truncate. -/
def execReleaseTruncate (r : Req) (s : State) : Host.Outcome State Fault Refusal := .next (s.release r)

/-- PIN, and PIN with unpin (R194, R201). -/
def State.pin (s : State) (r : Req) : State :=
  s.gate r true false true wideSpan (wideBad r 3 [(24, 8)] ++
    [(20, 1, decide (hdrField r.hdr 20 4 / 2 ^ 21 ≠ 0)),
     (20, 0x0E, Map.has s.seqs r.seqId && decide (widePos r.hdr > s.plannedLowest r.seqId))]) fun s => s.enterWide r
/-- PIN. -/
def execPin (r : Req) (s : State) : Host.Outcome State Fault Refusal := .next (s.pin r)
/-- PIN with unpin. -/
def execUnpin (r : Req) (s : State) : Host.Outcome State Fault Refusal := .next (s.pin r)

/-- SWAP_OUT, SWAP_IN and FLUSH (R194, R213 to R216). -/
def State.swap (s : State) (r : Req) : State :=
  s.gate r true false true wideSpan (wideBad r 0 [(20, 12)]) fun s => s.enterWide r
/-- SWAP_OUT (R213). -/
def execSwapOut (r : Req) (s : State) : Host.Outcome State Fault Refusal := .next (s.swap r)
/-- SWAP_IN (R215, R216). -/
def execSwapIn (r : Req) (s : State) : Host.Outcome State Fault Refusal := .next (s.swap r)
/-- FLUSH (R214). -/
def execFlush (r : Req) (s : State) : Host.Outcome State Fault Refusal := .next (s.swap r)

/-- Sequences by oldest last use, the lowest sequence ID first among equals (R212). -/
def State.oldestFirst (s : State) (test : Nat → Seq → Bool) : List (Nat × Seq) :=
  let rec ins (x : Nat × Seq) : List (Nat × Seq) → List (Nat × Seq)
    | [] => [x]
    | y :: l => if x.2.lastUse < y.2.lastUse then x :: y :: l else y :: ins x l
  (Map.keep s.seqs test).foldl (fun l x => ins x l) []

/-- Free frames of a polder once the spills under way commit. -/
def State.futureFree (s : State) (p : Nat) : Nat :=
  s.freeFrames p + (s.seqs.map fun e => if e.2.st = .spilling then (e.2.moving.filter fun m => decide (framePolder m.2 = p)).length else 0).sum

/-- PRE_EMPTION (R212): a pass of S2 over the candidates, until every polder holds its high-water target. -/
def State.preEmption (s : State) : State :=
  let low := (List.range 8).any fun p => !(s.polder p).down && decide (s.freeFrames p < s.obj 0x2B4102)
  if !low ∨ s.obj 0x2B4101 = 0 ∨ s.dutyGone 2 ∨ s.dutyHeld 2 then s
  else
    let cand := s.oldestFirst fun i e => decide (e.st = .active) && decide (s.inFlight i = 0) &&
      decide (s.since e.lastUse > s.obj 0x2B4104) && decide ((s.charge (tenantOf i)).usage 1 > s.obj (tenantKey (tenantOf i) 2))
    let one (s : State) (x : Nat × Seq) : State :=
      if (List.range 8).all fun p => (s.polder p).down || decide (s.obj 0x2B4103 ≤ s.futureFree p) then s
      else match s.startSpill x.1 x.2 none with
        | .ok s => s
        | .error a => if a.status = .quota then s.bump 0x2B4106 else s
    (cand.foldl one s).arrive 0x017
def execPreEmption (s : State) : Host.Outcome State Fault Refusal := .next s.preEmption

/-- DEMOTION (R257): a pass of S2 over the SPILLED sequences. -/
def State.demotion (s : State) : State :=
  if s.obj 0x290004 = 0 ∨ s.dutyGone 2 ∨ s.dutyHeld 2 then s
  else
    let idle (e : Seq) : Bool := decide (s.since e.lastUse > 1000000 * s.obj 0x290005)
    let cand := s.oldestFirst fun i e => decide (e.st = .spilled) && decide (s.inFlight i = 0)
    let one (s : State) (x : Nat × Seq) : State :=
      let coming := (s.seqs.map fun e => if e.2.st = .flushing then e.2.t2 else 0).sum
      if idle x.2 ∨ s.spillFree + coming < s.obj 0x290006 then
        match s.startFlush x.1 x.2 none with
        | .ok s => s
        | .error _ => s
      else s
    (cand.foldl one s).arrive 0x017
def execDemotion (s : State) : Host.Outcome State Fault Refusal := .next s.demotion

/-- SWEEP_CANDIDATES (R202). -/
def execSweepCandidates (s : State) : Host.Outcome State Fault Refusal := .next (s.startSweep false)
/-- SWEEP_ALL_PINNED (R202). -/
def execSweepAllPinned (s : State) : Host.Outcome State Fault Refusal := .next (s.startSweep true)

/-- SWEEP_END (R202): every swept count is the number of references as they stand, which is what the walk found with the journal applied; a
page with none is freed. -/
def State.sweepEnd (s : State) : State :=
  if !s.sweep.running then s
  else
    let swept := (Map.keep s.frames fun _ f => decide (f.count = pinned) && (s.sweep.all || f.candidate)).map Prod.fst
    let s := { s with sweep := {} }
    let one (s : State) (k : Nat) : State :=
      match Map.find s.frames k with
      | none => s
      | some f =>
        let n := s.refsTo k
        let s := { s with frames := Map.put s.frames k { f with candidate := false } }
        if n = 0 then s.freeFrame k else (s.stackAccess 4 (k * 65536) 64).putFrame k { f with count := n, candidate := false }
    let s' := swept.foldl one s
    (s'.setObj 0x2B4203 (s.frames.length - s'.frames.length)).bump 0x2B4205
def execSweepEnd (s : State) : Host.Outcome State Fault Refusal := .next s.sweepEnd

end Sys2Proof.Machine
end

