-- ==== Sys2Proof/Machine/SlotWords.lean ====
section
/-! DEFINITION. The 16 bytes of a slot (R51, R100): its fields, the encodings that are not reserved, the formats that each operation
accepts (R96) and the limits of its operand (R65). -/

namespace Sys2Proof

/-- Operations of a class (R51, R67 to R75): classes 0 bank unit, 1 culvert chain, 2 sequence core, 3 projection array, 4 expander,
5 DMA engine, 7 control. -/
def opsOf (cls : Nat) : Nat := [5, 4, 10, 6, 3, 4, 0, 4].getD cls 0

/-- Whether an opcode is a slot of a unit of a class: one of the class's own operations, or control, which any unit may execute. -/
def opOf (cls op : Nat) : Bool := (decide (op / 16 = cls) || decide (op / 16 = 7)) && decide (op % 16 < opsOf (op / 16))

/-- The formats that an operation of R96's table accepts: input codes and output codes; none for the output says the input's code.
None for an operation that the table does not name. -/
def formatsOf (op : Nat) : Option (List Nat × Option (List Nat)) :=
  if op = 0x00 then some ([1, 2, 3, 4, 8, 15], some [0])
  else if op = 0x01 then some ([1, 2, 3, 4, 8], some [0])
  else if op = 0x12 ∨ op = 0x13 then some ([0], some [0])
  else if op = 0x10 ∨ op = 0x11 then some ([1], some [1])
  else if op = 0x20 then some ([0, 14], none)
  else if 0x21 ≤ op ∧ op ≤ 0x24 then some ([0], some [0])
  else if op = 0x25 then some (List.range 16, some (List.range 16))
  else if op = 0x30 then some ((List.range 14).drop 1, none)
  else if op = 0x31 then some ((List.range 14).drop 1, some [0])
  else if op = 0x32 then some ([0], some [1, 2, 3, 4, 8, 15])
  else if op = 0x33 then some ([0], some (List.range 15))
  else if op = 0x34 then some ([0], some [0])
  else none

/-- Whether an operation accepts its two format codes (R96, R99). -/
def formatsOk (op fin fout : Nat) : Bool :=
  match formatsOf op with
  | none => true
  | some (i, o) => i.contains fin && (match o with | some l => l.contains fout | none => decide (fout = fin))

/-- A field of a slot's word. -/
def slotField (w : BitVec 128) (lo n : Nat) : Nat := (w.extractLsb' lo n).toNat

/-- The fields of a slot's word (R51), with the format byte's where its operation has one (R100). -/
def Slot.ofWord (unit idx : Nat) (w : BitVec 128) : Slot :=
  let f := (formatsOf (slotField w 0 8)).isSome
  { unit := unit, idx := idx, lane := (w.extractLsb' 8 5).toFin, waitGate := (w.extractLsb' 16 12).toFin, waitCount := (w.extractLsb' 28 8).toFin,
    sigGate := (w.extractLsb' 36 12).toFin, sigCount := (w.extractLsb' 48 8).toFin, deadline := (w.extractLsb' 56 8).toFin,
    fin := if f then (w.extractLsb' 124 4).toFin else 0, fout := if f then (w.extractLsb' 120 4).toFin else 0, rz := f && w.getLsbD 119 }

/-- The word of a slot whose other operand bits are `rest` (R51, R100). -/
def slotWord (op : BitVec 8) (c : Slot) (rest : BitVec 55) : BitVec 128 :=
  BitVec.ofFin c.fin (w := 4) ++ BitVec.ofFin c.fout (w := 4) ++ BitVec.ofBool c.rz ++ rest ++ BitVec.ofFin c.deadline (w := 8) ++
    BitVec.ofFin c.sigCount (w := 8) ++ BitVec.ofFin c.sigGate (w := 12) ++ BitVec.ofFin c.waitCount (w := 8) ++ BitVec.ofFin c.waitGate (w := 12) ++
    (0 : BitVec 3) ++ BitVec.ofFin c.lane (w := 5) ++ op

/-- Whether a word spells an opcode with a slot's fields. The bits that R51 and R100 do not place are the operands' own. DEDUCED, log entry 35. -/
def spells (w : BitVec 128) (op : Nat) (c : Slot) : Bool := decide (slotField w 0 8 = op) && decide (Slot.ofWord c.unit c.idx w = c)

/-- Whether a slot of a unit of a class is a reserved encoding (R48, R51, R99): a reserved bit, an opcode that the unit has not, a format
that its operation does not accept. -/
def slotReserved (cls : Nat) (w : BitVec 128) : Bool :=
  decide (slotField w 13 3 ≠ 0) || !opOf cls (slotField w 0 8) || !formatsOk (slotField w 0 8) (slotField w 124 4) (slotField w 120 4)

/-- A port's share of the reservoir rotation (R74): ports 0 A0, 1 A1, 2 X, 3 D, 4 M. -/
def Image.share (im : Image) (port : Nat) : Nat := max 1 (im.rotation.filter fun r => decide (r = port)).length

/-- The limit of an operation's length or count operand (R65, and the operations' own tables), in a unit of a class. -/
def operandLimit (im : Image) (unit op : Nat) : Option Nat :=
  if op = 0x00 ∨ op = 0x01 then some 32
  else if op = 0x02 then some 2048
  else if op = 0x03 then some 12544
  else if op = 0x04 then some 16384
  else if op / 16 = 1 then some 131072
  else if op = 0x25 ∨ op = 0x26 then some 261888
  else if op = 0x27 then some 65536
  else if op = 0x28 then some 31
  else if op = 0x30 then some 131072
  else if op = 0x31 then some 1024
  else if op = 0x32 then some 1046528
  else if op = 0x33 then some (4092 * 256 * im.share (unit % 2))
  else if op = 0x40 then some 102
  else if op = 0x42 then some 2097152
  else if op = 0x50 ∨ op = 0x53 then some 4177920
  else if op = 0x51 then some (4088 * 256 * im.share 3)
  else if op = 0x52 then some 2093056
  else none

/-- Whether the operand that a slot holds exceeds its limit (R48). -/
def slotOver (im : Image) (unit : Nat) (x : ImgSlot) : Bool :=
  match x.held, operandLimit im unit (slotField x.word 0 8) with
  | some n, some k => decide (k < n)
  | _, _ => false

/-- Whether a gate is external (R54). -/
def Image.external (im : Image) (g : Nat) : Bool := im.gates.any fun e => decide (e.1 = g)

/-- Whether a slot attaches a deadline to an internal gate (R48, R55). -/
def slotDeadlineBad (im : Image) (w : BitVec 128) : Bool :=
  decide (slotField w 56 8 ≠ 0) && decide (slotField w 28 8 ≠ 0) && !im.external (slotField w 16 12)

end Sys2Proof
end

