-- ==== Sys2Proof/Machine/Slots.lean ====
section
/-! DEFINITION. What every slot has in common: buffers and regions, lanes, gates, waits and signals, contract faults (R50 to R62, R76 to R84). -/

namespace Sys2Proof.Machine

/-- The number of a unit of a class (R51): classes 0 bank unit, 1 culvert chain, 2 sequence core, 3 projection array,
4 expander, 5 DMA engine. -/
def unitKey (cls unit : Nat) : Nat := cls * 4096 + unit

/-- Units of a class in a polder (R16, R76, R510). -/
def unitCount (cls : Nat) : Nat := [1024, 32, 150, 2, 1, 1].getD cls 0

/-- Bytes of the reservoir (R76). -/
def reservoirBytes : Nat := 25165824

/-- Buffer addresses: the reservoir from 0, the local stores, the bank units' staging buffers, the arrays' buffers. -/
def lsAddr (core off : Nat) : Nat := 2 ^ 28 + core * 2 ^ 18 + off
def bankBuf (unit off : Nat) : Nat := 2 ^ 30 + unit * 2 ^ 16 + off
def arrayBuf (a off : Nat) : Nat := 2 ^ 31 + a * 2 ^ 22 + off
/-- A bank unit's buffers: query staging, probability staging, score buffer, value accumulator, write staging (R76). -/
def queryBuf (unit half : Nat) : Nat := bankBuf unit (half % 2 * 4096)
def probBuf (unit half : Nat) : Nat := bankBuf unit (8192 + half % 2 * 4096)
def scoreBuf (unit : Nat) : Nat := bankBuf unit 16384
def sumBuf (unit : Nat) : Nat := bankBuf unit 24576
def writeBuf (unit : Nat) : Nat := bankBuf unit 28672
/-- An array's tile registers and accumulator buffer (R76). -/
def tileBuf (a t : Nat) : Nat := arrayBuf a (t % 2 * 131072)
def accBuf (a : Nat) : Nat := arrayBuf a (2 ^ 20)

/-- Read bytes of a polder's buffers. -/
def Polder.load (x : Polder) (a n : Nat) : List Nat := (List.range n).map fun i => Map.getD x.buf (a + i) 0

/-- Write bytes of a polder's buffers. -/
def Polder.save (x : Polder) (a : Nat) (bs : List Nat) : Polder :=
  { x with buf := (bs.zipIdx).foldl (fun m b => Map.putD m (a + b.2) (b.1 % 256) 0) x.buf }

/-- An FP32 word of the buffers. -/
def Polder.word (x : Polder) (a : Nat) : Nat := leNat (x.load a 4)

/-- Consecutive FP32 words. -/
def Polder.words (x : Polder) (a n : Nat) : List Nat := (List.range n).map fun i => x.word (a + 4 * i)

/-- The bytes of FP32 words. -/
def wordBytes (ws : List Nat) : List Nat := ws.flatMap (leBytes 4)

/-- Write bytes of a polder's buffers. -/
def State.save (s : State) (p a : Nat) (bs : List Nat) : State := s.setPolder p ((s.polder p).save a bs)

/-- Whether a run of bytes of the reservoir lies in a region that a unit owns (R78). DEDUCED, log entry 134. -/
def Polder.owns (x : Polder) (key a n : Nat) : Bool :=
  match x.image with
  | some im => im.regions.any fun r => r.2.2.contains key && decide (r.1 ≤ a) && decide (a + n ≤ r.1 + r.2.1)
  | none => false

/-- Whether a run of bytes lies in a declared region of a core's local store (R78). -/
def Polder.inLocal (x : Polder) (core a n : Nat) : Bool :=
  match x.image with
  | some im => im.lsRegions.any fun r => decide (r.1 = core) && decide (r.2.1 ≤ a) && decide (a + n ≤ r.2.1 + r.2.2)
  | none => false

/-- A port's share of the reservoir rotation (R74). -/
def Polder.share (x : Polder) (port : Nat) : Nat := match x.image with | some im => im.share port | none => 1

/-- Whether a gate is external in the running image (R54). -/
def Polder.external (x : Polder) (g : Nat) : Bool := match x.image with | some im => im.external g | none => false

/-- Signal a gate (R52): what it absorbs is discarded (R56); none when the count would exceed 65 535. -/
def Polder.signal (x : Polder) (g n : Nat) : Option Polder :=
  let a := Map.getD x.absorb g 0
  let eaten := min a n
  let count := Map.getD x.gates g 0 + (n - eaten)
  if count > 65535 then none
  else some { x with absorb := Map.putD x.absorb g (a - eaten) 0, gates := Map.putD x.gates g count 0 }

/-- When a polder's last binding ended and its last ring entry came or went, before which it was not idle (R401). -/
def Polder.idleFrom (x : Polder) : Nat := (Map.vals x.lanes).foldl (fun t a => max t a.freeAt) x.busyAt

/-- The lanes of a polder that are bound now. -/
def Polder.bound (x : Polder) (now : Nat) : List Nat := (Map.keys x.lanes).filter fun l => (x.laneAt now l).isSome

/-- Release every lane of a polder. -/
def Polder.unbind (x : Polder) (now : Nat) : Polder := { x with lanes := [], busyAt := if x.bound now = [] then x.idleFrom else now }

/-- The requests, with their generations, that are bound to a lane of a polder and not void there (R81). -/
def Polder.boundTo (x : Polder) (now : Nat) : List (Nat × Nat) :=
  (x.bound now).filterMap fun l => match x.laneAt now l with
    | some a => if a.voided then none else some (a.entry.tag, a.entry.gen)
    | none => none

/-- A contract fault (R80, R81, R83, R84): a RUNNING polder records the first fault, counts it, goes STOPPING, and every
request bound to a lane of it ends CONTRACT_FAULT; a polder that is stopping or stopped counts only. -/
def State.contractFault (s : State) (p code loc : Nat) : State :=
  let x := s.polder p
  let x := { x with faultCount := min (x.faultCount + 1) (2 ^ 32 - 1) }
  if x.prog ≠ .running then s.setPolder p x
  else
    let x := if x.recorded then x else { x with recorded := true, faultCode := code, faultLoc := loc, faultTime := s.time }
    let s := s.setPolder p { x with prog := .stopping }
    let s := (s.arrive (polderSource p 0)).logEvent 10 1 p code loc
    s.endEvery (fun t q => (x.boundTo s.time).contains (t, q.gen)) ⟨.contractFault, 0, [code, p]⟩

/-- The location of a slot (2410h.06). -/
def slotLoc (cls : Nat) (c : Slot) : Nat := cls * 2 ^ 28 + c.unit % 4096 * 2 ^ 16 + c.idx % 65536

/-- The word that the running image holds at a slot of a unit (R50). -/
def Polder.slotAt (x : Polder) (key idx : Nat) : Option ImgSlot :=
  match x.image with
  | some im => match im.slots.find? fun u => decide (u.1 = key) with
    | some u => u.2[idx]?
    | none => none
  | none => none

/-- Whether the running image holds a command's slot where the command says (R50, R51). -/
def Polder.holds (x : Polder) (cls op : Nat) (c : Slot) : Bool :=
  match x.slotAt (unitKey cls c.unit) c.idx with
  | some w => spells w.word op c
  | none => false

/-- Whether a unit of a polder can run a slot now (R50): its program runs, the polder is awake and up, its pass is open and the barrier
over, the unit exists, has not ended, is at that slot, has spent the steps of the one before, and the slot is the image's. -/
def State.canRun (s : State) (p cls op : Nat) (c : Slot) : Bool :=
  let x := s.polder p
  let key := unitKey cls c.unit
  decide (x.prog = .running) && !x.down && decide (x.sleep = .wet) && !x.closed && decide (c.unit < unitCount cls) &&
    !x.ended.contains key && decide (Map.getD x.ptr key 0 = c.idx) && decide (Map.getD x.until_ key 0 ≤ s.time) &&
    decide (x.barrierUntil ≤ s.time) && x.holds cls op c

/-- Whether a lane's outputs are suppressed: void, LATE or tainted (R62, R138). -/
def Lane.quiet (a : Lane) : Bool := a.voided || a.late || a.tainted

/-- Where a unit goes after a slot, inside the REPEATs of a stack (R61): the next slot, the stack, and the steps of a run that begins
again. A body of no run is passed over, and the end of the last run is the end of the run around it where both bodies end at one
slot. -/
def afterSlot : List (Nat × Nat × Nat) → Nat → Nat × List (Nat × Nat × Nat) × Nat
  | [], idx => (idx + 1, [], 0)
  | (first, last, left) :: rest, idx =>
    if left = 0 then afterSlot rest last
    else if idx ≠ last then (idx + 1, (first, last, left) :: rest, 0)
    else if 2 ≤ left then (first, (first, last, left - 1) :: rest, 2)
    else afterSlot rest idx

/-- Nanoseconds of a number of steps (R38, R41). -/
def State.stepNs (s : State) (p n : Nat) : Nat := n * 1000 / s.rate p

/-- A unit leaves slot `idx`, which took `n` steps: its steps are counted, the next slot waits until they are spent (R38, R41, R50), and a
held start is held no longer. -/
def State.leave (s : State) (p cls unit idx n : Nat) : State :=
  let x := s.polder p
  let key := unitKey cls unit
  let r := afterSlot (Map.getD x.repeats key []) idx
  s.setPolder p { x with ptr := Map.put x.ptr key r.1, repeats := Map.put x.repeats key r.2.1,
                         steps := Map.put x.steps key (Map.getD x.steps key 0 + (n + r.2.2)),
                         until_ := Map.put x.until_ key (s.time + s.stepNs p (n + r.2.2)),
                         heldStarts := if cls = 0 then x.heldStarts.erase unit else x.heldStarts }

/-- The wait of a slot (R51, R52): none when it is not met. A wait whose deadline expired is met (R56). A void lane's wait on an external
gate is met by the void signal: it takes what the gate holds, and the gate absorbs what may still come (R62). DEDUCED, log entry 132. -/
def Polder.takeWait (x : Polder) (key : Nat) (c : Slot) (voided : Bool) : Option Polder :=
  let g := c.waitGate.val
  let n := c.waitCount.val
  let have_ := Map.getD x.gates g 0
  if n = 0 then some x
  else
    let expired := match Map.find x.waits key with | some w => w.expired && decide (w.idx = c.idx) | none => false
    let x' := { x with waits := Map.del x.waits key }
    if expired then some x'
    else if n ≤ have_ then some { x' with gates := Map.putD x'.gates g (have_ - n) 0 }
    else if voided && x.external g then
      some { x' with gates := Map.putD x'.gates g 0 0, absorb := Map.putD x'.absorb g (Map.getD x'.absorb g 0 + (n - have_)) 0 }
    else none

/-- A wait begins, or goes on (R51). -/
def Polder.beginWait (x : Polder) (now key : Nat) (c : Slot) : Polder :=
  match Map.find x.waits key with
  | some _ => x
  | none => { x with waits := Map.put x.waits key ⟨c.waitGate, c.waitCount, now, c.idx, c.lane, c.deadline, false⟩ }

/-- The slot's signal, at the end of its latency (R51, R52); an external gate is the hub's alone to signal (R54). DEDUCED, log entry 133. -/
def State.signalEnd (s : State) (p cls : Nat) (c : Slot) : State :=
  if c.sigCount.val = 0 ∨ (s.polder p).external c.sigGate then s
  else match (s.polder p).signal c.sigGate c.sigCount with
    | some x => s.setPolder p x
    | none => s.contractFault p 2 (slotLoc cls c)

/-- The lane of a slot is void. -/
def State.voided (s : State) (p : Nat) (c : Slot) : Bool :=
  match (s.polder p).laneAt s.time c.lane with | some a => a.voided | none => false

/-- The course of every slot: an unbound lane's slot passes in one step, an output slot needs a lane, the wait is taken, the
operation runs with its outputs suppressed or not, its steps are spent and its signal is sent. The operation answers a
contract fault's code or the next state. DESIGN CHOICE, log entry 24. -/
def State.slot (s : State) (p cls op : Nat) (c : Slot) (output : Bool) (occ : Polder → Nat) (run : Bool → State → Except Nat State) :
    State :=
  let x := s.polder p
  let lane := x.laneAt s.time c.lane
  if !s.canRun p cls op c then s
  else if c.lane ≠ 0 ∧ lane = none then
    if output ∧ x.waits.any (fun w => decide (w.2.lane = c.lane)) then s.contractFault p 9 (slotLoc cls c)
    else s.leave p cls c.unit c.idx 1
  else if output ∧ c.lane = 0 then s.contractFault p 0x0B (slotLoc cls c)
  else
    let quiet := match lane with | some a => a.quiet | none => false
    match x.takeWait (unitKey cls c.unit) c (s.voided p c) with
    | none => s.setPolder p (x.beginWait s.time (unitKey cls c.unit) c)
    | some x' =>
      match run quiet (s.setPolder p x') with
      | .error code => (s.setPolder p x').contractFault p code (slotLoc cls c)
      | .ok s' => (s'.leave p cls c.unit c.idx (occ x)).signalEnd p cls c

/-- Round a quotient up. -/
def ceilDiv (a b : Nat) : Nat := (a + b - 1) / b

/-- Run an operation where its conditions hold, and fault with the first that does not (R78). DEDUCED, log entry 29. -/
def guards : List (Nat × Bool) → (Unit → State) → Except Nat State
  | [], f => .ok (f ())
  | (code, ok) :: l, f => if ok then guards l f else .error code

end Sys2Proof.Machine
end

