-- ==== Sys2Proof/Machine/Aborts.lean ====
section
/-! DEFINITION. ABORT and its tombstones (R218 to R221), and QUERY (R217). -/

namespace Sys2Proof.Machine

/-- The source that an ABORT's handle names (R194, R218, R541). The Lemweave identifier of an ABORT that no node sent is none that a request
bears: node 2 to the 20 stands for no node. DESIGN CHOICE, log entry 152. -/
def abortTarget (r : Req) : Option Src :=
  let h := hdrField r.hdr 20 4
  if r.byte 24 / 2 % 4 = 1 then some (.ring (Fin.ofNat 64 h) (h / 64 % 65536) 0)
  else match r.src with
    | .fabric node _ _ _ => some (.fabric node h 0)
    | .ring .. | .mirror _ => some (.fabric (2 ^ 20) h 0)

/-- A tag with its generation as a word (R125, R135). -/
def tagWord (tag gen : Nat) : Nat := tag % 2 ^ 17 + gen % 2 ^ 15 * 2 ^ 17

/-- ALREADY_DONE naming a request (R135, R219). -/
def alreadyDone (tag gen : Nat) : Answer := ⟨.alreadyDone, 0, leBytes 4 (tagWord tag gen)⟩
/-- ALREADY_DONE of an abort window that ran out (R219, R220). -/
def neverCame : Answer := ⟨.alreadyDone, 2, []⟩

/-- The ABORTED that a winning ABORT writes. -/
def abortedBy (tag gen : Nat) : Answer := ⟨.aborted, 0, leBytes 4 (tagWord tag gen)⟩

/-- The oldest tombstone goes (R220): every ABORT that waits on it ends as at expiry. -/
def State.displace (s : State) : State :=
  match s.tombs with
  | [] => s
  | t :: rest =>
    let s := { s with tombs := rest }.bump 0x2B4303
    t.waiters.foldl (fun s w => match Map.find s.reqs w with | some q => s.complete w q neverCame | none => s) s

/-- An ABORT that matches nothing yet waits on a tombstone, its own or one that stands (R220). -/
def State.awaitTarget (s : State) (tag seqId : Nat) (src : Src) : State :=
  if s.tombs.any fun t => t.src.same src then
    { s with tombs := s.tombs.map fun t => if t.src.same src then { t with waiters := t.waiters ++ [tag] } else t }
  else
    let s := if s.tombs.length ≥ 4096 then s.displace else s
    { s with tombs := s.tombs ++ [⟨src, seqId, [tag], s.time⟩] }

/-- The requests held at check 3 that a test picks end with an answer. -/
def State.endHolds (s : State) (test : Req → Bool) (a : Answer) : State :=
  let hit := (Map.keep s.holds fun _ h => test h.req).map fun h => h.2.req
  hit.foldl (fun s r => s.refuse r a) { s with holds := Map.keep s.holds fun _ h => !test h.req }

/-- Whether a request kind is one that an ABORT matches (R218). -/
def abortable (kind : Nat) : Bool := decide (kind ≤ 9)

/-- ABORT with selector 0 (R218 to R220), its tag taken. -/
def State.abortOne (s : State) (tag : Nat) (q : Request) (src : Src) : State :=
  let me := s
  match s.reqs.find? fun e => abortable e.2.kind && decide (e.2.seqId = q.seqId) && e.2.src.same src with
  | some (t, e) =>
    if e.claimed then s.complete tag q (alreadyDone t e.gen)
    else (s.endAny t (abortedBy tag q.gen)).complete tag q (.ok)
  | none =>
    let test (r : Req) : Bool := abortable r.kind && decide (r.seqId = q.seqId) && r.src.same src
    if s.holds.any fun h => test h.2.req then (s.endHolds test (abortedBy tag q.gen)).complete tag q (.ok)
    else match s.kept.find? fun k => decide (k.seqId = q.seqId) && k.src.same src && decide (me.since k.time ≤ me.obj 0x2B4301) with
      | some k => s.complete tag q (alreadyDone k.tag k.gen)
      | none => s.awaitTarget tag q.seqId src

/-- ABORT with selector 1 (R218, R195): every request on the sequence admitted or held before it. -/
def State.abortAll (s : State) (tag : Nat) (q : Request) : State :=
  let test (t : Nat) (e : Request) : Bool := abortable e.kind && decide (e.seqId = q.seqId) && decide (e.order < q.order) && decide (t ≠ tag)
  let held (r : Req) : Bool := abortable r.kind && decide (r.seqId = q.seqId)
  let n := (Map.keep s.reqs fun t e => test t e && !e.claimed).length + (s.holds.filter fun h => held h.2.req).length
  ((s.endEvery test (abortedBy tag q.gen)).endHolds held (abortedBy tag q.gen)).complete tag q (.ok (leBytes 4 n))

/-- The failing fields of an ABORT (R194, R541). -/
def abortBad (r : Req) : List (Nat × Nat × Bool) :=
  wideBad r 0 [(25, 7)] ++
  [(20, 1, decide (r.byte 24 / 2 % 4 = 1) && decide (hdrField r.hdr 20 4 / 2 ^ 22 ≠ 0)),
   (24, 1, decide (2 ≤ r.byte 24 / 2 % 4) || decide (r.byte 24 / 8 ≠ 0))]

/-- An ABORT (R218 to R220): it needs no descriptor, since its target may not have come. DEDUCED, log entry 41. -/
def State.abort (s : State) (r : Req) : State :=
  s.gate r false false false wideSpan (abortBad r) fun s =>
    match s.take r .running with
    | none => s.refuse r (.busy 1)
    | some (tag, q, s) =>
      if bit (r.byte 24) 0 then s.abortAll tag q
      else match abortTarget r with
        | some src => s.abortOne tag q src
        | none => s.complete tag q neverCame
/-- ABORT with selector 0. -/
def execAbort (r : Req) (s : State) : Host.Outcome State Fault Refusal := .next (s.abort r)
/-- ABORT with selector 1. -/
def execAbortAll (r : Req) (s : State) : Host.Outcome State Fault Refusal := .next (s.abort r)

/-- TOMBSTONE_EXPIRY (R220): the window of one ABORT runs out; the tombstone stands until the last has ended. -/
def State.tombstoneExpiry (s : State) (waiter : Nat) : State :=
  if !s.tombs.any fun t => t.waiters.contains waiter && decide (s.since t.since ≥ s.obj 0x2B4301) then s
  else
    let left := s.stopWaiting waiter
    let s := left.bumpBy 0x2B4303 (s.tombs.length - left.tombs.length)
    match Map.find s.reqs waiter with
    | some q => s.complete waiter q neverCame
    | none => s
def execTombstoneExpiry (waiter : Nat) (s : State) : Host.Outcome State Fault Refusal := .next (s.tombstoneExpiry waiter)

/-- Descriptors that a tenant holds (3000h+t.08). -/
def State.tenantSeqs (s : State) (t : Nat) : Nat := (s.seqs.filter fun e => decide (tenantOf e.1 = t)).length

/-- The answer of a QUERY (R217). -/
def State.queryAnswer (s : State) (q : Request) : Answer :=
  let sel := hdrField q.hdr 20 1
  let t := tenantOf q.seqId
  let c := s.charge t
  if sel = 2 then
    .ok (leBytes 4 (c.usage 1) ++ leBytes 4 (s.obj (tenantKey t 1)) ++ leBytes 4 (c.usage 2) ++ leBytes 4 (s.obj (tenantKey t 3)) ++
      leBytes 4 (c.usage 3) ++ leBytes 4 (s.obj (tenantKey t 4)) ++ leBytes 4 (s.tenantSeqs t))
  else match Map.find s.seqs q.seqId with
    | none => s.goneAnswer q.seqId
    | some e =>
      if sel = 1 then .ok (List.replicate 28 0 ++ e.counts.flatMap (leBytes 4))
      else .ok ([e.st.code, e.base] ++ leBytes 2 e.binding ++ leBytes 4 e.lowest ++ leBytes 4 e.highest ++
        leBytes 4 (s.privateFrames e) ++ leBytes 4 (s.sharedFrames e) ++ leBytes 4 e.t2 ++ leBytes 4 e.t3)

/-- The failing fields of a QUERY (R194, R537). -/
def State.queryBad (s : State) (r : Req) : List (Nat × Nat × Bool) :=
  let layers := match Map.find s.seqs r.seqId with | some e => e.counts.length | none => 0
  wideBad r 0 [(21, 11)] ++
  [(20, 1, decide (2 < r.byte 20)), (8, 1, decide (r.byte 20 = 2) && decide (r.seqId % 2 ^ 52 ≠ 0)),
   (44, 0x15, decide (r.byte 20 = 1) && s.replyShort r (4 * layers))]

/-- A QUERY (R191, R217): it takes no part in the order and reads what is committed; it waits only for a restarting steward
of duty set 1 (R377). -/
def State.query (s : State) (r : Req) : State :=
  s.gate r false false (decide (r.byte 20 ≠ 2)) wideSpan (s.queryBad r) fun s =>
    match s.take r .held with
    | none => s.refuse r (.busy 1)
    | some (tag, q, s1) =>
      if s.dutyGone 1 then s.refuse r (.busy 0x11)
      else if s.dutyHeld 1 then s1
      else s1.complete tag q (s1.queryAnswer q)
/-- QUERY with selector 0. -/
def execQuerySummary (r : Req) (s : State) : Host.Outcome State Fault Refusal := .next (s.query r)
/-- QUERY with selector 1. -/
def execQueryLayerCounts (r : Req) (s : State) : Host.Outcome State Fault Refusal := .next (s.query r)
/-- QUERY with selector 2. -/
def execQueryTenantUsage (r : Req) (s : State) : Host.Outcome State Fault Refusal := .next (s.query r)

/-- The QUERYs that a restarting steward held are answered (R377). -/
def State.answerQueries (s : State) : State :=
  (s.reqs.filter fun e => decide (e.2.kind = 11) && decide (e.2.phase = .held)).foldl
    (fun s e => s.complete e.1 e.2 (s.queryAnswer e.2)) s

/-- Take a request of any kind through its checks (R112). A kind that is none of these is MALFORMED detail 01h at byte 0. -/
def State.request (s : State) (r : Req) : State :=
  match r.kind with
  | 1 => s.attend r
  | 2 => s.append r
  | 3 => s.prefill r
  | 4 => if bit r.flags 1 then s.forkCreate r else s.fork r
  | 5 => s.release r
  | 6 => s.pin r
  | 7 => s.swap r
  | 8 => s.swap r
  | 9 => s.swap r
  | 10 => s.abort r
  | 11 => s.query r
  | _ => s.refuse r (.malformed 1 0)

end Sys2Proof.Machine
end

