-- ==== Sys2Proof/Machine/Bank.lean ====
section
/-! DEFINITION. The bank units (R67, R126, R127, R138) and the culvert chains (R69, R103, R128). -/

namespace Sys2Proof.Machine

/-- Rows of a bank pair (1018h.0F). -/
def bankRows : Nat := Config.framesPerStack / 256

/-- Whether a run of bytes lies in one row of a bank unit (R66, R182). -/
def inRow (row off n : Nat) : Bool := decide (row < bankRows) && decide (off + n ≤ 16384)

/-- Bank units of a polder that are computing now (R68). -/
def Polder.busy (x : Polder) (now : Nat) : Nat := (x.computing.filter fun e => decide (now < e.2)).length

/-- The ceiling on computing bank units: the declared concurrency, or a lower ceiling of the power cap or the stack's
temperature (R43, R391, R399). -/
def State.concurrency (s : State) (p : Nat) : Nat × Nat :=
  let declared := match (s.polder p).image with | some im => im.concurrency | none => 0
  (declared, min declared (min s.capConcurrency (Map.getD s.thermal.stackCeil p 512)))

/-- Whether a lower ceiling holds the start of a SCORE or WSUM whose lane is bound and whose wait is met: no unit may start now, or
another was held before it (R43). -/
def State.startHeld (s : State) (p op : Nat) (c : Slot) : Bool :=
  let x := s.polder p
  let k := s.concurrency p
  s.canRun p 0 op c && decide (c.lane = 0 ∨ (x.laneAt s.time c.lane).isSome) && (x.takeWait (unitKey 0 c.unit) c (s.voided p c)).isSome &&
    ((decide (k.2 < k.1) && decide (k.2 ≤ x.busy s.time)) || (match x.heldStarts with | u :: _ => decide (u ≠ c.unit) | [] => false))

/-- A held start takes its place behind those held before it (R43). -/
def State.holdStart (s : State) (p : Nat) (c : Slot) : State :=
  let x := s.polder p
  if x.heldStarts.contains c.unit then s else s.setPolder p { x with heldStarts := x.heldStarts ++ [c.unit] }

/-- Note a bank unit as computing for its occupancy (R68). DEDUCED, log entry 89. -/
def State.computing (s : State) (p unit steps : Nat) : State :=
  let x := s.polder p
  s.setPolder p { x with computing := Map.put x.computing unit (s.time + s.stepNs p steps) }

/-- The scores of one unit: for every query head and every token, the pairwise tree over the unit's channels (R126, R103). -/
def scoresOf (fmt : Nat) (o : BankOp) (q keys : List Nat) : List Nat :=
  (List.range (o.heads * o.g)).flatMap fun j => (List.range 64).map fun t =>
    productTree ((List.range o.c).map fun i =>
      (bf16.decode (leNat ((q.drop ((j * o.c + i) * 2)).take 2))).mul (regionElem fmt o.c keys (j / o.g) t i))

/-- The value sums of one unit: for every query head and channel, the pairwise tree over the 64 tokens (R127, R103). -/
def sumsOf (fmt : Nat) (o : BankOp) (probs vals : List Nat) : List Nat :=
  (List.range (o.heads * o.g)).flatMap fun j => (List.range o.c).map fun i =>
    productTree ((List.range 64).map fun t =>
      (bf16.decode (leNat ((probs.drop ((j * 64 + t) * 2)).take 2))).mul (regionElem fmt o.c vals (j / o.g) t i))

/-- SCORE and WSUM: the operand is read and checked (R347), the result goes to a buffer of the unit. A failing or lost frame
taints the lane and the unit gives no result (R138, R350). DEDUCED, log entry 32. -/
def State.bankOp (s : State) (p op : Nat) (c : Slot) (o : BankOp) (fits : Bool) (dst : Nat) (result : Polder → List Nat → List Nat) : State :=
  if s.startHeld p op c then s.holdStart p c
  else s.slot p 0 op c false (fun _ => ceilDiv o.bytes 16) fun _ s =>
    let x := s.polder p
    guards [(7, decide (o.heads * o.g ≤ 32)), (1, inRow o.row o.off o.bytes), (1, fits), (5, decide (x.busy s.time < (s.concurrency p).1))] fun _ =>
      let a := bankAddr p c.unit o.row o.off
      let s := s.computing p c.unit (ceilDiv o.bytes 16)
      let r := s.unitRead p c.lane a o.bytes o.upset true
      if r.2 then r.1.save p dst (wordBytes (result x (Memory.bytes s.mem a o.bytes))) else r.1

/-- SCORE (R126). -/
def execScore (p : Pol) (c : Slot) (o : BankOp) (s : State) : Host.Outcome State Fault Refusal :=
  let n := o.heads * o.g
  .next (s.bankOp p 0x00 c o (decide (n * o.c * 2 ≤ 4096)) (scoreBuf c.unit) fun x bs =>
    scoresOf c.fin o (x.load (queryBuf c.unit o.half) (n * o.c * 2)) bs)

/-- WSUM (R127). -/
def execWsum (p : Pol) (c : Slot) (o : BankOp) (s : State) : Host.Outcome State Fault Refusal :=
  let n := o.heads * o.g
  .next (s.bankOp p 0x01 c o (decide (n * o.c * 4 ≤ 4096)) (sumBuf c.unit) fun x bs =>
    sumsOf c.fin o (x.load (probBuf c.unit o.half) (n * 64 * 2)) bs)

/-- The check words of a run of 64-byte sectors. -/
def sectorWords (bs : List Nat) : List Nat := (chunks 64 (bs.length + 1) bs).map crc32c

/-- Whether the check words that came with the staged sectors of a unit are those of the sectors' bytes (R167). -/
def Polder.wordsOk (x : Polder) (unit bytes : Nat) : Bool :=
  (List.range (ceilDiv bytes 64)).all fun i => match Map.find x.carried (unit * 32 + i) with
    | some w => decide (w = crc32c (x.load (writeBuf unit + 64 * i) 64))
    | none => true

/-- WRITE (R67, R167): the staged sectors go to a row with fresh check words; where a word that came with a sector is not that of its
bytes, or the sector no longer reads as it was formed (`upset`), the lane is tainted with detail 03h. DESIGN CHOICE, log entry 61. -/
def execWrite (p : Pol) (c : Slot) (row off bytes : Nat) (upset : Bool) (s : State) : Host.Outcome State Fault Refusal :=
  .next (s.slot p 0 0x02 c true (fun _ => ceilDiv bytes 16 + 2) fun quiet s =>
    guards [(7, decide (bytes ≤ 2048)), (1, inRow row off bytes)] fun _ =>
      if quiet then s
      else
        let x := s.polder p
        let s := s.writeStack (bankAddr p c.unit row off) (x.load (writeBuf c.unit) bytes)
        if upset || !x.wordsOk c.unit bytes then s.taint p c.lane [] 3
        else
          match x.laneAt s.time c.lane with
          | some l => s.setPolder p { x with lanes := Map.put x.lanes c.lane { l with wrote := true } }
          | none => s)

/-- COPY (R67): bytes move within the bank pair and their check words are rewritten. -/
def execCopy (p : Pol) (c : Slot) (srcRow srcOff dstRow dstOff bytes : Nat) (s : State) : Host.Outcome State Fault Refusal :=
  .next (s.slot p 0 0x03 c false (fun _ => 2 * ceilDiv bytes 16) fun quiet s =>
    guards [(7, decide (bytes ≤ 12544)), (1, inRow srcRow srcOff bytes), (1, inRow dstRow dstOff bytes)] fun _ =>
      if quiet then s
      else s.writeStack (bankAddr p c.unit dstRow dstOff) (Memory.bytes s.mem (bankAddr p c.unit srcRow srcOff) bytes))

/-- VERIFY (R67): the sectors are checked; a failure goes to the ladder and taints nothing. -/
def execVerify (p : Pol) (c : Slot) (row off bytes : Nat) (upset : Bool) (s : State) : Host.Outcome State Fault Refusal :=
  .next (s.slot p 0 0x04 c false (fun _ => ceilDiv bytes 16) fun _ s =>
    guards [(7, decide (bytes ≤ 16384)), (1, inRow row off bytes)] fun _ =>
      (s.unitRead p c.lane (bankAddr p c.unit row off) bytes upset false).1)

/-- The steps of a culvert operation (R69). -/
def culvertSteps (o : CulvertOp) : Nat := ceilDiv o.bytes 256 + (o.span - 1)

/-- The bank unit at a place of a chain (R69). -/
def chainUnit (c : Slot) (o : CulvertOp) (i : Nat) : Nat := c.unit * 32 + o.first + i

/-- Bytes of a link buffer of a chain (R76): 2 KiB per direction, at 256 bytes per step. A culvert operation that keeps its rate leaves
at most one step's bytes in each, so no operation overfills one. DEDUCED, log entry 145. -/
def linkBuffer : Nat := 2048

/-- A culvert operation: its span lies on the chain, its bytes within R65's limit, the tap's bytes in the core's local store, each
unit's in its buffer, and a step's in a link's. -/
def State.culvertOp (s : State) (p op : Nat) (c : Slot) (o : CulvertOp) (tap unitBytes unitRoom : Nat) (f : State → State) : State :=
  s.slot p 1 op c false (fun _ => culvertSteps o) fun _ s =>
    guards [(7, decide (o.bytes ≤ 131072)), (1, decide (1 ≤ o.span) && decide (o.first + o.span ≤ 32)), (1, decide (o.core < 150)),
            (1, (s.polder p).inLocal o.core o.at_ tap), (1, decide (unitBytes ≤ unitRoom)), (8, decide (256 ≤ linkBuffer))] fun _ => f s

/-- The run that a scatter or gather deals to a unit in turn (R69, R128): the operand's, or each unit's whole share. -/
def runOf (o : CulvertOp) : Nat := if o.chan = 0 then ceilDiv o.bytes o.span else o.chan

/-- The most bytes that any unit takes of a deal. -/
def dealMax (o : CulvertOp) : Nat := ceilDiv o.bytes (o.span * runOf o) * runOf o

/-- Where byte `j` of a deal goes: the place of its unit on the span, and its offset there. -/
def dealAt (o : CulvertOp) (j : Nat) : Nat × Nat := (j / runOf o % o.span, j / (runOf o * o.span) * runOf o + j % runOf o)

/-- CSCATTER (R69): bytes from the tap are split over the span into the units' query staging, or into their write staging (R67, R165).
DEDUCED, log entry 25. DEDUCED, log entry 140. -/
def execCscatter (p : Pol) (c : Slot) (o : CulvertOp) (s : State) : Host.Outcome State Fault Refusal :=
  .next (s.culvertOp p 0x10 c o o.bytes (dealMax o) (if o.toWrite then 2048 else 4096) fun s =>
    let x := s.polder p
    let bs := x.load (lsAddr o.core o.at_) o.bytes
    let to_ (u : Nat) : Nat := if o.toWrite then writeBuf u else queryBuf u o.half
    let buf := bs.zipIdx.foldl (fun m b => Map.putD m (to_ (chainUnit c o (dealAt o b.2).1) + (dealAt o b.2).2) (b.1 % 256) 0) x.buf
    let mine (k : Nat) : Bool := o.toWrite && (List.range o.span).any fun i => decide (k / 32 = chainUnit c o i)
    s.setPolder p { x with buf := buf, carried := Map.keep x.carried fun k _ => !mine k })

/-- CBCAST (R69): bytes from the tap go to every unit's probability staging. -/
def execCbcast (p : Pol) (c : Slot) (o : CulvertOp) (s : State) : Host.Outcome State Fault Refusal :=
  .next (s.culvertOp p 0x11 c o o.bytes o.bytes 4096 fun s =>
    let bs := (s.polder p).load (lsAddr o.core o.at_) o.bytes
    (List.range o.span).foldl (fun s i => s.save p (probBuf (chainUnit c o i) o.half) bs) s)

/-- CREDUCE (R69, R103, R128): the units' scores are added from the unit farthest from the tap toward it. -/
def execCreduce (p : Pol) (c : Slot) (o : CulvertOp) (s : State) : Host.Outcome State Fault Refusal :=
  .next (s.culvertOp p 0x12 c o o.bytes o.bytes 8192 fun s =>
    let x := s.polder p
    let col (k : Nat) : Nat :=
      match ((List.range o.span).reverse.map fun i => x.word (scoreBuf (chainUnit c o i) + 4 * k)) with
      | [] => 0
      | w :: ws => ws.foldl fadd w
    s.save p (lsAddr o.core o.at_) (wordBytes ((List.range (o.bytes / 4)).map col)))

/-- CGATHER (R69, R128): the units' value sums are concatenated, run by run, into vectors. -/
def execCgather (p : Pol) (c : Slot) (o : CulvertOp) (s : State) : Host.Outcome State Fault Refusal :=
  .next (s.culvertOp p 0x13 c o o.bytes (dealMax o) 4096 fun s =>
    let x := s.polder p
    s.save p (lsAddr o.core o.at_) ((List.range o.bytes).map fun j => Map.getD x.buf (sumBuf (chainUnit c o (dealAt o j).1) + (dealAt o j).2) 0))

end Sys2Proof.Machine
end

