-- ==== Sys2Proof/Machine/Cores.lean ====
section
/-! DEFINITION. The sequence cores (R70, R103 to R110, R130, R134). -/

namespace Sys2Proof.Machine

/-- A sequence core's operation: the runs of bytes it names lie in regions of its local store (R78). -/
def State.coreOp (s : State) (p op : Nat) (c : Slot) (occ : Nat) (limits : List (Nat × Bool)) (runs : List (Nat × Nat))
    (f : State → State) : State :=
  s.slot p 2 op c false (fun _ => occ) fun _ s =>
    guards (limits ++ runs.map fun r => (1, (s.polder p).inLocal c.unit r.1 r.2)) fun _ => f s

/-- Read FP32 words of a core's local store. -/
def State.lsWords (s : State) (p core off n : Nat) : List Nat := (s.polder p).words (lsAddr core off) n

/-- Write FP32 words to a core's local store. -/
def State.lsPut (s : State) (p core off : Nat) (ws : List Nat) : State := s.save p (lsAddr core off) (wordBytes ws)

/-- One FP32 result of a VOP (R70), rounded to nearest even: R101 rounds conversions and results of a narrower format by the slot's bit
[119], and an FP32 result is neither. DESIGN CHOICE, log entry 142. -/
def vopF32 (k : VopKind) (a b d : Nat) : Nat :=
  match k with
  | .add => fadd a b
  | .mul => fmul a b
  | .fma => ffma a b d
  | .max => fmax a b
  | .min => fmin a b
  | .scale => fmul a b

/-- One exact INT32 result of a VOP. -/
def vopInt (k : VopKind) (a b d : Int) : Int :=
  match k with
  | .add => a + b
  | .mul => a * b
  | .fma => a * b + d
  | .max => max a b
  | .min => min a b
  | .scale => a * b

/-- The integer that an INT32 pattern stands for (R87). -/
def ofInt32 (v : Nat) : Int := (BitVec.ofNat 32 v).toInt

/-- An INT32 result (R96): the exact one where it fits; where it does not, the spec states no result and the value is free.
DESIGN CHOICE, log entry 23. -/
def vopI32 (ctr : Nat) (k : VopKind) (a b d : Nat) : Nat :=
  let r := vopInt k (ofInt32 a) (ofInt32 b) (ofInt32 d)
  if -(2 ^ 31 : Int) ≤ r ∧ r < 2 ^ 31 then (BitVec.ofInt 32 r).toNat
  else ((Config.freeValue ctr).setWidth 32).toNat

/-- VOP (R70, R96): element-wise on FP32 (0h) or INT32 (Eh); a scale takes its second operand from one element. -/
def execVop (p : Pol) (c : Slot) (kind : VopKind) (n a b d dst : Nat) (s : State) : Host.Outcome State Fault Refusal :=
  let one := decide (kind = .scale)
  .next (s.coreOp p 0x20 c (ceilDiv n 64 + 4) []
    ([(a, 4 * n), (b, if one then 4 else 4 * n), (dst, 4 * n)] ++ if kind = .fma then [(d, 4 * n)] else []) fun s =>
    let va := s.lsWords p c.unit a n
    let vb := s.lsWords p c.unit b (if one then 1 else n)
    let vd := if kind = .fma then s.lsWords p c.unit d n else []
    let get (i : Nat) : Nat := if one then nth vb 0 else nth vb i
    let out := (List.range n).map fun i =>
      if c.fin = 14 then vopI32 (s.freeCtr + i) kind (nth va i) (get i) (nth vd i) else vopF32 kind (nth va i) (get i) (nth vd i)
    { s.lsPut p c.unit dst out with freeCtr := if c.fin = 14 then s.freeCtr + n else s.freeCtr })

/-- EXP (R110). -/
def execExp (p : Pol) (c : Slot) (n src dst : Nat) (s : State) : Host.Outcome State Fault Refusal :=
  .next (s.coreOp p 0x21 c (ceilDiv n 32 + 6) [] [(src, 4 * n), (dst, 4 * n)] fun s =>
    s.lsPut p c.unit dst ((s.lsWords p c.unit src n).map fexp))

/-- Minus infinity in FP32. -/
def negInf : Nat := 0xFF800000

/-- The difference of two FP32 words. -/
def fsub (a b : Nat) : Nat := toF32 ((ofF32 a).add (ofF32 b).neg)

/-- Whether two FP32 words are equal numbers; a NaN equals nothing. -/
def feq (a b : Nat) : Bool :=
  match ofF32 a, ofF32 b with
  | .inf x, .inf y => decide (x = y)
  | .fin .., .fin .. => !(ofF32 a).lt (ofF32 b) && !(ofF32 b).lt (ofF32 a)
  | _, _ => false

/-- Whether a score makes the head's m, l and o NaN (R108): +infinity or NaN. -/
def poison (x : Nat) : Bool := match ofF32 x with | .inf neg => !neg | .nan => true | .fin .. => false

/-- The online softmax step of R108 and R109 on one head's scaled scores: m', l', alpha and the probabilities, each rounded as
`rnd` says before it is added. -/
def softStep (rnd : Nat → Nat) (m l : Nat) (scores : List Nat) : Nat × Nat × Nat × List Nat :=
  let m' := if scores.any poison then 0x7FC00000 else scores.foldl fmax m
  let alpha := if feq m m' then 0x3F800000 else fexp (fsub m m')
  let ps := scores.map fun x => if x = negInf then 0 else rnd (fexp (fsub x m'))
  (m', fadd (fmul alpha l) (ftree ps), alpha, ps)

/-- The valid positions of a lane's page (R129): the last-valid count of the ring entry at the group's last page, 64 at any other; `page`
counts the polder's pages of the group in their order. -/
def State.validAt (s : State) (p : Nat) (c : Slot) (page : Nat) : Nat :=
  match (s.polder p).laneAt s.time c.lane with
  | some a => if a.entry.lastHere ∧ page + 1 = a.entry.pageCount then a.entry.lastValid else 64
  | none => 64

/-- SOFTMAX (R108, R109, R129): one step per head; positions at or beyond the valid count read as minus infinity. The first step of a
head starts from m minus infinity and l 0. DEDUCED, log entry 143. -/
def execSoftmax (p : Pol) (c : Slot) (n heads scores state probs alpha : Nat) (scale : W32) (page : Nat) (first : Bool) (s : State) :
    Host.Outcome State Fault Refusal :=
  .next (s.coreOp p 0x22 c (ceilDiv n 32 + 8) [(7, decide (1 ≤ heads) && decide (heads ≤ 32))]
    [(scores, 4 * n), (state, 8 * heads), (probs, 4 * n), (alpha, 4 * heads)] fun s =>
    let per := n / heads
    let sc := s.lsWords p c.unit scores n
    let st := s.lsWords p c.unit state (2 * heads)
    let valid := s.validAt p c page
    let step (h : Nat) := softStep bf16Round (if first then negInf else nth st (2 * h)) (if first then 0 else nth st (2 * h + 1))
      ((List.range per).map fun t => if t < valid then fmul (nth sc (h * per + t)) scale.toNat else negInf)
    let rs := (List.range heads).map step
    let s := s.lsPut p c.unit state (rs.flatMap fun r => [r.1, r.2.1])
    let s := s.lsPut p c.unit alpha (rs.map fun r => r.2.2.1)
    s.lsPut p c.unit probs (rs.flatMap fun r => r.2.2.2))

/-- OACC (R70, R108): o becomes o times alpha, rounded, plus w; o begins at 0. DEDUCED, log entry 28. -/
def execOacc (p : Pol) (c : Slot) (n d o w alpha : Nat) (first : Bool) (s : State) : Host.Outcome State Fault Refusal :=
  .next (s.coreOp p 0x23 c (ceilDiv n 64 + 4) [(1, decide (1 ≤ d))] [(o, 4 * n), (w, 4 * n), (alpha, 4 * ceilDiv n d)] fun s =>
    let vo := s.lsWords p c.unit o n
    let vw := s.lsWords p c.unit w n
    let va := s.lsWords p c.unit alpha (ceilDiv n d)
    s.lsPut p c.unit o ((List.range n).map fun i => fadd (fmul (if first then 0 else nth vo i) (nth va (i / d))) (nth vw i)))

/-- One more partial of a merge (R134): l and o of the sum, and the partial's words. -/
def mergeStep (big : Nat) (acc : Nat × List Nat) (w : List Nat) : Nat × List Nat :=
  let m := nth w 0
  if m = negInf then acc
  else
    let a := fexp (fsub m big)
    (fadd acc.1 (fmul a (nth w 1)), acc.2.zipIdx.map fun o => fadd o.1 (fmul a (nth w (o.2 + 2))))

/-- The merge rule of R134 without its last division: m, l and o. -/
def mergeAll (d : Nat) (parts : List (List Nat)) : List Nat :=
  let big := (parts.map fun w => nth w 0).foldl fmax negInf
  if big = negInf then negInf :: List.replicate (d + 1) 0
  else
    let r := parts.foldl (mergeStep big) (0, List.replicate d 0)
    big :: r.1 :: r.2

/-- Count the exceptions of an output conversion (R107). -/
def State.exceptions (s : State) (p n : Nat) : State :=
  if n = 0 then s else (s.bumpBy (recKey 0x2C00 p 7) n).arrive (polderSource p 6)

/-- A polder partial failed its CRC-64 at its merge (R130): it is counted and its lane reports CHECK_FAIL detail 01h; in lane 0 no lane
does. DEDUCED, log entry 144. -/
def State.partialFailed (s : State) (p : Nat) (c : Slot) : State :=
  let x := s.polder p
  let s := s.bump (recKey 0x2C00 p 6)
  match x.laneAt s.time c.lane with
  | some a => s.setPolder p { x with lanes := Map.put x.lanes c.lane { a with tainted := true, checkDetail := if a.checkDetail = 0 then 1 else a.checkDetail } }
  | none => s

/-- MERGE (R130, R134, R103): partials of m, l and d elements of o, in the order of the operand list; one that came from another polder is
followed by its CRC-64, which is checked. The partials stand beside each other in the local store. DEDUCED, log entry 144. -/
def execMerge (p : Pol) (c : Slot) (d : Nat) (parts : List (Nat × Bool)) (dst : Nat) (s : State) : Host.Outcome State Fault Refusal :=
  let n := 4 * (d + 2)
  .next (s.coreOp p 0x24 c (parts.length * (ceilDiv d 64 + 6))
    [(7, decide (2 ≤ parts.length) && decide (parts.length ≤ 64)), (1, decide (parts.length * n ≤ 262144))]
    ((dst, n) :: parts.map fun a => (a.1, if a.2 then n + 8 else n)) fun s =>
    let x := s.polder p
    let bad := parts.any fun a => a.2 && decide (leNat (x.load (lsAddr c.unit (a.1 + n)) 8) ≠ crc64 (x.load (lsAddr c.unit a.1) n))
    let s := if bad then s.partialFailed p c else s
    s.lsPut p c.unit dst (mergeAll d (parts.map fun a => x.words (lsAddr c.unit a.1) (d + 2))))

/-- CVT (R105, R107): exceptions are counted and raised. -/
def execCvt (p : Pol) (c : Slot) (o : CvtOp) (s : State) : Host.Outcome State Fault Refusal :=
  .next (s.coreOp p 0x25 c (ceilDiv o.n 64 + 4) [(7, decide (o.n ≤ 261888))]
    [(o.src, fmtBytes c.fin o.n), (o.dst, fmtBytes c.fout o.n)] fun s =>
    let bs := (s.polder p).load (lsAddr c.unit o.src) (fmtBytes c.fin o.n)
    let r := encodeVec c.fout o.c c.rz (decodeVec c.fin o.n o.c bs)
    (s.save p (lsAddr c.unit o.dst) r.1).exceptions p r.2)

/-- CRC64 (R70, R132): the check word of the bytes, least significant byte first. -/
def execCrc64 (p : Pol) (c : Slot) (bytes src dst : Nat) (s : State) : Host.Outcome State Fault Refusal :=
  .next (s.coreOp p 0x26 c (ceilDiv bytes 64 + 4) [(7, decide (bytes ≤ 261888))] [(src, bytes), (dst, 8)] fun s =>
    s.save p (lsAddr c.unit dst) (leBytes 8 (crc64 ((s.polder p).load (lsAddr c.unit src) bytes))))

/-- Bytes of the mesh outbound queue (R76). -/
def meshQueue : Nat := 262144

/-- Bytes go over the mesh to a polder's reservoir (R74); `now` of them enter the outbound queue at once, the rest while the slot
runs (R76). -/
def State.meshSend (s : State) (p : Nat) (bs : List Nat) (now dstPol dstOff : Nat) : State :=
  let x := s.polder p
  (s.setPolder p { x with outq := x.outq + now, meshIn := x.meshIn + (bs.length - now) }).save dstPol dstOff bs

/-- MSEND (R70). -/
def execMsend (p : Pol) (c : Slot) (bytes src : Nat) (dstPol : Pol) (dstOff : Nat) (s : State) : Host.Outcome State Fault Refusal :=
  .next (s.slot p 2 0x27 c true (fun _ => ceilDiv bytes 256 + 4) fun quiet s =>
    let x := s.polder p
    guards [(7, decide (bytes ≤ 65536)), (1, x.inLocal c.unit src bytes), (1, decide (dstOff + bytes ≤ reservoirBytes)),
            (8, quiet || decide (x.outq + bytes ≤ meshQueue))] fun _ =>
      if quiet then s else s.meshSend p (x.load (lsAddr c.unit src) bytes) bytes dstPol dstOff)

end Sys2Proof.Machine
end

