-- ==== Sys2Proof/Machine/Arrays.lean ====
section
/-! DEFINITION. The projection arrays (R71, R98, R146, R147, R167, R173). -/

namespace Sys2Proof.Machine

/-- The rotation port of an array (R74). -/
def Polder.arrayShare (x : Polder) (a : Nat) : Nat := x.share (a % 2)

/-- An array's active tile register (R76). -/
def Polder.activeTile (x : Polder) (a : Nat) : Nat := Map.getD x.active a 0 % 2

/-- The key of a tile register of an array. -/
def tileKey (a t : Nat) : Nat := a * 2 + t % 2

/-- WLOAD (R71, R98): a tile from a reservoir region into the idle tile register, which takes its format. -/
def execWload (p : Pol) (c : Slot) (bytes src : Nat) (s : State) : Host.Outcome State Fault Refusal :=
  .next (s.slot p 3 0x30 c false (fun x => ceilDiv bytes (256 * x.arrayShare c.unit)) fun _ s =>
    let x := s.polder p
    guards [(7, decide (bytes ≤ 131072)), (1, x.owns (unitKey 3 c.unit) src bytes)] fun _ =>
      (s.setPolder p { x with tileFmt := Map.put x.tileFmt (tileKey c.unit (1 - x.activeTile c.unit)) c.fin }).save p
        (tileBuf c.unit (1 - x.activeTile c.unit)) (x.load src bytes))

/-- SWAP (R71). -/
def execSwap (p : Pol) (c : Slot) (s : State) : Host.Outcome State Fault Refusal :=
  .next (s.slot p 3 0x35 c false (fun _ => 1) fun _ s =>
    let x := s.polder p
    .ok (s.setPolder p { x with active := Map.put x.active c.unit (1 - x.activeTile c.unit) }))

/-- The rate class of a format (R98): 2 for 16-bit, 0 for 4-bit, 1 otherwise. -/
def rateOf (fmt : Nat) : Nat := if fmt = 1 ∨ fmt = 2 then 2 else if fmt = 7 ∨ fmt = 10 ∨ fmt = 13 then 0 else 1

/-- The steps of an MM (R71, R98). -/
def mmSteps (r fmtA fmtW : Nat) : Nat :=
  let k := max (rateOf fmtA) (rateOf fmtW)
  if k = 2 then 4 * r else if k = 0 then ceilDiv r 2 else r

/-- The address of an accumulator word (R76): 1 024 rows of 256 columns. -/
def accWord (a row col : Nat) : Nat := accBuf a + (row * 256 + col) * 4

/-- The format of an array's active tile (R98). -/
def Polder.activeFmt (x : Polder) (a : Nat) : Nat := Map.getD x.tileFmt (tileKey a (x.activeTile a)) 0

/-- MM (R98, R103, R146): each row's 256 inputs through the active tile, whose rows stand input by input; inputs and columns
past `ins` and `cols` read as zero. A slot that names rows already holding sums adds to them, any other starts them. DEDUCED, log entry 26. -/
def execMm (p : Pol) (c : Slot) (r src accRow ins cols : Nat) (add : Bool) (s : State) : Host.Outcome State Fault Refusal :=
  .next (s.slot p 3 0x31 c false (fun x => mmSteps r c.fin (x.activeFmt c.unit)) fun _ s =>
    let x := s.polder p
    let fmtW := x.activeFmt c.unit
    let rowBytes := fmtBytes c.fin ins
    let colBytes := fmtBytes fmtW cols
    guards [(7, decide (r ≤ 1024)), (1, decide (accRow + r ≤ 1024)), (1, decide (ins ≤ 256) && decide (cols ≤ 256)),
            (1, x.owns (unitKey 3 c.unit) src (r * rowBytes))] fun _ =>
      let tile := (List.range ins).map fun i =>
        decodeVec fmtW cols 8 (x.load (tileBuf c.unit (x.activeTile c.unit) + i * colBytes) colBytes)
      let row (s : State) (i : Nat) : State :=
        let av := decodeVec c.fin ins 8 (x.load (src + i * rowBytes) rowBytes)
        let out := (List.range cols).map fun j =>
          let v := productTree ((List.range ins).map fun k => (av.getD k .nan).mul ((tile.getD k []).getD j .nan))
          if add then fadd (x.word (accWord c.unit (accRow + i) j)) v else v
        s.save p (accWord c.unit (accRow + i) 0) (wordBytes out)
      (List.range r).foldl row s)

/-- Elements that `n` bytes hold in a format (R88, R90, R93). -/
def elemsIn (fmt n : Nat) : Nat :=
  if fmt = 15 then n / 57 * 64
  else if 8 ≤ fmt ∧ fmt ≤ 11 then n / (4 * elemBits fmt + 1) * 32
  else n * 8 / elemBits fmt

/-- The bytes that an output slot forms from the accumulator (R71, R96): elements row by row, `cols` of each row. -/
def outBytes (x : Polder) (a bytes accOff cols fmt : Nat) (rz : Bool) : List Nat × Nat :=
  let n := elemsIn fmt bytes
  let at_ (i : Nat) : Nat := accBuf a + accOff + (if cols = 0 then 4 * i else i / cols * 1024 + i % cols * 4)
  encodeVec fmt (bytes / 57) rz ((List.range n).map fun i => ofF32 (x.word (at_ i)))

/-- Whether the accumulator holds what an output slot reads. -/
def outFits (bytes accOff cols fmt : Nat) : Bool :=
  let n := elemsIn fmt bytes
  decide (cols ≤ 256) &&
    (if cols = 0 then decide (accOff + 4 * n ≤ 2 ^ 20) else decide (n = 0) || decide (accOff + (n - 1) / cols * 1024 + 4 * cols ≤ 2 ^ 20))

/-- The sectors that an output path forms go to the write staging of bank units, 2 KiB to each from `unit` on, each with its check word
(R167). -/
def Polder.staged (x : Polder) (unit : Nat) (bs : List Nat) : Polder :=
  let put (m : Map Nat) (b : Nat × Nat) : Map Nat := Map.putD m (writeBuf (unit + b.2 / 2048) + b.2 % 2048) (b.1 % 256) 0
  let word (m : Map Nat) (b : Nat × Nat) : Map Nat := Map.put m ((unit + b.2 / 32) * 32 + b.2 % 32) b.1
  { x with buf := bs.zipIdx.foldl put x.buf, carried := (sectorWords bs).zipIdx.foldl word x.carried }

/-- OUTF (R71, R167): through the output path to the write staging of bank units, 2 KiB to each from `dstUnit` on, each sector with its
CRC-32C. DEDUCED, log entry 27. -/
def execOutf (p : Pol) (c : Slot) (bytes accOff cols : Nat) (dstPol : Pol) (dstUnit : Nat) (s : State) :
    Host.Outcome State Fault Refusal :=
  .next (s.slot p 3 0x32 c true (fun _ => ceilDiv bytes 256 + 8) fun quiet s =>
    guards [(7, decide (bytes ≤ 1046528)), (1, outFits bytes accOff cols c.fout), (1, decide (dstUnit + ceilDiv bytes 2048 ≤ 1024))] fun _ =>
      if quiet then s
      else
        let r := outBytes (s.polder p) c.unit bytes accOff cols c.fout c.rz
        (s.setPolder dstPol ((s.polder dstPol).staged dstUnit r.1)).exceptions p r.2)

/-- OUTR (R71): to a reservoir region. -/
def execOutr (p : Pol) (c : Slot) (bytes accOff cols dst : Nat) (s : State) : Host.Outcome State Fault Refusal :=
  .next (s.slot p 3 0x33 c false (fun x => ceilDiv bytes (256 * x.arrayShare c.unit) + 4) fun _ s =>
    let x := s.polder p
    guards [(7, decide (bytes ≤ 4092 * 256 * x.arrayShare c.unit)), (1, outFits bytes accOff cols c.fout),
            (1, x.owns (unitKey 3 c.unit) dst bytes)] fun _ =>
      let r := outBytes x c.unit bytes accOff cols c.fout c.rz
      (s.save p dst r.1).exceptions p r.2)

/-- A probability rounded to the request's precision, BF16 or FP8 E4M3, as an FP32 word (R173). -/
def probRound (bf : Bool) (rz : Bool) (x : Nat) : Nat :=
  if bf then bf16.encode rz (ofF32 x) * 65536 else toF32 (e4m3.decode (e4m3.encode rz (ofF32 x)))

/-- A probability's code in the tile. -/
def probCode (bf : Bool) (x : Nat) : List Nat :=
  if bf then leBytes 2 (x / 65536) else [e4m3.encode false (ofF32 x)]

/-- BSOFT (R108, R173): on each row of the score block: the scale, the causal mask, the online step, the probabilities into the idle
tile register input by input, which takes their format, and the row's column of the output region times alpha. A sweep's first block
starts each row from m minus infinity, l 0 and o 0. DEDUCED, log entry 143. -/
def execBsoft (p : Pol) (c : Slot) (scores state out d : Nat) (scale : W32) (keyBase : Nat) (queryPos : List Nat) (bf16 first : Bool)
    (s : State) : Host.Outcome State Fault Refusal :=
  .next (s.slot p 3 0x34 c false (fun _ => 256) fun _ s =>
    let x := s.polder p
    guards [(1, decide (scores + 262144 ≤ 2 ^ 20)), (1, decide (state + 2048 ≤ 2 ^ 20)), (1, decide (out + d * 1024 ≤ 2 ^ 20))] fun _ =>
      let base := accBuf c.unit
      let w := if bf16 then 2 else 1
      let idle := 1 - x.activeTile c.unit
      let row (s : State) (j : Nat) : State :=
        let sc := (x.words (base + scores + j * 1024) 256).zipIdx.map fun e =>
          if keyBase + e.2 > nth queryPos j then negInf else fmul e.1 scale.toNat
        let m := if first then negInf else x.word (base + state + 8 * j)
        let l := if first then 0 else x.word (base + state + 8 * j + 4)
        let r := softStep (probRound bf16 c.rz) m l sc
        let s := s.save p (base + state + 8 * j) (wordBytes [r.1, r.2.1])
        let s := r.2.2.2.zipIdx.foldl (fun s e => s.save p (tileBuf c.unit idle + (e.2 * 256 + j) * w) (probCode bf16 e.1)) s
        (List.range d).foldl (fun s i =>
          let a := base + out + i * 1024 + j * 4
          s.save p a (wordBytes [fmul (if first then 0 else x.word a) r.2.2.1])) s
      (List.range 256).foldl row (s.setPolder p { x with tileFmt := Map.put x.tileFmt (tileKey c.unit idle) (if bf16 then 1 else 3) }))

end Sys2Proof.Machine
end

