-- ==== Sys2Proof/Machine/Control.lean ====
section
/-! DEFINITION. Control slots, gates, passes and program states (R48 to R61, R75, R84), and the measurement of programs (R408, R409). -/

namespace Sys2Proof.Machine

/-- The places of the measurement entries (R408): boot ROM, bundle, Tidegauge image, a polder's running and pending program, a binding's weight set. -/
def measRom : Nat := 1
def measBundle : Nat := 2
def measGauge : Nat := 3
def measRunning (p : Nat) : Nat := 4 + 2 * p
def measPending (p : Nat) : Nat := 5 + 2 * p
def measWeights (b : Nat) : Nat := 20 + b

/-- Change a measurement entry: the count rises (R409). -/
def State.measure (s : State) (place : Nat) (e : Option Meas) : State :=
  let m := match e with
    | some e => Map.put s.sec.meas place e
    | none => Map.del s.sec.meas place
  { s with sec := { s.sec with meas := m, count := s.sec.count + 1 } }

/-- The measurement of a tide program (R408, R409): kind 04h running, 05h pending. The spec gives the image no layout in bytes: its digest is that of
the identifier and the slots. DESIGN CHOICE, log entry 12. -/
def programMeas (s : State) (kind p : Nat) (im : Image) : Meas :=
  ⟨kind, p, im.ident, s.time, (Config.digest (im.ident :: im.slots.flatMap fun u => u.1 :: u.2.map fun x => x.word.toNat)).toNat⟩

/-- NOP (R75): one step. -/
def execNop (p : Pol) (cls : Fin 6) (c : Slot) (s : State) : Host.Outcome State Fault Refusal :=
  .next (s.slot p cls 0x70 c false (fun _ => 1) fun _ s => .ok s)

/-- WAITONLY (R75): one step, its wait and its signal. -/
def execWaitonly (p : Pol) (cls : Fin 6) (c : Slot) (s : State) : Host.Outcome State Fault Refusal :=
  .next (s.slot p cls 0x71 c false (fun _ => 1) fun _ s => .ok s)

/-- The count of a REPEAT: the immediate, or the field of the lane's ring entry that begins at byte `count` of R125: the page
count, the last-valid field, else the chunk count. DEDUCED, log entry 33. -/
def repeatCount (s : State) (p : Nat) (c : Slot) (count : Nat) (fromEntry : Bool) : Nat :=
  if !fromEntry then count
  else match (s.polder p).laneAt s.time c.lane with
    | some a => if count = 32 then a.entry.pageCount else if count = 36 then a.entry.lastValid else a.entry.chunkCount
    | none => 0

/-- The bound that the header declares for a REPEAT (R61, R121). -/
def Polder.repeatBound (x : Polder) (key idx : Nat) : Nat :=
  match x.image with
  | some im => match im.repeatBounds.find? fun b => decide (b.1 = key) && decide (b.2.1 = idx) with
    | some b => b.2.2
    | none => 0
  | none => 0

/-- REPEAT (R61): the following `len` slots run as often as counted, each run for two steps; a count above the declared bound, a body
of none or more than 255 slots, or a third level is fault 06h. DEDUCED, log entry 33. -/
def execRepeatSlot (p : Pol) (cls : Fin 6) (c : Slot) (len count : Nat) (fromEntry : Bool) (s : State) :
    Host.Outcome State Fault Refusal :=
  let n := repeatCount s p c count fromEntry
  .next (s.slot p cls 0x72 c false (fun _ => if n = 0 then 0 else 2) fun _ s =>
    let x := s.polder p
    let key := unitKey cls c.unit
    let inside := Map.getD x.repeats key []
    guards [(6, decide (n ≤ x.repeatBound key c.idx)), (6, decide (1 ≤ len) && decide (len ≤ 255) && decide (inside.length < 2))] fun _ =>
      s.setPolder p { x with repeats := Map.put x.repeats key ((c.idx + 1, c.idx + len, n) :: inside) })

/-- END (R75): four steps; the unit's pass is over (R50). -/
def execEndSlot (p : Pol) (cls : Fin 6) (c : Slot) (s : State) : Host.Outcome State Fault Refusal :=
  .next (s.slot p cls 0x73 c false (fun _ => 4) fun _ s =>
    let x := s.polder p
    .ok (s.setPolder p { x with ended := insertNat x.ended (unitKey cls c.unit) }))

/-- Whether an external gate is signalled on an event (R54). -/
def Polder.awaits (x : Polder) (g : Nat) (e : GateEvent) : Bool :=
  match x.image with
  | some im => im.gates.any fun b => decide (b.1 = g) && b.2.contains e
  | none => false

/-- EXTERNAL_GATE_SIGNAL (R52, R54): the hub signals an external gate of a program that runs, or stops, on an event named for the
gate. DEDUCED, log entry 30. -/
def State.externalSignal (s : State) (p gate n : Nat) (e : GateEvent) : State :=
  let x := s.polder p
  if (x.prog = .running ∨ x.prog = .stopping) ∧ x.awaits gate e then
    match x.signal gate n with
    | some x => s.setPolder p x
    | none => s.contractFault p 2 gate
  else s
def execExternalGateSignal (p : Pol) (gate : Fin 4096) (count : Nat) (event : GateEvent) (s : State) : Host.Outcome State Fault Refusal :=
  .next (s.externalSignal p gate count event)

/-- Mark a lane LATE (R56): it is counted and raised. -/
def State.markLate (s : State) (p l : Nat) : State :=
  let x := s.polder p
  match x.laneAt s.time l with
  | none => s
  | some a => ((s.setPolder p { x with lanes := Map.put x.lanes l { a with late := true } }).bump 0x2B3403).arrive (polderSource p 7)

/-- Void every lane of a request that is not LATE and take its entries off the rings; what remains to report are the LATE
lanes (R156, R137). -/
def State.voidRest (s : State) (tag : Nat) : State :=
  let each (_ : Nat) (x : Polder) : Polder :=
    { x with lanes := Map.each x.lanes fun _ a => if a.entry.tag = tag ∧ !a.late then { a with voided := true } else a,
             rings := Map.each x.rings fun _ es => es.filter fun e => e.tag != tag,
             busyAt := if x.rings.any fun r => r.2.any fun e => e.tag == tag then s.time else x.busyAt }
  let ps := Map.each s.polders each
  let left := (ps.map fun e => (e.2.lanes.filter fun l => decide (l.2.entry.tag = tag) && l.2.late && !l.2.voided && !l.2.reported).length).sum
  let s := { s with polders := ps }
  match Map.find s.reqs tag with
  | some q => s.setReq tag { q with outstanding := left }
  | none => s

/-- The interval of a deadline of the running image in nanoseconds of device time (R55). -/
def Polder.deadlineNs (x : Polder) (k : Nat) : Nat := match x.image with | some im => 100 * nth im.deadlines (k - 1) | none => 0

/-- DEADLINE_EXPIRY (R55, R56): the wait is met, its gate absorbs what is still to come, and the slot's lane, or every bound lane of
a lane 0 slot, is LATE. -/
def State.deadlineExpiry (s : State) (p cls : Nat) (c : Slot) : State :=
  let x := s.polder p
  let key := unitKey cls c.unit
  match Map.find x.waits key with
  | none => s
  | some w =>
    if w.idx ≠ c.idx ∨ w.expired ∨ w.deadline = 0 ∨ !x.external w.gate ∨ x.prog ≠ .running ∨ s.time < w.began + x.deadlineNs w.deadline then s
    else
      let have_ := Map.getD x.gates w.gate 0
      let x := { x with waits := Map.put x.waits key { w with expired := true }, gates := Map.putD x.gates w.gate (have_ - w.count) 0,
                        absorb := Map.putD x.absorb w.gate (Map.getD x.absorb w.gate 0 + (w.count - have_)) 0 }
      let lanes := if w.lane = 0 then x.bound s.time else [w.lane]
      let s := lanes.foldl (fun s l => s.markLate p l) (s.setPolder p x)
      (lanes.filterMap fun l => match x.laneAt s.time l with
        | some a => if a.voided then none else some a.entry.tag
        | none => none).foldl State.voidRest s
def execDeadlineExpiry (p : Pol) (cls : Fin 6) (c : Slot) (s : State) : Host.Outcome State Fault Refusal :=
  .next (s.deadlineExpiry p cls c)

/-- STALL_LIMIT_EXPIRY (R57): a wait on an internal gate outlasts the stall limit. -/
def State.stallExpiry (s : State) (p cls : Nat) (c : Slot) : State :=
  let x := s.polder p
  match Map.find x.waits (unitKey cls c.unit) with
  | some w => if x.prog = .running ∧ w.idx = c.idx ∧ !x.external w.gate then s.contractFault p 4 (slotLoc cls c) else s
  | none => s
def execStallLimitExpiry (p : Pol) (cls : Fin 6) (c : Slot) (s : State) : Host.Outcome State Fault Refusal :=
  .next (s.stallExpiry p cls c)

/-- Every unit at slot 0 with every gate at zero, to begin when the pass barrier ends (R50, R52, R84). -/
def Polder.startPass (x : Polder) (barrier : Nat) : Polder :=
  { x with gates := [], absorb := [], waits := [], ended := [], repeats := [], computing := [], ptr := [], until_ := [], heldStarts := [],
           barrierUntil := barrier, closed := false }

/-- The end of the 16 steps of a pass barrier that begins now (R43, R50). -/
def State.barrierEnd (s : State) (p : Nat) : Nat := s.time + s.stepNs p 16

/-- Change a polder's sleep state (R401, R514 k = 9). -/
def State.sleepTo (s : State) (p : Nat) (x : Polder) (st : SleepState) : State :=
  (s.setPolder p { x with sleep := st }).arrive (polderSource p 9)

/-- Gate a polder's power (R400): its reservoir, local stores and slot memories are lost; the inlet holds its ring entries.
DEDUCED, log entry 90. -/
def State.goDry (s : State) (p : Nat) : State :=
  let x := (s.polder p).unbind s.time
  s.sleepTo p { x with damping := false, drying := false, gates := [], absorb := [], waits := [], ended := [],
                       computing := [], repeats := [], ptr := [], until_ := [], heldStarts := [], buf := [], active := [], tileFmt := [],
                       carried := [], outq := 0, meshIn := 0, xq := [], xtab := [] } .dry

/-- A polder at a barrier, or one that does not run, goes damp where that waits, and on to dry (R401): the quiesce that dry needs
is applied to a polder that runs. -/
def State.barrier (s : State) (p : Nat) : State :=
  let x := s.polder p
  let s := if x.damping then s.sleepTo p { x with damping := false } .damp else s
  let x := s.polder p
  if !x.drying ∨ x.sleep ≠ .damp then s
  else if x.prog = .running then s.setPolder p { x with closed := true, closeSleep := true }
  else s.goDry p

/-- PASS_CLOSE (R50, R78, R84): when every unit has ended, the checks, then the next pass or the idle time up to a boundary.
DEDUCED, log entry 36. -/
def State.passClose (s : State) (p : Nat) : State :=
  let x := s.polder p
  match x.image with
  | none => s
  | some im =>
    let units := (im.slots.filter fun u => !u.2.isEmpty).map Prod.fst
    if x.prog ≠ .running ∨ x.closed ∨ !(units.all x.ended.contains) then s
    else
      let open_ := (x.gates.filter fun g => decide (0 < g.2)).map Prod.fst
      let lanes := x.bound s.time
      if open_ ≠ [] ∨ lanes ≠ [] then
        let s := if open_ = [] then s else s.contractFault p 3 (open_.headD 0)
        if lanes = [] then s else s.contractFault p 0x0D (lanes.headD 0)
      else if x.pendingImage.isSome || x.quiesceCtl || x.quiesceSleep then
        let y := { x.startPass 0 with closed := true, closeCtl := x.quiesceCtl, closeSleep := x.quiesceSleep, quiesceCtl := false, quiesceSleep := false }
        (s.setPolder p y).barrier p
      else (s.setPolder p (x.startPass (s.barrierEnd p))).barrier p
def execPassClose (p : Pol) (s : State) : Host.Outcome State Fault Refusal := .next (s.passClose p)

/-- POLDER_STOPPED (R84): the gates and lanes are released. -/
def State.polderStopped (s : State) (p : Nat) : State :=
  let x := s.polder p
  if x.prog ≠ .stopping then s
  else ((s.setPolder p { (x.unbind s.time).startPass 0 with prog := .stopped }).arrive (polderSource p 1)).barrier p
def execPolderStopped (p : Pol) (s : State) : Host.Outcome State Fault Refusal := .next (s.polderStopped p)

/-- Install a pending image (R84, R409). -/
def State.install (s : State) (p : Nat) : State :=
  let x := s.polder p
  match x.pendingImage with
  | none => s
  | some im =>
    ((s.setPolder p { x with image := some im, pendingImage := none }).measure (measRunning p) (some (programMeas s 4 p im))).measure
      (measPending p) none

/-- What a tide boundary does to a polder's program (R49, R84). -/
def State.boundaryAt (s : State) (p : Nat) : State :=
  let x := s.polder p
  match x.prog with
  | .loaded =>
    if x.sleep = .wet ∧ !x.hold ∧ !x.down then
      (s.setPolder p { (x.unbind s.time).startPass (s.barrierEnd p) with prog := .running }).arrive (polderSource p 1)
    else s
  | .running =>
    if !x.closed then s
    else
      let s := s.install p
      let x := s.polder p
      if x.closeCtl ∨ x.closeSleep then
        ((s.setPolder p { x with prog := .loaded, hold := x.hold || x.closeCtl, closeCtl := false, closeSleep := false,
                                 closed := false }).arrive (polderSource p 1)).barrier p
      else s.setPolder p ((x.unbind s.time).startPass (s.barrierEnd p))
  | _ => s

/-- Every polder at a tide boundary. -/
def State.boundaries (s : State) : State := (List.range 8).foldl State.boundaryAt s

/-- Slots that a unit's slot memory holds (R76), by class. -/
def slotMemory (cls : Nat) : Nat := [256, 1024, 4096, 2048, 512, 2048].getD cls 0

/-- Whether no two of a list of (buffer, first byte, bytes) overlap. -/
def disjointRuns : List (Nat × Nat × Nat) → Bool
  | [] => true
  | r :: l => (l.all fun q => decide (q.1 ≠ r.1) || !overlaps r.2.1 r.2.2 q.2.1 q.2.2) && disjointRuns l

/-- The loader's checks in the order of R48: the first refusal reason. -/
def refusalOf (s : State) (im : Image) : Nat :=
  let regionsBad := im.regions.any (fun r => decide (r.1 + r.2.1 > reservoirBytes) || decide (r.1 % 4096 ≠ 0) || decide (r.2.1 % 4096 ≠ 0)) ||
    decide (im.regions.length > 256) || !disjointRuns (im.regions.map fun r => (0, r.1, r.2.1)) ||
    im.lsRegions.any (fun r => decide (r.1 ≥ 150) || decide (r.2.1 + r.2.2 > 262144) ||
      decide (16 < (im.lsRegions.filter fun q => decide (q.1 = r.1)).length)) || !disjointRuns im.lsRegions
  let rotationBad := decide (im.rotation.length ≠ 16) || im.rotation.any (fun r => decide (r > 4)) ||
    !([0, 1, 2, 3, 4].all im.rotation.contains)
  if im.edition ≠ 3 then 1
  else if im.concurrency > s.obj 0x2B0100 then 2
  else if im.slots.any fun u => decide (u.2.length > slotMemory (u.1 / 4096)) || decide (unitCount (u.1 / 4096) ≤ u.1 % 4096) then 3
  else if regionsBad then 4
  else if rotationBad then 5
  else if im.slots.any fun u => u.2.any fun x => slotDeadlineBad im x.word then 6
  else if im.reservedSet || im.slots.any fun u => u.2.any fun x => slotReserved (u.1 / 4096) x.word then 7
  else if im.slots.any fun u => u.2.any fun x => slotOver im (u.1 % 4096) x then 8
  else 0

/-- IMAGE_LOAD (R48, R84). DEDUCED, log entry 34. DEDUCED, log entry 35. -/
def State.imageLoad (s : State) (p : Nat) (im : Image) : State :=
  let x := s.polder p
  let r := refusalOf s im
  if r ≠ 0 then s.setPolder p { x with refusal := r }
  else match x.prog with
    | .empty => (s.setPolder p { x with prog := .loaded, image := some im }).measure (measRunning p) (some (programMeas s 4 p im))
        |>.arrive (polderSource p 1)
    | .loaded => (s.setPolder p { x with image := some im, hold := false }).measure (measRunning p) (some (programMeas s 4 p im))
    | .running => (s.setPolder p { x with pendingImage := some im }).measure (measPending p) (some (programMeas s 5 p im))
    | _ => s
def execImageLoad (p : Pol) (im : Image) (s : State) : Host.Outcome State Fault Refusal := .next (s.imageLoad p im)

/-- Control 01h of a program record (R84): none when the write is refused. -/
def State.quiesce (s : State) (p : Nat) : Option State :=
  let x := s.polder p
  match x.prog with
  | .running => some (s.setPolder p { x with quiesceCtl := true })
  | .loaded => some (s.setPolder p { x with hold := true })
  | _ => none
/-- QUIESCE (R84). -/
def execQuiesce (p : Pol) (s : State) : Host.Outcome State Fault Refusal := .next ((s.quiesce p).getD s)

/-- Control 02h of a program record (R84). -/
def State.clearStopped (s : State) (p : Nat) : Option State :=
  let x := s.polder p
  if x.prog ≠ .stopped then none
  else
    let s := s.setPolder p { x with hold := false, recorded := false, quiesceCtl := false, quiesceSleep := false, closeCtl := false, closeSleep := false, closed := false,
                                    prog := if x.pendingImage.isSome then .loaded else .empty,
                                    image := if x.pendingImage.isSome then x.image else none }
    let s := if x.pendingImage.isSome then s.install p else s.measure (measRunning p) none
    some (s.arrive (polderSource p 1))
/-- CLEAR_STOPPED (R84). -/
def execClearStopped (p : Pol) (s : State) : Host.Outcome State Fault Refusal := .next ((s.clearStopped p).getD s)

/-- Control 03h of a program record (R84). -/
def State.resume (s : State) (p : Nat) : Option State :=
  let x := s.polder p
  if x.prog = .loaded ∧ x.hold then some (s.setPolder p { x with hold := false }) else none
/-- RESUME (R84). -/
def execResume (p : Pol) (s : State) : Host.Outcome State Fault Refusal := .next ((s.resume p).getD s)

/-- The 128 bytes of a ring entry (R125); a restore entry's fields stand as R254 lays them out. The region offsets are those that the
image declares for the lane. -/
def entryBytes (e : RingEntry) : List Nat :=
  let tag := e.tag % 2 ^ 17 + e.gen % 2 ^ 15 * 2 ^ 17
  let bytes := leBytes 4 tag ++
    (if e.kind = 0xE1 then
      [0xE1, b2n e.lastHere, e.firstChunk, e.chunkCount] ++ leBytes 4 e.attachFrame ++ leBytes 4 e.pageCount ++
        leBytes 2 e.layer ++ leBytes 2 e.group ++ leBytes 4 e.at_.header ++ leBytes 4 e.at_.staging
    else
      [e.kind, e.bucket % 16 + 16 * b2n e.home + 32 * b2n e.replay + 64 * b2n e.attach, 1 + 16 * (e.oFmt % 16), e.group % 256] ++
        leBytes 8 e.seqId ++ leBytes 2 e.layer ++ [e.homePolder % 8, e.participants % 256] ++ leBytes 4 e.scale ++ leBytes 4 e.limit ++
        leBytes 2 e.firstChunk ++ leBytes 2 e.chunkCount ++ leBytes 4 e.pageCount ++ [e.lastValid % 256, b2n e.lastHere, 0, 0] ++
        leBytes 4 e.at_.pages ++ leBytes 4 e.at_.query ++ leBytes 4 e.at_.partials ++ leBytes 4 (e.attachFrame % 2 ^ 24 + e.attachSlot % 64 * 2 ^ 24))
  bytes ++ List.replicate (128 - bytes.length) 0

/-- Whether the unit is the polder's admitting core (R58). -/
def Polder.admits (x : Polder) (core : Nat) : Bool :=
  match x.image with
  | some im => decide (im.admitCore = core)
  | none => false

/-- Bytes arrive in a declared region of a polder (R54, R123): the external gates that wait for it are signalled. -/
def State.arrivesAt (s : State) (p region : Nat) (bs : List Nat) : State :=
  if bs = [] then s
  else match (s.polder p).image with
    | none => s
    | some im => ((im.gates.filter fun g => g.2.contains (.mesh region)).map Prod.fst).foldl (fun s g => s.externalSignal p g 1 (.mesh region))
        (s.save p region bs)

/-- What the inlet delivers with an entry whose lane is bound (R123, R254): its page list, its query vectors and its write's body, each
into the region that the image declares for the lane; with a restore entry the page's header. DEDUCED, log entry 141. -/
def State.deliverEntry (s : State) (p : Nat) (e : RingEntry) : State :=
  ((s.arrivesAt p e.at_.pages (e.frames.flatMap (leBytes 4))).arrivesAt p e.at_.query e.query).arrivesAt p
    (if e.kind = 0xE1 then e.at_.header else e.at_.body) e.body

/-- What the image declares for a lane (R123). -/
def Polder.laneIn (x : Polder) (l : Nat) : Option LaneIn :=
  match x.image with
  | some im => (im.lanesIn.find? fun e => decide (e.1 = l)).map Prod.snd
  | none => none

/-- ADMIT (R58, R60): entries of a ring are bound in order to the lanes of a range, and read into the core's local store. Of a range of
fewer lanes than n it takes as many as there are lanes, and the rest stay on the ring; on another core than the admitting one it binds
none. DESIGN CHOICE, log entry 146. -/
def execAdmitSlot (p : Pol) (c : Slot) (ring : Fin 16) (firstLane count n dst : Nat) (s : State) : Host.Outcome State Fault Refusal :=
  let waiting := if (s.polder p).admits c.unit then Map.getD (s.polder p).rings ring [] else []
  .next (s.slot p 2 0x28 c false (fun _ => if waiting = [] then 8 else 8 + 4 * n) fun _ s =>
    let x := s.polder p
    let lanes := (List.range count).map (firstLane + ·)
    let es := (waiting.take (min n (min count 31))).zipIdx.map fun e => { e.1 with at_ := (x.laneIn (firstLane + e.2)).getD {} }
    guards [(7, decide (n ≤ 31)), (1, x.inLocal c.unit dst (128 * n)), (1, decide (1 ≤ firstLane) && decide (firstLane + count ≤ 32)),
            (0x0A, lanes.all fun l => (x.laneAt s.time l).isNone)] fun _ =>
      let bind (m : Map Lane) (b : RingEntry × Nat) : Map Lane := Map.put m (firstLane + b.2) { entry := b.1 }
      let x := { x with lanes := es.zipIdx.foldl bind x.lanes, rings := Map.put x.rings ring (waiting.drop es.length) }
      let s := s.setPolder p (x.save (lsAddr c.unit dst) (es.flatMap entryBytes))
      es.zipIdx.foldl (fun s e => if (x.laneIn (firstLane + e.2)).isSome then s.deliverEntry p e.1 else s) s)

/-- What a lane reports to its request (R31, R32, R137, R138, R156, R348, R349): a void lane nothing, a parity or mesh failure raises its source; its result bytes are the request's where the
lane answers for its group, and a polder partial that another merges is not. -/
def State.laneReport (s : State) (p : Nat) (a : Lane) (status detail : Nat) (bytes : List Nat) : State :=
  match Map.find s.reqs a.entry.tag with
  | none => s
  | some q =>
    if a.voided ∨ q.phase ≠ .running ∨ q.gen ≠ a.entry.gen then s
    else
      let q := { q with outstanding := q.outstanding - 1,
                        written := if a.wrote then insertNat q.written a.entry.attachFrame else q.written }
      let q :=
        if a.late then { q with reports := (1, p) :: q.reports }
        else if a.tainted then
          if a.checkDetail = 0x10 then { q with reports := (0x10, 0) :: q.reports }
          else if a.checkDetail ≠ 0 then { q with reports := (0x0B, a.checkDetail) :: q.reports }
          else { q with tainted := a.frames.foldl insertNat q.tainted }
        else { q with reports := (status, detail) :: q.reports,
                      results := if bytes = [] ∨ !a.entry.answers then q.results
                        else Map.put q.results (a.entry.group * 8 + p) (Map.getD q.results (a.entry.group * 8 + p) [] ++ bytes) }
      let s := if status = 0x0B ∧ detail = 1 ∧ !a.quiet then s.bump (recKey 0x2C00 p 6) else s
      let s := if status = 0x0B ∧ detail = 4 ∧ !a.quiet then (s.bump (recKey 0x2C00 p 5)).arrive (polderSource p 5) else s
      (s.setReq a.entry.tag q).settle a.entry.tag

/-- DONE (R63, R62): the lane reports once and is free when the six steps have run; a second DONE in a binding is fault 0Ch. -/
def execDone (p : Pol) (c : Slot) (status detail at_ bytes : Nat) (s : State) : Host.Outcome State Fault Refusal :=
  .next (s.slot p 2 0x29 c true (fun _ => 6) fun _ s =>
    let x := s.polder p
    match x.laneAt s.time c.lane with
    | none => .ok s
    | some a =>
      guards [(0x0C, !a.reported), (1, decide (bytes = 0) || x.inLocal c.unit at_ bytes)] fun _ =>
        let out := x.load (lsAddr c.unit at_) bytes
        let x := { x with lanes := Map.put x.lanes c.lane { a with reported := true, freeAt := s.time + s.stepNs p 6 } }
        (s.setPolder p x).laneReport p a status detail out)

end Sys2Proof.Machine
end

