-- ==== Sys2Proof/Machine/Conduits.lean ====
section
/-! DEFINITION. Conduits (R300 to R309): sending, retrying, acknowledging and placing numbered messages, and the residence of records (R304, R310). -/

namespace Sys2Proof.Machine

/-- The difference of two 32-bit counts (R305, R306). -/
def gap (a b : Nat) : Nat := (a % 2 ^ 32 + 2 ^ 32 - b % 2 ^ 32) % 2 ^ 32

/-- Whether a cumulative count is at or ahead of another, modulo 2 to the 32. -/
def ahead (a b : Nat) : Bool := decide (gap a b < 2 ^ 31)

/-- Conduit units of a payload (R306). -/
def conduitUnits (len : Nat) : Nat := (len + 4095) / 4096

/-- The class of a conduit's message (R329): partner fetches travel in class 2. -/
def Conduit.cls (x : Conduit) (op : Nat) : Nat := if op = 0x0B ∨ op = 0x0C then 2 else x.clsKey % 8
/-- The key slot of a conduit (R423). -/
def Conduit.slot (x : Conduit) : Nat := x.clsKey / 2 ^ 16 % 4096

/-- The 32-byte header of a conduit's message (R301), and the message. -/
def Conduit.header (x : Conduit) (c seq word : Nat) : List Nat :=
  leBytes 4 seq ++ leBytes 4 x.rxPlaced ++ leBytes 4 x.rxMap ++ leBytes 4 x.rxGrant ++ leBytes 4 (c % 2 ^ 20) ++ leBytes 2 x.gen ++ [0, 0] ++ leBytes 8 word

/-- Source one CONDUIT message (R301): its identifier, the bytes after its header, and the sequence that it names. -/
def State.sendConduit (s : State) (c op msg : Nat) (body : List Nat) (what seq word : Nat) : State :=
  let x := s.conduit c
  let tenant := if 4 ≤ op ∧ op ≤ 8 then some (tenantOf what) else none
  let s := { s with out := .conduit c op seq word :: s.out }
  s.sourceMessage 5 (x.cls op) x.node 15 x.slot msg (x.header c seq word ++ body) tenant (2 ^ 20 + c) (x.peer + op * 2 ^ 20)

/-- Source an unnumbered message: OPEN, OPEN_ACK or ACK (R302). -/
def State.sendPlain (s : State) (c op word : Nat) : State :=
  let r := s.drawId (s.conduit c).slot
  r.1.sendConduit c op r.2 [] 0 0 word

/-- The operation words (R302): OPEN's window and initial grant, OPEN_ACK's code, BUCKET_DONE's bucket and span. -/
def openWord (window grant : Nat) : Nat := window % 65536 + 2 ^ 32 * (grant % 2 ^ 32)
def ackWord (code : Nat) : Nat := code % 256
def bucketWord (bucket span : Nat) : Nat := bucket % 65536 + 65536 * (span % 256)

/-- Payload bytes of a numbered conduit message (R301, R306). -/
def SentMsg.bytes (m : SentMsg) : Nat := 32 + m.body.length

/-- Acknowledge what a conduit has placed and granted (R307). -/
def State.sendAck (s : State) (c : Nat) : State := s.sendPlain c 3 0

/-- Transmit a numbered message, whole and under its one identifier (R308). `retry` counts the transmission. -/
def State.transmit (s : State) (c seq : Nat) (retry : Bool) : State :=
  let x := s.conduit c
  match Map.find x.unplaced seq with
  | none => s
  | some m =>
    let r := if m.tries = 0 then s.drawId x.slot else (s, m.msg)
    let m := { m with tries := if retry then m.tries + 1 else m.tries, msg := r.2, ports := 0, last := s.time,
                      left := (m.bytes + (if x.slot = 0 then 4095 else 4079)) / (if x.slot = 0 then 4096 else 4080) }
    let s := r.1.setConduit c { x with unplaced := Map.put x.unplaced seq m, use := s.time }
    s.sendConduit c m.op m.msg m.body m.what seq m.word

/-- Send the queued messages that the window and the conduit credit allow (R306), once the record is on-die (R304). -/
def State.pump (s : State) (c : Nat) : State :=
  let x := s.conduit c
  if x.st ≠ .ready ∨ !x.onDie then s
  else
    let one (acc : State × Bool) (i : Nat) : State × Bool :=
      let x := acc.1.conduit c
      let seq := (x.placed + 1 + i) % 2 ^ 32
      match Map.find x.unplaced seq with
      | none => acc
      | some m =>
        let u := conduitUnits m.bytes
        if !acc.2 ∨ m.tries ≠ 0 then acc
        else if gap x.granted x.used < u then (acc.1, false)
        else ((acc.1.setConduit c { x with used := (x.used + u) % 2 ^ 32 }).transmit c seq true, true)
    ((List.range x.window).foldl one (s, true)).1

/-- The records held on-die (R300). -/
def State.onDieRecords (s : State) : Nat := (s.conduits.filter fun e => decide (e.2.st ≠ .closed) && e.2.onDie).length

/-- Conduits that are not CLOSED (2700h.02). -/
def State.openConduits (s : State) : Nat := (s.conduits.filter fun e => decide (e.2.st ≠ .closed)).length

/-- Whether one more conduit can be open (R300): up to 16 384 without a conduit state area. -/
def State.conduitRoom (s : State) : Bool := decide (s.openConduits < 16384) || decide (s.host.conduit.st = 1)

/-- Evict the least recently used record that may go (R304), sealed under the next write serial of its conduit (R425), when the on-die records are all
in use. What its 256 bytes are is open. DESIGN CHOICE, log entry 54. -/
def State.makeRoom (s : State) : State :=
  if s.onDieRecords < 16384 then s
  else
    let idle (k : Nat) (x : Conduit) : Bool := decide (x.st ≠ .closed) && x.onDie && x.unplaced.isEmpty &&
      !s.miss.any fun p => decide (p.kindWord % 2 ^ 20 = k)
    let cand := Map.keep s.conduits idle
    let lru := cand.foldl (fun (a : Option (Nat × Conduit)) e => match a with
      | some b => if e.2.use < b.2.use then some e else a
      | none => some e) none
    match lru with
    | some e => (s.setConduit e.1 { e.2 with onDie := false, writes := e.2.writes + 1 }).work hostLink 1 256
    | none => s

/-- Whether one more record may be held on-die (R300): else a new one lies in the conduit state area. DESIGN CHOICE, log entry 54. -/
def State.roomOnDie (s : State) : Bool := decide (s.onDieRecords < 16384)

/-- Queue a numbered message of a READY conduit that is not closing (R303, R305). -/
def State.convey (s : State) (c op : Nat) (body : List Nat) (what : Nat) (word : Nat := 0) : State :=
  let x := s.conduit c
  if x.st ≠ .ready ∨ x.closing then s
  else
    let m : SentMsg := { op := op, body := body, what := what, word := word }
    let s := s.setConduit c { x with next := (x.next + 1) % 2 ^ 32, unplaced := Map.put x.unplaced x.next m, use := s.time }
    (s.fetchRecord c).pump c

/-- A conduit end that nothing binds: its settings stay (R326), and the write serial of its record. -/
def Conduit.freed (x : Conduit) : Conduit := { node := x.node, clsKey := x.clsKey, window := x.window, grant := x.grant, writes := x.writes }

/-- A closing conduit with nothing outstanding is CLOSED (R303). -/
def State.maybeClose (s : State) (c : Nat) : State :=
  let x := s.conduit c
  if x.st = .ready ∧ x.closing ∧ x.unplaced = [] then s.setConduit c x.freed else s

/-- Whether an acknowledgement covers a sequence number (R305). -/
def covers (h : CHdr) (seq : Nat) : Bool :=
  ahead h.ack seq || (decide (gap seq (h.ack + 1) < 32) && bit h.map (gap seq (h.ack + 1)))

/-- Take the acknowledgement and grant that a header carries (R301, R306): the messages that it shows placed; each entry's completion says so
(R309). -/
def State.takeAck (s : State) (h : CHdr) : State × List SentMsg :=
  let c := h.conduit
  let x := s.conduit c
  let done := Map.keep x.unplaced fun k m => covers h k && decide (m.tries ≠ 0)
  let left := Map.keep x.unplaced fun k m => !(covers h k && decide (m.tries ≠ 0))
  let x := { x with unplaced := left, placed := if ahead h.ack x.placed then h.ack else x.placed,
                    granted := if ahead h.grant x.granted then h.grant else x.granted }
  let s := { s.setConduit c x with out := done.map (fun (e : Nat × SentMsg) => Out.entry c e.1 1) ++ s.out }
  ((s.pump c).maybeClose c, Map.vals done)

/-- Whether a header is for a bound end of this device: its record is open and its generation is the conduit's (R301, R311). -/
def State.heard (s : State) (h : CHdr) : Bool :=
  let x := s.conduit h.conduit
  (decide (x.st = .ready) || decide (x.st = .opening)) && decide (x.gen = h.gen)

/-- What R305 says of a received number. -/
inductive Arrival where
  | fresh
  | again
  | discard
  deriving DecidableEq, Repr

/-- Judge a received number against the window. -/
def Conduit.judge (x : Conduit) (seq : Nat) : Arrival :=
  let d := gap seq (x.rxPlaced + 1)
  if d < x.window then (if bit x.rxMap d then .again else .fresh)
  else if ahead x.rxPlaced seq then .again
  else .discard

/-- Slide a placed map past the messages placed in order. -/
def slide (p map : Nat) : Nat → Nat × Nat
  | 0 => (p, map)
  | n + 1 => if map % 2 = 1 then slide ((p + 1) % 2 ^ 32) (map / 2) n else (p, map)

/-- Place a message (R305 to R307): its number is marked, its units return, and the end acknowledges. DEDUCED, log entry 55. -/
def State.placeMessage (s : State) (c seq len : Nat) : State :=
  let x := s.conduit c
  let r := slide x.rxPlaced (x.rxMap + 2 ^ gap seq (x.rxPlaced + 1)) 33
  let x := { x with rxPlaced := r.1, rxMap := r.2, rxGrant := (x.rxGrant + conduitUnits len) % 2 ^ 32, use := s.time }
  (s.setConduit c x).sendAck c

/-- The lowest conduit number that is CLOSED. DESIGN CHOICE, log entry 54. -/
def State.freeConduit (s : State) : Option Nat :=
  let m := Map.keep s.conduits fun _ x => decide (x.st ≠ .closed)
  Map.free m 0 (2 ^ 20)

/-- Open a conduit (R303): a generation is chosen, OPEN is sent. -/
def State.openConduit (s : State) (c : Nat) : State :=
  let s := s.makeRoom
  let x := s.conduit c
  let gen := (Config.freeValue s.freeCtr).toNat % 65536
  let s := { s with freeCtr := s.freeCtr + 1 }
  (s.setConduit c { x.freed with st := .opening, onDie := s.roomOnDie, gen := gen, rxGrant := x.grant, tries := 1, use := s.time }).sendPlain c 1 (openWord x.window x.grant)

/-- Open the lowest CLOSED conduit to a node; none where no end is free. -/
def State.openTo (s : State) (node : Nat) : Option (State × Nat) :=
  if !s.conduitRoom then none
  else match s.freeConduit with
    | none => none
    | some c =>
      let s := s.setConduit c { (s.conduit c).freed with node := node }
      some (s.openConduit c, c)

/-- OPEN (R303): a free end is bound and READY, or the opener is refused. A repeated OPEN is answered as the first was. -/
def State.openReceived (s : State) (h : CHdr) (node window : Nat) : State × Option Nat :=
  let bound (x : Conduit) : Bool := decide (x.st = .ready) && decide (x.node = node) && decide (x.peer = h.peer) && decide (x.gen = h.gen)
  match s.conduits.find? fun e => bound e.2 with
  | some e => (s.sendPlain e.1 2 0, none)
  | none =>
    let refuse (code : Nat) : State × Option Nat :=
      let r := s.drawId 0
      let x : Conduit := { gen := h.gen }
      (({ r.1 with out := .conduit h.peer 2 0 code :: r.1.out }).sourceMessage 5 3 node 15 0 r.2 (x.header 0 0 (ackWord code)) none (2 ^ 20)
        (h.peer + 2 ^ 21), none)
    match s.freeConduit with
    | none => refuse 1
    | some c =>
      if !s.conduitRoom then refuse 2
      else
        let s := s.makeRoom
        let x := (s.conduit c).freed
        let x := { x with st := .ready, onDie := s.roomOnDie, node := node, peer := h.peer, gen := h.gen, window := max 1 (min 32 window),
                          granted := h.grant, rxGrant := x.grant, use := s.time }
        ((s.setConduit c x).sendPlain c 2 0, some c)

/-- Every numbered message, a packet of whose latest transmission left by a port, is sent again (R289). -/
def State.resendThrough (s : State) (n : Nat) : State :=
  let again (s : State) (e : Nat × Conduit) : State :=
    ((e.2.unplaced.filter fun m => decide (m.2.tries ≠ 0) && bit m.2.ports n).map Prod.fst).foldl
      (fun s k => s.transmit e.1 k false) s
  let s := (s.conduits.filter fun e => decide (e.2.st = .ready)).foldl again s
  let recs := (s.pair.unplaced.filter fun m => decide (m.2.tries ≠ 0) && bit m.2.ports n).map Prod.fst
  recs.foldl (fun s k => s.sendRecord k false) s

end Sys2Proof.Machine
end

