-- ==== Sys2Proof/Machine/Fabric.lean ====
section
/-! DEFINITION. Fabric ports (R277 to R281), the receipt of packets (R285 to R288), reassembly (R295 to R299) and the miss buffer (R310, R311). -/

namespace Sys2Proof.Machine

/-- A port's object. -/
def portKey (n sub : Nat) : Nat := recKey 0x2510 n sub

/-- Credit units that a port allocates to a class (2510h.06). -/
def State.allocation (s : State) (n c : Nat) : Nat := s.obj (portKey n 6) / 2 ^ (16 * c) % 2 ^ 16

/-- Change a port's state: its source fires (R514). -/
def State.portState (s : State) (n : Nat) (x : PortSt) : State := (s.setPort n x).arrive (portSource n 0)

/-- Whether the start has enabled the fabric ports (R277, R464). -/
def State.joined (s : State) : Bool := s.start.portsUp

/-- An enabled port begins training (R277). -/
def State.trainPort (s : State) (n : Nat) : State :=
  let x := s.port n
  if x.st = .disabled ∧ s.obj (portKey n 2) = 1 ∧ s.joined then s.portState n { x with st := .training, since := s.time } else s

/-- PORT_ENABLE (R277). -/
def State.enablePort (s : State) (n : Nat) : State := (s.setObj (portKey n 2) 1).trainPort n
def execPortEnable (n : Port) (s : State) : Host.Outcome State Fault Refusal := .next (s.enablePort n)

/-- The waiting work of a port's classes. -/
def State.egress (s : State) (n : Nat) : List Work := (List.range 8).flatMap fun c => Map.getD s.sched.queues (resClass n c) []

/-- A packet whose arrival port has left ACTIVE returns no units. -/
def Work.strand (w : Work) (n : Nat) : Work := if w.inPort = some n then { w with stale := true } else w

/-- A port leaves ACTIVE (R265, R288, R289): packets in its egress queue go back through R286, and numbered messages that left by it are
sent again; its 400GMII frame and the link-control frames that waited go with it. -/
def State.leaveActive (s : State) (n : Nat) (x : PortSt) : State :=
  let back := s.egress n
  let lost := s.port 12
  let s := (s.setPort n { x with held := [], ctl := [], ctlSent := false, inFrame := 0, rxLost := false }).setPort 12 { lost with held := lost.held ++ x.held }
  let sch := s.sched
  let qs := (List.range 8).foldl (fun m c => Map.put m (resClass n c) []) sch.queues
  let s := { s with sched := { sch with queues := Map.each qs (fun _ l => l.map fun (w : Work) => w.strand n),
                                        waiting := sch.waiting.map fun (w : Nat × Work) => (w.1, w.2.strand n) } }
  let s := back.foldl (fun s w => match w.pkt with | some k => s.spray (w.strand n) k | none => s) s
  s.respray.resendThrough n

/-- Whether a port that leaves ACTIVE has been in it for 10 s, so that its hold-down returns to 1 ms (R278). -/
def rested (now : Nat) (x : PortSt) : Bool := decide (x.st = .active) && decide (now - x.activeSince ≥ 10000000000)

/-- The hold-down in milliseconds of an entry into HOLD (R278). DEDUCED, log entry 57. -/
def holdFor (now : Nat) (x : PortSt) : Nat :=
  match x.lastHold with
  | none => 1
  | some t => if rested now x then 1 else if now - t ≤ 10000000000 then min 1024 (2 * x.holdMs) else max 1 x.holdMs

/-- Enter HOLD (R277, R278): a flap is counted and logged with its reason. -/
def State.holdPort (s : State) (n reason : Nat) : State :=
  let x := s.port n
  let y := { x with st := .hold, holdMs := holdFor s.time x, lastHold := some s.time, nbr := none, hellos := 0, heard := false }
  let s := ((s.portState n y).bump (portKey n 7)).arrive (portSource n 3)
  let s := (s.setObj (portKey n 0xE) reason).logEvent 4 2 n 0 reason
  if x.st = .active then s.leaveActive n y else s

/-- PORT_DISABLE (R277): reason 07h. -/
def State.disablePort (s : State) (n : Nat) : State :=
  let x := s.port n
  let s := s.setObj (portKey n 2) 0
  if x.st = .disabled then s
  else
    let y := { x with st := .disabled, nbr := none, hellos := 0, heard := false, lastHold := if rested s.time x then none else x.lastHold }
    let s := (s.portState n y).setObj (portKey n 0xE) 7
    if x.st = .active then s.leaveActive n y else s

/-- LANES_TRAINED (R277). -/
def execLanesTrained (n : Port) (s : State) : Host.Outcome State Fault Refusal :=
  .next (if (s.port n).st = .training then s.portState n { s.port n with st := .pcsUp, since := s.time } else s)

/-- PCS_LOCK (R277): HELLO state is entered with nothing heard. -/
def execPcsLock (n : Port) (s : State) : Host.Outcome State Fault Refusal :=
  .next (if (s.port n).st = .pcsUp then s.portState n { s.port n with st := .hello, nbr := none, hellos := 0, heard := false } else s)

/-- PORT_STATE_TIMEOUT (R277): 2 s in training is reason 06h, 1 ms without PCS lock reason 02h. -/
def execPortStateTimeout (n : Port) (s : State) : Host.Outcome State Fault Refusal :=
  .next (match (s.port n).st with
    | .training => if 2000000 ≤ s.since (s.port n).since then s.holdPort n 6 else s
    | .pcsUp => if 1000 ≤ s.since (s.port n).since then s.holdPort n 2 else s
    | _ => s)

/-- Whether this device's HELLOs carry flag [1]: its node is assigned and a routing table committed (R276). -/
def State.ownReady (s : State) : Bool := decide (s.me ≠ 0) && s.routed

/-- The pair rules of R292 for a neighbour of a pair link. -/
def State.pairRules (s : State) (n : Nat) (h : Hello) : Bool :=
  if s.pairLink n then
    let other := s.port (if n = 10 then 11 else 10)
    h.pairLink && (decide (other.st ≠ .active) || (match other.nbr with | some o => decide (o.digest = h.digest) | none => true))
  else true

/-- Enter ACTIVE (R277, R281): the counts begin again, the first CREDIT grants the allocation; a pair link forms the pair (R365). -/
def State.activatePort (s : State) (n : Nat) (x : PortSt) (h : Hello) : State :=
  let y := { x with st := .active, activeSince := s.time, lastRx := s.time, granted := [], consumed := [], rxConsumed := [], returned := [],
                    rxGranted := (List.range 8).map (s.allocation n) }
  let s := ((s.portState n y).sendCredit n).respray
  if !s.pairLink n then s
  else
    let p := s.pair
    let s := { s with pair := { p with partner := h.node, st := if p.st = .off then .forming else p.st } }
    if p.st = .off then s.arrive 0x003 else s

/-- A valid frame or packet came (R279): the neighbour is alive. -/
def State.proof (s : State) (n : Nat) : State := s.setPort n { s.port n with lastRx := s.time }

/-- A neighbour is recorded (R277, R293). -/
def State.noteNeighbour (s : State) (n : Nat) (h : Hello) : State :=
  (s.setObj (portKey n 4) (h.node % 2 ^ 20 + h.port % 16 * 2 ^ 20 + b2n h.pairLink * 2 ^ 24)).setObj (portKey n 5) h.digest

/-- HELLO (R276, R277). DEDUCED, log entry 56. -/
def State.hello (s : State) (n : Nat) (h : Hello) : State :=
  let s := s.proof n
  let x := s.port n
  let same := match x.nbr with | some o => decide (o.digest = h.digest) && decide (o.node = h.node) | none => false
  match x.st with
  | .active => if same then s.setPort n { x with nbr := some h } else s.holdPort n 5
  | .hello =>
    let y := { x with nbr := some h, hellos := if same then x.hellos + 1 else 1, heard := true }
    let s := s.setPort n y
    let s := if same then s else s.noteNeighbour n h
    if y.hellos ≥ 2 ∧ h.ready ∧ h.heard ∧ s.ownReady ∧ domainOf h.node = domainOf s.me then
      if s.pairRules n h then s.activatePort n y h else s.setObj (portKey n 0xE) 8
    else s
  | _ => s
def execHello (n : Port) (h : Hello) (s : State) : Host.Outcome State Fault Refusal := .next (s.hello n h)

/-- The HELLO that a port sends now (R276). -/
def State.ownHello (s : State) (n : Nat) : Hello :=
  { vendor := s.obj 0x101801, product := s.obj 0x101802, revision := s.obj 0x101803, serial := Config.serial.toNat, digest := s.idDigest % 2 ^ 128,
    node := s.me, port := n, pairLink := s.pairLink n, ready := s.ownReady, heard := (s.port n).heard, seq := (s.port n).seq }

/-- HELLO_TIMER (R275, R276). -/
def execHelloTimer (n : Port) (s : State) : Host.Outcome State Fault Refusal :=
  let x := s.port n
  .next (if x.st = .hello ∨ x.st = .active then
      (s.setPort n { x with seq := (x.seq + 1) % 65536 }).sendControl n 1 (s.ownHello n).bytes
    else s)

/-- LOSS_OF_LOCK (R277): reason 02h for block or marker lock, 01h for signal or CDR lock. -/
def execLossOfLock (n : Port) (pcs : Bool) (s : State) : Host.Outcome State Fault Refusal :=
  .next (if (s.port n).st = .active then s.holdPort n (if pcs then 2 else 1) else s)

/-- FEC_DEGRADE (R277, R293, R514): the codewords that the FEC corrected and could not correct within 4 microseconds are counted; more than the
threshold of the latter take an ACTIVE port down. -/
def State.fecDegrade (s : State) (n corrected uncorrectable : Nat) : State :=
  let s := (s.bumpBy (portKey n 8) corrected).bumpBy (portKey n 9) uncorrectable
  if (s.port n).st = .active ∧ s.obj 0x250004 < uncorrectable then (s.arrive (portSource n 1)).holdPort n 3 else s
def execFecDegrade (n : Port) (corrected uncorrectable : Nat) (s : State) : Host.Outcome State Fault Refusal :=
  .next (s.fecDegrade n corrected uncorrectable)

/-- LIVENESS_TIMEOUT (R277, R279): no valid frame or packet for 2500h.03. -/
def execLivenessTimeout (n : Port) (s : State) : Host.Outcome State Fault Refusal :=
  .next (if (s.port n).st = .active ∧ s.since (s.port n).lastRx ≥ s.obj 0x250003 then s.holdPort n 4 else s)

/-- HOLD_DOWN_EXPIRY (R277, R278). -/
def execHoldDownExpiry (n : Port) (s : State) : Host.Outcome State Fault Refusal :=
  .next (if (s.port n).st = .hold ∧ s.obj (portKey n 2) = 1 ∧ s.since ((s.port n).lastHold.getD 0) ≥ 1000 * (s.port n).holdMs then s.portState n { s.port n with st := .training, since := s.time } else s)

/-- CREDIT (R281): cumulative grants, class 0 first. -/
def State.takeCredit (s : State) (n : Nat) (grants : List Nat) : State :=
  if (s.port n).st = .active then (s.setPort n { s.port n with granted := grants.map fun g => g % 2 ^ 32, lastRx := s.time }).respray else s
def execCredit (n : Port) (grants : List Nat) (s : State) : Host.Outcome State Fault Refusal := .next (s.takeCredit n grants)

/-- CREDIT_TIMER (R279). -/
def execCreditTimer (n : Port) (s : State) : Host.Outcome State Fault Refusal :=
  .next (if (s.port n).st = .active then s.sendCredit n else s)

/-- PATH_DOWN (R287). -/
def State.pathDown (s : State) (n dst : Nat) : State :=
  let s := (s.proof n).bump 0x26000B
  ({ s with downMarks := Map.put s.downMarks (downKey n dst) s.time }).respray
def execPathDown (n : Port) (dst : Nat) (s : State) : Host.Outcome State Fault Refusal := .next (s.pathDown n dst)

/-- PATH_DOWN_HOLD_EXPIRY (R287): 2600h.05 after the latest PATH_DOWN. -/
def execPathDownHoldExpiry (n : Port) (dst : Nat) (s : State) : Host.Outcome State Fault Refusal :=
  .next (match Map.find s.downMarks (downKey n dst) with
    | some t => if s.since t ≥ s.obj 0x260005 then ({ s with downMarks := Map.del s.downMarks (downKey n dst) }).respray else s
    | none => s)

/-- Discard a packet at the port: counted in 2510h.0A and raised. DESIGN CHOICE, log entry 53. -/
def State.discardAtPort (s : State) (n : Nat) : State := (s.bump (portKey n 0xA)).arrive (portSource n 2)

/-- Whether a packet's message holds a context. -/
def State.hasContext (s : State) (k : Packet) : Bool := s.contexts.any fun c => decide (c.source = k.src) && decide (c.msg = k.msg)

/-- Offer a port's held packets again. -/
def State.offerHeld (s : State) (test : State → Packet → Bool) (n : Nat) : State :=
  let l := (s.port n).held
  let s := s.setPort n { s.port n with held := [] }
  let one (s : State) (k : Packet) : State :=
    let stay (s : State) : State := s.setPort n { s.port n with held := (s.port n).held ++ [k] }
    if test s k then
      match s.accept k with
      | some s => s.returnUnits n k.cls k.len
      | none => stay s
    else stay s
  l.foldl one s

/-- Offer every held packet again: first those whose message holds a context (R296). -/
def State.retryHeld (s : State) : State :=
  let ns := Map.keys s.ports
  let s := ns.foldl (fun s n => s.offerHeld State.hasContext n) s
  ns.foldl (fun s n => s.offerHeld (fun _ _ => true) n) s

/-- A packet for this device reaches the hub (R268, R285, R292, R422): a MIRROR that came on no pair link is discarded and counted as a reserved
kind is. DESIGN CHOICE, log entry 53. -/
def State.deliverPacket (s : State) (n : Nat) (k : Packet) : State :=
  if (8 ≤ k.polSel ∧ k.polSel < 15) ∨ k.kind = 0 ∨ k.kind > 8 ∨ (k.kind = 8 ∧ !s.pairLink n) then (s.bump 0x260009).returnUnits n k.cls k.len
  else
    let held := s.contexts.length
    match s.accept k with
    | some s' => let s' := s'.returnUnits n k.cls k.len
                 if s'.contexts.length < held then s'.retryHeld else s'
    | none =>
      let miss := decide (k.kind = 5) && !(s.conduit (k.kindWord % 2 ^ 20)).onDie
      let s := if miss then s.bump 0x27000B else s
      s.setPort n { s.port n with held := (s.port n).held ++ [k] }

/-- A packet to forward (R272, R285 tests 2 to 5). -/
def State.forwardPacket (s : State) (n : Nat) (k : Packet) : State :=
  let drop (s : State) : State := s.returnUnits n k.cls k.len
  if k.dst = 0 ∨ k.dst = linkNode ∨ domainOf k.dst ≠ domainOf s.me then drop (s.bump 0x260009)
  else if s.routeEntry k.dst % 16 = 15 then s.discardNoRoute k { len := 0, inPort := some n } false
  else if k.hop = 0 then drop ((s.bump 0x260008).arrive 0x015)
  else
    let k := { k with hop := k.hop - 1 }
    s.spray { len := k.len + 40, pkt := some k, inPort := some n } k

/-- A failing packet of which cut-through has already sent part on (R267): it ends with an error character on the port it left by, whose
units it has taken. -/
def State.cutShort (s : State) (n : Nat) (k : Packet) : State :=
  match s.chooseHop k (some n) with
  | .go p =>
    let x := s.port p
    { s.setPort p { x with consumed := setNth x.consumed k.cls ((nth x.consumed k.cls + needUnits k.len) % 2 ^ 32) } with out := .errorEnd p :: s.out }
  | _ => s

/-- A packet whose check fails (R265, R267): discarded and counted, and with it the rest of its 400GMII frame, in which no boundary can be
trusted. DEDUCED, log entry 153. -/
def State.badPacket (s : State) (n : Nat) (cut : Bool) (k : Packet) : State :=
  let s := (s.discardAtPort n).returnUnits n k.cls k.len
  let s := s.setPort n { s.port n with rxLost := true }
  if cut && decide (k.dst ≠ s.me) then s.cutShort n k else s

/-- PACKET_RECEIVE (R265 to R267, R279, R280, R285): `first` begins a 400GMII frame, `cut` says that cut-through has sent part on. The check and the
credit come first; a link-control frame of a reserved subtype is discarded. On a port that is not ACTIVE nothing is taken. DESIGN CHOICE,
log entry 53. -/
def State.receivePacket (s : State) (n : Nat) (first cut : Bool) (k : Packet) : State :=
  let s := if first then s.setPort n { s.port n with rxLost := false } else s
  let x := s.port n
  let c := k.cls.val
  let u := needUnits k.len
  if x.st ≠ .active ∨ x.rxLost then s
  else
    let s := (if k.ok then s.proof n else s).bump (portKey n 0xD)
    if k.ok && (decide (k.version ≠ 1) || decide (k.ptype ≠ 0)) then s
    else if gap (nth x.rxGranted c) (nth x.rxConsumed c) < u then s.discardAtPort n
    else
      let s := s.setPort n { s.port n with rxConsumed := setNth x.rxConsumed c ((nth x.rxConsumed c + u) % 2 ^ 32) }
      if !k.ok then s.badPacket n cut k
      else if s.me = 0 then s.returnUnits n c k.len
      else if k.dst = s.me then s.deliverPacket n k
      else s.forwardPacket n k
def execPacketReceive (n : Port) (first cut : Bool) (k : Packet) (s : State) : Host.Outcome State Fault Refusal :=
  .next (s.receivePacket n first cut k)

/-- NODE_ID_WRITE (R272, R274): an assigned node ID changes only while every port is DISABLED; FFFFFh names no node. -/
def State.writeNode (s : State) (node : Nat) : Option State :=
  if node = linkNode ∨ (s.me ≠ 0 ∧ node ≠ s.me ∧ s.ports.any (fun e => decide (e.2.st ≠ .disabled))) then none else some (s.setObj 0x260001 node)
def execNodeIdWrite (node : Nat) (s : State) : Host.Outcome State Fault Refusal := .next ((s.writeNode node).getD s)

/-- ROUTING_COMMIT (R284): refused when any hop of the shadow bank is reserved. -/
def State.commitRoutes (s : State) : Option State :=
  let shadow := if s.bank then s.routes0 else s.routes1
  let bad := shadow.any fun e => (hopsAt e.2 0 ++ hopsAt e.2 16).any fun h => decide (12 ≤ h) && decide (h ≤ 14)
  if bad then none else some ({ s with bank := !s.bank, routed := true }).respray
def execRoutingCommit (s : State) : Host.Outcome State Fault Refusal := .next (s.commitRoutes.getD s)

/-- REASSEMBLY_TIMEOUT (R299): 2700h.06 after the context opened. -/
def State.reassemblyTimeout (s : State) (source msg : Nat) : State :=
  let mine (c : Context) : Bool := decide (c.source = source) && decide (c.msg = msg) && decide (s.since c.opened ≥ s.obj 0x270006)
  if s.contexts.any mine then
    ((({ s with contexts := s.contexts.filter fun c => !mine c }).bump 0x270007).arrive 0x014).retryHeld
  else s
def execReassemblyTimeout (source msg : Nat) (s : State) : Host.Outcome State Fault Refusal := .next (s.reassemblyTimeout source msg)

/-- MISS_FETCH_DONE (R304, R310, R311): the record is on-die, its packets enter reassembly, and its queued messages are sent. -/
def State.missDone (s : State) (c ns : Nat) : State :=
  let x := s.conduit c
  if x.onDie ∨ !s.makeRoom.roomOnDie then s
  else
    let s := s.makeRoom
    let s := (s.setConduit c { s.conduit c with onDie := true, use := s.time }).setObj 0x27000A (max (s.obj 0x27000A) ns)
    let mine (k : Packet) : Bool := decide (k.kindWord % 2 ^ 20 = c)
    let l := s.miss.filter mine
    let s := { s with miss := s.miss.filter fun k => !mine k }
    let s := l.foldl (fun s k => (s.acceptClear k).getD { s with miss := s.miss ++ [k] }) s
    (s.pump c).retryHeld
def execMissFetchDone (conduit ns : Nat) (s : State) : Host.Outcome State Fault Refusal := .next (s.missDone conduit ns)

end Sys2Proof.Machine
end

