-- ==== Sys2Proof/Machine/Transfers.lean ====
section
/-! DEFINITION. Transfers over conduits (R302, R303, R317 to R321, R368): what a source sends, what a destination stages and links, and the conduit commands. -/

namespace Sys2Proof.Machine

/-- Where a transfer stands: an entry of a composition's chart, or the pair's rebuild. -/
inductive Route where
  | chart (i idx : Nat)
  | pair
  deriving DecidableEq, Repr

/-- The transfer of a route. -/
def State.moveOf (s : State) : Route → Transfer
  | .pair => s.pair.move
  | .chart i idx => match Map.find (s.chart i).transit idx with | some t => t.move | none => {}

/-- Store the transfer of a route. -/
def State.setMove (s : State) (r : Route) (m : Transfer) : State :=
  match r with
  | .pair => { s with pair := { s.pair with move := m } }
  | .chart i idx => s.setChart i { s.chart i with transit := Map.adjust (s.chart i).transit idx fun t => { t with move := m } }

/-- The routes of which this device is the source. -/
def State.routes (s : State) : List Route :=
  .pair :: s.charts.flatMap fun c => ((c.2.transit.filter fun t => !t.2.inbound).map Prod.fst).map fun i => .chart c.1 i

/-- Whether a KV-head group travels on a route. -/
def State.onRoute (s : State) (r : Route) (g : Nat) : Bool :=
  match r with
  | .pair => true
  | .chart i idx => decide (s.spanOf i g = idx % max 1 (s.spans i))

/-- The node that a route's transfer goes to. -/
def State.routePeer (s : State) : Route → Nat
  | .pair => s.pair.partner
  | .chart i idx => match Map.find (s.chart i).transit idx with | some t => t.peer | none => 0

/-- The first 16 bytes of a PUT's body (R302): the sequence, the page key, the handle and the pinned flag. -/
def putHead (seqId key handle : Nat) (pinned_ : Bool) : List Nat :=
  leBytes 8 seqId ++ leBytes 4 key ++ leBytes 4 (handle % 2 ^ 24 + 2 ^ 24 * b2n pinned_)

/-- Those of a PUT that names a frame. -/
def State.putHead (s : State) (seqId key k : Nat) : List Nat :=
  Sys2Proof.Machine.putHead seqId key k (match Map.find s.frames k with | some f => decide (f.count = pinned) | none => false)

/-- A page as it travels (R302, R357): bytes 0 to 47 of its header, its key section and its value section. -/
def State.pageBytes (s : State) (k : Nat) (sh : Shape) : List Nat :=
  (match Map.find s.frames k with | some f => hdrBytes f | none => List.replicate 48 0) ++ s.section_ k sh false ++ s.section_ k sh true

/-- A PUT_RECORD's body (R302, R318): a shared record keeps its recorded frame, its handle, where that frame was sent in the transfer. -/
def Transfer.record (m : Transfer) (seqId key : Nat) (x : Stored) : List Nat :=
  let h := if m.sent.any fun y => decide (y.2.2 = x.shared) then x.shared else 0
  Sys2Proof.Machine.putHead seqId key h false ++ (if h = x.shared then x.data else reshare x.data 0)

/-- Send the entries of a sequence that have not been sent for their key (R317, R318): a frame's data once, then references; a T2
or T3 record as a PUT_RECORD. -/
def State.sendEntries (s : State) (c : Nat) (r : Route) (m : Transfer) (seqId : Nat) (e : Seq) : State × Transfer :=
  let sh := s.shape e.binding
  let page (acc : State × Transfer) (l : Nat × Leaf) : State × Transfer :=
    let (s, m) := acc
    if !s.onRoute r (keyGroup sh l.1) ∨ m.sent.contains (seqId, l.1, l.2.val) then acc
    else if l.2.loc = 2 then
      (match Map.find e.stored l.1 with | some x => s.convey c 5 (m.record seqId l.1 x) seqId | none => s,
       { m with sent := (seqId, l.1, l.2.val) :: m.sent })
    else if m.sent.any fun x => decide (x.2.2 = l.2.val) then
      (s.convey c 6 (s.putHead seqId l.1 l.2.val) seqId, { m with sent := (seqId, l.1, l.2.val) :: m.sent })
    else
      ((s.pageAccess 3 l.2.val sh).convey c 4 (s.putHead seqId l.1 l.2.val ++ s.pageBytes l.2.val sh) seqId,
       { m with sent := (seqId, l.1, l.2.val) :: m.sent })
  let image (acc : State × Transfer) (x : Nat × Stored) : State × Transfer :=
    if !s.onRoute r (keyGroup sh x.1) then acc else (acc.1.convey c 5 (acc.2.record seqId x.1 x.2) seqId, acc.2)
  let acc := e.leaves.foldl page (s, m)
  if e.st = .flushed ∧ !m.copied then e.stored.foldl image acc else acc

/-- Whether a page frame that a transfer would send is suspect or on the ladder (R353). -/
def State.suspectOn (s : State) (r : Route) (e : Seq) : Bool :=
  s.suspectIn (Map.keep e.leaves fun k _ => s.onRoute r (keyGroup (s.shape e.binding) k))

/-- The next sequence of a transfer. -/
def Transfer.next (m : Transfer) : Transfer := { m with todo := m.todo.drop 1, copied := false, freeze := none, sealing := false }

/-- Change a pair state (R365, R514). -/
def State.setPairState (s : State) (st : PairState) : State :=
  if s.pair.st = st then s else { s with pair := { s.pair with st := st } }.arrive 0x003

/-- A rebuild that cannot go on is abandoned (R365): the writes that waited for the partner commit (R361). DEDUCED, log entry 74. -/
def State.dropRebuild (s : State) : State :=
  let s := { s with pair := { s.pair with move := {}, rebuilt := [] } }
  if s.pair.st = .rebuilding then (s.setPairState .soleOwner).giveUpRecords else s

/-- The sequences of the pair that a rebuild has yet to copy (R368). -/
def State.rebuildLeft (s : State) : List Nat :=
  (Map.keys s.seqs).filter fun i => s.pairOwned i && !s.pair.rebuilt.contains i

/-- The first sequence of a transfer is stranded at the source (R320); a rebuild that a sequence is refused in is abandoned.
DEDUCED, log entry 63. -/
def State.strand (s : State) (r : Route) (seqId : Nat) : State :=
  match r with
  | .pair => s.dropRebuild
  | .chart i idx =>
    let s := s.setMove r (s.moveOf r).next
    s.setChart i { s.chart i with transit := Map.adjust (s.chart i).transit idx fun t => { t with stranded := t.stranded ++ [seqId] } }

/-- Carry a transfer on (R317, R320, R368): the copy of its first sequence, or BUCKET_DONE when none is left; a rebuild then is done. -/
def State.advance (s : State) (r : Route) : Nat → State
  | 0 => s
  | fuel + 1 =>
    let m := s.moveOf r
    match m.conduit with
    | none => s
    | some c =>
      match m.todo with
      | seqId :: _ =>
        if m.copied then s
        else match Map.find s.seqs seqId with
          | none => (s.setMove r m.next).advance r fuel
          | some e =>
            let bad := s.unread (s.shape e.binding) (Map.keep e.leaves fun k _ => s.onRoute r (keyGroup (s.shape e.binding) k))
            if s.suspectOn r e then (s.strand r seqId).advance r fuel
            else if bad ≠ [] then ((s.failReads bad (some seqId)).strand r seqId).advance r fuel
            else
              let x := s.sendEntries c r m seqId e
              x.1.setMove r { x.2 with copied := true }
      | [] =>
        match r with
        | .pair =>
          if s.pair.st ≠ .rebuilding then s
          else match s.rebuildLeft with
            | [] => { s with pair := { s.pair with move := {}, rebuilt := [] } }.setPairState .paired
            | l => (s.setMove .pair { m.next with todo := l }).advance .pair fuel
        | .chart i idx =>
          match Map.find (s.chart i).transit idx with
          | none => s
          | some t =>
            if t.ended ∨ t.inbound then s
            else
              let s := s.setChart i { s.chart i with transit := Map.put (s.chart i).transit idx { t with ended := true } }
              let n := max 1 (s.spans i)
              s.convey c 9 (t.stranded.flatMap fun q => leBytes 8 q) (i * 2 ^ 20 + idx) (bucketWord (idx / n) (idx % n))

/-- Steps that carry a transfer on past every sequence that is gone or cannot go. -/
def State.carry (s : State) (r : Route) : State := s.advance r ((s.moveOf r).todo.length + s.seqs.length + 2)

/-- Take the requests that a composition's chart holds at check 3 through it again (R316), each from its own arrival.
DEDUCED, log entry 135. -/
def State.rerunHolds (s : State) (i : Nat) : State :=
  let l := Map.vals (Map.keep s.holds fun _ h => decide (h.comp = i))
  let s := { s with holds := Map.keep s.holds fun _ h => decide (h.comp ≠ i) }
  l.foldl (fun s h =>
    let s' := s.request h.req
    { s' with holds := Map.each s'.holds fun k x => if Map.has s.holds k then x else { x with since := h.since } }) s

/-- A composition with nothing in transit is IDLE (R325). -/
def State.settleChart (s : State) (i : Nat) : State :=
  let c := s.chart i
  if c.st = .transferring ∧ c.transit = [] then (s.setChart i { c with st := .idle }).arrive 0x012 else s

/-- An entry leaves transit (R320); what was stranded is kept with the node that serves it. -/
def State.leaveTransit (s : State) (i idx : Nat) (stranded : List (Nat × Nat)) : State :=
  let c := s.chart i
  let c := { c with transit := Map.del c.transit idx, stranded := c.stranded ++ stranded.filter fun x => !c.stranded.contains x }
  ((s.setChart i c).settleChart i).rerunHolds i

/-- Free staged pages: the frames that nothing else names, and the spill blocks (R319, R320). -/
def State.freeStaged (s : State) (l : List Staged) : State :=
  let one (s : State) (p : Staged) : State :=
    if p.loc = 2 then { s with host := s.host.freeSpill [p.val] }
    else
      let named := s.stage.any fun g => g.2.pages.any fun q => decide (q.loc ≠ 2) && decide (q.val = p.val)
      match Map.find s.frames p.val with
      | some f => if f.count = 0 ∧ !named then
          { s with frames := Map.del s.frames p.val,
                   stage := Map.each s.stage fun _ g => { g with handles := Map.keep g.handles fun _ v => decide (v ≠ p.val) } }
        else s
      | none => s
  l.foldl one s

/-- Free everything that a conduit has staged (R320). -/
def State.freeStage (s : State) (c : Nat) : State :=
  match Map.find s.stage c with
  | none => s
  | some g => { s with stage := Map.del s.stage c }.freeStaged g.pages

/-- A conduit enters ERROR (R303, R309, R320): every queued entry completes with error. -/
def State.conduitError (s : State) (c reason : Nat) : State :=
  let s := { s with out := (s.conduit c).unplaced.map (fun (e : Nat × SentMsg) => Out.entry c e.1 2) ++ s.out }
  let s := s.setConduit c { s.conduit c with st := .error, reason := reason, unplaced := [], closing := false }
  let s := ((s.bump 0x27000D).arrive 0x013).freeStage c
  let one (s : State) (r : Route) : State :=
    let m := s.moveOf r
    if m.conduit ≠ some c then s
    else match r with
      | .pair => s.dropRebuild
      | .chart i idx =>
        let s := s.setMove r {}
        s.setChart i { s.chart i with transit := Map.adjust (s.chart i).transit idx fun t =>
          { t with stranded := t.stranded ++ m.todo, ended := false } }
  s.routes.foldl one s

/-- A conduit becomes READY: the transfers to its node that have none take it up (R317, R320), and the pair's rebuild. -/
def State.conduitReady (s : State) (c : Nat) : State :=
  let node := (s.conduit c).node
  let one (s : State) (r : Route) : State :=
    let m := s.moveOf r
    let mine := match r with
      | .pair => decide (s.pair.st = .rebuilding) && decide (s.pair.conduit = c)
      | .chart .. => decide (s.routePeer r = node)
    if m.conduit.isNone && mine then (s.setMove r { m with conduit := some c }).carry r else s
  s.routes.foldl one s

/-- Whether a BUCKET_DONE of a route code was placed: the bucket leaves transit at its source (R317, R320). -/
def State.bucketPlaced (s : State) (code : Nat) : State :=
  let i := code / 2 ^ 20
  let idx := code % 2 ^ 20
  match Map.find (s.chart i).transit idx with
  | some t => if t.inbound then s else s.leaveTransit i idx (t.stranded.map fun q => (q, s.me))
  | none => s

/-- Take the header of any conduit message: its acknowledgements and what they complete. -/
def State.hear (s : State) (h : CHdr) : State :=
  let r := s.takeAck h
  (r.2.filter fun m => decide (m.op = 9)).foldl (fun s m => s.bucketPlaced m.what) r.1

/-- A numbered message (R301, R305): a fresh one takes effect and is placed, a repeated one is acknowledged again, any other is
discarded and counted. `len` is its payload. -/
def State.numbered (s : State) (h : CHdr) (len : Nat) (effect : State → State) : State :=
  if !s.heard h then s.bump 0x270008
  else
    let s := s.hear h
    match (s.conduit h.conduit).judge h.seq with
    | .fresh => (effect (s.placeMessage h.conduit h.seq len)).maybeClose h.conduit
    | .again => s.sendAck h.conduit
    | .discard => s.bump 0x270008

/-- What a conduit has staged. -/
def State.staged (s : State) (c : Nat) : Stage := Map.getD s.stage c {}
def State.setStage (s : State) (c : Nat) (g : Stage) : State := { s with stage := Map.put s.stage c g }

/-- Stage a page; one already staged for its key is superseded (R317). -/
def State.addStaged (s : State) (c : Nat) (p : Staged) : State :=
  let g := s.staged c
  let old := g.pages.filter fun q => decide (q.seqId = p.seqId) && decide (q.key = p.key)
  let left := g.pages.filter fun q => !(decide (q.seqId = p.seqId) && decide (q.key = p.key))
  (s.setStage c { g with pages := left ++ [p] }).freeStaged old

/-- A sequence for which room was refused: its SEAL will be refused (R319). -/
def State.stageBad (s : State) (c seqId : Nat) : State :=
  let g := s.staged c
  s.setStage c { g with bad := insertNat g.bad seqId }

/-- Write a page area received raw into a frame (R302): the key section, then the value section. -/
def State.writePage (s : State) (k : Nat) (hdr : PageHdr) (data : List Nat) : State :=
  let kr := hdr.valOff - 256
  let vr := data.length / 4 - kr
  let unit (s : State) (u : Nat) : State :=
    (s.writeStack (k * 65536 + u * 16384 + 256) ((data.drop (u * kr)).take kr)).writeStack (k * 65536 + u * 16384 + hdr.valOff)
      ((data.drop (4 * kr + u * vr)).take vr)
  (List.range 4).foldl unit s

/-- PUT_PAGE (R302, R317): the page area goes into a staged frame of the polder that its handle names. DEDUCED, log entry 62. -/
def State.stagePage (s : State) (c : Nat) (u : Put) (hdr : PageHdr) (data : List Nat) : State :=
  let p := framePolder u.handle % 8
  if s.freeFrames p = 0 then s.stageBad c u.seqId
  else match s.pickFrame p with
    | none => s.stageBad c u.seqId
    | some k =>
      let s := { s with frames := Map.put s.frames k { hdr := hdr, count := 0 } }
      let s := (s.writePage k hdr data).putFrame k { hdr := hdr, count := 0 }
      let g := s.staged c
      (s.setStage c { g with handles := Map.put g.handles u.handle k }).addStaged c ⟨u.seqId, u.key, if hdr.lost then 3 else 1, k, u.pinned, none⟩
def execPutPage (h : CHdr) (u : Put) (hdr : PageHdr) (data : List Nat) (s : State) : Host.Outcome State Fault Refusal :=
  .next (s.numbered h (96 + data.length) fun s => s.stagePage h.conduit u hdr data)

/-- PUT_RECORD (R318): the record lies in the spill area; a shared record whose frame was sent is rewritten to the frame here. -/
def State.stageRecord (s : State) (c : Nat) (u : Put) (rec : List Nat) : State :=
  let hdr := hdrOf ((rec.drop 8).take 48)
  if s.spillFree < recordBlocks rec.length then s.stageBad c u.seqId
  else
    let shared := Map.getD (s.staged c).handles u.handle 0
    match s.takeSpill (reshare rec shared) with
    | none => s.stageBad c u.seqId
    | some (s, i) => s.addStaged c ⟨u.seqId, u.key, 2, i, u.pinned, some { hdr := hdr, data := reshare rec shared, shared := shared, lost := hdr.lost }⟩
def execPutRecord (h : CHdr) (u : Put) (record : List Nat) (s : State) : Host.Outcome State Fault Refusal :=
  .next (s.numbered h (48 + record.length) fun s => s.stageRecord h.conduit u record)

/-- PUT_REF (R317): an entry that names a frame already sent. -/
def State.stageRef (s : State) (c : Nat) (u : Put) : State :=
  match Map.find (s.staged c).handles u.handle with
  | none => s.stageBad c u.seqId
  | some k =>
    let lost := s.lostFrame k
    s.addStaged c ⟨u.seqId, u.key, if lost then 3 else 1, k, u.pinned, none⟩
def execPutRef (h : CHdr) (u : Put) (s : State) : Host.Outcome State Fault Refusal :=
  .next (s.numbered h 48 fun s => s.stageRef h.conduit u)

/-- The inbound entries, by composition and index, that a sequence arriving from a node belongs to. -/
def State.inboundOf (s : State) (seqId node : Nat) : Option (Nat × List Nat) :=
  match s.compOf (tenantOf seqId) with
  | none => none
  | some i =>
    let c := s.chart i
    let l := (c.transit.filter fun t => t.2.inbound && decide (t.2.peer = node) && decide (t.1 / max 1 (s.spans i) = bucketOf seqId)).map Prod.fst
    if l = [] then none else some (i, l)

/-- Link a sealed sequence (R319): the staged entries below its layer counts, their counts from their references, its charge and
its descriptor; none where the charge or a frame is refused. -/
def State.linkSealed (s : State) (c seqId b base : Nat) (counts : List Nat) (code : Nat) : Option State :=
  let g := s.staged c
  let sh := s.shape b
  let t := tenantOf seqId
  let mine := g.pages.filter fun p => decide (p.seqId = seqId)
  let keep := mine.filter fun p => decide (keyPage p.key * 64 < nth counts (keyLayer sh p.key))
  let old := Map.find s.seqs seqId
  let fresh := ((keep.filter fun p => decide (p.loc ≠ 2)).map fun p => p.val).dedup.filter fun k =>
    match Map.find s.frames k with | some f => decide (f.count = 0) | none => true
  let blocks := ((keep.filter fun p => decide (p.loc = 2)).map fun p => (Map.getD s.host.spillMap p.val (0, 0)).2).sum
  let prior := match old with | some e => e.leaves | none => []
  let leaves := keep.foldl (fun m p => Map.put m p.key ⟨p.val, p.loc⟩) prior
  let stored := keep.foldl (fun m p => match p.stored with | some x => Map.put m p.key x | none => m) (match old with | some e => e.stored | none => [])
  let away := decide (code ≠ 1) || keep.any fun p => decide (p.loc = 2)
  let e : Seq := { binding := b, base := base, st := if away then .spilled else .active, prior := .active, counts := counts,
                   leaves := leaves, stored := stored, t2 := blocks + (match old with | some e => e.t2 | none => 0), lastUse := s.time }
  if g.bad.contains seqId ∨ s.obj (recKey 0x2B80 b 9) % 16 ≠ 1 ∨ !s.quotaFor t 1 fresh.length ∨ !s.quotaFor t 2 blocks ∨ !s.tableRoom e then none
  else
    let s := s.setStage c { g with pages := g.pages.filter fun p => decide (p.seqId ≠ seqId) }
    let count (s : State) (p : Staged) : State :=
      match Map.find s.frames p.val with
      | some f => if p.loc = 2 then s
        else (if f.count = pinned then s else s.recount p.val f (if p.pinned then pinned else f.count + 1)).journal p.val 1
      | none => s
    let s := keep.foldl count s
    let s := s.chargeBy t fun x => { x with t1 := x.t1 + fresh.length, t2 := x.t2 + blocks }
    some ((s.setSeq seqId e).freeStaged (mine.filter fun p => decide (nth counts (keyLayer sh p.key) ≤ keyPage p.key * 64)))

/-- Refuse a sealed sequence: everything staged for it is freed (R319). -/
def State.refuseSealed (s : State) (c seqId : Nat) : State :=
  let g := s.staged c
  (s.setStage c { g with pages := g.pages.filter fun p => decide (p.seqId ≠ seqId), bad := g.bad.erase seqId }).freeStaged
    (g.pages.filter fun p => decide (p.seqId = seqId))

/-- Answer a SEAL (R302): 00h linked, 01h refused. -/
def State.answerSeal (s : State) (c seqId result : Nat) : State := s.convey c 8 (leBytes 8 seqId ++ [result % 256]) seqId

/-- SEAL (R319). -/
def State.sealPlaced (s : State) (c seqId b base : Nat) (counts : List Nat) (code : Nat) : State :=
  let node := (s.conduit c).node
  let inb := s.inboundOf seqId node
  let pair := s.pair.receiving && decide (s.pair.partner = node)
  match (if inb.isSome ∨ pair then s.linkSealed c seqId b base counts code else none) with
  | none => (s.refuseSealed c seqId).answerSeal c seqId 1
  | some s =>
    let s := match inb with
      | some (i, l) =>
        let ch := s.chart i
        (s.setChart i { ch with transit := l.foldl (fun m k => Map.adjust m k fun t => { t with sealed_ := insertNat t.sealed_ seqId }) ch.transit }).bump 0x243002
      | none => s
    s.answerSeal c seqId 0
def execSeal (h : CHdr) (seqId : Nat) (binding : Binding) (base : Pol) (counts : List Nat) (state : Nat) (s : State) :
    Host.Outcome State Fault Refusal :=
  .next (s.numbered h (160 + 4 * counts.length) fun s => s.sealPlaced h.conduit seqId binding base counts state)

/-- The route whose first sequence is the one named. -/
def State.routeOf (s : State) (seqId : Nat) : Option Route := s.routes.find? fun r => decide ((s.moveOf r).todo.head? = some seqId)

/-- Drop what a sequence held in the part that has moved (R319): all of it once no span of its bucket is left here. -/
def State.dropMoved (s : State) (r : Route) (seqId : Nat) (e : Seq) : State :=
  match r with
  | .pair => s
  | .chart i idx =>
    let spans := max 1 (s.spans i)
    let others := (List.range spans).any fun j => decide (j ≠ idx % spans) && s.holder i seqId j
    if !others then s.dropAll seqId e
    else
      let sh := s.shape e.binding
      let gone := Map.keep e.leaves fun k _ => s.onRoute r (keyGroup sh k)
      let left := Map.keep e.leaves fun k _ => !s.onRoute r (keyGroup sh k)
      (s.setSeq seqId { e with leaves := left }).dropRefs ((gone.filter fun l => decide (l.2.loc ≠ 2)).map fun l => l.2.val)

/-- SEALED (R319, R320, R368): a linked sequence leaves the source, its held requests ending MOVED; a refused one is stranded. -/
def State.sealedPlaced (s : State) (seqId : Nat) (refused : Bool) : State :=
  match s.routeOf seqId with
  | none => s
  | some r =>
    let m := s.moveOf r
    if !m.sealing then s
    else if refused then (s.strand r seqId).carry r
    else match r with
      | .pair => ({ s with pair := { s.pair with rebuilt := insertNat s.pair.rebuilt seqId, move := m.next } }).carry r
      | .chart i idx =>
        let away := movedAnswer (s.routePeer r) (s.chart i).epoch
        let ch := s.chart i
        let s := s.setChart i { ch with transit := Map.adjust ch.transit idx fun t => { t with sealed_ := insertNat t.sealed_ seqId, move := m.next } }
        let s := s.endEvery (fun _ q => decide (q.seqId = seqId) && decide (q.kind ≤ 9)) away
        let s := match Map.find s.seqs seqId with | some e => s.dropMoved r seqId e | none => s
        (s.bump 0x243001).carry r
def execSealed (h : CHdr) (seqId : Nat) (refused : Bool) (s : State) : Host.Outcome State Fault Refusal :=
  .next (s.numbered h 41 fun s => s.sealedPlaced seqId refused)

/-- BUCKET_DONE (R320): the bucket leaves transit at the destination, which keeps where the stranded sequences are. -/
def State.bucketDone (s : State) (c i bucket span : Nat) (stranded : List Nat) : State :=
  let node := (s.conduit c).node
  let idx := bucket * max 1 (s.spans i) + span
  match Map.find (s.chart i).transit idx with
  | some t =>
    if !t.inbound then s
    else
      let g := s.staged c
      let mine (p : Staged) : Bool := decide (bucketOf p.seqId = bucket)
      let s := (s.setStage c { g with pages := g.pages.filter fun p => !mine p }).freeStaged (g.pages.filter mine)
      s.leaveTransit i idx (stranded.map fun q => (q, node))
  | none => s
def execBucketDone (h : CHdr) (comp : Comp) (bucket span : Nat) (stranded : List Nat) (s : State) : Host.Outcome State Fault Refusal :=
  .next (s.numbered h (32 + 8 * stranded.length) fun s => s.bucketDone h.conduit comp bucket span stranded)

/-- CLOSE (R303): no new sends; the end is CLOSED when nothing is outstanding. -/
def execClose (h : CHdr) (s : State) : Host.Outcome State Fault Refusal :=
  .next (s.numbered h 32 fun s => s.setConduit h.conduit { s.conduit h.conduit with closing := true })

/-- Whether the pair conduit is READY. -/
def State.pairReady (s : State) : Bool :=
  let x := s.conduit s.pair.conduit
  decide (x.st = .ready) && decide (x.node = s.pair.partner)

/-- An end bound for the partner is the pair conduit where this device has none that is READY. -/
def State.adoptPairConduit (s : State) (c node : Nat) : State :=
  if s.pair.st ≠ .off ∧ node = s.pair.partner ∧ !s.pairReady then { s with pair := { s.pair with conduit := c } }
  else s

/-- OPEN (R303): the end that it binds takes up what waits for a conduit to that node. -/
def execOpenMsg (h : CHdr) (node window : Nat) (s : State) : Host.Outcome State Fault Refusal :=
  let r := s.openReceived h node window
  .next (match r.2 with | some c => (r.1.adoptPairConduit c node).conduitReady c | none => r.1)

/-- OPEN_ACK (R303): 00h records the peer's end; 01h and 02h are error reasons 02h and 03h. DEDUCED, log entry 127. -/
def State.openAcked (s : State) (h : CHdr) (code : Nat) : State :=
  let x := s.conduit h.conduit
  if x.st = .closed ∨ x.gen ≠ h.gen then s.bump 0x270008
  else if x.st ≠ .opening then s
  else if code = 0 then (s.setConduit h.conduit { x with st := .ready, peer := h.peer, granted := h.grant, tries := 0 }).conduitReady h.conduit
  else s.conduitError h.conduit (if code = 1 then 2 else 3)
def execOpenAck (h : CHdr) (_node code : Nat) (s : State) : Host.Outcome State Fault Refusal := .next (s.openAcked h code)

/-- ACK (R307). -/
def execAck (h : CHdr) (s : State) : Host.Outcome State Fault Refusal :=
  .next (if s.heard h then s.hear h else s.bump 0x270008)

/-- The wait after a transmission (R308): 20 microseconds, doubled after each. -/
def State.waited (s : State) (last tries : Nat) : Bool := decide (s.time - last ≥ 20000 * 2 ^ (tries - 1))

/-- CONDUIT_RETRY (R308): once its wait has passed the message goes again, or after the eighth retry's wait its conduit enters ERROR. Number 0 is an OPEN. -/
def State.conduitRetry (s : State) (c seq : Nat) : State :=
  let x := s.conduit c
  if seq = 0 ∧ x.st = .opening then
    if !s.waited x.use x.tries then s
    else if x.tries ≥ 9 then s.conduitError c 4
    else ((s.setConduit c { x with tries := x.tries + 1, use := s.time }).sendPlain c 1 (openWord x.window x.grant)).bump 0x27000C
  else match Map.find x.unplaced seq with
    | some m =>
      if x.st ≠ .ready ∨ m.tries = 0 ∨ !s.waited m.last m.tries then s
      else if m.tries ≥ 9 then s.conduitError c 1
      else (s.transmit c seq true).bump 0x27000C
    | none => s
def execConduitRetry (conduit seq : Nat) (s : State) : Host.Outcome State Fault Refusal := .next (s.conduitRetry conduit seq)

/-- NO_ANSWER_TO_OPEN (R303, R308). -/
def execNoAnswerToOpen (conduit : Nat) (s : State) : Host.Outcome State Fault Refusal := .next (s.conduitRetry conduit 0)

/-- Control 01h of 2701h.0A on the selected conduit (R303): the peer node must be set, the conduit CLOSED and room left. -/
def State.conduitOpen (s : State) : Option State :=
  let c := s.obj 0x270101
  let x := s.conduit c
  if x.st ≠ .closed ∨ x.node = 0 ∨ !s.conduitRoom then none else some (s.openConduit c)
def execConduitOpenControl (s : State) : Host.Outcome State Fault Refusal := .next (s.conduitOpen.getD s)

/-- Control 02h (R303): CLOSE is sent behind what is queued. -/
def State.conduitClose (s : State) : Option State :=
  let c := s.obj 0x270101
  let x := s.conduit c
  if x.st ≠ .ready ∨ x.closing then none
  else
    let s := s.convey c 0x0A [] 0
    some (s.setConduit c { s.conduit c with closing := true })
def execConduitCloseControl (s : State) : Host.Outcome State Fault Refusal := .next (s.conduitClose.getD s)

/-- Control 03h (R303): an end in ERROR is freed. -/
def State.conduitReset (s : State) : Option State :=
  let c := s.obj 0x270101
  let x := s.conduit c
  if x.st ≠ .error then none else some (s.setConduit c x.freed)
def execConduitResetControl (s : State) : Host.Outcome State Fault Refusal := .next (s.conduitReset.getD s)

/-- The requests that a freeze waits for: those before its place. -/
def State.beforeFreeze (s : State) (seqId o : Nat) : Map Request :=
  Map.keep s.reqs fun _ q => decide (q.seqId = seqId) && decide (q.kind ≤ 9) && decide (q.order ≤ o)

/-- Send what a freeze sends (R317): the entries not yet sent, then SEAL. -/
def State.sendSeal (s : State) (r : Route) (seqId : Nat) : State :=
  let m := s.moveOf r
  match m.conduit, Map.find s.seqs seqId with
  | some c, some e =>
    if s.suspectOn r e then (s.strand r seqId).carry r
    else
      let x := s.sendEntries c r m seqId e
      (x.1.convey c 7 (s.ownDescriptor seqId e ++ e.counts.flatMap fun n => leBytes 4 n) seqId).setMove r { x.2 with sealing := true }
  | _, _ => s

/-- Whether the transfer's first sequence can seal: nothing before it runs, and no move of the sequence is under way. -/
def State.freezeReady (s : State) (seqId o : Nat) : Bool :=
  (s.beforeFreeze seqId o).isEmpty && (match Map.find s.seqs seqId with
    | some e => decide (e.st = .active ∨ e.st = .spilled ∨ e.st = .flushed)
    | none => true)

/-- The route of a freeze's sequence: the composition's, or the pair's. -/
def State.freezeRoute (s : State) (i seqId : Nat) : Option Route :=
  s.routes.find? fun r => decide ((s.moveOf r).todo.head? = some seqId) && (match r with | .pair => true | .chart j _ => decide (j = i))

/-- TRANSFER_FREEZE (R317): the transfer takes its place in the sequence's order, and its turn when nothing stands before it. -/
def State.transferFreeze (s : State) (i seqId : Nat) : State :=
  match s.freezeRoute i seqId with
  | none => s
  | some r =>
    let m := s.moveOf r
    if !m.copied ∨ m.sealing then s
    else
      let o := m.freeze.getD s.orderCtr
      let s := s.setMove r { m with freeze := some o, frozenAt := if m.freeze.isSome then m.frozenAt else s.time }
      if s.freezeReady seqId o then s.sendSeal r seqId else s
def execTransferFreeze (comp : Comp) (seqId : Nat) (s : State) : Host.Outcome State Fault Refusal := .next (s.transferFreeze comp seqId)

/-- FREEZE_LIMIT_EXPIRY (R321): the freeze limit after the freeze, what still runs before it ends MOVED, and the freeze proceeds once nothing is
left. A rebuild's freeze has the limit of the composition that the command names. DESIGN CHOICE, log entry 14. -/
def State.freezeLimit (s : State) (i seqId : Nat) : State :=
  match s.freezeRoute i seqId with
  | none => s
  | some r =>
    match (s.moveOf r).freeze with
    | none => s
    | some o =>
      if s.since (s.moveOf r).frozenAt < s.obj (recKey 0x2440 i 9) then s else
      let run (q : Request) : Bool := decide (q.seqId = seqId) && decide (q.kind ≤ 9) && decide (q.order ≤ o)
      let n := (Map.keep s.reqs fun _ q => run q && !q.claimed).length
      let away := movedAnswer (s.routePeer r) (match r with | .chart j _ => (s.chart j).epoch | .pair => s.epochOf seqId)
      let s := (s.endEvery (fun _ q => run q) away).bumpBy 0x243007 n
      if (s.moveOf r).sealing ∨ !s.freezeReady seqId o then s else s.sendSeal r seqId
def execFreezeLimitExpiry (comp : Comp) (seqId : Nat) (s : State) : Host.Outcome State Fault Refusal := .next (s.freezeLimit comp seqId)

end Sys2Proof.Machine
end

