-- ==== Sys2Proof/Machine/Charts.lean ====
section
/-! DEFINITION. The chart epoch protocol (R322 to R325) and the start of transfers (R317). -/

namespace Sys2Proof.Machine

/-- The first tide boundary after a time (R382). -/
def nextBoundary (t : Nat) : Nat := (t / 10000 + 1) * 10000
/-- The first tide boundary at or after a time. -/
def boundaryFrom (t : Nat) : Nat := (t + 9999) / 10000 * 10000

/-- A composition record's object, and its ID. -/
def compKey (i sub : Nat) : Nat := recKey 0x2440 i sub
def State.compId (s : State) (i : Nat) : Nat := s.obj (compKey i 1)

/-- Entries of a composition's charts (R314). -/
def State.chartEntries (s : State) (i : Nat) : Nat := 65536 * s.spans i

/-- Change a composition's chart state: its source fires (R514). -/
def State.chartState (s : State) (i : Nat) (c : Chart) : State := (s.setChart i c).arrive 0x012

/-- Whether a chart names this device with a slice that 2420h does not give to the composition (R324 reason 06h). -/
def State.sliceBad (s : State) (i : Nat) (m : Map Nat) : Bool :=
  m.any fun e => decide (entryNode e.2 = s.me) && decide (s.me ≠ 0) &&
    (decide (entrySlice e.2 ≥ 48) || decide (s.obj (0x242001 + entrySlice e.2) ≠ s.compId i))

/-- The nodes that a chart names, other than this device (R322). -/
def State.nodesOf (s : State) (m : Map Nat) : List Nat :=
  ((m.map fun e => entryNode e.2).filter fun n => decide (n ≠ 0) && decide (n ≠ s.me)).dedup

/-- The entries that differ between two charts. -/
def changedEntries (a b : Map Nat) : List Nat :=
  ((Map.keys a ++ Map.keys b).dedup).filter fun k => decide (Map.getD a k 0 ≠ Map.getD b k 0)

/-- The digest of a chart of `n` entries (R323, 2440h.0C): SHA3-512 over its entries in order. -/
def chartDigest (m : Map Nat) (n : Nat) : List Nat := sha3 ((List.range n).flatMap fun i => leBytes 4 (Map.getD m i 0))

/-- A CHART message's payload (R323): codes 1 PREPARE to 6 ABORT. `word` is a REFUSE's reason, a COMMIT's or COMMITTED's time. -/
def State.chartPayload (s : State) (i op epoch word : Nat) : List Nat :=
  let c := s.chart i
  let l := changedEntries c.chart c.prep
  leBytes 4 epoch ++ (match op with
    | 1 => leBytes 4 l.length ++ List.replicate 8 0 ++ chartDigest c.prep (s.chartEntries i) ++
        l.flatMap fun k => leBytes 4 k ++ leBytes 4 (Map.getD c.prep k 0)
    | 2 => [0, 0, 0, 0]
    | 3 => [word % 256, 0, 0, 0]
    | 4 => leBytes 8 word
    | 5 => leBytes 8 word
    | _ => [])

/-- Send a CHART message (R323): its kind word names the operation and the composition. -/
def State.sendChart (s : State) (i op node epoch word : Nat) : State :=
  { s with out := .chart i op node epoch word :: s.out }.sendSystem 6 0 node (s.chartPayload i op epoch word) (op + 256 * (s.compId i % 65536))

/-- Send a CHART message to many nodes. -/
def State.sendCharts (s : State) (i op epoch word : Nat) (nodes : List Nat) : State :=
  nodes.foldl (fun s n => s.sendChart i op n epoch word) s

/-- Whether controls 01h and 04h may act (R325, R327); a slice that fails stands in 2440h.0D. -/
def State.installable (s : State) (i : Nat) : Bool :=
  let c := s.chart i
  decide (c.st = .idle) && decide (s.compId i ≠ 0) && decide (c.pendLen = s.chartEntries i)

/-- Every PREPARED is in (R325): COMMIT names a boundary at least 100 microseconds ahead. -/
def State.commitIfAll (s : State) (i : Nat) : State :=
  let c := s.chart i
  if c.st = .proposing ∧ c.members.all c.answered.contains then
    let b := boundaryFrom (s.time + 100000)
    (s.chartState i { c with st := .prepared, boundary := some b, resend := [], sentTo := c.members.foldl (fun m n => Map.put m n s.time) [] }).sendCharts i 4 c.pendEpoch b c.members
  else s

/-- Control 01h (R322, R325). -/
def State.proposeChart (s : State) (i : Nat) : Option State := s.dutyTry 3 <|
  let c := s.chart i
  if !s.installable i then none
  else if s.sliceBad i c.pend then none
  else if (changedEntries c.chart c.pend).length > 131062 then some (s.setObj (compKey i 0xD) 0x11)
  else
    let c := { c with st := .proposing, prep := c.pend, pendEpoch := c.epoch + 1, proposer := s.me, answered := [], committed := [],
                      members := (s.nodesOf c.chart ++ s.nodesOf c.pend).dedup, resend := [] }
    let c := { c with sentTo := c.members.foldl (fun m n => Map.put m n s.time) [] }
    some (((s.chartState i c).sendCharts i 1 c.pendEpoch 0 c.members).commitIfAll i)

/-- A slice refusal is noted though the write is refused (R327). -/
def State.noteSlice (s : State) (i : Nat) : State := s.byDuty 3 fun s =>
  if s.installable i && s.sliceBad i (s.chart i).pend then s.setObj (compKey i 0xD) 6 else s
def execChartPropose (comp : Comp) (s : State) : Host.Outcome State Fault Refusal :=
  .next ((s.proposeChart comp).getD (s.noteSlice comp))

/-- The chart that a PREPARE describes: the current one with its changes. -/
def applyChanges (m : Map Nat) (l : List (Nat × Nat)) : Map Nat := l.foldl (fun m e => Map.putD m e.1 (e.2 % 2 ^ 27) 0) m

/-- The reason for which a member refuses a PREPARE, the lowest code first (R324). DEDUCED, log entry 64. -/
def State.prepareRefusal (s : State) (i epoch : Nat) (m : Map Nat) (digest : Nat) : Nat :=
  let c := s.chart i
  if digest ≠ leNat (chartDigest m (s.chartEntries i)) then 1
  else if epoch ≠ c.epoch + 1 then 2
  else if c.transit ≠ [] then 3
  else if c.st ≠ .idle then 4
  else if s.compId i = 0 then 5
  else if s.sliceBad i m then 6
  else 0

/-- CHART_PREPARE (R324, R325): a repeated one is answered as the first was. -/
def State.chartPrepare (s : State) (i node epoch : Nat) (changes : List (Nat × Nat)) (digest : Nat) : State :=
  let c := s.chart i
  let m := applyChanges c.chart changes
  if c.st = .prepared ∧ epoch = c.pendEpoch ∧ node = c.proposer ∧ m = c.prep then s.sendChart i 2 node epoch 0
  else
    let r := s.prepareRefusal i epoch m digest
    if r ≠ 0 then (s.setObj (compKey i 0xD) r).sendChart i 3 node epoch r
    else (s.chartState i { c with st := .prepared, prep := m, pendEpoch := epoch, proposer := node, boundary := none }).sendChart i 2 node epoch 0
def execChartPrepare (comp : Comp) (node epoch : Nat) (changes : List (Nat × Nat)) (digest : Nat) (s : State) :
    Host.Outcome State Fault Refusal := .next (s.byDuty 3 fun s => s.chartPrepare comp node epoch changes digest)

/-- PREPARED (R325). -/
def State.chartPrepared (s : State) (i node epoch : Nat) : State :=
  let c := s.chart i
  if c.st = .proposing ∧ epoch = c.pendEpoch ∧ node ∈ c.members then
    (s.setChart i { c with answered := insertNat c.answered node }).commitIfAll i
  else s
def execPrepared (comp : Comp) (node epoch : Nat) (s : State) : Host.Outcome State Fault Refusal := .next (s.byDuty 3 fun s => s.chartPrepared comp node epoch)

/-- Discard what an epoch under way prepared. -/
def Chart.dropped (c : Chart) : Chart := { c with st := .idle, prep := [], boundary := none, members := [], answered := [], resend := [] }

/-- CHART_REFUSE (R325): ABORT goes to every member, and reason 10h stands. -/
def State.chartRefused (s : State) (i node epoch : Nat) : State :=
  let c := s.chart i
  if c.st = .proposing ∧ epoch = c.pendEpoch ∧ node ∈ c.members then
    ((s.setObj (compKey i 0xD) 0x10).sendCharts i 6 epoch 0 c.members).chartState i c.dropped
  else s
def execChartRefuse (comp : Comp) (node epoch _reason : Nat) (s : State) : Host.Outcome State Fault Refusal := .next (s.byDuty 3 fun s => s.chartRefused comp node epoch)

/-- CHART_COMMIT (R325): the chart becomes current at the boundary, or at the next tide boundary where that has passed. One already
current is answered again. -/
def State.chartCommit (s : State) (i epoch boundary : Nat) : State :=
  let c := s.chart i
  if c.st = .prepared ∧ epoch = c.pendEpoch then
    let b := if boundary ≤ s.time then nextBoundary s.time else boundary
    s.setChart i { c with boundary := if c.boundary.isSome then c.boundary else some b }
  else if epoch = c.epoch ∧ c.proposer ≠ s.me ∧ c.proposer ≠ 0 then s.sendChart i 5 c.proposer epoch c.committedAt
  else s
def execChartCommit (comp : Comp) (epoch boundary : Nat) (s : State) : Host.Outcome State Fault Refusal := .next (s.byDuty 3 fun s => s.chartCommit comp epoch boundary)

/-- COMMITTED (R323). -/
def State.chartCommitted (s : State) (i node epoch : Nat) : State :=
  let c := s.chart i
  if c.proposer = s.me ∧ (epoch = c.pendEpoch) then s.setChart i { c with committed := insertNat c.committed node } else s
def execCommitted (comp : Comp) (node epoch : Nat) (s : State) : Host.Outcome State Fault Refusal := .next (s.byDuty 3 fun s => s.chartCommitted comp node epoch)

/-- CHART_ABORT (R325). -/
def State.chartAbort (s : State) (i epoch : Nat) : State :=
  let c := s.chart i
  if c.st = .prepared ∧ epoch = c.pendEpoch then s.chartState i c.dropped else s
def execChartAbort (comp : Comp) (epoch : Nat) (s : State) : Host.Outcome State Fault Refusal := .next (s.byDuty 3 fun s => s.chartAbort comp epoch)

/-- CHART_RESEND (R324): a message that has had no answer for its wait, 20 microseconds at first, goes again, its wait doubled up to 1 ms. -/
def State.chartResend (s : State) (i node : Nat) : State :=
  let c := s.chart i
  let wait := Map.getD c.resend node 20
  if c.proposer ≠ s.me ∨ node ∉ c.members ∨ s.since (Map.getD c.sentTo node 0) < wait then s
  else
    let s := s.setChart i { c with resend := Map.put c.resend node (min 1000 (2 * wait)), sentTo := Map.put c.sentTo node s.time }
    if c.st = .proposing ∧ node ∉ c.answered then s.sendChart i 1 node c.pendEpoch 0
    else if c.st ≠ .proposing ∧ node ∉ c.committed then s.sendChart i 4 node c.pendEpoch (c.boundary.getD c.committedAt)
    else s
def execChartResend (comp : Comp) (node : Nat) (s : State) : Host.Outcome State Fault Refusal := .next (s.byDuty 3 fun s => s.chartResend comp node)

/-- The sequences of a bucket under a composition, most recent last use first (R317). -/
def State.bucketSeqs (s : State) (i bucket : Nat) : List Nat :=
  ((s.oldestFirst fun q _ => decide (bucketOf q = bucket) && decide (s.compOf (tenantOf q) = some i)).map Prod.fst).reverse

/-- The entries that go into transit when a chart replaces another (R317): from this device, or to it. -/
def State.transitsOf (s : State) (i : Nat) (c : Chart) : Map Transit :=
  (changedEntries c.chart c.prep).foldl (fun m idx =>
    let old := entryNode (Map.getD c.chart idx 0)
    let new := entryNode (Map.getD c.prep idx 0)
    let bucket := idx / max 1 (s.spans i)
    let kept := c.stranded.any fun x => decide (x.2 = s.me) && decide (bucketOf x.1 = bucket)
    if old = new ∨ new = 0 then m
    else if new ≠ s.me ∧ (old = s.me ∨ kept) then Map.put m idx { inbound := false, peer := new, move := { todo := s.bucketSeqs i bucket } }
    else if new = s.me ∧ old ≠ 0 ∧ !kept then Map.put m idx { inbound := true, peer := old }
    else m) []

/-- S3 opens a conduit to each destination (R317). -/
def State.openTransfers (s : State) (i : Nat) : State :=
  let peers := (((s.chart i).transit.filter fun t => !t.2.inbound).map fun t => t.2.peer).dedup
  peers.foldl (fun s n => match s.openTo n with | some r => r.1 | none => s) s

/-- A prepared chart becomes current (R325): holds go through check 3 again, a member answers COMMITTED, transfers start. -/
def State.commitChart (s : State) (i : Nat) : State :=
  let c := s.chart i
  let moved := (changedEntries c.chart c.prep).filter fun k => decide (entryNode (Map.getD c.chart k 0) ≠ entryNode (Map.getD c.prep k 0))
  let tr := s.transitsOf i c
  let buckets := moved.map fun k => k / max 1 (s.spans i)
  let d := { c with st := if tr = [] then .idle else .transferring, epoch := c.pendEpoch, chart := c.prep, chartLen := s.chartEntries i,
                    prep := [], boundary := none, committedAt := s.time, transit := tr,
                    stranded := c.stranded.filter fun x => !buckets.contains (bucketOf x.1) }
  let s := s.chartState i d
  let s := if c.proposer = s.me ∨ c.proposer = 0 then s else s.sendChart i 5 c.proposer c.pendEpoch s.time
  (s.openTransfers i).rerunHolds i

/-- CHART_BOUNDARY (R325): the boundary that the commit names has come. -/
def State.chartBoundary (s : State) (i : Nat) : State :=
  let c := s.chart i
  match c.boundary with
  | some b => if c.st = .prepared ∧ b ≤ s.time then s.commitChart i else s
  | none => s
def execChartBoundary (comp : Comp) (s : State) : Host.Outcome State Fault Refusal := .next (s.chartBoundary comp)

/-- Control 02h (R325): the prepared epoch commits, at the next tide boundary where no COMMIT names one. -/
def State.chartCommitHere (s : State) (i : Nat) : Option State := s.dutyTry 3 <|
  let c := s.chart i
  if c.st ≠ .prepared then none
  else some (if c.boundary.isSome then s else s.setChart i { c with boundary := some (nextBoundary s.time) })
def execChartCommitControl (comp : Comp) (s : State) : Host.Outcome State Fault Refusal := .next ((s.chartCommitHere comp).getD s)

/-- Control 03h (R325). -/
def State.chartAbortHere (s : State) (i : Nat) : Option State := s.dutyTry 3 <|
  let c := s.chart i
  if c.st ≠ .prepared then none else some (s.chartState i c.dropped)
def execChartAbortControl (comp : Comp) (s : State) : Host.Outcome State Fault Refusal := .next ((s.chartAbortHere comp).getD s)

/-- Control 04h (R325): the pending chart at the install epoch. -/
def State.chartInstall (s : State) (i : Nat) : Option State := s.dutyTry 3 <|
  let c := s.chart i
  if !s.installable i ∨ s.sliceBad i c.pend then none
  else some ((s.chartState i { c with chart := c.pend, chartLen := c.pendLen, epoch := s.obj (compKey i 0xB), committedAt := s.time }).rerunHolds i)
def execChartInstall (comp : Comp) (s : State) : Host.Outcome State Fault Refusal := .next ((s.chartInstall comp).getD (s.noteSlice comp))

/-- Control 05h (R320, R325): every entry in transit is abandoned; what has not sealed stays at its source, stranded. -/
def State.abandonTransfers (s : State) (i : Nat) : Option State := s.dutyTry 3 <|
  let c := s.chart i
  if c.st ≠ .transferring then none
  else
    let mine := c.transit.flatMap fun t => if t.2.inbound then [] else (t.2.stranded ++ t.2.move.todo).map fun q => (q, s.me)
    let buckets := (c.transit.filter fun t => t.2.inbound).map fun t => t.1 / max 1 (s.spans i)
    let dead (p : Staged) : Bool := buckets.contains (bucketOf p.seqId) && decide (s.compOf (tenantOf p.seqId) = some i)
    let gone := s.stage.flatMap fun g => g.2.pages.filter dead
    let s := { s with stage := Map.each s.stage fun _ g => { g with pages := g.pages.filter fun p => !dead p } }.freeStaged gone
    some (((s.setChart i { c with transit := [], stranded := c.stranded ++ mine }).settleChart i).rerunHolds i)
def execAbandonTransfers (comp : Comp) (s : State) : Host.Outcome State Fault Refusal := .next ((s.abandonTransfers comp).getD s)

end Sys2Proof.Machine
end

