-- ==== Sys2Proof/Machine/Expander.lean ====
section
/-! DEFINITION. The exponent expander (R72, R248, R251 to R253) and the DMA engine (R73, R171, R347). -/

namespace Sys2Proof.Machine

/-- Bytes in an expander's input queue. -/
def queueBytes (q : List (List Nat)) : Nat := (q.map List.length).sum

/-- Bytes of the input queue (R76). -/
def expanderQueue : Nat := 2097152

/-- Where an XBLK puts its output: a reservoir region, or from 2^31 on an array's idle tile register (R72). -/
def Polder.xblkTarget (x : Polder) (dst n : Nat) : Option Nat :=
  if dst ≥ 2 ^ 31 then
    let a := (dst - 2 ^ 31) % 2
    if n ≤ 131072 then some (tileBuf a (1 - Map.getD x.active a 0 % 2)) else none
  else if x.owns (unitKey 4 0) dst n then some dst else none

/-- A malformed block in a lane (R253): the lane's outputs, or those of every bound lane, are suppressed as for a LATE lane, and
the block is counted and raised. -/
def State.malformedBlock (s : State) (p lane : Nat) : State :=
  let x := s.polder p
  let mark (l : Nat) (a : Lane) : Lane :=
    if (lane = 0 ∨ l = lane) ∧ (x.laneAt s.time l).isSome then { a with tainted := true, checkDetail := if a.checkDetail = 0 then 0x10 else a.checkDetail } else a
  ((s.setPolder p { x with lanes := Map.each x.lanes mark }).bump 0x2A0004).arrive (polderSource p 8)

/-- XBLK (R72, R251 to R253): the blocks at the head of the queue are decoded one after another; a malformed block gives no
output and the following output stands where it would have stood. A tile register takes the first block's format (R98). DEDUCED, log entry 31. -/
def execXblk (p : Pol) (c : Slot) (m dst : Nat) (s : State) : Host.Outcome State Fault Refusal :=
  .next (s.slot p 4 0x40 c false (fun x => ((x.xq.take m).map blockSteps).sum) fun _ s =>
    let x := s.polder p
    let bl := x.xq.take m
    let sizes := bl.map fun b => leNat ((b.drop 4).take 2)
    match x.xblkTarget dst sizes.sum with
    | none => if m ≤ 102 then .error 1 else .error 7
    | some a => guards [(7, decide (m ≤ 102))] fun _ =>
      let one (acc : State × Nat) (b : List Nat) : State × Nat :=
        let d := leNat ((b.drop 4).take 2)
        match decodeBlock x.xtab b with
        | some out => (acc.1.save p acc.2 out, acc.2 + d)
        | none => (acc.1.malformedBlock p c.lane, acc.2 + d)
      let tile := fun m => if dst < 2 ^ 31 then m else
        let u := (dst - 2 ^ 31) % 2
        Map.put m (tileKey u (1 - x.activeTile u)) (nth (bl.headD []) 2 % 16)
      (bl.foldl one (s.setPolder p { x with xq := x.xq.drop m, tileFmt := tile x.tileFmt }, a)).1)

/-- XTAB (R248): one 160-byte table record into a table slot. -/
def execXtab (p : Pol) (c : Slot) (src : Nat) (slot : Fin 4) (s : State) : Host.Outcome State Fault Refusal :=
  .next (s.slot p 4 0x41 c false (fun _ => 64) fun _ s =>
    let x := s.polder p
    guards [(1, x.owns (unitKey 4 c.unit) src 160)] fun _ =>
      s.setPolder p { x with xtab := Map.put x.xtab slot (leNat (x.load src 160)) })

/-- Blocks enter the expander's queue; its high-water mark follows (2A00h.07). -/
def State.fillQueue (s : State) (p : Nat) (blocks : List (List Nat)) : State :=
  let x := s.polder p
  let q := x.xq ++ blocks
  let s := s.setPolder p { x with xq := q }
  s.setObj 0x2A0007 (max (s.obj 0x2A0007) (queueBytes q))

/-- The blocks of a fill of `n` bytes: those that come whole within it. -/
def fillOf : Nat → List (List Nat) → List (List Nat)
  | _, [] => []
  | n, b :: l => if b.length ≤ n then b :: fillOf (n - b.length) l else []

/-- XREQ (R72, R152): a tier fill of the queue; the blocks are what the tier delivers, whole blocks of the fill's bytes, from T2 or from
`drive`. DEDUCED, log entry 31. -/
def execXreq (p : Pol) (c : Slot) (bytes : Nat) (blocks : List (List Nat)) (drive : Option Drive) (s : State) : Host.Outcome State Fault Refusal :=
  .next (s.slot p 4 0x42 c false (fun _ => 4) fun _ s =>
    guards [(7, decide (bytes ≤ expanderQueue)), (8, decide (queueBytes (s.polder p).xq + bytes ≤ expanderQueue))] fun _ =>
      (s.work (match drive with | some d => flashRoot d | none => hostLink) 2 bytes).fillQueue p (fillOf bytes blocks))

/-- The window offset that a DMA slot's row, unit and offset name; its bytes run on from there in the order of R533. -/
def dmaAddr (p row unit off : Nat) : Nat := bankAddr p unit row off

/-- Whether a run of bytes lies in a polder's stack. -/
def inStack (p a n : Nat) : Bool := decide (p * 2 ^ 37 ≤ a) && decide (a + n ≤ p * 2 ^ 37 + Config.framesPerStack * 65536)

/-- DCOPY (R73): between HBM and a reservoir region. A read is checked (R347) and a write gives fresh check words (R346). The rotation
share of 4 that it requires is left to the program (R79): with another it runs the same. DESIGN CHOICE, log entry 147. -/
def execDcopy (p : Pol) (c : Slot) (bytes row unit off res : Nat) (toHbm upset : Bool) (s : State) : Host.Outcome State Fault Refusal :=
  .next (s.slot p 5 0x50 c false (fun _ => ceilDiv bytes 1024 + 16) fun quiet s =>
    let a := dmaAddr p row unit off
    guards [(7, decide (bytes ≤ 4177920)), (1, inStack p a bytes), (1, (s.polder p).owns (unitKey 5 c.unit) res bytes)] fun _ =>
      if toHbm then (if quiet then s else s.writeStack a ((s.polder p).load res bytes))
      else
        let r := s.unitRead p c.lane a bytes upset true
        if r.2 then r.1.save p res (Memory.bytes s.mem a bytes) else r.1)

/-- A block of 64 tokens by `ch` channels, turned to `ch` rows of 64 (R171). -/
def transposed (ch : Nat) (bs : List Nat) : List Nat :=
  (List.range ch).flatMap fun i => (List.range 64).map fun t => nth bs (t * ch + i)

/-- DLS (R73, R171): between a reservoir region and a core's local store, turned where `transpose` gives the channels. -/
def execDls (p : Pol) (c : Slot) (bytes res core at_ : Nat) (toCore : Bool) (transpose : Nat) (s : State) :
    Host.Outcome State Fault Refusal :=
  .next (s.slot p 5 0x51 c false (fun x => ceilDiv bytes (256 * x.share 3) + 8) fun _ s =>
    let x := s.polder p
    guards [(7, decide (bytes ≤ 4088 * 256 * x.share 3)), (1, x.owns (unitKey 5 c.unit) res bytes), (1, x.inLocal core at_ bytes)]
      fun _ =>
      let bs := x.load (if toCore then res else lsAddr core at_) bytes
      let bs := if transpose = 0 then bs else (chunks (64 * transpose) (bytes + 1) bs).flatMap (transposed transpose)
      s.save p (if toCore then lsAddr core at_ else res) bs)

/-- DMESH (R73): from a reservoir region to another polder's. It fills the outbound queue at the 512 bytes per step at which the port
drains it (R17), so that no more than a step's bytes are its own there at once. DEDUCED, log entry 148. -/
def execDmesh (p : Pol) (c : Slot) (bytes res : Nat) (dstPol : Pol) (dstOff : Nat) (s : State) : Host.Outcome State Fault Refusal :=
  .next (s.slot p 5 0x52 c true (fun _ => ceilDiv bytes 512 + 8) fun quiet s =>
    let x := s.polder p
    guards [(7, decide (bytes ≤ 2093056)), (1, x.owns (unitKey 5 c.unit) res bytes), (1, decide (dstOff + bytes ≤ reservoirBytes)),
            (8, quiet || decide (x.outq + min bytes 512 ≤ meshQueue))] fun _ =>
      if quiet then s else s.meshSend p (x.load res bytes) (min bytes 512) dstPol dstOff)

/-- DFILL (R73): from HBM into the expander's queue. -/
def execDfill (p : Pol) (c : Slot) (bytes row unit off : Nat) (upset : Bool) (s : State) : Host.Outcome State Fault Refusal :=
  .next (s.slot p 5 0x53 c false (fun _ => ceilDiv bytes 1024 + 16) fun _ s =>
    let a := dmaAddr p row unit off
    guards [(7, decide (bytes ≤ 4177920)), (1, inStack p a bytes),
            (8, decide (queueBytes (s.polder p).xq + bytes ≤ expanderQueue))] fun _ =>
      let r := s.unitRead p c.lane a bytes upset true
      if r.2 then r.1.fillQueue p (splitBlocks (bytes + 1) (Memory.bytes s.mem a bytes)) else r.1)

end Sys2Proof.Machine
end

