-- ==== Sys2Proof/Machine/Recovery.lean ====
section
/-! DEFINITION. The recovery ladder (R352 to R357, R573, R574), the partner's fetch, lost sequences (R372), and the patrol. -/

namespace Sys2Proof.Machine

/-- A frame that ends the ladder GOOD. -/
def State.goodFrame (s : State) (f : Nat) (x : Frame) : State :=
  { s with frames := Map.put s.frames f { x with health := .good, ladderSeq := 0, noFetch := false } }

/-- A frame whose stored copy has been made good: counted, and raised (R352). -/
def State.recovered (s : State) (f sub : Nat) (x : Frame) : State :=
  ((s.goodFrame f x).bump (recKey 0x2C00 (framePolder f) sub)).arrive (polderSource (framePolder f) 4)

/-- A FETCH's body (R357): the sequence, the key of a page that names the frame, the frame, and the page header as last read, zero where its
sector failed. -/
def State.fetchBody (s : State) (seqId f : Nat) (x : Frame) : List Nat :=
  let key := match Map.find s.seqs seqId with
    | some e => (match e.leaves.find? fun l => decide (l.2.val = f) with | some l => l.1 | none => 0)
    | none => 0
  leBytes 8 seqId ++ leBytes 4 key ++ leBytes 4 (f % 2 ^ 24) ++ (if s.readOk (f * 65536) 64 false then hdrBytes x else List.replicate 48 0)

/-- The re-read of a frame ends (R352, R573): a lost frame ends LOST, one that its sequence no longer names ends without a
count, one that passes is a transient, and one that fails is fetched from the partner or lost. -/
def State.reread (s : State) (f : Nat) (pass : Bool) : State :=
  match Map.find s.frames f with
  | none => s
  | some x =>
    if x.health ≠ .reread then s
    else if x.hdr.lost then { s with frames := Map.put s.frames f { x with health := .lost } }
    else if !s.names x.ladderSeq f then s.goodFrame f x
    else if pass && s.readOk (f * 65536) 65536 false then s.recovered f 3 x
    else if s.pair.st = .paired ∧ !x.noFetch then
      let s := { s with frames := Map.put s.frames f { x with health := .fetching, since := s.time } }
      if s.pairReady then s.convey s.pair.conduit 0x0B (s.fetchBody x.ladderSeq f x) x.ladderSeq f else s
    else s.loseFrame f

/-- A table-pool sector that fails its re-read costs the sequences that lie in it (R372): lost here, where the partner leads them
while PAIRED, and lost sequences otherwise, 16 384 at most. Their descriptors are gone. DEDUCED, log entry 68. -/
def State.loseSequences (s : State) (l : List Nat) : State :=
  let l := l.filter fun i => Map.has s.seqs i
  let s : State := l.foldl (fun (s : State) i => match Map.find s.seqs i with | some e => e.frameList.foldl (fun s k => s.journal k (-1)) s | none => s) s
  let s := { s with seqs := l.foldl Map.del s.seqs }
  if s.pair.st = .paired then { s with lostHere := l.foldl insertNat s.lostHere }
  else { s with lostSeqs := l.foldl (fun m i => if m.length < 16384 then insertNat m i else m) s.lostSeqs }

/-- REREAD_DONE (R352, R372): `pass` says that the stored bits were read as written; `seqs` are the sequences whose descriptor or granule lies in a table-pool sector. -/
def execRereadDone (frame : Nat) (pass : Bool) (seqs : List Nat) (s : State) : Host.Outcome State Fault Refusal :=
  .next (if Map.has s.frames frame then s.reread frame pass else if pass then s else s.loseSequences seqs)

/-- Answer a partner's FETCH from this device's own page table (R357): 00h found, 01h no such sequence or page, 02h lost, 03h
when its own copy fails, which starts a ladder that cannot fetch back. DEDUCED, log entry 69. -/
def State.answerFetch (s : State) (c seqId key : Nat) (ok : Bool) : State :=
  let say (s : State) (code : Nat) (page : List Nat) : State :=
    s.convey c 0x0C (leBytes 8 seqId ++ leBytes 4 key ++ [code % 256, 0, 0, 0] ++ page) seqId
  match Map.find s.seqs seqId with
  | none => say s 1 []
  | some e =>
    match Map.find e.leaves key with
    | none => say s 1 []
    | some l =>
      match Map.find s.frames l.val with
      | none => say s 1 []
      | some x =>
        let sh := s.shape e.binding
        if l.loc = 2 then say s 1 []
        else if l.loc = 3 ∨ x.hdr.lost then say s 2 []
        else if ok && s.pageReads l.val sh then say (s.pageAccess 2 l.val sh) 0 (s.pageBytes l.val sh)
        else
          let s := { s with frames := Map.put s.frames l.val { x with noFetch := true } }
          say (s.checkFailed l.val (some seqId) true) 3 []
def execFetch (h : CHdr) (seqId key _frame : Nat) (checkOk : Bool) (s : State) : Host.Outcome State Fault Refusal :=
  .next (s.numbered h 96 fun s => s.answerFetch h.conduit seqId key checkOk)

/-- The regions of a page area in unit order (R186), from its key sections and then its value sections (R231). -/
def byUnit (valOff : Nat) (data : List Nat) : List Nat :=
  let kr := valOff - 256
  let vr := data.length / 4 - kr
  (List.range 4).flatMap fun u => (data.drop (u * kr)).take kr ++ (data.drop (4 * kr + u * vr)).take vr

/-- A FETCHED reply (R352): a copy that matches the page key and its own payload check is rewritten in place (R354); any other
answer loses the page. -/
def State.fetched (s : State) (seqId key result : Nat) (hdr : PageHdr) (data : List Nat) : State :=
  match Map.find s.seqs seqId with
  | none => s
  | some e =>
    let sh := s.shape e.binding
    match Map.find e.leaves key with
    | none => s
    | some l =>
      match Map.find s.frames l.val with
      | none => s
      | some x =>
        if x.health ≠ .fetching then s
        else if result = 0 ∧ hdr.layer = keyLayer sh key ∧ hdr.group = keyGroup sh key ∧ hdr.first = keyPage key * 64 ∧
            crc64 (byUnit hdr.valOff data) = hdr.check then
          (s.writePage l.val hdr data).putFrame l.val { x with hdr := { hdr with lost := false }, health := .rewriting }
        else s.loseFrame l.val
def execFetched (h : CHdr) (seqId key result : Nat) (hdr : PageHdr) (data : List Nat) (s : State) :
    Host.Outcome State Fault Refusal :=
  .next (s.numbered h (if result = 0 then 96 + data.length else 48) fun s => s.fetched seqId key result hdr data)

/-- FETCH_TIMEOUT (R352): no answer within 2C10h.05. -/
def execFetchTimeout (frame : Nat) (s : State) : Host.Outcome State Fault Refusal :=
  .next (match Map.find s.frames frame with
    | some x => if x.health = .fetching ∧ s.obj 0x2C1005 ≤ s.since x.since then s.loseFrame frame else s
    | none => s)

/-- Retire the row of a frame (R355): its four frames, an aligned run of four frame numbers, leave the page pool. DEDUCED, log entry 66. -/
def State.retireRow (s : State) (f : Nat) : State :=
  let s := { s with retired := (List.range 4).foldl (fun l i => insertNat l (f - f % 4 + i)) s.retired }
  (s.bump 0x2C0805).logEvent 3 1 (framePolder f) 1 f

/-- REWRITE_READBACK (R352). -/
def execRewriteReadback (frame : Nat) (pass : Bool) (s : State) : Host.Outcome State Fault Refusal :=
  .next (match Map.find s.frames frame with
    | some x => if x.health ≠ .rewriting then s
      else if pass && s.readOk (frame * 65536) 65536 false then s.recovered frame 4 x
      else (s.retireRow frame).loseFrame frame
    | none => s)

/-- The last frame of the last stack, with which a patrol pass ends. DESIGN CHOICE, log entry 67. -/
def lastFrame : Nat := 7 * 2 ^ 21 + Config.framesPerStack - 1

/-- PATROL_READ (R356): a failing frame is marked SUSPECT; the pass counts when the last frame is read. What the stack's on-die ECC corrected
since the last read is counted (R4, R226). DESIGN CHOICE, log entry 67. -/
def execPatrolRead (frame : Nat) (upset : Bool) (corrections : Nat) (s : State) : Host.Outcome State Fault Refusal :=
  .next (
    let s := s.bumpBy (recKey 0x2C00 (framePolder frame % 8) 8) corrections
    let s := if s.readOk (frame * 65536) 65536 upset then s else s.checkFailed frame none true
    if frame = lastFrame then s.bump 0x2C0802 else s)

end Sys2Proof.Machine
end

