-- ==== Sys2Proof/Machine/Mirror.lean ====
section
/-! DEFINITION. The redundant pair (R292, R358 to R369): beats, mirror records, sole-owner mode, rebuilds. -/

namespace Sys2Proof.Machine

/-- Record numbers begin again at 1 in each direction (R362): when a pair forms, and when a rebuild begins. DEDUCED, log entry 70. -/
def Pair.renumber (p : Pair) : Pair :=
  { p with next := 1, placed := 0, sent := 0, unplaced := [], rxPlaced := 0, heldRecs := [], lacking := none }

/-- The number that a 32-bit count stands for at or after a number already reached (R379). -/
def fullSeq (base w : Nat) : Nat := base + gap w base

/-- Sole-owner entry (R365, R366): the cause is kept and logged, no more records go out, the waiting writes commit; a rebuild is
abandoned. -/
def State.enterSole (s : State) (cause : Nat) : State :=
  match s.pair.st with
  | .paired => (({ s with pair := { s.pair with cause := cause } }.setPairState .soleOwner).giveUpRecords).logEvent 6 0 0 cause 0
  | .rebuilding => s.dropRebuild
  | _ => s

/-- PAIRED ends here because this device is fenced or refuses a record: it stops applying records (R365). DEDUCED, log entry 73. -/
def State.detach (s : State) : State :=
  if s.pair.st ≠ .paired then s else { s with pair := { s.pair with heldRecs := [] } }.setPairState .detached

/-- What the partner says it has placed (R361): the window slides, and the writes whose records are all placed commit. -/
def State.recordsPlaced (s : State) (w : Nat) : State :=
  let p := s.pair
  let n := fullSeq p.placed w
  if n = p.placed ∨ n > p.sent then s
  else
    let s := { s with pair := { p with placed := n, unplaced := Map.keep p.unplaced fun k _ => decide (k > n) } }
    (s.commitRecords (p.placed + 1) (n - p.placed)).sendWindow

/-- Whether this device applies records: PAIRED, or DETACHED while the partner rebuilds it (R365, R368). DEDUCED, log entry 71. -/
def State.applies (s : State) : Bool := decide (s.pair.st = .paired) || (decide (s.pair.st = .detached) && s.pair.receiving)

/-- A record that no request came of waits for a resource, from the first time on (R363). -/
def State.noteLack (s : State) (n : Nat) : State :=
  if s.reqs.any fun e => decide (e.2.src = .mirror n) then s
  else match s.pair.lacking with
    | some (m, t) => { s with pair := { s.pair with lacking := some (n, if m = n then t else s.time) } }
    | none => { s with pair := { s.pair with lacking := some (n, s.time) } }

/-- Apply the records that are held, in sequence order, each once the one before it is placed (R363). -/
def State.applyRecords (s : State) : Nat → State
  | 0 => s
  | fuel + 1 =>
    let n := s.pair.rxPlaced + 1
    match Map.find s.pair.heldRecs n with
    | none => s
    | some r =>
      if s.reqs.any fun e => decide (e.2.src = .mirror n) then s
      else
        let s' := s.request r
        if s'.pair.rxPlaced = n then s'.applyRecords fuel else s'.noteLack n

/-- The most records that are unplaced at once (R363). -/
def recordWindow : Nat := 64

/-- MIRROR_RECORD (R363): what it acknowledges is placed; a record of the window is held for its turn, one already placed is
acknowledged again. DEDUCED, log entry 72. -/
def State.mirrorRecord (s : State) (seq placed : Nat) (r : Req) : State :=
  let s := s.recordsPlaced placed
  let n := fullSeq s.pair.rxPlaced seq
  if !s.applies then s
  else if n = s.pair.rxPlaced ∨ gap seq s.pair.rxPlaced ≥ 2 ^ 31 then s.recordDone s.pair.rxPlaced true
  else if n > s.pair.rxPlaced + recordWindow then s
  else
    let rec_ : Req := { r with src := .mirror n }
    { s with pair := { s.pair with heldRecs := Map.put s.pair.heldRecs n rec_ } }.applyRecords recordWindow
def execMirrorRecord (seq placed : Nat) (r : Req) (s : State) : Host.Outcome State Fault Refusal := .next (s.mirrorRecord seq placed r)

/-- MIRROR_ACK (R361, R365): a refused record makes this device sole owner. -/
def State.mirrorAck (s : State) (placed refused : Nat) : State :=
  let s := s.recordsPlaced placed
  if refused = 0 then s else s.enterSole 5
def execMirrorAck (placed refused : Nat) (s : State) : Host.Outcome State Fault Refusal := .next (s.mirrorAck placed refused)

/-- MIRROR_RETRY (R308, R363): the record goes again; after the eighth retry's wait this device is sole owner. -/
def State.mirrorRetry (s : State) (seq : Nat) : State :=
  let n := fullSeq s.pair.placed seq
  match Map.find s.pair.unplaced n with
  | none => s
  | some m =>
    if m.tries = 0 ∨ s.fence.st = .fenced ∨ !s.waited m.last m.tries then s
    else if m.tries ≥ 9 then s.enterSole 4
    else s.sendRecord n true
def execMirrorRetry (seq : Nat) (s : State) : Host.Outcome State Fault Refusal := .next (s.mirrorRetry seq)

/-- Whether a record has lacked a resource for the record hold limit (R363). -/
def State.lacksLong (s : State) (n : Nat) : Bool :=
  match s.pair.lacking with
  | some (m, t) => decide (m = n) && decide (s.obj 0x2C1006 ≤ s.since t)
  | none => false

/-- RECORD_HOLD_EXPIRY (R363, R365): the record that a resource has lacked for the hold limit is refused, and this device is DETACHED. -/
def State.recordHoldExpiry (s : State) (seq : Nat) : State :=
  let n := fullSeq s.pair.rxPlaced seq
  if n ≠ s.pair.rxPlaced + 1 ∨ !Map.has s.pair.heldRecs n ∨ !s.lacksLong n ∨ s.reqs.any (fun e => decide (e.2.src = .mirror n)) then s
  else
    let s := s.sendMirrorAck n
    ({ s with pair := { s.pair with heldRecs := [], receiving := false } }.detach).logEvent 7 0 0 n 0
def execRecordHoldExpiry (seq : Nat) (s : State) : Host.Outcome State Fault Refusal := .next (s.recordHoldExpiry seq)

/-- Open the pair conduit to the partner (R365). DEDUCED, log entry 75. -/
def State.openPair (s : State) : Option State :=
  match s.openTo s.pair.partner with
  | some (s, c) => some { s with pair := { s.pair with conduit := c } }
  | none => none

/-- Release every sequence of the pair's buckets (R365): what still waits on one ends MOVED naming the partner. -/
def State.releasePair (s : State) : State :=
  let one (s : State) (i : Nat) : State :=
    let away := movedAnswer s.pair.partner (s.epochOf i)
    let s := s.endEvery (fun _ q => decide (q.seqId = i) && decide (q.kind ≤ 9)) away
    let s := (Map.keep s.reqs fun _ q => decide (q.seqId = i) && decide (q.phase = .mirror)).foldl (fun s e => s.fail e.1 e.2 away) s
    let s := s.undoMove i
    match Map.find s.seqs i with
    | some e => s.dropAll i e
    | none => s
  let s := ((Map.keys s.seqs).filter s.pairOwned).foldl one s
  { s with lostHere := [] }

/-- What a valid beat does in each pair state (R365). -/
def State.beatState (s : State) (b : Beat) : State :=
  match s.pair.st with
  | .forming =>
    if s.seqs ≠ [] then s.setPairState .soleOwner
    else if b.partnerHolds then s.setPairState .detached
    else
      let s := { s with pair := s.pair.renumber }.setPairState .paired
      if s.me < s.pair.partner ∧ !s.pairReady then s.openPair.getD s else s
  | .paired => if b.fenced then s.enterSole 2 else if b.detached then s.enterSole 3 else s
  | .detached =>
    if s.fence.st = .fenced then s
    else if !s.pair.receiving then
      if b.rebuilding then
        let s := s.releasePair
        { s with pair := { s.pair.renumber with receiving := true } }
      else s
    else if b.rebuilding then s
    else
      let s := { s with pair := { s.pair with receiving := false } }
      if b.sole then s else s.setPairState .paired
  | _ => s

/-- PAIR_BEAT (R364): a beat on an ACTIVE pair link says how the partner stands, and is evidence of it. -/
def State.pairBeat (s : State) (n : Nat) (b : Beat) : State :=
  if !s.pairLink n ∨ (s.port n).st ≠ .active ∨ s.pair.st = .off then s
  else
    let s := s.proof n
    let s := { s with pair := { s.pair with lastBeat := some b, lastAt := s.time, down := b.down } }
    (s.recordsPlaced b.placed).beatState b
def execPairBeat (n : Port) (b : Beat) (s : State) : Host.Outcome State Fault Refusal := .next (s.pairBeat n b)

/-- The beat that this device sends now (R364). -/
def State.ownBeat (s : State) (seq : Nat) : Beat :=
  { seq := seq, epoch := s.fence.epoch, sole := decide (s.pair.st = .soleOwner), fenced := decide (s.fence.st = .fenced),
    probation := decide (s.fence.st = .probation), rebuilding := decide (s.pair.st = .rebuilding),
    detached := decide (s.pair.st = .detached), down := s.downMask, placed := s.pair.rxPlaced % 2 ^ 32,
    partnerHolds := decide (s.seqs ≠ []) }

/-- PAIR_BEAT_TIMER (R364): one beat on every ACTIVE pair link; an interval in which none came is counted, and a held record is
tried again. -/
def State.pairBeatTimer (s : State) : State :=
  if s.pair.st = .off then s
  else
    let seq := (s.pair.beatSeq + 1) % 2 ^ 32
    let links := [10, 11].filter fun n => s.pairLink n && decide ((s.port n).st = .active)
    let b := s.ownBeat seq
    let s : State := links.foldl (fun (s : State) n => s.sendControl n 3 (b.bytes s.time)) { s with pair := { s.pair with beatSeq := seq } }
    let s := if s.pair.lastBeat.isSome && decide (s.time - s.pair.lastAt ≥ 2000) then (s.bump 0x2C1004).arrive 4 else s
    if s.applies then s.applyRecords recordWindow else s
def execPairBeatTimer (s : State) : Host.Outcome State Fault Refusal := .next s.pairBeatTimer

/-- BEAT_TIMEOUT (R365): no valid beat for 10 microseconds. -/
def State.beatTimeout (s : State) : State :=
  if (s.pair.st = .paired ∨ s.pair.st = .rebuilding) ∧ s.since s.pair.lastAt ≥ 10 then (s.logEvent 5 0 0 1 0).enterSole 1 else s
def execBeatTimeout (s : State) : Host.Outcome State Fault Refusal := .next s.beatTimeout

/-- Control 01h of 2C10h.07 (R365, R368): the copy of every sequence of the pair begins once the pair conduit is READY. None
where the table lists no such change, or no conduit end is free. -/
def State.rebuild (s : State) : Option State :=
  if s.pair.st ≠ .soleOwner ∨ !(match s.pair.lastBeat with | some b => b.detached | none => false) then none
  else
    let s := { s with pair := { s.pair.renumber with move := {}, rebuilt := [] } }.setPairState .rebuilding
    if s.pairReady then some ((s.setMove .pair { conduit := some s.pair.conduit, todo := s.rebuildLeft }).carry .pair)
    else s.openPair.map fun s => s.setMove .pair { todo := s.rebuildLeft }
def execRebuild (s : State) : Host.Outcome State Fault Refusal := .next (s.rebuild.getD s)

/-- Control 02h of 2C10h.07. -/
def State.abandonRebuild (s : State) : Option State := if s.pair.st = .rebuilding then some s.dropRebuild else none
def execAbandonRebuild (s : State) : Host.Outcome State Fault Refusal := .next (s.abandonRebuild.getD s)

/-- A change of 2500h.01 takes effect once F10 and F11 are DISABLED (R292); off, the pair conduit closes and the pair is OFF (R365). -/
def State.syncPairMode (s : State) : State :=
  let want := decide (s.obj 0x250001 = 1)
  if want = s.pair.mode ∨ (s.port 10).st ≠ .disabled ∨ (s.port 11).st ≠ .disabled then s
  else if want then { s with pair := { s.pair with mode := true } }
  else
    let c := s.pair.conduit
    let s := if s.pairReady && !(s.conduit c).closing then
        let s := s.convey c 0x0A [] 0
        s.setConduit c { s.conduit c with closing := true }
      else s
    let s := (s.setPairState .off).giveUpRecords
    { s with pair := { cause := s.pair.cause, beatSeq := s.pair.beatSeq } }

/-- PORT_DISABLE (R277, R292). -/
def execPortDisable (n : Port) (s : State) : Host.Outcome State Fault Refusal := .next (s.disablePort n).syncPairMode

/-- STACK_INTERFACE_FAILURE (R369): the polder counts as down. -/
def execStackInterfaceFailure (p : Pol) (s : State) : Host.Outcome State Fault Refusal :=
  .next ((s.setPolder p { s.polder p with down := true }).arrive (polderSource p 10))

end Sys2Proof.Machine
end

