-- ==== Sys2Proof/Machine/Sleep.lean ====
section
/-! DEFINITION. Polder sleep (R400, R401). -/

namespace Sys2Proof.Machine

/-- Idle: no bound lane and no ring entry waiting (R401). -/
def Polder.idle (x : Polder) (now : Nat) : Bool :=
  decide (x.bound now = []) && x.rings.all fun r => r.2.isEmpty

/-- Whether automatic sleep governs a polder. -/
def State.sleepAuto (s : State) (p : Nat) : Bool := decide (s.obj 0x240401 = 1) && decide ((s.polder p).sleepHold = .automatic)

/-- Move a wet polder to damp: at its next pass barrier where it runs, when it has stopped where it is stopping, or at once. -/
def State.toDamp (s : State) (p : Nat) : State :=
  let x := s.polder p
  if x.sleep ≠ .wet then s
  else
    let s := s.setPolder p { x with damping := true }
    if x.prog = .running ∨ x.prog = .stopping then s else s.barrier p

/-- Move a polder to dry, by way of damp. -/
def State.toDry (s : State) (p : Nat) : State :=
  let x := s.polder p
  if x.sleep = .dry then s
  else
    let s := s.setPolder p { x with drying := true }
    if x.sleep = .wet then s.toDamp p else s.barrier p

/-- Move a polder to wet: a damp one goes on, a dry one is powered and its slot memories reloaded from the hub's copy; a LOADED one
starts at the next tide boundary (R84). -/
def State.toWet (s : State) (p : Nat) : State :=
  let x := s.polder p
  let y := { x with damping := false, drying := false, quiesceSleep := false, closeSleep := false,
                    closed := x.closed && (x.pendingImage.isSome || x.closeCtl) }
  if x.sleep = .wet then s.setPolder p y
  else (if x.sleep = .dry then s.bump 0x240406 else s).sleepTo p y .wet

/-- Whether a polder has been idle for the time in an object (R401). -/
def State.idleFor (s : State) (p key : Nat) : Bool := (s.polder p).idle s.time && decide (s.obj key ≤ s.since (s.polder p).idleFrom)

/-- DAMP_IDLE_EXPIRY (R401): idle for 2404h.02. -/
def execDampIdleExpiry (p : Pol) (s : State) : Host.Outcome State Fault Refusal :=
  let x := s.polder p
  .next (if x.sleep = .wet && s.idleFor p 0x240402 && s.sleepAuto p && decide (x.prog ≠ .stopping) then s.toDamp p else s)

/-- DRY_IDLE_EXPIRY (R401): idle for 2404h.03 in all. -/
def execDryIdleExpiry (p : Pol) (s : State) : Host.Outcome State Fault Refusal :=
  let x := s.polder p
  .next (if x.sleep = .damp && s.idleFor p 0x240403 && s.sleepAuto p then s.toDry p else s)

/-- Whether a hold on damp or dry is in force. -/
def Polder.heldDown (x : Polder) : Bool := decide (x.sleepHold = .damp) || decide (x.sleepHold = .dry)

/-- POLDER_WAKE (R401): an entry waits for the polder, or its program record is written; a hold on damp or dry prevails. -/
def execPolderWake (p : Pol) (s : State) : Host.Outcome State Fault Refusal :=
  .next (if (s.polder p).heldDown then s else s.toWet p)

/-- What sleep control writes (2404h.05). -/
def State.sleepControl (s : State) (p : Nat) (h : SleepHold) : State :=
  let s := s.setPolder p { s.polder p with sleepHold := h }
  match h with
  | .automatic => if s.obj 0x240401 = 0 then s.toWet p else s
  | .wet => s.toWet p
  | .damp =>
    let x := s.polder p
    match x.sleep with
    | .wet => s.toDamp p
    | .damp => s.setPolder p { x with drying := false, quiesceSleep := false, closeSleep := false, closed := x.closed && (x.pendingImage.isSome || x.closeCtl) }
    | .dry => (s.toWet p).toDamp p
  | .dry => s.toDry p

/-- SLEEP_AUTOMATIC: control 0 of 2404h.05 (R401). -/
def execSleepAutomatic (p : Pol) (s : State) : Host.Outcome State Fault Refusal := .next (s.sleepControl p .automatic)
/-- HOLD_WET: control 1 of 2404h.05 (R401). -/
def execHoldWet (p : Pol) (s : State) : Host.Outcome State Fault Refusal := .next (s.sleepControl p .wet)
/-- HOLD_DAMP: control 2 of 2404h.05 (R401). -/
def execHoldDamp (p : Pol) (s : State) : Host.Outcome State Fault Refusal := .next (s.sleepControl p .damp)
/-- HOLD_DRY: control 3 of 2404h.05 (R401). -/
def execHoldDry (p : Pol) (s : State) : Host.Outcome State Fault Refusal := .next (s.sleepControl p .dry)

/-- A write of 2404h.01 (R401): off returns every polder that is not held to wet. -/
def State.automaticSleep (s : State) (on : Bool) : State :=
  let s := s.setObj 0x240401 (b2n on)
  if on then s
  else (List.range 8).foldl (fun s p => if (s.polder p).sleepHold = .automatic then s.toWet p else s) s
def execAutomaticSleepWrite (on : Bool) (s : State) : Host.Outcome State Fault Refusal := .next (s.automaticSleep on)

end Sys2Proof.Machine
end

