-- ==== Sys2Proof/Machine/Fences.lean ====
section
/-! DEFINITION. Fences, leases, probation and orphan marks (R370, R371, R373, R575). -/

namespace Sys2Proof.Machine

/-- Change the fence state: logged and raised (R376, R514). -/
def State.setFence (s : State) (f : Fence) : State :=
  ({ s with fence := f }.logEvent 8 0 0 f.st.code f.epoch).arrive 2

/-- What a fence does (R371): every unclaimed completion record is claimed with FENCED, its lanes are void, and a PAIRED device is
DETACHED (R365). -/
def State.fenceNow (s : State) : State :=
  let s := s.setFence { s.fence with st := .fenced }
  let a : Answer := ⟨.fenced, 0, leBytes 4 s.fence.epoch⟩
  ((s.endEvery (fun _ _ => true) a).endHolds (fun _ => true) a).detach

/-- Control 01h of 2C20h.04: none where R575 refuses it. -/
def State.fenceControl (s : State) : Option State := if s.fence.st = .fenced then none else some s.fenceNow
/-- FENCE (R371). -/
def execFence (s : State) : Host.Outcome State Fault Refusal := .next (s.fenceControl.getD s)

/-- Control 02h (R371). -/
def State.probation (s : State) : Option State :=
  if s.fence.st ≠ .live then none else some (s.setFence { s.fence with st := .probation })
/-- PROBATION (R371). -/
def execProbation (s : State) : Host.Outcome State Fault Refusal := .next (s.probation.getD s)

/-- Control 03h (R371, R575): from PROBATION with an epoch at least the current, from FENCED with one above it, which restarts the
lease; the breach latch forbids it (R434). -/
def State.liftFence (s : State) (epoch : Nat) : Option State :=
  let f := s.fence
  match f.st with
  | .live => none
  | .probation => if s.start.latch ∨ epoch < f.epoch then none else some (s.setFence { f with epoch := epoch, st := .live })
  | .fenced =>
    if s.start.latch ∨ epoch ≤ f.epoch then none
    else some (s.setFence { f with epoch := epoch, st := .live, from_ := s.time })
/-- LIFT (R371). -/
def execLift (epoch : Nat) (s : State) : Host.Outcome State Fault Refusal := .next ((s.liftFence epoch).getD s)

/-- LEASE_EXPIRY (R371). -/
def execLeaseExpiry (s : State) : Host.Outcome State Fault Refusal :=
  .next (if s.fence.lease = 0 ∨ s.fence.st = .fenced ∨ s.since s.fence.from_ < s.fence.lease then s else s.fenceNow)

/-- A write of 2C20h.01 (R371): the current epoch renews the lease, any other is refused. -/
def State.renewLease (s : State) (epoch : Nat) : Option State :=
  if epoch = s.fence.epoch then some { s with fence := { s.fence with from_ := s.time } } else none
/-- LEASE_RENEWAL (R371). -/
def execLeaseRenewal (epoch : Nat) (s : State) : Host.Outcome State Fault Refusal := .next ((s.renewLease epoch).getD s)

/-- LEASE_WRITE (R575): the lease is restarted from the write; 0 removes the expiry. -/
def State.writeLease (s : State) (us : Nat) : State := { s with fence := { s.fence with lease := us, from_ := s.time } }
def execLeaseWrite (us : Nat) (s : State) : Host.Outcome State Fault Refusal := .next (s.writeLease us)

/-- Mark a bucket of a composition orphaned (R373); none where 4 096 are marked. -/
def State.markOrphan (s : State) (comp bucket : Nat) : Option State :=
  if s.orphans.contains (comp, bucket) then some s
  else if s.orphans.length ≥ 4096 then none
  else some { s with orphans := (comp, bucket) :: s.orphans }
/-- ORPHAN_MARK (R373). -/
def execOrphanMark (comp bucket : Nat) (s : State) : Host.Outcome State Fault Refusal := .next ((s.markOrphan comp bucket).getD s)
/-- ORPHAN_CLEAR (R373). -/
def execOrphanClear (comp bucket : Nat) (s : State) : Host.Outcome State Fault Refusal :=
  .next { s with orphans := s.orphans.erase (comp, bucket) }

end Sys2Proof.Machine
end

