-- ==== Sys2Proof/Machine/Bundles.lean ====
section
/-! DEFINITION. The firmware bundle's bytes (R468, R469): its header, its section table, where it is malformed (R477), its section digests. -/

namespace Sys2Proof.Machine

/-- The offset of the first byte of a run that is not zero. -/
def firstSet (bs : List Nat) (o n : Nat) : List Nat := (((List.range n).find? fun i => nth bs (o + i) % 256 ≠ 0).map (o + ·)).toList

end Sys2Proof.Machine

namespace Sys2Proof
open Sys2Proof.Machine

/-- The bundle's version, and the number of its sections (R468). -/
def Bundle.version (b : Bundle) : Nat := fieldAt b.bytes 4 4
def Bundle.sections (b : Bundle) : Nat := fieldAt b.bytes 2 2

/-- Where section entry `i` stands, its kind, its targets, its offset and its length (R469). -/
def Bundle.entryAt (i : Nat) : Nat := 2720 + 96 * i
def Bundle.kind (b : Bundle) (i : Nat) : Nat := nth b.bytes (Bundle.entryAt i)
def Bundle.targets (b : Bundle) (i : Nat) : Nat := fieldAt b.bytes (Bundle.entryAt i + 4) 4
def Bundle.offset (b : Bundle) (i : Nat) : Nat := fieldAt b.bytes (Bundle.entryAt i + 8) 8
def Bundle.len (b : Bundle) (i : Nat) : Nat := fieldAt b.bytes (Bundle.entryAt i + 16) 8

/-- The entries of a kind. -/
def Bundle.ofKind (b : Bundle) (kind : Nat) : List Nat := (List.range (min 8 b.sections)).filter fun i => decide (b.kind i = kind)

/-- The stewards that the bundle targets, one bit each. -/
def Bundle.stewards (b : Bundle) : Nat := ((List.range 4).filter fun k => (b.ofKind 1).any fun i => bit (b.targets i) k).map (2 ^ ·) |>.sum

/-- The program images with the polders that they target (R473). -/
def Bundle.programs (b : Bundle) : List (Nat × Image) := ((b.ofKind 3).map b.targets).zip b.images

/-- Where section entry `i` is malformed (R469, R477): what the rule gives no offset of, an offset that is no multiple of 4 096 or lies in the first
block, is reported at the offset field, a section that ends beyond the signature's start at the length field. DESIGN CHOICE, log entry 157. -/
def Bundle.badEntry (b : Bundle) (i : Nat) : List Nat :=
  let at_ := Bundle.entryAt i
  let kind := b.kind i
  let target := if kind = 1 then (if nth b.bytes (at_ + 4) / 16 = 0 then firstSet b.bytes (at_ + 5) 3 else [at_ + 4])
    else if kind = 2 then firstSet b.bytes (at_ + 4) 4 else firstSet b.bytes (at_ + 5) 3
  let twice := (kind = 1 ∨ kind = 3) ∧ (List.range i).any fun j => decide (b.kind j = kind) && (List.range 8).any fun k => bit (b.targets j) k && bit (b.targets i) k
  (if kind = 0 ∨ 3 < kind ∨ twice then [at_] else []) ++ firstSet b.bytes (at_ + 1) 3 ++ target ++
    (if b.offset i % 4096 ≠ 0 ∨ b.offset i = 0 then [at_ + 8] else []) ++
    (if b.bytes.length < b.offset i + b.len i + 4627 then [at_ + 16] else []) ++ firstSet b.bytes (at_ + 24) 8

/-- Whether the section count is outside 1 to 8, or disagrees with the section table (R477): an entry that it counts is empty, or one that it does
not count is not. DESIGN CHOICE, log entry 157. -/
def Bundle.badCount (b : Bundle) : Bool :=
  decide (b.sections = 0) || decide (8 < b.sections) || (List.range b.sections).any (fun i => decide (b.kind i = 0)) ||
    decide (firstSet b.bytes (Bundle.entryAt b.sections) (96 * (8 - b.sections)) ≠ [])

/-- The lowest offset of a malformation (R477), `total` bytes having been delivered (R576). -/
def Bundle.malformedAt (b : Bundle) (total : Nat) : Option Nat :=
  let l := (if nth b.bytes 0 = 1 then [] else [0]) ++ firstSet b.bytes 1 1 ++ (if b.badCount then [2] else []) ++ firstSet b.bytes 13 3 ++
    (if fieldAt b.bytes 16 8 = total then [] else [16]) ++ firstSet b.bytes 24 104 ++ (if bit b.stewards 0 then [] else [2720]) ++
    (List.range (min 8 b.sections)).flatMap b.badEntry
  if l = [] then none else some (l.foldl min (l.headD 0))

/-- The first section whose digest differs from its entry's (R469, R470). -/
def Bundle.badSection (b : Bundle) : Option Nat :=
  (List.range b.sections).find? fun i =>
    decide ((b.bytes.drop (Bundle.entryAt i + 32)).take 64 ≠ sha3 ((b.bytes.drop (b.offset i)).take (b.len i)))

end Sys2Proof
end

