-- ==== Sys2Proof/Machine/Weights.lean ====
section
/-! DEFINITION. Bindings (R180, R181, R222), weight sets (R144 to R152, R257, R415 to R417), refetches (R253) and drives (R234 to R237). -/

namespace Sys2Proof

/-- Why the flash engine refuses a drive (R234), in the codes of 2910h.02; 0 where it does not. -/
def NvmeReply.refusal (r : NvmeReply) : Nat :=
  if !r.controller then 1 else if !r.nsid then 3 else if r.data ≠ 4096 ∨ r.meta_ ≠ 0 then 2 else if 64 * 10 ^ 12 < r.blocks * 4096 then 4 else 0

end Sys2Proof

namespace Sys2Proof.Machine

/-- A binding's object. -/
def bindKey (b sub : Nat) : Nat := recKey 0x2B80 b sub

/-- Whether a binding is referenced by a sequence or by a weight set (R180): one that is loading counts, whose shape its load rests on.
DESIGN CHOICE, log entry 46. -/
def State.bindingUsed (s : State) (b : Nat) : Bool :=
  s.seqs.any (fun e => decide (e.2.binding = b)) || (s.weight b).loaded || (s.weight b).loading

/-- Control 01h of a binding (R180, R181): n and the groups are set, or the refusal reason. -/
def State.enableBinding (s : State) (b : Nat) : State :=
  let sh := s.shape b
  let n := sh.headsPerGroup
  let bad (r : Nat) : State := s.setObj (bindKey b 9) (16 * r)
  if s.obj (bindKey b 9) % 16 = 1 then s
  else if !sh.legal then bad 1
  else if n = 0 then bad 2
  else if sh.layers * sh.groupsFor n > 1024 then bad 1
  else ((s.setObj (bindKey b 7) n).setObj (bindKey b 8) (sh.groupsFor n)).setObj (bindKey b 9) 1
def execBindingEnable (b : Binding) (s : State) : Host.Outcome State Fault Refusal := .next (s.enableBinding b)

/-- A binding returns to disabled, n and the groups reading 00h. -/
def State.unbindShape (s : State) (b : Nat) : State :=
  ((s.setObj (bindKey b 7) 0).setObj (bindKey b 8) 0).setObj (bindKey b 9) 0

/-- Control 02h of a binding (R222): refused while it is in use. -/
def State.disableBinding (s : State) (b : Nat) : Option State := if s.bindingUsed b then none else some (s.unbindShape b)
def execBindingDisable (b : Binding) (s : State) : Host.Outcome State Fault Refusal := .next ((s.disableBinding b).getD s)

/-- A write of a shape field (R180): refused while the binding is in use, and of a reserved key transform. -/
def State.writeShape (s : State) (b sub value : Nat) : Option State :=
  if s.bindingUsed b ∨ !([1, 2, 3, 4, 5, 6, 0xB].contains sub) ∨ value > objMax (bindKey b sub) ∨ (sub = 0xB ∧ 1 < value) then none
  else
    let s := if s.obj (bindKey b 9) % 16 = 1 then s.unbindShape b else s
    some (s.setObj (bindKey b sub) value)
def execBindingShapeWrite (b : Binding) (sub value : Nat) (s : State) : Host.Outcome State Fault Refusal :=
  .next ((s.writeShape b sub value).getD s)

/-- The arrays over which a weight set's quarters are dealt (R144, R145): the two of every polder that is up. -/
def State.shareArrays (s : State) : List Nat := ((List.range 8).filter fun p => !(s.polder p).down).flatMap fun p => [2 * p, 2 * p + 1]

/-- The quarters of each array that takes any, from which one on and how many (R144, R145). -/
def State.shareQuarters (s : State) (b : Nat) (hasQ : Bool) : List (Nat × Nat × Nat) :=
  let l := s.shareArrays
  (l.zip (dealQuarters ((s.shape b).quarters hasQ) l.length)).filter fun x => decide (x.2.2 ≠ 0)

/-- The polders that hold a share (R144, R145). -/
def State.sharePolders (s : State) (b : Nat) (hasQ : Bool) : List Nat := ((s.shareQuarters b hasQ).map fun x => x.1 / 2).dedup

/-- Put a share into a binding's set. -/
def State.addShare (s : State) (b : Nat) (h : Share) : State :=
  s.setWeight b { s.weight b with shares := (s.weight b).shares ++ [h] }

/-- Place one share of a layer and an array (R152, R257): resident while its polder's weight frames stay within the budget, else in T2 where
that can hold it, else in T3; none where no tier can. Its bytes are stored as delivered, sealed outside the package (R425, R427). DESIGN CHOICE, log entry 46. -/
def State.placeShare (s : State) (b layer array : Nat) (bytes : List Nat) : Option State :=
  let p := array / 2
  let need := (bytes.length + 65535) / 65536
  let frames := if (s.polder p).weightFrames + need ≤ s.obj 0x290008 ∧ need ≤ s.freeFrames p then s.pickFrames p need [] else none
  match frames with
  | some l =>
    let fill (s : State) (f : Nat × Nat) : State := s.writeStack (f.1 * 65536) ((bytes.drop (f.2 * 65536)).take 65536)
    let s := l.zipIdx.foldl fill (s.addShare b ⟨layer, array, bytes.length, 1, l, 0, []⟩)
    some (s.setPolder p { s.polder p with weightFrames := (s.polder p).weightFrames + need })
  | none =>
    let n := recordBlocks bytes.length
    match s.spillFit n with
    | some a =>
      let r := s.sealShare a bytes
      some (r.1.addShare b ⟨layer, array, bytes.length, 2, [a], 0, r.2⟩)
    | none => match s.driveFor (extentsOf n) with
      | some d =>
        let x := s.takeExtents d (extentsOf n)
        let s := x.1.setDrive d { x.1.drive d with weights := (x.1.drive d).weights ++ [b] }
        some ((s.toFlash d x.2 (toBlocks bytes)).addShare b ⟨layer, array, bytes.length, 3, x.2, d, []⟩)
      | none => none

/-- Place shares in layer order, and within a layer in array order (R150, R257). -/
def State.placeShares (s : State) (b : Nat) : List (Nat × Nat × List Nat) → Option State
  | [] => some s
  | (layer, array, bytes) :: l => match s.placeShare b layer array bytes with
    | some s => s.placeShares b l
    | none => none

/-- Free what a binding's weight set holds (R152, R257). -/
def State.dropWeights (s : State) (b : Nat) : State :=
  let drop (s : State) (h : Share) : State :=
    if h.tier = 1 then
      s.setPolder (h.array / 2) { s.polder (h.array / 2) with weightFrames := (s.polder (h.array / 2)).weightFrames - h.places.length }
    else if h.tier = 3 then (s.setDrive h.drive { s.drive h.drive with weights := (s.drive h.drive).weights.erase b }).giveExtents h.drive h.places
    else s
  let s := (s.weight b).shares.foldl drop s
  s.setWeight b { s.weight b with shares := [] }

/-- Unload a weight set (R253, R409). -/
def State.unloadWeights (s : State) (b : Nat) : State :=
  let w := s.weight b
  let s := if w.loaded ∨ w.loading then s.dropWeights b else s
  let s := s.setWeight b { key := w.key }
  if w.loaded then s.measure (measWeights b) none else s

/-- The end of a load (R416, R417): its result stands in 2B34h.04 and its key is erased. -/
def State.endLoad (s : State) (b result digest : Nat) : State :=
  let w := s.weight b
  if !w.loading then s
  else
    let s :=
      if result = 0 then
        (s.setWeight b { w with loading := false, loaded := true, key := none, intact := false, digest := 0 }).measure (measWeights b) (some ⟨6, b, w.serial, s.time, digest⟩)
      else (s.dropWeights b).setWeight b {}
    s.setObj 0x2B3404 result

/-- The plaintext of an encrypted weight set's segments under a key (R415), each none where its tag fails; segment i is sealed under the serial
and i, with the header as additional data. -/
def openSegments (key : Nat) (header : List Nat) (segments : List (List Nat)) : List (Option (List Nat)) :=
  segments.zipIdx.map fun x => gcmOpen (leBytes 32 key) (leBytes 4 (fieldAt header 4 4) ++ leBytes 8 x.2) header x.1

/-- Whether an encrypted weight set is what its header says (R415, R416): every tag verifies, and length and digest of the plaintext agree. -/
def setIntact (header : List Nat) (opened : List (Option (List Nat))) : Bool :=
  let plain := opened.flatMap fun x => x.getD []
  opened.all Option.isSome && decide (header.length = 128) && decide (fieldAt header 8 8 = plain.length) && decide ((header.drop 16).take 64 = sha3 plain)

/-- Cut a run of bytes into runs of the given lengths. -/
def cutRuns (bs : List Nat) : List Nat → List (List Nat)
  | [] => []
  | n :: l => bs.take n :: cutRuns (bs.drop n) l

/-- WEIGHT_LOAD (R148, R151, R257, R415, R416, R417): S2 decrypts the segments of a set and places the shares of each layer, one for each array
that takes quarters, of `sizes` bytes each; a load without a weight key ends with result 03h, one that finds no room with 04h. A set that
stands for the binding is unloaded first. The spec says nowhere where a share ends in the plaintext: the sizes come with the command.
DESIGN CHOICE, log entry 46. -/
def State.startLoad (s : State) (b : Nat) (header : List Nat) (segments : List (List Nat)) (sizes : List (List Nat)) (hasQ : Bool)
    (wFmt aFmt tables : Nat) : State :=
  if s.dutyGone 2 ∨ s.dutyHeld 2 ∨ (s.weight b).loading then s
  else
    let s := s.unloadWeights b
    match (s.weight b).key with
    | none => s.setObj 0x2B3404 3
    | some key =>
      let opened := openSegments key header segments
      let plain := opened.flatMap fun x => x.getD []
      let w : Weights := { s.weight b with loading := true, serial := fieldAt header 4 4, hasQ := hasQ, wFmt := wFmt, aFmt := aFmt, tables := tables,
                                           polders := s.sharePolders b hasQ, shares := [], intact := setIntact header opened,
                                           digest := leNat (sha3 plain) }
      let arrays := (s.shareQuarters b hasQ).map fun x => x.1
      let sizes := sizes.map fun l => l.take arrays.length
      let dealt := (sizes.zipIdx.flatMap fun l => (arrays.zip l.1).map fun x => (l.2, x.1, x.2)).zip (cutRuns plain sizes.flatten)
      let dealt := dealt.map fun x => (x.1.1, x.1.2.1, x.2)
      match (s.setWeight b w).placeShares b dealt with
      | some s => s
      | none => (s.setWeight b {}).setObj 0x2B3404 4
def execWeightLoad (b : Binding) (header : List Nat) (segments sizes : List (List Nat)) (hasQ : Bool) (wFmt aFmt : Fin 16) (tables : Nat) (s : State) :
    Host.Outcome State Fault Refusal := .next (s.startLoad b header segments sizes hasQ wFmt aFmt tables)

/-- WEIGHT_LOAD_END (R416): the set is delivered; a tag or digest that failed ends the load with result 02h. -/
def State.finishLoad (s : State) (b : Nat) : State := s.endLoad b (if (s.weight b).intact then 0 else 2) (s.weight b).digest
def execWeightLoadEnd (b : Binding) (s : State) : Host.Outcome State Fault Refusal := .next (s.finishLoad b)

/-- Queue a restore entry again (R253). -/
def State.requeue (s : State) (seqId key : Nat) : State :=
  match Map.find s.seqs seqId with
  | none => s
  | some e =>
    match e.moving.find? fun m => decide (m.1 = key), Map.find e.stored key with
    | some m, some x =>
      let sh := s.shape e.binding
      let p := framePolder m.2
      let tag := e.mover.getD Config.tags
      let gen := match Map.find s.reqs tag with | some q => q.gen | none => 0
      let entry : RingEntry := { tag := tag, gen := gen, kind := 0xE1, lastHere := decide (e.prior = .flushed),
                                 firstChunk := sh.keyBlocks, chunkCount := sh.valBlocks,
                                 attachFrame := m.2, pageCount := x.bytes - 64, layer := 4 * sh.keyRegion sh.n,
                                 group := 4 * sh.valRegion sh.n, body := hdrBytes { hdr := x.hdr, count := 1 } ++ List.replicate 208 0 }
      let y := s.polder p
      match y.image with
      | some im =>
        let r := im.tierRing.getD 0
        s.setPolder p { y with rings := Map.put y.rings r (Map.getD y.rings r [] ++ [entry]) }
      | none => s
    | _, _ => s

/-- Mark a stored page lost (R253, R240). -/
def State.loseStored (s : State) (seqId key : Nat) : State :=
  match Map.find s.seqs seqId with
  | none => s
  | some e => s.setSeq seqId { e with stored := Map.adjust e.stored key fun x => { x with lost := true } }

/-- REFETCH_RESULT (R253). -/
def State.refetch (s : State) (m : Malformed) (good : Bool) : State :=
  let s := s.bump (if good then 0x2A0005 else 0x2A0006)
  match m with
  | .weight b tags =>
    let s := s.bump 0x2B3405
    let s := tags.foldl (fun s t => s.endAny t ⟨.malformed, if good then 0x10 else 0x11, leBytes 4 0⟩) s
    if good then s else (s.unloadWeights b).setObj 0x2B3404 1
  | .restore i k => if good then s.requeue i k else s.loseStored i k
  | .copy i k => if good then s else s.loseStored i k
def execRefetchResult (m : Malformed) (good : Bool) (s : State) : Host.Outcome State Fault Refusal := .next (s.refetch m good)

/-- A drive's state changes (R514): its source fires. -/
def State.driveState (s : State) (d : Nat) (st : DriveState) (reason : Nat) : State :=
  (s.setDrive d { s.drive d with st := st, reason := reason }).arrive (driveSource d 0)

/-- Whether a drive is in use. -/
def DriveSt.present (d : DriveSt) : Bool := decide (d.st = .ready ∨ d.st = .initialising)

/-- A sequence whose image is lost with its drive (R236): every page of it is, and it holds no extents. -/
def Seq.loseImage (e : Seq) (d : Nat) : Seq :=
  if e.drive = d ∧ (e.st = .flushed ∨ (e.st = .restoring ∧ e.prior = .flushed)) then
    { e with stored := Map.each e.stored fun _ x => { x with lost := true }, extents := [] }
  else e

/-- Withdraw a drive (R236, R237): the moves that write to it fail, its images are lost, weight sets with a share on it are
unloaded. -/
def State.withdraw (s : State) (d reason : Nat) : State :=
  let x := s.drive d
  if !x.present then s
  else
    let s := (s.driveState d .withdrawn reason).logEvent 11 3 d 0 reason
    let moving := (Map.keep s.seqs fun _ e => decide (e.st = .flushing) && decide (e.drive = d)).map Prod.fst
    let s := moving.foldl State.moveFailed s
    let s := x.weights.dedup.foldl State.unloadWeights s
    let s := s.setDrive d { s.drive d with images := [], weights := [], total := 0, used := [], cleared := [] }
    { s with seqs := Map.each s.seqs fun _ e => e.loseImage d }

/-- Whether a move of a sequence uses a drive. -/
def State.movesOn (s : State) (seqId d : Nat) : Bool :=
  match Map.find s.seqs seqId with
  | some e => decide (e.drive = d) && decide (e.st = .flushing ∨ (e.st = .restoring ∧ e.prior = .flushed))
  | none => false

/-- Whether the commands of a sequence's move went out to a drive less than the command timeout ago (R236). -/
def State.early (s : State) (seqId d : Nat) : Bool :=
  s.movesOn seqId d && (match Map.find s.seqs seqId with | some e => decide (s.since e.since < s.obj 0x292001) | none => false)

/-- What a drive's health log shows (R261): a rise in its errors raises the drive's source. -/
def State.health (s : State) (d : Nat) (r : NvmeReply) : State :=
  match r.health with
  | none => s
  | some (errors, wear) =>
    let k := recKey 0x2910 d 8
    let n := min errors (2 ^ 32 - 1)
    let s' := (s.setDrive d { s.drive d with wear := wear % 256 }).setObj k n
    if s.obj k < n then s'.arrive (driveSource d 2) else s'

/-- The Writes of a sequence's image are done, or the Flush after them (R237). -/
def State.imageWritten (s : State) (seqId d : Nat) : State :=
  match Map.find s.seqs seqId with
  | none => s
  | some e =>
    if e.st ≠ .flushing ∨ e.drive ≠ d then s
    else if e.written = 0 ∧ (s.drive d).cache then { s.setSeq seqId { e with written := 1, since := s.time } with out := .nvme d 0 :: s.out }
    else s.setSeq seqId { e with written := 2 }

/-- NVME_COMPLETION (R234, R236, R237, R258): what a drive answers at its initialisation, or the end of the commands of the sequence `cmd`; a
failed one fails the sequence's move. A drive divides into extents of 1 024 LBAs, extent 0 unused (R235). DESIGN CHOICE, log entry 47. -/
def State.nvmeDone (s : State) (d cmd : Nat) (ok : Bool) (r : NvmeReply) : State :=
  match (s.drive d).st with
  | .ready =>
    let s := s.health d r
    if ok then s.imageWritten cmd d else if s.movesOn cmd d then s.moveFailed cmd else s
  | .absent | .initialising =>
    let s := s.setDrive d { s.drive d with link := r.link % 256 }
    if !ok then s
    else if r.refusal ≠ 0 then s.driveState d .refused r.refusal
    else
      let s := s.setDrive d { s.drive d with total := r.blocks / 1024 - 1, used := [], cleared := [], cache := r.cache }
      (s.driveState d .ready 0).health d r
  | _ => s
def execNvmeCompletion (d : Drive) (cmd : Nat) (ok : Bool) (r : NvmeReply) (s : State) : Host.Outcome State Fault Refusal :=
  .next (s.nvmeDone d cmd ok r)

/-- NVME_COMMAND_TIMEOUT (R236): a command that has not completed within the timeout, as State holds it for the commands of the sequence `cmd`, is
aborted, and the drive withdrawn after the set number. -/
def State.nvmeTimeout (s : State) (d cmd : Nat) : State :=
  let x := s.drive d
  if x.st ≠ .ready ∨ s.early cmd d then s
  else
    let n := x.timeouts + 1
    let s := ((s.setDrive d { x with timeouts := n }).bump (recKey 0x2910 d 7)).arrive (driveSource d 1)
    let s := { s with out := .nvme d 8 :: s.out }.work (flashRoot d) 0 64
    let s := if s.movesOn cmd d then s.moveFailed cmd else s
    if n ≥ s.obj 0x292002 then s.withdraw d 7 else s
def execNvmeCommandTimeout (d : Drive) (cmd : Nat) (s : State) : Host.Outcome State Fault Refusal := .next (s.nvmeTimeout d cmd)

/-- DRIVE_FATAL_STATUS (R236). -/
def execDriveFatalStatus (d : Drive) (s : State) : Host.Outcome State Fault Refusal := .next (s.withdraw d 6)
/-- DRIVE_LINK_LOST (R236). -/
def execDriveLinkLost (d : Drive) (s : State) : Host.Outcome State Fault Refusal := .next (s.withdraw d 8)

/-- DRIVE_INITIALISATION_TIMEOUT (R261): reason 05h. -/
def State.driveInitTimeout (s : State) (d : Nat) : State :=
  if (s.drive d).st = .absent ∨ (s.drive d).st = .initialising then s.driveState d .refused 5 else s
def execDriveInitialisationTimeout (d : Drive) (s : State) : Host.Outcome State Fault Refusal := .next (s.driveInitTimeout d)

/-- Control 01h of a drive record (R261): refused while images are held. -/
def State.driveOffline (s : State) (d : Nat) : Option State := s.dutyTry 2 <|
  let x := s.drive d
  if x.images ≠ [] ∨ x.weights ≠ [] ∨ x.st = .absent then none else some (s.driveState d .offline x.reason)
def execDriveOffline (d : Drive) (s : State) : Host.Outcome State Fault Refusal := .next ((s.driveOffline d).getD s)

/-- Control 02h of a drive record (R261): a withdrawn or offline drive is initialised again. -/
def State.driveReinit (s : State) (d : Nat) : Option State := s.dutyTry 2 <|
  let x := s.drive d
  if x.st = .withdrawn ∨ x.st = .offline then some ((s.setDrive d { x with timeouts := 0 }).driveState d .initialising 0) else none
def execDriveReinitialise (d : Drive) (s : State) : Host.Outcome State Fault Refusal := .next ((s.driveReinit d).getD s)

end Sys2Proof.Machine
end

