-- ==== Sys2Proof/Machine/Security.lean ====
section
/-! DEFINITION. Keys, envelopes, attestation and breach (R403 to R436). -/

namespace Sys2Proof
open Sys2Proof.Machine

/-- The target field of an envelope (R412). -/
def Envelope.target (e : Envelope) : Nat := fieldAt e.bytes 2 2

/-- The wrapping key (R413). -/
def Envelope.wrapping (e : Envelope) : List Nat := (sha3 (e.secret.take 32 ++ e.bytes.take 80)).take 32

/-- The two keys that an envelope wraps (R413), none where the tag fails. -/
def Envelope.keys (e : Envelope) : Option (List Nat) :=
  gcmOpen e.wrapping (List.replicate 12 0) (e.bytes.take 80) (e.bytes.drop 1648)

/-- Wrapped key `i`, 32 bytes (R412). -/
def Envelope.key (e : Envelope) (i : Nat) : Nat := fieldAt (e.keys.getD []) (32 * i) 32

end Sys2Proof

namespace Sys2Proof.Machine

/-- A report that a nonce starts (R411): the entries are copied at one instant, with the count that stands then. -/
def State.nonce (s : State) (nonce : Nat) : State :=
  if s.sec.identityKey ∧ s.sec.transportKey ∧ !s.start.latch then
    { s with sec := { s.sec with pending := some { nonce := nonce, time := s.time, count := s.sec.count, meas := s.sec.meas, node := s.obj 0x260001 } } }
  else { s with sec := { s.sec with pending := none, report := none } }
/-- NONCE (R411). -/
def execNonce (nonce : Nat) (s : State) : Host.Outcome State Fault Refusal := .next (s.nonce nonce)

/-- The flags of a report (R411). -/
def State.reportFlags (s : State) : Nat :=
  b2n s.sec.conf + 2 * b2n (decide (s.start.st = .berm)) + 4 * b2n s.start.latch + 8 * b2n s.sec.locked

/-- REPORT_STANDS (R411): the report is signed, with the flags and the breach level of that moment (R436). -/
def execReportStands (signature : Nat) (s : State) : Host.Outcome State Fault Refusal :=
  .next (match s.sec.pending with
    | none => s
    | some r =>
      let r := { r with flags := s.reportFlags, level := s.sec.acted.getD 255, sig := signature }
      { s with sec := { s.sec with pending := none, report := some r } }.arrive 0x011)

/-- Store a job key slot; one with no key is none. -/
def State.setJobSlot (s : State) (k : Nat) (x : JobSlot) : State :=
  { s with sec := { s.sec with slots := if x.gen0.isNone ∧ x.gen1.isNone then Map.del s.sec.slots k else Map.put s.sec.slots k x } }

/-- A slot's generation. -/
def JobSlot.key (x : JobSlot) (g : Bool) : Option (Nat × Nat) := if g then x.gen1 else x.gen0

/-- The first failing check of an envelope of a kind (R412, R414), 0 where it passes. `target` says that its target field is
valid, `free` that its target is free. A command takes an envelope of its own kind only: another kind in byte 1 is not valid in it.
DESIGN CHOICE, log entry 80. -/
def State.envelopeResult (s : State) (kind : Nat) (e : Envelope) (target free : Bool) : Nat :=
  if s.start.st = .berm ∨ s.start.latch then 6
  else if e.bytes.length ≠ 1728 ∨ nth e.bytes 0 ≠ 1 ∨ nth e.bytes 1 ≠ kind ∨ fieldAt e.bytes 4 4 ≠ 0 ∨ !target then 1
  else if fieldAt e.bytes 16 64 ≠ s.idDigest then 2
  else if fieldAt e.bytes 8 8 ≠ s.sec.count then 3
  else if !s.sec.transportKey ∨ e.keys.isNone then 4
  else if !free then 5
  else 0

/-- The result of an envelope (R414): written to 2E12h.02, raised, and counted when it is a refusal. -/
def State.envelope (s : State) (r : Nat) (install : State → State) : State :=
  let s := if r = 0 then install s else s.bump 0x2E1203
  { s with sec := { s.sec with envResult := r } }.arrive 0x010

/-- ENVELOPE_WEIGHT_KEY (R412, R414). -/
def State.weightEnvelope (s : State) (e : Envelope) : State :=
  let r := s.envelopeResult 1 e (decide (e.target < 64)) !(s.weight e.target).loading
  s.envelope r fun s => s.setWeight e.target { s.weight e.target with key := some (e.key 0) }
def execEnvelopeWeightKey (e : Envelope) (s : State) : Host.Outcome State Fault Refusal := .next (s.weightEnvelope e)

/-- ENVELOPE_JOB_KEY (R412, R414): a generation is free unless it is the sending one. DESIGN CHOICE, log entry 80. -/
def State.jobEnvelope (s : State) (e : Envelope) : State :=
  let k := e.target % 4096
  let g := bit e.target 12
  let x := s.jobSlot k
  let r := s.envelopeResult 2 e (decide (1 ≤ k) && decide (e.target < 8192)) !((x.key g).isSome && decide (x.sending = g))
  s.envelope r fun s =>
    let keys := some (e.key 0, e.key 1)
    s.setJobSlot k (if g then { x with gen1 := keys } else { x with gen0 := keys })
def execEnvelopeJobKey (e : Envelope) (s : State) : Host.Outcome State Fault Refusal := .next (s.jobEnvelope e)

/-- ENVELOPE_SESSION_KEYS (R412, R414): the counters of every ring's streams start again under new keys (R546). -/
def State.sessionEnvelope (s : State) (e : Envelope) : State :=
  let r := s.envelopeResult 3 e (decide (e.target = 0)) !s.sec.conf
  s.envelope r fun s => { s with sec := { s.sec with session := some (e.key 0, e.key 1) },
                                 rings := Map.each s.rings fun _ g => { g with counter := 0, outCounter := 0 } }
def execEnvelopeSessionKeys (e : Envelope) (s : State) : Host.Outcome State Fault Refusal := .next (s.sessionEnvelope e)

/-- The selected slot (2E13h.01). -/
def State.slotSelect (s : State) : Nat := s.obj 0x2E1301 % 4096

/-- Control 01h of 2E13h.04 (R420, R421): refused unless the other generation is installed; the count starts again. -/
def State.switchGeneration (s : State) : Option State :=
  let x := s.jobSlot s.slotSelect
  if (x.key !x.sending).isNone then none else some (s.setJobSlot s.slotSelect { x with sending := !x.sending, drawn := 0 })
def execSwitchGeneration (s : State) : Host.Outcome State Fault Refusal := .next (s.switchGeneration.getD s)

/-- Controls 02h and 03h of 2E13h.04 (R421, R436): the sending generation is not erased. -/
def State.eraseGeneration (s : State) (g : Bool) : Option State :=
  let x := s.jobSlot s.slotSelect
  if (x.key g).isSome ∧ x.sending = g then none
  else some (s.setJobSlot s.slotSelect (if g then { x with gen1 := none } else { x with gen0 := none }))
/-- ERASE_GENERATION_0. -/
def execEraseGeneration0 (s : State) : Host.Outcome State Fault Refusal := .next ((s.eraseGeneration false).getD s)
/-- ERASE_GENERATION_1. -/
def execEraseGeneration1 (s : State) : Host.Outcome State Fault Refusal := .next ((s.eraseGeneration true).getD s)
/-- ERASE_SLOT: control 04h of 2E13h.04 (R403). -/
def State.eraseSlot (s : State) : State := s.setJobSlot s.slotSelect {}
def execEraseSlot (s : State) : Host.Outcome State Fault Refusal := .next s.eraseSlot

/-- Level 2 (R432, R433, R436): every weight, job, session and storage key is erased; a weight load ends with result 03h and every
set is unloaded; a restore ends with its pages lost, and what T2 and T3 hold is lost; conduits whose records lie outside enter
ERROR; every polder is held dry. DEDUCED, log entry 81. -/
def State.eraseKeys (s : State) : State :=
  let s := { s with sec := { s.sec with slots := [], session := none, storageKeys := false, storeKey := 0, conf := false } }
  let weights (s : State) (b : Nat) : State :=
    let s := ((s.weight b).shares.filter fun h => decide (h.tier = 1)).foldl (fun s h => h.places.foldl State.zeroFrame s) s
    let s := if (s.weight b).loading then s.endLoad b 3 0 else s.unloadWeights b
    s.setWeight b { s.weight b with key := none }
  let s := (List.range 64).foldl weights s
  let lose (_ : Nat) (e : Seq) : Seq := { e with stored := Map.each e.stored fun _ x => { x with lost := true } }
  let s := { s with seqs := Map.each s.seqs lose }
  let moving := (Map.keep s.seqs fun _ e => decide (e.st = .restoring)).map fun e => (e.1, e.2.moving.map Prod.fst)
  let s := moving.foldl (fun s m => s.moveComplete m.1 m.2) s
  let away := (Map.keep s.conduits fun _ x => !x.onDie && decide (x.st = .ready ∨ x.st = .opening)).map Prod.fst
  let s := away.foldl (fun s c => s.conduitError c 0) s
  (List.range 8).foldl (fun s p => s.sleepControl p .dry) s

/-- Level 3 (R432, R434, R436): the identity and transport keys are erased, no report stands, and the breach latch is set. -/
def State.eraseIdentity (s : State) : State :=
  { s with sec := { s.sec with identityKey := false, transportKey := false, pending := none, report := none },
           start := { s.start with identity := false, latch := true } }

/-- The level set for a breach source (2E20h). -/
def State.breachLevel (s : State) (source : Nat) : Nat := s.obj (0x2E2000 + source)

/-- A breach source fires (R431, R432): it is logged; at a level already acted on since start nothing else happens, else every
action of the level and of those below it. -/
def State.breach (s : State) (source : Nat) : State :=
  let level := s.breachLevel source
  let s := s.logEvent 14 0 0 0 (source + 256 * level)
  if (match s.sec.acted with | some a => decide (level ≤ a) | none => false) then s
  else
    let s := { s with sec := { s.sec with acted := some level } }
    let s := ((s.setObj 0x2E0004 source).setObj 0x2E0005 s.time).bump 0x2E0003
    let s := s.arrive 1
    let s := if 1 ≤ level ∧ s.fence.st ≠ .fenced then s.fenceNow else s
    let s := if 2 ≤ level then s.eraseKeys else s
    if 3 ≤ level then s.eraseIdentity else s
/-- BREACH (R431): sources 01h to 07h. -/
def execBreach (source : Nat) (s : State) : Host.Outcome State Fault Refusal :=
  .next (if 1 ≤ source ∧ source ≤ 7 then s.breach source else s)

/-- SIGNATURE_RECHECK (R410). -/
def execSignatureRecheck (ok : Bool) (s : State) : Host.Outcome State Fault Refusal := .next (if ok then s else s.breach 7)

/-- ENTROPY_FAILURE (R404): key generation stops until a later test passes. -/
def State.entropyFailure (s : State) : State := { s with start := { s.start with entropyOk := false } }.bump 0x2E0006
def execEntropyFailure (s : State) : Host.Outcome State Fault Refusal := .next s.entropyFailure
/-- ENTROPY_HEALTH_TEST_PASS (R404). -/
def execEntropyHealthTestPass (s : State) : Host.Outcome State Fault Refusal :=
  .next { s with start := { s.start with entropyOk := true } }

/-- Lock every breach level until power-off (R435). -/
def State.lockPolicy (s : State) : State := { s with sec := { s.sec with locked := true } }
/-- POLICY_LOCK (R435). -/
def execPolicyLock (s : State) : Host.Outcome State Fault Refusal := .next s.lockPolicy

/-- Set a source's breach level (R435); none where the policy is locked. -/
def State.writeBreachLevel (s : State) (source level : Nat) : Option State :=
  if s.sec.locked ∨ source = 0 ∨ source > 7 ∨ level > 3 then none else some (s.setObj (0x2E2000 + source) level)
/-- BREACH_LEVEL_WRITE (R435). -/
def execBreachLevelWrite (source level : Nat) (s : State) : Host.Outcome State Fault Refusal :=
  .next ((s.writeBreachLevel source level).getD s)

/-- Whether every host ring is disabled (R428). -/
def State.ringsOff (s : State) : Bool := s.rings.all fun r => decide (r.2.st = 0)

/-- Start confidential operation (R428): session keys installed and the rings disabled. -/
def State.startConfidential (s : State) : Option State :=
  if s.sec.session.isNone ∨ !s.ringsOff then none else some { s with sec := { s.sec with conf := true } }
/-- CONFIDENTIAL_START (R428). -/
def execConfidentialStart (s : State) : Host.Outcome State Fault Refusal := .next (s.startConfidential.getD s)

/-- End confidential operation (R428): under the same condition; the session keys are erased. There is nothing to end while it is off.
DESIGN CHOICE, log entry 159. -/
def State.endConfidential (s : State) : Option State :=
  if !s.sec.conf then some s else if !s.ringsOff then none else some { s with sec := { s.sec with conf := false, session := none } }
/-- CONFIDENTIAL_END (R428). -/
def execConfidentialEnd (s : State) : Host.Outcome State Fault Refusal := .next (s.endConfidential.getD s)

end Sys2Proof.Machine
end

