-- ==== Sys2Proof/Machine/Metering.lean ====
section
/-! DEFINITION. The metering aggregator (R444 to R446) and Tidegauge (R438 to R458). -/

namespace Sys2Proof
open Sys2Proof.Machine

/-- A metering record's 32 bytes (R444), its CRC-32C without an index in the last four. -/
def MRecord.bytes (m : MRecord) : List Nat :=
  let bs := leBytes 8 m.seq ++ leBytes 8 m.time ++ leBytes 2 (m.tenant % 4096) ++ [m.kind % 256, 0] ++ leBytes 8 m.amount
  bs ++ leBytes 4 (crc32c bs)

end Sys2Proof

namespace Sys2Proof.Machine

/-- The records in Tidegauge's sluice: 32 entries of 8 bytes hold eight of them, the oldest (R46, R47); the others wait in the aggregator for
the credit that each entry drained returns. -/
def Meter.inSluice (m : Meter) : List MRecord := m.queue.take 8

/-- Entries that the event log holds (R452). -/
def gaugeLogSize : Nat := 8192

/-- Free entries of the event log: a pending approval has one reserved (R453). -/
def Gauge.room (g : Gauge) : Nat := gaugeLogSize - g.log.length - (if g.pendVersion = 0 then 0 else 1)

/-- Write an entry (R452); source 007h fires when the log is full. -/
def State.gaugeEntry (s : State) (code data : Nat) : State :=
  let g := s.gauge
  let g := { g with log := g.log ++ [⟨g.next, g.time, code, data⟩], next := g.next + 1 }
  let s := { s with gauge := g }
  if g.log.length ≥ gaugeLogSize then s.arrive 7 else s

/-- A detection (R453): logged, or counted when the log is full; a seal event is raised and reported as breach source 06h (R455). -/
def State.detect (s : State) (code data : Nat) (raise_ : Bool) : State :=
  let s := if s.gauge.room = 0 then { s with gauge := { s.gauge with unlogged := s.gauge.unlogged + 1 } } else s.gaugeEntry code data
  if raise_ then ({ s with gauge := { s.gauge with sealed_ := true } }.arrive 6).breach 6 else s

/-- Tidegauge is read-only while the device is in berm mode (R455). -/
def State.gaugeLocked (s : State) : Bool := decide (s.start.st = .berm)

/-- Change Tidegauge's state (R514). -/
def State.setGauge (s : State) (st : GaugeState) : State :=
  if s.gauge.st = st then s else { s with gauge := { s.gauge with st := st } }.arrive 6

/-- Nanoseconds of a charge that make one unit of 65 536 byte-seconds (R441): frames for T1, blocks of 4 096 bytes for T2 and T3. -/
def unitTime (kind : Nat) : Nat := if kind = 4 then 10 ^ 9 else 16 * 10 ^ 9

/-- Integrate a charge up to now (R445): whole units go to the counter, the rest is kept. -/
def Gauge.integrate (g : Gauge) (key : Nat) : Gauge :=
  let n := Map.getD g.frac key 0 + Map.getD g.charge key 0 * (g.time - Map.getD g.since key g.time)
  let u := unitTime (key % 8)
  { g with counters := Map.put g.counters key (Map.getD g.counters key 0 + n / u), frac := Map.put g.frac key (n % u),
           since := Map.put g.since key g.time }

/-- Integrate every charge up to now. -/
def Gauge.integrateAll (g : Gauge) : Gauge := (Map.keys g.charge).foldl Gauge.integrate g

/-- Apply a record's amount (R441, R444, R445): a kind that the table lacks adds nothing. -/
def Gauge.apply (g : Gauge) (m : MRecord) : Gauge :=
  let key := m.tenant * 8 + m.kind
  let g := { g with lastRec := m.seq }
  if m.kind = 0 ∨ 6 < m.kind then g
  else if m.kind ≤ 2 then { g with counters := Map.put g.counters key (Map.getD g.counters key 0 + m.amount) }
  else if m.kind = 3 then
    let n := Map.getD g.residue key 0 + m.amount
    { g with counters := Map.put g.counters key (Map.getD g.counters key 0 + n / 1024), residue := Map.put g.residue key (n % 1024) }
  else
    let g := g.integrate key
    { g with charge := Map.put g.charge key m.amount }

/-- The record that 32 bytes spell (R444), none where their CRC fails. -/
def readRecord (bs : List Nat) : Option MRecord :=
  if bs.length = 32 ∧ fieldAt bs 28 4 = crc32c (bs.take 28) then
    some ⟨fieldAt bs 0 8, fieldAt bs 8 8, fieldAt bs 16 2 % 4096, nth bs 18, fieldAt bs 20 8⟩
  else none

/-- Tidegauge takes the 32 bytes of a record (R445), which returns their sluice credit (R47): a CRC failure or a skipped sequence is a detection;
a valid record is applied. DEDUCED, log entry 77. -/
def State.gaugeRecord (s : State) (bs : List Nat) : State :=
  if s.gauge.st ≠ .running then s
  else
    let s := { s with meter := { s.meter with queue := s.meter.queue.filter fun q => q.seq != fieldAt bs 0 8 } }
    match readRecord bs with
    | none => s.detect 0x13 (fieldAt bs 0 8) true
    | some m =>
    if m.seq ≤ s.gauge.lastRec then s
    else
      let s := if m.seq = s.gauge.lastRec + 1 then s else s.detect 0x13 m.seq true
      { s with gauge := s.gauge.apply m }
/-- METERING_RECORD (R445). -/
def execMeteringRecord (bytes : List Nat) (s : State) : Host.Outcome State Fault Refusal := .next (s.gaugeRecord bytes)

/-- What a tenant and kind has to report: the sum of kinds 1 to 3, or the committed charge of kinds 4 to 6 where it has changed. -/
def State.dueAmount (s : State) (key : Nat) : Option Nat :=
  let kind := key % 8
  let c := s.charge (key / 8)
  if kind = 0 ∨ kind > 6 then none
  else if kind ≤ 3 then (match Map.getD s.meter.sums key 0 with | 0 => none | n => some n)
  else
    let level := if kind = 4 then c.t1 else if kind = 5 then c.t2 else c.t3
    if level = Map.getD s.meter.reported key 0 then none else some level

/-- The tenants of which something may be due. -/
def State.meteredTenants (s : State) : List Nat :=
  (((Map.keys s.meter.sums).map (· / 8)) ++ Map.keys s.charges ++ ((Map.keys s.meter.reported).map (· / 8))).foldl insertNat []

/-- The aggregator makes a record of each changed tenant and kind (R444), the lowest tenant and kind first. -/
def State.makeRecords (s : State) : State :=
  let keys := s.meteredTenants.flatMap fun t => (List.range 6).map fun k => t * 8 + k + 1
  let one (s : State) (key : Nat) : State :=
    match s.dueAmount key with
    | none => s
    | some n =>
      let m := s.meter
      let r : MRecord := { seq := m.seq + 1, time := s.time, tenant := key / 8, kind := key % 8, amount := n }
      { s with meter := { m with seq := m.seq + 1, queue := m.queue ++ [r], sums := Map.del m.sums key,
                                 reported := if key % 8 ≤ 3 then m.reported else Map.put m.reported key n } }
  keys.foldl one s

/-- METERING_RECORD_TIMER (R444): while Tidegauge takes no records, the sums go on accumulating (R445). -/
def execMeteringRecordTimer (s : State) : Host.Outcome State Fault Refusal :=
  .next (if s.gauge.st = .running then s.makeRecords else s)

/-- Write the counter checkpoint (R446). -/
def State.checkpoint (s : State) : State :=
  let g := s.gauge.integrateAll
  { s with gauge := { g with checkpoint := ⟨g.counters, g.residue, g.charge, g.frac, g.time, g.lastRec⟩ } }

/-- COUNTER_CHECKPOINT (R446): every second of gauge time. -/
def execCounterCheckpoint (s : State) : Host.Outcome State Fault Refusal :=
  .next (if s.gauge.st = .running ∨ s.gauge.st = .readOnly then s.checkpoint else s)

/-- The flush before a warm reset and at power-fail (R446): every record is made and applied, and the checkpoint written. -/
def State.flushMeter (s : State) : State :=
  if s.gauge.st ≠ .running then s
  else
    let s := s.makeRecords
    (s.meter.queue.foldl (fun s m => s.gaugeRecord m.bytes) s).checkpoint

/-- CRYSTAL_COMPARE (R446): a deviation above 200 ppm over the window. -/
def execCrystalCompare (ppm : Int) (s : State) : Host.Outcome State Fault Refusal :=
  .next (if ppm.natAbs > 200 then s.detect 0x14 ppm.natAbs true else s)

/-- ISLAND_SUPPLY_OUT_OF_RANGE (R453). -/
def execIslandSupplyOutOfRange (s : State) : Host.Outcome State Fault Refusal := .next (s.detect 0x15 0 true)

/-- Whether Tidegauge makes readings: an image runs, and the derived key is the certified one (R447). -/
def State.reads (s : State) : Bool := (decide (s.gauge.st = .running) || decide (s.gauge.st = .readOnly)) && s.gauge.keyOk

/-- A snapshot for a reading (R448); a later request discards one in progress, whose seal flag it takes over. -/
def State.snapshot (s : State) (kind tenant nonce : Nat) (entries : List GEntry) : State :=
  let g := s.gauge.integrateAll
  let carried := match g.asked with | some r => bit r.flags 3 | none => false
  let r : Reading := { kind := kind, tenant := tenant, nonce := nonce, time := g.time, device := s.time, lastRec := g.lastRec,
                       counters := if kind = 1 then (List.range 6).map fun k => Map.getD g.counters (tenant * 8 + k + 1) 0 else [],
                       residue := if kind = 1 then Map.getD g.residue (tenant * 8 + 3) 0 else 0, first := match entries with | e :: _ => e.seq | [] => 0,
                       entries := entries, next := g.next, unlogged := g.unlogged, epoch := Map.getD g.epochs tenant 0,
                       version := g.version, image := g.digest,
                       flags := b2n s.gaugeLocked + 2 * b2n (decide (g.log.length ≥ gaugeLogSize)) +
                         4 * b2n (decide (g.pendVersion ≠ 0)) + 8 * b2n (g.sealed_ || carried) }
  { s with gauge := { g with asked := some r, sealed_ := false } }

/-- Ask for a tenant reading (R448); none where no reading is made. -/
def State.askTenant (s : State) (t nonce : Nat) : Option State := if s.reads then some (s.snapshot 1 t nonce []) else none
/-- TENANT_READING (R448). -/
def execTenantReading (t : Tenant) (nonce : Nat) (s : State) : Host.Outcome State Fault Refusal := .next ((s.askTenant t nonce).getD s)

/-- Ask for a log reading of the oldest entries held (R448); none for a count outside 1 to 256. DEDUCED, log entry 78. -/
def State.askLog (s : State) (count nonce : Nat) : Option State :=
  if s.reads ∧ 1 ≤ count ∧ count ≤ 256 then
    some (s.snapshot 2 0 nonce (s.gauge.log.take count))
  else none
/-- LOG_READING (R448). -/
def execLogReading (count nonce : Nat) (s : State) : Host.Outcome State Fault Refusal := .next ((s.askLog count nonce).getD s)

/-- An entry's 32 bytes (R452). -/
def GEntry.line (e : GEntry) : List Nat := leBytes 8 e.seq ++ leBytes 8 e.time ++ leBytes 2 e.code ++ [0, 0] ++ leBytes 12 e.data

/-- READING_STANDS (R448): the reading is signed, a log reading over its entries' digest; a log reading is exported (R454). -/
def State.readingStands (s : State) (signature : Nat) : State :=
  match s.gauge.asked with
  | none => s
  | some r =>
    let g := s.gauge
    let digest := leNat (sha3 (r.entries.flatMap GEntry.line))
    let g := { g with asked := none, reading := some { r with digest := digest, sig := signature }, signed := min (g.signed + 1) (2 ^ 32 - 1),
                      exported := if r.kind = 2 then (r.first, r.entries.length, digest) :: g.exported else g.exported }
    { s with gauge := g }.arrive 0x018
def execReadingStands (signature : Nat) (s : State) : Host.Outcome State Fault Refusal := .next (s.readingStands signature)

/-- IMAGE_LOAD_TIDEGAUGE (R449, R456): accepted when its digest is the approved one, whose version it then bears; an image write while an image runs is refused
as 0012h. -/
def State.gaugeImage (s : State) (image : List Nat) : State :=
  match s.gauge.st with
  | .awaiting =>
    let digest := leNat (sha3 image)
    if digest = s.gauge.approvedDigest then
      let version := s.gauge.approvedVersion
      let s := { s with gauge := { s.gauge with version := version, digest := digest } }
      (s.setGauge (if s.gaugeLocked then .readOnly else .running)).measure measGauge (some ⟨3, 0, version, s.time, digest⟩)
    else s.detect 0x17 0 false
  | .running | .readOnly => s.detect 0x12 0 false
  | _ => s
def execImageLoadTidegauge (image : List Nat) (s : State) : Host.Outcome State Fault Refusal := .next (s.gaugeImage image)

/-- The result of an update package (R450), checked in the order given; the entry that its approval will need is reserved (R453). -/
def State.packageResult (s : State) (bs : List Nat) (sigOk : Bool) : Nat :=
  let g := s.gauge
  let newVersion := fieldAt bs 4 4
  if s.gaugeLocked then 5
  else if bs.length ≠ 4699 ∨ nth bs 0 ≠ 1 ∨ fieldAt bs 1 3 ≠ 0 then 6
  else if !s.pkg.updEn then 1
  else if !sigOk then 2
  else if newVersion ≤ g.approvedVersion ∨ newVersion ≤ g.pendVersion then 3
  else if g.room < (if g.pendVersion = 0 then 2 else 1) then 4
  else 0

/-- UPDATE_PACKAGE (R450): whether its signature verifies comes with it. DESIGN CHOICE, log entry 12. -/
def State.updatePackage (s : State) (bs : List Nat) (sigOk : Bool) : State :=
  let r := s.packageResult bs sigOk
  let newVersion := fieldAt bs 4 4
  let s := { s with gauge := { s.gauge with update := r } }
  if r ≠ 0 then s
  else
    let s := s.gaugeEntry 1 newVersion
    { s with gauge := { s.gauge with pendVersion := newVersion, pendDigest := fieldAt bs 8 64 } }
def execUpdatePackage (bytes : List Nat) (sigOk : Bool) (s : State) : Host.Outcome State Fault Refusal := .next (s.updatePackage bytes sigOk)

/-- UPDATE_ENABLE_CHANGE (R451): the land's assertion and its release are detections. -/
def execUpdateEnableChange (on : Bool) (s : State) : Host.Outcome State Fault Refusal :=
  .next (if s.pkg.updEn = on then s
    else
      let s := { s with pkg := { s.pkg with updEn := on } }
      s.detect (if on then 0x10 else 0x11) 0 on)

/-- A clear of the oldest entries (R454): none unless a log reading of exactly these has been produced. -/
def State.clearGaugeLog (s : State) (first count digest : Nat) : Option State :=
  let g := s.gauge
  let oldest := match g.log with | e :: _ => e.seq | [] => 0
  if s.gaugeLocked ∨ count = 0 ∨ count > g.log.length ∨ first ≠ oldest ∨ !g.exported.contains (first, count, digest) then none
  else some ({ s with gauge := { g with log := g.log.drop count } }.gaugeEntry 5 count)
/-- LOG_CLEAR (R454). -/
def execLogClear (first count digest : Nat) (s : State) : Host.Outcome State Fault Refusal := .next ((s.clearGaugeLog first count digest).getD s)

/-- Adjust gauge time (R453): a change, which needs a free entry. -/
def State.adjustGauge (s : State) (ns : Int) : Option State :=
  if s.gaugeLocked ∨ s.gauge.room = 0 ∨ ns.natAbs > 10 ^ 9 then none
  else
    let s := s.gaugeEntry 3 (ns % 2 ^ 64).toNat
    let g := s.gauge.integrateAll
    let now := ((g.time : Int) + ns).toNat
    some { s with gauge := { g with time := now, since := Map.each g.since fun _ _ => now } }
/-- GAUGE_TIME_ADJUSTMENT (R453). -/
def execGaugeTimeAdjustment (ns : Int) (s : State) : Host.Outcome State Fault Refusal := .next ((s.adjustGauge ns).getD s)

/-- Retire a tenant (R453, R456): its epoch rises; its counters go on. -/
def State.retireTenant (s : State) (t : Nat) : Option State :=
  if s.gaugeLocked ∨ s.gauge.room = 0 then none
  else
    let e := Map.getD s.gauge.epochs t 0 + 1
    let s := s.gaugeEntry 4 (t + e * 2 ^ 16)
    some { s with gauge := { s.gauge with epochs := Map.put s.gauge.epochs t e } }
/-- TENANT_RETIRE (R453). -/
def execTenantRetire (t : Tenant) (s : State) : Host.Outcome State Fault Refusal := .next ((s.retireTenant t).getD s)

/-- The always-on domain leaves reset (R434, R435, R459, R565): where the part is not running, its island powers on as OFF goes to AON,
and what only power-off clears is clear: the breach latch, the policy lock and the locked levels. DEDUCED, log entry 139. -/
def State.alwaysOn (s : State) : State :=
  if s.pkg.pwr = .ready ∨ s.pkg.pwr = .down then
    { s with start := { s.start with latch := false }, sec := { s.sec with locked := false },
             regs := Map.keep s.regs fun k _ => decide (k / 256 ≠ 0x2E20) }
  else s

/-- ISLAND_POWER_ON (R446, R447, R450): the key is derived, a pending approval becomes the approved record before an image is
loaded, and the last checkpoint is restored. -/
def State.islandOn (s : State) (keyOk : Bool) : State :=
  let s := s.alwaysOn
  let g := s.gauge
  let c := g.checkpoint
  let back : Gauge :=
    { approvedVersion := g.approvedVersion, approvedDigest := g.approvedDigest, pendVersion := g.pendVersion, pendDigest := g.pendDigest,
      counters := c.counters, residue := c.residue, charge := c.charge, frac := c.frac, since := Map.each c.charge fun _ _ => c.time,
      time := c.time, lastRec := c.lastRec, epochs := g.epochs, log := g.log, next := g.next, unlogged := g.unlogged, checkpoint := c,
      exported := g.exported, keyOk := keyOk, clean := false, st := if keyOk then .awaiting else .mismatch }
  let s := { s with gauge := back }
  let s := if g.pendVersion = 0 then s
    else
      let s := { s with gauge := { s.gauge with approvedVersion := g.pendVersion, approvedDigest := g.pendDigest, pendVersion := 0, pendDigest := 0 } }
      s.gaugeEntry 2 g.pendVersion
  let s := if g.clean then s else s.detect 0x16 0 true
  s.detect 0x18 c.lastRec false
/-- ISLAND_POWER_ON (R447). -/
def execIslandPowerOn (keyOk : Bool) (s : State) : Host.Outcome State Fault Refusal := .next (s.islandOn keyOk)

end Sys2Proof.Machine
end

