-- ==== Sys2Proof/Machine/Package.lean ====
section
/-! DEFINITION. The package: sluices (R46, R47), the derating table (R45), rails (R563) and lands (R553 to R561). -/

namespace Sys2Proof.Machine

/-- The sluices of R46. -/
inductive Sluice where
  | hbm | pcie | root | fabric | management | tidegauge
  deriving DecidableEq, Repr

/-- A sluice's FIFO in bytes for each direction: a pseudo-channel's, a link's or a port's own (R46). -/
def Sluice.depth : Sluice → Nat
  | .hbm => 12288
  | .pcie => 65536
  | .root => 32768
  | .fabric => 16384
  | .management => 4096
  | .tidegauge => 256

/-- A sluice's least and greatest latency at the nominal corner, in ns (R46). -/
def Sluice.latency : Sluice → Nat × Nat
  | .hbm => (6, 14)
  | .pcie | .root => (10, 28)
  | .fabric => (8, 20)
  | .management => (24, 64)
  | .tidegauge => (80, 160)

/-- What holds the sender when a sluice's inbound FIFO is full (R47). -/
inductive FlowControl where
  | pcieCredits | lemweaveCredits | pause | readIssue | entryCredit
  deriving DecidableEq, Repr

/-- The flow control of a sluice (R47). -/
def Sluice.flow : Sluice → FlowControl
  | .pcie | .root => .pcieCredits
  | .fabric => .lemweaveCredits
  | .management => .pause
  | .hbm => .readIssue
  | .tidegauge => .entryCredit

/-- The derating table (R45): core supply in mV, and Tmax at 0, 25, 70, 95 and 105 °C. -/
def derating : List (Nat × List Nat) :=
  [(650, [760, 740, 700, 670, 655]), (700, [900, 880, 840, 805, 790]), (750, [1190, 1170, 1120, 1085, 1070]),
   (800, [1320, 1300, 1250, 1210, 1195]), (850, [1440, 1420, 1365, 1320, 1305]), (900, [1550, 1525, 1470, 1420, 1400])]

/-- The floor of Tmax at a core supply in mV and a junction temperature in °C (R45): between rows and columns the lower neighbour, that is
the lower row's supply and the higher column's temperature; above 900 mV the last row; none outside the operating range. -/
def sustainable (mv : Nat) (temp : Int) : Option Nat :=
  if temp < 0 ∨ 105 < temp then none
  else
    let col := ([0, 25, 70, 95, 105].filter fun (t : Int) => decide (t < temp)).length
    ((derating.filter fun r => decide (r.1 ≤ mv)).getLast?).bind fun r => r.2[col]?

/-- A rail (R563): its nominal voltage in mV, the operating range (a tolerance in percent, or for the rails that share the core target the
range of that target), the absolute maximum in mV, typical and maximum current in 0.1 A, its lands. -/
structure Rail where
  nominal : Nat
  low : Nat
  high : Nat
  most : Nat
  typical : Nat
  peak : Nat
  lands : Nat
  deriving DecidableEq, Repr

/-- A rail whose operating range is its nominal voltage within a tolerance; the bounds in tenths of a millivolt. -/
def railWithin (nominal tol most typical peak lands : Nat) : Rail :=
  ⟨nominal, nominal * (100 - tol) / 10, nominal * (100 + tol) / 10, most, typical, peak, lands⟩

/-- The rail of a number (R563). -/
def railOf : Nat → Option Rail
  | 1 | 2 | 3 | 4 => some ⟨750, 6500, 10000, 1100, 1650, 4000, 545⟩
  | 5 => some ⟨750, 6500, 10000, 1100, 420, 1050, 145⟩
  | 6 => some (railWithin 1100 3 1250 1360 1800 240)
  | 7 => some (railWithin 400 3 500 600 1200 200)
  | 8 => some (railWithin 1800 5 2000 200 300 48)
  | 9 => some (railWithin 750 3 900 290 450 72)
  | 10 => some (railWithin 1200 3 1350 67 100 24)
  | 11 => some (railWithin 800 3 950 100 200 48)
  | 12 => some (railWithin 1200 3 1350 33 60 16)
  | 13 => some (railWithin 1800 5 2000 5 20 16)
  | 14 => some (railWithin 800 5 950 3 5 4)
  | 15 => some (railWithin 800 5 950 1 2 4)
  | 16 => some (railWithin 1800 5 2000 0 1 2)
  | _ => none

/-- Whether a voltage in mV lies in a rail's operating range. -/
def Rail.within (r : Rail) (mv : Nat) : Bool := decide (r.low ≤ 10 * mv ∧ 10 * mv ≤ r.high)

/-- The letters of the rows (R553). -/
def rowLetters : List Char := "ABCDEFGHJKLMNPTUVWY".toList

/-- The name of a row from its index, 1 to 89 (R553). -/
def rowName (i : Nat) : List Char :=
  if i ≤ 19 then (rowLetters[i - 1]?).toList else ((rowLetters[(i - 20) / 19]?).toList ++ (rowLetters[(i - 20) % 19]?).toList)

/-- A land, by its row index and its column (R553). -/
abbrev Land := Nat × Nat

/-- Whether a land stands in the grid, which has none at A1 (R552, R553). -/
def landExists (l : Land) : Bool := decide (1 ≤ l.1 ∧ l.1 ≤ 89 ∧ 1 ≤ l.2 ∧ l.2 ≤ 89 ∧ l ≠ (1, 1))

/-- The regions of the grid (R555). -/
inductive Region where
  | top | bottom | left | right | core
  deriving DecidableEq, Repr
def regionOf (l : Land) : Region :=
  if l.1 ≤ 7 then .top else if 83 ≤ l.1 then .bottom else if l.2 ≤ 7 then .left else if 83 ≤ l.2 then .right else .core

/-- Whether a land of the core field is ground (R556). -/
def coreGround (l : Land) : Bool := decide (regionOf l = .core) && decide ((l.1 + l.2) % 2 = 1)

/-- The rail of an edge power land (R557); none at a land that the rule does not place. -/
def edgeRail (l : Land) : Option Nat :=
  let (i, c) := l
  if (i = 7 ∨ i = 83) ∧ 1 ≤ c ∧ c ≤ 84 then
    (if c % 7 = 0 then some 10 else if c % 7 = 2 ∨ c % 7 = 4 ∨ c % 7 = 5 then some 9 else none)
  else if (c = 7 ∨ c = 83) ∧ 10 ≤ i ∧ i ≤ 72 ∧ i % 2 = 0 then (if i % 8 = 2 then some 12 else some 11)
  else if c = 1 then
    (if 39 ≤ i ∧ i ≤ 54 then some 13 else if 55 ≤ i ∧ i ≤ 58 then some 14 else if 59 ≤ i ∧ i ≤ 62 then some 15
     else if 63 ≤ i ∧ i ≤ 64 then some 16 else none)
  else none

/-- A land of lane `k` of fabric port `n` (R558): its transmit or receive pair, the negative or the positive line. -/
def fabricLand (n k : Nat) (tx neg : Bool) : Land :=
  (if n < 6 then (if tx then 5 else 2) else (if tx then 85 else 88), 14 * (n % 6) + 3 * k + 2 + (if neg then 1 else 0))

/-- A land of PCIe upstream lane `k` (R559). -/
def pcieLand (k : Nat) (tx neg : Bool) : Land := (10 + 4 * k + (if neg then 1 else 0), if tx then 5 else 2)

/-- A land of root-port lane `j` (R560): lanes 0 to 7 are port A's, 8 to 15 port B's, four to each drive position. -/
def rootLand (j : Nat) (tx neg : Bool) : Land := (10 + 4 * j + (if neg then 1 else 0), if tx then 85 else 88)

/-- The lands of the single signals and clocks (R561): A1's neighbours to A36 are reserved (R562). -/
def signalLands : List (String × List Land) :=
  [("FREFCLK0", [(2, 86), (2, 87)]), ("FREFCLK1", [(88, 86), (88, 87)]), ("PCIE_REFCLK", [(74, 2), (75, 2)]), ("PERST#", [(74, 5)]),
   ("HBM_REFCLK", [(78, 2), (79, 2)]), ("XTG", [(81, 2), (82, 2)])] ++
  [("PMB_SCL", [(78, 3)]), ("PMB_SDA", [(79, 3)]), ("PMB_ALERT#", [(80, 3)]), ("AVS_CLK", [(78, 4)]), ("AVS_MDATA", [(79, 4)]),
   ("AVS_SDATA", [(80, 4)]), ("PWRGOOD", [(78, 5)]), ("PWRFAIL#", [(79, 5)]), ("THERMTRIP#", [(80, 5)]), ("DEVALERT#", [(81, 5)])] ++
  [("TG_UPDEN", [(82, 5)]), ("TCK", [(78, 6)]), ("TMS", [(79, 6)]), ("TDI", [(80, 6)]), ("TDO", [(81, 6)]), ("TRST#", [(82, 6)]),
   ("TEST", [(75, 7), (76, 7), (77, 7), (78, 7), (79, 7), (80, 7), (81, 7), (82, 7)]),
   ("MREFCLK", [(77, 87), (78, 87)]), ("M0", [(8, 88), (9, 88), (8, 85), (9, 85)]), ("M1", [(80, 88), (81, 88), (80, 85), (81, 85)])] ++
  [("REFCLK A0", [(74, 88), (75, 88)]), ("REFCLK A1", [(74, 85), (75, 85)]), ("REFCLK B0", [(78, 88), (79, 88)]), ("REFCLK B1", [(78, 85), (79, 85)]),
   ("PERST# out", [(74, 83), (75, 83), (78, 83), (79, 83)]), ("PRSNT#", [(74, 84), (75, 84), (78, 84), (79, 84)]),
   ("Sense", [(74, 3), (75, 3), (76, 3), (77, 3), (74, 4), (75, 4), (76, 4), (77, 4), (74, 6), (75, 6), (76, 6), (77, 6), (81, 3), (82, 3)]),
   ("Reserved", (List.range 35).map fun i => (1, i + 2))]

/-- DEVALERT# is asserted while 1001h [0] is set (R561). -/
def devAlert (errorRegister : Nat) : Bool := decide (errorRegister % 2 = 1)

end Sys2Proof.Machine
end

