-- ==== Sys2Proof/Machine/Restart.lean ====
section
/-! DEFINITION. Resets, failed starts and berm mode (R459 to R463, R474 to R480), power-fail and package events (R446, R565 to R569). -/

namespace Sys2Proof.Machine

/-- Change the start state (R464, R514). -/
def State.setStart (s : State) (st : StartState) : State := { s with start := { s.start with st := st, entered := s.time } }.arrive 0

/-- The step that a start state reports (R464). -/
def startStep : StartState → Nat
  | .rom => 1 | .identity => 2 | .margin => 3 | .training => 4 | .awaitBundle => 5 | .verify => 6 | .stewards => 8
  | .programs => 9 | .joining => 10 | .serving | .berm => 11

/-- Whether a start is under way: any state of ROM to JOINING. -/
def State.starting (s : State) : Bool := decide (s.start.st ≠ .serving) && decide (s.start.st ≠ .berm)

/-- Whether a register survives a warm reset: those of the always-on domain (R460), of Tidegauge (R440), and the breach levels
once they are locked until power-off (R435). DEDUCED, log entry 79. -/
def survives (locked : Bool) (key : Nat) : Bool :=
  decide (key / 256 = 0x2100) || decide (0x5000 ≤ key / 256) || (locked && decide (key / 256 = 0x2E20))

/-- What a reset leaves (R459 to R461): the always-on domain, the Tidegauge island, the aggregator's sums and its sequence (R444,
R445), the lands. Message identifiers start again at a value of the DRBG (R420). DESIGN CHOICE, log entry 8. -/
def State.cleared (s : State) : State :=
  let keepStart : Start := { fails := s.start.fails, bermCause := s.start.bermCause, resetCause := s.start.resetCause,
                             latch := s.start.latch, timeSet := s.start.timeSet }
  { pending := s.pending, freeCtr := s.freeCtr + 1, time := s.time, pkg := s.pkg, start := keepStart,
    regs := Map.keep s.regs fun k _ => survives s.sec.locked k, meter := s.meter, gauge := s.gauge,
    sec := { locked := s.sec.locked, msgId := (Config.freeValue s.freeCtr).toNat % 2 ^ 32 }, out := s.out }

/-- Tidegauge out of berm mode is no longer read-only (R455). -/
def Gauge.unlock (g : Gauge) : Gauge := if g.st = .readOnly then { g with st := .running } else g

/-- A warm reset's own work (R459, R460, R464): the cause, the count, and a new start, in which S0 runs the boot ROM. -/
def State.restart (s : State) (cause : Nat) : State :=
  let s := s.cleared
  ({ s with start := { s.start with resetCause := cause, stewards := [(0, .running)] }, gauge := s.gauge.unlock }.bump 0x210008).setStart .rom

/-- Record a failed start (R475): at most three are kept. -/
def State.recordFail (s : State) (reason detail : Nat) : State :=
  { s with start := { s.start with fails := (s.start.fails ++ [(reason, startStep s.start.st, detail)]).take 3 } }

/-- Enter berm mode (R476, R478, R479): only S0's boot ROM runs, every stack is in reset and every polder dry, no port is enabled, no
bundle or program is measured, and Tidegauge is read-only. DEDUCED, log entry 93. -/
def State.enterBerm (s : State) (cause : Nat) : State :=
  let s := { s with start := { s.start with bermCause := cause, stewards := [(0, .running)], portsUp := false },
                    sec := { s.sec with meas := Map.keep s.sec.meas fun _ m => decide (m.kind ≠ 2) && decide (m.kind ≠ 4) && decide (m.kind ≠ 5) } }
  let s := (List.range 8).foldl (fun (s : State) p => s.setPolder p { s.polder p with down := true, sleep := .dry, sleepHold := .dry }) s
  let s := if s.gauge.st = .running then s.setGauge .readOnly else s
  s.setStart .berm

/-- A warm reset from outside the start sequence (R461, R474, R476): the metering sums are flushed first; before SERVING the start
has failed with reason 0Fh, and the third failure makes the next start end in berm mode. DESIGN CHOICE, log entry 91. -/
def State.warmReset (s : State) (cause : Nat) : State :=
  let s := s.flushMeter
  if !s.starting then s.restart cause
  else
    let s := s.recordFail 0x0F cause
    (if s.start.fails.length ≥ 3 then { s with start := { s.start with bermCause := 1 } } else s).restart cause
/-- WARM_RESET (R459, R461). -/
def execWarmReset (cause : Nat) (s : State) : Host.Outcome State Fault Refusal := .next (s.warmReset cause)
/-- WARM_RESET_CONTROL: control 01h of 2000h.0C. -/
def execWarmResetControl (s : State) : Host.Outcome State Fault Refusal := .next (s.warmReset 3)
/-- PERST (R566): no effect while PWRGOOD is deasserted. -/
def execPerst (s : State) : Host.Outcome State Fault Refusal :=
  .next (if s.pkg.pwr = .running ∨ s.pkg.pwr = .failing then s.warmReset 2 else s)

/-- A start fails (R464, R474 to R476): below three failures a warm reset follows, at three berm mode. -/
def State.failStart (s : State) (reason detail : Nat) : State :=
  if !s.starting then s
  else
    let s := s.recordFail reason detail
    if s.start.fails.length ≥ 3 then s.enterBerm 1 else s.flushMeter.restart 4

/-- Berm control (R480): none outside berm mode and while the breach latch is set. -/
def State.bermControl (s : State) : Option State :=
  if s.start.st ≠ .berm ∨ s.start.latch then none
  else some ({ s with start := { s.start with fails := [], bermCause := 0 } }.flushMeter.restart 6)
/-- BERM_CONTROL (R480). -/
def execBermControl (s : State) : Host.Outcome State Fault Refusal := .next (s.bermControl.getD s)

/-- Reset at power-on or when PWRGOOD falls (R459, R565): the always-on domain is cleared but for what only power-off clears (R434,
R435), and device time counts from 0. -/
def State.powerReset (s : State) (pwr : Power) (hiZ : Bool) : State :=
  let latch := s.start.latch
  let s := s.cleared
  { s with time := 0, start := { latch := latch }, regs := Map.keep s.regs fun k _ => decide (k / 256 ≠ 0x2100),
           pkg := { s.pkg with pwr := pwr, hiZ := hiZ, thermtrip := false },
           gauge := s.gauge.unlock }

/-- POWER_ON (R464, R565): PWRGOOD ends the reset, and S0 runs the boot ROM. -/
def State.powerOn (s : State) : State :=
  if s.pkg.pwr = .ready ∨ s.pkg.pwr = .down then
    let s := s.powerReset .running false
    { s with start := { s.start with stewards := [(0, .running)] } }.setStart .rom
  else s
def execPowerOn (s : State) : Host.Outcome State Fault Refusal := .next s.powerOn

/-- PWRGOOD_DEASSERT (R565): reset, with every output high-impedance. -/
def execPwrgoodDeassert (s : State) : Host.Outcome State Fault Refusal :=
  .next (if s.pkg.pwr = .running ∨ s.pkg.pwr = .failing ∨ s.pkg.pwr = .ready then s.powerReset .down true else s)

/-- PWRFAIL (R446, R456, R565): the flush and the checkpoint; no reading stands that was being signed. -/
def State.powerFail (s : State) : State :=
  if s.pkg.pwr ≠ .running then s
  else
    let s := s.flushMeter
    { s with pkg := { s.pkg with pwr := .failing }, gauge := { s.gauge with asked := none, clean := true } }
def execPwrfail (s : State) : Host.Outcome State Fault Refusal := .next s.powerFail

/-- PWRFAIL_RECOVERY (R565). -/
def execPwrfailRecovery (s : State) : Host.Outcome State Fault Refusal :=
  .next (if s.pkg.pwr ≠ .failing then s
    else { s with pkg := { s.pkg with pwr := .running }, gauge := { s.gauge with clean := false } }.bump 0x233205)

/-- A rail leaves its operating range (R565): counted, and logged under a code that R376 does not list, a free value. At step 1 it
fails the start with reason 01h, unless that step leads to berm mode whatever it finds (R434, R476). -/
def State.railOut (s : State) (rail : Nat) : State :=
  let code := (Config.freeValue s.freeCtr).toNat % 65536
  let s := ({ s with freeCtr := s.freeCtr + 1 }.bump 0x233204).logEvent code 0 rail 1 0
  if s.start.st = .rom ∧ (s.pkg.pwr = .running ∨ s.pkg.pwr = .failing) ∧ !s.start.latch ∧ s.start.bermCause ≠ 1 then s.failStart 1 rail else s
/-- RAIL_EXCURSION (R563, R565): a rail stands at `mv` millivolts. Above its absolute maximum it is breach source 01h in any state but OFF. -/
def State.railAt (s : State) (rail mv : Nat) : State :=
  match railOf rail with
  | none => s
  | some r => if r.most < mv then (if s.pkg.pwr = .off then s else s.breach 1) else if r.within mv then s else s.railOut rail
def execRailExcursion (rail mv : Nat) (s : State) : Host.Outcome State Fault Refusal := .next (s.railAt rail mv)

/-- THERMTRIP (R569): a tile sensor at 120.0 °C or a stack at 110.0 °C; held until PWRGOOD is deasserted. -/
def execThermtrip (tileTemps stackTemps : List Int) (s : State) : Host.Outcome State Fault Refusal :=
  let hot := (tileTemps.any fun t => decide (1200 ≤ t)) || stackTemps.any fun t => decide (1100 ≤ t)
  .next (if hot ∧ (s.pkg.pwr = .running ∨ s.pkg.pwr = .failing) then { s with pkg := { s.pkg with thermtrip := true } } else s)

/-- REGULATOR_POLL (R567, R572): readings and status of rails 01h to 0Dh, one bit of `answers` for each that answered, and the
internal monitors of rails 0Eh to 10h. -/
def execRegulatorPoll (readings statuses : List Nat) (answers : Nat) (s : State) : Host.Outcome State Fault Refusal :=
  let one (s : State) (i : Nat) : State :=
    if 13 ≤ i then s.setObj (0x233001 + i) (nth readings i)
    else if bit answers i then
      let s := (s.setObj (0x233001 + i) (nth readings i)).setObj (0x233101 + i) (nth statuses i)
      s.setObj 0x233202 (s.obj 0x233202 - (if bit (s.obj 0x233202) i then 2 ^ i else 0))
    else
      let s := s.bump 0x233201
      s.setObj 0x233202 (s.obj 0x233202 + (if bit (s.obj 0x233202) i then 0 else 2 ^ i))
  .next ((List.range 16).foldl one s)

end Sys2Proof.Machine
end

