-- ==== Sys2Proof/Machine/Stewards.lean ====
section
/-! DEFINITION. Stewards, their watchdogs and restarts (R377, R472, R482). -/

namespace Sys2Proof.Machine

/-- The duty set that a held request waits for (R377, R482): set 1 for FORK, RELEASE, PIN and QUERY, set 2 for the moves. -/
def dutyOf (kind : Nat) : Option Nat :=
  if kind = 4 ∨ kind = 5 ∨ kind = 6 ∨ kind = 11 then some 1 else if 7 ≤ kind ∧ kind ≤ 9 then some 2 else none

/-- Whether a steward carries a duty set. -/
def State.carries (s : State) (k d : Nat) : Bool := decide (nth s.start.duty d = k)

/-- Whether a request's work lies with a steward. -/
def State.workOf (s : State) (k : Nat) (q : Request) : Bool :=
  match dutyOf q.kind with
  | some d => s.carries k d
  | none => false

/-- A halted steward's begun and uncommitted work ends (R377, R197): its moves are undone, a request's with BUSY_RETRY 0Fh. -/
def State.dropBegun (s : State) (k : Nat) : State :=
  let s := s.endEvery (fun _ q => s.workOf k q && decide (q.phase = .move)) (.busy 0x0F)
  if !s.carries k 2 then s
  else
    let moves := (Map.keep s.seqs fun _ e => e.mover.isNone && [SeqState.spilling, .flushing, .restoring].contains e.st).map Prod.fst
    moves.foldl State.moveFailed s

/-- A running steward is halted (R377, R482): to be restarted, or for good after three restarts within 60 seconds, when the requests
held for its duties end BUSY_RETRY 11h and the loss of S0 is a warm reset. DEDUCED, log entry 87. DEDUCED, log entry 92. -/
def State.haltSteward (s : State) (k : Nat) : State :=
  if s.steward k ≠ .running then s
  else
    let recent := (Map.getD s.start.restarts k []).filter fun t => decide (s.time - t < 60 * 10 ^ 9)
    let forever := decide (recent.length ≥ 3)
    let s := { s with start := { s.start with stewards := Map.put s.start.stewards k .halted } }
    let s := if k = 0 then { s with woa := { s.woa with xfers := Map.each s.woa.xfers fun _ (x : Xfer) => { x with broken := true } } } else s
    let s := ((s.unroute k).arrive 5).logEvent 9 0 k recent.length 0
    let s := s.dropBegun k
    if !forever then s
    else if k = 0 then s.warmReset 5
    else
      let s := { s with start := { s.start with gone := insertNat s.start.gone k } }
      s.endEvery (fun _ q => s.workOf k q && decide (q.phase = .held) && !s.heldBack q) (.busy 0x11)
/-- WATCHDOG_EXPIRY (R377). -/
def execWatchdogExpiry (k : Stw) (s : State) : Host.Outcome State Fault Refusal := .next (s.haltSteward k)
/-- STEWARD_MEMORY_PARITY_FAILURE (R348, R377): the failure is counted, and the steward halted. -/
def execStewardMemoryParityFailure (k : Stw) (s : State) : Host.Outcome State Fault Refusal :=
  .next (if s.steward k = .running then (s.bump 0x2C0803).haltSteward k else s)

/-- Where the restart counts of 2C40h.02 are: a byte each, saturating. -/
def restartCount (v k : Nat) : Nat := v + (if v / 256 ^ k % 256 = 255 then 0 else 256 ^ k)

/-- A halted steward runs again, and what it held is served (R377). -/
def State.restartSteward (s : State) (k : Nat) : State :=
  if s.steward k ≠ .halted ∨ s.start.gone.contains k then s
  else
    let st := s.start
    let s := { s with start := { st with stewards := Map.put st.stewards k .running,
                                         restarts := Map.put st.restarts k ((s.time :: Map.getD st.restarts k []).take 3) } }
    let s := (s.setObj 0x2C4002 (restartCount (s.obj 0x2C4002) k)).arrive 5
    if s.carries k 1 then s.answerQueries else s

end Sys2Proof.Machine
end

