-- ==== Sys2Proof/Machine/Tempo.lean ====
section
/-! DEFINITION. Tempo, the tide protocol, PTP and tide boundaries (R381 to R389). -/

namespace Sys2Proof.Machine

/-- The tide group (2210h.01) and its leader: a device of group 0 leads itself (R381). -/
def State.tideGroup (s : State) : Nat := s.obj 0x221001
def State.tideLeader (s : State) : Nat := if s.tideGroup = 0 then s.me else s.obj 0x221002 % 2 ^ 20
def State.isLeader (s : State) : Bool := decide (s.tideLeader = s.me)

/-- The members listed (2211h). -/
def State.tideMembers (s : State) : List Nat :=
  if s.tideGroup = 0 then [s.me] else ((Map.vals s.tempo.members).filter fun n => decide (n ≠ 0)).dedup

/-- The target tempo (2200h.01). -/
def State.targetTempo (s : State) : Nat := s.obj 0x220001

/-- The device's ceiling (R383). -/
def State.ownCeiling (s : State) : Nat :=
  min (min s.targetTempo (s.power.capCeil.getD s.targetTempo)) (min s.thermal.ceiling s.thermal.gaugeCeil)

/-- Which sources set the ceiling, as BID byte 2 (R385). DEDUCED, log entry 82. -/
def State.ceilingCause (s : State) : Nat :=
  let c := s.ownCeiling
  b2n (decide (s.targetTempo = c)) + 2 * b2n (decide (s.power.capCeil = some c)) +
    4 * b2n (decide (s.thermal.ceiling = c)) + 8 * b2n (decide (s.thermal.gaugeCeil = c))

/-- A TIDE message's payload (R385): `tempo` is a BID's ceiling and a REFUSE's reason, `boundary` a BID's device time. -/
def State.tidePayload (s : State) (op : Nat) (t : Tide) : List Nat :=
  let epoch := leBytes 8 (t.epoch % 2 ^ 48)
  match op with
  | 1 => leBytes 2 t.tempo ++ [s.ceilingCause % 256, 0, 0, 0, 0, 0] ++ leBytes 8 t.boundary ++ epoch
  | 2 => epoch ++ leBytes 2 t.tempo ++ List.replicate 6 0 ++ leBytes 8 t.boundary
  | 4 => epoch ++ [t.tempo % 256] ++ List.replicate 7 0
  | 5 => epoch ++ leBytes 2 t.tempo ++ List.replicate 6 0 ++ leBytes 8 t.boundary
  | _ => epoch

/-- Source a TIDE message (R385): kind 07h in class 1, its kind word the operation and the group. -/
def State.sendTide (s : State) (op node : Nat) (t : Tide) : State :=
  let s := { s with out := .tide op node t.epoch t.tempo t.boundary :: s.out }
  let s := if op = 2 ∨ op = 5 then { s with tempo := { s.tempo with sentAt := Map.put s.tempo.sentAt node s.time } } else s
  s.sendSystem 7 1 node (s.tidePayload op t) (op + 256 * (s.tideGroup % 65536))

/-- Send a message of the leader to every listed member but itself. -/
def State.sendMembers (s : State) (op : Nat) (t : Tide) : State :=
  (s.tideMembers.filter fun n => decide (n ≠ s.me)).foldl (fun s n => s.sendTide op n t) s

/-- Whether this device is among its own group's members. -/
def State.listsMe (s : State) : Bool := s.tideMembers.contains s.me

/-- A COMMIT reaches a member (R388): it is held to its boundary, or to the next one when that has passed; an epoch that is not
above the current changes nothing. -/
def State.takeCommit (s : State) (t : Tide) : State :=
  if t.epoch ≤ s.tempo.epoch then s
  else if s.time < t.boundary then { s with tempo := { s.tempo with commit := some t, pend := none } }
  else
    let late : Tide := { t with boundary := s.time / 10000 * 10000 + 10000 }
    { s with tempo := { s.tempo with commit := some late, pend := none } }.bump 0x220009

/-- Send the COMMIT of a proposal for which every READY has come (R387). -/
def State.commitTide (s : State) (t : Tide) : State :=
  let s := { s with tempo := { s.tempo with proposal := none, ready := [], last := some t, done := if s.listsMe then [s.me] else [] } }
  let s := s.sendMembers 5 t
  if s.listsMe then s.takeCommit t else s

/-- Commit once every listed member is ready, before ten microseconds are left to the boundary. -/
def State.commitIfReady (s : State) : State :=
  match s.tempo.proposal with
  | none => s
  | some t => if s.time + 10000 < t.boundary ∧ s.tideMembers.all s.tempo.ready.contains then s.commitTide t else s

/-- Propose a tempo (R387): an epoch above every one known, and the first boundary at least the lead time away. -/
def State.propose (s : State) (g : Nat) : State :=
  let p := max s.tempo.highest s.tempo.epoch + 1
  let t : Tide := ⟨p, g, (s.time + 1000 * s.obj 0x22000A + 9999) / 10000 * 10000⟩
  let mine := s.listsMe
  let s := { s with tempo := { s.tempo with proposal := some t, highest := p, above := none,
                                            ready := if mine then [s.me] else [], pend := if mine then some t else s.tempo.pend } }
  (s.sendMembers 2 t).commitIfReady

/-- The leader's committed tempo (R386). -/
def State.committedTempo (s : State) : Nat :=
  match s.tempo.last with
  | some t => t.tempo
  | none => s.tempo.cur

/-- The group tempo G (R386): the leader's target and the latest bid of each listed member. -/
def State.groupTempo (s : State) : Nat := s.tideMembers.foldl (fun g n => min g (Map.getD s.tempo.bids n g)) s.targetTempo

/-- The rule of R386: down at once, up after a millisecond above. -/
def State.evaluate (s : State) : State :=
  if !s.isLeader then s
  else
    let g := s.groupTempo
    let now := s.committedTempo
    let above := if g ≤ now then none else some (s.tempo.above.getD s.time)
    let s := { s with tempo := { s.tempo with above := above } }
    if s.tempo.proposal.isSome then s
    else if g < now then s.propose g
    else match above with
      | some t => if s.time - t ≥ 1000000 then s.propose g else s
      | none => s
/-- LEADER_EVALUATE (R386): every 10 microseconds. -/
def execLeaderEvaluate (s : State) : Host.Outcome State Fault Refusal := .next (s.byDuty 3 State.evaluate)

/-- A bid reaches the leader (R386): it is kept, a member behind the leader's epoch gets the latest COMMIT again, and the rule runs. -/
def State.takeBid (s : State) (node ceiling epoch : Nat) : State :=
  if !s.isLeader ∨ !s.tideMembers.contains node then s
  else
    let s := { s with tempo := { s.tempo with bids := Map.put s.tempo.bids node ceiling } }
    let s := match s.tempo.last with
      | some t => if epoch < s.tempo.epoch ∧ node ≠ s.me then s.sendTide 5 node t else s
      | none => s
    s.evaluate

/-- Send this device's bid (R383). -/
def State.sendBid (s : State) : State :=
  if s.dutyDown 3 then s
  else if s.isLeader then s.takeBid s.me s.ownCeiling s.tempo.epoch
  else s.sendTide 1 s.tideLeader ⟨s.tempo.epoch, s.ownCeiling, s.time⟩
/-- BID_TIMER (R383): every millisecond. -/
def execBidTimer (s : State) : Host.Outcome State Fault Refusal := .next s.sendBid

/-- After a change of some ceiling source: a bid goes out where the ceiling has changed (R383). -/
def State.rebid (s' s : State) : State := if s'.ownCeiling = s.ownCeiling then s' else s'.sendBid

/-- A TIDE message of another group is discarded and counted (R385); a halted S3 takes none (R482). -/
def State.inGroup (s : State) (group : Nat) (f : State → State) : State := s.byDuty 3 fun s =>
  if group ≠ s.tideGroup then s.bump 0x221005 else f s

/-- BID (R385, R386). -/
def execBid (node group ceiling epoch : Nat) (s : State) : Host.Outcome State Fault Refusal :=
  .next (s.inGroup group fun s => s.takeBid node ceiling epoch)

/-- TIDE_PREPARE (R388): an epoch above the current is held as pending and answered READY, any other REFUSE 01h. -/
def execTidePrepare (group epoch tempo boundary : Nat) (s : State) : Host.Outcome State Fault Refusal :=
  .next (s.inGroup group fun s =>
    if s.tempo.epoch < epoch then
      { s with tempo := { s.tempo with pend := some ⟨epoch, tempo, boundary⟩ } }.sendTide 3 s.tideLeader ⟨epoch, 0, 0⟩
    else s.sendTide 4 s.tideLeader ⟨s.tempo.epoch, 1, 0⟩)

/-- READY (R387). -/
def execReady (node group epoch : Nat) (s : State) : Host.Outcome State Fault Refusal :=
  .next (s.inGroup group fun s =>
    match s.tempo.proposal with
    | some t => if t.epoch = epoch ∧ s.tideMembers.contains node then
        { s with tempo := { s.tempo with ready := insertNat s.tempo.ready node } }.commitIfReady else s
    | none => s)

/-- Cancel the proposal under way (R387). -/
def State.cancelTide (s : State) (t : Tide) : State :=
  let s := { s with tempo := { s.tempo with proposal := none, ready := [],
                                            pend := if s.tempo.pend = some t then none else s.tempo.pend } }
  s.sendMembers 6 t

/-- TIDE_REFUSE (R387): REFUSE 01h cancels the proposal, and the higher epoch is recorded. -/
def execTideRefuse (node group epoch reason : Nat) (s : State) : Host.Outcome State Fault Refusal :=
  .next (s.inGroup group fun s =>
    match s.tempo.proposal with
    | some t => if reason = 1 ∧ s.tideMembers.contains node then
        { s with tempo := { s.tempo with highest := max s.tempo.highest epoch } }.cancelTide t else s
    | none => s)

/-- TIDE_COMMIT (R388): DONE goes out at once. -/
def execTideCommit (group epoch tempo boundary : Nat) (s : State) : Host.Outcome State Fault Refusal :=
  .next (s.inGroup group fun s => (s.takeCommit ⟨epoch, tempo, boundary⟩).sendTide 7 s.tideLeader ⟨epoch, 0, 0⟩)

/-- CANCEL (R388): the pending epoch is discarded. -/
def execCancel (group epoch : Nat) (s : State) : Host.Outcome State Fault Refusal :=
  .next (s.inGroup group fun s =>
    match s.tempo.pend with
    | some t => if t.epoch = epoch then { s with tempo := { s.tempo with pend := none } } else s
    | none => s)

/-- TIDE_DONE (R387). -/
def execTideDone (node group epoch : Nat) (s : State) : Host.Outcome State Fault Refusal :=
  .next (s.inGroup group fun s =>
    match s.tempo.last with
    | some t => if t.epoch = epoch then { s with tempo := { s.tempo with done := insertNat s.tempo.done node } } else s
    | none => s)

/-- TIDE_RESEND (R387): 20 microseconds without an answer from a member: its PREPARE or its COMMIT goes again. -/
def execTideResend (node : Nat) (s : State) : Host.Outcome State Fault Refusal :=
  .next (if s.dutyDown 3 ∨ !s.tideMembers.contains node ∨ node = s.me ∨ s.time < Map.getD s.tempo.sentAt node 0 + 20000 then s
    else match s.tempo.proposal with
      | some t => if s.tempo.ready.contains node ∨ t.boundary ≤ s.time + 10000 then s else s.sendTide 2 node t
      | none => match s.tempo.last with
        | some t => if s.tempo.done.contains node then s else s.sendTide 5 node t
        | none => s)

/-- PROPOSAL_CUTOFF (R387): ten microseconds before the boundary some READY is missing. -/
def execProposalCutoff (s : State) : Host.Outcome State Fault Refusal :=
  .next (s.byDuty 3 fun s => match s.tempo.proposal with
    | some t => if s.tideMembers.all s.tempo.ready.contains ∨ s.time + 10000 < t.boundary then s else s.cancelTide t
    | none => s)

/-- A committed tempo whose boundary has come is current (R382, R388); what memory absorbed for it is released (R392). -/
def State.tempoBoundary (s : State) : State :=
  match s.tempo.commit with
  | some t =>
    if s.time < t.boundary then s
    else
      let s := { s with tempo := { s.tempo with cur := t.tempo, epoch := t.epoch, commit := none,
                                                highest := max s.tempo.highest t.epoch },
                        power := { s.power with absorb := none } }
      (s.bump 0x220008).arrive 0x00A
  | none => s
/-- TIDE_BOUNDARY (R49, R84, R382). -/
def execTideBoundary (s : State) : Host.Outcome State Fault Refusal := .next s.tempoBoundary.boundaries

/-- Change the PTP sync state (2220h.03, R514). -/
def State.setSync (s : State) (st : Nat) : State :=
  if s.ptp.st = st then s else { s with ptp := { s.ptp with st := st } }.arrive 0x00E

/-- PTP_MESSAGE (R389): a message of the device's domain while it is locked: the offset is slewed in, and one beyond the limit is
counted and raised. -/
def execPtpMessage (m : PtpMsg) (s : State) : Host.Outcome State Fault Refusal :=
  .next (if m.domain ≠ s.obj 0x222002 ∨ s.ptp.st = 0 then s
    else
      let s := s.setSync (m.port + 1)
      let s := { s with ptp := { s.ptp with offset := m.offset, slew := -m.offset } }
      if m.offset.natAbs > s.obj 0x222005 then (s.bump 0x222006).arrive 0x00E else s)

/-- PTP_HOLDOVER (R389). -/
def execPtpHoldover (s : State) : Host.Outcome State Fault Refusal := .next (s.setSync 0)

end Sys2Proof.Machine
end

