-- ==== Sys2Proof/Machine/Power.lean ====
section
/-! DEFINITION. The power cap (R390 to R393), droop (R394 to R396), gauge chains (R397, R398) and thermal limits (R399). -/

namespace Sys2Proof.Machine

/-- The average of the last `n` estimates. -/
def average (l : List Nat) (n : Nat) : Nat :=
  let x := l.take n
  if x = [] then 0 else x.sum / x.length

/-- The throttle state (2201h.08). -/
def State.throttleState (s : State) : Nat :=
  let p := s.power
  b2n (decide (p.capCeil.getD s.targetTempo < s.targetTempo)) + 2 * b2n p.absorb.isSome + 4 * b2n (decide (p.concCeil < 512)) +
    8 * b2n (decide (p.paused ≠ []))

/-- After a governor's action: source 009h where the throttle state has changed (R514), a bid where the ceiling has (R383). -/
def State.governed (s' s : State) : State :=
  (if s'.throttleState = s.throttleState then s' else s'.arrive 9).rebid s

/-- The domains in the order in which they are throttled (2201h.02): 0 compute, 1 memory, 2 links. -/
def State.throttleOrder (s : State) : List Nat :=
  let o := s.obj 0x220102
  [o / 16 % 4, o / 4 % 4, o % 4]

/-- Throttle one domain toward its floor (R391): whether that meets the cap is the Bool. -/
def State.throttleDomain (s : State) (d : Nat) : State × Bool :=
  let p := s.power
  if d = 0 then ({ s with power := { p with capCeil := some (max 250 (min p.tempoFit s.targetTempo)) } }, decide (250 ≤ p.tempoFit))
  else if d = 1 then ({ s with power := { p with concCeil := max 64 (min p.concFit 512) } }, decide (64 ≤ p.concFit))
  else match [7, 6, 5, 4, 3].find? fun c => !p.paused.contains c with
    | some c => ({ s with power := { p with paused := insertNat p.paused c } }, true)
    | none => (s, false)

/-- Throttle the domains in order until one meets the cap. DEDUCED, log entry 84. -/
def State.throttle (s : State) : List Nat → State
  | [] => s
  | d :: l =>
    let r := s.throttleDomain d
    if r.2 then r.1 else r.1.throttle l

/-- While a compute throttle awaits its commit, memory absorbs the excess (R392). -/
def State.absorb (s : State) : State :=
  let p := s.power
  if p.capCeil.getD s.targetTempo < s.tempo.cur then { s with power := { p with absorb := some (max 64 (min p.concFit 512)) } } else s

/-- Count the 10 microsecond intervals above the cap once the bound of R393 has passed. DEDUCED, log entry 85. -/
def State.excursion (s : State) : State :=
  let p := s.power
  if average p.recent 10 ≤ s.obj 0x220101 then { s with power := { p with overSince := none } }
  else match p.overSince with
    | none => { s with power := { p with overSince := some s.time } }
    | some t =>
      if s.time < t + 110000 then s
      else ({ s with power := { p with overSince := some (t + 10000) } }.bump 0x22010C).arrive 8

/-- POWER_ESTIMATE (R390 to R393): the draws in watts, the highest tempo and the highest concurrency whose estimate meets the cap,
and the local floor. -/
def State.powerEstimate (s : State) (compute memory links tempoFit concFit floor : Nat) : State :=
  let p := s.power
  let total := compute + memory + links
  let recent := (total :: p.recent).take 1000
  let p := { p with compute := compute, memory := memory, links := links, recent := recent, tempoFit := tempoFit,
                    concFit := concFit, floor := floor, highest := max p.highest (average recent 10) }
  let s' := { s with power := p }
  let s' := if s.obj 0x220101 < total then (s'.throttle s.throttleOrder).absorb else s'
  s'.excursion.governed s
def execPowerEstimate (compute memory links tempoFit concFit floor : Nat) (s : State) : Host.Outcome State Fault Refusal :=
  .next (s.powerEstimate compute memory links tempoFit concFit floor)

/-- POWER_CALIBRATION (R390, R567): the output powers of the rails that answer; one that does not is counted and marked, and the
estimate alone stands for it. -/
def execPowerCalibration (answers : Nat) (watts : List Nat) (s : State) : Host.Outcome State Fault Refusal :=
  let one (s : State) (i : Nat) : State :=
    let mark := s.obj 0x233202
    if bit answers i then
      { s with power := { s.power with rails := Map.put s.power.rails i (nth watts i) } }.setObj 0x233202 (mark - (if bit mark i then 2 ^ i else 0))
    else
      ({ s with power := { s.power with rails := Map.del s.power.rails i } }.bump 0x233201).setObj 0x233202
        (mark + (if bit mark i then 0 else 2 ^ i))
  .next ((List.range 13).foldl one s)

/-- Release one step of a domain (R391); none where it is not throttled. -/
def State.releaseDomain (s : State) (d : Nat) : Option State :=
  let p := s.power
  if d = 0 then
    match p.capCeil with
    | none => none
    | some c => some { s with power := { p with capCeil := if s.targetTempo ≤ p.tempoFit then none else some (max c p.tempoFit) } }
  else if d = 1 then
    if p.concCeil < 512 then
      some { s with power := { p with concCeil := if s.obj 0x2B0100 ≤ p.concFit then 512 else max p.concCeil p.concFit } }
    else none
  else match [3, 4, 5, 6, 7].find? p.paused.contains with
    | some c => some { s with power := { p with paused := p.paused.erase c } }
    | none => none

/-- THROTTLE_RELEASE (R391): while the 1 ms average is below the cap by the release margin, one step, in reverse order. -/
def execThrottleRelease (s : State) : Host.Outcome State Fault Refusal :=
  .next (if average s.power.recent 1000 + s.obj 0x22010B < s.obj 0x220101 then
      match s.throttleOrder.reverse.findSome? s.releaseDomain with
      | some s' => s'.governed s
      | none => s
    else s)

/-- Write the power cap (R390): none outside 450 W to 1 150 W. -/
def State.writeCap (s : State) (watts : Nat) : Option State :=
  if watts < 450 ∨ 1150 < watts then none
  else some ({ s with power := { s.power with overSince := if average s.power.recent 10 > watts then some s.time else none } }.setObj 0x220101 watts)
/-- POWER_CAP_WRITE (R390). -/
def execPowerCapWrite (watts : Nat) (s : State) : Host.Outcome State Fault Refusal := .next ((s.writeCap watts).getD s)

/-- The target with which the droop detectors compare (R394, R396): the regulator's, and until the ramp of a trim step ends, at 1 mV a
microsecond (R398), the lower of the old and the new. -/
def State.droopTarget (s : State) : Nat :=
  s.obj 0x232001 + (if s.time < s.thermal.rampUntil then min s.thermal.rampFrom s.thermal.trim else s.thermal.trim)

/-- DROOP (R394 to R396): a detector reads a supply in mV, and fires where that lies more than the threshold below the target. In a droop a
reading that is not more than 10 mV above where it fires starts the clear hold again. -/
def execDroop (t : Tile) (det : Fin 64) (mv : Nat) (s : State) : Host.Outcome State Fault Refusal :=
  let x := Map.getD s.tiles t {}
  .next (if s.droopTarget ≤ mv + s.obj 0x231001 then
      (if x.droop ∧ mv + s.obj 0x231001 ≤ s.droopTarget + 10 then { s with tiles := Map.put s.tiles t { x with last := s.time } } else s)
    else if x.droop then { s with tiles := Map.put s.tiles t { x with low := insertNat x.low det, last := s.time } }
    else ({ s with tiles := Map.put s.tiles t ⟨true, [(det : Nat)], s.tempo.cur, s.time, false, s.time⟩ }.bump 0x231004).arrive 0x00C)

/-- DROOP_CLEAR (R395, R396): every detector has stood above its threshold for the clear hold. -/
def execDroopClear (t : Tile) (s : State) : Host.Outcome State Fault Refusal :=
  let x := Map.getD s.tiles t {}
  .next (if x.droop ∧ x.last + s.obj 0x231003 ≤ s.time then
      { s with tiles := Map.put s.tiles t {} }.setObj 0x231005
        (max (s.obj 0x231005) (min (s.time - x.began) (2 ^ 32 - 1)))
    else s)

/-- DROOP_LONG (R396): a millisecond in droop is logged. -/
def execDroopLong (t : Tile) (s : State) : Host.Outcome State Fault Refusal :=
  let x := Map.getD s.tiles t {}
  .next (if x.droop ∧ !x.logged ∧ x.began + 1000000 ≤ s.time then { s with tiles := Map.put s.tiles t { x with logged := true } }.logEvent 0x0D 0 t 1 0 else s)

/-- The lowest margin and the lowest-numbered chain that shows it (R397, R477). -/
def lowestMargin (margins : List Int) : Int × Nat :=
  (margins.zipIdx.drop 1).foldl (fun (b : Int × Nat) x => if x.1 < b.1 then (x.1, x.2) else b) (margins.headD 0, 0)

/-- Set the trim (R397, R398): a step is counted and the core rails' target written over AVSBus (R568). -/
def State.setTrim (s : State) (trim : Nat) : State :=
  if s.thermal.trim = trim then s
  else
    let s := { s with thermal := { s.thermal with trim := trim, rampFrom := s.thermal.trim,
                                                  rampUntil := s.time + 1000 * (trim - s.thermal.trim + (s.thermal.trim - trim)) } }
    { s with out := .avs (s.obj 0x232001 + trim) :: s.out }.bump 0x232008

/-- One step of the gauge ceiling: 5 % of the target (R397). -/
def State.gaugeStep (s : State) : Nat := s.targetTempo * 5 / 100

/-- Lower the gauge ceiling (R397): logged and raised. DEDUCED, log entry 83. -/
def State.lowerGauge (s : State) : State :=
  let c := max 250 (s.thermal.gaugeCeil - s.gaugeStep)
  ({ s with thermal := { s.thermal with gaugeCeil := c } }.logEvent 0x0C 0 0 c 0).arrive 0x00D

/-- Keep what a reading of the chains shows. -/
def State.noteGauges (s : State) (margins : List Int) (temps : List Nat) : State :=
  let low := (lowestMargin margins).1
  ({ s with thermal := { s.thermal with margins := margins, temps := temps, deferred := false } }.setObj 0x232004 (low % 65536).toNat).setObj 0x232006 s.time

/-- GAUGE_READING (R396, R397): due an interval after the last; put off while a tile is in droop. The trim stays within its limit. -/
def State.gaugeReading (s : State) (margins : List Int) (temps : List Nat) : State :=
  if s.time < s.obj 0x232006 + 10 ^ 9 * s.obj 0x232005 then s
  else if s.tiles.any fun t => t.2.droop then { s with thermal := { s.thermal with deferred := true } }
  else
    let low := (lowestMargin margins).1
    let limit := s.obj 0x232003
    let s' := s.noteGauges margins temps
    let s' :=
      if low < 30 then
        if s.thermal.trim < limit then
          let s'' := s'.setTrim (min limit (s.thermal.trim + 5))
          if s''.thermal.trim = limit then s''.arrive 0x00D else s''
        else (s'.setTrim limit).lowerGauge
      else if 80 < low then
        let s' := s'.setTrim (min limit (s.thermal.trim - 5))
        let c := s.thermal.gaugeCeil + s.gaugeStep
        if s.thermal.gaugeCeil = 1400 then s'
        else { s' with thermal := { s'.thermal with gaugeCeil := if s.targetTempo ≤ c then 1400 else c } }.arrive 0x00D
      else s'.setTrim (min limit s.thermal.trim)
    s'.rebid s
def execGaugeReading (margins : List Int) (temps : List Nat) (s : State) : Host.Outcome State Fault Refusal := .next (s.gaugeReading margins temps)

/-- The tile sensors above or below a bound, and the stacks above theirs (R399): the breach source 02h. -/
def thermalBreach (tileTemps stackTemps : List Int) : Bool :=
  (tileTemps.any fun t => decide (1100 < t) || decide (t < 0)) || stackTemps.any fun t => decide (1050 < t)

/-- Programmed concurrency. -/
def State.programmed (s : State) : Nat := s.obj 0x2B0100

/-- THERMAL_TICK (R399): each millisecond. -/
def State.thermalTick (s : State) (tileTemps stackTemps : List Int) : State :=
  let hot := tileTemps.any fun t => decide ((s.obj 0x230004 : Int) < t)
  let s' := { s with thermal := { s.thermal with tiles := tileTemps, stackTemps := stackTemps } }
  let s' := if !hot then s'
    else
      let c := max 250 (min s.thermal.ceiling s.tempo.cur - 50)
      let s' := { s' with thermal := { s'.thermal with ceiling := c } }
      let s' := if s.thermal.ceiling = 1400 then s'.bump 0x230007 else s'
      if c = s.thermal.ceiling then s' else s'.arrive 0x00B
  let stack (s : State) (p : Nat) : State :=
    if stackTemps.getD p 0 ≤ s.obj 0x230005 then s
    else
      let old := Map.getD s.thermal.stackCeil p 512
      let c := max 64 (min old (min s.programmed s.capConcurrency) - 32)
      let s := { s with thermal := { s.thermal with stackCeil := Map.put s.thermal.stackCeil p c } }
      if old = 512 then s.bump 0x230007 else s
  let s' := (List.range 8).foldl stack s'
  let s' := s'.rebid s
  if thermalBreach tileTemps stackTemps then s'.breach 2 else s'
def execThermalTick (tileTemps stackTemps : List Int) (s : State) : Host.Outcome State Fault Refusal := .next (s.thermalTick tileTemps stackTemps)

/-- THERMAL_RECOVERY_TICK (R399): every 10 milliseconds. -/
def State.thermalRecovery (s : State) (tileTemps stackTemps : List Int) : State :=
  let cool := tileTemps.all fun t => decide (t ≤ (s.obj 0x230004 : Int) - 30)
  let s' := { s with thermal := { s.thermal with tiles := tileTemps, stackTemps := stackTemps } }
  let s' := if !cool ∨ s.thermal.ceiling = 1400 then s'
    else
      let c := s.thermal.ceiling + 50
      { s' with thermal := { s'.thermal with ceiling := if s.targetTempo ≤ c then 1400 else c } }.arrive 0x00B
  let stack (s : State) (p : Nat) : State :=
    let old := Map.getD s.thermal.stackCeil p 512
    if old = 512 ∨ (s.obj 0x230005 : Int) - 30 < stackTemps.getD p 0 then s
    else
      let c := old + 32
      { s with thermal := { s.thermal with stackCeil := Map.put s.thermal.stackCeil p (if s.programmed ≤ c then 512 else c) } }
  let s' := ((List.range 8).foldl stack s').rebid s
  if thermalBreach tileTemps stackTemps then s'.breach 2 else s'
def execThermalRecoveryTick (tileTemps stackTemps : List Int) (s : State) : Host.Outcome State Fault Refusal :=
  .next (s.thermalRecovery tileTemps stackTemps)

end Sys2Proof.Machine
end

