-- ==== Sys2Proof/Machine/Startup.lean ====
section
/-! DEFINITION. The start sequence from ROM to SERVING (R398, R459 to R475), and PTP lock (R389, R463). -/

namespace Sys2Proof.Machine

/-- Change BOOTSTAT (R531): source 182h fires on a change (R542). -/
def State.setBoot (s : State) (v : Nat) : State :=
  if s.start.boot = v then s else { s with start := { s.start with boot := v } }.arrive 0x182

/-- SELF_CHECK_COMPLETE (R464, R476, R477): `rail` is the rail outside its range, 0 for the check itself. -/
def State.selfCheck (s : State) (rail : Option Nat) : State :=
  if s.start.st ≠ .rom then s
  else if s.start.latch then s.enterBerm 2
  else if s.start.bermCause = 1 then s.enterBerm 1
  else match rail with
    | some r => s.failStart 1 r
    | none => s.setStart .identity
def execSelfCheckComplete (rail : Option Nat) (s : State) : Host.Outcome State Fault Refusal := .next (s.selfCheck rail)

/-- The measurements that stand before a bundle comes (R408): the boot ROM, and the Tidegauge image that still runs (R440).
DEDUCED, log entry 95. -/
def State.measureStanding (s : State) : State :=
  let s := s.measure measRom (some ⟨1, 0, 0, s.time, (Config.digest [1]).toNat⟩)
  if s.gauge.version = 0 then s else s.measure measGauge (some ⟨3, 0, s.gauge.version, s.time, s.gauge.digest⟩)

/-- Whether a package record is laid out and signed as R407 says: its lengths, its reserved fields, the digest of the key that the boot ROM
holds, its signature. Whether that verifies comes with the command. DESIGN CHOICE, log entry 12. -/
def recordGood (r : List Nat) (sigOk : Bool) : Bool :=
  sigOk && decide (r.length = 8828 + fieldAt r 20 4 + 4627) && decide (nth r 0 = 1) && decide (fieldAt r 1 3 = 0) && decide (fieldAt r 24 4 = 0) &&
    decide ((r.drop 28).take 64 = sha3 (publicRun 1 2592))

/-- IDENTITY_DERIVED (R404 to R407, R477): the package record that the NOR holds, and the public key of the identity that the PUF gave. A record
that fails is reason 02h, another key 03h, no entropy 04h. The storage keys are drawn afresh (R403, R427). On entry to MARGIN the trim stands at its limit (R398). -/
def State.identityDerived (s : State) (record : List Nat) (sigOk : Bool) (key : List Nat) : State :=
  if s.start.st ≠ .identity then s
  else
    let s := { s with pkg := { s.pkg with record := record } }
    if !recordGood record sigOk then s.failStart 2 0
    else if sha3 key ≠ sha3 s.idKey then s.failStart 3 0
    else if !s.start.entropyOk then s.failStart 4 0
    else
      let limit := s.obj 0x232003
      let key := s.draw 12
      let s := key.1
      let s := { s with start := { s.start with identity := true },
                        sec := { s.sec with identityKey := true, transportKey := true, storageKeys := true, storeKey := key.2, writeSerial := 0 },
                        thermal := { s.thermal with trim := limit }, out := .avs (s.obj 0x232001 + limit) :: s.out }
      s.measureStanding.setStart .margin
def execIdentityDerived (record : List Nat) (sigOk : Bool) (key : List Nat) (s : State) : Host.Outcome State Fault Refusal :=
  .next (s.identityDerived record sigOk key)

/-- GAUGE_START_READ (R397, R398, R464): the trim steps down while the lowest margin is above 80 per mille; MARGIN fails only below
0 per mille at the trim limit and tempo 250. DEDUCED, log entry 88. -/
def State.gaugeStartRead (s : State) (margins : List Int) : State :=
  if s.start.st ≠ .margin then s
  else
    let low := lowestMargin margins
    let limit := s.obj 0x232003
    let s' := s.noteGauges margins s.thermal.temps
    if 80 < low.1 then
      if s.thermal.trim = 0 then s'.setStart .training else s'.setTrim (s.thermal.trim - 5)
    else if 30 ≤ low.1 then s'.setStart .training
    else if s.thermal.trim < limit then (s'.setTrim (min limit (s.thermal.trim + 5))).setStart .training
    else if 0 ≤ low.1 then s'.lowerGauge.setStart .training
    else if s.thermal.gaugeCeil ≤ 250 then s'.failStart 5 low.2
    else s'.lowerGauge
def execGaugeStartRead (margins : List Int) (s : State) : Host.Outcome State Fault Refusal := .next (s.gaugeStartRead margins)

/-- TRAINING_COMPLETE (R464, R465): `trained` has one bit for each stack. A polder whose stack failed is down for this start; the
trained stacks hold zeros. -/
def State.trainingComplete (s : State) (trained : Nat) : State :=
  if s.start.st ≠ .training then s
  else if trained % 256 = 0 then s.failStart 6 0
  else
    let s := { s with start := { s.start with trained := trained % 256 }, mem := [], sideband := [] }
    let s := (List.range 8).foldl (fun (s : State) p =>
      if bit trained p then s else s.setPolder p { s.polder p with down := true }) s
    s.setStart .awaitBundle
def execTrainingComplete (trained : Nat) (s : State) : Host.Outcome State Fault Refusal := .next (s.trainingComplete trained)

/-- The largest bundle (R468, R576). -/
def bundleMax : Nat := 64 * 2 ^ 20

/-- The address and the length in each entry of a boot list (R467). -/
def bootList (list : List Nat) : List (Nat × Nat) :=
  (List.range (list.length / 16)).map fun i => (fieldAt list (16 * i) 8, fieldAt list (16 * i + 8) 4)

/-- Whether a boot descriptor's 16 bytes and its list are as R467 and R576 say. -/
def descriptorOk (desc list : List Nat) : Bool :=
  let n := fieldAt desc 8 4
  decide (fieldAt desc 0 8 % 16 = 0) && decide (1 ≤ n) && decide (n ≤ 16384) && decide (fieldAt desc 12 4 = 0) && decide (list.length = 16 * n) &&
  ((List.range n).all fun i => decide (fieldAt list (16 * i + 12) 4 = 0)) && ((bootList list).all fun e => decide (e.1 % 4096 = 0)) &&
  (((bootList list).dropLast).all fun e => decide (e.2 % 4096 = 0)) && decide (((bootList list).map Prod.snd).sum ≤ bundleMax)

/-- BOOT_DESCRIPTOR (R466, R467): the write that submits it, with the list that it names; PF0 ends it with Unsupported Request in berm mode (R478).
DEDUCED, log entry 96. -/
def State.bootDescriptor (s : State) (desc list : List Nat) : State :=
  if s.start.st = .berm ∨ (s.start.pulling ∧ s.start.path = 1) then s
  else if s.start.st ≠ .awaitBundle then s.setBoot 1
  else if s.start.path = 2 then s.setBoot 2
  else if descriptorOk desc list then
    { s with start := { s.start with path := 1, pulling := true, total := ((bootList list).map Prod.snd).sum, bytes := 0 } }.setBoot 3
  else s.setBoot 1
def execBootDescriptor (desc list : List Nat) (s : State) : Host.Outcome State Fault Refusal := .next (s.bootDescriptor desc list)

/-- A write of 2000h.02 (R466, R576): through PF1, in AWAIT_BUNDLE, while PF0 does not own the download; none where it is refused. -/
def State.bundleWrite (s : State) (path total : Nat) : Option State :=
  if path ≠ 2 ∨ s.start.st ≠ .awaitBundle ∨ s.start.path = 1 ∨ bundleMax < total then none
  else some { s with start := { s.start with path := 2, pulling := true, total := total, bytes := 0 } }
/-- BUNDLE_WRITE (R466). -/
def execBundleWrite (path : Fin 3) (total : Nat) (s : State) : Host.Outcome State Fault Refusal :=
  .next ((s.bundleWrite path total).getD s)

/-- The first failing check of a bundle with its detail (R470, R477): form, the key's digest against the one that the boot ROM holds, signature,
section digests, revision and edition. -/
def State.bundleFault (s : State) (b : Bundle) : Option (Nat × Nat) :=
  match b.malformedAt s.start.total with
  | some off => some (8, off)
  | none =>
    if sha3 ((b.bytes.drop 128).take 2592) ≠ sha3 (publicRun 9 2592) then some (9, 0)
    else if !b.sigOk then some (0x0A, 0)
    else match b.badSection with
      | some i => some (0x0B, i)
      | none => if s.obj 0x101803 < fieldAt b.bytes 8 4 ∨ nth b.bytes 12 ≠ 3 then some (0x0C, nth b.bytes 12) else none

/-- BUNDLE_RECEIVED (R464, R470, R471, R576): the last of the bytes delivered arrives; the bundle is verified, measured and kept. -/
def State.bundleReceived (s : State) (b : Bundle) : State :=
  if s.start.st ≠ .awaitBundle ∨ !s.start.pulling ∨ (s.start.path = 1 ∧ !s.host.master) ∨ b.bytes.length ≠ s.start.total then s
  else
    let s := { s with start := { s.start with pulling := false, bytes := s.start.total } }
    let s := (if s.start.path = 1 then s.setBoot 4 else s).setStart .verify
    match s.bundleFault b with
    | some (r, d) => s.failStart r d
    | none =>
      let s := { s with start := { s.start with bundle := some b } }.setObj 0x200005 b.version
      (s.measure measBundle (some ⟨2, 0, b.version, s.time, leNat (sha3 b.bytes)⟩)).setStart .stewards
def execBundleReceived (b : Bundle) (s : State) : Host.Outcome State Fault Refusal := .next (s.bundleReceived b)

/-- The end of STEWARDS (R472): S0 carries the duty set of every steward that has not reported ready. -/
def State.assignDuties (s : State) : State :=
  { s with start := { s.start with duty := (List.range 4).map fun d => if s.steward d = .running then d else 0 } }

/-- STEWARD_READY (R464, R472): a steward that the bundle targets runs; S0, which ran the boot ROM until then (R464), ends STEWARDS by its
report. DEDUCED, log entry 86. -/
def State.stewardReady (s : State) (k : Nat) : State :=
  match s.start.bundle with
  | none => s
  | some b =>
    if !bit b.stewards k ∨ (if k = 0 then s.start.st ≠ .stewards else s.steward k ≠ .off) then s
    else
      let s := { s with start := { s.start with stewards := Map.put s.start.stewards k .running } }
      if k = 0 then s.assignDuties.setStart .programs else s
def execStewardReady (k : Stw) (s : State) : Host.Outcome State Fault Refusal := .next (s.stewardReady k)

/-- Enter SERVING (R464). -/
def State.serve (s : State) (ports : Bool) : State :=
  let s := { s with start := { s.start with portsUp := ports } }.setObj 0x200009 s.time
  let s := if ports then (List.range 12).foldl State.trainPort s else s
  s.setStart .serving

/-- Load each program image of the bundle into every polder that it targets and that is not down (R473). -/
def State.loadPrograms (s : State) (images : List (Nat × Image)) : State :=
  images.foldl (fun s i => (List.range 8).foldl (fun (s : State) p =>
    if bit i.1 p ∧ !(s.polder p).down then s.imageLoad p i.2 else s) s) s

/-- PROGRAMS_LOADED (R473): the start fails only when no polder loads; a lock that stands lets it serve at once (R464). -/
def State.programsLoaded (s : State) : State :=
  match s.start.st, s.start.bundle with
  | .programs, some b =>
    let s := s.loadPrograms b.programs
    let up := (List.range 8).filter fun p => decide ((s.polder p).prog = .loaded)
    if up = [] then
      let asked := (List.range 8).find? fun p => (b.programs.any fun i => bit i.1 p) && !(s.polder p).down
      s.failStart 0x0E (match asked with | some p => (s.polder p).refusal | none => 0)
    else
      let s := { s with start := { s.start with loaded := (up.map fun p => 2 ^ p).sum } }.setStart .joining
      if s.ptp.st = 0 then s else s.serve true
  | _, _ => s
def execProgramsLoaded (s : State) : Host.Outcome State Fault Refusal := .next s.programsLoaded

/-- PTP_LOCK (R389, R463, R464): the first lock since power-on sets device time, a later one is slewed in; the start goes on, and
ports that waited for a lock are enabled. DEDUCED, log entry 97. -/
def State.ptpLock (s : State) (port time : Nat) : State :=
  let off : Int := s.time - time
  let s := if s.start.timeSet then { s with ptp := { s.ptp with offset := off, slew := -off } }
    else { s with time := time, start := { s.start with timeSet := true }, ptp := { s.ptp with offset := 0, slew := 0 } }
  let s := s.setSync (port + 1)
  if s.start.st = .joining then s.serve true
  else if s.start.st = .serving ∧ !s.start.portsUp then
    (List.range 12).foldl State.trainPort { s with start := { s.start with portsUp := true } }
  else s
def execPtpLock (port : Mgmt) (time : Nat) (s : State) : Host.Outcome State Fault Refusal := .next (s.ptpLock port time)

/-- PTP_WAIT_EXPIRY (R464): the ports stay DISABLED until the first lock. -/
def execPtpWaitExpiry (s : State) : Host.Outcome State Fault Refusal :=
  .next (if s.start.st = .joining ∧ s.start.entered + 10 ^ 9 * s.obj 0x200008 ≤ s.time then s.serve false else s)

/-- The step of a failure reason (R477). -/
def reasonStep (reason : Nat) : Nat :=
  if reason = 0 then 0 else if reason = 1 then 1 else if reason ≤ 4 then 2 else if reason = 5 then 3 else if reason = 6 then 4 else if reason = 7 then 5
  else if reason ≤ 0x0C then 6 else if reason = 0x0D then 8 else if reason = 0x0E then 9 else 0

/-- The bound of a start state in nanoseconds of device time from its entry (R464). -/
def State.stepBound (s : State) : Nat :=
  match s.start.st with
  | .rom => 5000000
  | .identity => 30000000
  | .margin => 2000000
  | .training => 300000000
  | .awaitBundle => 10 ^ 9 * s.obj 0x200007
  | .verify => 100000000
  | .stewards => 500000000
  | .programs => 50000000
  | .joining => 10 ^ 9 * s.obj 0x200008
  | .serving | .berm => 0

/-- START_STEP_TIMEOUT (R464, R474, R477): the present step passes its bound, which fails the start with a reason of that step. DEDUCED,
log entry 98. -/
def State.stepTimeout (s : State) (reason detail : Nat) : State :=
  if reasonStep reason = startStep s.start.st ∧ s.start.entered + s.stepBound ≤ s.time then s.failStart reason (if reason = 7 then s.start.bytes else detail % 2 ^ 32) else s
def execStartStepTimeout (reason detail : Nat) (s : State) : Host.Outcome State Fault Refusal := .next (s.stepTimeout reason detail)

end Sys2Proof.Machine
end

