-- ==== Sys2Proof/Machine/HostIf.lean ====
section
/-! DEFINITION. The host interface (R530 to R550): rings, the stack window, DMA failures, lent areas, host loss, the mailbox. -/

namespace Sys2Proof.Machine

/-- Whether PF0 serves ring registers (R532). -/
def State.serving (s : State) : Bool := decide (s.start.st = .serving)

/-- A ring enters error (R531, R542, R551). -/
def State.ringError (s : State) (r code : Nat) : State :=
  ((s.setRing r { s.ring r with st := 3, err := code }).bump 0x2F0009).arrive (0x140 + r)

/-- SQTAIL (R531, R547, R550): a tail beyond the ring size is error 01h. -/
def State.sqTail (s : State) (r tail : Nat) : State :=
  let g := s.ring r
  let t := tail % 2 ^ 16
  if !s.serving then s
  else if g.st = 1 ∧ g.sqSize ≤ t then s.ringError r 1
  else s.setRing r { g with sqTail := t }
def execSqtail (r : Ring) (tail : Nat) (s : State) : Host.Outcome State Fault Refusal := .next (s.sqTail r tail)

/-- CQHEAD (R531, R548): the host has consumed the completions before it. DEDUCED, log entry 100. -/
def State.cqConsume (s : State) (r head : Nat) : State :=
  let g := s.ring r
  let h := head % 2 ^ 16
  let left := (g.cqTail + g.cqSize - h % g.cqSize) % g.cqSize
  if !s.serving then s else s.setRing r { g with cqHead := h, unread := min g.unread left }
def execCqhead (r : Ring) (head : Nat) (s : State) : Host.Outcome State Fault Refusal := .next (s.cqConsume r head)

/-- Whether the device may read the next submission entry (R535, R539, R547, R549). -/
def State.canRead (s : State) (r : Nat) : Bool :=
  let g := s.ring r
  s.host.master && decide (g.st = 1) && decide (g.sqHead ≠ g.sqTail) && decide (g.unread + g.reserved < g.cqSize)

/-- An entry is consumed: the head moves on and a completion entry is reserved for it (R539). -/
def State.consume (s : State) (r counter : Nat) : State :=
  let g := s.ring r
  s.setRing r { g with sqHead := (g.sqHead + 1) % g.sqSize, reserved := g.reserved + 1, counter := if s.sec.conf then counter else g.counter }

/-- End an entry that is no request (R536, R538): tag zero. -/
def State.endEntry (s : State) (r slot cookie : Nat) (a : Answer) : State :=
  (s.work hostLink 0 s.entrySize).emit (.completion (.ring (Fin.ofNat 64 r) slot cookie) 0 0 a.status.code a.detail a.statusBody s.time 0 [])

/-- The first byte of a header that is not zero. -/
def firstByte (hdr : BitVec 256) : Option Nat := (List.range 32).find? fun i => hdrField hdr i 1 ≠ 0

/-- The request that a submission entry's 64 bytes spell (R536). -/
def entryReq (r slot : Nat) (e body : List Nat) (counter : Nat) : Req :=
  { src := .ring (Fin.ofNat 64 r) slot (fieldAt e 56 4), hdr := BitVec.ofNat 256 (fieldAt e 0 32), bodyLen := fieldAt e 40 4,
    replyLen := fieldAt e 44 4, body := body, reserved := decide (fieldAt e 61 3 ≠ 0), replyAt := fieldAt e 48 8, entryCtr := counter }

/-- What an entry is: a fence (R540), a request, or neither (R536). -/
def State.entry (s : State) (r slot : Nat) (e body : List Nat) (counter : Nat) : State :=
  let q := entryReq r slot e body counter
  let cookie := fieldAt e 56 4
  if nth e 60 = 1 then s.request q
  else if nth e 60 = 2 then
    match firstByte q.hdr, q.reserved with
    | some i, _ => s.endEntry r slot cookie (.malformed 1 i)
    | none, true => s.endEntry r slot cookie (.malformed 1 61)
    | none, false => (s.endEntry r slot cookie .ok).bump 0x2B1104
  else s.endEntry r slot cookie (.malformed 1 60)

/-- SUBMISSION_READ (R430, R536, R539, R545, R546): the device reads the entry of the next slot, of 128 bytes in confidential operation, and, but
for a PREFILL, the body that it names. In confidential operation a counter that does not rise stops the ring, and a tag that fails on the entry
or its body ends it with CHECK_FAIL 04h; the cookie of an entry that cannot be read is open. DESIGN CHOICE, log entry 102. -/
def State.submissionRead (s : State) (r : Nat) (entry body : List Nat) : State :=
  let g := s.ring r
  let counter := fieldAt entry 80 8
  if !s.canRead r then s
  else if s.sec.conf ∧ counter ≤ g.counter then s.ringError r 3
  else match (if s.sec.conf then s.fromHost 1 r counter (entry.take 80) else some (entry.take 64)) with
  | none =>
    let s := (s.consume r g.counter).work hostLink 3 s.entrySize
    let cookie := (Config.freeValue s.freeCtr).toNat % 2 ^ 32
    { s with freeCtr := s.freeCtr + 1 }.endEntry r g.sqHead cookie ⟨.checkFail, 4, []⟩
  | some e =>
    let s := (s.consume r counter).work hostLink 3 s.entrySize
    if nth e 60 ≠ 1 ∨ nth e 0 = 3 ∨ fieldAt e 40 4 = 0 then s.entry r g.sqHead e [] counter
    else
      let n := fieldAt e 40 4 + s.tagSize
      let s := s.work hostLink 3 n
      match (if s.sec.conf then s.fromHost 2 r counter (body.take n) else some (body.take n)) with
      | none => s.refuse (entryReq r g.sqHead e [] counter) ⟨.checkFail, 4, []⟩
      | some bs => s.entry r g.sqHead e bs counter
def execSubmissionRead (r : Ring) (entry body : List Nat) (s : State) : Host.Outcome State Fault Refusal :=
  .next (s.submissionRead r entry body)

/-- Whether a ring's bases and RCFG are valid (R531). -/
def ringValid (sqBase cqBase rcfg : Nat) : Bool :=
  decide (sqBase % 4096 = 0) && decide (cqBase % 4096 = 0) && decide (bits rcfg 3 0 ≤ 10) && decide (bits rcfg 7 4 ≤ 10) &&
  decide (bits rcfg 3 0 ≤ bits rcfg 7 4) && decide (1 ≤ bits rcfg 23 16)

/-- RING_ENABLE (R531, R535, R539): the host writes the bases and RCFG with its enable; the ring starts at slot 0, in the first pass.
DEDUCED, log entry 99. -/
def State.ringEnable (s : State) (r sqBase cqBase rcfg : Nat) : State :=
  let g := s.ring r
  if !s.serving ∨ g.st ≠ 0 then s
  else
    let kept : RingSt := { g with sqBase := sqBase % 2 ^ 64, cqBase := cqBase % 2 ^ 64, rcfg := bits rcfg 7 0 + 2 ^ 16 * bits rcfg 31 16 }
    if ringValid sqBase cqBase rcfg then
      s.setRing r { kept with st := 1, err := 0, rcfg := kept.rcfg + 2 ^ 8, sqTail := 0, sqHead := 0, cqHead := 0, cqTail := 0,
                              phase := true, reserved := 0, unread := 0, unsig := 0 }
    else s.setRing r kept
def execRingEnable (r : Ring) (sqBase cqBase rcfg : Nat) (s : State) : Host.Outcome State Fault Refusal :=
  .next (s.ringEnable r sqBase cqBase rcfg)

/-- A ring that the host no longer enables. -/
def RingSt.unset (g : RingSt) (st : Nat) : RingSt := { g with st := st, rcfg := g.rcfg - (if bit g.rcfg 8 then 2 ^ 8 else 0) }

/-- RING_DISABLE (R535): the ring drains. DEDUCED, log entry 101. -/
def State.ringDisable (s : State) (r : Nat) : State :=
  let g := s.ring r
  if s.serving ∧ (g.st = 1 ∨ g.st = 3) then s.setRing r (g.unset 2) else s
def execRingDisable (r : Ring) (s : State) : Host.Outcome State Fault Refusal := .next (s.ringDisable r)

/-- RING_DRAINED (R535): every entry read has had its completion written. -/
def State.ringDrained (s : State) (r : Nat) : State :=
  let g := s.ring r
  if g.st = 2 ∧ g.reserved = 0 then s.setRing r { g with st := 0 } else s
def execRingDrained (r : Ring) (s : State) : Host.Outcome State Fault Refusal := .next (s.ringDrained r)

/-- COALESCING_TIMEOUT (R542): the coalescing time after the first completion since the last arrival; a ring whose time is 0 has none (R531). -/
def State.coalesce (s : State) (r : Nat) : State :=
  let g := s.ring r
  if g.unsig = 0 ∨ bits g.rcfg 31 24 = 0 ∨ s.since g.unsigAt < bits g.rcfg 31 24 then s else (s.setRing r { g with unsig := 0 }).arrive (0x100 + r)
def execCoalescingTimeout (r : Ring) (s : State) : Host.Outcome State Fault Refusal := .next (s.coalesce r)

/-- Whether a window access reaches a stack (R430, R532, R533): every frame that it names exists on a polder that is up. -/
def State.windowOk (s : State) (off len : Nat) : Bool :=
  s.serving && !s.sec.conf && decide (off + len ≤ 2 ^ 40) &&
  (rowsOf off len).all fun row => decide (frameRow (row / 4) ≤ 4290) && !(s.polder (framePolder (row / 4))).down

/-- WINDOW_READ (R140, R141, R533): `upset` are sectors whose stored bits fail to read. A sector that fails its check is not
returned, and its frame is SUSPECT (R353). -/
def State.windowRead (s : State) (off len : Nat) (upset : List Nat) : State :=
  if !s.windowOk off len then { s with out := .unsupported off :: s.out }
  else
    let bad := (sectorsOf off len).filter fun k => upset.contains k || !s.sectorOk k
    let bytes := ((List.range len).filter fun i => !bad.contains ((off + i) / 64)).map fun i => s.stackByte (off + i)
    let s := s.stackAccess 0 off len
    let s := (bad.map fun k => frameOf (k * 64)).dedup.foldl (fun s f => s.checkFailed f none true) s
    { s with out := .window off bytes bad :: s.out }
def execWindowRead (off len : Nat) (upset : List Nat) (s : State) : Host.Outcome State Fault Refusal := .next (s.windowRead off len upset)

/-- WINDOW_WRITE (R534): discarded and counted, or whole sectors written with fresh check words. DEDUCED, log entry 104. -/
def State.windowWrite (s : State) (off : Nat) (bytes : List Nat) : State :=
  if s.start.st = .berm then { s with out := .unsupported off :: s.out }
  else if s.obj 0x2F0006 = 1 ∧ s.windowOk off bytes.length ∧ off % 64 = 0 ∧ bytes.length % 64 = 0 then
    (s.stackAccess 0 off bytes.length).writeStack off bytes
  else { s.bump 0x2F0007 with out := .unsupported off :: s.out }
def execWindowWrite (off : Nat) (bytes : List Nat) (s : State) : Host.Outcome State Fault Refusal := .next (s.windowWrite off bytes)

/-- DMA_READ_FAILURE (R543): counted, with the outcome of the table; a page record is fetched once more as a malformed block is, and a
weight fill never completes. DEDUCED, log entry 103. DEDUCED, log entry 108. -/
def State.dmaFailure (s : State) (d : DmaRead) : State :=
  let s := s.bump 0x2F0005
  match d with
  | .entry r => if (s.ring r).st = 1 then s.ringError r 2 else s
  | .body tag =>
    match Map.find s.reqs tag with
    | some q => if q.claimed then s else s.endAny tag (.malformed 0x16 32)
    | none => s
  | .boot =>
    if s.start.pulling ∧ s.start.path = 1 then { s with start := { s.start with pulling := false, bytes := 0 } }.setBoot 5 else s
  | .pageRecord _ _ => s
  | .spill seqId => s.moveFailed seqId
  | .conduit c => s.conduitError c 0
  | .weight _ _ => s
def execDmaReadFailure (d : DmaRead) (s : State) : Host.Outcome State Fault Refusal := .next (s.dmaFailure d)

/-- The object of an area's record: 2F10h for the spill area, 2F11h for the conduit state area (R551). -/
def State.area (s : State) (conduit : Bool) : Area := if conduit then s.host.conduit else s.host.spill
def State.setArea (s : State) (conduit : Bool) (a : Area) : State :=
  { s with host := if conduit then { s.host with conduit := a } else { s.host with spill := a } }

/-- The regions that a list's bytes name (R544): an address, a length and a reserved word each; none where the list is malformed. -/
def areaList (bs : List Nat) (n : Nat) : Option (List (Nat × Nat)) :=
  let l := (List.range n).map fun i => (fieldAt bs (16 * i) 8, fieldAt bs (16 * i + 8) 4, fieldAt bs (16 * i + 12) 4)
  if 1 ≤ n ∧ n ≤ 1024 ∧ l.all fun e => decide (e.1 % 4096 = 0) && decide (e.2.1 % 4096 = 0) && decide (e.2.2 = 0) then some (l.map fun e => (e.1, e.2.1))
  else none

/-- Control 01h of an area (R544): refused with its reason where the area is in use, its list cannot be read or is malformed, or it
would be too large. The list's bytes are none where the read failed. DEDUCED, log entry 106. -/
def State.registerArea (s : State) (conduit : Bool) (list : Option (List Nat)) : State :=
  let a := s.area conduit
  let n := s.obj (if conduit then 0x2F1102 else 0x2F1002)
  let s := s.work hostLink 3 (16 * n)
  match a.st, list with
  | 1, _ => s.setArea conduit { a with reason := 3 }
  | _, none => s.setArea conduit { a with reason := 2 }
  | _, some bs => match areaList bs n with
    | none => s.setArea conduit { a with reason := 1 }
    | some l =>
      let bytes := (l.map Prod.snd).sum
      if (if conduit then 268435456 else 2 ^ 32 * 4096) < bytes then s.setArea conduit { a with reason := 4 }
      else s.setArea conduit ⟨1, 0, bytes, l⟩
def execAreaRegister (conduit : Bool) (list : Option (List Nat)) (s : State) : Host.Outcome State Fault Refusal :=
  .next (s.registerArea conduit list)

/-- Whether a record lies in an area, a spill in flight included (R544, R550). -/
def State.areaUsed (s : State) (conduit : Bool) : Bool :=
  if conduit then s.conduits.any fun e => !e.2.onDie && decide (e.2.st ≠ .closed)
  else decide (s.spillRuns ≠ []) || s.seqs.any fun e => decide (e.2.st = .spilling)

/-- Control 02h of an area (R544): none while it is in use. -/
def State.releaseArea (s : State) (conduit : Bool) : Option State :=
  if s.areaUsed conduit then none else some (s.setArea conduit {})
def execAreaRelease (conduit : Bool) (s : State) : Host.Outcome State Fault Refusal := .next ((s.releaseArea conduit).getD s)

/-- The mark of a page whose T2 record is gone: it takes no place in a later area. -/
def Seq.loseT2 (e : Seq) : Seq :=
  if e.st = .spilled ∨ (e.st = .restoring ∧ e.prior = .spilled) then
    { e with stored := Map.each e.stored fun _ x => { x with lost := true },
             leaves := Map.each e.leaves fun _ l => if l.loc = 2 then { l with val := 0 } else l }
  else e

/-- What T2 held is lost (R549): moves to and from T2 end, its pages are lost to their next SWAP_IN, staged ones with them, and
weight sets with a share there are unloaded. -/
def State.loseT2 (s : State) : State :=
  let busy := (Map.keep s.seqs fun _ e => decide (e.st = .spilling) || (decide (e.st = .flushing) && decide (e.prior = .spilled))).map Prod.fst
  let s := busy.foldl State.moveFailed s
  let s := { s with seqs := Map.each s.seqs fun _ e => e.loseT2 }
  let back := (Map.keep s.seqs fun _ e => decide (e.st = .restoring) && decide (e.prior = .spilled)).map fun e => (e.1, e.2.moving.map Prod.fst)
  let s := back.foldl (fun s m => s.moveComplete m.1 m.2) s
  let gone (p : Staged) : Staged := if p.loc = 2 then { p with val := 0, stored := p.stored.map fun x => { x with lost := true } } else p
  let s := { s with stage := Map.each s.stage fun _ (g : Stage) => { g with pages := g.pages.map gone } }
  ((Map.keep s.weights fun _ w => w.shares.any fun h => decide (h.tier = 2)).map Prod.fst).foldl State.unloadWeights s

/-- Unsent work of the host link goes (R549). -/
def State.dropHostWork (s : State) : State :=
  { s with sched := { s.sched with queues := Map.keep s.sched.queues fun k _ => decide (k / 8 ≠ hostLink) } }

/-- The end of PF0's part in a start (R466, R549): a download in progress is owned by neither path. -/
def Start.abandon (b : Start) : Start :=
  if b.path = 1 ∧ b.st = .awaitBundle then { b with path := 0, pulling := false, total := 0, bytes := 0, boot := 0 } else { b with boot := 0 }

/-- A function's reset clears its MSI-X state, and its sources go back to PENDING (R516, R549). -/
def State.resetMsix (s : State) (pf1 : Bool) : State :=
  { s.unroute (hostAgent pf1) with gath := { (s.unroute (hostAgent pf1)).gath with msix := Map.del s.gath.msix (b2n pf1) } }

/-- HOST_LOSS (R549). PRESUMED, log entry 107. -/
def State.hostLoss (s : State) : State :=
  let s := { s.bump 0x2F0004 with host := { s.host with master := false } }
  let ring (x : Src) : Bool := match x with | .ring .. => true | .fabric .. | .mirror _ => false
  let s := s.endEvery (fun _ q => ring q.src) ⟨.aborted, 0, []⟩
  let live := Map.keys s.reqs
  let s := { s with holds := Map.keep s.holds fun _ h => !ring h.req.src,
                    tombs := (s.tombs.map fun (t : Tombstone) => { t with waiters := t.waiters.filter live.contains }).filter fun t => !t.waiters.isEmpty }
  let s := s.loseT2
  let away := (Map.keep s.conduits fun _ x => !x.onDie && decide (x.st = .ready ∨ x.st = .opening)).map Prod.fst
  let s := away.foldl (fun s c => s.conduitError c 0) s
  { (s.dropHostWork.resetMsix false) with rings := [], host := {}, start := s.start.abandon,
                                          sec := { s.sec with conf := false, session := none } }
def execHostLoss (s : State) : Host.Outcome State Fault Refusal := .next s.hostLoss

/-- PF1_RESET (R549): only the mailbox and PF1's MSI-X state, and open PF1 transfers close. -/
def State.pf1Reset (s : State) : State :=
  let s := s.resetMsix true
  { s with woa := { s.woa with h2d := none, d2h := 0, waiting := [], xfers := Map.keep s.woa.xfers fun _ x => decide (x.path ≠ 2) },
           start := if s.start.path = 2 then { s.start with pulling := false, total := 0, bytes := 0 } else s.start }
def execPf1Reset (s : State) : Host.Outcome State Fault Refusal := .next s.pf1Reset

/-- BUS_MASTER_ENABLE (R549): DMA is held while it is clear, and what waited goes out in order when it is set. -/
def State.busMaster (s : State) (on : Bool) : State :=
  if !on then { s with host := { s.host with master := false } }
  else
    let l := s.host.waiting
    let s := { s with host := { s.host with master := true, waiting := [] } }
    l.foldl (fun s o => match o with
      | .msix .. => { s.msixWork with out := o :: s.out }
      | _ => s.emit o) s
def execBusMasterEnable (on : Bool) (s : State) : Host.Outcome State Fault Refusal := .next (s.busMaster on)

end Sys2Proof.Machine
end

