-- ==== Sys2Proof/Machine/Scheduler.lean ====
section
/-! DEFINITION. The schedulers (R328 to R343): strict classes, deficit round robin, fair queueing of tenants, ceilings and policing. -/

namespace Sys2Proof.Machine

/-- The record of a resource's settings (R344). -/
def recordOf (res : Nat) : Nat := if res < 12 then 0x2810 else if res = 12 then 0x2811 else if res < 15 then 0x2812 else 0x2813
/-- The resources of a record. -/
def recordRes (rec : Nat) : List Nat :=
  if rec = 0x2810 then List.range 12 else if rec = 0x2811 then [12] else if rec = 0x2812 then [13, 14] else (List.range 8).map (15 + ·)

/-- A class's weight, ceiling rate and ceiling depth. -/
def State.classWeight (s : State) (res c : Nat) : Nat := s.obj (recKey (recordOf res) 0 1) / 256 ^ (c - 3) % 256
def State.ceilRate (s : State) (res c : Nat) : Nat := s.obj (recKey (recordOf res) 0 2) / 2 ^ (32 * c) % 2 ^ 32
def State.ceilDepth (s : State) (res c : Nat) : Nat := s.obj (recKey (recordOf res) 0 3) / 2 ^ (32 * c) % 2 ^ 32

/-- A rate that never withholds (R332, R339). -/
def unlimited : Nat := 0xFFFFFFFF

/-- A bucket's content now, in thousandths of a byte: it fills at `rate` MB/s up to its depth and no further (R332, R339). One
that nothing has charged is full. DESIGN CHOICE, log entry 6. -/
def bucketNow (now rate depth : Nat) : Option Bucket → Nat
  | none => 1000 * depth
  | some b => if rate = unlimited then 1000 * depth else min (1000 * depth) (b.level + (now - b.at_) * rate)

/-- A class's ceiling content (R332). -/
def State.ceilNow (s : State) (res c : Nat) : Nat :=
  bucketNow s.time (s.ceilRate res c) (s.ceilDepth res c) (Map.find s.sched.ceil (resClass res c))

/-- Whether a class's ceiling allows a head (R332). -/
def State.ceilAllows (s : State) (res c len : Nat) : Bool :=
  decide (s.ceilRate res c = unlimited) || decide (1000 * len ≤ s.ceilNow res c)

/-- A tenant's committed and peak content (R339). -/
def State.committedNow (s : State) (t : Nat) : Nat :=
  bucketNow s.time (s.obj (tenantKey t 0xD)) (s.obj (tenantKey t 0xE)) (Map.find s.sched.committed t)
def State.peakNow (s : State) (t : Nat) : Nat :=
  bucketNow s.time (s.obj (tenantKey t 0xF)) (s.obj (tenantKey t 0x10)) (Map.find s.sched.peak t)

/-- The colour of a tenant's head (R339, R340): 0 green, 1 yellow, 2 red. The system queue and an unpoliced tenant are green. -/
def State.colour (s : State) (t len : Nat) : Nat :=
  if t = systemQueue ∨ s.obj (tenantKey t 0xF) = unlimited then 0
  else if s.peakNow t < 1000 * len then 2
  else if s.committedNow t < 1000 * len then 1
  else 0

/-- A tenant's weight at the upper level (R335, R337). -/
def State.tenantWeight (s : State) (t : Nat) : Nat := max 1 (if t = systemQueue then s.obj 0x280001 else s.obj (tenantKey t 0xC))

/-- The keys of a virtual time and of a finish tag (R337). -/
def vtKey (c k : Nat) : Nat := c * 2 + k
def tagKey (c k t : Nat) : Nat := vtKey c k * 8192 + t

/-- The first packet of each flow of a queue (R336). -/
def flowHeads : List Nat → List Work → List Work
  | _, [] => []
  | seen, w :: l => if seen.contains w.flow then flowHeads seen l else w :: flowHeads (w.flow :: seen) l

/-- A head that a scheduler may send: its work and, from the upper level, its tenant, tier, tag and flow tag. -/
structure Pick where
  w : Work
  upper : Option (Nat × Nat × Nat × Nat) := none
  deriving DecidableEq, Repr

/-- Whether R286 would send a sourced packet on a port now. -/
def State.wouldSend (s : State) (p : Nat) (w : Work) : Bool :=
  match w.pkt with
  | some k => decide (s.chooseHop k none = .go p)
  | none => false

/-- A tenant's head on a port (R337, R338): among its flows' heads that the port would send, the one of the lowest flow tag. -/
def State.tenantHead (s : State) (p c t : Nat) : Option (Work × Nat) :=
  let u := c * 8192 + t
  let tag (w : Work) : Nat := (Map.getD s.sched.ftags (flowKey u w.flow) 0 + w.len * 65536) % 2 ^ 64
  ((flowHeads [] (Map.getD s.sched.upper u [])).filter (s.wouldSend p)).foldl (fun acc w => match acc with
    | some a => if laterTag a.2 (tag w) = a.2 ∧ a.2 ≠ tag w then some (w, tag w) else acc
    | none => some (w, tag w)) none

/-- The tenants that hold work in a class of the upper level. -/
def State.tenantsIn (s : State) (c : Nat) : List Nat :=
  (s.sched.upper.filter fun e => decide (e.1 / 8192 = c) && !e.2.isEmpty).map fun e => e.1 % 8192

/-- A tenant that gains a head in a tier starts from the later of its tag and the virtual time (R337). -/
def State.joinTier (s : State) (c k t : Nat) : State :=
  let key := tagKey c k t
  if s.sched.inTier.contains key then s
  else
    let sch := s.sched
    { s with sched := { sch with inTier := (key :: sch.inTier).filter fun x => x != tagKey c (1 - k) t,
                                 tags := Map.put sch.tags key (laterTag (Map.getD sch.tags key 0) (Map.getD sch.vtime (vtKey c k) 0)) } }

/-- The colours of a port's tenant heads are taken (R340); red ones wait and are counted (R341). -/
def State.takeColours (s : State) (p c : Nat) : State :=
  (s.tenantsIn c).foldl (fun s t => match s.tenantHead p c t with
    | none => s
    | some h =>
      let k := s.colour t h.1.len
      if k = 2 then { s with sched := { s.sched with inTier := s.sched.inTier.filter fun x => x != tagKey c 0 t && x != tagKey c 1 t } }.bump (tenantKey t 0x13)
      else s.joinTier c k t) s

/-- The upper level's choice for a port and class (R338): the lowest candidate tag in the green tier, else in the yellow, the lowest
tenant among equals. -/
def State.upperPick (s : State) (p c : Nat) : Option Pick :=
  let cand (k : Nat) : List (Nat × Nat × Pick) := (s.tenantsIn c).filterMap fun t =>
    match s.tenantHead p c t with
    | none => none
    | some h =>
      if s.colour t h.1.len ≠ k then none
      else
        let w := s.tenantWeight t
        let tag := (Map.getD s.sched.tags (tagKey c k t) 0 + (h.1.len * 65536 + w - 1) / w) % 2 ^ 64
        some (tag, t, { w := h.1, upper := some (t, k, tag, h.2) })
  let best (l : List (Nat × Nat × Pick)) : Option Pick := (l.foldl (fun (acc : Option (Nat × Nat × Pick)) x => match acc with
    | some a => if laterTag a.1 x.1 = a.1 ∧ a.1 ≠ x.1 then some x else if a.1 = x.1 ∧ x.2.1 < a.2.1 then some x else acc
    | none => some x) none).map fun x => x.2.2
  match best (cand 0) with
  | some x => some x
  | none => best (cand 1)

/-- The head of a resource's class: what entered its queue first, else the upper level's choice (R334, R338). DEDUCED, log entry 58. -/
def State.headOf (s : State) (res c : Nat) : Option Pick :=
  match Map.getD s.sched.queues (resClass res c) [] with
  | w :: _ => some { w := w }
  | [] => if res < 12 ∧ 3 ≤ c then s.upperPick res c else none

/-- Whether a head is ready (R331, R391): its ceiling allows it, its class is not paused, and a port's units cover it. -/
def State.readyHead (s : State) (res c : Nat) : Option Pick :=
  match s.headOf res c with
  | none => none
  | some h =>
    let units := match h.w.pkt with
      | some k => decide (needUnits k.len ≤ (s.port res).avail c) && decide ((s.port res).st = .active)
      | none => true
    if s.ceilAllows res c h.w.len && units && !(decide (3 ≤ c) && s.power.paused.contains c) then some h else none

/-- Mark the port by which a numbered message or a record left (R289): it is known by its identifier and its node, whichever flow took it. A
conduit's entry is Sent once every packet of its message has left (R309). -/
def State.markLeft (s : State) (p : Nat) (k : Packet) : State :=
  let mine (m : SentMsg) : Bool := decide (m.msg = k.msg) && decide (m.tries ≠ 0)
  let mark (m : SentMsg) : SentMsg :=
    if mine m then { m with ports := if bit m.ports p then m.ports else m.ports + 2 ^ p, last := s.time, left := m.left - 1 } else m
  if k.kind = 5 then
    let whole := s.conduits.flatMap fun e => if e.2.node ≠ k.dst then [] else
      (e.2.unplaced.filter fun m => mine m.2 && decide (m.2.left = 1)).map fun m => Out.entry e.1 m.1 0
    { s with out := whole ++ s.out, conduits := Map.each s.conduits fun _ x => if x.node = k.dst then { x with unplaced := Map.each x.unplaced fun _ m => mark m } else x }
  else if k.kind = 8 then { s with pair := { s.pair with unplaced := Map.each s.pair.unplaced fun _ m => mark m } }
  else s

/-- A packet leaves by a port (R265, R280, R285, R293). -/
def State.sendPacket (s : State) (p : Nat) (w : Work) (k : Packet) : State :=
  let x := s.port p
  let c := k.cls.val
  let s := s.setPort p { x with consumed := setNth x.consumed c ((nth x.consumed c + needUnits k.len) % 2 ^ 32) }
  let s := { s.bump (portKey p 0xC) with out := .packet p k :: s.out }
  let s := if w.sourced then s.markLeft p k else s.bump 0x260006
  (s.leaveIngress k w).afterPacket p

/-- A port with no packet to send (R265, R275): the next link-control frame leaves, and the 400GMII frame closes. -/
def State.idlePort (s : State) (p : Nat) : State := if p < 12 then (s.releaseControl p).closeFrame p else s

/-- Charge a bucket. -/
def chargeBucket (now level len : Nat) : Bucket := ⟨level - 1000 * len, now⟩

/-- What sending a tenant's head does to its tags and buckets (R337, R340). -/
def State.sentUpper (s : State) (c len flow : Nat) (t k tag ftag : Nat) : State :=
  let u := c * 8192 + t
  let rec drop : List Work → List Work
    | [] => []
    | w :: l => if w.flow = flow then l else w :: drop l
  let left := drop (Map.getD s.sched.upper u [])
  let sch := s.sched
  let com := s.committedNow t
  let peak := s.peakNow t
  let policed := decide (t ≠ systemQueue) && decide (s.obj (tenantKey t 0xF) ≠ unlimited)
  let s := { s with sched := { sch with
      upper := if left = [] then Map.del sch.upper u else Map.put sch.upper u left,
      inTier := if left = [] then sch.inTier.filter fun x => x != tagKey c 0 t && x != tagKey c 1 t else sch.inTier,
      tags := Map.put sch.tags (tagKey c k t) tag, vtime := Map.put sch.vtime (vtKey c k) tag,
      ftags := Map.put sch.ftags (flowKey u flow) ftag, fvtime := Map.put sch.fvtime u ftag,
      committed := if policed && decide (k = 0) then Map.put sch.committed t (chargeBucket s.time com len) else sch.committed,
      peak := if policed then Map.put sch.peak t (chargeBucket s.time peak len) else sch.peak } }
  if t = systemQueue then s else s.bumpBy (tenantKey t (if k = 0 then 0x11 else 0x12)) len

/-- Whether a resource's class holds nothing, in its queue and, at a port, in the upper level. -/
def State.classEmpty (s : State) (res c : Nat) : Bool :=
  (Map.getD s.sched.queues (resClass res c) []).isEmpty && (decide (12 ≤ res) || (s.tenantsIn c).isEmpty)

/-- A class of the weighted group whose queue has emptied has its deficit set to zero (R333); the upper level is every port's. -/
def State.emptied (s : State) (c : Nat) (l : List Nat) : State :=
  if c < 3 then s
  else { s with sched := { s.sched with deficit := (l.filter fun r => s.classEmpty r c).foldl (fun d r => Map.putD d (resClass r c) 0 0) s.sched.deficit } }

/-- Send a head (R332, R333, R344): the ceiling and the deficit are charged, the bytes counted. -/
def State.sendHead (s : State) (res c : Nat) (h : Pick) : State :=
  let key := resClass res c
  let len := h.w.len
  let level := s.ceilNow res c
  let s := match h.upper with
    | some (t, k, tag, ftag) => s.sentUpper c len h.w.flow t k tag ftag
    | none => { s with sched := { s.sched with queues := Map.put s.sched.queues key ((Map.getD s.sched.queues key []).drop 1) } }
  let s := if s.ceilRate res c = unlimited then s
    else { s with sched := { s.sched with ceil := Map.put s.sched.ceil key (chargeBucket s.time level len) } }
  let s := if c < 3 then s
    else { s with sched := { s.sched with deficit := Map.putD s.sched.deficit key (Map.getD s.sched.deficit key 0 - len) 0 } }
  let s := s.emptied c (if res < 12 then List.range 12 else [res])
  let k := recKey (recordOf res) 0 4
  let sent := s.obj k / 2 ^ (64 * c) % 2 ^ 64
  let s := s.setObj k (s.obj k - sent * 2 ^ (64 * c) + (sent + len) % 2 ^ 64 * 2 ^ (64 * c))
  match h.w.pkt with
  | some p => s.sendPacket res h.w p
  | none => { s with out := .work res len :: s.out }

/-- Deficit round robin over classes 3 to 7 from `c` on (R333): a class with a ready head gains its quantum at each visit, and sends
when its deficit covers the head. -/
def State.roundRobin (s : State) (res c : Nat) : Nat → State
  | 0 => s
  | fuel + 1 =>
    let next := if c = 7 then 3 else c + 1
    match s.readyHead res c with
    | none => s.roundRobin res next fuel
    | some h =>
      let key := resClass res c
      let d := Map.getD s.sched.deficit key 0 + s.classWeight res c * 4096
      let s := { s with sched := { s.sched with deficit := Map.put s.sched.deficit key d } }
      if h.w.len ≤ d then ({ s with sched := { s.sched with visit := Map.put s.sched.visit res c } }).sendHead res c h
      else s.roundRobin res next fuel

/-- The weighted group (R333): the class being visited goes on while its deficit covers its ready heads. -/
def State.selectWeighted (s : State) (res : Nat) : State :=
  let cur := Map.getD s.sched.visit res 7
  let heads := (List.range 5).filterMap fun i => s.readyHead res (3 + i)
  let most := (heads.map fun h => h.w.len).foldl max 0
  if heads.isEmpty then s.idlePort res
  else match s.readyHead res cur with
    | some h => if h.w.len ≤ Map.getD s.sched.deficit (resClass res cur) 0 then s.sendHead res cur h
                else s.roundRobin res (if cur = 7 then 3 else cur + 1) (5 * (most / 4096 + 2))
    | none => s.roundRobin res (if cur = 7 then 3 else cur + 1) (5 * (most / 4096 + 2))

/-- Count the heads that a ceiling holds (2810h.05). -/
def State.countHolds (s : State) (res : Nat) : State :=
  let n := ((List.range 8).filter fun c => match s.headOf res c with
    | some h => !s.ceilAllows res c h.w.len
    | none => false).length
  s.bumpBy (recKey (recordOf res) 0 5) n

/-- SCHEDULER_SELECT (R331): the first ready strict class, else the weighted group. -/
def State.schedule (s : State) (res : Nat) : State :=
  if res < 12 ∧ (s.port res).st ≠ .active then s
  else
    let s := if res < 12 then (List.range 5).foldl (fun s i => s.takeColours res (3 + i)) s else s
    let s := s.countHolds res
    match s.readyHead res 0, s.readyHead res 1, s.readyHead res 2 with
    | some h, _, _ => s.sendHead res 0 h
    | none, some h, _ => s.sendHead res 1 h
    | none, none, some h => s.sendHead res 2 h
    | none, none, none => s.selectWeighted res
def execSchedulerSelect (r : Resource) (s : State) : Host.Outcome State Fault Refusal := .next (s.schedule (resNumber r))

/-- A write of a tenant's weight or buckets (R342): refused, or accepted with each content clamped to its depth and not raised. -/
def State.writePolicing (s : State) (t sub value : Nat) : Option State :=
  let v (i : Nat) : Nat := if i = sub then value else s.obj (tenantKey t i)
  if sub < 0xC ∨ 0x10 < sub ∨ value > objMax (tenantKey t sub) then none
  else if v 0xC = 0 ∨ v 0xF < v 0xD ∨ v 0x10 < v 0xE ∨ v 0xE < 4136 ∨ v 0x10 < 4136 then none
  else if sub = 0xC then some (s.setObj (tenantKey t sub) value)
  else
    let com := s.committedNow t
    let peak := s.peakNow t
    let s := s.setObj (tenantKey t sub) value
    some { s with sched := { s.sched with committed := Map.put s.sched.committed t ⟨min com (1000 * v 0xE), s.time⟩,
                                          peak := Map.put s.sched.peak t ⟨min peak (1000 * v 0x10), s.time⟩ } }
def execTenantPolicingWrite (t : Tenant) (sub value : Nat) (s : State) : Host.Outcome State Fault Refusal :=
  .next ((s.writePolicing t sub value).getD s)

/-- A write of a resource record's ceilings (R343, R344): the contents stand, clamped to the new depths. -/
def State.writeCeiling (s : State) (rec sub value : Nat) : State :=
  let now := (recordRes rec).flatMap fun r => (List.range 8).map fun c => (r, c, s.ceilNow r c)
  let s := s.setObj (recKey rec 0 sub) value
  { s with sched := { s.sched with ceil := now.foldl (fun m x => Map.put m (resClass x.1 x.2.1) ⟨min x.2.2 (1000 * s.ceilDepth x.1 x.2.1), s.time⟩) s.sched.ceil } }

end Sys2Proof.Machine
end

