-- ==== Sys2Proof/Machine/Reads.lean ====
section
/-! DEFINITION. What a read of an object returns: the objects that the device computes from its state (R483, R510, R512 and the
object tables of the other chapters). Every other object reads as its register. -/

namespace Sys2Proof.Machine

/-- A signed value of `n` bits, two's complement (R485). -/
def signed (n : Nat) (v : Int) : Nat := (v % 2 ^ n).toNat

/-- The greatest of a list of temperatures, 0 for none. -/
def hottest (l : List Int) : Int := l.foldl max (l.headD 0)

/-- The least of a number over the polders that are not down (R222), 0 where every polder is. -/
def State.leastUp (s : State) (f : Nat → Nat) : Nat :=
  let l := ((List.range 8).filter fun p => !(s.polder p).down).map f
  l.foldl min (l.headD 0)

/-- The greatest of a number over the polders. -/
def highestOf (f : Nat → Nat) : Nat := ((List.range 8).map f).foldl max 0

/-- The values of 1018h.01 to 1018h.04 (R276). -/
def State.identity16 (s : State) : Nat := fields [(4, s.obj 0x101801), (4, s.obj 0x101802), (4, s.obj 0x101803), (4, Config.serial.toNat)]

/-- The transport key, zeros while there is none. -/
def State.transportKey (s : State) : Nat := if s.sec.transportKey then publicBytes 5 1568 else 0

/-- A measurement entry (R408). -/
def Meas.bytes (m : Meas) : Nat := fields [(1, m.kind), (1, m.index), (2, 0), (4, m.ident), (8, m.time), (64, m.digest)]

/-- A report's bytes (R411). -/
def State.reportBytes (s : State) (r : Report) : Nat :=
  let entries := (List.range 83).map fun i => (80, match Map.find r.meas (i + 1) with | some m => m.bytes | none => 0)
  fields ([(1, 1), (1, r.flags), (1, r.level), (1, 0), (16, s.identity16), (64, s.idDigest), (64, r.nonce), (8, r.time), (8, r.count), (4, r.node),
           (1568, s.transportKey)] ++ entries ++ [(4627, r.sig)])

/-- An entry of Tidegauge's event log (R452), and of the steward event log (R376). -/
def GEntry.bytes (e : GEntry) : Nat := fields [(8, e.seq), (8, e.time), (2, e.code), (2, 0), (12, e.data)]
def LogEntry.bytes (e : LogEntry) : Nat := fields [(8, e.time), (2, e.code), (1, e.cls), (1, e.unit), (4, e.count), (16, e.data)]

/-- A reading's bytes (R448). -/
def Reading.bytes (r : Reading) : Nat :=
  let head := [(1, 1), (1, r.kind), (2, r.tenant), (4, r.flags), (8, r.time), (8, r.device), (64, r.nonce), (8, r.lastRec), (4, r.version),
               (64, r.image), (8, r.next), (8, r.unlogged), (4, r.epoch)]
  let body := if r.kind = 1 then (r.counters.map fun c => (8, c)) ++ [(2, r.residue), (6, 0)]
    else [(8, r.first), (2, r.entries.length), (6, 0), (64, r.digest)] ++ r.entries.map fun e => (32, e.bytes)
  fields (head ++ body ++ [(4627, r.sig)])
/-- Its length. -/
def Reading.length (r : Reading) : Nat := if r.kind = 1 then 4867 else 264 + 32 * r.entries.length + 4627

/-- The Tidegauge certificate (R447). -/
def State.certificate (s : State) : Nat := fields [(4, 1), (16, s.identity16), (2592, publicBytes 6 2592), (4627, publicBytes 7 4627)]

/-- Entries of 4 bytes by index. -/
def words4 (m : Map Nat) : Nat := (m.map fun e => e.2 % 2 ^ 32 * 2 ^ (32 * e.1)).sum

/-- A bit for each number of a list. -/
def maskOf (l : List Nat) : Nat := (l.map fun i => 2 ^ i).sum

/-- The link-local address of a management port: FE80::/64 and the modified EUI-64 of its MAC address. PRESUMED, log entry 116. -/
def linkLocal (m : Nat) : Nat :=
  let a (i : Nat) : Nat := (Config.mac m).toNat / 256 ^ i % 256
  leNat [0xFE, 0x80, 0, 0, 0, 0, 0, 0, Nat.xor (a 0) 2, a 1, a 2, 0xFF, 0xFE, a 3, a 4, a 5]

/-- The bundle version as eight hex digits (100Ah), the most significant first. -/
def hexDigits (v : Nat) : Nat :=
  leNat ((List.range 8).map fun i => let d := v / 16 ^ (7 - i) % 16; if d < 10 then 0x30 + d else 0x37 + d)

/-- 1000h to 1E02h (R510, R512). -/
def State.readIdentity (s : State) (i sub : Nat) : Option Nat :=
  if i = 0x1001 then some s.errorRegister
  else if i = 0x100A then some (if s.start.bundle.isSome then hexDigits (s.obj 0x200005) else 0)
  else if i = 0x1018 ∧ sub = 4 then some Config.serial.toNat
  else if i = 0x1E00 ∧ sub = 4 then some s.woa.xfers.length
  else if i = 0x1E01 ∨ i = 0x1E02 then match sub with
    | 1 => some (Map.getD s.woa.links (i - 0x1E01) 0)
    | 2 => some (Config.mac (i - 0x1E01)).toNat
    | 5 => some (linkLocal (i - 0x1E01))
    | _ => none
  else none

/-- 2000h and 2100h (R483). -/
def State.readStart (s : State) (i sub : Nat) : Option Nat :=
  let b := s.start
  if i = 0x2000 then match sub with
    | 1 => some b.st.code
    | 3 => some b.path
    | 4 => some b.bytes
    | 6 => some (match b.bundle with | some x => leNat (sha3 x.bytes) | none => 0)
    | 0xA => some (fields ((List.range 4).map fun k => (1, (s.steward k).code)))
    | 0xB => some ((List.range 4).map fun d => nth b.duty d * 4 ^ d).sum
    | _ => none
  else match sub with
    | 1 => some b.fails.length
    | 2 => some (if b.st = .berm then b.bermCause else 0)
    | 4 | 5 | 6 => some (match b.fails[sub - 4]? with | some f => fields [(1, f.1), (1, f.2.1), (4, f.2.2)] | none => 0)
    | 7 => some b.resetCause
    | 9 => some b.trained
    | 0xA => some b.loaded
    | _ => none

/-- 2200h to 2404h (R402). DEDUCED, log entry 124. -/
def State.readTempo (s : State) (i sub : Nat) : Option Nat :=
  let p := s.power
  let pend := if s.tempo.commit.isSome then s.tempo.commit else s.tempo.pend
  if i = 0x2200 then match sub with
    | 2 => some s.tempo.cur
    | 3 => some s.tempo.epoch
    | 4 => some (match pend with | some t => t.tempo | none => 0)
    | 5 => some (match pend with | some t => t.boundary | none => 0)
    | 6 => some s.ownCeiling
    | 7 => some s.ceilingCause
    | _ => none
  else if i = 0x2201 then match sub with
    | 3 => some (average p.recent 1000)
    | 4 => some p.highest
    | 5 => some p.compute
    | 6 => some p.memory
    | 7 => some p.links
    | 8 => some s.throttleState
    | 9 => some (maskOf p.paused)
    | 0xA => some p.floor
    | _ => none
  else if i = 0x2210 then match sub with
    | 3 => some (Map.vals s.tempo.members).length
    | 4 => some (if s.tempo.proposal.isSome then 1 else if pend.isSome then 2 else 0)
    | _ => none
  else if i = 0x2211 then some (words4 s.tempo.members)
  else if i = 0x2220 then match sub with
    | 1 => some s.time
    | 3 => some s.ptp.st
    | 4 => some (signed 32 s.ptp.offset)
    | _ => none
  else if i = 0x2300 then match sub with
    | 1 => some (signed 16 (hottest (s.thermal.tiles.take 128)))
    | 2 => some (signed 16 (hottest (s.thermal.tiles.drop 128)))
    | 3 => some (signed 16 (hottest s.thermal.stackTemps))
    | 6 => some s.thermal.ceiling
    | _ => none
  else if i = 0x2310 ∧ sub = 6 then some (maskOf ((s.tiles.filter fun t => t.2.droop).map Prod.fst))
  else if i = 0x2320 then match sub with
    | 2 => some s.thermal.trim
    | 7 => some s.thermal.gaugeCeil
    | _ => none
  else if i = 0x2321 then
    some (fields ((List.range 256).flatMap fun c => [(2, signed 16 (s.thermal.margins.getD c 0)), (2, nth s.thermal.temps c)]))
  else if i = 0x2404 ∧ sub = 4 then some ((List.range 8).map fun q => (s.polder q).sleep.code * 4 ^ q).sum
  else none

/-- 2410h + p (R85). While no image runs, 02h to 04h show the image that the polder holds. DESIGN CHOICE, log entry 5. -/
def State.readProgram (s : State) (p sub : Nat) : Option Nat :=
  let x := s.polder p
  match sub with
  | 1 => some x.prog.code
  | 2 => some (match x.image with | some im => im.ident | none => 0)
  | 3 => some (match x.image with | some im => im.family % 4096 * 16 + im.bucket % 16 | none => 0)
  | 4 => some (match x.image with | some im => im.concurrency | none => 0)
  | 5 => some x.faultCode
  | 6 => some x.faultLoc
  | 7 => some x.faultTime
  | 8 => some x.faultCount
  | 9 => some x.refusal
  | _ => none

/-- 2430h, 2440h + i, 2460h + i and 2470h + i (R327). The digest of a chart that holds nothing reads as zeros. -/
def State.readChart (s : State) (i sub : Nat) : Option Nat :=
  if i = 0x2430 then (if sub = 3 then some (s.charts.map fun c => c.2.stranded.length).sum else none)
  else
    let c := s.chart (i % 16)
    if i < 0x2450 then match sub with
      | 2 => some c.st.code
      | 3 => some c.epoch
      | 4 => some c.pendEpoch
      | 0xC => some (if c.chartLen = 0 then 0 else leNat (chartDigest c.chart c.chartLen))
      | _ => none
    else if i < 0x2470 then some (words4 c.chart) else some (words4 c.pend)

/-- 2510h + n and 2600h to 2602h (R293, R294). -/
def State.readFabric (s : State) (i sub : Nat) : Option Nat :=
  if i < 0x2600 then
    let x := s.port (i - 0x2510)
    match sub with
    | 1 => some x.st.code
    | 0xB => some (if x.st = .hold then 1000 * x.holdMs - s.since (x.lastHold.getD s.time) else 0)
    | _ => none
  else if i = 0x2600 then (if sub = 3 then some (b2n s.bank) else none)
  else some (words4 (if decide (i = 0x2602) == s.bank then s.routes1 else s.routes0))

/-- The selected conduit (2701h.01). -/
def State.conduitSelect (s : State) : Nat := s.obj 0x270101 % 2 ^ 20

/-- 2700h and 2701h (R326). -/
def State.readConduit (s : State) (i sub : Nat) : Option Nat :=
  if i = 0x2700 then match sub with
    | 2 => some s.openConduits
    | 3 => some (if s.host.conduit.st = 1 then s.host.conduit.bytes / 256 else 0)
    | 4 => some s.contexts.length
    | 5 => some s.reserved
    | _ => none
  else
    let x := s.conduit s.conduitSelect
    match sub with
    | 2 => some x.st.code
    | 3 => some x.node
    | 4 => some x.peer
    | 5 => some x.clsKey
    | 6 => some (x.window + x.grant * 2 ^ 16)
    | 7 => some x.next
    | 8 => some x.placed
    | 9 => some x.reason
    | _ => none

/-- The page moves queued at the spillway in the order in which it serves them (R233): kind 2 restores from T2, 3 spills, 4 copies of T2 records
to T3, with their sequences and page keys. -/
def State.spillway (s : State) : List (Nat × Nat × Nat) :=
  let of_ (kind : Nat) (st prior : SeqState) (f : Seq → List Nat) : List (Nat × Nat × Nat) :=
    (Map.keep s.seqs fun _ e => decide (e.st = st) && decide (e.prior = prior)).flatMap fun e => (f e.2).map fun k => (kind, e.1, k)
  of_ 2 .restoring .spilled (fun e => e.moving.map Prod.fst) ++ of_ 3 .spilling .active (fun e => e.moving.map Prod.fst) ++
    of_ 4 .flushing .spilled fun e => (e.leaves.filter fun l => decide (l.2.loc = 2)).map Prod.fst

/-- Whether a root port stands as two links of four lanes (2920h.03), from what its drives' links show; `d` is its first position. PRESUMED, log
entry 119. -/
def State.splitPort (s : State) (d : Nat) : Bool := decide ((s.drive (d + 1)).link ≠ 0) || decide ((s.drive d).link % 16 = 4)

/-- 2800h, 2900h, 2901h, 2910h + d and 2A00h (R344, R261). DEDUCED, log entry 118. -/
def State.readTiers (s : State) (i sub : Nat) : Option Nat :=
  if i = 0x2800 then (if sub = 2 then some s.flowsInUse.length else none)
  else if i = 0x2900 then match sub with
    | 1 => some s.spillBlocks
    | 2 => some s.spillFree
    | 3 => some s.host.spillMap.length
    | 9 => some (maskOf ((List.range 4).filter fun d => decide ((s.drive d).st = .ready)))
    | _ => none
  else if i = 0x2901 ∧ sub = 1 then some (min 4096 s.spillway.length)
  else if 0x2910 ≤ i ∧ i ≤ 0x2913 then
    let d := s.drive (i - 0x2910)
    match sub with
    | 1 => some d.st.code
    | 2 => some d.reason
    | 3 => some d.link
    | 4 => some d.total
    | 5 => some d.free
    | 6 => some (d.images.length + d.weights.length)
    | 9 => some d.wear
    | _ => none
  else if i = 0x2920 ∧ sub = 3 then some (b2n (s.splitPort 0) + 2 * b2n (s.splitPort 2))
  else if i = 0x2A00 ∧ sub = 1 then some (s.weights.map fun w => if w.2.loaded then w.2.tables else 0).sum
  else none

/-- 2B02h to 2BBFh (R143, R179, R222). -/
def State.readPages (s : State) (i sub : Nat) : Option Nat :=
  if i = 0x2B02 then
    some ((List.range 8).foldl (fun m p => min m (Map.getD s.thermal.stackCeil p 512)) (min s.programmed s.capConcurrency))
  else if i = 0x2B32 ∧ sub = 2 then some (((s.bodies.map fun b => b.2.frames.length).sum + 15) / 16)
  else if i = 0x2B33 ∧ sub = 2 then some (highestOf fun p => (s.polder p).tailUsed)
  else if i = 0x2B34 ∧ sub = 1 then some (s.weights.filter fun w => w.2.loaded).length
  else if i = 0x2B34 ∧ sub = 2 then some (s.weights.map fun w => if w.2.loaded then (w.2.shares.filter fun h => decide (h.tier ≠ 1)).length else 0).sum
  else if i = 0x2B40 then match sub with
    | 3 => some (s.leastUp s.freeFrames)
    | 4 => some s.seqs.length
    | 5 => some (s.leastUp s.freeGranules)
    | _ => none
  else if i = 0x2B42 ∧ sub = 2 then some (b2n s.sweep.running)
  else if i = 0x2B42 ∧ sub = 4 then some (s.frames.filter fun f => decide (f.2.count = pinned)).length
  else if i = 0x2B43 ∧ sub = 2 then some s.tombs.length
  else if 0x2B80 ≤ i ∧ i ≤ 0x2BBF ∧ sub = 9 then
    let v := s.obj (i * 256 + 9)
    some (if v % 16 = 1 ∧ s.bindingUsed (i - 0x2B80) then 2 else v)
  else none

/-- 2C08h to 2C30h (R376, R380). DEDUCED, log entry 122. -/
def State.readIntegrity (s : State) (i sub : Nat) : Option Nat :=
  if i = 0x2C08 ∧ sub = 4 then some (s.frames.filter fun f => decide (f.2.health = .suspect)).length
  else if i = 0x2C10 then match sub with
    | 1 => some s.pair.st.code
    | 2 => some s.pair.partner
    | 3 => some s.pair.conduit
    | 8 => some s.pair.cause
    | 0xA => some s.pair.down
    | _ => none
  else if i = 0x2C20 then match sub with
    | 1 => some s.fence.epoch
    | 2 => some s.fence.lease
    | 3 => some s.fence.st.code
    | 5 => some s.lostSeqs.length
    | _ => none
  else if i = 0x2C30 then match sub with
    | 1 => some s.log.written
    | 2 => some s.log.lost
    | 4 =>
      let back := (s.log.written + 2 ^ 20 - 1 - s.obj 0x2C3003 % 2 ^ 20) % 2 ^ 20
      some (match s.log.entries[back]? with | some e => e.bytes | none => 0)
    | _ => none
  else none

/-- The selected source (2D01h.01). -/
def State.sourceSelect (s : State) : Nat := s.obj 0x2D0101 % 512

/-- A route as GSTATE shows it (R525): 0 to 3 for S0 to S3, 4 and 5 for PF0 and PF1, 7 for none. -/
def routeCode (g : GSource) : Nat := g.route.getD 7

/-- A source's configuration as it was written (R527): a mode that waits for IDLE reads as written. -/
def GSource.config (g : GSource) : Nat :=
  b2n g.enable + 2 * b2n (g.nextMode.getD g.rearm) + 16 * (g.prio % 16) + 256 * (g.mask % 64) + 65536 * (g.vector % 2048)

/-- 2D01h to 2D04h (R527). -/
def State.readGatherer (s : State) (i sub : Nat) : Option Nat :=
  let g := s.source s.sourceSelect
  if i = 0x2D01 then match sub with
    | 2 => some g.config
    | 3 => some (b2n g.pending + 2 * b2n g.active + 4 * routeCode g)
    | 4 => some g.count
    | 5 => some g.last
    | 7 => some g.deliveries
    | _ => none
  else if i = 0x2D02 then some (maskOf ((s.gath.sources.filter fun e => e.2.pending).map Prod.fst))
  else if i = 0x2D03 then some (maskOf ((s.gath.sources.filter fun e => e.2.active).map Prod.fst))
  else if i = 0x2D04 ∧ 1 ≤ sub ∧ sub ≤ 4 then some ((s.runPrio (sub - 1)).getD 0 + 16 * Map.getD s.gath.thresh (sub - 1) 0)
  else none

/-- The state of the selected job key slot (2E13h.02). -/
def State.slotState (s : State) : Nat :=
  let x := s.jobSlot s.slotSelect
  b2n x.gen0.isSome + 2 * b2n x.gen1.isSome + 4 * b2n x.sending + 8 * b2n (decide (2 ^ 31 ≤ x.drawn)) + 16 * b2n (s.exhausted s.slotSelect)

/-- 2E00h to 2E40h (R437). -/
def State.readSecurity (s : State) (i sub : Nat) : Option Nat :=
  if i = 0x2E00 then match sub with
    | 1 => some (b2n s.sec.conf + 2 * b2n s.sec.locked + 4 * b2n s.start.latch + 8 * b2n s.sec.identityKey)
    | 2 => some (s.sec.acted.getD 255)
    | _ => none
  else if i = 0x2E01 then match sub with
    | 1 => some s.idDigest
    | 2 => some (if s.sec.identityKey then leNat s.idKey else 0)
    | 3 => some (leNat s.pkg.record)
    | _ => none
  else if i = 0x2E10 then match sub with
    | 2 => some (match s.sec.report with | some r => s.reportBytes r | none => 0)
    | 3 => some s.sec.count
    | _ => none
  else if i = 0x2E11 then some s.transportKey
  else if i = 0x2E12 ∧ sub = 2 then some s.sec.envResult
  else if i = 0x2E13 then match sub with
    | 2 => some s.slotState
    | 3 => some (s.jobSlot s.slotSelect).drawn
    | 5 => some s.sec.slots.length
    | _ => none
  else if i = 0x2E40 then match sub with
    | 1 => some (b2n s.sec.conf)
    | 2 => some (if s.sec.conf then 2 else b2n s.sec.session.isSome)
    | _ => none
  else none

/-- 2F00h, 2F10h and 2F11h (R551). -/
def State.readHost (s : State) (i sub : Nat) : Option Nat :=
  if i = 0x2F00 then (if sub = 3 then some (s.rings.filter fun r => decide (r.2.st = 1)).length else none)
  else
    let a := s.area (decide (i = 0x2F11))
    match sub with
    | 4 => some (if a.reason ≠ 0 then 2 + 16 * a.reason else a.st)
    | 5 => some (if a.st = 1 then a.bytes else 0)
    | _ => none

/-- 3000h + t (R211): usage counts what is reserved. -/
def State.readTenant (s : State) (t sub : Nat) : Option Nat :=
  match sub with
  | 5 => some ((s.charge t).usage 1)
  | 6 => some ((s.charge t).usage 2)
  | 7 => some ((s.charge t).usage 3)
  | 8 => some (s.tenantSeqs t)
  | _ => none

/-- The selected tenant (5010h.01). -/
def State.tenantSelect (s : State) : Nat := s.obj 0x501001 % 4096

/-- 5000h to 5010h (R458). Charges are read as integrated to gauge time. -/
def State.readGauge (s : State) (i sub : Nat) : Option Nat :=
  let g := s.gauge.integrateAll
  let t := s.tenantSelect
  if i = 0x5000 then match sub with
    | 1 => some g.st.code
    | 2 => some g.version
    | 3 => some g.digest
    | 4 => some g.approvedVersion
    | 5 => some g.approvedDigest
    | 6 => some g.pendVersion
    | 7 => some g.time
    | 8 => some g.lastRec
    | 9 => some s.certificate
    | _ => none
  else if i = 0x5001 then match sub with
    | 2 => some (match g.reading with | some r => r.bytes | none => 0)
    | 3 => some g.signed
    | _ => none
  else if i = 0x5002 then match sub with
    | 1 => some g.log.length
    | 2 => some (match g.log with | e :: _ => e.seq | [] => 0)
    | 3 => some g.next
    | 4 => some g.unlogged
    | 6 => some (match g.log.find? fun e => decide (e.seq = s.obj 0x500205) with | some e => e.bytes | none => 0)
    | _ => none
  else if i = 0x5003 then match sub with
    | 2 => some g.update
    | 3 => some (b2n s.pkg.updEn)
    | _ => none
  else if i = 0x5010 then
    if 2 ≤ sub ∧ sub ≤ 7 then some (Map.getD g.counters (t * 8 + (sub - 1)) 0)
    else if sub = 8 then some (Map.getD g.epochs t 0)
    else if sub = 0xA then some (Map.getD g.residue (t * 8 + 3) 0)
    else none
  else none

/-- The objects of a chapter that the device computes. PRESUMED, log entry 119. -/
def State.computed (s : State) (i sub : Nat) : Option Nat :=
  if sub = 0 ∧ !([0x1001, 0x100A, 0x2211, 0x2321, 0x2601, 0x2602, 0x2B02, 0x2D02, 0x2D03, 0x2E11].contains i) ∧ (i < 0x2460 ∨ 0x247F < i) then none
  else if i < 0x2000 then s.readIdentity i sub
  else if i < 0x2200 then s.readStart i sub
  else if i < 0x2410 then s.readTempo i sub
  else if i < 0x2418 then s.readProgram (i - 0x2410) sub
  else if i < 0x2430 then none
  else if i < 0x2500 then s.readChart i sub
  else if i < 0x2510 then none
  else if i < 0x2700 then s.readFabric i sub
  else if i < 0x2800 then s.readConduit i sub
  else if i < 0x2B00 then s.readTiers i sub
  else if i < 0x2C00 then s.readPages i sub
  else if i < 0x2D00 then s.readIntegrity i sub
  else if i < 0x2E00 then s.readGatherer i sub
  else if i < 0x2F00 then s.readSecurity i sub
  else if i < 0x3000 then s.readHost i sub
  else if i < 0x4000 then s.readTenant (i - 0x3000) sub
  else s.readGauge i sub

/-- What a read of an object returns. -/
def State.readObj (s : State) (k : Nat) : Nat := (s.computed (k / 256) (k % 256)).getD (s.obj k)

/-- The bytes of an object's value: its type's, but for a DOMAIN or a VISIBLE_STRING what it holds (R485). -/
def State.readLen (s : State) (k : Nat) : Nat :=
  let i := k / 256
  if k = 0x100800 then 8
  else if k = 0x100900 then 2
  else if k = 0x100A00 then (if s.start.bundle.isSome then 8 else 0)
  else if 0x2460 ≤ i ∧ i ≤ 0x246F then 4 * (s.chart (i - 0x2460)).chartLen
  else if 0x2470 ≤ i ∧ i ≤ 0x247F then 4 * (s.chart (i - 0x2470)).pendLen
  else if k = 0x2E0103 then s.pkg.record.length
  else if k = 0x2E1002 then (if s.sec.report.isSome then 13003 else 0)
  else if k = 0x500102 then (match s.gauge.reading with | some r => r.length | none => 0)
  else match objRow k with
    | some r => r.size
    | none => 0

end Sys2Proof.Machine
end

