-- ==== Sys2Proof/Machine/Writes.lean ====
section
/-! DEFINITION. What a write of an object does (R486 to R490): the checks that its defining chapter makes, and its effect. -/

namespace Sys2Proof.Machine

/-- Abort codes (R503). -/
def abortTimeout : Nat := 0x05040000
def abortInvalid : Nat := 0x05040001
def abortMemory : Nat := 0x05040005
def abortAccess : Nat := 0x06010000
def abortWriteOnly : Nat := 0x06010001
def abortReadOnly : Nat := 0x06010002
def abortNoObject : Nat := 0x06020000
def abortLength : Nat := 0x06070010
def abortNoSub : Nat := 0x06090011
def abortValue : Nat := 0x06090030
def abortGeneral : Nat := 0x08000000
def abortState : Nat := 0x08000022

/-- The outcome of a write: an abort code, or the state with its effect. -/
abbrev Wrote := Except Nat State

/-- A value that a rule refuses (R490). -/
def badValue : Wrote := .error abortValue
/-- A write that the device's state refuses (R490). -/
def badState : Wrote := .error abortState
/-- What the state may refuse. -/
def orState : Option State → Wrote
  | some s => .ok s
  | none => badState
/-- What concerns the value. -/
def orValue : Option State → Wrote
  | some s => .ok s
  | none => badValue
/-- A write of 01h to a control whose other values are reserved. -/
def only1 (v : Nat) (x : Wrote) : Wrote := if v = 1 then x else badValue

/-- The 4-byte entries of a DOMAIN that are not 0, each under a mask. -/
def entries4 (v n mask : Nat) : Map Nat :=
  (List.range n).filterMap fun i => let e := v / 2 ^ (32 * i) % 2 ^ 32 % mask; if e = 0 then none else some (i, e)

/-- Whether any tenant is bound to a composition ID (R313). -/
def State.tenantBound (s : State) (id : Nat) : Bool :=
  s.regs.any fun e => decide (0x3000 ≤ e.1 / 256) && decide (e.1 / 256 ≤ 0x3FFF) && decide (e.1 % 256 = 0xB) && decide (e.2 = id)

/-- Whether span boundaries are as 2440h.06 asks: S − 1 of them ascend strictly from above 0, the rest are 0. -/
def spansOk (spans v : Nat) : Bool :=
  (List.range 8).all fun j =>
    let b := v / 256 ^ j % 256
    if j + 1 < spans then decide ((if j = 0 then 0 else v / 256 ^ (j - 1) % 256) < b) else decide (b = 0)

/-- The lowest concurrency that 2B01h.00 may take: the greatest that a loaded or running image declares (R139). -/
def State.declared (s : State) : Nat :=
  highestOf fun p => max (match (s.polder p).image with | some im => im.concurrency | none => 0)
    (match (s.polder p).pendingImage with | some im => im.concurrency | none => 0)

/-- 1E00h to 2100h (R512, R483). -/
def State.writeStart (s : State) (i sub len v : Nat) : Option Wrote :=
  if i = 0x1E10 then some (if v / 256 ^ 16 % 256 ≤ 0x80 then .ok (s.setObj (i * 256 + sub) v) else badValue)
  else if i = 0x2000 ∧ sub = 2 then
    some (orState ((s.bundleWrite 2 len).map fun s => { s with start := { s.start with bytes := len } }))
  else if i = 0x2000 ∧ sub = 0xC then some (only1 v (.ok (s.warmReset 3)))
  else if i = 0x2100 ∧ sub = 3 then some (only1 v (orState s.bermControl))
  else none

/-- 2200h to 2404h (R402). DEDUCED, log entry 120. -/
def State.writeTempo (s : State) (i sub v : Nat) : Option Wrote :=
  let put := s.setObj (i * 256 + sub) v
  if i = 0x2200 ∧ sub = 1 then some (.ok (put.rebid s))
  else if i = 0x2201 ∧ sub = 1 then some (orValue (s.writeCap v))
  else if i = 0x2201 ∧ sub = 2 then
    some (if [v % 4, v / 4 % 4, v / 16 % 4].Nodup ∧ v % 4 < 3 ∧ v / 4 % 4 < 3 ∧ v / 16 % 4 < 3 then .ok put else badValue)
  else if i = 0x2211 then some (.ok { s with tempo := { s.tempo with members := entries4 v 16384 (2 ^ 20) } })
  else if i = 0x2320 ∧ sub = 1 then
    some (.ok (if s.obj 0x232001 = v then s else { put with out := .avs (v + s.thermal.trim) :: s.out }))
  else if i = 0x2320 ∧ sub = 3 then some (.ok (if v < s.thermal.trim then put.setTrim v else put))
  else if i = 0x2404 ∧ sub = 1 then some (.ok (s.automaticSleep (decide (v = 1))))
  else if i = 0x2404 ∧ sub = 3 then some (if v < s.obj 0x240402 then badValue else .ok put)
  else if i = 0x2404 ∧ sub = 5 then
    some (.ok (s.sleepControl (v % 8) (match v / 16 % 4 with | 0 => .automatic | 1 => .wet | 2 => .damp | _ => .dry)))
  else none

/-- 2410h + p: its control (R84, R85). -/
def State.writeProgram (s : State) (p v : Nat) : Wrote :=
  if v = 1 then orState (s.quiesce p) else if v = 2 then orState (s.clearStopped p) else if v = 3 then orState (s.resume p) else badValue

/-- A control of a composition record (R327): a slice that refuses it is noted in 2440h.0D. -/
def State.chartControl (s : State) (i v : Nat) : Wrote :=
  match v with
  | 1 => orState (s.proposeChart i)
  | 2 => orState (s.chartCommitHere i)
  | 3 => orState (s.chartAbortHere i)
  | 4 => orState (s.chartInstall i)
  | 5 => orState (s.abandonTransfers i)
  | _ => badValue

/-- 2420h, 2440h + i and 2470h + i (R327); the reserved bits of a chart entry ignore writes (R7, R314). -/
def State.writeChart (s : State) (i sub len v : Nat) : Option Wrote :=
  let k := i * 256 + sub
  if i = 0x2420 then
    let t := s.setObj k v
    some (if s.charts.any fun c => t.sliceBad c.1 c.2.chart || t.sliceBad c.1 c.2.prep then badState else .ok t)
  else if 0x2470 ≤ i ∧ i ≤ 0x247F then
    some (.ok (s.setChart (i - 0x2470) { s.chart (i - 0x2470) with pend := entries4 v ((len + 3) / 4) (2 ^ 27), pendLen := (len + 3) / 4 }))
  else if 0x2440 ≤ i ∧ i ≤ 0x244F then
    let n := i - 0x2440
    let c := s.chart n
    match sub with
    | 1 =>
      some (if c.st ≠ .idle ∨ c.chartLen ≠ 0 ∨ (s.compId n ≠ 0 ∧ s.tenantBound (s.compId n)) then badState
        else if v ≠ 0 ∧ (List.range 16).any (fun j => decide (j ≠ n) && decide (s.compId j = v)) then badValue
        else .ok (s.setObj k v))
    | 5 => some (if c.chartLen ≠ 0 then badState else .ok ((s.setObj k v).setObj (compKey n 6) 0))
    | 6 => some (if c.chartLen ≠ 0 then badState else if spansOk (s.spans n) v then .ok (s.setObj k v) else badValue)
    | 0xA => some (s.chartControl n v)
    | _ => none
  else none

/-- 2500h to 2601h (R293, R294). -/
def State.writeFabric (s : State) (i sub v : Nat) : Option Wrote :=
  if i = 0x2500 ∧ sub = 1 then some (.ok (s.setObj 0x250001 v).syncPairMode)
  else if 0x2510 ≤ i ∧ i ≤ 0x251B ∧ sub = 2 then
    some (.ok (if v = 0 then s.disablePort (i - 0x2510) else s.enablePort (i - 0x2510)).syncPairMode)
  else if 0x2510 ≤ i ∧ i ≤ 0x251B ∧ sub = 6 then
    some (if ((List.range 8).map fun c => v / 2 ^ (16 * c) % 2 ^ 16).sum ≤ 2048 then .ok (s.setObj (i * 256 + 6) v) else badValue)
  else if i = 0x2600 ∧ sub = 1 then some (orState (s.writeNode v))
  else if i = 0x2600 ∧ sub = 4 then some (only1 v (orState s.commitRoutes))
  else if i = 0x2601 then
    let m := entries4 v 16384 (2 ^ 32)
    some (.ok (if s.bank then { s with routes0 := m } else { s with routes1 := m }))
  else none

/-- 2701h (R326): the selected conduit's fields are written only while it is CLOSED. -/
def State.writeConduit (s : State) (sub v : Nat) : Option Wrote :=
  let n := s.conduitSelect
  let x := s.conduit n
  let closed (f : Conduit → Conduit) : Wrote := if x.st = .closed then .ok (s.setConduit n (f x)) else badState
  match sub with
  | 3 => some (closed fun x => { x with node := v })
  | 5 => some (closed fun x => { x with clsKey := v })
  | 6 => some (if v % 256 = 0 ∨ 32 < v % 256 then badValue else closed fun x => { x with window := v % 256, grant := v / 2 ^ 16 })
  | 0xA =>
    some (match v with
      | 1 => orState s.conduitOpen
      | 2 => orState s.conduitClose
      | 3 => orState s.conduitReset
      | _ => badValue)
  | _ => none

/-- 2810h to 2813h and 2910h + d (R343, R344, R261). -/
def State.writeTiers (s : State) (i sub v : Nat) : Option Wrote :=
  if 0x2810 ≤ i ∧ i ≤ 0x2813 then match sub with
    | 1 => some (if (List.range 5).all fun c => decide (v / 256 ^ c % 256 ≠ 0) then .ok (s.setObj (i * 256 + 1) v) else badValue)
    | 2 => some (.ok (s.writeCeiling i 2 v))
    | 3 => some (if (List.range 8).all fun c => decide (0x1028 ≤ v / 2 ^ (32 * c) % 2 ^ 32) then .ok (s.writeCeiling i 3 v) else badValue)
    | _ => none
  else if 0x2910 ≤ i ∧ i ≤ 0x2913 ∧ sub = 0xA then
    some (if v = 1 then orState (s.driveOffline (i - 0x2910)) else if v = 2 then orState (s.driveReinit (i - 0x2910)) else badValue)
  else none

/-- 2B01h to 2BBFh (R143, R179, R180, R222). DEDUCED, log entry 115. -/
def State.writePages (s : State) (i sub v : Nat) : Option Wrote :=
  let put := s.setObj (i * 256 + sub) v
  if i = 0x2B01 then some (if v < s.declared then badState else .ok put)
  else if i = 0x2B32 ∧ sub = 1 then
    some (.ok { put with bodyHeld := if s.bodies = [] then none else some s.bodyMiB })
  else if i = 0x2B40 ∧ sub = 2 then some (if s.seqs = [] then .ok put else badState)
  else if i = 0x2B41 ∧ sub = 2 then some (if s.obj 0x2B4103 < v then badValue else .ok put)
  else if i = 0x2B41 ∧ sub = 3 then some (if v < s.obj 0x2B4102 then badValue else .ok put)
  else if i = 0x2B42 ∧ sub = 1 then
    some (if v = 1 then .ok (s.startSweep false) else if v = 2 then .ok (s.startSweep true) else badValue)
  else if 0x2B80 ≤ i ∧ i ≤ 0x2BBF then
    if sub = 0xA then
      some (if v = 1 then .ok (s.enableBinding (i - 0x2B80)) else if v = 2 then orState (s.disableBinding (i - 0x2B80)) else badValue)
    else some (orState (s.writeShape (i - 0x2B80) sub v))
  else none

/-- 2C10h to 2C21h (R370 to R373, R380, R575). -/
def State.writeIntegrity (s : State) (i sub v : Nat) : Option Wrote :=
  if i = 0x2C10 ∧ sub = 7 then
    some (if v = 1 then orState s.rebuild else if v = 2 then orState s.abandonRebuild else badValue)
  else if i = 0x2C20 then match sub with
    | 1 => some (orValue (s.renewLease v))
    | 2 => some (.ok (s.writeLease v))
    | 4 =>
      some (match v % 256 with
        | 1 => orState s.fenceControl
        | 2 => orState s.probation
        | 3 => orState (s.liftFence (v / 256 % 2 ^ 32))
        | _ => badValue)
    | _ => none
  else if i = 0x2C21 then
    let comp := v / 2 ^ 16 % 2 ^ 15
    some (if bit v 31 then orState (s.markOrphan comp (v % 2 ^ 16)) else .ok { s with orphans := s.orphans.erase (comp, v % 2 ^ 16) })
  else none

/-- 2D01h (R520, R527). -/
def State.writeGatherer (s : State) (sub v : Nat) : Option Wrote :=
  let x := s.sourceSelect
  match sub with
  | 2 => some (orValue (s.configure x v))
  | 6 => some (if v = 1 then .ok (s.arrive x) else if v = 2 then .ok (s.clearPending x) else badValue)
  | _ => none

/-- 2E10h to 2E40h (R411, R421, R428, R435). An envelope's outcome comes with its own command. -/
def State.writeSecurity (s : State) (i sub v : Nat) : Option Wrote :=
  if i = 0x2E10 then some (.ok (s.nonce v))
  else if i = 0x2E12 then some (.ok s)
  else if i = 0x2E13 ∧ sub = 4 then
    some (match v with
      | 1 => orState s.switchGeneration
      | 2 => orState (s.eraseGeneration false)
      | 3 => orState (s.eraseGeneration true)
      | 4 => .ok s.eraseSlot
      | _ => badValue)
  else if i = 0x2E20 ∧ sub ≤ 7 then some (orState (s.writeBreachLevel sub v))
  else if i = 0x2E20 then some (only1 v (.ok s.lockPolicy))
  else if i = 0x2E40 then some (orState (if v = 1 then s.startConfidential else s.endConfidential))
  else none

/-- 2F10h and 2F11h (R551). What the registered list holds comes with its own command. -/
def State.writeHost (s : State) (i sub v : Nat) : Option Wrote :=
  if sub = 1 ∧ 0x2F10 ≤ i then some (if v % 16 = 0 then .ok (s.setObj (i * 256 + 1) v) else badValue)
  else if sub = 3 ∧ 0x2F10 ≤ i then
    some (if v = 1 then .ok s else if v = 2 then orState (s.releaseArea (decide (i = 0x2F11))) else badValue)
  else none

/-- 3000h + t (R313, R327, R342). -/
def State.writeTenant (s : State) (t sub v : Nat) : Option Wrote :=
  if sub = 0xB then
    some (if 0 < s.tenantSeqs t then badState
      else if v ≠ 0 ∧ !(List.range 16).any (fun j => decide (s.compId j = v)) then badValue
      else .ok (s.setObj (tenantKey t 0xB) v))
  else if 0xC ≤ sub ∧ sub ≤ 0x10 then some (orValue (s.writePolicing t sub v))
  else none

/-- 5000h to 5010h (R448, R453, R454, R458). An image's and an update package's content come with their own commands. -/
def State.writeGauge (s : State) (i sub v : Nat) : Option Wrote :=
  if (i = 0x5000 ∧ sub = 0xA) ∨ (i = 0x5003 ∧ sub = 1) then some (.ok s)
  else if i = 0x5001 then
    let kind := v % 256
    let n := v / 2 ^ 16 % 2 ^ 16
    let nonce := v / 2 ^ 64
    some (if v / 2 ^ 8 % 2 ^ 8 ≠ 0 ∨ v / 2 ^ 32 % 2 ^ 32 ≠ 0 then badValue
      else if kind = 1 ∧ n < 4096 then orState (s.askTenant n nonce)
      else if kind = 2 ∧ 1 ≤ n ∧ n ≤ 256 then orState (s.askLog n nonce)
      else badValue)
  else if i = 0x5002 ∧ sub = 7 then
    some (if v / 2 ^ 80 % 2 ^ 48 ≠ 0 then badValue
      else orState (s.clearGaugeLog (v % 2 ^ 64) (v / 2 ^ 64 % 2 ^ 16) (v / 2 ^ 128)))
  else if i = 0x5004 then
    let ns : Int := if v < 2 ^ 31 then v else (v : Int) - 2 ^ 32
    some (if 10 ^ 9 < ns.natAbs then badValue else orState (s.adjustGauge ns))
  else if i = 0x5010 ∧ sub = 9 then some (orState (s.retireTenant (v % 4096)))
  else none

/-- The write of an object whose chapter gives it an effect or a check of its own; none for any other. -/
def State.writeSpecial (s : State) (k len v : Nat) : Option Wrote :=
  let i := k / 256
  let sub := k % 256
  if i < 0x2200 then s.writeStart i sub len v
  else if i < 0x2410 then s.writeTempo i sub v
  else if i < 0x2418 then some (s.writeProgram (i - 0x2410) v)
  else if i < 0x2500 then s.writeChart i sub len v
  else if i < 0x2700 then s.writeFabric i sub v
  else if i = 0x2701 then s.writeConduit sub v
  else if i < 0x2B00 then s.writeTiers i sub v
  else if i < 0x2C00 then s.writePages i sub v
  else if i < 0x2D00 then s.writeIntegrity i sub v
  else if i = 0x2D01 then s.writeGatherer sub v
  else if i < 0x2E00 then none
  else if i < 0x2F00 then s.writeSecurity i sub v
  else if i < 0x3000 then s.writeHost i sub v
  else if i < 0x4000 then s.writeTenant (i - 0x3000) sub v
  else s.writeGauge i sub v

/-- Whether the object dictionary is served whole (R508): from the end of STEWARDS until the next start. -/
def State.servesAll (s : State) : Bool := decide (s.start.st = .programs) || decide (s.start.st = .joining) || decide (s.start.st = .serving)

/-- The indices that the boot ROM serves (R479), and those of them that are read only. DEDUCED, log entry 121. -/
def romReadOnly (i : Nat) : Bool := decide (i = 0x2300) || decide (i = 0x2320) || (decide (0x2330 ≤ i) && decide (i ≤ 0x2332))
def romServes (i : Nat) : Bool :=
  (decide (0x1000 ≤ i) && decide (i ≤ 0x1FFF)) || decide (i = 0x2000) || decide (i = 0x2100) || decide (i = 0x2220) || romReadOnly i ||
  decide (i = 0x2C30) || (decide (0x2E00 ≤ i) && decide (i ≤ 0x2E13)) || (decide (0x5000 ≤ i) && decide (i ≤ 0x5010))

/-- The row of an object that exists for WOA, or the abort code (R479, R491, R503). -/
def State.lookup (s : State) (k : Nat) : Except Nat ObjRow :=
  if !objIndex (k / 256) ∨ (!s.servesAll ∧ !romServes (k / 256)) then .error abortNoObject
  else match objRow k with
    | some r => .ok r
    | none => .error abortNoSub

/-- Whether a read is answered with the value, or the abort code (R487). -/
def State.readCheck (s : State) (k : Nat) : Except Nat Unit :=
  match s.lookup k with
  | .error e => .error e
  | .ok r => if r.access = .wo then .error abortWriteOnly else .ok ()

/-- The row of an object that a path may write with a value of a length, or the abort code (R466, R479, R486, R487, R576).
DEDUCED, log entry 112. -/
def State.writeCheck (s : State) (path k len : Nat) : Except Nat ObjRow :=
  match s.lookup k with
  | .error e => .error e
  | .ok r =>
    if k = 0x200002 ∧ path ≠ 2 then .error abortAccess
    else if r.access = .ro ∨ r.access = .const ∨ r.access = .sealed_ ∨ (!s.servesAll ∧ romReadOnly (k / 256)) then .error abortReadOnly
    else if (if r.var then decide (r.size < len) else decide (len ≠ r.size)) ∨ (k = 0x200002 ∧ bundleMax < len) then .error abortLength
    else .ok r

/-- Apply a write that passed its checks (R489, R490): reserved bits are ignored (R7), then the range, then the chapter's rules.
DESIGN CHOICE, log entry 123. -/
def State.applyWrite (s : State) (r : ObjRow) (k len v : Nat) : Wrote :=
  let v := if r.mask = 0 then v % 256 ^ len else Nat.land (v % 256 ^ len) r.mask
  if !r.var ∧ r.size ≤ 8 ∧ (v < r.lo ∨ r.hi < v) then badValue
  else match s.writeSpecial k len v with
    | some x => x
    | none => .ok (s.setObj k v)

end Sys2Proof.Machine
end

