-- ==== Sys2Proof/Machine/Woa.lean ====
section
/-! DEFINITION. WOA (R493 to R509): messages, transfers, the PF1 mailbox and the management ports. -/

namespace Sys2Proof
open Sys2Proof.Machine

/-- The fields of a message (R493). -/
def WoaMsg.version (m : WoaMsg) : Nat := fieldAt m.bytes 0 1
def WoaMsg.cmd (m : WoaMsg) : Nat := fieldAt m.bytes 1 1
def WoaMsg.response (m : WoaMsg) : Bool := bit (fieldAt m.bytes 2 1) 0
def WoaMsg.expedited (m : WoaMsg) : Bool := bit (fieldAt m.bytes 2 1) 1
def WoaMsg.last (m : WoaMsg) : Bool := bit (fieldAt m.bytes 2 1) 2
def WoaMsg.reservedSet (m : WoaMsg) : Bool :=
  decide (8 ≤ fieldAt m.bytes 2 1) || decide (fieldAt m.bytes 3 1 ≠ 0) || decide (fieldAt m.bytes 13 1 ≠ 0) || decide (fieldAt m.bytes 24 8 ≠ 0)
def WoaMsg.client (m : WoaMsg) : Nat := fieldAt m.bytes 4 4
def WoaMsg.xfer (m : WoaMsg) : Nat := fieldAt m.bytes 8 2
def WoaMsg.index (m : WoaMsg) : Nat := fieldAt m.bytes 10 2
def WoaMsg.sub (m : WoaMsg) : Nat := fieldAt m.bytes 12 1
def WoaMsg.len (m : WoaMsg) : Nat := fieldAt m.bytes 14 2
def WoaMsg.off (m : WoaMsg) : Nat := fieldAt m.bytes 16 4
def WoaMsg.total (m : WoaMsg) : Nat := fieldAt m.bytes 20 4
def WoaMsg.value (m : WoaMsg) : Nat := fieldAt m.bytes 32 m.len
/-- Whether the CRC-32C after header and data agrees with them (R493). -/
def WoaMsg.crcOk (m : WoaMsg) : Bool := decide (fieldAt m.bytes (32 + m.len) 4 = crc32c (m.bytes.take (32 + m.len)))

end Sys2Proof

namespace Sys2Proof.Machine

/-- The bytes of a message (R493): header, value bytes, CRC-32C. -/
def woaBytes (client xfer cmd flags key total off len value : Nat) : List Nat :=
  let bs := [1, cmd, flags, 0] ++ leBytes 4 client ++ leBytes 2 xfer ++ leBytes 2 (key / 256) ++ [key % 256, 0] ++ leBytes 2 len ++ leBytes 4 off ++
    leBytes 4 total ++ List.replicate 8 0 ++ leBytes len value
  bs ++ leBytes 4 (crc32c bs)

/-- The flags of a message (R493, R495, R496): response, expedited, last. -/
def woaResponse : Nat := 1
def woaLast : Nat := 4

/-- The data limit of a path (R494), and the bytes of a message around its data (R493). -/
def woaLimit (path : Nat) : Nat := if path = 2 then 4060 else 1400
def woaFrame : Nat := 36

/-- The client and transfer of a transfer in one number. -/
def xferId (client xfer : Nat) : Nat := client * 65536 + xfer
/-- A message's transfer and its object. -/
def msgXfer (m : WoaMsg) : Nat := xferId m.client m.xfer
def msgKey (m : WoaMsg) : Nat := m.index * 256 + m.sub

/-- Whether the part runs: PWRGOOD has ended the reset (R565). -/
def State.powered (s : State) : Bool := decide (s.pkg.pwr = .running) || decide (s.pkg.pwr = .failing)

/-- Whether a path takes messages: a port whose link is reported down sends nothing (R505, R509). DEDUCED, log entry 109. -/
def State.sends (s : State) (path : Nat) : Bool := decide (path = 2) || decide (Map.find s.woa.links path ≠ some 0)

/-- Put a message in the mailbox (R531, R542): its length stands in D2HLEN. DESIGN CHOICE, log entry 114. -/
def State.toMailbox (s : State) (o : Out) (n : Nat) : State :=
  { s with woa := { s.woa with d2h := n }, out := o :: s.out }.arrive 0x180

/-- Send a WOA message on a path; on the mailbox one message waits at a time (R507). -/
def State.woaSend (s : State) (path client xfer cmd flags key total off len value : Nat) : State :=
  let o := Out.woa path (woaBytes client xfer cmd flags key total off len value)
  if path = 2 then
    if s.woa.d2h = 0 then s.toMailbox o (woaFrame + len)
    else { s with woa := { s.woa with waiting := s.woa.waiting ++ [(o, woaFrame + len)] } }
  else if s.sends path then { s with out := o :: s.out } else s

/-- Send an ABORT (R503): no flag is set in it, nor in a SEGMENT but the last, nor in an ACK. DESIGN CHOICE, log entry 113. -/
def State.sendAbort (s : State) (path client xfer key code : Nat) : State :=
  if s.sends path then (s.woaSend path client xfer 5 0 key code 0 0 0).bump 0x1E0007 else s
/-- Answer a message with an ABORT. -/
def State.refuseWoa (s : State) (m : WoaMsg) (code : Nat) : State := s.sendAbort m.path m.client m.xfer (msgKey m) code

/-- Whether a source address lies in an allow-list entry's network (R506, R512): the bits of an address run from byte 0, the most
significant bit of each byte first. -/
def inNetwork (entry source : Nat) : Bool :=
  let n := entry / 256 ^ 16 % 256
  (List.range 16).all fun i =>
    let k := min 8 (n - 8 * i)
    decide (entry / 256 ^ i % 256 / 2 ^ (8 - k) = source / 256 ^ i % 256 / 2 ^ (8 - k))

/-- Whether the allow-list lets a source in (R506). -/
def State.allows (s : State) (source : Nat) : Bool :=
  let l := ((List.range 16).map fun i => s.obj (0x1E1001 + i)).filter fun e => decide (e / 256 ^ 16 % 256 ≠ 0)
  l.isEmpty || l.any fun e => inNetwork e source

/-- Receive a message (R494, R506): it is counted, and discarded without answer when its check, its version, its length or its source
fails. A halted S0 answers nothing (R377). `cmd` is the command that its row names, 0 for one that no row does. -/
def State.hearWoa (s : State) (cmd : Nat) (m : WoaMsg) (f : State → State) : State :=
  if !s.powered ∨ (cmd ≠ 0 ∧ m.cmd ≠ cmd) then s
  else
    let s := s.bump 0x1E0005
    if !m.crcOk ∨ m.version ≠ 1 ∨ woaLimit m.path < m.len ∨ ((m.path : Nat) ≠ 2 ∧ !s.allows m.source) then s.bump 0x1E0006
    else if s.steward 0 = .halted then s
    else if m.response ∨ m.reservedSet ∨ m.client = 0 then s.refuseWoa m abortInvalid
    else f s

/-- Store a transfer. -/
def State.setXfer (s : State) (id : Nat) (x : Xfer) : State := { s with woa := { s.woa with xfers := Map.put s.woa.xfers id x } }

/-- Close a transfer; one that delivers the bundle ends its delivery (R466). -/
def State.closeXfer (s : State) (id : Nat) : State :=
  match Map.find s.woa.xfers id with
  | none => s
  | some x =>
    let s := { s with woa := { s.woa with xfers := Map.del s.woa.xfers id } }
    if x.write ∧ x.key = 0x200002 then { s with start := { s.start with pulling := false } } else s

/-- What stops a message of an open transfer before anything else: the other kind of path (R507), a restart of S0 meanwhile (R377),
an object that is no longer served (R509). Whether the transfer closes is the Bool. -/
def State.xferStop (s : State) (m : WoaMsg) (x : Xfer) : Option (Nat × Bool) :=
  if (x.path == 2) != ((m.path : Nat) == 2) then some (abortAccess, false)
  else if x.broken then some (abortGeneral, true)
  else match s.lookup x.key with
    | .error e => some (e, true)
    | .ok _ => none

/-- Take a message of an open transfer, or answer the ABORT that stops it; `other` is what it does without one. -/
def State.onXfer (s : State) (m : WoaMsg) (other : State → State) (f : State → Xfer → State) : State :=
  match Map.find s.woa.xfers (msgXfer m) with
  | none => other s
  | some x =>
    let x := { x with heard := s.time }
    let s := s.setXfer (msgXfer m) x
    match s.xferStop m x with
    | some (code, close) => (if close then s.closeXfer (msgXfer m) else s).refuseWoa m code
    | none => f s x

/-- Send the segments of a value from an offset while they end by `stop` (R496), and how far they go. -/
def State.sendSegments (s : State) (id : Nat) (x : Xfer) (stop off : Nat) : Nat → State × Nat
  | 0 => (s, off)
  | fuel + 1 =>
    let len := min (woaLimit x.path) (x.total - off)
    if len = 0 ∨ stop < off + len then (s, off)
    else
      let flags := if off + len = x.total then woaLast else 0
      let s := s.woaSend x.path (id / 65536) (id % 65536) 3 flags x.key x.total off len (x.value / 256 ^ off % 256 ^ len)
      s.sendSegments id x stop (off + len) fuel

/-- The segments that a window holds (R497). -/
def windowSegments : Nat := 32
/-- Where a transfer's window ends. -/
def Xfer.windowEnd (x : Xfer) : Nat := min x.total (x.acked + windowSegments * woaLimit x.path)

/-- Send what the window of a read has room for (R496, R497). -/
def State.pumpXfer (s : State) (id : Nat) (x : Xfer) : State :=
  let r := s.sendSegments id x x.windowEnd x.sent windowSegments
  r.1.setXfer id { x with sent := r.2 }

/-- Send again every segment from the acknowledged offset that was sent (R497, R505). -/
def State.resendXfer (s : State) (id : Nat) (x : Xfer) : State := (s.sendSegments id x x.sent x.acked (windowSegments + 1)).1

/-- WOA_READ (R495, R496, R499): the whole value at once, or a segmented read of the value as it stands. DEDUCED, log entry 111. -/
def State.woaRead (s : State) (m : WoaMsg) : State :=
  let start (s : State) : State :=
    match s.readCheck (msgKey m) with
    | .error e => s.refuseWoa m e
    | .ok () =>
      let n := s.readLen (msgKey m)
      let v := s.readObj (msgKey m) % 256 ^ n
      if n ≤ woaLimit m.path then s.woaSend m.path m.client m.xfer 1 7 (msgKey m) n 0 n v
      else if !Map.has s.woa.xfers (msgXfer m) ∧ 64 ≤ s.woa.xfers.length then s.refuseWoa m abortMemory
      else
        let x : Xfer := { write := false, key := (msgKey m), total := n, value := v, path := m.path, heard := s.time, since := s.time }
        (s.woaSend m.path m.client m.xfer 1 woaResponse (msgKey m) n 0 0 0).pumpXfer (msgXfer m) x
  s.hearWoa 1 m fun s => if m.off ≠ 0 then s.refuseWoa m abortInvalid else s.onXfer m start fun s _ => start s
def execWoaRead (m : WoaMsg) (s : State) : Host.Outcome State Fault Refusal := .next (s.woaRead m)

/-- Keep the response of a completed write (R500): for 2 s, at most 4 096 of them. DEDUCED, log entry 110. -/
def State.keepResponse (s : State) (id key : Nat) : State :=
  let live := s.woa.kept.filter fun k => decide (s.time - k.2.2 < 2 * 10 ^ 9)
  { s with woa := { s.woa with kept := ((id, key, s.time) :: live).take 4096 } }

/-- Whether a write resets the device, so that its client sees no answer (R461, R509). -/
def resets (k : Nat) : Bool := decide (k = 0x20000C) || decide (k = 0x210003)

/-- A refused control 01h or 04h of a composition record shows a slice that refuses it in 2440h.0D (R327). -/
def State.noteRefusal (s : State) (k v : Nat) : State :=
  if 0x2440 ≤ k / 256 ∧ k / 256 ≤ 0x244F ∧ k % 256 = 0xA ∧ (v = 1 ∨ v = 4) then s.noteSlice (k / 256 - 0x2440) else s

/-- Carry out a write whose value is complete (R489, R495): its effect, then its response, or an ABORT. The bundle's effect is its own
command's. DESIGN CHOICE, log entry 113. -/
def State.finishWrite (s : State) (path client xfer k len v : Nat) (bundle : Bool) : State :=
  let done (s : State) : State := (s.keepResponse (xferId client xfer) k).woaSend path client xfer 2 (woaResponse + woaLast) k 0 0 0 0
  match s.lookup k with
  | .error e => s.sendAbort path client xfer k e
  | .ok r =>
    if bundle then done s
    else match s.applyWrite r k len v with
      | .error e => (s.noteRefusal k v).sendAbort path client xfer k e
      | .ok t => if resets k then t else done t

/-- A refused write; Tidegauge logs one of a sealed object (R440, R487). -/
def State.refuseWrite (s : State) (m : WoaMsg) (code : Nat) : State :=
  let sealed_ : Bool := match objRow (msgKey m) with | some r => decide (r.access = .sealed_) | none => false
  (if code = abortReadOnly ∧ sealed_ = true then s.detect 0x12 0 false else s).refuseWoa m code

/-- Open a segmented write (R496, R501). -/
def State.openWrite (s : State) (m : WoaMsg) : State :=
  if 64 ≤ s.woa.xfers.length then s.refuseWoa m abortMemory
  else if s.woa.xfers.any fun e => e.2.write && decide (e.2.key = (msgKey m)) then s.refuseWoa m abortState
  else match (if (msgKey m) = 0x200002 then s.bundleWrite m.path m.total else some s) with
    | none => s.refuseWoa m abortState
    | some s =>
      let s := (s.setXfer (msgXfer m) { write := true, key := (msgKey m), total := m.total, path := m.path, heard := s.time }).woaSend m.path m.client m.xfer 2 woaResponse (msgKey m) m.total 0 0 0
      if m.total = 0 then (s.closeXfer (msgXfer m)).finishWrite m.path m.client m.xfer (msgKey m) 0 0 (decide ((msgKey m) = 0x200002)) else s

/-- WOA_WRITE (R495, R496, R500): a repeat of a kept one is answered from what is kept. -/
def State.woaWrite (s : State) (m : WoaMsg) : State :=
  let again (s : State) : State := s.woaSend m.path m.client m.xfer 2 woaResponse (msgKey m) m.total 0 0 0
  let start (s : State) : State :=
    match s.woa.kept.find? fun k => decide (k.1 = (msgXfer m)) && decide (s.time - k.2.2 < 2 * 10 ^ 9) with
    | some k => (s.woaSend m.path m.client m.xfer 2 (woaResponse + woaLast) k.2.1 0 0 0 0).bump 0x1E0008
    | none =>
      match s.writeCheck m.path (msgKey m) (if m.expedited then m.len else m.total) with
      | .error e => s.refuseWrite m e
      | .ok _ => if m.expedited then s.finishWrite m.path m.client m.xfer (msgKey m) m.len m.value false else s.openWrite m
  s.hearWoa 2 m fun s =>
    if m.off ≠ 0 ∨ (m.expedited ∧ !m.last) ∨ (!m.expedited ∧ m.len ≠ 0) then s.refuseWoa m abortInvalid
    else s.onXfer m start fun s x =>
      if x.write ∧ !m.expedited ∧ x.key = (msgKey m) ∧ x.total = m.total then again (s.setXfer (msgXfer m) { x with path := m.path })
      else s.refuseWoa m abortInvalid
def execWoaWrite (m : WoaMsg) (s : State) : Host.Outcome State Fault Refusal := .next (s.woaWrite m)

/-- The parts of a run of bytes that no range covers. -/
def uncovered (ranges : List (Nat × Nat)) (a n : Nat) : List (Nat × Nat) :=
  ranges.foldl (fun l r => l.flatMap fun p =>
    [(p.1, min (p.1 + p.2) r.1 - p.1), (max p.1 (r.1 + r.2), p.1 + p.2 - max p.1 (r.1 + r.2))].filter fun q => decide (q.2 ≠ 0)) [(a, n)]

/-- Place the bytes of a segment that are not yet placed (R496). -/
def Xfer.place (x : Xfer) (off len v : Nat) : Xfer :=
  { x with value := (uncovered x.ranges off len).foldl (fun acc p => acc + v / 256 ^ (p.1 - off) % 256 ^ p.2 * 256 ^ p.1) x.value,
           ranges := addRange x.ranges off len, placed := x.placed + 1 }

/-- The bytes received contiguously from offset 0. -/
def Xfer.contiguous (x : Xfer) : Nat := match x.ranges.find? fun r => decide (r.1 = 0) with | some r => r.2 | none => 0

/-- SEGMENT (R496): placed within the window, acknowledged after every eighth and after the last; the write is carried out once every
byte is there. -/
def State.woaSegment (s : State) (m : WoaMsg) : State :=
  s.hearWoa 3 m fun s => s.onXfer m (fun s => s.refuseWoa m abortInvalid) fun s x =>
    let x := { x with path := m.path }
    if !x.write then s.refuseWoa m abortInvalid
    else if m.len = 0 ∨ x.windowEnd < m.off + m.len then s.setXfer (msgXfer m) x
    else
      let y := x.place m.off m.len m.value
      let bundle := decide (y.key = 0x200002)
      let s := if bundle then { s with start := { s.start with bytes := rangeTotal y.ranges } } else s
      let ack := decide (8 ≤ y.placed) || decide (m.off + m.len = y.total)
      let s := if ack then s.woaSend m.path m.client m.xfer 4 0 y.key 0 y.contiguous 0 0 else s
      let y := if ack then { y with acked := y.contiguous, placed := 0 } else y
      if rangeTotal y.ranges = y.total then
        let s := { s with woa := { s.woa with xfers := Map.del s.woa.xfers (msgXfer m) } }
        s.finishWrite m.path m.client m.xfer y.key y.total y.value bundle
      else s.setXfer (msgXfer m) y
def execSegment (m : WoaMsg) (s : State) : Host.Outcome State Fault Refusal := .next (s.woaSegment m)

/-- WOA_ACK (R496, R505): one that covers Total ends the read; one that came on the other port has what was sent resent there. -/
def State.woaAck (s : State) (m : WoaMsg) : State :=
  s.hearWoa 4 m fun s => s.onXfer m (fun s => s.refuseWoa m abortInvalid) fun s x =>
    if x.write then s.refuseWoa m abortInvalid
    else if m.off = x.total ∧ x.total ≤ x.sent then s.closeXfer (msgXfer m)
    else
      let moved := decide (x.path ≠ m.path)
      let x := { x with path := m.path }
      let x := if x.acked < m.off ∧ m.off ≤ x.sent then { x with acked := m.off, rounds := 0, since := s.time } else x
      (if moved then s.resendXfer (msgXfer m) x else s).pumpXfer (msgXfer m) x
def execWoaAck (m : WoaMsg) (s : State) : Host.Outcome State Fault Refusal := .next (s.woaAck m)

/-- WOA_ABORT (R503): the client ends its transfer; one that is not open is left. -/
def State.woaAborted (s : State) (m : WoaMsg) : State :=
  s.hearWoa 5 m fun s => s.onXfer m (fun s => s) fun s _ => s.closeXfer (msgXfer m)
def execWoaAbort (m : WoaMsg) (s : State) : Host.Outcome State Fault Refusal := .next (s.woaAborted m)

/-- WOA_RETRANSMIT (R497): a read without progress has its segments sent again, eight times, and is then aborted. -/
def State.woaRetransmit (s : State) (client xfer : Nat) : State :=
  let id := xferId client xfer
  match Map.find s.woa.xfers id with
  | none => s
  | some x =>
    if x.write ∨ x.sent ≤ x.acked ∨ s.time < x.since + 10 ^ 6 * s.obj 0x1E0003 then s
    else if 8 ≤ x.rounds then (s.closeXfer id).sendAbort x.path client xfer x.key abortTimeout
    else (s.resendXfer id x).setXfer id { x with rounds := x.rounds + 1, since := s.time }
def execWoaRetransmit (client xfer : Nat) (s : State) : Host.Outcome State Fault Refusal := .next (s.woaRetransmit client xfer)

/-- WOA_IDLE_TIMEOUT (R498): a transfer that no message has reached for the idle timeout is closed; a write closed in this way takes no effect. -/
def State.woaIdle (s : State) (client xfer : Nat) : State :=
  match Map.find s.woa.xfers (xferId client xfer) with
  | some x => if x.heard + 10 ^ 6 * s.obj 0x1E0002 ≤ s.time then s.closeXfer (xferId client xfer) else s
  | none => s
def execWoaIdleTimeout (client xfer : Nat) (s : State) : Host.Outcome State Fault Refusal := .next (s.woaIdle client xfer)

/-- Take a mailbox message by its command byte (R493, R507). -/
def State.takePosted (s : State) (m : WoaMsg) : State :=
  let m := { m with path := 2 }
  (match m.cmd with
    | 1 => s.woaRead m
    | 2 => s.woaWrite m
    | 3 => s.woaSegment m
    | 4 => s.woaAck m
    | 5 => s.woaAborted m
    | _ => s.hearWoa 0 m fun s => s.refuseWoa m abortInvalid).arrive 0x181

/-- H2DPOST (R507, R531): ignored unless H2DBUF is free; S0 takes the message and frees the buffer, a halted S0 once it runs again. -/
def execH2dpost (m : WoaMsg) (s : State) : Host.Outcome State Fault Refusal :=
  .next (if s.woa.h2d.isSome ∨ !s.powered then s
    else if s.steward 0 = .halted then { s with woa := { s.woa with h2d := some m } }
    else s.takePosted m)

/-- D2HLEN (R531): 0 releases the waiting message, and the next takes its place. -/
def State.releaseMail (s : State) : State :=
  match s.woa.waiting with
  | [] => { s with woa := { s.woa with d2h := 0 } }
  | (o, n) :: rest => { s with woa := { s.woa with waiting := rest } }.toMailbox o n
def execD2hlen (value : Nat) (s : State) : Host.Outcome State Fault Refusal :=
  .next (if value ≠ 0 ∨ s.woa.d2h = 0 then s else s.releaseMail)

/-- STEWARD_RESTARTED (R377): a message that waited in H2DBUF for S0 is taken. -/
def State.stewardRestarted (s : State) (k : Nat) : State :=
  let s := s.restartSteward k
  match s.woa.h2d with
  | some m => if k = 0 ∧ s.steward 0 = .running then { s with woa := { s.woa with h2d := none } }.takePosted m else s
  | none => s
def execStewardRestarted (k : Stw) (s : State) : Host.Outcome State Fault Refusal := .next (s.stewardRestarted k)

/-- MANAGEMENT_LINK_CHANGE (R505, R512): 0 down, 1 up as 1000BASE-X, 2 up as SGMII; a change is counted. -/
def execManagementLinkChange (m : Mgmt) (state : Fin 3) (s : State) : Host.Outcome State Fault Refusal :=
  .next (if Map.find s.woa.links m = some (state : Nat) then s
    else
      let was := Map.getD s.woa.links m 0
      let s := { s with woa := { s.woa with links := Map.put s.woa.links m state } }
      if was = state then s else s.bump (recKey 0x1E01 m 6))

/-- ICMPV6_MESSAGE (R504): a Neighbor Solicitation or an echo request is answered on its port. -/
def execIcmpv6Message (m : Mgmt) (solicitation : Bool) (ident : Nat) (s : State) : Host.Outcome State Fault Refusal :=
  .next (if s.powered ∧ s.sends m ∧ s.steward 0 ≠ .halted then { s with out := .icmp m (b2n solicitation) ident :: s.out } else s)

end Sys2Proof.Machine
end

