-- ==== Sys2Proof/Machine/Dispatch.lean ====
section
/-! DEFINITION. The meaning of each command: one arm for each row of the table. -/

namespace Sys2Proof.Machine

/-- What a command does to everything but the queue. -/
def exec (i : Instr) (s : State) : Host.Outcome State Fault Refusal :=
  match i with
  | .score p c o => Sys2Proof.Machine.execScore p c o s
  | .wsum p c o => Sys2Proof.Machine.execWsum p c o s
  | .write p c row off bytes upset => Sys2Proof.Machine.execWrite p c row off bytes upset s
  | .copy p c srcRow srcOff dstRow dstOff bytes => Sys2Proof.Machine.execCopy p c srcRow srcOff dstRow dstOff bytes s
  | .verify p c row off bytes upset => Sys2Proof.Machine.execVerify p c row off bytes upset s
  | .cscatter p c o => Sys2Proof.Machine.execCscatter p c o s
  | .cbcast p c o => Sys2Proof.Machine.execCbcast p c o s
  | .creduce p c o => Sys2Proof.Machine.execCreduce p c o s
  | .cgather p c o => Sys2Proof.Machine.execCgather p c o s
  | .vop p c kind n a b d dst => Sys2Proof.Machine.execVop p c kind n a b d dst s
  | .exp p c n src dst => Sys2Proof.Machine.execExp p c n src dst s
  | .softmax p c n heads scores state probs alpha scale page first => Sys2Proof.Machine.execSoftmax p c n heads scores state probs alpha scale page first s
  | .oacc p c n d o w alpha first => Sys2Proof.Machine.execOacc p c n d o w alpha first s
  | .merge p c d parts dst => Sys2Proof.Machine.execMerge p c d parts dst s
  | .cvt p c o => Sys2Proof.Machine.execCvt p c o s
  | .crc64 p c bytes src dst => Sys2Proof.Machine.execCrc64 p c bytes src dst s
  | .msend p c bytes src dstPol dstOff => Sys2Proof.Machine.execMsend p c bytes src dstPol dstOff s
  | .admitSlot p c ring firstLane count n dst => Sys2Proof.Machine.execAdmitSlot p c ring firstLane count n dst s
  | .done p c status detail at_ bytes => Sys2Proof.Machine.execDone p c status detail at_ bytes s
  | .wload p c bytes src => Sys2Proof.Machine.execWload p c bytes src s
  | .mm p c r src accRow ins cols add => Sys2Proof.Machine.execMm p c r src accRow ins cols add s
  | .outf p c bytes accOff cols dstPol dstUnit => Sys2Proof.Machine.execOutf p c bytes accOff cols dstPol dstUnit s
  | .outr p c bytes accOff cols dst => Sys2Proof.Machine.execOutr p c bytes accOff cols dst s
  | .bsoft p c scores state out d scale keyBase queryPos bf16 first => Sys2Proof.Machine.execBsoft p c scores state out d scale keyBase queryPos bf16 first s
  | .swap p c => Sys2Proof.Machine.execSwap p c s
  | .xblk p c m dst => Sys2Proof.Machine.execXblk p c m dst s
  | .xtab p c src slot => Sys2Proof.Machine.execXtab p c src slot s
  | .xreq p c bytes blocks drive => Sys2Proof.Machine.execXreq p c bytes blocks drive s
  | .dcopy p c bytes row unit off res toHbm upset => Sys2Proof.Machine.execDcopy p c bytes row unit off res toHbm upset s
  | .dls p c bytes res core at_ toCore transpose => Sys2Proof.Machine.execDls p c bytes res core at_ toCore transpose s
  | .dmesh p c bytes res dstPol dstOff => Sys2Proof.Machine.execDmesh p c bytes res dstPol dstOff s
  | .dfill p c bytes row unit off upset => Sys2Proof.Machine.execDfill p c bytes row unit off upset s
  | .nop p cls c => Sys2Proof.Machine.execNop p cls c s
  | .waitonly p cls c => Sys2Proof.Machine.execWaitonly p cls c s
  | .repeatSlot p cls c len count fromEntry => Sys2Proof.Machine.execRepeatSlot p cls c len count fromEntry s
  | .endSlot p cls c => Sys2Proof.Machine.execEndSlot p cls c s
  | .externalGateSignal p gate count event => Sys2Proof.Machine.execExternalGateSignal p gate count event s
  | .deadlineExpiry p cls c => Sys2Proof.Machine.execDeadlineExpiry p cls c s
  | .stallLimitExpiry p cls c => Sys2Proof.Machine.execStallLimitExpiry p cls c s
  | .passClose p => Sys2Proof.Machine.execPassClose p s
  | .polderStopped p => Sys2Proof.Machine.execPolderStopped p s
  | .tideBoundary => Sys2Proof.Machine.execTideBoundary s
  | .imageLoad p im => Sys2Proof.Machine.execImageLoad p im s
  | .quiesce p => Sys2Proof.Machine.execQuiesce p s
  | .clearStopped p => Sys2Proof.Machine.execClearStopped p s
  | .resume p => Sys2Proof.Machine.execResume p s
  | .attend r => Sys2Proof.Machine.execAttend r s
  | .attendTokenLimit tag => Sys2Proof.Machine.execAttendTokenLimit tag s
  | .epochHoldExpiry tag => Sys2Proof.Machine.execEpochHoldExpiry tag s
  | .replay tag => Sys2Proof.Machine.execReplay tag s
  | .orderingFence r slot cookie => Sys2Proof.Machine.execOrderingFence r slot cookie s
  | .prefill r => Sys2Proof.Machine.execPrefill r s
  | .append r => Sys2Proof.Machine.execAppend r s
  | .tokenBase tag => Sys2Proof.Machine.execTokenBase tag s
  | .bodySegment key source off len bytes reserved => Sys2Proof.Machine.execBodySegment key source off len bytes reserved s
  | .bodyTimeout tag => Sys2Proof.Machine.execBodyTimeout tag s
  | .weightLoad b header segments sizes hasQ wFmt aFmt tables => Sys2Proof.Machine.execWeightLoad b header segments sizes hasQ wFmt aFmt tables s
  | .weightLoadEnd b => Sys2Proof.Machine.execWeightLoadEnd b s
  | .fork r => Sys2Proof.Machine.execFork r s
  | .forkCreate r => Sys2Proof.Machine.execForkCreate r s
  | .release r => Sys2Proof.Machine.execRelease r s
  | .releaseTruncate r => Sys2Proof.Machine.execReleaseTruncate r s
  | .pin r => Sys2Proof.Machine.execPin r s
  | .unpin r => Sys2Proof.Machine.execUnpin r s
  | .swapOut r => Sys2Proof.Machine.execSwapOut r s
  | .swapIn r => Sys2Proof.Machine.execSwapIn r s
  | .flush r => Sys2Proof.Machine.execFlush r s
  | .abort r => Sys2Proof.Machine.execAbort r s
  | .abortAll r => Sys2Proof.Machine.execAbortAll r s
  | .tombstoneExpiry waiter => Sys2Proof.Machine.execTombstoneExpiry waiter s
  | .querySummary r => Sys2Proof.Machine.execQuerySummary r s
  | .queryLayerCounts r => Sys2Proof.Machine.execQueryLayerCounts r s
  | .queryTenantUsage r => Sys2Proof.Machine.execQueryTenantUsage r s
  | .sequenceWideTurn tag => Sys2Proof.Machine.execSequenceWideTurn tag s
  | .preEmption => Sys2Proof.Machine.execPreEmption s
  | .moveComplete seqId lost => Sys2Proof.Machine.execMoveComplete seqId lost s
  | .moveFailed seqId => Sys2Proof.Machine.execMoveFailed seqId s
  | .sweepCandidates => Sys2Proof.Machine.execSweepCandidates s
  | .sweepAllPinned => Sys2Proof.Machine.execSweepAllPinned s
  | .sweepEnd => Sys2Proof.Machine.execSweepEnd s
  | .bindingEnable b => Sys2Proof.Machine.execBindingEnable b s
  | .bindingDisable b => Sys2Proof.Machine.execBindingDisable b s
  | .bindingShapeWrite b sub value => Sys2Proof.Machine.execBindingShapeWrite b sub value s
  | .refetchResult m good => Sys2Proof.Machine.execRefetchResult m good s
  | .demotion => Sys2Proof.Machine.execDemotion s
  | .nvmeCompletion d cmd ok r => Sys2Proof.Machine.execNvmeCompletion d cmd ok r s
  | .nvmeCommandTimeout d cmd => Sys2Proof.Machine.execNvmeCommandTimeout d cmd s
  | .driveFatalStatus d => Sys2Proof.Machine.execDriveFatalStatus d s
  | .driveLinkLost d => Sys2Proof.Machine.execDriveLinkLost d s
  | .driveOffline d => Sys2Proof.Machine.execDriveOffline d s
  | .driveReinitialise d => Sys2Proof.Machine.execDriveReinitialise d s
  | .portEnable n => Sys2Proof.Machine.execPortEnable n s
  | .portDisable n => Sys2Proof.Machine.execPortDisable n s
  | .lanesTrained n => Sys2Proof.Machine.execLanesTrained n s
  | .pcsLock n => Sys2Proof.Machine.execPcsLock n s
  | .portStateTimeout n => Sys2Proof.Machine.execPortStateTimeout n s
  | .hello n h => Sys2Proof.Machine.execHello n h s
  | .helloTimer n => Sys2Proof.Machine.execHelloTimer n s
  | .lossOfLock n pcs => Sys2Proof.Machine.execLossOfLock n pcs s
  | .fecDegrade n corrected uncorrectable => Sys2Proof.Machine.execFecDegrade n corrected uncorrectable s
  | .livenessTimeout n => Sys2Proof.Machine.execLivenessTimeout n s
  | .holdDownExpiry n => Sys2Proof.Machine.execHoldDownExpiry n s
  | .credit n grants => Sys2Proof.Machine.execCredit n grants s
  | .creditTimer n => Sys2Proof.Machine.execCreditTimer n s
  | .pathDown n dst => Sys2Proof.Machine.execPathDown n dst s
  | .pathDownHoldExpiry n dst => Sys2Proof.Machine.execPathDownHoldExpiry n dst s
  | .packetReceive n first cut k => Sys2Proof.Machine.execPacketReceive n first cut k s
  | .nodeIdWrite node => Sys2Proof.Machine.execNodeIdWrite node s
  | .routingCommit => Sys2Proof.Machine.execRoutingCommit s
  | .reassemblyTimeout source msg => Sys2Proof.Machine.execReassemblyTimeout source msg s
  | .missFetchDone conduit ns => Sys2Proof.Machine.execMissFetchDone conduit ns s
  | .openMsg h node window => Sys2Proof.Machine.execOpenMsg h node window s
  | .openAck h node code => Sys2Proof.Machine.execOpenAck h node code s
  | .ack h => Sys2Proof.Machine.execAck h s
  | .putPage h u hdr data => Sys2Proof.Machine.execPutPage h u hdr data s
  | .putRecord h u record => Sys2Proof.Machine.execPutRecord h u record s
  | .putRef h u => Sys2Proof.Machine.execPutRef h u s
  | .seal h seqId binding base counts state => Sys2Proof.Machine.execSeal h seqId binding base counts state s
  | .sealed h seqId refused => Sys2Proof.Machine.execSealed h seqId refused s
  | .bucketDone h comp bucket span stranded => Sys2Proof.Machine.execBucketDone h comp bucket span stranded s
  | .close h => Sys2Proof.Machine.execClose h s
  | .fetch h seqId key frame checkOk => Sys2Proof.Machine.execFetch h seqId key frame checkOk s
  | .fetched h seqId key result hdr data => Sys2Proof.Machine.execFetched h seqId key result hdr data s
  | .conduitRetry conduit seq => Sys2Proof.Machine.execConduitRetry conduit seq s
  | .conduitOpenControl => Sys2Proof.Machine.execConduitOpenControl s
  | .conduitCloseControl => Sys2Proof.Machine.execConduitCloseControl s
  | .conduitResetControl => Sys2Proof.Machine.execConduitResetControl s
  | .transferFreeze comp seqId => Sys2Proof.Machine.execTransferFreeze comp seqId s
  | .freezeLimitExpiry comp seqId => Sys2Proof.Machine.execFreezeLimitExpiry comp seqId s
  | .chartPrepare comp node epoch changes digest => Sys2Proof.Machine.execChartPrepare comp node epoch changes digest s
  | .prepared comp node epoch => Sys2Proof.Machine.execPrepared comp node epoch s
  | .chartRefuse comp node epoch reason => Sys2Proof.Machine.execChartRefuse comp node epoch reason s
  | .chartCommit comp epoch boundary => Sys2Proof.Machine.execChartCommit comp epoch boundary s
  | .committed comp node epoch => Sys2Proof.Machine.execCommitted comp node epoch s
  | .chartAbort comp epoch => Sys2Proof.Machine.execChartAbort comp epoch s
  | .chartResend comp node => Sys2Proof.Machine.execChartResend comp node s
  | .chartBoundary comp => Sys2Proof.Machine.execChartBoundary comp s
  | .chartPropose comp => Sys2Proof.Machine.execChartPropose comp s
  | .chartCommitControl comp => Sys2Proof.Machine.execChartCommitControl comp s
  | .chartAbortControl comp => Sys2Proof.Machine.execChartAbortControl comp s
  | .chartInstall comp => Sys2Proof.Machine.execChartInstall comp s
  | .abandonTransfers comp => Sys2Proof.Machine.execAbandonTransfers comp s
  | .schedulerSelect r => Sys2Proof.Machine.execSchedulerSelect r s
  | .tenantPolicingWrite t sub value => Sys2Proof.Machine.execTenantPolicingWrite t sub value s
  | .rereadDone frame pass seqs => Sys2Proof.Machine.execRereadDone frame pass seqs s
  | .fetchTimeout frame => Sys2Proof.Machine.execFetchTimeout frame s
  | .rewriteReadback frame pass => Sys2Proof.Machine.execRewriteReadback frame pass s
  | .patrolRead frame upset corrections => Sys2Proof.Machine.execPatrolRead frame upset corrections s
  | .mirrorRecord seq placed r => Sys2Proof.Machine.execMirrorRecord seq placed r s
  | .mirrorAck placed refused => Sys2Proof.Machine.execMirrorAck placed refused s
  | .recordHoldExpiry seq => Sys2Proof.Machine.execRecordHoldExpiry seq s
  | .pairBeat n b => Sys2Proof.Machine.execPairBeat n b s
  | .pairBeatTimer => Sys2Proof.Machine.execPairBeatTimer s
  | .beatTimeout => Sys2Proof.Machine.execBeatTimeout s
  | .rebuild => Sys2Proof.Machine.execRebuild s
  | .abandonRebuild => Sys2Proof.Machine.execAbandonRebuild s
  | .fence => Sys2Proof.Machine.execFence s
  | .probation => Sys2Proof.Machine.execProbation s
  | .lift epoch => Sys2Proof.Machine.execLift epoch s
  | .leaseExpiry => Sys2Proof.Machine.execLeaseExpiry s
  | .leaseRenewal epoch => Sys2Proof.Machine.execLeaseRenewal epoch s
  | .leaseWrite us => Sys2Proof.Machine.execLeaseWrite us s
  | .orphanMark comp bucket => Sys2Proof.Machine.execOrphanMark comp bucket s
  | .orphanClear comp bucket => Sys2Proof.Machine.execOrphanClear comp bucket s
  | .watchdogExpiry k => Sys2Proof.Machine.execWatchdogExpiry k s
  | .stewardRestarted k => Sys2Proof.Machine.execStewardRestarted k s
  | .bid node group ceiling epoch => Sys2Proof.Machine.execBid node group ceiling epoch s
  | .bidTimer => Sys2Proof.Machine.execBidTimer s
  | .leaderEvaluate => Sys2Proof.Machine.execLeaderEvaluate s
  | .tidePrepare group epoch tempo boundary => Sys2Proof.Machine.execTidePrepare group epoch tempo boundary s
  | .ready node group epoch => Sys2Proof.Machine.execReady node group epoch s
  | .tideRefuse node group epoch reason => Sys2Proof.Machine.execTideRefuse node group epoch reason s
  | .tideCommit group epoch tempo boundary => Sys2Proof.Machine.execTideCommit group epoch tempo boundary s
  | .cancel group epoch => Sys2Proof.Machine.execCancel group epoch s
  | .tideDone node group epoch => Sys2Proof.Machine.execTideDone node group epoch s
  | .tideResend node => Sys2Proof.Machine.execTideResend node s
  | .proposalCutoff => Sys2Proof.Machine.execProposalCutoff s
  | .ptpMessage m => Sys2Proof.Machine.execPtpMessage m s
  | .powerEstimate compute memory links tempoFit concFit floor => Sys2Proof.Machine.execPowerEstimate compute memory links tempoFit concFit floor s
  | .powerCalibration answers watts => Sys2Proof.Machine.execPowerCalibration answers watts s
  | .throttleRelease => Sys2Proof.Machine.execThrottleRelease s
  | .powerCapWrite watts => Sys2Proof.Machine.execPowerCapWrite watts s
  | .droop t det mv => Sys2Proof.Machine.execDroop t det mv s
  | .droopClear t => Sys2Proof.Machine.execDroopClear t s
  | .droopLong t => Sys2Proof.Machine.execDroopLong t s
  | .gaugeReading margins temps => Sys2Proof.Machine.execGaugeReading margins temps s
  | .thermalTick tileTemps stackTemps => Sys2Proof.Machine.execThermalTick tileTemps stackTemps s
  | .thermalRecoveryTick tileTemps stackTemps => Sys2Proof.Machine.execThermalRecoveryTick tileTemps stackTemps s
  | .dampIdleExpiry p => Sys2Proof.Machine.execDampIdleExpiry p s
  | .dryIdleExpiry p => Sys2Proof.Machine.execDryIdleExpiry p s
  | .polderWake p => Sys2Proof.Machine.execPolderWake p s
  | .sleepAutomatic p => Sys2Proof.Machine.execSleepAutomatic p s
  | .holdWet p => Sys2Proof.Machine.execHoldWet p s
  | .holdDamp p => Sys2Proof.Machine.execHoldDamp p s
  | .holdDry p => Sys2Proof.Machine.execHoldDry p s
  | .automaticSleepWrite on => Sys2Proof.Machine.execAutomaticSleepWrite on s
  | .nonce nonce => Sys2Proof.Machine.execNonce nonce s
  | .reportStands signature => Sys2Proof.Machine.execReportStands signature s
  | .envelopeWeightKey e => Sys2Proof.Machine.execEnvelopeWeightKey e s
  | .envelopeJobKey e => Sys2Proof.Machine.execEnvelopeJobKey e s
  | .envelopeSessionKeys e => Sys2Proof.Machine.execEnvelopeSessionKeys e s
  | .switchGeneration => Sys2Proof.Machine.execSwitchGeneration s
  | .eraseGeneration0 => Sys2Proof.Machine.execEraseGeneration0 s
  | .eraseGeneration1 => Sys2Proof.Machine.execEraseGeneration1 s
  | .eraseSlot => Sys2Proof.Machine.execEraseSlot s
  | .breach source => Sys2Proof.Machine.execBreach source s
  | .signatureRecheck ok => Sys2Proof.Machine.execSignatureRecheck ok s
  | .entropyFailure => Sys2Proof.Machine.execEntropyFailure s
  | .policyLock => Sys2Proof.Machine.execPolicyLock s
  | .breachLevelWrite source level => Sys2Proof.Machine.execBreachLevelWrite source level s
  | .confidentialStart => Sys2Proof.Machine.execConfidentialStart s
  | .confidentialEnd => Sys2Proof.Machine.execConfidentialEnd s
  | .meteringRecordTimer => Sys2Proof.Machine.execMeteringRecordTimer s
  | .meteringRecord bytes => Sys2Proof.Machine.execMeteringRecord bytes s
  | .counterCheckpoint => Sys2Proof.Machine.execCounterCheckpoint s
  | .crystalCompare ppm => Sys2Proof.Machine.execCrystalCompare ppm s
  | .tenantReading t nonce => Sys2Proof.Machine.execTenantReading t nonce s
  | .logReading count nonce => Sys2Proof.Machine.execLogReading count nonce s
  | .readingStands signature => Sys2Proof.Machine.execReadingStands signature s
  | .imageLoadTidegauge image => Sys2Proof.Machine.execImageLoadTidegauge image s
  | .updatePackage bytes sigOk => Sys2Proof.Machine.execUpdatePackage bytes sigOk s
  | .updateEnableChange on => Sys2Proof.Machine.execUpdateEnableChange on s
  | .logClear first count digest => Sys2Proof.Machine.execLogClear first count digest s
  | .gaugeTimeAdjustment ns => Sys2Proof.Machine.execGaugeTimeAdjustment ns s
  | .tenantRetire t => Sys2Proof.Machine.execTenantRetire t s
  | .islandPowerOn keyOk => Sys2Proof.Machine.execIslandPowerOn keyOk s
  | .powerOn => Sys2Proof.Machine.execPowerOn s
  | .warmReset cause => Sys2Proof.Machine.execWarmReset cause s
  | .warmResetControl => Sys2Proof.Machine.execWarmResetControl s
  | .perst => Sys2Proof.Machine.execPerst s
  | .selfCheckComplete rail => Sys2Proof.Machine.execSelfCheckComplete rail s
  | .identityDerived record sigOk key => Sys2Proof.Machine.execIdentityDerived record sigOk key s
  | .gaugeStartRead margins => Sys2Proof.Machine.execGaugeStartRead margins s
  | .trainingComplete trained => Sys2Proof.Machine.execTrainingComplete trained s
  | .bootDescriptor desc list => Sys2Proof.Machine.execBootDescriptor desc list s
  | .bundleWrite path total => Sys2Proof.Machine.execBundleWrite path total s
  | .bundleReceived b => Sys2Proof.Machine.execBundleReceived b s
  | .stewardReady k => Sys2Proof.Machine.execStewardReady k s
  | .programsLoaded => Sys2Proof.Machine.execProgramsLoaded s
  | .ptpLock port time => Sys2Proof.Machine.execPtpLock port time s
  | .ptpWaitExpiry => Sys2Proof.Machine.execPtpWaitExpiry s
  | .startStepTimeout reason detail => Sys2Proof.Machine.execStartStepTimeout reason detail s
  | .bermControl => Sys2Proof.Machine.execBermControl s
  | .woaRead m => Sys2Proof.Machine.execWoaRead m s
  | .woaWrite m => Sys2Proof.Machine.execWoaWrite m s
  | .segment m => Sys2Proof.Machine.execSegment m s
  | .woaAck m => Sys2Proof.Machine.execWoaAck m s
  | .woaAbort m => Sys2Proof.Machine.execWoaAbort m s
  | .woaRetransmit client xfer => Sys2Proof.Machine.execWoaRetransmit client xfer s
  | .woaIdleTimeout client xfer => Sys2Proof.Machine.execWoaIdleTimeout client xfer s
  | .h2dpost m => Sys2Proof.Machine.execH2dpost m s
  | .d2hlen value => Sys2Proof.Machine.execD2hlen value s
  | .sourceArrival x => Sys2Proof.Machine.execSourceArrival x s
  | .gathererSelect => Sys2Proof.Machine.execGathererSelect s
  | .gclaim k => Sys2Proof.Machine.execGclaim k s
  | .gcomplete k x => Sys2Proof.Machine.execGcomplete k x s
  | .gthresh k value => Sys2Proof.Machine.execGthresh k value s
  | .gpendSet x => Sys2Proof.Machine.execGpendSet x s
  | .gpendClear x => Sys2Proof.Machine.execGpendClear x s
  | .complete pf1 x => Sys2Proof.Machine.execComplete pf1 x s
  | .setpendSet pf1 x => Sys2Proof.Machine.execSetpendSet pf1 x s
  | .setpendClear pf1 x => Sys2Proof.Machine.execSetpendClear pf1 x s
  | .sourceSetPending => Sys2Proof.Machine.execSourceSetPending s
  | .sourceClearPending => Sys2Proof.Machine.execSourceClearPending s
  | .sourceConfiguration value => Sys2Proof.Machine.execSourceConfiguration value s
  | .sqtail r tail => Sys2Proof.Machine.execSqtail r tail s
  | .submissionRead r entry body => Sys2Proof.Machine.execSubmissionRead r entry body s
  | .cqhead r head => Sys2Proof.Machine.execCqhead r head s
  | .ringEnable r sqBase cqBase rcfg => Sys2Proof.Machine.execRingEnable r sqBase cqBase rcfg s
  | .ringDisable r => Sys2Proof.Machine.execRingDisable r s
  | .ringDrained r => Sys2Proof.Machine.execRingDrained r s
  | .coalescingTimeout r => Sys2Proof.Machine.execCoalescingTimeout r s
  | .windowRead off len upset => Sys2Proof.Machine.execWindowRead off len upset s
  | .windowWrite off bytes => Sys2Proof.Machine.execWindowWrite off bytes s
  | .dmaReadFailure d => Sys2Proof.Machine.execDmaReadFailure d s
  | .areaRegister conduit list => Sys2Proof.Machine.execAreaRegister conduit list s
  | .areaRelease conduit => Sys2Proof.Machine.execAreaRelease conduit s
  | .hostLoss => Sys2Proof.Machine.execHostLoss s
  | .pf1Reset => Sys2Proof.Machine.execPf1Reset s
  | .busMasterEnable on => Sys2Proof.Machine.execBusMasterEnable on s
  | .pwrfail => Sys2Proof.Machine.execPwrfail s
  | .pwrfailRecovery => Sys2Proof.Machine.execPwrfailRecovery s
  | .pwrgoodDeassert => Sys2Proof.Machine.execPwrgoodDeassert s
  | .railExcursion rail mv => Sys2Proof.Machine.execRailExcursion rail mv s
  | .thermtrip tileTemps stackTemps => Sys2Proof.Machine.execThermtrip tileTemps stackTemps s
  | .regulatorPoll readings statuses answers => Sys2Proof.Machine.execRegulatorPoll readings statuses answers s
  | .mirrorRetry seq => Sys2Proof.Machine.execMirrorRetry seq s
  | .noAnswerToOpen conduit => Sys2Proof.Machine.execNoAnswerToOpen conduit s
  | .stackInterfaceFailure p => Sys2Proof.Machine.execStackInterfaceFailure p s
  | .managementLinkChange m state => Sys2Proof.Machine.execManagementLinkChange m state s
  | .requestBodyRead tag bytes => Sys2Proof.Machine.execRequestBodyRead tag bytes s
  | .stewardMemoryParityFailure k => Sys2Proof.Machine.execStewardMemoryParityFailure k s
  | .ptpHoldover => Sys2Proof.Machine.execPtpHoldover s
  | .icmpv6Message m solicitation ident => Sys2Proof.Machine.execIcmpv6Message m solicitation ident s
  | .msiXMaskWrite pf1 enable functionMask vector masked => Sys2Proof.Machine.execMsiXMaskWrite pf1 enable functionMask vector masked s
  | .entropyHealthTestPass => Sys2Proof.Machine.execEntropyHealthTestPass s
  | .islandSupplyOutOfRange => Sys2Proof.Machine.execIslandSupplyOutOfRange s
  | .driveInitialisationTimeout d => Sys2Proof.Machine.execDriveInitialisationTimeout d s

end Sys2Proof.Machine
end

