-- ==== Sys2Proof/Safety.lean ====
section
/-! DEFINITION. The terms that the statements use: canonical memory, a command that completes, and the spec's tables of transitions. -/

namespace Sys2Proof.Safety

open Sys2Proof.Machine

/-- Memory is in its canonical form. -/
abbrev MemWf (s : State) : Prop := Memory.wf s.mem

/-- The command completes: it answers a next state, of which `P` holds. -/
def Runs (c : Instr) (s : State) (P : State → Prop) : Prop := ∃ t, exec c s = .next t ∧ P t

/-- An arrival at a source, by the rows of R516's table. A mode that waits for IDLE (R526) is taken from there. -/
def SourceArrives (g g' : GSource) : Prop :=
  (g.active = false → g.pending = false → g' = { g with pending := true, rearm := g.nextMode.getD g.rearm, nextMode := none }) ∧
  (g.active = false → g.pending = true → g.rearm = false → g' = { g with count := min (g.count + 1) 0xFFFF }) ∧
  (g.active = false → g.pending = true → g.rearm = true → g' = g) ∧
  (g.active = true → g.pending = false → g.rearm = false → g' = { g with count := min (g.count + 1) 0xFFFF }) ∧
  (g.active = true → g.pending = false → g.rearm = true → g' = { g with pending := true }) ∧
  (g.active = true → g.pending = true → g' = g)

/-- Software clears pending, by the rows of R516's table. -/
def SourceClears (g g' : GSource) : Prop :=
  (g.active = false → g.pending = true → g' = { g with pending := false, count := 0 }) ∧
  (g.active = true → g.pending = true → g' = { g with pending := false }) ∧
  (g.pending = false → g' = g)

/-- Completion by the route, by the rows of R516's table. -/
def SourceCompletes (g g' : GSource) : Prop :=
  (g.pending = false → g' = { g with active := false, route := none, last := g.count, count := 0, rearm := g.nextMode.getD g.rearm, nextMode := none }) ∧
  (g.pending = true → g' = { g with active := false, route := none })

/-- `y`'s buffers are those of `x` with a run of bytes stored at an address (R76). DEDUCED, log entry 130. -/
def Stored (x y : Polder) (a : Nat) (bs : List Nat) : Prop :=
  y = { x with buf := y.buf } ∧
  ∀ b, Map.getD y.buf b 0 = if a ≤ b ∧ b < a + bs.length then nth bs (b - a) % 256 else Map.getD x.buf b 0

/-- Whether a lane's outputs are suppressed (R56, R62, R138). -/
def quietLane (s : State) (p l : Nat) : Bool :=
  match (s.polder p).laneAt s.time l with
  | some a => a.voided || a.late || a.tainted
  | none => false

/-- A slot runs: its unit can run it (R50), its lane is bound, or 0 where it has no output (R59, R60), and its wait is met, `x` being
its polder once the wait is taken (R51, R52). -/
def SlotRuns (s : State) (p cls op : Nat) (c : Slot) (output : Bool) (x : Polder) : Prop :=
  s.canRun p cls op c = true ∧ (c.lane = 0 → output = false) ∧ (c.lane ≠ 0 → ((s.polder p).laneAt s.time c.lane).isSome = true) ∧
  (s.polder p).takeWait (unitKey cls c.unit) c (s.voided p c) = some x

/-- What follows a slot's operation, `u` being the state it left: its unit goes on to the next slot when the steps are spent, and its
signal is sent (R50, R51, R61). -/
def slotAfter (p cls : Nat) (c : Slot) (steps : Nat) (u : State) : State := (u.leave p cls c.unit c.idx steps).signalEnd p cls c

/-- A slot's operation on its own polder: it left `y` there and nothing else. -/
def SlotDone (s : State) (p cls : Nat) (c : Slot) (steps : Nat) (y : Polder) (t : State) : Prop :=
  t = slotAfter p cls c steps (s.setPolder p y)

/-- The slot that a command executes: its polder, its class, its opcode (R67 to R75), its common fields and whether it is an output slot
(R59). -/
def slotOf : Instr → Option (Nat × Nat × Nat × Slot × Bool)
  | .score p c _ => some (p, 0, 0x00, c, false)
  | .wsum p c _ => some (p, 0, 0x01, c, false)
  | .write p c .. => some (p, 0, 0x02, c, true)
  | .copy p c .. => some (p, 0, 0x03, c, false)
  | .verify p c .. => some (p, 0, 0x04, c, false)
  | .cscatter p c _ => some (p, 1, 0x10, c, false)
  | .cbcast p c _ => some (p, 1, 0x11, c, false)
  | .creduce p c _ => some (p, 1, 0x12, c, false)
  | .cgather p c _ => some (p, 1, 0x13, c, false)
  | .vop p c .. => some (p, 2, 0x20, c, false)
  | .exp p c .. => some (p, 2, 0x21, c, false)
  | .softmax p c .. => some (p, 2, 0x22, c, false)
  | .oacc p c .. => some (p, 2, 0x23, c, false)
  | .merge p c .. => some (p, 2, 0x24, c, false)
  | .cvt p c .. => some (p, 2, 0x25, c, false)
  | .crc64 p c .. => some (p, 2, 0x26, c, false)
  | .msend p c .. => some (p, 2, 0x27, c, true)
  | .admitSlot p c .. => some (p, 2, 0x28, c, false)
  | .done p c .. => some (p, 2, 0x29, c, true)
  | .wload p c .. => some (p, 3, 0x30, c, false)
  | .mm p c .. => some (p, 3, 0x31, c, false)
  | .outf p c .. => some (p, 3, 0x32, c, true)
  | .outr p c .. => some (p, 3, 0x33, c, false)
  | .bsoft p c .. => some (p, 3, 0x34, c, false)
  | .swap p c => some (p, 3, 0x35, c, false)
  | .xblk p c .. => some (p, 4, 0x40, c, false)
  | .xtab p c .. => some (p, 4, 0x41, c, false)
  | .xreq p c .. => some (p, 4, 0x42, c, false)
  | .dcopy p c .. => some (p, 5, 0x50, c, false)
  | .dls p c .. => some (p, 5, 0x51, c, false)
  | .dmesh p c .. => some (p, 5, 0x52, c, true)
  | .dfill p c .. => some (p, 5, 0x53, c, false)
  | .nop p k c => some (p, k, 0x70, c, false)
  | .waitonly p k c => some (p, k, 0x71, c, false)
  | .repeatSlot p k c .. => some (p, k, 0x72, c, false)
  | .endSlot p k c => some (p, k, 0x73, c, false)
  | _ => none

/-- A completion came out last (R15), or waits last for Bus Master Enable (R549): its status, detail and status body, at the present device
time; where it came out on a ring, the write of its entry stands next (R538). -/
def Answered (t : State) (src : Src) (tag gen : Nat) (a : Answer) : Prop :=
  ∃ replyAt data, let o := Out.completion src tag gen a.status.code a.detail a.statusBody t.time replyAt data
    (t.out.head? = some o ∧ ∀ r k c, src = .ring r k c → ∃ addr bytes, t.out[1]? = some (.hostWrite addr bytes)) ∨ t.host.waiting.getLast? = some o

/-- An output came out in a step, among those that the step adds. -/
def Sent (s t : State) (o : Out) : Prop := ∃ l m, t.out = l ++ o :: (m ++ s.out)

/-- Nothing changed but what an answer's way out changes: outputs, counters, the schedulers, rings, the gatherer, the completions kept for
ABORTs (R220), and, where the device answers itself, what receives (R285, R295). -/
def OnlyAnswered (s t : State) : Prop :=
  (∀ n, n ≠ 12 → t.port n = s.port n) ∧
  t = { s with out := t.out, host := { s.host with waiting := t.host.waiting }, regs := t.regs, sched := t.sched, rings := t.rings, gath := t.gath,
               kept := t.kept, contexts := t.contexts, miss := t.miss, ports := t.ports }

/-- A request that held a tag has ended: its one answer is out and its tag is free (R15, R23). -/
def Ended (s t : State) (tag : Nat) (q : Request) (a : Answer) : Prop :=
  Map.find t.reqs tag = none ∧ (∀ k, k ≠ tag → Map.find t.reqs k = Map.find s.reqs k) ∧ Answered t q.src tag q.gen a

/-- The checks that a request command makes (R117, R118, R160, R194, R198, R199): its request, whether it writes, whether it creates, whether
it needs a descriptor, the span it is judged by, and the fields of check 1 with the byte offset and detail of each. -/
def checksOf (s : State) : Instr → Option (Req × Bool × Bool × Bool × Nat × List (Nat × Nat × Bool))
  | .attend r => some (r, decide (r.byte 27 % 4 ≠ 0), false, true, s.rangeSpan r (r.byte 24), s.attendBad r)
  | .append r => some (r, true, false, true, s.rangeSpan r (r.byte 22), s.appendBad r)
  | .prefill r => some (r, true, false, true, s.rangeSpan r (r.byte 22), s.prefillBad r)
  | .swapOut r | .swapIn r | .flush r => some (r, true, false, true, 0, wideBad r 0 [(20, 12)])
  | .pin r | .unpin r => some (r, true, false, true, 0, wideBad r 3 [(24, 8)] ++
      [(20, 1, decide (2 ^ 21 ≤ hdrField r.hdr 20 4)), (20, 0x0E, Map.has s.seqs r.seqId && decide (s.plannedLowest r.seqId < widePos r.hdr))])
  | .fork r | .forkCreate r => some (if bit r.flags 1 then
        (r, true, true, false, 0, wideBad r 3 [(23, 9)] ++
          [(22, 1, decide (8 < hdrField r.hdr 22 1)), (8, 0x0D, Map.has s.seqs r.seqId),
           (20, 0x0F, decide (64 ≤ hdrField r.hdr 20 2) || decide (s.obj (recKey 0x2B80 (hdrField r.hdr 20 2) 9) % 16 = 0))])
      else (r, true, true, true, 0, wideBad r 3 [] ++
        [(20, 1, decide (hdrField r.hdr 26 2 / 16 ≠ 0)), (28, 1, decide (2 ^ 21 ≤ hdrField r.hdr 28 4)),
         (20, 0x0D, Map.has s.seqs (forkChild r.hdr r.seqId)), (20, 0x12, decide (bucketOf (forkChild r.hdr r.seqId) ≠ bucketOf r.seqId)),
         (28, 0x0E, Map.has s.seqs r.seqId && decide (s.plannedLowest r.seqId < forkPos r.hdr))]))
  | .release r | .releaseTruncate r => some (r, true, false, !s.lostSeqs.contains r.seqId, 0, wideBad r 2 (if bit r.flags 1 then [(24, 8)] else [(20, 12)]) ++
      [(20, 1, bit r.flags 1 && decide (2 ^ 21 ≤ hdrField r.hdr 20 4)),
       (20, 0x0E, bit r.flags 1 && Map.has s.seqs r.seqId && decide (s.plannedLowest r.seqId < widePos r.hdr))])
  | .abort r | .abortAll r => some (r, false, false, false, 0, abortBad r)
  | .querySummary r | .queryLayerCounts r | .queryTenantUsage r => some (r, false, false, decide (r.byte 20 ≠ 2), 0, s.queryBad r)
  | _ => none

/-- A request of the fabric or of a ring passes checks 1 to 3 (R117, R118, R316, R359, R370): the device serves, no tombstone
bears its handle, no field fails, it came under its tenant's key slot, the descriptor it needs stands, and nothing turns it away. -/
def Passes (s : State) (r : Req) (write create needs : Bool) (span : Nat) (bad : List (Nat × Nat × Bool)) : Prop :=
  s.start.st = .serving ∧ r.src.isMirror = false ∧ s.tombOf r = none ∧ (∀ b ∈ bad, b.2.2 = false) ∧ r.reserved = false ∧
  (needs = true → Map.has s.seqs r.seqId = true ∧ s.lostSeqs.contains r.seqId = false) ∧
  (s.obj (tenantKey r.tenant 0x14) = 0 ∨ s.obj (tenantKey r.tenant 0x14) = r.src.keySlot) ∧ s.checks23 r write create span = .go

/-- The record of a request that takes a tag (R23, R112). -/
def admitted (s : State) (r : Req) (tag : Nat) (phase : Phase) : Request :=
  { gen := (Map.getD s.gens tag 0 + 1) % 32768, src := r.src, hdr := r.hdr, kind := r.kind, seqId := r.seqId, layer := r.layer,
    order := s.orderCtr + 1, phase := phase, bodyLen := r.bodyLen, body := r.body, replyAt := r.replyAt, entryCtr := r.entryCtr, since := s.time }

/-- A tag is taken for a request (R23, R379): it holds the tag, and a ring's request counts. -/
def taken (s : State) (r : Req) (tag : Nat) (q : Request) : State :=
  { s with gens := Map.put s.gens tag q.gen, orderCtr := s.orderCtr + 1, reqs := Map.put s.reqs tag q,
           regs := match r.src with | .ring .. => (s.bump 0x2F0008).regs | _ => s.regs }

/-- A sequence-wide request comes to its turn at once (R191, R192, R361, R377, R420, R482): it passes, a tag is free, nothing holds
it, its stewards run, its key slot is not exhausted, and the pair does not mirror it. -/
def AtTurn (s : State) (i : Instr) (r : Req) (tag : Nat) : Prop :=
  (∃ write create needs span bad, checksOf s i = some (r, write, create, needs, span, bad) ∧ Passes s r write create needs span bad) ∧
  s.freeTag = some tag ∧ (taken s r tag (admitted s r tag .held)).heldBack (admitted s r tag .held) = false ∧ s.wideHeld r.kind = false ∧
  (∀ d, s.dutyGone d = false) ∧ s.exhausted r.src.keySlot = false ∧ s.mirrored (admitted s r tag .held) = false

/-- A request took a tag and ended at once with one answer: no tag changed hands. -/
def EndedAtOnce (s t : State) (r : Req) (tag : Nat) (a : Answer) : Prop :=
  (∀ k, Map.find t.reqs k = if k = tag then none else Map.find s.reqs k) ∧ Answered t r.src tag ((Map.getD s.gens tag 0 + 1) % 32768) a

/-- No transfer and no rebuild waits for a conduit to a node (R317, R320). -/
def NothingWaits (s : State) (node : Nat) : Prop :=
  s.pair.st ≠ .rebuilding ∧ ∀ r ∈ s.routes, r ≠ .pair → (s.moveOf r).conduit.isSome = true ∨ s.routePeer r ≠ node

/-- A WOA message that S0 takes (R494, R506, R377): the part runs, it passes the checks of receipt, and it is a client's. -/
def WoaTaken (s : State) (m : WoaMsg) : Prop :=
  s.powered = true ∧ m.crcOk = true ∧ m.version = 1 ∧ m.len ≤ (if m.path = 2 then 4060 else 1400) ∧ (m.path = 2 ∨ s.allows m.source = true) ∧
  s.steward 0 ≠ .halted ∧ m.response = false ∧ m.reservedSet = false ∧ m.client ≠ 0

/-- A WOA message that begins a transfer of its own: it names no open one, and no response is kept for it (R495, R500). -/
def WoaBegins (s : State) (m : WoaMsg) : Prop :=
  WoaTaken s m ∧ m.off = 0 ∧ Map.find s.woa.xfers (m.client * 65536 + m.xfer) = none ∧
  ∀ k ∈ s.woa.kept, k.1 = m.client * 65536 + m.xfer → s.time < k.2.2 + 2 * 10 ^ 9 → False

/-- A WOA message of the device, of `n` bytes (R505, R507, R531): it leaves by a management port whose link is not down, stands in the
mailbox, or waits for it. -/
def WoaOut (s t : State) (path : Nat) (o : Out) (n : Nat) : Prop :=
  if path = 2 then (s.woa.d2h = 0 → t.out = o :: s.out ∧ t.woa.d2h = n) ∧ (s.woa.d2h ≠ 0 → t.out = s.out ∧ t.woa.waiting = s.woa.waiting ++ [(o, n)])
  else t.out = if Map.find s.woa.links path = some 0 then s.out else o :: s.out

/-- A WOA message is answered with an ABORT (R503) and has no other effect. -/
def WoaRefused (s t : State) (m : WoaMsg) (code : Nat) : Prop :=
  WoaOut s t m.path (.woa m.path (woaBytes m.client m.xfer 5 0 (m.index * 256 + m.sub) code 0 0 0)) 36 ∧
  t = { s with out := t.out, regs := t.regs, gath := t.gath, woa := { s.woa with d2h := t.woa.d2h, waiting := t.woa.waiting } } ∧
  ∀ k, k ≠ 0x1E0005 → k ≠ 0x1E0007 → t.obj k = s.obj k

/-- The metering records on their way are the next in sequence, and the sequence fits its field, so that the flush meets no detection (R444 to R446). -/
def InStep (s : State) : Prop :=
  s.gauge.st ≠ .running ∨ (s.gauge.lastRec + s.meter.queue.length = s.meter.seq ∧
    s.meter.seq + 6 * (s.meter.sums.length + s.charges.length + s.meter.reported.length) < 2 ^ 64 ∧
    ∀ i m, s.meter.queue[i]? = some m → m.seq = s.gauge.lastRec + i + 1)

/-- A warm reset took effect (R459 to R461): a new start is in ROM with the failed-start records, the berm cause and the reset cause as
given; every other register and record is as after power-on, but for what survives. The first line holds whatever the metering flush
meets. -/
def Restarted (s t : State) (cause berm : Nat) (fails : List (Nat × Nat × Nat)) : Prop :=
  (t.start.st = .rom ∧ t.start.fails = fails ∧ t.start.bermCause = berm ∧ t.start.resetCause = cause ∧ t.reqs = [] ∧ t.seqs = [] ∧ t.mem = [] ∧
    t.frames = [] ∧ t.time = s.time ∧ t.pkg = s.pkg ∧ t.pending = s.pending) ∧
  (InStep s → t.obj 0x210008 = min (s.obj 0x210008 + 1) (2 ^ 32 - 1) ∧
    (∀ k, k ≠ 0x210008 → t.obj k = if k / 256 = 0x2100 ∨ 0x5000 ≤ k / 256 ∨ (s.sec.locked = true ∧ k / 256 = 0x2E20) then s.obj k else objDefault k) ∧
    (s.gauge.st = .running → t.meter.queue = [] ∧ t.gauge.lastRec = t.meter.seq) ∧
    (s.gauge.st ≠ .running → t.meter = s.meter ∧ t.gauge = { s.gauge with st := if s.gauge.st = .readOnly then .running else s.gauge.st }) ∧
    t = { pending := s.pending, freeCtr := t.freeCtr, time := s.time, pkg := s.pkg, regs := t.regs, out := s.out, meter := t.meter, gauge := t.gauge,
          gath := (({} : State).arrive 0).gath,
          start := { fails := fails, bermCause := berm, resetCause := cause, latch := s.start.latch, timeSet := s.start.timeSet, stewards := [(0, .running)], entered := s.time },
          sec := { locked := s.sec.locked, msgId := t.sec.msgId } })

/-- Berm mode was entered (R476, R478): its cause is recorded, only S0 runs, every polder is held dry, and Tidegauge is read-only. -/
def InBerm (s t : State) (cause : Nat) (fails : List (Nat × Nat × Nat)) : Prop :=
  t.start.st = .berm ∧ t.start.bermCause = cause ∧ t.start.fails = fails ∧ t.start.portsUp = false ∧ t.start.latch = s.start.latch ∧
  t.steward 0 = .running ∧ (∀ k, k ≠ 0 → t.steward k = .off) ∧
  (∀ p, p < 8 → (t.polder p).down = true ∧ (t.polder p).sleep = .dry ∧ (t.polder p).prog = (s.polder p).prog) ∧
  t.gauge = { s.gauge with st := if s.gauge.st = .running then .readOnly else s.gauge.st } ∧
  t.pending = s.pending ∧ t.time = s.time ∧ t.pkg = s.pkg ∧ t.meter = s.meter

/-- A start failed at a step (R464, R474 to R476): recorded and counted; the third failure enters berm mode, an earlier one ends in a
warm reset. -/
def StartFails (s t : State) (step reason detail : Nat) : Prop :=
  let fails := (s.start.fails ++ [(reason, step, detail)]).take 3
  (fails.length < 3 → Restarted s t 4 s.start.bermCause fails) ∧ (3 ≤ fails.length → InBerm s t 1 fails)

/-- The start went on to a state (R464), and the start-state source fired (R514). -/
def Entered (s t : State) (st : StartState) : Prop := t.start.st = st ∧ t.source 0 = (s.source 0).arrive ∧ t.pending = s.pending ∧ t.time = s.time

end Sys2Proof.Safety
end

