-- ==== Sys2Proof/Certificates/Slice0/Obligations.lean ====
section
/-! DEFINITION. The statements for the provers. -/

open Sys2Proof Sys2Proof.Machine Sys2Proof.Safety

/-- Every slot takes the course of a slot, and a unit runs the slots of its list in order, a REPEAT's body as often as counted. For every command that executes a slot: where its unit cannot run it (the polder runs no open pass, the unit is at another slot of the image or still spends the steps of the one before), nothing changes; a slot whose lane is not bound takes one step with no operation, no wait and no signal and its unit goes on to the next slot, or is contract fault 09h where an output slot's lane has a wait going on; an output slot in lane 0 is fault 0Bh; and a slot whose wait is not met only begins its wait. A unit can run a slot exactly where its program runs in an open pass with the barrier over, on an awake polder that is up, the unit exists and has not ended, it is at that slot, the steps before are spent, and the image holds the slot's word there. Leaving a slot of n steps puts it at the slot that its REPEATs give and keeps it there until the steps are spent: after a slot that ends no body, the next; at a body's end with runs left, the body's first slot, for two steps; after the last run, where the REPEAT around it says; a body of no run is passed over. Nothing else of the polder but the unit's place among held starts changes. (R38, R41, R50, R51, R59, R61, R78, R83) -/
def Obligations.EverySlotTakesTheCourseOfASlot : Prop :=
  (∀ (s : State) (i : Instr) (p cls op : Nat) (c : Slot) (output : Bool), slotOf i = some (p, cls, op, c, output) →
    let x := s.polder p
    let key := unitKey cls c.unit
    (s.canRun p cls op c = false → Runs i s fun t => t = s) ∧
    (s.canRun p cls op c = true → c.lane ≠ 0 → x.laneAt s.time c.lane = none →
      ((output = false ∨ ∀ w ∈ x.waits, w.2.lane ≠ c.lane) → Runs i s fun t => t = s.leave p cls c.unit c.idx 1) ∧
      (output = true → (∃ w ∈ x.waits, w.2.lane = c.lane) → Runs i s fun t => t = s.contractFault p 9 (slotLoc cls c))) ∧
    (s.canRun p cls op c = true → c.lane = 0 → output = true → Runs i s fun t => t = s.contractFault p 0x0B (slotLoc cls c)) ∧
    (s.canRun p cls op c = true → (c.lane = 0 → output = false) → (c.lane ≠ 0 → (x.laneAt s.time c.lane).isSome = true) →
      x.takeWait key c (s.voided p c) = none → Runs i s fun t => t = s.setPolder p (x.beginWait s.time key c))) ∧
  (∀ (s : State) (p cls op : Nat) (c : Slot),
    let x := s.polder p
    let key := unitKey cls c.unit
    s.canRun p cls op c = true ↔ x.prog = .running ∧ x.down = false ∧ x.sleep = .wet ∧ x.closed = false ∧ c.unit < unitCount cls ∧
      x.ended.contains key = false ∧ Map.getD x.ptr key 0 = c.idx ∧ Map.getD x.until_ key 0 ≤ s.time ∧ x.barrierUntil ≤ s.time ∧
      ∃ im u w, x.image = some im ∧ (im.slots.find? fun u => decide (u.1 = key)) = some u ∧ u.2[c.idx]? = some w ∧ slotField w.word 0 8 = op ∧
        Slot.ofWord c.unit c.idx w.word = c) ∧
  (∀ (stack : List (Nat × Nat × Nat)) (first last left idx : Nat),
    afterSlot [] idx = (idx + 1, [], 0) ∧
    (left ≠ 0 → idx ≠ last → afterSlot ((first, last, left) :: stack) idx = (idx + 1, (first, last, left) :: stack, 0)) ∧
    (2 ≤ left → afterSlot ((first, last, left) :: stack) last = (first, (first, last, left - 1) :: stack, 2)) ∧
    (left ≤ 1 → afterSlot ((first, last, left) :: stack) last = afterSlot stack last) ∧
    afterSlot ((first, last, 0) :: stack) idx = afterSlot stack last) ∧
  (∀ (s : State) (p cls unit idx n : Nat),
    let x := s.polder p
    let key := unitKey cls unit
    let r := afterSlot (Map.getD x.repeats key []) idx
    let y := (s.leave p cls unit idx n).polder p
    Map.getD y.ptr key 0 = r.1 ∧ Map.getD y.repeats key [] = r.2.1 ∧ Map.getD y.steps key 0 = Map.getD x.steps key 0 + (n + r.2.2) ∧
    Map.getD y.until_ key 0 = s.time + (n + r.2.2) * 1000 / s.rate p ∧
    (∀ k, k ≠ key → Map.getD y.ptr k 0 = Map.getD x.ptr k 0 ∧ Map.getD y.repeats k [] = Map.getD x.repeats k [] ∧
      Map.getD y.steps k 0 = Map.getD x.steps k 0 ∧ Map.getD y.until_ k 0 = Map.getD x.until_ k 0) ∧
    y = { x with ptr := y.ptr, repeats := y.repeats, steps := y.steps, until_ := y.until_, heldStarts := if cls = 0 then x.heldStarts.erase unit else x.heldStarts } ∧
    s.leave p cls unit idx n = s.setPolder p y)

/-- A slot's word gives back the fields it was laid out from, and a reserved encoding is one that no operation has. For every opcode, every value of a slot's lane, wait, signal, deadline, format and rounding fields and every value of the other operand bits: the word laid out from them has the opcode in bits [7:0] and zero in [15:13], and reads back, for that unit and slot number, as the same slot where the operation has a format byte, and with those fields zero where it has none. A word is a reserved encoding for a unit of a class exactly where a bit of [15:13] is set, its opcode is no operation of the class and no control slot, or its format byte names codes that its operation does not accept. (R51, R96, R99, R100) -/
def Obligations.SlotWordsReadAsTheyAreWritten : Prop :=
  (∀ (op : BitVec 8) (c : Slot) (rest : BitVec 55),
    let w := slotWord op c rest
    let f := (formatsOf op.toNat).isSome
    slotField w 0 8 = op.toNat ∧ slotField w 13 3 = 0 ∧
    Slot.ofWord c.unit c.idx w = { c with fin := if f then c.fin else 0, fout := if f then c.fout else 0, rz := f && c.rz } ∧
    (f = true → slotField w 124 4 = c.fin.val ∧ slotField w 120 4 = c.fout.val ∧ spells w op.toNat c = true)) ∧
  (∀ (cls : Nat) (w : BitVec 128), slotReserved cls w = true ↔ slotField w 13 3 ≠ 0 ∨
    ¬ ((slotField w 0 8 / 16 = cls ∨ slotField w 0 8 / 16 = 7) ∧ slotField w 0 8 % 16 < opsOf (slotField w 0 8 / 16)) ∨
    ∃ i o, formatsOf (slotField w 0 8) = some (i, o) ∧ (slotField w 124 4 ∉ i ∨ (∃ l, o = some l ∧ slotField w 120 4 ∉ l) ∨
      (o = none ∧ slotField w 120 4 ≠ slotField w 124 4)))

/-- A control slot takes its wait, spends its steps and adds its signal; a gate that would pass 65 535 is fault 02h. NOP, WAITONLY and END whose wait is met run: the waited gate loses the wait count, an internal signalled gate gains the signal count less what it absorbs, the unit goes on after 1 or 4 steps, and END ends the unit's pass; a signal of an external gate has no effect. A signal that would raise its gate above 65 535 is contract fault 02h. A wait is met when its gate holds the count, when its deadline has expired, or in a void lane on an external gate, which then takes what the gate holds and has the gate absorb the rest; otherwise it is not. (R51, R52, R54, R56, R62, R75) -/
def Obligations.WaitsTakeAndSignalsAdd : Prop :=
  (∀ (x : Polder) (key : Nat) (c : Slot) (v : Bool),
    let have_ := Map.getD x.gates c.waitGate 0
    (c.waitCount.val = 0 → x.takeWait key c v = some x) ∧
    (c.waitCount.val ≠ 0 → (∃ w, Map.find x.waits key = some w ∧ w.expired = true ∧ w.idx = c.idx) →
      x.takeWait key c v = some { x with waits := Map.del x.waits key }) ∧
    (c.waitCount.val ≠ 0 → (∀ w, Map.find x.waits key = some w → w.expired = false ∨ w.idx ≠ c.idx) →
      (c.waitCount.val ≤ have_ → ∃ y, x.takeWait key c v = some y ∧ Map.getD y.gates c.waitGate 0 = have_ - c.waitCount.val ∧
        (∀ g, g ≠ c.waitGate.val → Map.getD y.gates g 0 = Map.getD x.gates g 0) ∧ y = { x with gates := y.gates, waits := Map.del x.waits key }) ∧
      (have_ < c.waitCount.val → v = true → x.external c.waitGate = true → ∃ y, x.takeWait key c v = some y ∧ Map.getD y.gates c.waitGate 0 = 0 ∧
        Map.getD y.absorb c.waitGate 0 = Map.getD x.absorb c.waitGate 0 + (c.waitCount.val - have_) ∧
        (∀ g, g ≠ c.waitGate.val → Map.getD y.gates g 0 = Map.getD x.gates g 0 ∧ Map.getD y.absorb g 0 = Map.getD x.absorb g 0) ∧
        y = { x with gates := y.gates, absorb := y.absorb, waits := Map.del x.waits key }) ∧
      (have_ < c.waitCount.val → v = false ∨ x.external c.waitGate = false → x.takeWait key c v = none))) ∧
  (∀ (s : State) (p : Pol) (cls : Fin 6) (c : Slot) (x : Polder) (i : Instr) (n op : Nat) (ended : List Nat),
    (i = .nop p cls c ∧ op = 0x70 ∧ n = 1 ∧ ended = x.ended ∨ i = .waitonly p cls c ∧ op = 0x71 ∧ n = 1 ∧ ended = x.ended ∨
      i = .endSlot p cls c ∧ op = 0x73 ∧ n = 4 ∧ ended = insertNat x.ended (unitKey cls c.unit)) →
    SlotRuns s p cls op c false x →
    let left := Map.getD x.absorb c.sigGate 0 - c.sigCount.val
    let total := Map.getD x.gates c.sigGate 0 + (c.sigCount.val - Map.getD x.absorb c.sigGate 0)
    let u := (s.setPolder p { x with ended := ended }).leave p cls c.unit c.idx n
    (c.sigCount.val = 0 ∨ x.external c.sigGate = true → Runs i s fun t => t = u) ∧
    (c.sigCount.val ≠ 0 → x.external c.sigGate = false → total ≤ 65535 → Runs i s fun t =>
      let z := t.polder p
      Map.getD z.gates c.sigGate 0 = total ∧ Map.getD z.absorb c.sigGate 0 = left ∧
      (∀ g, g ≠ c.sigGate.val → Map.getD z.gates g 0 = Map.getD x.gates g 0 ∧ Map.getD z.absorb g 0 = Map.getD x.absorb g 0) ∧
      z = { u.polder p with gates := z.gates, absorb := z.absorb } ∧ t = s.setPolder p z) ∧
    (c.sigCount.val ≠ 0 → x.external c.sigGate = false → 65535 < total → Runs i s fun t => t = u.contractFault p 2 (slotLoc cls c)))

/-- A REPEAT puts its unit inside its body for the count given, within the bound that the header declares for it. A REPEAT that runs takes its count from the immediate or from its lane's ring entry; within the bound that the image declares for that REPEAT, with a body of 1 to 255 slots and at most one REPEAT around it, it puts its unit inside the body for that many runs, two steps for the first; above the bound it is contract fault 06h. A third level or a body outside 1 to 255 slots is fault 06h too, the model's choice (log entry 33). (R61, R78, R83, R121) -/
def Obligations.RepeatRunsItsBodyAndIsBounded : Prop :=
  ∀ (s : State) (p : Pol) (cls : Fin 6) (c : Slot) (len count : Nat) (fromEntry : Bool) (x : Polder) (im : Image) (n bound : Nat),
    SlotRuns s p cls 0x72 c false x → x.image = some im →
    (fromEntry = false ∧ n = count ∨ fromEntry = true ∧ ∃ a, (s.polder p).laneAt s.time c.lane = some a ∧
      (count = 32 ∧ n = a.entry.pageCount ∨ count = 36 ∧ n = a.entry.lastValid ∨ count = 30 ∧ n = a.entry.chunkCount)) →
    let key := unitKey cls c.unit
    let inside := Map.getD x.repeats key []
    (im.repeatBounds.find? fun b => decide (b.1 = key) && decide (b.2.1 = c.idx)) = some (key, c.idx, bound) →
    (n ≤ bound → 1 ≤ len → len ≤ 255 → inside.length < 2 → Runs (.repeatSlot p cls c len count fromEntry) s fun t =>
      SlotDone s p cls c (if n = 0 then 0 else 2) { x with repeats := Map.put x.repeats key ((c.idx + 1, c.idx + len, n) :: inside) } t) ∧
    (bound < n ∨ len = 0 ∨ 255 < len ∨ 2 ≤ inside.length → Runs (.repeatSlot p cls c len count fromEntry) s fun t =>
      t = (s.setPolder p x).contractFault p 6 (slotLoc cls c))

/-- SCORE and WSUM put their trees of products in the unit's buffer, a failing read taints the lane instead, and held starts keep their order. A SCORE or WSUM that runs below the declared concurrency, with its operands in the unit's row and buffers, makes its unit compute for one step per 16 bytes. Where every sector reads as written and the frame is not lost, the unit's score buffer (value accumulator) holds, for each query head and each token (channel), the pairwise tree of the products of BF16 query (probability) and key (value) elements in the slot's page format; otherwise its buffers stay and the lane is tainted. A start at the declared concurrency is fault 05h, an operand out of range 01h, more than 32 query heads 07h. Where a lower ceiling holds the start, or another was held before it, the unit takes its place behind the held starts and nothing else changes. (R43, R65, R67, R68, R78, R103, R126, R127, R138, R347, R350) -/
def Obligations.ScoresAndValueSums : Prop :=
  ∀ (s : State) (p : Pol) (c : Slot) (o : BankOp) (x : Polder) (i : Instr) (op dst : Nat) (fits : Bool) (result : List Nat → List Nat),
    (i = .score p c o ∧ op = 0x00 ∧ dst = scoreBuf c.unit ∧ fits = decide (o.heads * o.g * o.c * 2 ≤ 4096) ∧
      (∀ bs, result bs = scoresOf c.fin o (x.load (queryBuf c.unit o.half) (o.heads * o.g * o.c * 2)) bs) ∨
     i = .wsum p c o ∧ op = 0x01 ∧ dst = sumBuf c.unit ∧ fits = decide (o.heads * o.g * o.c * 4 ≤ 4096) ∧
      (∀ bs, result bs = sumsOf c.fin o (x.load (probBuf c.unit o.half) (o.heads * o.g * 64 * 2)) bs)) →
    SlotRuns s p 0 op c false x →
    let a := bankAddr p c.unit o.row o.off
    let n := ceilDiv o.bytes 16
    let v := (s.setPolder p { x with computing := Map.put x.computing c.unit (s.time + n * 1000 / s.rate p) })
    let k := s.concurrency p
    let held := (s.polder p).heldStarts
    let waits := (k.2 < k.1 ∧ k.2 ≤ (s.polder p).busy s.time) ∨ (held ≠ [] ∧ held.head? ≠ some c.unit)
    (waits → Runs i s fun t => (c.unit ∈ held → t = s) ∧ (c.unit ∉ held → t = s.setPolder p { s.polder p with heldStarts := held ++ [c.unit] })) ∧
    (¬ waits → 32 < o.heads * o.g → Runs i s fun t => t = (s.setPolder p x).contractFault p 7 (slotLoc 0 c)) ∧
    (¬ waits → o.heads * o.g ≤ 32 → (inRow o.row o.off o.bytes = false ∨ fits = false) → Runs i s fun t => t = (s.setPolder p x).contractFault p 1 (slotLoc 0 c)) ∧
    (¬ waits → o.heads * o.g ≤ 32 → inRow o.row o.off o.bytes = true → fits = true → k.1 ≤ x.busy s.time →
      Runs i s fun t => t = (s.setPolder p x).contractFault p 5 (slotLoc 0 c)) ∧
    (¬ waits → o.heads * o.g ≤ 32 → inRow o.row o.off o.bytes = true → fits = true → x.busy s.time < k.1 → Runs i s fun t =>
      (s.lostFrame (frameOf a) = false → s.readOk a o.bytes o.upset = true → ∃ y,
        Stored { x with computing := Map.put x.computing c.unit (s.time + n * 1000 / s.rate p) } y dst (wordBytes (result (Memory.bytes s.mem a o.bytes))) ∧
        t = slotAfter p 0 c n ((v.besideLadder (frameOf a) (s.laneSeq p c.lane) false).setPolder p y)) ∧
      (s.lostFrame (frameOf a) = true → t = slotAfter p 0 c n (v.taint p c.lane [frameOf a] 0)) ∧
      (s.lostFrame (frameOf a) = false → s.readOk a o.bytes o.upset = false →
        t = slotAfter p 0 c n ((v.checkFailed (frameOf a) (s.laneSeq p c.lane) false).taint p c.lane [frameOf a] 0)))

/-- WRITE, COPY and VERIFY move bytes with fresh check words, or check them. A WRITE stores its staged bytes at its place and a COPY the source's bytes at its destination, every byte of memory elsewhere staying, and every sector touched has the check word of its bytes; in a void, LATE or tainted lane they store nothing. A WRITE whose sectors no longer bear the words that came with them taints its lane with detail 03h. VERIFY changes no byte: where the sectors read as written nothing but a SUSPECT frame's ladder moves, and a failure goes to the ladder. Ranges out of a row are fault 01h; more than a WRITE's 2 048, a COPY's 12 544 or a VERIFY's 16 384 bytes are fault 07h. (R65, R67, R78, R138, R167, R345, R346, R347) -/
def Obligations.BankWritesCopiesAndVerifies : Prop :=
  (∀ (s : State) (p : Pol) (c : Slot) (x : Polder) (i : Instr) (op dst steps : Nat) (bs : List Nat) (write bad : Bool),
    (∃ row off bytes upset, i = .write p c row off bytes upset ∧ write = true ∧ op = 0x02 ∧ inRow row off bytes = true ∧ bytes ≤ 2048 ∧
      dst = bankAddr p c.unit row off ∧ steps = ceilDiv bytes 16 + 2 ∧ bs = x.load (writeBuf c.unit) bytes ∧ bad = (upset || !x.wordsOk c.unit bytes)) ∨
    (∃ row off row' off' bytes, i = .copy p c row off row' off' bytes ∧ write = false ∧ op = 0x03 ∧ bad = false ∧ inRow row off bytes = true ∧
      inRow row' off' bytes = true ∧ bytes ≤ 12544 ∧ dst = bankAddr p c.unit row' off' ∧ steps = 2 * ceilDiv bytes 16 ∧
      bs = Memory.bytes s.mem (bankAddr p c.unit row off) bytes) →
    SlotRuns s p 0 op c write x →
    (quietLane s p c.lane = true → Runs i s fun t => SlotDone s p 0 c steps x t) ∧
    (quietLane s p c.lane = false → ∃ u,
      (∀ a, Memory.read u.mem a = if dst ≤ a ∧ a < dst + bs.length then BitVec.ofNat 8 (nth bs (a - dst)) else Memory.read s.mem a) ∧
      (∀ sec, Map.find u.sideband sec = if sec ∈ sectorsOf dst bs.length then some (wordOf u.mem sec) else Map.find s.sideband sec) ∧
      u = { s.setPolder p x with mem := u.mem, sideband := u.sideband } ∧
      (write = false → Runs i s fun t => t = slotAfter p 0 c steps u) ∧
      (write = true → bad = true → Runs i s fun t => t = slotAfter p 0 c steps (u.taint p c.lane [] 3)) ∧
      (write = true → bad = false → Runs i s fun t => ∃ a,
        x.laneAt s.time c.lane = some a ∧ t = slotAfter p 0 c steps (u.setPolder p { x with lanes := Map.put x.lanes c.lane { a with wrote := true } })))) ∧
  (∀ (s : State) (p : Pol) (c : Slot) (row off bytes : Nat) (upset : Bool) (x : Polder), SlotRuns s p 0 0x04 c false x → inRow row off bytes = true →
    bytes ≤ 16384 → Runs (.verify p c row off bytes upset) s fun t =>
      let f := frameOf (bankAddr p c.unit row off)
      let ok := s.readOk (bankAddr p c.unit row off) bytes upset
      (s.lostFrame f = true → SlotDone s p 0 c (ceilDiv bytes 16) x t) ∧
      (s.lostFrame f = false → t = slotAfter p 0 c (ceilDiv bytes 16)
        (if ok then (s.setPolder p x).besideLadder f (s.laneSeq p c.lane) false else (s.setPolder p x).checkFailed f (s.laneSeq p c.lane) false))) ∧
  (∀ (s : State) (p : Pol) (c : Slot) (x : Polder) (row off row' off' bytes : Nat) (upset : Bool),
    (SlotRuns s p 0 0x02 c true x → 2048 < bytes → Runs (.write p c row off bytes upset) s fun t => t = (s.setPolder p x).contractFault p 7 (slotLoc 0 c)) ∧
    (SlotRuns s p 0 0x02 c true x → bytes ≤ 2048 → inRow row off bytes = false → Runs (.write p c row off bytes upset) s fun t =>
      t = (s.setPolder p x).contractFault p 1 (slotLoc 0 c)) ∧
    (SlotRuns s p 0 0x04 c false x → 16384 < bytes → Runs (.verify p c row off bytes upset) s fun t => t = (s.setPolder p x).contractFault p 7 (slotLoc 0 c)) ∧
    (SlotRuns s p 0 0x04 c false x → bytes ≤ 16384 → inRow row off bytes = false → Runs (.verify p c row off bytes upset) s fun t =>
      t = (s.setPolder p x).contractFault p 1 (slotLoc 0 c)) ∧
    (SlotRuns s p 0 0x03 c false x → 12544 < bytes → Runs (.copy p c row off row' off' bytes) s fun t => t = (s.setPolder p x).contractFault p 7 (slotLoc 0 c)) ∧
    (SlotRuns s p 0 0x03 c false x → bytes ≤ 12544 → inRow row off bytes = false ∨ inRow row' off' bytes = false →
      Runs (.copy p c row off row' off' bytes) s fun t => t = (s.setPolder p x).contractFault p 1 (slotLoc 0 c)))

/-- A sequence core's vector operations write the function of what they read, and only that. VOP, EXP, SOFTMAX, OACC and MERGE that run, with every run of bytes in a declared region of the core's local store and their operands within limits, write to their destination runs the element-wise operation, the exponential, the online softmax step, o times alpha plus w, or the merge of the partials, all of what stood before; every other byte stays, and the steps are those of R70. The first step of a head starts from m minus infinity, l 0 and o 0, and at the last page of its lane's group positions from the last-valid count on read as minus infinity. An INT32 result that does not fit is a free value. A MERGE whose partial fails its CRC-64 counts it and has its lane report CHECK_FAIL. A run outside every region is fault 01h, and a MERGE of fewer than 2 or more than 64 partials 07h. (R70, R78, R96, R103, R108, R109, R110, R129, R130, R134) -/
def Obligations.VectorOperationsWriteTheirResults : Prop :=
  ∀ (s : State) (p : Pol) (c : Slot) (x : Polder),
    let at_ (off : Nat) := lsAddr c.unit off
    let W (off n : Nat) := x.words (at_ off) n
    let within (runs : List (Nat × Nat)) : Bool := runs.all fun r => x.inLocal c.unit r.1 r.2
    (∀ k n a b d dst, SlotRuns s p 2 0x20 c false x →
      within ([(a, 4 * n), (b, if k = .scale then 4 else 4 * n), (dst, 4 * n)] ++ if k = .fma then [(d, 4 * n)] else []) = true →
      Runs (.vop p c k n a b d dst) s fun t => ∃ y out, Stored x y (at_ dst) (wordBytes out) ∧ out.length = n ∧
        (∀ i, i < n → let b' := nth (W b n) (if k = .scale then 0 else i)
          let d' := if k = .fma then nth (W d n) i else 0
          let r := vopInt k (ofInt32 (nth (W a n) i)) (ofInt32 b') (ofInt32 d')
          (c.fin ≠ 14 → nth out i = vopF32 k (nth (W a n) i) b' d') ∧
          (c.fin = 14 → (-(2 ^ 31 : Int) ≤ r ∧ r < 2 ^ 31) → nth out i = (BitVec.ofInt 32 r).toNat) ∧
          (c.fin = 14 → ¬ (-(2 ^ 31 : Int) ≤ r ∧ r < 2 ^ 31) → nth out i = ((Config.freeValue (s.freeCtr + i)).setWidth 32).toNat)) ∧
        t = slotAfter p 2 c (ceilDiv n 64 + 4) { s.setPolder p y with freeCtr := s.freeCtr + if c.fin = 14 then n else 0 }) ∧
    (∀ n src dst, SlotRuns s p 2 0x21 c false x → within [(src, 4 * n), (dst, 4 * n)] = true → Runs (.exp p c n src dst) s fun t => ∃ y,
      Stored x y (at_ dst) (wordBytes ((W src n).map fexp)) ∧ SlotDone s p 2 c (ceilDiv n 32 + 6) y t) ∧
    (∀ n o d w al first, SlotRuns s p 2 0x23 c false x → 1 ≤ d → within [(o, 4 * n), (w, 4 * n), (al, 4 * ceilDiv n d)] = true →
      Runs (.oacc p c n d o w al first) s fun t => ∃ y,
      Stored x y (at_ o) (wordBytes ((List.range n).map fun i =>
        fadd (fmul (if first then 0 else nth (W o n) i) (nth (W al (ceilDiv n d)) (i / d))) (nth (W w n) i))) ∧
      SlotDone s p 2 c (ceilDiv n 64 + 4) y t) ∧
    (∀ d parts dst, SlotRuns s p 2 0x24 c false x →
      within ((dst, 4 * (d + 2)) :: parts.map fun a => (a.1, if a.2 then 4 * (d + 2) + 8 else 4 * (d + 2))) = true →
      parts.length * (4 * (d + 2)) ≤ 262144 →
      let bad := ∃ a ∈ parts, a.2 = true ∧ leNat (x.load (at_ (a.1 + 4 * (d + 2))) 8) ≠ crc64 (x.load (at_ a.1) (4 * (d + 2)))
      let u := s.setPolder p x
      (2 ≤ parts.length → parts.length ≤ 64 → Runs (.merge p c d parts dst) s fun t => ∃ y v,
        (bad → v = u.partialFailed p c) ∧ (¬ bad → v = u) ∧
        Stored (v.polder p) y (at_ dst) (wordBytes (mergeAll d (parts.map fun a => W a.1 (d + 2)))) ∧
        t = slotAfter p 2 c (parts.length * (ceilDiv d 64 + 6)) (v.setPolder p y)) ∧
      (parts.length < 2 ∨ 64 < parts.length → Runs (.merge p c d parts dst) s fun t => t = (s.setPolder p x).contractFault p 7 (slotLoc 2 c))) ∧
    (∀ n heads scores st probs al scale page first valid, SlotRuns s p 2 0x22 c false x → 1 ≤ heads → heads ≤ 32 →
      within [(scores, 4 * n), (st, 8 * heads), (probs, 4 * n), (al, 4 * heads)] = true →
      (∀ a, x.laneAt s.time c.lane = some a → valid = if a.entry.lastHere = true ∧ page + 1 = a.entry.pageCount then a.entry.lastValid else 64) →
      (x.laneAt s.time c.lane = none → valid = 64) →
      Runs (.softmax p c n heads scores st probs al scale page first) s fun t => ∃ y₁ y₂ y,
        let row (h : Nat) := (List.range (n / heads)).map fun k => if k < valid then fmul (nth (W scores n) (h * (n / heads) + k)) scale.toNat else negInf
        let r (h : Nat) := softStep bf16Round (if first then negInf else nth (W st (2 * heads)) (2 * h))
          (if first then 0 else nth (W st (2 * heads)) (2 * h + 1)) (row h)
        Stored x y₁ (at_ st) (wordBytes ((List.range heads).flatMap fun h => [(r h).1, (r h).2.1])) ∧
        Stored y₁ y₂ (at_ al) (wordBytes ((List.range heads).map fun h => (r h).2.2.1)) ∧
        Stored y₂ y (at_ probs) (wordBytes ((List.range heads).flatMap fun h => (r h).2.2.2)) ∧ SlotDone s p 2 c (ceilDiv n 32 + 8) y t) ∧
    (∀ n src dst, SlotRuns s p 2 0x21 c false x → within [(src, 4 * n), (dst, 4 * n)] = false → Runs (.exp p c n src dst) s fun t =>
      t = (s.setPolder p x).contractFault p 1 (slotLoc 2 c)) ∧
    (∀ k n a b d dst, SlotRuns s p 2 0x20 c false x → within [(a, 4 * n), (dst, 4 * n)] = false → Runs (.vop p c k n a b d dst) s fun t =>
      t = (s.setPolder p x).contractFault p 1 (slotLoc 2 c))

/-- CVT, CRC64 and MSEND complete: the converted elements, the check word and the mesh message. A CVT that runs stores the elements of its source encoded in the target format, and counts and raises its exceptions; a CRC64 stores the eight bytes of the check word; each faults 07h above 261 888. An MSEND stores its bytes in the target polder's reservoir and fills the outbound queue, or only runs where its lane is suppressed; above 65 536 bytes it is fault 07h, out of range 01h, and where the queue would overfill 08h. (R62, R65, R70, R76, R78, R105, R107, R132) -/
def Obligations.ConversionsChecksAndMeshMessages : Prop :=
  ∀ (s : State) (p : Pol) (c : Slot) (x : Polder),
    (∀ o : CvtOp, SlotRuns s p 2 0x25 c false x → x.inLocal c.unit o.src (fmtBytes c.fin o.n) = true →
      x.inLocal c.unit o.dst (fmtBytes c.fout o.n) = true →
      let r := encodeVec c.fout o.c c.rz (decodeVec c.fin o.n o.c (x.load (lsAddr c.unit o.src) (fmtBytes c.fin o.n)))
      (o.n ≤ 261888 → Runs (.cvt p c o) s fun t => ∃ y, Stored x y (lsAddr c.unit o.dst) r.1 ∧
        (r.2 = 0 → SlotDone s p 2 c (ceilDiv o.n 64 + 4) y t) ∧
        (r.2 ≠ 0 → t = slotAfter p 2 c (ceilDiv o.n 64 + 4) (((s.setPolder p y).bumpBy (recKey 0x2C00 p 7) r.2).arrive (polderSource p 6)))) ∧
      (261888 < o.n → Runs (.cvt p c o) s fun t => t = (s.setPolder p x).contractFault p 7 (slotLoc 2 c))) ∧
    (∀ bytes src dst, SlotRuns s p 2 0x26 c false x → x.inLocal c.unit src bytes = true → x.inLocal c.unit dst 8 = true →
      (bytes ≤ 261888 → Runs (.crc64 p c bytes src dst) s fun t => ∃ y,
        Stored x y (lsAddr c.unit dst) (leBytes 8 (crc64 (x.load (lsAddr c.unit src) bytes))) ∧ SlotDone s p 2 c (ceilDiv bytes 64 + 4) y t) ∧
      (261888 < bytes → Runs (.crc64 p c bytes src dst) s fun t => t = (s.setPolder p x).contractFault p 7 (slotLoc 2 c))) ∧
    (∀ bytes src (d : Pol) off, SlotRuns s p 2 0x27 c true x →
      (65536 < bytes → Runs (.msend p c bytes src d off) s fun t => t = (s.setPolder p x).contractFault p 7 (slotLoc 2 c)) ∧
      (bytes ≤ 65536 → x.inLocal c.unit src bytes = false ∨ reservoirBytes < off + bytes → Runs (.msend p c bytes src d off) s fun t =>
        t = (s.setPolder p x).contractFault p 1 (slotLoc 2 c)) ∧
      (bytes ≤ 65536 → x.inLocal c.unit src bytes = true → off + bytes ≤ reservoirBytes →
        (quietLane s p c.lane = true → Runs (.msend p c bytes src d off) s fun t => SlotDone s p 2 c (ceilDiv bytes 256 + 4) x t) ∧
        (quietLane s p c.lane = false → 262144 < x.outq + bytes → Runs (.msend p c bytes src d off) s fun t =>
          t = (s.setPolder p x).contractFault p 8 (slotLoc 2 c)) ∧
        (quietLane s p c.lane = false → x.outq + bytes ≤ 262144 → Runs (.msend p c bytes src d off) s fun t =>
          let u := s.setPolder p { x with outq := x.outq + bytes }
          ∃ y, Stored (u.polder d) y off (x.load (lsAddr c.unit src) bytes) ∧ t = slotAfter p 2 c (ceilDiv bytes 256 + 4) (u.setPolder d y))))

/-- The culvert operations move bytes between the tap and the units of their span. CSCATTER deals the tap's bytes over the units of the span, run by run, into query staging or into the write staging that WRITE reads, which then bears no check word, CBCAST gives every unit all of them in probability staging; CREDUCE leaves at the tap, word by word, the FP32 sum of the units' scores added from the unit farthest from the tap toward it; CGATHER leaves there the bytes of the units' value sums, dealt likewise. They take one step per 256 bytes and one per further unit; more than 131 072 bytes is fault 07h; a span off the chain, a run out of range or more than a unit's buffer holds 01h. (R65, R67, R69, R78, R103, R128) -/
def Obligations.CulvertsDealBroadcastAddAndGather : Prop :=
  ∀ (s : State) (p : Pol) (c : Slot) (o : CulvertOp) (x : Polder),
    let tap := lsAddr o.core o.at_
    let unit (k : Nat) := c.unit * 32 + o.first + k
    let fit := o.bytes ≤ 131072 ∧ 1 ≤ o.span ∧ o.first + o.span ≤ 32 ∧ o.core < 150 ∧ x.inLocal o.core o.at_ o.bytes = true
    let run := if o.chan = 0 then ceilDiv o.bytes o.span else o.chan
    let share := ceilDiv o.bytes (o.span * run) * run
    let place (j : Nat) := unit (j / run % o.span)
    let off (j : Nat) := j / (run * o.span) * run + j % run
    let bs := x.load tap o.bytes
    let steps := ceilDiv o.bytes 256 + (o.span - 1)
    (SlotRuns s p 1 0x10 c false x → fit → share ≤ (if o.toWrite then 2048 else 4096) → Runs (.cscatter p c o) s fun t => ∃ y,
      let addr (j : Nat) := (if o.toWrite then writeBuf (place j) else queryBuf (place j) o.half) + off j
      (∀ j, j < o.bytes → Map.getD y.buf (addr j) 0 = nth bs j % 256) ∧
      (∀ b, (∀ j, j < o.bytes → b ≠ addr j) → Map.getD y.buf b 0 = Map.getD x.buf b 0) ∧
      (o.toWrite = false → ∀ k, Map.find y.carried k = Map.find x.carried k) ∧
      (o.toWrite = true → ∀ k, Map.find y.carried k = if unit 0 ≤ k / 32 ∧ k / 32 < unit o.span then none else Map.find x.carried k) ∧
      y = { x with buf := y.buf, carried := y.carried } ∧ SlotDone s p 1 c steps y t) ∧
    (SlotRuns s p 1 0x11 c false x → fit → o.bytes ≤ 4096 → Runs (.cbcast p c o) s fun t => ∃ ys : Nat → Polder, ys 0 = x ∧
      (∀ k, k < o.span → Stored (ys k) (ys (k + 1)) (probBuf (unit k) o.half) bs) ∧ SlotDone s p 1 c steps (ys o.span) t) ∧
    (SlotRuns s p 1 0x12 c false x → fit → o.bytes ≤ 8192 → Runs (.creduce p c o) s fun t => ∃ y,
      Stored x y tap (wordBytes ((List.range (o.bytes / 4)).map fun k =>
        (List.range (o.span - 1)).foldl (fun a j => fadd a (x.word (scoreBuf (unit (o.span - 2 - j)) + 4 * k))) (x.word (scoreBuf (unit (o.span - 1)) + 4 * k)))) ∧
      SlotDone s p 1 c steps y t) ∧
    (SlotRuns s p 1 0x13 c false x → fit → share ≤ 4096 → Runs (.cgather p c o) s fun t => ∃ y,
      Stored x y tap ((List.range o.bytes).map fun j => Map.getD x.buf (sumBuf (place j) + off j) 0) ∧ SlotDone s p 1 c steps y t) ∧
    (∀ i op n, (i = .cscatter p c o ∧ op = 0x10 ∧ n = (if share ≤ (if o.toWrite then 2048 else 4096) then 0 else 1) ∨
        i = .cbcast p c o ∧ op = 0x11 ∧ n = (if o.bytes ≤ 4096 then 0 else 1) ∨ i = .creduce p c o ∧ op = 0x12 ∧ n = (if o.bytes ≤ 8192 then 0 else 1) ∨
        i = .cgather p c o ∧ op = 0x13 ∧ n = (if share ≤ 4096 then 0 else 1)) → SlotRuns s p 1 op c false x →
      (131072 < o.bytes → Runs i s fun t => t = (s.setPolder p x).contractFault p 7 (slotLoc 1 c)) ∧
      (o.bytes ≤ 131072 → o.span = 0 ∨ 32 < o.first + o.span ∨ 150 ≤ o.core ∨ x.inLocal o.core o.at_ o.bytes = false ∨ n = 1 →
        Runs i s fun t => t = (s.setPolder p x).contractFault p 1 (slotLoc 1 c)))

/-- WLOAD, SWAP and MM work on the tile registers and the accumulator. A WLOAD that runs fills the idle tile register from the reservoir and gives it the slot's format, in steps by the port's share; a SWAP exchanges active and idle; an MM leaves in each of its rows' accumulator words the pairwise tree of the products of the row's inputs, in the slot's format, and the active tile's column, in the tile's own, added to the word that stood there where the slot says so, at the rate of the wider of the two. A WLOAD above 131 072 bytes or an MM of more than 1 024 rows is fault 07h; a region that the array does not own is 01h. (R65, R71, R74, R76, R78, R98, R103, R146, R147) -/
def Obligations.ArraysLoadMultiplyAndSwap : Prop :=
  ∀ (s : State) (p : Pol) (c : Slot) (x : Polder),
    let act := Map.getD x.active c.unit 0 % 2
    let idle := 1 - act
    let fw := Map.getD x.tileFmt (c.unit * 2 + act % 2) 0
    let fa := c.fin.val
    (SlotRuns s p 3 0x35 c false x → Runs (.swap p c) s fun t => SlotDone s p 3 c 1 { x with active := Map.put x.active c.unit idle } t) ∧
    (∀ bytes src, SlotRuns s p 3 0x30 c false x → bytes ≤ 131072 → x.owns (unitKey 3 c.unit) src bytes = true → Runs (.wload p c bytes src) s fun t => ∃ y,
      Stored { x with tileFmt := Map.put x.tileFmt (c.unit * 2 + idle % 2) fa } y (tileBuf c.unit idle) (x.load src bytes) ∧
      SlotDone s p 3 c (ceilDiv bytes (256 * x.share (c.unit % 2))) y t) ∧
    (∀ bytes src, SlotRuns s p 3 0x30 c false x → 131072 < bytes → Runs (.wload p c bytes src) s fun t => t = (s.setPolder p x).contractFault p 7 (slotLoc 3 c)) ∧
    (∀ bytes src, SlotRuns s p 3 0x30 c false x → bytes ≤ 131072 → x.owns (unitKey 3 c.unit) src bytes = false → Runs (.wload p c bytes src) s fun t =>
      t = (s.setPolder p x).contractFault p 1 (slotLoc 3 c)) ∧
    (∀ r src acc ins cols add, SlotRuns s p 3 0x31 c false x → r ≤ 1024 → acc + r ≤ 1024 → ins ≤ 256 → cols ≤ 256 →
      x.owns (unitKey 3 c.unit) src (r * fmtBytes fa ins) = true →
      Runs (.mm p c r src acc ins cols add) s fun t => ∃ ys : Nat → Polder, ys 0 = x ∧
        (∀ i, i < r → Stored (ys i) (ys (i + 1)) (accBuf c.unit + (acc + i) * 1024) (wordBytes ((List.range cols).map fun j =>
          let v := productTree ((List.range ins).map fun k =>
            ((decodeVec fa ins 8 (x.load (src + i * fmtBytes fa ins) (fmtBytes fa ins))).getD k .nan).mul
              ((decodeVec fw cols 8 (x.load (tileBuf c.unit act + k * fmtBytes fw cols) (fmtBytes fw cols))).getD j .nan))
          if add then fadd (x.word (accBuf c.unit + (acc + i) * 1024 + 4 * j)) v else v))) ∧
        SlotDone s p 3 c (mmSteps r fa fw) (ys r) t) ∧
    (∀ r src acc ins cols add, SlotRuns s p 3 0x31 c false x → 1024 < r → Runs (.mm p c r src acc ins cols add) s fun t =>
      t = (s.setPolder p x).contractFault p 7 (slotLoc 3 c))

/-- OUTF and OUTR put the accumulator out in a format, and BSOFT takes one block's online step. An OUTR that runs stores the accumulator's elements, encoded in the slot's output format under its rounding mode, in its reservoir region; an OUTF in the write staging of consecutive bank units, 2 048 bytes to each, every 64-byte sector with its CRC-32C, or nowhere in a suppressed lane; both count and raise the conversion's exceptions. A BSOFT leaves for each of 256 rows the masked online softmax step: the row's new maximum and sum, its probabilities in the idle tile register, which takes their format, and the output column times alpha; a sweep's first block starts from m minus infinity, l 0 and o 0. Ranges beyond a buffer are fault 01h, an OUTF of more than 1 046 528 bytes 07h. (R62, R65, R71, R76, R78, R96, R100, R107, R108, R167, R173) -/
def Obligations.ArraysPutOutAndSoften : Prop :=
  ∀ (s : State) (p : Pol) (c : Slot) (x : Polder),
    let fmt := c.fout.val
    (∀ bytes off cols dst, SlotRuns s p 3 0x33 c false x → bytes ≤ 4092 * 256 * x.share (c.unit % 2) → outFits bytes off cols fmt = true →
      x.owns (unitKey 3 c.unit) dst bytes = true → Runs (.outr p c bytes off cols dst) s fun t => ∃ y,
        let r := outBytes x c.unit bytes off cols fmt c.rz
        Stored x y dst r.1 ∧ t = slotAfter p 3 c (ceilDiv bytes (256 * x.share (c.unit % 2)) + 4) ((s.setPolder p y).exceptions p r.2)) ∧
    (∀ bytes off cols (d : Pol) unit, SlotRuns s p 3 0x32 c true x → bytes ≤ 1046528 → outFits bytes off cols fmt = true → unit + ceilDiv bytes 2048 ≤ 1024 →
      (quietLane s p c.lane = true → Runs (.outf p c bytes off cols d unit) s fun t => SlotDone s p 3 c (ceilDiv bytes 256 + 8) x t) ∧
      (quietLane s p c.lane = false → Runs (.outf p c bytes off cols d unit) s fun t => ∃ y,
        let r := outBytes x c.unit bytes off cols fmt c.rz
        let u := s.setPolder p x
        (r.1.length ≤ bytes → ∀ j, j < r.1.length → Map.getD y.buf (writeBuf (unit + j / 2048) + j % 2048) 0 = nth r.1 j % 256) ∧
        (∀ k, k < ceilDiv r.1.length 64 → Map.find y.carried ((unit + k / 32) * 32 + k % 32) = some (crc32c ((r.1.drop (64 * k)).take 64))) ∧
        (∀ k, k < unit * 32 ∨ unit * 32 + ceilDiv r.1.length 64 ≤ k → Map.find y.carried k = Map.find (u.polder d).carried k) ∧
        y = { u.polder d with buf := y.buf, carried := y.carried } ∧
        t = slotAfter p 3 c (ceilDiv bytes 256 + 8) ((u.setPolder d y).exceptions p r.2))) ∧
    (∀ bytes off cols (d : Pol) unit, SlotRuns s p 3 0x32 c true x → 1046528 < bytes →
      Runs (.outf p c bytes off cols d unit) s fun t => t = (s.setPolder p x).contractFault p 7 (slotLoc 3 c)) ∧
    (∀ scores st out d scale base pos bf first, SlotRuns s p 3 0x34 c false x → scores + 262144 ≤ 2 ^ 20 → st + 2048 ≤ 2 ^ 20 → out + d * 1024 ≤ 2 ^ 20 →
      Runs (.bsoft p c scores st out d scale base pos bf first) s fun t => ∃ y,
        let idle := 1 - Map.getD x.active c.unit 0 % 2
        y = { x with buf := y.buf, tileFmt := Map.put x.tileFmt (c.unit * 2 + idle % 2) (if bf then 1 else 3) } ∧ SlotDone s p 3 c 256 y t ∧
        (scores + 262144 ≤ st → st + 2048 ≤ out → ∀ j, j < 256 →
          let row := (List.range 256).map fun k => if base + k > nth pos j then negInf else fmul (x.word (accBuf c.unit + scores + j * 1024 + 4 * k)) scale.toNat
          let r := softStep (probRound bf c.rz) (if first then negInf else x.word (accBuf c.unit + st + 8 * j))
            (if first then 0 else x.word (accBuf c.unit + st + 8 * j + 4)) row
          y.word (accBuf c.unit + st + 8 * j) = r.1 % 2 ^ 32 ∧ y.word (accBuf c.unit + st + 8 * j + 4) = r.2.1 % 2 ^ 32 ∧
          ∀ i, i < d → y.word (accBuf c.unit + out + i * 1024 + 4 * j) =
            fmul (if first then 0 else x.word (accBuf c.unit + out + i * 1024 + 4 * j)) r.2.2.1 % 2 ^ 32)) ∧
    (∀ scores st out d scale base pos bf first, SlotRuns s p 3 0x34 c false x → 2 ^ 20 < scores + 262144 ∨ 2 ^ 20 < st + 2048 ∨ 2 ^ 20 < out + d * 1024 →
      Runs (.bsoft p c scores st out d scale base pos bf first) s fun t => t = (s.setPolder p x).contractFault p 1 (slotLoc 3 c))

/-- XBLK, XTAB, XREQ and DFILL fill the queue, load a table and decode blocks. XREQ and DFILL that run put their blocks, an XREQ's of the bytes it names, at the queue's end, a DFILL only what read as written; an XREQ's bytes are work of its tier's resource in class 2; one that would overfill the 2 097 152 bytes is fault 08h. XTAB loads one 160-byte table. XBLK takes its blocks off the queue's head and stores what each decodes to one after another, a malformed block giving no output while the next stands where it would have stood, a tile register taking the first block's format, and being counted, raised and tainting its lane; more than 102 blocks is fault 07h, a target not owned 01h. (R65, R72, R78, R248, R251, R252, R253, R347) -/
def Obligations.TheExpanderDecodesItsQueue : Prop :=
  ∀ (s : State) (p : Pol) (c : Slot) (x : Polder),
    ((∀ bytes blocks d, SlotRuns s p 4 0x42 c false x → bytes ≤ 2097152 → queueBytes x.xq + bytes ≤ 2097152 → queueBytes blocks = bytes → Runs (.xreq p c bytes blocks d) s fun t => ∃ u,
        u.polder p = { x with xq := x.xq ++ blocks } ∧ u.obj 0x2A0007 = max (s.obj 0x2A0007) (queueBytes (x.xq ++ blocks)) ∧
        u = { s.setPolder p (u.polder p) with regs := u.regs, sched := (s.work (match d with | some d => 13 + d.val / 2 | none => 12) 2 bytes).sched } ∧
        t = slotAfter p 4 c 4 u) ∧
      (∀ bytes blocks d, SlotRuns s p 4 0x42 c false x → bytes ≤ 2097152 → 2097152 < queueBytes x.xq + bytes → Runs (.xreq p c bytes blocks d) s fun t => t = (s.setPolder p x).contractFault p 8 (slotLoc 4 c)) ∧
      (∀ bytes blocks d, SlotRuns s p 4 0x42 c false x → 2097152 < bytes → Runs (.xreq p c bytes blocks d) s fun t => t = (s.setPolder p x).contractFault p 7 (slotLoc 4 c)) ∧
      (∀ src slot, SlotRuns s p 4 0x41 c false x → x.owns (unitKey 4 c.unit) src 160 = true → Runs (.xtab p c src slot) s fun t =>
        SlotDone s p 4 c 64 { x with xtab := Map.put x.xtab slot (leNat (x.load src 160)) } t) ∧
      (∀ src slot, SlotRuns s p 4 0x41 c false x → x.owns (unitKey 4 c.unit) src 160 = false → Runs (.xtab p c src slot) s fun t => t = (s.setPolder p x).contractFault p 1 (slotLoc 4 c)) ∧
      (∀ m dst, SlotRuns s p 4 0x40 c false x → m ≤ 102 →
        let sizes := (x.xq.take m).map fun b => leNat ((b.drop 4).take 2)
        (∀ a, x.xblkTarget dst sizes.sum = some a → Runs (.xblk p c m dst) s fun t => ∃ us : Nat → State,
          us 0 = s.setPolder p { x with xq := x.xq.drop m, tileFmt := (if dst < 2 ^ 31 then x.tileFmt else
            Map.put x.tileFmt ((dst - 2 ^ 31) % 2 * 2 + (1 - Map.getD x.active ((dst - 2 ^ 31) % 2) 0 % 2) % 2) (nth ((x.xq.take m).headD []) 2 % 16)) } ∧
          (∀ k b, (x.xq.take m)[k]? = some b →
            (∀ out, decodeBlock x.xtab b = some out → ∃ y, Stored ((us k).polder p) y (a + (sizes.take k).sum) out ∧ us (k + 1) = (us k).setPolder p y) ∧
            (decodeBlock x.xtab b = none → us (k + 1) = (us k).malformedBlock p c.lane)) ∧
          t = slotAfter p 4 c ((((s.polder p).xq.take m).map blockSteps).sum) (us (x.xq.take m).length)) ∧
        (x.xblkTarget dst sizes.sum = none → Runs (.xblk p c m dst) s fun t => t = (s.setPolder p x).contractFault p 1 (slotLoc 4 c))) ∧
      (∀ m dst, SlotRuns s p 4 0x40 c false x → 102 < m → Runs (.xblk p c m dst) s fun t => t = (s.setPolder p x).contractFault p 7 (slotLoc 4 c))) ∧
    (∀ bytes row unit off upset, SlotRuns s p 5 0x53 c false x → bytes ≤ 4177920 → inStack p (bankAddr p unit row off) bytes = true →
      let a := bankAddr p unit row off
      (2097152 < queueBytes x.xq + bytes → Runs (.dfill p c bytes row unit off upset) s fun t => t = (s.setPolder p x).contractFault p 8 (slotLoc 5 c)) ∧
      (queueBytes x.xq + bytes ≤ 2097152 → s.lostFrame (frameOf a) = false → s.readOk a bytes upset = true → Runs (.dfill p c bytes row unit off upset) s fun t =>
        ∃ u, u.polder p = { x with xq := x.xq ++ splitBlocks (bytes + 1) (Memory.bytes s.mem a bytes) } ∧ u.mem = s.mem ∧
          u.obj 0x2A0007 = max (s.obj 0x2A0007) (queueBytes (u.polder p).xq) ∧ t = slotAfter p 5 c (ceilDiv bytes 1024 + 16) u))

/-- DCOPY, DLS and DMESH move bytes between HBM, reservoirs and local stores. A DCOPY to HBM stores the region's bytes with fresh check words, and nothing in a suppressed lane; one from HBM stores what read as written, and otherwise taints its lane and stores nothing. DLS moves bytes between the reservoir and a core's local store, turned 64 tokens by channels where it says so. DMESH stores the region's bytes in another polder's reservoir and fills the outbound queue, 512 bytes at once and the rest as fast as the port drains it, faulting 08h where that would overfill, and only runs in a suppressed lane. (R62, R65, R73, R78, R138, R171, R346, R347) -/
def Obligations.TheDmaEngineMovesBytes : Prop :=
  ∀ (s : State) (p : Pol) (c : Slot) (x : Polder),
    (∀ bytes row unit off res toHbm upset, SlotRuns s p 5 0x50 c false x → bytes ≤ 4177920 → inStack p (bankAddr p unit row off) bytes = true →
      x.owns (unitKey 5 c.unit) res bytes = true →
      let a := bankAddr p unit row off
      let n := ceilDiv bytes 1024 + 16
      let i := Instr.dcopy p c bytes row unit off res toHbm upset
      (toHbm = true → quietLane s p c.lane = true → Runs i s fun t => SlotDone s p 5 c n x t) ∧
      (toHbm = true → quietLane s p c.lane = false → Runs i s fun t => ∃ u,
        (∀ b, Memory.read u.mem b = if a ≤ b ∧ b < a + bytes then BitVec.ofNat 8 (nth (x.load res bytes) (b - a)) else Memory.read s.mem b) ∧
        (∀ sec, Map.find u.sideband sec = if sec ∈ sectorsOf a bytes then some (wordOf u.mem sec) else Map.find s.sideband sec) ∧
        u = { s.setPolder p x with mem := u.mem, sideband := u.sideband } ∧ t = slotAfter p 5 c n u) ∧
      (toHbm = false → s.lostFrame (frameOf a) = false → s.readOk a bytes upset = true → Runs i s fun t => ∃ y,
        Stored x y res (Memory.bytes s.mem a bytes) ∧
        t = slotAfter p 5 c n (((s.setPolder p x).besideLadder (frameOf a) (s.laneSeq p c.lane) false).setPolder p y)) ∧
      (toHbm = false → s.lostFrame (frameOf a) = true → Runs i s fun t => t = slotAfter p 5 c n ((s.setPolder p x).taint p c.lane [frameOf a] 0)) ∧
      (toHbm = false → s.lostFrame (frameOf a) = false → s.readOk a bytes upset = false → Runs i s fun t =>
        t = slotAfter p 5 c n (((s.setPolder p x).checkFailed (frameOf a) (s.laneSeq p c.lane) false).taint p c.lane [frameOf a] 0))) ∧
    (∀ bytes res core at_ toCore turn, SlotRuns s p 5 0x51 c false x → bytes ≤ 4088 * 256 * x.share 3 → x.owns (unitKey 5 c.unit) res bytes = true →
      x.inLocal core at_ bytes = true → Runs (.dls p c bytes res core at_ toCore turn) s fun t => ∃ y bs,
        (turn = 0 → bs = x.load (if toCore then res else lsAddr core at_) bytes) ∧
        (turn ≠ 0 → bytes = 64 * turn → bs.length = bytes ∧ ∀ ch tok, ch < turn → tok < 64 →
          nth bs (ch * 64 + tok) = nth (x.load (if toCore then res else lsAddr core at_) bytes) (tok * turn + ch)) ∧
        Stored x y (if toCore then lsAddr core at_ else res) bs ∧ SlotDone s p 5 c (ceilDiv bytes (256 * x.share 3) + 8) y t) ∧
    (∀ bytes res (d : Pol) off, SlotRuns s p 5 0x52 c true x → bytes ≤ 2093056 → x.owns (unitKey 5 c.unit) res bytes = true → off + bytes ≤ reservoirBytes →
      (quietLane s p c.lane = true → Runs (.dmesh p c bytes res d off) s fun t => SlotDone s p 5 c (ceilDiv bytes 512 + 8) x t) ∧
      (quietLane s p c.lane = false → 262144 < x.outq + min bytes 512 → Runs (.dmesh p c bytes res d off) s fun t => t = (s.setPolder p x).contractFault p 8 (slotLoc 5 c)) ∧
      (quietLane s p c.lane = false → x.outq + min bytes 512 ≤ 262144 → Runs (.dmesh p c bytes res d off) s fun t =>
        let u := s.setPolder p { x with outq := x.outq + min bytes 512, meshIn := x.meshIn + (bytes - min bytes 512) }
        ∃ y, Stored (u.polder d) y off (x.load res bytes) ∧ t = slotAfter p 5 c (ceilDiv bytes 512 + 8) (u.setPolder d y)))

/-- An ADMIT binds waiting entries to free lanes with what is delivered for them, and a DONE reports its lane once. An ADMIT of the admitting core that runs over free lanes binds the first entries of its ring, at most its count and its range, to its lanes in order, each with the regions that the image declares for the lane, takes them off the ring and puts their 128 bytes in the local store, in 8 steps and 4 for each entry it may bind; where the image declares regions, their page lists, query vectors and bodies are delivered there in order; over a bound lane it is fault 0Ah; with more than 31 entries 07h; on another core or an empty ring it binds none in 8 steps. A DONE that runs marks its lane reported and free once its six steps have run, and gives its request the report, and its result bytes where the lane answers for its group; a report of CHECK_FAIL 01h or 04h is counted in 2C00h.06 or .05, and 04h raises its source; a second is fault 0Ch. (R31, R32, R58, R60, R62, R63, R83, R123, R125, R137) -/
def Obligations.AdmitBindsAndDoneReports : Prop :=
  (∀ (s : State) (p : Pol) (c : Slot) (ring : Fin 16) (first count n dst : Nat) (x : Polder), SlotRuns s p 2 0x28 c false x →
    let waiting := if x.admits c.unit then Map.getD x.rings ring [] else []
    let i := Instr.admitSlot p c ring first count n dst
    (31 < n → Runs i s fun t => t = (s.setPolder p x).contractFault p 7 (slotLoc 2 c)) ∧
    (x.inLocal c.unit dst (128 * n) = true → 1 ≤ first → first + count ≤ 32 → n ≤ 31 →
      ((∃ l, first ≤ l ∧ l < first + count ∧ (x.laneAt s.time l).isSome = true) → Runs i s fun t => t = (s.setPolder p x).contractFault p 0x0A (slotLoc 2 c)) ∧
      ((∀ l, first ≤ l → l < first + count → x.laneAt s.time l = none) → Runs i s fun t => ∃ (y : Polder) (us : Nat → State) (es : List RingEntry),
        es.length = min (min n count) waiting.length ∧
        (∀ k e, waiting[k]? = some e → k < es.length → es[k]? = some { e with at_ := (x.laneIn (first + k)).getD {} }) ∧
        (∀ k e, es[k]? = some e → Map.find y.lanes (first + k) = some { entry := e }) ∧
        (∀ l, l < first ∨ first + es.length ≤ l → Map.find y.lanes l = Map.find x.lanes l) ∧
        Map.getD y.rings ring [] = (if x.admits c.unit then waiting.drop es.length else []) ∧ (∀ r, r ≠ ring.val → Map.getD y.rings r [] = Map.getD x.rings r []) ∧
        (∀ b, Map.getD y.buf b 0 = if lsAddr c.unit dst ≤ b ∧ b < lsAddr c.unit dst + 128 * es.length then
          nth (es.flatMap entryBytes) (b - lsAddr c.unit dst) % 256 else Map.getD x.buf b 0) ∧
        y = { x with lanes := y.lanes, rings := y.rings, buf := y.buf } ∧
        us 0 = s.setPolder p y ∧ (∀ k e, es[k]? = some e → us (k + 1) = if (x.laneIn (first + k)).isSome then
          (((us k).arrivesAt p e.at_.pages (e.frames.flatMap (leBytes 4))).arrivesAt p e.at_.query e.query).arrivesAt p e.at_.body e.body else us k) ∧
        t = slotAfter p 2 c (if waiting = [] then 8 else 8 + 4 * n) (us es.length)))) ∧
  (∀ (s : State) (p : Pol) (c : Slot) (status detail at_ bytes : Nat) (x : Polder) (a : Lane), SlotRuns s p 2 0x29 c true x → x.laneAt s.time c.lane = some a →
    (a.reported = true → Runs (.done p c status detail at_ bytes) s fun t => t = (s.setPolder p x).contractFault p 0x0C (slotLoc 2 c)) ∧
    (a.reported = false → bytes ≠ 0 → x.inLocal c.unit at_ bytes = false → Runs (.done p c status detail at_ bytes) s fun t =>
      t = (s.setPolder p x).contractFault p 1 (slotLoc 2 c)) ∧
    (a.reported = false → bytes = 0 ∨ x.inLocal c.unit at_ bytes = true → Runs (.done p c status detail at_ bytes) s fun t =>
      t = slotAfter p 2 c 6 ((s.setPolder p { x with lanes := Map.put x.lanes c.lane { a with reported := true, freeAt := s.time + 6000 / s.rate p } }).laneReport p a status detail
        (x.load (lsAddr c.unit at_) bytes)))) ∧
  (∀ (s : State) (p : Nat) (a : Lane) (status detail : Nat) (bytes : List Nat),
    let u := if status = 0x0B ∧ detail = 1 then s.bump (recKey 0x2C00 p 6) else if status = 0x0B ∧ detail = 4 then (s.bump (recKey 0x2C00 p 5)).arrive (polderSource p 5) else s
    (a.voided = true ∨ Map.find s.reqs a.entry.tag = none → s.laneReport p a status detail bytes = s) ∧
    (∀ q, Map.find s.reqs a.entry.tag = some q → a.voided = false → q.phase = .running → q.gen = a.entry.gen → a.wrote = false →
      (a.late = true → s.laneReport p a status detail bytes =
        (s.setReq a.entry.tag { q with outstanding := q.outstanding - 1, reports := (1, p) :: q.reports }).settle a.entry.tag) ∧
      (a.late = false → a.tainted = true → a.checkDetail = 0 → s.laneReport p a status detail bytes =
        (s.setReq a.entry.tag { q with outstanding := q.outstanding - 1, tainted := a.frames.foldl insertNat q.tainted }).settle a.entry.tag) ∧
      (a.late = false → a.tainted = false → bytes = [] ∨ a.entry.answers = false → s.laneReport p a status detail bytes =
        (u.setReq a.entry.tag { q with outstanding := q.outstanding - 1, reports := (status, detail) :: q.reports }).settle a.entry.tag) ∧
      (a.late = false → a.tainted = false → bytes ≠ [] → a.entry.answers = true → s.laneReport p a status detail bytes =
        (u.setReq a.entry.tag { q with outstanding := q.outstanding - 1, reports := (status, detail) :: q.reports, results := Map.put q.results (a.entry.group * 8 + p) (Map.getD q.results (a.entry.group * 8 + p) [] ++ bytes) }).settle a.entry.tag)))

/-- A contract fault stops its polder, is recorded once, counts, and ends the requests bound there. A wait on an internal gate that outlasts the stall limit, and an external signal that would pass 65 535, are contract faults: a RUNNING polder goes STOPPING, records code, location and time unless a fault is recorded, and counts; its unclaimed requests bound to lanes there, void lanes apart, no longer hold their tags, and every other polder keeps its program state. A signal that would overflow in a STOPPING polder counts one more fault and no more. Neither event does anything to a polder that is EMPTY, LOADED or STOPPED. (R54, R57, R80, R81, R83, R84, R376) -/
def Obligations.AContractFaultStopsItsPolderOnce : Prop :=
  ∀ (s : State) (p : Pol) (i : Instr) (code loc : Nat),
    let x := s.polder p
    ((∃ cls c w, i = .stallLimitExpiry p cls c ∧ Map.find x.waits (unitKey cls c.unit) = some w ∧ w.idx = c.idx ∧ x.external w.gate = false ∧
        code = 4 ∧ loc = slotLoc cls c) ∨
     (∃ g n e, i = .externalGateSignal p g n e ∧ x.awaits g e = true ∧ 65535 < Map.getD x.gates g 0 + (n - Map.getD x.absorb g 0) ∧ code = 2 ∧ loc = g)) →
    (x.prog = .running → Runs i s fun t =>
      (t.polder p).prog = .stopping ∧ (t.polder p).faultCount = min (x.faultCount + 1) (2 ^ 32 - 1) ∧ (t.polder p).recorded = true ∧
      (x.recorded = false → (t.polder p).faultCode = code ∧ (t.polder p).faultLoc = loc ∧ (t.polder p).faultTime = s.time) ∧
      (x.recorded = true → (t.polder p).faultCode = x.faultCode ∧ (t.polder p).faultLoc = x.faultLoc ∧ (t.polder p).faultTime = x.faultTime) ∧
      (∀ l a q, x.laneAt s.time l = some a → a.voided = false → Map.find s.reqs a.entry.tag = some q → q.gen = a.entry.gen → q.claimed = false →
        Map.find t.reqs a.entry.tag = none) ∧
      (∀ k, k ≠ p.val → (t.polder k).prog = (s.polder k).prog ∧ (t.polder k).faultCount = (s.polder k).faultCount)) ∧
    (x.prog ≠ .running → x.prog ≠ .stopping → Runs i s fun t => t = s) ∧
    (x.prog = .stopping → (∃ g n e, i = .externalGateSignal p g n e) → Runs i s fun t =>
      t = s.setPolder p { x with faultCount := min (x.faultCount + 1) (2 ^ 32 - 1) })

/-- An external signal reaches its gate, and an expired deadline meets its wait and makes its lanes LATE. EXTERNAL_GATE_SIGNAL, on an event that the header names for an external gate of a program that runs or stops, completes: it adds to the gate's count less what the gate absorbs; on any other event or gate it changes nothing. DEADLINE_EXPIRY of a wait that has lasted its deadline on an external gate completes: it meets the wait, takes what the gate held, has the gate absorb the rest and marks LATE the slot's lane, or every bound lane where the slot is in lane 0; where there is no such wait, no deadline, or it has not passed, nothing changes. (R52, R54, R55, R56, R62, R84) -/
def Obligations.ExternalSignalsAndDeadlines : Prop :=
  (∀ (s : State) (p : Pol) (g : Fin 4096) (n : Nat) (e : GateEvent),
    let x := s.polder p
    let a := Map.getD x.absorb g 0
    (x.prog = .running ∨ x.prog = .stopping → (∃ im b, x.image = some im ∧ b ∈ im.gates ∧ b.1 = g.val ∧ e ∈ b.2) → Map.getD x.gates g 0 + (n - a) ≤ 65535 →
      Runs (.externalGateSignal p g n e) s fun t =>
      let y := t.polder p
      Map.getD y.gates g 0 = Map.getD x.gates g 0 + (n - a) ∧ Map.getD y.absorb g 0 = a - n ∧
      (∀ k, k ≠ g.val → Map.getD y.gates k 0 = Map.getD x.gates k 0 ∧ Map.getD y.absorb k 0 = Map.getD x.absorb k 0) ∧
      t = s.setPolder p { x with gates := y.gates, absorb := y.absorb }) ∧
    ((x.prog ≠ .running ∧ x.prog ≠ .stopping) ∨ x.awaits g e = false → Runs (.externalGateSignal p g n e) s fun t => t = s)) ∧
  (∀ (s : State) (p : Pol) (cls : Fin 6) (c : Slot),
    let x := s.polder p
    let key := unitKey cls c.unit
    (∀ w, Map.find x.waits key = some w → w.idx = c.idx → w.expired = false → w.deadline ≠ 0 → x.external w.gate = true → x.prog = .running →
      w.began + x.deadlineNs w.deadline ≤ s.time →
      Runs (.deadlineExpiry p cls c) s fun t =>
        let y := t.polder p
        let have_ := Map.getD x.gates w.gate 0
        Map.find y.waits key = some { w with expired := true } ∧ Map.getD y.gates w.gate 0 = have_ - w.count ∧
        Map.getD y.absorb w.gate 0 = Map.getD x.absorb w.gate 0 + (w.count - have_) ∧
        (∀ l a, x.laneAt s.time l = some a → (w.lane = 0 ∨ w.lane = l) → ∃ b, Map.find y.lanes l = some b ∧ b.late = true ∧ b.entry = a.entry) ∧
        (∀ l a, w.lane ≠ 0 → w.lane ≠ l → Map.find x.lanes l = some a → ∃ b, Map.find y.lanes l = some b ∧ b.late = a.late ∧ b.entry = a.entry) ∧
        y.prog = x.prog ∧ t.mem = s.mem ∧ t.frames = s.frames) ∧
    ((Map.find x.waits key = none ∨ (∀ w, Map.find x.waits key = some w → w.deadline = 0 ∨ s.time < w.began + x.deadlineNs w.deadline) ∨ x.prog ≠ .running) →
      Runs (.deadlineExpiry p cls c) s fun t => t = s))

/-- PASS_CLOSE, POLDER_STOPPED and TIDE_BOUNDARY move a polder's program by the table. PASS_CLOSE of a running program whose every unit has ended: a gate above zero is contract fault 03h at the lowest such gate, a bound lane 0Dh at the lowest; with both checks passed and nothing pending every unit starts again at slot 0 with every gate zero once the 16 steps of the barrier are over; with an image or a quiesce pending the polder idles, and the quiesce marked by then is the one that the boundary applies. A polder that does not run, or has a unit to end, keeps its state. POLDER_STOPPED takes a STOPPING polder to STOPPED without gates or lanes. At a tide boundary a LOADED, awake polder under no hold starts, an idling one installs its pending image and goes on, or goes LOADED under its quiesce. (R49, R50, R52, R60, R78, R84, R382, R401, R408, R409) -/
def Obligations.PassesCloseAndProgramsChangeState : Prop :=
  (∀ (s : State) (p : Pol) (im : Image),
    let x := s.polder p
    x.image = some im → x.damping = false → x.drying = false →
    let done := ∀ u ∈ im.slots, u.2 ≠ [] → x.ended.contains u.1 = true
    let zero := ∀ g ∈ x.gates, g.2 = 0
    let free := ∀ l ∈ Map.keys x.lanes, x.laneAt s.time l = none
    let fresh (b : Nat) : Polder := { x with gates := [], absorb := [], waits := [], ended := [], repeats := [], computing := [], ptr := [], until_ := [], heldStarts := [], barrierUntil := b, closed := false }
    ((x.prog ≠ .running ∨ x.closed = true ∨ ¬ done) → Runs (.passClose p) s fun t => t = s) ∧
    (x.prog = .running → x.closed = false → done →
      (∀ g n, Map.find x.gates g = some n → 0 < n → (∀ h ∈ x.gates, 0 < h.2 → g ≤ h.1) → free → Map.wf x.gates → Runs (.passClose p) s fun t => t = s.contractFault p 3 g) ∧
      (zero → ∀ l, (x.laneAt s.time l).isSome = true → (∀ k, (x.laneAt s.time k).isSome = true → l ≤ k) → Map.wf x.lanes →
        Runs (.passClose p) s fun t => t = s.contractFault p 0x0D l) ∧
      (zero → free → (x.pendingImage = none ∧ x.quiesceCtl = false ∧ x.quiesceSleep = false → Runs (.passClose p) s fun t =>
          t = s.setPolder p (fresh (s.time + 16000 / s.rate p))) ∧
        (x.pendingImage ≠ none ∨ x.quiesceCtl = true ∨ x.quiesceSleep = true → Runs (.passClose p) s fun t =>
          t = s.setPolder p { fresh 0 with closed := true, closeCtl := x.quiesceCtl, closeSleep := x.quiesceSleep, quiesceCtl := false, quiesceSleep := false })))) ∧
  (∀ (s : State) (p : Pol),
    let x := s.polder p
    (x.prog = .stopping → x.damping = false → x.drying = false → Runs (.polderStopped p) s fun t =>
      (t.polder p).prog = .stopped ∧ (t.polder p).gates = [] ∧ (t.polder p).lanes = [] ∧ (t.polder p).image = x.image ∧
      t = { s with polders := t.polders, gath := t.gath } ∧ ∀ k, k ≠ p.val → t.polder k = s.polder k) ∧
    (x.prog ≠ .stopping → Runs (.polderStopped p) s fun t => t = s)) ∧
  (∀ (s : State) (p : Pol),
    let x := s.polder p
    x.damping = false → x.drying = false → Runs .tideBoundary s fun t =>
      (x.prog = .loaded → x.sleep = .wet → x.hold = false → x.down = false → (t.polder p).prog = .running ∧ (t.polder p).gates = [] ∧ (t.polder p).lanes = [] ∧ (t.polder p).ptr = [] ∧
        s.time ≤ (t.polder p).barrierUntil) ∧
      (x.prog = .loaded → (x.sleep ≠ .wet ∨ x.hold = true ∨ x.down = true) → (t.polder p).prog = .loaded) ∧
      (x.prog = .running → x.closed = true → (t.polder p).image = x.pendingImage.or x.image ∧ (t.polder p).pendingImage = none ∧
        (x.closeCtl = false → x.closeSleep = false → (t.polder p).prog = .running ∧ (t.polder p).closed = false ∧ (t.polder p).quiesceCtl = x.quiesceCtl) ∧
        (x.closeCtl = true → (t.polder p).prog = .loaded ∧ (t.polder p).hold = true)) ∧
      (x.prog = .empty ∨ x.prog = .stopping ∨ x.prog = .stopped → (t.polder p).prog = x.prog) ∧
      (∀ d, s.tempo.commit = some d → d.boundary ≤ s.time → t.tempo.cur = d.tempo ∧ t.tempo.epoch = d.epoch ∧ t.tempo.commit = none ∧ t.power.absorb = none) ∧
      (s.tempo.commit = none → t.tempo = s.tempo) ∧ t.mem = s.mem ∧ t.seqs = s.seqs ∧ t.reqs = s.reqs)

/-- An image loads by the table after the loader's checks, and the controls quiesce, clear and resume. IMAGE_LOAD completes. An image that fails a check records the first refusal reason in the order of R48 and keeps the current image; one that passes (edition 3, slot lists within their memories, regions and rotation in order, deadlines on external gates only, no reserved encoding or format that an operation does not accept, no operand beyond R65's limit) is held by an EMPTY or LOADED polder, which is then LOADED under no hold, and is pending in a RUNNING one; each changes the program's measurement. QUIESCE sets the hold of a LOADED polder and marks a quiesce in a RUNNING one; CLEAR_STOPPED takes a STOPPED polder to LOADED with its pending image, or to EMPTY, and clears hold and record; RESUME clears the hold of a LOADED polder. In every other state each changes nothing, and its write answers 0800 0022h. (R48, R54, R55, R65, R74, R76, R84, R85, R99, R408, R409) -/
def Obligations.ImagesLoadAndControlsHold : Prop :=
  (∀ (s : State) (p : Pol) (im : Image),
    let x := s.polder p
    let c : List Bool := [decide (im.edition ≠ 3), decide (s.obj 0x2B0100 < im.concurrency), im.slots.any (fun u => decide (slotMemory (u.1 / 4096) < u.2.length) || decide (unitCount (u.1 / 4096) ≤ u.1 % 4096))]
    (∀ k, k < 3 → c.getD k false = true → (∀ j, j < k → c.getD j false = false) → Runs (.imageLoad p im) s fun t => t = s.setPolder p { x with refusal := k + 1 }) ∧
    (∀ r, refusalOf s im = r → r ≠ 0 → r ≤ 8 ∧ Runs (.imageLoad p im) s fun t => t = s.setPolder p { x with refusal := r }) ∧
    (refusalOf s im = 0 →
      (im.edition = 3 ∧ im.concurrency ≤ s.obj 0x2B0100 ∧ im.reservedSet = false ∧ im.rotation.length = 16 ∧ (∀ k, k < 5 → k ∈ im.rotation) ∧
        (∀ r ∈ im.regions, r.1 + r.2.1 ≤ reservoirBytes) ∧ (∀ u ∈ im.slots, u.2.length ≤ slotMemory (u.1 / 4096) ∧ ∀ x ∈ u.2,
          slotReserved (u.1 / 4096) x.word = false ∧
          (slotField x.word 56 8 ≠ 0 → slotField x.word 28 8 ≠ 0 → ∃ b ∈ im.gates, b.1 = slotField x.word 16 12) ∧
          ∀ n k, x.held = some n → operandLimit im (u.1 % 4096) (slotField x.word 0 8) = some k → n ≤ k)) ∧
      (x.prog = .empty ∨ x.prog = .loaded → Runs (.imageLoad p im) s fun t =>
        (t.polder p).prog = .loaded ∧ (t.polder p).image = some im ∧ (x.prog = .loaded → (t.polder p).hold = false) ∧ t.sec.count = s.sec.count + 1 ∧
        Map.find t.sec.meas (measRunning p) = some (programMeas s 4 p im) ∧ (∀ k, k ≠ p.val → t.polder k = s.polder k)) ∧
      (x.prog = .running → Runs (.imageLoad p im) s fun t => t.polder p = { x with pendingImage := some im } ∧ t.sec.count = s.sec.count + 1 ∧
        Map.find t.sec.meas (measPending p) = some (programMeas s 5 p im)))) ∧
  (∀ (s : State) (p : Pol),
    let x := s.polder p
    (x.prog = .running → Runs (.quiesce p) s fun t => t = s.setPolder p { x with quiesceCtl := true }) ∧
    (x.prog = .loaded → Runs (.quiesce p) s fun t => t = s.setPolder p { x with hold := true }) ∧
    (x.prog ≠ .running → x.prog ≠ .loaded → Runs (.quiesce p) s fun t => t = s) ∧
    (x.prog = .loaded → x.hold = true → Runs (.resume p) s fun t => t = s.setPolder p { x with hold := false }) ∧
    (x.prog ≠ .loaded ∨ x.hold = false → Runs (.resume p) s fun t => t = s) ∧
    (x.prog = .stopped → Runs (.clearStopped p) s fun t =>
      (t.polder p).hold = false ∧ (t.polder p).recorded = false ∧ (t.polder p).faultCode = x.faultCode ∧
      (x.pendingImage = none → (t.polder p).prog = .empty ∧ (t.polder p).image = none) ∧
      (∀ im, x.pendingImage = some im → (t.polder p).prog = .loaded ∧ (t.polder p).image = some im ∧ (t.polder p).pendingImage = none) ∧
      t = { s with polders := t.polders, sec := t.sec, gath := t.gath }) ∧
    (x.prog ≠ .stopped → Runs (.clearStopped p) s fun t => t = s))

/-- An arrival changes its source as the table says and nothing else. Every command that makes an arrival at a listed source completes, and the source changes by the arrival rows of R516's table; every other source and everything outside the gatherer stays. A source that is not listed, or that a function's SETPEND may not name or is not served for (PF0 in berm mode), is left as it was. (R513, R516, R525, R527) -/
def Obligations.ArrivalsFollowTheSourceTable : Prop :=
  ∀ (s : State) (x : Source) (c : Instr),
    (c = .sourceArrival x ∨ c = .gpendSet x ∨ (∃ pf1, c = .setpendSet pf1 x ∧ (pf1 = false → s.start.st ≠ .berm) ∧ bit (s.source x).mask (if pf1 then 5 else 4) = true) ∨
      (c = .sourceSetPending ∧ s.obj 0x2D0101 = x)) →
    (sourceReal x = true → Runs c s fun t => SourceArrives (s.source x) (t.source x) ∧ (∀ y, y ≠ (x : Nat) → t.source y = s.source y) ∧
      t = { s with gath := { s.gath with sources := t.gath.sources } }) ∧
    (sourceReal x = false → Runs c s fun t => t = s) ∧
    (∀ pf1, bit (s.source x).mask (if pf1 then 5 else 4) = false ∨ pf1 = false ∧ s.start.st = .berm → Runs (.setpendSet pf1 x) s fun t => t = s)

/-- Clearing pending and completing a source follow the table. Every command that clears pending or completes a source completes: a clear changes the source by the clear rows of R516's table; a completion by the route by the completion rows; a completion by any other agent, or of a source that is not active, is ignored and counted in 2D00h.04. Nothing else changes. In berm mode PF0's register is not served, and its COMPLETE changes nothing. (R516, R525, R527) -/
def Obligations.SoftwareClearsAndCompletions : Prop :=
  ∀ (s : State) (x : Source),
    (∀ c : Instr, (c = .gpendClear x ∨ (∃ pf1, c = .setpendClear pf1 x ∧ (pf1 = false → s.start.st ≠ .berm) ∧ bit (s.source x).mask (if pf1 then 5 else 4) = true) ∨
        (c = .sourceClearPending ∧ s.obj 0x2D0101 = x)) →
      Runs c s fun t => SourceClears (s.source x) (t.source x) ∧ (∀ y, y ≠ (x : Nat) → t.source y = s.source y) ∧
        t = { s with gath := { s.gath with sources := t.gath.sources } }) ∧
    (∀ pf1, bit (s.source x).mask (if pf1 then 5 else 4) = false ∨ pf1 = false ∧ s.start.st = .berm → Runs (.setpendClear pf1 x) s fun t => t = s) ∧
    (∀ (c : Instr) (a : Nat), ((∃ k : Stw, c = .gcomplete k x ∧ a = k) ∨ (∃ pf1, c = .complete pf1 x ∧ (pf1 = false → s.start.st ≠ .berm) ∧ a = if pf1 then 5 else 4)) →
      ((s.source x).active = true → (s.source x).route = some a → Runs c s fun t =>
        SourceCompletes (s.source x) (t.source x) ∧ (∀ y, y ≠ (x : Nat) → t.source y = s.source y) ∧
        t = { s with gath := { s.gath with sources := t.gath.sources } }) ∧
      (((s.source x).active = false ∨ (s.source x).route ≠ some a) → Runs c s fun t =>
        t.obj 0x2D0004 = min (s.obj 0x2D0004 + 1) (2 ^ 32 - 1) ∧ t = { s with regs := t.regs })) ∧
    (s.start.st = .berm → Runs (.complete false x) s fun t => t = s)

/-- The gatherer selects the eligible source of highest priority, the lowest number among equals. Where the sources stand in number order, a selection answers an eligible source that no eligible source outranks, and none only where none is eligible; a target is the first that accepts, in the order S0, S1, S2, S3, PF0, PF1. (R519) -/
def Obligations.SelectionTakesTheHighestEligible : Prop :=
  ∀ s : State, Map.wf s.gath.sources →
    (s.selected = none → ∀ y, s.eligible (s.source y) = false) ∧
    (∀ x, s.selected = some x → s.eligible (s.source x) = true ∧ ∀ y, s.eligible (s.source y) = true →
      (s.source y).prio < (s.source x).prio ∨ ((s.source y).prio = (s.source x).prio ∧ x ≤ y)) ∧
    (∀ (g : GSource) a, s.target g = some a → s.accepts g a = true ∧ a < 6 ∧ ∀ b, b < a → s.accepts g b = false)

/-- A selected source is routed and delivered, and a steward claims what it was routed. GATHERER_SELECT completes: the selected source is no longer pending, is active under its route, and is counted in 2D00h.05; a steward's claim queue gains it, a host function gets the MSI-X write of its vector, which for PF0 waits for Bus Master Enable. GCLAIM returns a source of the steward's queue that no other of the queue outranks and removes it, or reads 0 where the queue is empty. (R516, R518, R519, R525, R527, R549) -/
def Obligations.SelectionAndClaimDeliver : Prop :=
  ∀ s : State,
    (s.selected = none → Runs .gathererSelect s fun t => t = s) ∧
    (∀ x a, s.selected = some x → s.target (s.source x) = some a → Runs .gathererSelect s fun t =>
      (t.source x).pending = false ∧ (t.source x).active = true ∧ (t.source x).route = some a ∧ (t.source x).count = (s.source x).count ∧
      (∀ y, y ≠ x → t.source y = s.source y) ∧ t.obj 0x2D0005 = (s.obj 0x2D0005 + 1) % 2 ^ 64 ∧
      (a < 4 → Map.getD t.gath.claim a [] = Map.getD s.gath.claim a [] ++ [x] ∧ t.out = s.out) ∧
      (a = 4 → s.host.master = true → t.out = .msix false (s.source x).vector :: s.out) ∧
      (a = 4 → s.host.master = false → t.out = s.out ∧ t.host.waiting = s.host.waiting ++ [.msix false (s.source x).vector]) ∧
      (a = 5 → t.out = .msix true (s.source x).vector :: s.out) ∧
      t = { s with gath := t.gath, regs := t.regs, sched := t.sched, host := t.host, out := t.out }) ∧
    (∀ k : Stw, Map.getD s.gath.claim k [] = [] → Runs (.gclaim k) s fun t => t = { s with out := .reg k 0 0 :: s.out }) ∧
    (∀ k : Stw, Map.getD s.gath.claim k [] ≠ [] → Runs (.gclaim k) s fun t => ∃ x ∈ Map.getD s.gath.claim k [],
      (∀ y ∈ Map.getD s.gath.claim k [], (s.source y).held ≤ (s.source x).held) ∧
      t.out = .reg k 0 (x + 2 ^ 15 + (s.source x).held * 2 ^ 16) :: s.out ∧
      Map.getD t.gath.claim k [] = (Map.getD s.gath.claim k []).erase x ∧
      t = { s with gath := { s.gath with claim := t.gath.claim }, out := t.out })

/-- A configuration whose vector exceeds a target's MSI-X table is refused. A write of 2D01h.02 whose mask names PF0 with a vector of 1 536 or more, or PF1 with one of 512 or more, changes nothing; any other sets the selected source's enable, priority, mask and vector, and its mode once it is IDLE, and counts in 2D00h.06 a delivery selected at most 3 steps ago that it would have stopped. The WOA write of such a value answers 0609 0030h. (R520) -/
def Obligations.VectorLimitsRefuseAConfiguration : Prop :=
  ∀ (s : State) (v : Nat),
    let bad := (bit v 12 = true ∧ 1536 ≤ v / 2 ^ 16 % 2 ^ 11) ∨ (bit v 13 = true ∧ 512 ≤ v / 2 ^ 16 % 2 ^ 11)
    let x := s.obj 0x2D0101
    (bad → (Runs (.sourceConfiguration v) s fun t => t = s) ∧ (x < 512 → s.writeSpecial 0x2D0102 4 v = some (.error 0x06090030))) ∧
    (¬ bad → Runs (.sourceConfiguration v) s fun t =>
      (t.source x).enable = bit v 0 ∧ (t.source x).prio = v / 16 % 16 ∧ (t.source x).mask = v / 256 % 64 ∧ (t.source x).vector = v / 2 ^ 16 % 2 ^ 11 ∧
      (t.source x).pending = (s.source x).pending ∧ (t.source x).active = (s.source x).active ∧ (t.source x).count = (s.source x).count ∧
      ((s.source x).active = false → (s.source x).pending = false → (t.source x).rearm = bit v 1) ∧
      ((s.source x).active = true ∨ (s.source x).pending = true → (t.source x).rearm = (s.source x).rearm) ∧
      (∀ y, y ≠ x → t.source y = s.source y) ∧ (∀ k, k ≠ 0x2D0006 → t.obj k = s.obj k) ∧
      (let g := s.source x
       let late := g.active = true ∧ (bit v 0 = false ∨ bit (v / 256 % 64) (g.route.getD 7) = false) ∧ s.time * s.tempo.cur ≤ g.selected * s.tempo.cur + 3000
       (late → t.obj 0x2D0006 = min (s.obj 0x2D0006 + 1) (2 ^ 32 - 1)) ∧ (¬ late → t.regs = s.regs)) ∧
      t = { s with gath := { s.gath with sources := t.gath.sources }, regs := t.regs })

/-- A threshold write and an MSI-X write set what they name; disabling MSI-X puts the function's sources back. GTHRESH sets the steward's threshold. An MSI-X write sets the function's enable and function mask and one vector's mask; where it clears an enable that was set, every source routed to the function is PENDING again with no route and its count kept. Each counts in 2D00h.06 the deliveries of at most 3 steps ago that it would have stopped, and changes nothing else. (R516, R518, R521, R525) -/
def Obligations.ThresholdsAndMsiXMasks : Prop :=
  (∀ (s : State) (k : Stw) (v : Fin 16), Runs (.gthresh k v) s fun t =>
    Map.getD t.gath.thresh k 0 = v ∧ (∀ j, j ≠ (k : Nat) → Map.getD t.gath.thresh j 0 = Map.getD s.gath.thresh j 0) ∧
    ((∀ e ∈ s.gath.sources, e.2.active = true → e.2.route = some (k : Nat) → e.2.held < v.val → e.2.selected * s.tempo.cur + 3000 < s.time * s.tempo.cur) →
      t.obj 0x2D0006 = min (s.obj 0x2D0006) (2 ^ 32 - 1)) ∧
    (∀ x, (s.source x).active = true → (s.source x).route = some (k : Nat) → (s.source x).held < v.val →
      s.time * s.tempo.cur ≤ (s.source x).selected * s.tempo.cur + 3000 → s.obj 0x2D0006 < 2 ^ 32 - 1 → s.obj 0x2D0006 < t.obj 0x2D0006) ∧
    (∀ j, j ≠ 0x2D0006 → t.obj j = s.obj j) ∧ t = { s with gath := { s.gath with thresh := t.gath.thresh }, regs := t.regs }) ∧
  (∀ (s : State) (pf1 enable fm : Bool) (v : Nat) (masked : Bool), Runs (.msiXMaskWrite pf1 enable fm v masked) s fun t =>
    let i := if pf1 then 1 else 0
    let m : MsiX := Map.getD s.gath.msix i {}
    let m' : MsiX := Map.getD t.gath.msix i {}
    m'.enable = enable ∧ m'.functionMask = fm ∧ (v ∈ m'.unmasked ↔ masked = false) ∧ (∀ w, w ≠ v → (w ∈ m'.unmasked ↔ w ∈ m.unmasked)) ∧
    (m.enable = true → enable = false → ∀ x, (s.source x).active = true → (s.source x).route = some (4 + i) →
      t.source x = { s.source x with pending := true, active := false, route := none }) ∧
    (∀ x, (s.source x).active = false ∨ (s.source x).route ≠ some (4 + i) → t.source x = s.source x) ∧
    (∀ j, j ≠ 0x2D0006 → t.obj j = s.obj j) ∧ t = { s with gath := t.gath, regs := t.regs })

/-- A request is turned away by the first check that it fails, with that check's status. For every ATTEND, APPEND, PREFILL, PIN, SWAP, FLUSH, ABORT and QUERY: outside SERVING nothing happens; a failing field, the least byte offset first and the least detail within it, ends it MALFORMED; a fence that differs or a fenced device ends it FENCED, a write in probation BUSY_RETRY 0Eh; a chart check that stops it ends it with its answer, and one that holds it places it among the holds, or ends it as the hold's bound would where 4 096 are held. An end without a tag changes nothing but counters and what carries the answer. (R117, R118, R135, R160, R194, R220, R316, R359, R370, R371, R464) -/
def Obligations.AdmissionAnswersByTheFirstFailingCheck : Prop :=
  (∀ (s : State) (i : Instr) (r : Req) (write create needs : Bool) (span : Nat) (bad : List (Nat × Nat × Bool)),
    checksOf s i = some (r, write, create, needs, span, bad) → r.src.isMirror = false →
    (s.start.st ≠ .serving → Runs i s fun t => t = s) ∧
    (s.start.st = .serving → s.tombOf r = none → (needs = true → Map.has s.seqs r.seqId = true) →
      let slot := s.obj (tenantKey r.tenant 0x14)
      let all := (8, 0x14, decide (slot ≠ 0) && decide (r.src.keySlot ≠ slot)) :: (61, 1, r.reserved) :: bad
      (∀ off d, (off, d, true) ∈ all → (∀ off' d', (off', d', true) ∈ all → off < off' ∨ (off = off' ∧ d ≤ d')) → ¬ (off = 8 ∧ d = 4) →
        Runs i s fun t => t = s.refuse r (.malformed d off)) ∧
      ((∀ b ∈ all, b.2.2 = false) →
        (∀ a, s.checks23 r write create span = .stop a → Runs i s fun t => t = s.refuse r a) ∧
        (∀ c o, s.checks23 r write create span = .wait c o → s.holds.length < 4096 → Runs i s fun t =>
          t = { s with orderCtr := s.orderCtr + 1, holds := Map.put s.holds (s.orderCtr + 1) ⟨r, c, o, s.time⟩ }) ∧
        (∀ c o, s.checks23 r write create span = .wait c o → 4096 ≤ s.holds.length → Runs i s fun t => t = s.refuse r (.busy (if o then 0x0C else 0x0D)))))) ∧
  (∀ (s : State) (r : Req) (a : Answer), r.src.isMirror = false → OnlyAnswered s (s.refuse r a) ∧ Answered (s.refuse r a) r.src 0 0 a) ∧
  (∀ (s : State) (r : Req) (write create : Bool) (span : Nat),
    ((s.fence.st = .fenced ∨ r.fence ≠ s.fence.epoch) → s.checks23 r write create span = .stop ⟨.fenced, 0, leBytes 4 s.fence.epoch⟩) ∧
    (s.fence.st = .probation → r.fence = s.fence.epoch → s.pair.st ≠ .paired → write = true → s.checks23 r write create span = .stop (.busy 0x0E)) ∧
    (s.fence.st = .live → r.fence = s.fence.epoch → ∀ c, s.compOf r.tenant = some c →
      ((s.chart c).epoch < r.epoch → s.checks23 r write create span = .wait c false) ∧
      (r.epoch + 1 < (s.chart c).epoch → ∃ node, s.checks23 r write create span = .stop ⟨.moved, 0, leBytes 4 (node % 2 ^ 20 + 0xF * 2 ^ 20) ++ leBytes 4 (s.chart c).epoch⟩)))

/-- An ATTEND, APPEND or PREFILL that passes takes a tag and reserves what it needs, or waits. A request that passes checks 1 to 3 with a tag free takes the lowest free tag, in admission order. An ATTEND or APPEND that an earlier request holds waits with nothing reserved; otherwise its layer's pages must be resident (BUSY_RETRY 02h, or 03h where its flag started the swap-in), its fresh frames must fit the tenant's quota (QUOTA), the page pools (BUSY_RETRY 07h), the table pool (08h) and the tail reserve (04h), and its weight shares must run (12h), and then the fresh frames are reserved against its tenant and its pages' polders. A PREFILL takes body-buffer frames and waits for its body, or ends BUSY_RETRY 05h where too few are free. (R23, R28, R118, R119, R145, R158, R159, R160, R183, R192, R209, R482) -/
def Obligations.WritesAndReadsOfALayerReserveAndWait : Prop :=
  (∀ (s : State) (i : Instr) (r : Req) (write : Bool) (span : Nat) (bad : List (Nat × Nat × Bool)) (tag tokens first heads : Nat) (e : Seq),
    checksOf s i = some (r, write, false, true, span, bad) → Passes s r write false true span bad → s.freeTag = some tag → Map.find s.seqs r.seqId = some e →
    (i = .attend r ∧ tokens = (if r.byte 27 % 4 = 0 then 0 else 1) ∧ first = r.byte 24 ∧ heads = r.byte 25 ∨
      i = .append r ∧ tokens = r.byte 20 ∧ first = r.byte 22 ∧ heads = r.byte 23) →
    let q := { admitted s r tag .held with isWrite := write, tokens := tokens, firstHead := first, heads := heads }
    let s' := taken s r tag q
    (s'.heldBack q = true → Runs i s fun t => t = s') ∧
    (∀ s'' q', s'.heldBack q = false → s'.resourceChecks q e = .ok (s'', q') → Runs i s fun t => t = s''.setReq tag q') ∧
    (∀ s'' a, s'.heldBack q = false → s'.resourceChecks q e = .error (s'', a) → a ≠ residentAnswer true → Runs i s fun t =>
      OnlyAnswered s t ∧ Answered t r.src 0 0 a)) ∧
  (∀ (s : State) (r : Req) (span : Nat) (bad : List (Nat × Nat × Bool)) (tag : Nat),
    checksOf s (.prefill r) = some (r, true, false, true, span, bad) → Passes s r true false true span bad → s.freeTag = some tag →
    let len := prefillDeclared r
    let n := (len + 65535) / 65536
    (s.bodyFree.length < n → Runs (.prefill r) s fun t => t = s.refuse r (.busy 5)) ∧
    (n ≤ s.bodyFree.length → Runs (.prefill r) s fun t => ∃ q, Map.find t.reqs tag = some q ∧ q.phase = .body ∧ q.isWrite = true ∧
      q.tokens = hdrField r.hdr 20 2 ∧ q.firstHead = r.byte 22 ∧ q.heads = r.byte 23 ∧ q.bodyLen = len ∧ q.order = s.orderCtr + 1 ∧ q.seqId = r.seqId ∧
      (∃ b, Map.find t.bodies tag = some b ∧ b.len = len ∧ b.frames = s.bodyFree.take n ∧ b.ranges = []) ∧
      t = { s with reqs := t.reqs, bodies := t.bodies, bodyHeld := t.bodyHeld, gens := t.gens, orderCtr := s.orderCtr + 1, regs := t.regs } ∧
      ∀ k, k ≠ tag → Map.find t.reqs k = Map.find s.reqs k)) ∧
  (∀ (s : State) (q : Request) (e : Seq), q.kind = 1 →
    let sh := s.shape e.binding
    let g0 := q.firstHead / sh.n
    let g1 := (q.firstHead + q.heads + sh.n - 1) / sh.n
    let l := touched (s.plannedTokens q.seqId q.layer q.order) q.tokens g0 g1
    let fresh := (l.filter fun t => !t.tail).length
    let fits (tail : Bool) := ∀ p, p < 8 → touchedOn l e.base p tail ≤ (if tail then s.freeTails p else s.freeFrames p)
    let quota := s.quotaFor (tenantOf q.seqId) 1 fresh
    let tables := e.growth sh q.layer l = 0 ∨ e.growth sh q.layer l ≤ s.freeGranules e.base
    let runs := hdrField q.hdr 27 1 % 4 < 2 ∨ s.canProject e.binding = true
    (e.resident sh q.layer = false → bit (hdrField q.hdr 1 1) 0 = false → s.resourceChecks q e = .error (s, .busy 2)) ∧
    (e.resident sh q.layer = true → s.dutyGone 1 = false →
      (quota = false → s.resourceChecks q e = .error (s, ⟨.quota, 0, [1, 0] ++ leBytes 2 (tenantOf q.seqId)⟩)) ∧
      (quota = true → ¬ fits false → s.resourceChecks q e = .error (s, .busy 7)) ∧
      (quota = true → fits false → ¬ tables → s.resourceChecks q e = .error (s, .busy 8)) ∧
      (quota = true → fits false → tables → ¬ fits true → s.resourceChecks q e = .error (s, .busy 4)) ∧
      (quota = true → fits false → tables → fits true → ¬ runs → s.resourceChecks q e = .error (s, .busy 0x12)) ∧
      (quota = true → fits false → tables → fits true → runs → s.resourceChecks q e =
        .ok (s.chargeBy (tenantOf q.seqId) (fun c => { c with r1 := c.r1 + fresh }),
          { q with checked := true, t1 := fresh, plan := l.map fun t => ((e.base + t.group + t.page / 16) % 8, t.tail) }))))

/-- A request that nothing holds fixes its base, takes its frames and binds its lanes; a replay runs once more. ATTEND_TOKEN_LIMIT and TOKEN_BASE of a request that is not held by an earlier one fix its base at the layer's committed count and its limit behind its tokens: an ATTEND over no token ends OK with PARTIALs of minus infinity and zero; one that would read a lost page ends PAGE_LOST; otherwise its fresh frames are taken, each on the polder where R122 places its page and zero throughout, no byte of another frame changes, and its entries placed on the rings, and it awaits one report for each. While it is held, or in any other phase, nothing changes. REPLAY of a request whose tainted frames are all GOOD places it again, and EPOCH_HOLD_EXPIRY ends a held request BUSY_RETRY 0Ch or 0Dh once its bound has passed. (R119, R120, R122, R123, R124, R138, R162, R165, R192, R207, R316) -/
def Obligations.HoldsLiftAndLanesAreBound : Prop :=
  (∀ (s : State) (tag : Nat) (q : Request) (i : Instr), Map.find s.reqs tag = some q →
    (i = .attendTokenLimit tag ∧ q.kind = 1 ∨ i = .tokenBase tag ∧ (q.kind = 2 ∨ q.kind = 3)) →
    ((q.phase ≠ .held ∨ s.heldBack q = true) → Runs i s fun t => t = s) ∧
    (∀ e, q.phase = .held → s.heldBack q = false → q.checked = true → Map.find s.seqs q.seqId = some e → q.src.isMirror = false →
      let sh := s.shape e.binding
      let base := e.tokens q.layer
      let g0 := q.firstHead / sh.n
      let g1 := (q.firstHead + q.heads + sh.n - 1) / sh.n
      let lost := lostPages sh e q.layer g0 g1
      (base + q.tokens = 0 → q.kind = 1 → q.isWrite = false → s.exhausted q.src.keySlot = false → 0 < q.heads * sh.g → Runs i s fun t =>
        Ended s t tag q .ok ∧ Sent s t (.partials tag (emptyPartials q sh))) ∧
      (lost ≠ [] → base + q.tokens ≠ 0 → q.kind = 1 → Runs i s fun t => Ended s t tag q (lostPagesAnswer q.layer lost)) ∧
      ((base + q.tokens ≠ 0 ∨ q.kind ≠ 1) → lost = [] → ∀ s' ws,
        s.takeFrames sh q.seqId q.layer (base + q.tokens) e (touched base q.tokens g0 g1) = some (s', ws) →
        ws.map (fun w => framePolder w.2.1) = (touched base q.tokens g0 g1).map (fun t => (e.base + t.group + t.page / 16) % 8) ∧ Runs i s fun t => ∃ q',
          Map.find t.reqs tag = some q' ∧ q'.phase = .running ∧ q'.base = base ∧ q'.limit = base + q.tokens ∧ q'.writes = ws ∧ q'.reports = [] ∧
          (∀ k, k < 10 → base + q.tokens ≤ 2 ^ (11 + k) → q'.bucket ≤ k) ∧ t.frames = s'.frames ∧ t.seqs = s.seqs ∧
          (∀ w ∈ ws, ∀ o, o < 65536 → Memory.read t.mem (w.2.1 * 65536 + o) = 0) ∧
          (∀ a, (∀ w ∈ ws, a / 65536 ≠ w.2.1) → Memory.read t.mem a = Memory.read s.mem a) ∧
          ∃ es : List (Nat × RingEntry), q'.outstanding = es.length ∧ (∀ x ∈ es, x.2.tag = tag ∧ x.2.seqId = q.seqId ∧ x.2.limit = base + q.tokens) ∧
            ∀ p r, Map.getD (t.polder p).rings r [] = Map.getD (s.polder p).rings r [] ++
              (es.filter fun x => decide (x.1 = p) && decide (ringOf (s.polder p).image x.2.kind x.2.bucket = r)).map Prod.snd))) ∧
  (∀ (s : State) (tag : Nat) (q : Request) (e : Seq), Map.find s.reqs tag = some q → q.phase = .recover → Map.find s.seqs q.seqId = some e →
    (∀ x ∈ q.reports, x.1 ≠ 0x10) →
    ((∀ f ∈ q.tainted, ∀ x, Map.find s.frames f = some x → x.health = .good) → Runs (.replay tag) s fun t => ∃ q', Map.find t.reqs tag = some q' ∧
      q'.phase = .running ∧ q'.replayed = true ∧ q'.reports = [] ∧ q'.tainted = [] ∧ q'.results = [] ∧ t.frames = s.frames ∧ t.seqs = s.seqs) ∧
    ((∃ f ∈ q.tainted, ∃ x, Map.find s.frames f = some x ∧ x.health = .lost) → q.src.isMirror = false → Runs (.replay tag) s fun t => ∃ a, a.status = .pageLost ∧ Ended s t tag q a) ∧
    ((∀ f ∈ q.tainted, ∀ x, Map.find s.frames f = some x → x.health ≠ .lost) → (∃ f ∈ q.tainted, ∃ x, Map.find s.frames f = some x ∧ x.health ≠ .good) →
      Runs (.replay tag) s fun t => t = s)) ∧
  (∀ (s : State) (k : Nat),
    (∀ h, Map.find s.holds k = some h → h.req.src.isMirror = false → s.obj (recKey 0x2440 h.comp 8) ≤ (s.time - h.since) / 1000 → Runs (.epochHoldExpiry k) s fun t =>
      Map.find t.holds k = none ∧ (∀ j, j ≠ k → Map.find t.holds j = Map.find s.holds j) ∧ Answered t h.req.src 0 0 (.busy (if h.order4 then 0x0C else 0x0D)) ∧
      OnlyAnswered { s with holds := t.holds } t) ∧
    ((∀ h, Map.find s.holds k = some h → (s.time - h.since) / 1000 < s.obj (recKey 0x2440 h.comp 8)) → Runs (.epochHoldExpiry k) s fun t => t = s))

/-- A PREFILL's body enters its buffer by ranges; a bad or missing body ends the request. A BODY_SEGMENT beyond the body ends the PREFILL MALFORMED 02h, and one whose header sets a reserved byte MALFORMED 01h; one within it joins the ranges present, stores its bytes in the body's frames of all eight stacks, and where the body is then whole the request goes on; a segment of no open body, or longer than a message can carry, changes nothing. A ring's body read stores the body, opened under the host-to-device session key in confidential operation, or ends the request CHECK_FAIL 04h where its tag fails there; a length that is not the request's is MALFORMED 02h. BODY_TIMEOUT ends a request that awaits its body for the body timeout or longer BUSY_RETRY 06h. An ordering fence completes OK under tag 0 and is counted. (R7, R142, R158, R159, R160, R221, R430, R540, R543, R545) -/
def Obligations.BodiesArriveAndFencesAnswer : Prop :=
  (∀ (s : State) (tag : Nat) (q : Request) (b : Body) (key source off len : Nat) (bytes : List Nat),
    s.bodies.find? (fun x => decide (x.2.source = source) && (match Map.find s.reqs x.1 with
      | some q => decide (q.bodyKey = key) && decide (q.phase = .body)
      | none => false)) = some (tag, b) → Map.find s.reqs tag = some q → q.src.isMirror = false → len ≤ 1048560 →
    (Runs (.bodySegment key source off len bytes true) s fun t => Ended s t tag q (.malformed 1 4)) ∧
    (b.len < off + len → Runs (.bodySegment key source off len bytes false) s fun t => Ended s t tag q (.malformed 2 (lengthOffset q.src))) ∧
    (off + len ≤ b.len → rangeTotal (addRange b.ranges off len) < b.len → bytes.length = len → b.len ≤ 65536 * b.frames.length → b.frames.Nodup → (∀ f ∈ b.frames, f < 2 ^ 21) →
      Runs (.bodySegment key source off len bytes false) s fun t =>
        Map.find t.bodies tag = some { b with ranges := addRange b.ranges off len } ∧
        (∀ p k, p < 8 → k < len → Memory.read t.mem ((p * 2 ^ 21 + nth b.frames ((off + k) / 65536)) * 65536 + (off + k) % 65536) = BitVec.ofNat 8 (nth bytes k)) ∧
        t = { s with bodies := t.bodies, mem := t.mem, sideband := t.sideband })) ∧
  (∀ (s : State) (key source off len : Nat) (bytes : List Nat) (reserved : Bool), (∀ b ∈ s.bodies, b.2.source ≠ source) ∨ 1048560 < len →
    Runs (.bodySegment key source off len bytes reserved) s fun t => t = s) ∧
  (∀ (s : State) (tag : Nat) (q : Request) (r : Ring) (slot cookie : Nat), Map.find s.reqs tag = some q → q.phase = .body → q.src = .ring r slot cookie →
    (∀ b bytes, Map.find s.bodies tag = some b →
      (s.sec.conf = true → s.fromHost 2 r q.entryCtr (bytes.take (b.len + 16)) = none → Runs (.requestBodyRead tag bytes) s fun t => Ended s t tag q ⟨.checkFail, 4, []⟩) ∧
      (∀ e body, (s.sec.conf = false ∧ body = bytes.take b.len ∨ s.sec.conf = true ∧ s.fromHost 2 r q.entryCtr (bytes.take (b.len + 16)) = some body) →
        Map.find s.seqs q.seqId = some e →
        (body.length ≠ prefillBody (s.shape e.binding) q.hdr ∨ body.length ≠ q.bodyLen → Runs (.requestBodyRead tag bytes) s fun t =>
          Ended s t tag q (.malformed 2 40)) ∧
        (body.length = prefillBody (s.shape e.binding) q.hdr → body.length = q.bodyLen → s.heldBack { q with phase := .held } = true →
          Runs (.requestBodyRead tag bytes) s fun t => Map.find t.reqs tag = some { q with phase := .held } ∧
            Map.find t.bodies tag = some { b with ranges := [(0, body.length)] } ∧
            (body.length ≤ 65536 * b.frames.length → b.frames.Nodup → (∀ f ∈ b.frames, f < 2 ^ 21) → ∀ p k, p < 8 → k < body.length →
              Memory.read t.mem ((p * 2 ^ 21 + nth b.frames (k / 65536)) * 65536 + k % 65536) = BitVec.ofNat 8 (nth body k)))))) ∧
  (∀ (s : State) (tag : Nat) (q : Request), Map.find s.reqs tag = some q → q.phase = .body → s.obj 0x2B3203 ≤ s.since q.since → q.src.isMirror = false →
    Runs (.bodyTimeout tag) s fun t => Ended s t tag q (.busy 6)) ∧
  (∀ (s : State) (tag : Nat), (∀ q, Map.find s.reqs tag = some q → q.phase ≠ .body ∨ s.since q.since < s.obj 0x2B3203) → Runs (.bodyTimeout tag) s fun t => t = s) ∧
  (∀ (s : State) (r : Ring) (slot cookie : Nat), Runs (.orderingFence r slot cookie) s fun t =>
    Answered t (.ring r slot cookie) 0 0 (.ok) ∧ t.obj 0x2B1104 = min (s.obj 0x2B1104 + 1) (objMax 0x2B1104) ∧
    t = { s with out := t.out, host := t.host, rings := t.rings, regs := t.regs, gath := t.gath })

/-- A FORK, RELEASE or PIN whose turn has come commits its effect and ends OK. A create makes an empty descriptor on the base polder asked for, or on the one with the most free frames; a FORK of an active sequence makes a child that shares the parent's whole pages below the position, each shared frame counting one more reference; a RELEASE removes the descriptor, and every frame that it named counts one fewer for each name, freed at none and kept where pinned; a truncating RELEASE cuts every layer to the position; a PIN pins the whole pages below its position and an unpin marks the pinned ones as candidates, over which the recount sweep then runs. Every other sequence stays. (R187, R191, R196, R198, R199, R200, R201, R202, R205, R206) -/
def Obligations.ForksReleasesAndPinsCommit : Prop :=
  ∀ (s : State) (r : Req) (tag : Nat),
    (∀ i, (i = .fork r ∨ i = .forkCreate r) → bit r.flags 1 = true → r.kind = 4 → AtTurn s i r tag → s.lostSeqs.contains r.seqId = false →
      let b := hdrField r.hdr 20 2
      s.tableRoom (emptySeq b (s.createBase r.hdr) (s.shape b).layers s.time) = true → Runs i s fun t => ∃ base,
        (hdrField r.hdr 22 1 ≠ 8 → base = hdrField r.hdr 22 1) ∧ (hdrField r.hdr 22 1 = 8 → base < 8 ∧ ∀ p, p < 8 → s.freeFrames p ≤ s.freeFrames base) ∧
        Map.find t.seqs r.seqId = some { binding := b, base := base, counts := List.replicate (s.shape b).layers 0, lastUse := s.time } ∧
        (∀ k, k ≠ r.seqId → Map.find t.seqs k = Map.find s.seqs k) ∧ EndedAtOnce s t r tag (.ok [base]) ∧ t.frames = s.frames ∧ t.mem = s.mem) ∧
    (∀ i e s' ws, (i = .fork r ∨ i = .forkCreate r) → bit r.flags 1 = false → r.kind = 4 → AtTurn s i r tag → Map.find s.seqs r.seqId = some e → e.st = .active →
      let sh := s.shape e.binding
      let p := forkPos r.hdr
      let keys := Map.keys (e.copied sh p false)
      let child := forkChild r.hdr r.seqId
      p ≤ e.lowest → (∀ l ∈ e.leavesBelow p, l.2.loc = 1) → (s.copySources r.seqId sh ((e.copied sh p false).map fun l => l.2.val)).1 = true → s.copyRoom r.seqId e sh keys = none →
      s.tableRoom (childOf e r.seqId s.time p (keys.map fun k => (k, 0, 0))) = true →
      (taken s r tag (admitted s r tag .held)).takeCopies e sh keys = some (s', ws) → Runs i s fun t =>
        Map.find t.seqs child = some (childOf e r.seqId s.time p ws) ∧ Map.find t.seqs r.seqId = some { e with lastUse := s.time } ∧
        (∀ k, k ≠ child → k ≠ r.seqId → Map.find t.seqs k = Map.find s.seqs k) ∧
        (∀ k f, Map.find s.frames k = some f → (∀ w ∈ ws, w.2.1 ≠ k) →
          let n := ((Map.keep e.leaves fun key _ => decide (keyPage key < p / 64)).filter fun l => decide (l.2.val = k)).length
          (f.count = pinned → ∃ f', Map.find t.frames k = some f' ∧ f'.count = pinned) ∧
          (f.count + n < pinned → ∃ f', Map.find t.frames k = some f' ∧ f'.count = f.count + n)) ∧
        ∃ a, a.status = .ok ∧ EndedAtOnce s t r tag a) ∧
    (∀ i e, (i = .release r ∨ i = .releaseTruncate r) → bit r.flags 1 = false → r.kind = 5 → AtTurn s i r tag → Map.find s.seqs r.seqId = some e → e.st = .active →
      Runs i s fun t => Map.find t.seqs r.seqId = none ∧ (∀ k, k ≠ r.seqId → Map.find t.seqs k = Map.find s.seqs k) ∧
        (∀ k f, Map.find s.frames k = some f →
          let n := (e.frameList.filter fun j => decide (j = k)).length
          (f.count = pinned → ∃ f', Map.find t.frames k = some f' ∧ f'.count = pinned) ∧
          (f.count < pinned → n < f.count → ∃ f', Map.find t.frames k = some f' ∧ f'.count = f.count - n) ∧
          (f.count < pinned → 0 < n → f.count ≤ n → Map.find t.frames k = none)) ∧
        ∃ a, a.status = .ok ∧ EndedAtOnce s t r tag a) ∧
    (∀ i e, (i = .release r ∨ i = .releaseTruncate r) → bit r.flags 1 = true → r.kind = 5 → AtTurn s i r tag → Map.find s.seqs r.seqId = some e → e.st = .active →
      let p := widePos r.hdr
      p ≤ e.lowest → e.copied (s.shape e.binding) p true = [] → Runs i s fun t => ∃ e', Map.find t.seqs r.seqId = some e' ∧ e'.counts = e.counts.map (fun c => min c p) ∧
        (∀ key, p < e.tokens (keyLayer (s.shape e.binding) key) → (p + 63) / 64 * 64 ≤ keyPage key * 64 → Map.find e'.leaves key = none) ∧
        e' = { e with counts := e'.counts, leaves := e'.leaves, lastUse := s.time } ∧ (∀ k, k ≠ r.seqId → Map.find t.seqs k = Map.find s.seqs k) ∧
        ∃ a, a.status = .ok ∧ EndedAtOnce s t r tag a) ∧
    (∀ i e, (i = .pin r ∨ i = .unpin r) → r.kind = 6 → AtTurn s i r tag → Map.find s.seqs r.seqId = some e → e.st = .active → widePos r.hdr ≤ e.lowest →
      let range := e.pinRange (widePos r.hdr)
      (bit r.flags 1 = false → Runs i s fun t => EndedAtOnce s t r tag (.ok (leBytes 4 range.length)) ∧
        ∀ k, (k ∈ range → ∀ f, Map.find s.frames k = some f → Map.find t.frames k = some { f with count := pinned }) ∧
          (k ∉ range → Map.find t.frames k = Map.find s.frames k)) ∧
      (bit r.flags 1 = true → Runs i s fun t => (∃ n, EndedAtOnce s t r tag (.ok (leBytes 4 n))) ∧ t.mem = s.mem ∧
        (∀ k f, k ∈ range → Map.find s.frames k = some f → f.count = pinned → t.sweep.running = true) ∧
        ∀ k f, Map.find s.frames k = some f → ∃ f', Map.find t.frames k = some f' ∧ f' = { f with candidate := f'.candidate } ∧
          (k ∈ range → f.count = pinned → f'.candidate = true) ∧ (k ∉ range ∨ f.count ≠ pinned → f'.candidate = f.candidate)))

/-- SWAP_OUT, FLUSH and SWAP_IN start their move with its reservation, or end at once where the sequence is there. At its turn a SWAP_OUT of an active sequence reserves raw records in T2 and the sequence is SPILLING; a FLUSH of an active or spilled one reserves its raw image in T3 and takes the extents on the lowest drive that has them free, and the sequence is FLUSHING; a SWAP_IN of a stored one whose restore can start makes it RESTORING; the request waits for its move. Quota refused is QUOTA, no room in T2 BUSY_RETRY 09h, none in the table pools for the spill map 08h, a frame on the ladder 0Bh. Asked to go where it is, a sequence ends OK with zero pages. SEQUENCE_WIDE_TURN does the same for a held request that nothing holds any more, and nothing for any other. (R192, R193, R195, R209, R213, R214, R215, R232, R235, R255, R260, R353) -/
def Obligations.MovesStartAtTheirTurn : Prop :=
  (∀ (s : State) (r : Req) (tag : Nat) (e : Seq) (i : Instr) (turn : Bool),
    (turn = false ∧ (i = .swapOut r ∨ i = .swapIn r ∨ i = .flush r) ∧ AtTurn s i r tag ∨
     turn = true ∧ i = .sequenceWideTurn tag ∧ (∃ q, Map.find s.reqs tag = some q ∧ q.src = r.src ∧ q.hdr = r.hdr ∧ q.kind = r.kind ∧ q.seqId = r.seqId ∧
       q.phase = .held ∧ q.t1 = 0 ∧ q.writes = [] ∧ s.heldBack q = false ∧ s.mirrored q = false) ∧ s.wideHeld r.kind = false ∧
       (∀ d, s.dutyGone d = false) ∧ s.exhausted r.src.keySlot = false ∧ r.src.isMirror = false) →
    Map.find s.seqs r.seqId = some e →
    let t' := tenantOf r.seqId
    let sh := s.shape e.binding
    let pages := s.privatePages e
    let raw2 := pages.length * recordBlocks sh.rawRecord
    let raw3 := imageBlocks e.leaves.length ((e.leaves.filter fun l => decide (l.2.loc ≠ 3)).length * recordBlocks sh.rawRecord)
    (r.kind = 7 → e.st = .active →
      (s.quotaFor t' 2 raw2 = true → 0 < s.spillBlocks → raw2 ≤ s.spillFree → s.host.spillMap.length + pages.length ≤ 16777215 → s.mapRoom pages.length = true → s.suspectIn pages = false → Runs i s fun t =>
        Map.find t.seqs r.seqId = some { e with st := .spilling, prior := .active, reserved := raw2, mover := some tag, moving := pages.map fun l => (l.1, l.2.val) } ∧ (t.charge t').r2 = (s.charge t').r2 + raw2 ∧
        (∃ q, Map.find t.reqs tag = some q ∧ q.phase = .move) ∧ t.frames = s.frames ∧ t.mem = s.mem ∧ ∀ k, k ≠ r.seqId → Map.find t.seqs k = Map.find s.seqs k)) ∧
    (r.kind = 9 → (e.st = .active ∨ e.st = .spilled) → ∀ d, s.quotaFor t' 3 raw3 = true → s.driveFor (extentsOf raw3) = some d → s.suspectIn e.leaves = false →
      Runs i s fun t => ∃ l, Map.find t.seqs r.seqId = some { e with st := .flushing, prior := e.st, reserved := raw3, mover := some tag, drive := d, extents := l, written := 0, since := s.time } ∧
        l.length = extentsOf raw3 ∧ (∀ x ∈ l, x ≠ 0 ∧ x ∉ (s.drive d).used) ∧ (t.drive d).used = (s.drive d).used ++ l ∧ (t.charge t').r3 = (s.charge t').r3 + raw3 ∧
        (∃ q, Map.find t.reqs tag = some q ∧ q.phase = .move) ∧ t.frames = s.frames ∧ t.mem = s.mem) ∧
    (r.kind = 8 → (e.st = .spilled ∨ e.st = .flushed) → ∀ g s', (turn = true → ∃ q, Map.find s.reqs tag = some q ∧ q.gen = g) →
      (turn = false → g = (admitted s r tag .held).gen) →
      (if turn then s else taken s r tag (admitted s r tag .held)).startRestore r.seqId (some (tag, g)) = .ok s' →
      Runs i s fun t => (∃ e', Map.find t.seqs r.seqId = some e' ∧ e'.st = .restoring ∧ e'.prior = e.st ∧ e'.mover = some tag) ∧
        t.frames = s'.frames ∧ t.charges = s'.charges ∧ ∃ q, Map.find t.reqs tag = some q ∧ q.phase = .move) ∧
    ((r.kind = 7 ∧ e.st = .spilled ∨ r.kind = 9 ∧ e.st = .flushed ∨ r.kind = 8 ∧ e.st = .active) → Runs i s fun t =>
      Map.find t.reqs tag = none ∧ (∃ g, Answered t r.src tag g (.ok (leBytes 8 0 ++ [e.st.code]))) ∧
      Map.find t.seqs r.seqId = some { e with lastUse := s.time } ∧ t.frames = s.frames ∧ t.charges = s.charges ∧ t.mem = s.mem)) ∧
  (∀ (s : State) (seqId : Nat) (e : Seq) (mover : Option Nat), (∀ d, s.dutyGone d = false) →
    let t := tenantOf seqId
    let raw2 := (s.privatePages e).length * recordBlocks (s.shape e.binding).rawRecord
    (s.quotaFor t 2 raw2 = false → s.startSpill seqId e mover = .error (quotaAnswer 2 t)) ∧
    (s.quotaFor t 2 raw2 = true → (s.spillBlocks = 0 ∨ s.spillFree < raw2) → s.startSpill seqId e mover = .error (.busy 9)) ∧
    (s.quotaFor t 2 raw2 = true → 0 < s.spillBlocks → raw2 ≤ s.spillFree → s.host.spillMap.length + (s.privatePages e).length ≤ 16777215 →
      s.mapRoom (s.privatePages e).length = false → s.startSpill seqId e mover = .error (.busy 8)) ∧
    (s.quotaFor t 2 raw2 = true → 0 < s.spillBlocks → raw2 ≤ s.spillFree → s.host.spillMap.length + (s.privatePages e).length ≤ 16777215 →
      s.mapRoom (s.privatePages e).length = true → s.suspectIn (s.privatePages e) = true → s.startSpill seqId e mover = .error (.busy 0x0B))) ∧
  (∀ (s : State) (tag : Nat), (∀ q, Map.find s.reqs tag = some q → q.phase ≠ .held ∨ s.heldBack q = true ∨ q.kind < 4 ∨ 9 < q.kind) →
    Runs (.sequenceWideTurn tag) s fun t => t = s)

/-- A move that completes commits with its actual size; one that fails leaves the sequence as it was. MOVE_COMPLETE of an automatic spill or flush that can commit makes the sequence SPILLED or FLUSHED, its charge that of the records taken instead of the reservation, its private frames free; of a restore with no page lost makes it ACTIVE with every restored page named at location 1 and its source charge released. A move out of T1 with no storage key, and MOVE_FAILED, undo the move: the reservation is returned, the sequence is in its prior state, the request that started it ends BUSY_RETRY 0Bh, and a failed automatic move is counted. An image commits only once its Writes and the Flush of its drive's cache have completed. A sequence that does not move stays. (R193, R197, R213, R214, R215, R216, R237, R253, R258, R259, R425, R432) -/
def Obligations.MovesCommitOrAreUndone : Prop :=
  (∀ (s : State) (i : Nat) (e : Seq) (lost : List Nat), Map.find s.seqs i = some e → e.mover = none → s.sec.storageKeys = true →
    s.unread (s.shape e.binding) (s.moveReads e) = [] → s.suspectIn (s.moveReads e) = false →
    let t' := tenantOf i
    (e.st = .spilling → ∀ s' body, s.commitSpill i e = some (s', body) → Runs (.moveComplete i lost) s fun t => ∃ e', Map.find t.seqs i = some e' ∧ e'.st = .spilled ∧
      e'.reserved = 0 ∧ (t.charge t').r2 = (s.charge t').r2 - e.reserved ∧ (t.charge t').t2 = (s.charge t').t2 + e'.t2 ∧
      (∀ m ∈ e.moving, ∀ l, Map.find e.leaves m.1 = some l → l.loc = 1 → ∃ l', Map.find e'.leaves m.1 = some l' ∧ l'.loc = 2) ∧
      ∀ k, k ≠ i → Map.find t.seqs k = Map.find s.seqs k) ∧
    (e.st = .flushing → e.written = 2 → Runs (.moveComplete i lost) s fun t => ∃ e', Map.find t.seqs i = some e' ∧ e'.st = .flushed ∧ e'.leaves = [] ∧ e'.reserved = 0 ∧ e'.t2 = 0 ∧
      (t.charge t').r3 = (s.charge t').r3 - e.reserved ∧ (t.charge t').t3 = (s.charge t').t3 + e'.t3 ∧ (t.drive e.drive).images = (s.drive e.drive).images ++ [i]) ∧
    (e.st = .restoring → lost = [] → s.goneKeys e = [] → s.lostTaken e = [] → e.prior = .spilled → Runs (.moveComplete i lost) s fun t => ∃ e', Map.find t.seqs i = some e' ∧ e'.st = .active ∧
      e'.stored = [] ∧ e'.moving = [] ∧ (t.charge t').r1 = (s.charge t').r1 - e.reserved ∧ (t.charge t').t1 = (s.charge t').t1 + e.moving.length ∧
      (t.charge t').t2 = (s.charge t').t2 - e.t2 ∧
      (Map.wf e.moving → e.taken = [] → ∀ m ∈ e.moving, Map.find e'.leaves m.1 = some ⟨m.2, 1⟩))) ∧
  (∀ (s : State) (i : Nat) (e : Seq) (c : Instr), Map.find s.seqs i = some e → (e.st = .spilling ∨ e.st = .flushing) →
    (c = .moveFailed i ∨ (∃ lost, c = .moveComplete i lost) ∧ (e.st = .flushing → e.written = 2) ∧ s.sec.storageKeys = false) →
    (∀ tag, e.mover = some tag → ∃ q, Map.find s.reqs tag = some q ∧ q.seqId = i ∧ q.src.isMirror = false) →
    Runs c s fun t => ∃ e', Map.find t.seqs i = some e' ∧ e' = { e with st := e.prior, reserved := 0, mover := none, moving := [], taken := [], lastUse := e'.lastUse, extents := if e.st = .flushing then [] else e.extents } ∧
      (e.st = .spilling → (t.charge (tenantOf i)).r2 = (s.charge (tenantOf i)).r2 - e.reserved) ∧
      (e.st = .flushing → (t.charge (tenantOf i)).r3 = (s.charge (tenantOf i)).r3 - e.reserved) ∧ t.frames = s.frames ∧ t.mem = s.mem ∧
      (e.mover = none → t.moveFails = s.moveFails + 1) ∧ ∀ tag q, e.mover = some tag → Map.find s.reqs tag = some q → Ended s t tag q (.busy 0x0B)) ∧
  (∀ (s : State) (i : Nat) (e : Seq) (lost : List Nat), Map.find s.seqs i = some e → e.st = .flushing → e.written ≠ 2 → Runs (.moveComplete i lost) s fun t => t = s) ∧
  (∀ (s : State) (i : Nat), (Map.find s.seqs i = none ∨ ∃ e, Map.find s.seqs i = some e ∧ e.st ≠ .spilling ∧ e.st ≠ .flushing ∧ e.st ≠ .restoring) →
    Runs (.moveFailed i) s fun t => t = s)

/-- Pre-emption and demotion choose the oldest idle sequences, and a recount sweep sets every swept count. PRE_EMPTION and DEMOTION do nothing where they are switched off or no polder is short; a pass raises their event, and every sequence that it starts to move was active (spilled), without a request in flight, and moves with no request. A sweep starts over the candidates or over every pinned page, and one that runs takes both (the model's choice, log entry 136); at its end every swept frame counts exactly the references to it and is no candidate, and one without references is free. (R200, R202, R208, R212, R257, R377, R482) -/
def Obligations.PassesChooseAndSweepsRecount : Prop :=
  (∀ s : State, Map.wf s.seqs →
    ((s.obj 0x2B4101 = 0 ∨ s.dutyGone 2 = true ∨ s.dutyHeld 2 = true ∨ ∀ p, p < 8 → (s.polder p).down = true ∨ s.obj 0x2B4102 ≤ s.freeFrames p) → Runs .preEmption s fun t => t = s) ∧
    (s.obj 0x2B4101 ≠ 0 → s.dutyGone 2 = false → s.dutyHeld 2 = false → (∃ p, p < 8 ∧ (s.polder p).down = false ∧ s.freeFrames p < s.obj 0x2B4102) →
      Runs .preEmption s fun t => t.source 0x017 = (s.source 0x017).arrive ∧ t.frames = s.frames ∧ t.mem = s.mem ∧ t.reqs = s.reqs ∧
        ∀ i e', Map.find t.seqs i = some e' → Map.find s.seqs i = some e' ∨ ∃ e, Map.find s.seqs i = some e ∧ e.st = .active ∧ s.inFlight i = 0 ∧
          s.obj 0x2B4104 < s.since e.lastUse ∧ s.obj (tenantKey (tenantOf i) 2) < (s.charge (tenantOf i)).usage 1 ∧
          e' = { e with st := .spilling, prior := .active, reserved := (s.privatePages e).length * recordBlocks (s.shape e.binding).rawRecord, mover := none, moving := (s.privatePages e).map fun l => (l.1, l.2.val) }) ∧
    ((s.obj 0x290004 = 0 ∨ s.dutyGone 2 = true ∨ s.dutyHeld 2 = true) → Runs .demotion s fun t => t = s) ∧
    (s.obj 0x290004 ≠ 0 → s.dutyGone 2 = false → s.dutyHeld 2 = false → Runs .demotion s fun t => t.source 0x017 = (s.source 0x017).arrive ∧ t.frames = s.frames ∧
      t.mem = s.mem ∧ t.reqs = s.reqs ∧ ∀ i e', Map.find t.seqs i = some e' → Map.find s.seqs i = some e' ∨ ∃ e, Map.find s.seqs i = some e ∧ e.st = .spilled ∧
        s.inFlight i = 0 ∧ e'.st = .flushing ∧ e'.prior = .spilled ∧ e'.mover = none)) ∧
  (∀ (s : State) (i : Instr) (all : Bool), (i = .sweepCandidates ∧ all = false ∨ i = .sweepAllPinned ∧ all = true) →
    (s.sweep.running = true → Runs i s fun t => t = { s with sweep := { s.sweep with all := s.sweep.all || all } }) ∧ (s.sweep.running = false → Runs i s fun t => t = { s with sweep := ⟨true, all, []⟩ })) ∧
  (∀ s : State, (s.sweep.running = false → Runs .sweepEnd s fun t => t = s) ∧
    (s.sweep.running = true → Map.wf s.frames → Runs .sweepEnd s fun t => t.sweep = {} ∧ t.seqs = s.seqs ∧
      ∀ k f, Map.find s.frames k = some f →
        let swept := f.count = pinned ∧ (s.sweep.all = true ∨ f.candidate = true)
        (swept → s.refsTo k = 0 → Map.find t.frames k = none) ∧
        (swept → s.refsTo k ≠ 0 → Map.find t.frames k = some { f with count := s.refsTo k, candidate := false }) ∧
        (¬ swept → Map.find t.frames k = some f)))

/-- An ABORT ends its target, finds it done, or waits on a tombstone; a QUERY reads what is committed. An ABORT that finds its target unclaimed ends it ABORTED by its tag and itself OK; one whose target's completion is claimed, or completed within the window, ends ALREADY_DONE naming it; one that matches nothing leaves a tombstone and waits, and ends ALREADY_DONE 02h when its window runs out, the tombstone with it. ABORT with selector 1 ends every unclaimed request on the sequence admitted before it and says how many. A QUERY ends OK with the tenant's usage and quotas, the sequence's summary or its layer counts, and changes nothing it reads. (R135, R191, R217, R218, R219, R220, R541) -/
def Obligations.AbortsWinLoseOrWaitAndQueriesAnswer : Prop :=
  (∀ (s : State) (r : Req) (tag : Nat) (i : Instr) (src : Src), (i = .abort r ∨ i = .abortAll r) → r.kind = 10 →
    Passes s r false false false 0 (abortBad r) → s.freeTag = some tag →
    let mine (e : Request) : Bool := abortable e.kind && decide (e.seqId = r.seqId)
    let g := (Map.getD s.gens tag 0 + 1) % 32768
    (bit (r.byte 24) 0 = false → abortTarget r = some src →
      (∀ k e, s.reqs.find? (fun x => mine x.2 && x.2.src.same src) = some (k, e) → e.seqId = r.seqId → Map.find s.reqs k = some e → e.src.isMirror = false →
        (e.claimed = true → Runs i s fun t => EndedAtOnce s t r tag ⟨.alreadyDone, 0, leBytes 4 (tagWord k e.gen)⟩) ∧
        (e.claimed = false → Runs i s fun t => Map.find t.reqs k = none ∧ Map.find t.reqs tag = none ∧ Answered t r.src tag g .ok ∧
          (s.host.master = true → ∃ data, Out.completion e.src k e.gen 8 0 (⟨.aborted, 0, leBytes 4 (tagWord tag g)⟩ : Answer).statusBody s.time e.replyAt data ∈ t.out))) ∧
      (s.reqs.find? (fun x => mine x.2 && x.2.src.same src) = none → (∀ h ∈ s.holds, h.2.req.seqId ≠ r.seqId) →
        (∀ k, s.kept.find? (fun k => decide (k.seqId = r.seqId) && k.src.same src && decide (s.since k.time ≤ s.obj 0x2B4301)) = some k →
          Runs i s fun t => EndedAtOnce s t r tag ⟨.alreadyDone, 0, leBytes 4 (tagWord k.tag k.gen)⟩) ∧
        (s.kept.find? (fun k => decide (k.seqId = r.seqId) && k.src.same src && decide (s.since k.time ≤ s.obj 0x2B4301)) = none →
          (∀ x ∈ s.tombs, x.src.same src = false) → s.tombs.length < 4096 → Runs i s fun t =>
            t.tombs = s.tombs ++ [⟨src, r.seqId, [tag], s.time⟩] ∧ t = { taken s r tag (admitted s r tag .running) with tombs := t.tombs }))) ∧
    (bit (r.byte 24) 0 = true → Runs i s fun t =>
      (∀ k e, Map.find s.reqs k = some e → mine e = true → e.claimed = false → k ≠ tag → e.order ≤ s.orderCtr → Map.find t.reqs k = none) ∧
      (∀ h, h ∈ t.holds → h.2.req.seqId = r.seqId → abortable h.2.req.kind = false) ∧ Map.find t.reqs tag = none ∧
      ∃ n, Answered t r.src tag g (.ok (leBytes 4 n)))) ∧
  (∀ (s : State) (w : Nat) (q : Request), (∃ x ∈ s.tombs, w ∈ x.waiters ∧ s.obj 0x2B4301 ≤ s.since x.since) → Map.find s.reqs w = some q → q.src.isMirror = false →
    Runs (.tombstoneExpiry w) s fun t => Ended s t w q ⟨.alreadyDone, 2, []⟩ ∧
      t.tombs = (s.tombs.map fun x => { x with waiters := x.waiters.filter fun y => y != w }).filter fun x => !x.waiters.isEmpty) ∧
  (∀ (s : State) (w : Nat), (∀ x ∈ s.tombs, w ∉ x.waiters ∨ s.since x.since < s.obj 0x2B4301) → Runs (.tombstoneExpiry w) s fun t => t = s) ∧
  (∀ (s : State) (r : Req) (tag : Nat) (i : Instr), (i = .querySummary r ∨ i = .queryLayerCounts r ∨ i = .queryTenantUsage r) → r.kind = 11 →
    Passes s r false false (decide (r.byte 20 ≠ 2)) 0 (s.queryBad r) → s.freeTag = some tag → s.dutyGone 1 = false →
    let sel := r.byte 20
    let c := s.charge r.tenant
    (s.dutyHeld 1 = true → Runs i s fun t => t = taken s r tag (admitted s r tag .held)) ∧
    (s.dutyHeld 1 = false → sel = 2 → Runs i s fun t => t.seqs = s.seqs ∧ t.charges = s.charges ∧ EndedAtOnce s t r tag (.ok (
      leBytes 4 (c.t1 + c.r1) ++ leBytes 4 (s.obj (tenantKey r.tenant 1)) ++ leBytes 4 (c.t2 + c.r2) ++ leBytes 4 (s.obj (tenantKey r.tenant 3)) ++
      leBytes 4 (c.t3 + c.r3) ++ leBytes 4 (s.obj (tenantKey r.tenant 4)) ++ leBytes 4 (s.tenantSeqs r.tenant)))) ∧
    (∀ e, s.dutyHeld 1 = false → sel ≠ 2 → Map.find s.seqs r.seqId = some e → Runs i s fun t =>
      Map.find t.seqs r.seqId = some { e with lastUse := s.time } ∧ t.frames = s.frames ∧ t.charges = s.charges ∧
      (sel = 1 → EndedAtOnce s t r tag (.ok (List.replicate 28 0 ++ e.counts.flatMap (leBytes 4)))) ∧
      (sel = 0 → EndedAtOnce s t r tag (.ok ([e.st.code, e.base] ++ leBytes 2 e.binding ++ leBytes 4 e.lowest ++ leBytes 4 e.highest ++
        leBytes 4 (s.privateFrames e) ++ leBytes 4 (s.sharedFrames e) ++ leBytes 4 e.t2 ++ leBytes 4 e.t3)))))

/-- A binding is enabled within its limits and changed only while unused; a weight set loads under its key and ends by its result. BINDING_ENABLE of a disabled binding sets the greatest group of heads whose two regions fit a page area and the groups that it gives, or the refusal reason 1 or 2. A disable or a shape write of a binding in use changes nothing; of any other it clears, or clears and sets. WEIGHT_LOAD without a weight key ends with result 3, with a share that no tier can hold with 4, and otherwise opens the segments under the key, places the shares of each layer for the arrays that take quarters, resident within the budget of weight frames, and is loading; WEIGHT_LOAD_END of a set whose tags, length and digest agree makes it loaded and measured and erases the key, of any other ends with result 2 and frees what it took. REFETCH_RESULT of a good block counts 2A00h.05, of a bad one 06h. (R144, R145, R152, R180, R181, R222, R253, R257, R409, R415, R416, R417) -/
def Obligations.BindingsAndWeightSets : Prop :=
  (∀ (s : State) (b : Binding),
    let sh := s.shape b
    let n := sh.headsPerGroup
    let off := s.obj (recKey 0x2B80 b 9) % 16 ≠ 1
    (¬ off → Runs (.bindingEnable b) s fun t => t = s) ∧
    (off → sh.legal = true → 0 < n → sh.layers * ((sh.kvHeads + n - 1) / n) ≤ 1024 → Runs (.bindingEnable b) s fun t =>
      t.obj (recKey 0x2B80 b 7) = n ∧ t.obj (recKey 0x2B80 b 8) = (sh.kvHeads + n - 1) / n ∧ t.obj (recKey 0x2B80 b 9) = 1 ∧ t = { s with regs := t.regs } ∧
      n ≤ 16 ∧ sh.keyRegion n + sh.valRegion n ≤ 12288 ∧ ∀ m, m ≤ 16 → sh.keyRegion m + sh.valRegion m ≤ 12288 → m ≤ n) ∧
    (off → (sh.legal = false ∨ 0 < n ∧ 1024 < sh.layers * ((sh.kvHeads + n - 1) / n)) → Runs (.bindingEnable b) s fun t =>
      t.obj (recKey 0x2B80 b 9) = 16 ∧ t = { s with regs := t.regs }) ∧
    (off → sh.legal = true → n = 0 → Runs (.bindingEnable b) s fun t => t.obj (recKey 0x2B80 b 9) = 32 ∧ t = { s with regs := t.regs }) ∧
    (s.bindingUsed b = true → (Runs (.bindingDisable b) s fun t => t = s) ∧ ∀ sub v, Runs (.bindingShapeWrite b sub v) s fun t => t = s) ∧
    (s.bindingUsed b = false → (Runs (.bindingDisable b) s fun t => t.obj (recKey 0x2B80 b 7) = 0 ∧ t.obj (recKey 0x2B80 b 8) = 0 ∧
        t.obj (recKey 0x2B80 b 9) = 0 ∧ t = { s with regs := t.regs }) ∧
      ∀ sub v, sub ∈ [1, 2, 3, 4, 5, 6, 0xB] → v ≤ objMax (recKey 0x2B80 b sub) → (sub = 0xB → v ≤ 1) → Runs (.bindingShapeWrite b sub v) s fun t =>
        t.obj (recKey 0x2B80 b sub) = v ∧ (¬ off → t.obj (recKey 0x2B80 b 9) = 0) ∧ t = { s with regs := t.regs })) ∧
  (∀ (s : State) (b : Binding) (header : List Nat) (segments sizes : List (List Nat)) (hasQ : Bool) (wFmt aFmt : Fin 16) (tables : Nat),
    s.dutyGone 2 = false → s.dutyHeld 2 = false → (s.weight b).loading = false →
    let c := Instr.weightLoad b header segments sizes hasQ wFmt aFmt tables
    let u := s.unloadWeights b
    ((s.weight b).loaded = false → u = { s with weights := u.weights }) ∧ (u.weight b).key = (s.weight b).key ∧
    ((s.weight b).key = none → Runs c s fun t => t.obj 0x2B3404 = 3 ∧ t.seqs = s.seqs ∧ t.frames = s.frames ∧ (t.weight b).loading = false) ∧
    (∀ k, (s.weight b).key = some k →
      let opened := openSegments k header segments
      let plain := opened.flatMap fun x => x.getD []
      let w : Weights := { u.weight b with loading := true, serial := fieldAt header 4 4, hasQ := hasQ, wFmt := wFmt, aFmt := aFmt, tables := tables, polders := u.sharePolders b hasQ, shares := [], intact := setIntact header opened, digest := leNat (sha3 plain) }
      let arrays := (u.shareQuarters b hasQ).map fun x => x.1
      let cut := sizes.map fun l => l.take arrays.length
      let dealt := (((cut.zipIdx.flatMap fun l => (arrays.zip l.1).map fun x => (l.2, x.1, x.2)).zip (cutRuns plain cut.flatten)).map fun x => (x.1.1, x.1.2.1, x.2))
      ((u.setWeight b w).placeShares b dealt = none → Runs c s fun t => t.obj 0x2B3404 = 4 ∧ (t.weight b).loading = false ∧ (t.weight b).shares = []) ∧
      (∀ s', (u.setWeight b w).placeShares b dealt = some s' → Runs c s fun t => t = s' ∧
        t.weight b = { w with shares := (t.weight b).shares } ∧ ((t.weight b).shares.map fun h => (h.layer, h.array, h.coded)) = dealt.map (fun x => (x.1, x.2.1, x.2.2.length)) ∧
        ∀ p, p < 8 → (t.polder p).weightFrames ≤ max (s.obj 0x290008) (u.polder p).weightFrames))) ∧
  (∀ (s : State) (b : Binding),
    ((s.weight b).loading = false → Runs (.weightLoadEnd b) s fun t => t = s) ∧
    ((s.weight b).loading = true → (s.weight b).intact = true → Runs (.weightLoadEnd b) s fun t =>
      t.weight b = { s.weight b with loading := false, loaded := true, key := none, intact := false, digest := 0 } ∧ t.obj 0x2B3404 = 0 ∧ t.sec.count = s.sec.count + 1 ∧
      Map.find t.sec.meas (measWeights b) = some ⟨6, b, (s.weight b).serial, s.time, (s.weight b).digest⟩ ∧ t = { s with weights := t.weights, sec := t.sec, regs := t.regs }) ∧
    ((s.weight b).loading = true → (s.weight b).intact = false → Runs (.weightLoadEnd b) s fun t => t.weight b = {} ∧ t.obj 0x2B3404 = 2 ∧
      t.seqs = s.seqs ∧ t.frames = s.frames ∧ ∀ p, (t.polder p).weightFrames ≤ (s.polder p).weightFrames)) ∧
  (∀ (s : State) (b : Binding) (i key : Nat) (good : Bool),
    let counted (t : State) := t.obj (if good then 0x2A0005 else 0x2A0006) = min (s.obj (if good then 0x2A0005 else 0x2A0006) + 1) (2 ^ 32 - 1)
    (∀ tags, Runs (.refetchResult (.weight b tags) good) s fun t => counted t ∧ t.obj 0x2B3405 = min (s.obj 0x2B3405 + 1) (2 ^ 32 - 1) ∧
      (∀ k ∈ tags, Map.find t.reqs k = none) ∧ (good = true → t.weights = s.weights) ∧ (good = false → t.obj 0x2B3404 = 1 ∧ (t.weight b).loaded = false)) ∧
    (∀ m, (m = .copy i key ∨ m = .restore i key) → Runs (.refetchResult m good) s fun t => counted t ∧ (good = true → t.seqs = s.seqs) ∧
      ∀ e x, good = false → Map.find s.seqs i = some e → Map.find e.stored key = some x → ∃ e' x', Map.find t.seqs i = some e' ∧
        Map.find e'.stored key = some x' ∧ x' = { x with lost := true }))

/-- A drive is initialised, refused, withdrawn, taken offline and initialised again as its events say. NVME_COMPLETION of an initialisation that a drive answers makes it ready with its extents of 1 024 blocks, extent 0 left out, or refused with the reason: 1 no NVM controller, 3 no namespace 1, 2 another data or metadata size, 4 over 64 TB. Of a ready drive, an end of Writes notes the image as written, a drive with a volatile cache being flushed first; a failed command fails the move it belongs to; the health log's figures are taken and a rise in errors raised. A command that times out is aborted and counted, that of a move no sooner than the command timeout after it went out, and the set number of them withdraws the drive with reason 7; a fatal status withdraws it with 6 and a lost link with 8: its images are marked lost, its shares are gone and it has no extents. DRIVE_OFFLINE is refused while anything is held on it or it is absent; DRIVE_REINITIALISE takes a withdrawn or offline drive back; an initialisation that times out is refused with 5. (R234, R235, R236, R237, R258, R261, R376, R514) -/
def Obligations.DrivesComeAndGo : Prop :=
  ∀ (s : State) (d : Drive),
    let x := s.drive d
    let fired (t : State) := t.source (0xF0 + 4 * d) = (s.source (0xF0 + 4 * d)).arrive
    (∀ cmd r, (x.st = .absent ∨ x.st = .initialising) →
      (r.refusal = 0 → Runs (.nvmeCompletion d cmd true r) s fun t => t.drive d = { x with st := .ready, reason := 0, link := r.link % 256, total := r.blocks / 1024 - 1, used := [], cleared := [], cache := r.cache, wear := (t.drive d).wear } ∧
        (r.health = none → fired t ∧ (t.drive d).wear = x.wear ∧ t = { s with drives := t.drives, gath := t.gath }) ∧ t = { s with drives := t.drives, gath := t.gath, regs := t.regs }) ∧
      (r.refusal ≠ 0 → Runs (.nvmeCompletion d cmd true r) s fun t => t.drive d = { x with st := .refused, reason := r.refusal, link := r.link % 256 } ∧ fired t ∧
        t = { s with drives := t.drives, gath := t.gath }) ∧
      (Runs (.nvmeCompletion d cmd false r) s fun t => t.drive d = { x with link := r.link % 256 } ∧ t = { s with drives := t.drives }) ∧
      (Runs (.driveInitialisationTimeout d) s fun t => t.drive d = { x with st := .refused, reason := 5 } ∧ fired t ∧
        t = { s with drives := t.drives, gath := t.gath })) ∧
    (∀ r : NvmeReply, (r.controller = false → r.refusal = 1) ∧ (r.controller = true → r.nsid = false → r.refusal = 3) ∧
      (r.controller = true → r.nsid = true → r.data ≠ 4096 ∨ r.meta_ ≠ 0 → r.refusal = 2) ∧
      (r.controller = true → r.nsid = true → r.data = 4096 → r.meta_ = 0 → r.refusal = if 64 * 10 ^ 12 < r.blocks * 4096 then 4 else 0)) ∧
    (x.st ≠ .absent → x.st ≠ .initialising → Runs (.driveInitialisationTimeout d) s fun t => t = s) ∧
    (∀ cmd (r : NvmeReply) errors wear ok, x.st = .ready → Map.find s.seqs cmd = none → r.health = some (errors, wear) → Runs (.nvmeCompletion d cmd ok r) s fun t =>
      t.drive d = { x with wear := wear % 256 } ∧ t.obj (recKey 0x2910 d 8) = min errors (2 ^ 32 - 1) ∧
      t.source (0xF0 + 4 * d + 2) = (if s.obj (recKey 0x2910 d 8) < min errors (2 ^ 32 - 1) then (s.source (0xF0 + 4 * d + 2)).arrive else s.source (0xF0 + 4 * d + 2)) ∧
      t = { s with drives := t.drives, regs := t.regs, gath := t.gath }) ∧
    (∀ cmd (r : NvmeReply), x.st = .ready → r.health = none →
      (∀ e, Map.find s.seqs cmd = some e → e.st = .flushing → e.drive = d.val → Runs (.nvmeCompletion d cmd true r) s fun t =>
        Map.find t.seqs cmd = some (if e.written = 0 ∧ x.cache = true then { e with written := 1, since := s.time } else { e with written := 2 }) ∧
        t.out = (if e.written = 0 ∧ x.cache = true then [.nvme d 0] else []) ++ s.out ∧ t = { s with seqs := t.seqs, out := t.out }) ∧
      ((∀ e, Map.find s.seqs cmd = some e → e.st ≠ .flushing ∨ e.drive ≠ d.val) → Runs (.nvmeCompletion d cmd true r) s fun t => t = s) ∧
      (s.movesOn cmd d = false → Runs (.nvmeCompletion d cmd false r) s fun t => t = s) ∧
      (s.movesOn cmd d = true → Runs (.nvmeCompletion d cmd false r) s fun t => ∃ e e', Map.find s.seqs cmd = some e ∧ Map.find t.seqs cmd = some e' ∧ e'.st = e.prior)) ∧
    (∀ cmd ok r, (x.st = .refused ∨ x.st = .withdrawn ∨ x.st = .offline) → Runs (.nvmeCompletion d cmd ok r) s fun t => t = s) ∧
    (∀ cmd, x.st = .ready → (∃ e, s.movesOn cmd d = true ∧ Map.find s.seqs cmd = some e ∧ s.since e.since < s.obj 0x292001) → Runs (.nvmeCommandTimeout d cmd) s fun t => t = s) ∧
    (∀ cmd, x.st = .ready → x.timeouts + 1 < s.obj 0x292002 → s.movesOn cmd d = false → Runs (.nvmeCommandTimeout d cmd) s fun t =>
      t.drive d = { x with timeouts := x.timeouts + 1 } ∧ t.out = .nvme d 8 :: s.out ∧
      t.obj (recKey 0x2910 d 7) = min (s.obj (recKey 0x2910 d 7) + 1) (2 ^ 32 - 1) ∧ t.source (0xF0 + 4 * d + 1) = (s.source (0xF0 + 4 * d + 1)).arrive ∧
      t = { s with drives := t.drives, regs := t.regs, gath := t.gath, out := t.out, sched := t.sched }) ∧
    (∀ i reason, (x.st = .ready ∨ x.st = .initialising) → (i = .driveFatalStatus d ∧ reason = 6 ∨ i = .driveLinkLost d ∧ reason = 8 ∨
        (∃ cmd, i = .nvmeCommandTimeout d cmd ∧ x.st = .ready ∧ (s.movesOn cmd d = true → ∀ e, Map.find s.seqs cmd = some e → s.obj 0x292001 ≤ s.since e.since) ∧ s.obj 0x292002 ≤ x.timeouts + 1) ∧ reason = 7) → Runs i s fun t =>
      (t.drive d).st = .withdrawn ∧ (t.drive d).reason = reason ∧ (t.drive d).images = [] ∧ (t.drive d).weights = [] ∧
      (t.drive d).total = 0 ∧ (t.drive d).used = [] ∧ ∀ k e, Map.find s.seqs k = some e → e.st = .flushed → e.drive = d.val → ∃ e', Map.find t.seqs k = some e' ∧
        e'.st = .flushed ∧ e'.extents = [] ∧ ∀ y ∈ e'.stored, y.2.lost = true) ∧
    (∀ i, x.st ≠ .ready → x.st ≠ .initialising → (i = .driveFatalStatus d ∨ i = .driveLinkLost d ∨ ∃ cmd, i = .nvmeCommandTimeout d cmd) → Runs i s fun t => t = s) ∧
    (s.dutyDown 2 = false → x.images = [] → x.weights = [] → x.st ≠ .absent → Runs (.driveOffline d) s fun t => t.drive d = { x with st := .offline } ∧ fired t ∧
      t = { s with drives := t.drives, gath := t.gath }) ∧
    (s.dutyDown 2 = true ∨ x.images ≠ [] ∨ x.weights ≠ [] ∨ x.st = .absent → Runs (.driveOffline d) s fun t => t = s) ∧
    (s.dutyDown 2 = false → (x.st = .withdrawn ∨ x.st = .offline) → Runs (.driveReinitialise d) s fun t =>
      t.drive d = { x with st := .initialising, reason := 0, timeouts := 0 } ∧ fired t ∧ t = { s with drives := t.drives, gath := t.gath }) ∧
    (s.dutyDown 2 = true ∨ (x.st ≠ .withdrawn ∧ x.st ≠ .offline) → Runs (.driveReinitialise d) s fun t => t = s)

/-- A port's state changes as R277's table says and only so. Each event of R277 moves its port from the table's state to the table's next, fires the port's source, and in any other state changes nothing but what it itself writes: an enable after the start has reached the fabric trains a DISABLED port, a disable takes any other to DISABLED with reason 07h, lanes trained, lock, a time-out (2 s in training, 1 ms without lock), a lost lock, more than 2500h.04 uncorrectable codewords, silence and another neighbour go where the table says, and HOLD is left for training while enabled. Every entry into HOLD counts a flap, records its reason and loses the neighbour; its hold-down is 1 ms on the first. The codewords that the FEC corrected and could not correct are counted. A port is silent once nothing valid has come for 2500h.03, and its hold-down has run out after its milliseconds. HELLOs repeat on a port that is in HELLO or ACTIVE, under its next number, and CREDITs on one that is ACTIVE: each is a link-control frame that leaves at once, or, where one has left since the last packet and packets wait, after the next. (R274, R275, R276, R277, R278, R279, R281, R292, R376, R514) -/
def Obligations.PortsChangeStateByTheTable : Prop :=
  ∀ (s : State) (n : Port),
    let x := s.port n
    let k (sub : Nat) := recKey 0x2510 n sub
    let fired (t : State) := t.source (0xC0 + 4 * n) = (s.source (0xC0 + 4 * n)).arrive
    let only (t : State) := t = { s with ports := t.ports, regs := t.regs, gath := t.gath }
    let down (i : Instr) (reason : Nat) := Runs i s fun t => (t.port n).st = .hold ∧ (t.port n).nbr = none ∧ (t.port n).heard = false ∧
      (x.lastHold = none → (t.port n).holdMs = 1) ∧ (t.port n).lastHold = some s.time ∧ t.obj (k 0xE) = reason ∧ t.log.entries.head? = some ⟨s.time, 4, 2, n, 0, reason⟩ ∧
      t.obj (k 7) = min (s.obj (k 7) + 1) (2 ^ 32 - 1) ∧ t.mem = s.mem ∧ t.seqs = s.seqs ∧ t.reqs = s.reqs ∧
      (x.st ≠ .active → fired t ∧ ∀ m, m ≠ n.val → t.port m = s.port m)
    let still (i : Instr) := Runs i s fun t => t = s
    let ctl (t : State) (c : Packet) (y : PortSt) := if (x.ctlSent && s.packetsWait n) = true then t = s.setPort n { y with ctl := y.ctl ++ [c] }
      else t = { s.setPort n { y with ctlSent := true } with out := .packet n c :: s.out }
    let grants (f : Nat → Nat) := s.controlFrame 2 ((List.range 8).flatMap fun c => leBytes 4 (f c))
    (Runs (.portEnable n) s fun t => t.obj (k 2) = 1 ∧ only t ∧
      (x.st = .disabled → s.start.portsUp = true → t.port n = { x with st := .training, since := s.time } ∧ fired t) ∧ (x.st ≠ .disabled ∨ s.start.portsUp = false → t.ports = s.ports)) ∧
    (decide (s.obj 0x250001 = 1) = s.pair.mode → Runs (.portDisable n) s fun t => t.obj (k 2) = 0 ∧ (x.st = .disabled → only t ∧ t.ports = s.ports) ∧
      (x.st ≠ .disabled → (t.port n).st = .disabled ∧ (t.port n).nbr = none ∧ t.obj (k 0xE) = 7 ∧ t.mem = s.mem ∧ t.seqs = s.seqs) ∧
      (x.st ≠ .disabled → x.st ≠ .active → fired t ∧ only t)) ∧
    (x.st = .training → Runs (.lanesTrained n) s fun t => t.port n = { x with st := .pcsUp, since := s.time } ∧ fired t ∧ only t) ∧ (x.st ≠ .training → still (.lanesTrained n)) ∧
    (x.st = .pcsUp → Runs (.pcsLock n) s fun t => t.port n = { x with st := .hello, nbr := none, hellos := 0, heard := false } ∧ fired t ∧ only t) ∧
    (x.st ≠ .pcsUp → still (.pcsLock n)) ∧
    (x.st = .training → 2000000 ≤ s.since x.since → down (.portStateTimeout n) 6) ∧ (x.st = .pcsUp → 1000 ≤ s.since x.since → down (.portStateTimeout n) 2) ∧
    ((x.st ≠ .training ∨ s.since x.since < 2000000) → (x.st ≠ .pcsUp ∨ s.since x.since < 1000) → still (.portStateTimeout n)) ∧
    (∀ a b, (x.st = .active → s.obj 0x250004 < b → down (.fecDegrade n a b) 3) ∧
      (x.st ≠ .active ∨ b ≤ s.obj 0x250004 → Runs (.fecDegrade n a b) s fun t => t = { s with regs := t.regs } ∧ t.obj (k 8) = (s.obj (k 8) + a) % 2 ^ 64 ∧
        t.obj (k 9) = min (s.obj (k 9) + b) (2 ^ 32 - 1))) ∧
    (x.st = .active → down (.lossOfLock n false) 1 ∧ down (.lossOfLock n true) 2 ∧ (s.obj 0x250003 ≤ s.since x.lastRx → down (.livenessTimeout n) 4) ∧
      ∀ h, (∀ o, x.nbr = some o → o.digest ≠ h.digest ∨ o.node ≠ h.node) → down (.hello n h) 5) ∧
    (x.st ≠ .active → still (.lossOfLock n false) ∧ still (.lossOfLock n true)) ∧ (x.st ≠ .active ∨ s.since x.lastRx < s.obj 0x250003 → still (.livenessTimeout n)) ∧
    (x.st = .hold → s.obj (k 2) = 1 → 1000 * x.holdMs ≤ s.since (x.lastHold.getD 0) → Runs (.holdDownExpiry n) s fun t => t.port n = { x with st := .training, since := s.time } ∧ fired t ∧ only t) ∧
    (x.st ≠ .hold ∨ s.obj (k 2) ≠ 1 ∨ s.since (x.lastHold.getD 0) < 1000 * x.holdMs → still (.holdDownExpiry n)) ∧
    (∀ h o, x.st = .active → x.nbr = some o → o.digest = h.digest → o.node = h.node → Runs (.hello n h) s fun t => t = s.setPort n { x with nbr := some h, lastRx := s.time }) ∧
    (∀ h, x.st ≠ .active → x.st ≠ .hello → Runs (.hello n h) s fun t => t = s.setPort n { x with lastRx := s.time }) ∧
    (∀ h, x.st = .hello → (∀ o, x.nbr = some o → o.digest ≠ h.digest ∨ o.node ≠ h.node) → Runs (.hello n h) s fun t =>
      t.port n = { x with nbr := some h, hellos := 1, heard := true, lastRx := s.time } ∧ t.obj (k 5) = h.digest ∧ t = { s with ports := t.ports, regs := t.regs }) ∧
    (∀ h o, x.st = .hello → x.nbr = some o → o.digest = h.digest → o.node = h.node →
      let up := 1 ≤ x.hellos ∧ h.ready = true ∧ h.heard = true ∧ s.ownReady = true ∧ domainOf h.node = domainOf s.me
      (¬ up → Runs (.hello n h) s fun t => t = s.setPort n { x with nbr := some h, hellos := x.hellos + 1, heard := true, lastRx := s.time }) ∧
      (up → s.pairLink n = false → s.sched.waiting = [] → Runs (.hello n h) s fun t => (t.port n).st = .active ∧ (t.port n).activeSince = s.time ∧ (t.port n).consumed = [] ∧
        (t.port n).rxGranted = (List.range 8).map (s.allocation n) ∧ ((x.ctlSent && s.packetsWait n) = false → t.out.head? = some (.packet n (grants (s.allocation n)))) ∧
        ((x.ctlSent && s.packetsWait n) = true → (t.port n).ctl = x.ctl ++ [grants (s.allocation n)]) ∧ fired t) ∧
      (up → s.pairLink n = true → s.pairRules n h = false → Runs (.hello n h) s fun t => t.port n = { x with nbr := some h, hellos := x.hellos + 1, heard := true, lastRx := s.time } ∧
        t.obj (k 0xE) = 8 ∧ t = { s with ports := t.ports, regs := t.regs }) ∧
      (up → s.pairLink n = true → s.pairRules n h = true → s.sched.waiting = [] → Runs (.hello n h) s fun t => (t.port n).st = .active ∧ t.pair.partner = h.node ∧
        (s.pair.st = .off → t.pair.st = .forming ∧ t.source 3 = (s.source 3).arrive) ∧ (s.pair.st ≠ .off → t.pair.st = s.pair.st))) ∧
    (x.st = .hello ∨ x.st = .active → Runs (.helloTimer n) s fun t => ctl t (s.controlFrame 1 (s.ownHello n).bytes) { x with seq := (x.seq + 1) % 65536 }) ∧
    (x.st ≠ .hello → x.st ≠ .active → still (.helloTimer n)) ∧
    (x.st = .active → Runs (.creditTimer n) s fun t => ctl t (grants (nth x.rxGranted)) { x with returned := [] }) ∧
    (x.st ≠ .active → still (.creditTimer n) ∧ ∀ g, still (.credit n g)) ∧
    (∀ g, x.st = .active → s.sched.waiting = [] → Runs (.credit n g) s fun t => t = s.setPort n { x with granted := g.map (· % 2 ^ 32), lastRx := s.time })

/-- A received packet goes through the tests in order; routes, marks and contexts change by their commands. A packet received by an ACTIVE port is counted; one beyond its class's granted units, or that fails its check, is discarded and counted at the port, with a failed check the rest of its 400GMII frame too (that a port which is not ACTIVE takes nothing is the model's choice, log entry 53); for another domain or node 0 it is discarded and counted in 2600h.09, with no route in 2600h.07, with hop limit 0 in 2600h.08; a good one for another node goes to the eligible hop chosen with its hop limit lowered, and one of a message for this node joins its context. A NODE_ID_WRITE that would change an assigned node is refused while a port is not DISABLED; ROUTING_COMMIT switches the banks unless a hop is reserved; a PATH_DOWN marks its port for its destination until 2600h.05 after the latest; a reassembly time-out, 2700h.06 after it opened, discards its context. (R265, R266, R267, R272, R274, R280, R284, R285, R286, R287, R295, R299) -/
def Obligations.PacketsAreTestedForwardedAndReassembled : Prop :=
  (∀ (s : State) (n : Port) (first cut : Bool) (k : Packet), (s.port n).st = .active → first = true ∨ (s.port n).rxLost = false → k.version = 1 → k.ptype = 0 → s.me ≠ 0 →
    let x := s.port n
    let u := (40 + k.len + 255) / 256
    let room := u ≤ gap (nth x.rxGranted k.cls) (nth x.rxConsumed k.cls)
    let count (key : Nat) (t : State) := t.obj key = min (s.obj key + 1) (2 ^ 32 - 1)
    let quiet (t : State) := t.contexts = s.contexts ∧ t.sched.queues = s.sched.queues ∧ t.miss = s.miss ∧ t.mem = s.mem ∧ t.seqs = s.seqs ∧ t.reqs = s.reqs
    (¬ room → Runs (.packetReceive n first cut k) s fun t => count (recKey 0x2510 n 0xA) t ∧ (t.port n).rxConsumed = x.rxConsumed ∧ (t.port n).rxGranted = x.rxGranted ∧ quiet t) ∧
    (room → k.ok = false → Runs (.packetReceive n first cut k) s fun t => count (recKey 0x2510 n 0xA) t ∧ quiet t ∧
      (t.port n).rxConsumed = setNth x.rxConsumed k.cls ((nth x.rxConsumed k.cls + u) % 2 ^ 32) ∧ nth (t.port n).rxGranted k.cls = (nth x.rxGranted k.cls + u) % 2 ^ 32 ∧ (t.port n).rxLost = true) ∧
    (room → k.ok = true → k.dst ≠ s.me → (k.dst = 0 ∨ k.dst = 0xFFFFF ∨ domainOf k.dst ≠ domainOf s.me) → Runs (.packetReceive n first cut k) s fun t => count 0x260009 t ∧ quiet t) ∧
    (room → k.ok = true → k.dst ≠ s.me → k.dst ≠ 0 → k.dst ≠ 0xFFFFF → domainOf k.dst = domainOf s.me →
      (s.routeEntry k.dst % 16 = 15 → Runs (.packetReceive n first cut k) s fun t => count 0x260007 t ∧ quiet t) ∧
      (s.routeEntry k.dst % 16 ≠ 15 → k.hop = 0 → Runs (.packetReceive n first cut k) s fun t => count 0x260008 t ∧ quiet t) ∧
      (∀ m, s.routeEntry k.dst % 16 ≠ 15 → k.hop ≠ 0 → s.chooseHop { k with hop := k.hop - 1 } (some n) = .go m → Runs (.packetReceive n first cut k) s fun t =>
        (s.port m).st = .active ∧ m ≠ n ∧ Map.has s.downMarks (downKey m k.dst) = false ∧ u ≤ (s.port m).avail k.cls ∧
        Map.getD t.sched.queues (m * 8 + k.cls) [] = Map.getD s.sched.queues (m * 8 + k.cls) [] ++
          [{ len := k.len + 40, pkt := some { k with hop := k.hop - 1 }, inPort := some n }] ∧ t.contexts = s.contexts)) ∧
    (room → k.ok = true → k.dst = s.me → k.polSel = 15 → k.kind = 1 → k.enc = false → s.contexts = [] → k.total ≤ 1048576 → k.off + k.len < k.total → 0 < k.len →
      Runs (.packetReceive n first cut k) s fun t => t.contexts = [{ source := k.src, msg := k.msg, total := k.total, kind := k.kind, kindWord := k.kindWord, sel := k.srcSel, ranges := [(k.off, k.len)], parts := [(k.off, k.data)], opened := s.time }] ∧ t.mem = s.mem ∧ t.reqs = s.reqs)) ∧
  (∀ (s : State) (n : Port) (first cut : Bool) (k : Packet), (s.port n).st ≠ .active ∨ first = false ∧ (s.port n).rxLost = true → Runs (.packetReceive n first cut k) s fun t =>
    t = if first then s.setPort n { s.port n with rxLost := false } else s) ∧
  (∀ (s : State) (node : Nat),
    (node = 0xFFFFF → Runs (.nodeIdWrite node) s fun t => t = s) ∧
    (node ≠ 0xFFFFF → (s.me = 0 ∨ node = s.me ∨ ∀ e ∈ s.ports, e.2.st = .disabled) → Runs (.nodeIdWrite node) s fun t => t.me = node ∧ t = { s with regs := t.regs }) ∧
    (s.me ≠ 0 → node ≠ s.me → (∃ e ∈ s.ports, e.2.st ≠ .disabled) → Runs (.nodeIdWrite node) s fun t => t = s)) ∧
  (∀ s : State,
    let shadow := if s.bank then s.routes0 else s.routes1
    let reserved := ∃ e ∈ shadow, ∃ h ∈ hopsAt e.2 0 ++ hopsAt e.2 16, 12 ≤ h ∧ h ≤ 14
    (reserved → Runs .routingCommit s fun t => t = s) ∧
    (¬ reserved → s.sched.waiting = [] → Runs .routingCommit s fun t => t = { s with bank := !s.bank, routed := true })) ∧
  (∀ (s : State) (n : Port) (dst : Nat), s.sched.waiting = [] →
    (Runs (.pathDown n dst) s fun t => Map.find t.downMarks (downKey n dst) = some s.time ∧ (∀ k, k ≠ downKey n dst → Map.find t.downMarks k = Map.find s.downMarks k) ∧
      t.obj 0x26000B = min (s.obj 0x26000B + 1) (2 ^ 32 - 1) ∧ t = { s.setPort n { s.port n with lastRx := s.time } with downMarks := t.downMarks, regs := t.regs }) ∧
    (∀ at_, Map.find s.downMarks (downKey n dst) = some at_ → s.obj 0x260005 ≤ s.since at_ → Runs (.pathDownHoldExpiry n dst) s fun t =>
      Map.find t.downMarks (downKey n dst) = none ∧ (∀ k, k ≠ downKey n dst → Map.find t.downMarks k = Map.find s.downMarks k) ∧ t = { s with downMarks := t.downMarks }) ∧
    ((∀ at_, Map.find s.downMarks (downKey n dst) = some at_ → s.since at_ < s.obj 0x260005) → Runs (.pathDownHoldExpiry n dst) s fun t => t = s)) ∧
  (∀ (s : State) (source msg : Nat),
    let mine (c : Context) := c.source = source ∧ c.msg = msg ∧ s.obj 0x270006 ≤ s.since c.opened
    ((∀ c ∈ s.contexts, ¬ mine c) → Runs (.reassemblyTimeout source msg) s fun t => t = s) ∧
    ((∃ c ∈ s.contexts, mine c) → (∀ e ∈ s.ports, e.2.held = []) → Runs (.reassemblyTimeout source msg) s fun t =>
      (∀ c, c ∈ t.contexts ↔ c ∈ s.contexts ∧ ¬ mine c) ∧ t.obj 0x270007 = min (s.obj 0x270007 + 1) (2 ^ 32 - 1) ∧ t.source 0x014 = (s.source 0x014).arrive ∧ t.mem = s.mem))

/-- A conduit end is bound, acknowledged, retried, closed and freed as its messages and controls say. An OPEN that finds no end bound to it binds the lowest CLOSED end, READY, to its opener with its number, generation and window; an OPEN_ACK makes an OPENING end READY, or puts it in ERROR with reason 2 or 3; an ACK takes off every sent message that it covers; a message for no bound end is counted. A CLOSE frees an end with nothing outstanding and else closes it later. A retry sends its message again once its wait, 20 microseconds doubled after each transmission, has passed, or after the ninth transmission puts the end in ERROR with reason 1 (4 for an OPEN), which drops what is unplaced and raises its event. The controls open a CLOSED end with a node, close a READY one and free one in ERROR, and else change nothing. (R300, R301, R303, R304, R305, R306, R307, R308, R309, R310, R311) -/
def Obligations.ConduitsOpenAcknowledgeRetryAndClose : Prop :=
  (∀ (s : State) (h : CHdr) (node window c : Nat), (∀ e ∈ s.conduits, ¬ (e.2.st = .ready ∧ e.2.node = node ∧ e.2.peer = h.peer ∧ e.2.gen = h.gen)) →
    s.freeConduit = some c → s.conduitRoom = true → NothingWaits s node → Runs (.openMsg h node window) s fun t =>
      (∃ x, t.conduit c = x ∧ x.st = .ready ∧ x.node = node ∧ x.peer = h.peer ∧ x.gen = h.gen ∧ x.window = max 1 (min 32 window) ∧ x.granted = h.grant ∧ x.unplaced = []) ∧
      Sent s t (.conduit c 2 0 0) ∧ (s.conduit c).st = .closed ∧ t.mem = s.mem ∧ t.reqs = s.reqs ∧ t.seqs = s.seqs) ∧
  (∀ (s : State) (h : CHdr) (node window : Nat), (∀ e ∈ s.conduits, e.2.st ≠ .ready) → s.freeConduit = none → Runs (.openMsg h node window) s fun t =>
    t.conduits = s.conduits ∧ Sent s t (.conduit h.peer 2 0 1)) ∧
  (∀ (s : State) (h : CHdr) (node code : Nat),
    let x := s.conduit h.conduit
    (x.st = .closed ∨ x.gen ≠ h.gen → Runs (.openAck h node code) s fun t => t = s.bump 0x270008) ∧
    (x.st ≠ .closed → x.st ≠ .opening → x.gen = h.gen → Runs (.openAck h node code) s fun t => t = s) ∧
    (x.st = .opening → x.gen = h.gen → code = 0 → NothingWaits s x.node → Runs (.openAck h node code) s fun t =>
      t = s.setConduit h.conduit { x with st := .ready, peer := h.peer, granted := h.grant, tries := 0 }) ∧
    (x.st = .opening → x.gen = h.gen → code ≠ 0 → Runs (.openAck h node code) s fun t => (t.conduit h.conduit).st = .error ∧
      (t.conduit h.conduit).reason = (if code = 1 then 2 else 3) ∧ (t.conduit h.conduit).unplaced = [])) ∧
  (∀ (s : State) (h : CHdr) (i : Instr), s.heard h = false → (i = .ack h ∨ i = .close h ∨ ∃ u hdr data, i = .putPage h u hdr data) → Runs i s fun t =>
    t.obj 0x270008 = min (s.obj 0x270008 + 1) (2 ^ 32 - 1) ∧ t = { s with regs := t.regs }) ∧
  (∀ (s : State) (h : CHdr), s.heard h = true → Map.wf (s.conduit h.conduit).unplaced → (∀ m ∈ (s.conduit h.conduit).unplaced, m.2.op ≠ 9) → Runs (.ack h) s fun t =>
    (∀ k m, Map.find (s.conduit h.conduit).unplaced k = some m → m.tries ≠ 0 → covers h k = true → Map.find (t.conduit h.conduit).unplaced k = none) ∧
    t.mem = s.mem ∧ t.seqs = s.seqs ∧ t.reqs = s.reqs ∧ t.stage = s.stage) ∧
  (∀ (s : State) (h : CHdr), s.heard h = true → (s.conduit h.conduit).st = .ready → (s.conduit h.conduit).unplaced = [] → (s.conduit h.conduit).closing = false →
    (s.conduit h.conduit).judge h.seq = .fresh → Runs (.close h) s fun t =>
      t.conduit h.conduit = (s.conduit h.conduit).freed ∧ (t.conduit h.conduit).st = .closed ∧ t.seqs = s.seqs ∧ t.reqs = s.reqs) ∧
  (∀ (s : State) (c seq : Nat),
    let x := s.conduit c
    (∀ m, seq ≠ 0 → x.st = .ready → Map.find x.unplaced seq = some m → m.tries ≠ 0 →
      (s.waited m.last m.tries = false → Runs (.conduitRetry c seq) s fun t => t = s) ∧ (s.waited m.last m.tries = true →
      (m.tries < 9 → Runs (.conduitRetry c seq) s fun t => (∃ m', Map.find (t.conduit c).unplaced seq = some m' ∧ m'.tries = m.tries + 1 ∧ m'.op = m.op ∧ m'.body = m.body ∧ m'.msg = m.msg ∧ m'.last = s.time) ∧
        t.obj 0x27000C = min (s.obj 0x27000C + 1) (2 ^ 32 - 1) ∧ Sent s t (.conduit c m.op seq m.word) ∧ t.seqs = s.seqs ∧ t.reqs = s.reqs) ∧
      (9 ≤ m.tries → Runs (.conduitRetry c seq) s fun t => (t.conduit c).st = .error ∧ (t.conduit c).reason = 1 ∧ (t.conduit c).unplaced = []))) ∧
    (∀ i, (i = .noAnswerToOpen c ∨ i = .conduitRetry c 0) → x.st = .opening →
      (s.waited x.use x.tries = false → Runs i s fun t => t = s) ∧
      (s.waited x.use x.tries = true → x.tries < 9 → Runs i s fun t => t.conduit c = { x with tries := x.tries + 1, use := s.time } ∧ Sent s t (.conduit c 1 0 (openWord x.window x.grant))) ∧
      (s.waited x.use x.tries = true → 9 ≤ x.tries → Runs i s fun t => (t.conduit c).st = .error ∧ (t.conduit c).reason = 4)) ∧
    (x.st = .closed → x.unplaced = [] → Runs (.noAnswerToOpen c) s fun t => t = s)) ∧
  (∀ s : State,
    let c := s.obj 0x270101
    let x := s.conduit c
    (x.st = .closed → x.node ≠ 0 → s.conduitRoom = true → s.onDieRecords < 16384 → Runs .conduitOpenControl s fun t => (t.conduit c).st = .opening ∧ (t.conduit c).node = x.node ∧
      (t.conduit c).gen = (Config.freeValue s.freeCtr).toNat % 65536 ∧ t.freeCtr = s.freeCtr + 1 ∧ Sent s t (.conduit c 1 0 (openWord x.window x.grant))) ∧
    (x.st ≠ .closed ∨ x.node = 0 ∨ s.conduitRoom = false → Runs .conduitOpenControl s fun t => t = s) ∧
    (x.st = .ready → x.closing = false → x.next < 2 ^ 32 → Map.find x.unplaced x.next = none → Runs .conduitCloseControl s fun t => (t.conduit c).closing = true ∧
      ∃ m, Map.find (t.conduit c).unplaced x.next = some m ∧ m.op = 0x0A ∧ m.body = []) ∧
    (x.st ≠ .ready ∨ x.closing = true → Runs .conduitCloseControl s fun t => t = s) ∧
    (x.st = .error → Runs .conduitResetControl s fun t => t = s.setConduit c { node := x.node, clsKey := x.clsKey, window := x.window, grant := x.grant, writes := x.writes }) ∧
    (x.st ≠ .error → Runs .conduitResetControl s fun t => t = s)) ∧
  (∀ (s : State) (c ns : Nat), ((s.conduit c).onDie = true ∨ s.makeRoom.roomOnDie = false → Runs (.missFetchDone c ns) s fun t => t = s) ∧
    ((s.conduit c).onDie = false → s.makeRoom.roomOnDie = true → Runs (.missFetchDone c ns) s fun t => (t.conduit c).onDie = true ∧ t.obj 0x27000A = max (s.obj 0x27000A) ns ∧ t.seqs = s.seqs ∧ t.reqs = s.reqs))

/-- A numbered message takes effect once, and PUT, SEAL, SEALED and BUCKET_DONE do what a transfer asks. A message already placed is acknowledged again without effect, and one beyond the window is counted. A fresh PUT_PAGE takes a free frame of the polder of its handle, stores the page there and stages it; a PUT_RECORD stages a record in the spill area; a PUT_REF stages an entry for a frame already sent; without room the sequence is marked and its SEAL will be refused. A SEAL that can be linked makes the sequence's descriptor and answers 0, and otherwise frees what was staged for it and answers 1. A SEALED that links ends the sequence's requests here MOVED and drops it where no span of it is left; BUCKET_DONE takes its entry out of transit. (R301, R302, R305, R306, R307, R317, R318, R319, R320) -/
def Obligations.NumberedMessagesTakeEffectOnce : Prop :=
  (∀ (s : State) (h : CHdr) (i : Instr) (u : Put) (hdr : PageHdr) (data record : List Nat), s.heard h = true →
    let c := h.conduit
    let s' := s.hear h
    (i = .putPage h u hdr data ∨ i = .putRecord h u record ∨ i = .putRef h u ∨ (∃ q b p cs st, i = .seal h q b p cs st) ∨ (∃ q r, i = .sealed h q r) ∨
      ∃ k b sp st, i = .bucketDone h k b sp st) →
    ((s'.conduit c).judge h.seq = .again → Runs i s fun t => t = s'.sendAck c ∧ t.stage = s'.stage ∧ t.frames = s'.frames ∧ t.seqs = s'.seqs ∧ t.charts = s'.charts) ∧
    ((s'.conduit c).judge h.seq = .discard → Runs i s fun t => t = s'.bump 0x270008)) ∧
  (∀ (s : State) (h : CHdr) (u : Put) (hdr : PageHdr) (data record : List Nat), s.heard h = true →
    let c := h.conduit
    let s' := s.hear h
    let p := framePolder u.handle % 8
    let blocks := recordBlocks record.length
    (s'.conduit c).judge h.seq = .fresh →
    (∀ k, s'.freeFrames p ≠ 0 → s'.pickFrame p = some k → Runs (.putPage h u hdr data) s fun t =>
      Map.find t.frames k = some { hdr := hdr, count := 0 } ∧ Map.find (t.staged c).handles u.handle = some k ∧
      ⟨u.seqId, u.key, if hdr.lost then 3 else 1, k, u.pinned, none⟩ ∈ (t.staged c).pages ∧ t.seqs = s'.seqs ∧ t.reqs = s'.reqs) ∧
    (s'.freeFrames p = 0 → Runs (.putPage h u hdr data) s fun t => u.seqId ∈ (t.staged c).bad ∧ t.frames = s'.frames ∧ t.mem = s'.mem) ∧
    (∀ v i, blocks ≤ s'.spillFree → s'.takeSpill (reshare record (Map.getD (s'.staged c).handles u.handle 0)) = some (v, i) → Runs (.putRecord h u record) s fun t => ∃ x ∈ (t.staged c).pages,
      x.seqId = u.seqId ∧ x.key = u.key ∧ x.loc = 2 ∧ x.val = i ∧ ∃ r, x.stored = some r ∧ r.hdr = hdrOf ((record.drop 8).take 48) ∧ r.shared = Map.getD (s'.staged c).handles u.handle 0 ∧ r.data = reshare record r.shared) ∧
    (s'.spillFree < blocks → Runs (.putRecord h u record) s fun t => u.seqId ∈ (t.staged c).bad ∧ t.host.spillMap = s'.host.spillMap) ∧
    (∀ k, Map.find (s'.staged c).handles u.handle = some k → Runs (.putRef h u) s fun t =>
      ⟨u.seqId, u.key, if s'.lostFrame k then 3 else 1, k, u.pinned, none⟩ ∈ (t.staged c).pages ∧ t.seqs = s'.seqs) ∧
    (Map.find (s'.staged c).handles u.handle = none → Runs (.putRef h u) s fun t => u.seqId ∈ (t.staged c).bad ∧ t.frames = s'.frames)) ∧
  (∀ (s : State) (h : CHdr) (seqId : Nat) (b : Binding) (base : Pol) (counts : List Nat) (code : Nat), s.heard h = true →
    let c := h.conduit
    let s' := (s.hear h).placeMessage c h.seq (160 + 4 * counts.length)
    ((s.hear h).conduit c).judge h.seq = .fresh → (s'.conduit c).st = .ready → (s'.conduit c).closing = false →
    let mayLink := (s'.inboundOf seqId (s'.conduit c).node).isSome = true ∨ (s'.pair.receiving = true ∧ s'.pair.partner = (s'.conduit c).node)
    let answered (t : State) (w : Nat) := ∃ m, Map.find (t.conduit c).unplaced (s'.conduit c).next = some m ∧ m.op = 8 ∧ m.body = leBytes 8 seqId ++ [w] ∧ m.what = seqId
    ((¬ mayLink ∨ s'.linkSealed c seqId b base counts code = none) → Runs (.seal h seqId b base counts code) s fun t =>
      answered t 1 ∧ t.seqs = s'.seqs ∧ ∀ x ∈ (t.staged c).pages, x.seqId ≠ seqId) ∧
    (∀ v, mayLink → s'.linkSealed c seqId b base counts code = some v → Runs (.seal h seqId b base counts code) s fun t =>
      answered t 0 ∧ (∃ e, Map.find t.seqs seqId = some e ∧ e.binding = b ∧ e.base = base ∧ e.counts = counts) ∧ t.frames = v.frames ∧ t.charges = v.charges ∧
      (∀ x ∈ (t.staged c).pages, x.seqId ≠ seqId) ∧ ∀ k, k ≠ seqId → Map.find t.seqs k = Map.find s'.seqs k)) ∧
  (∀ (s : State) (h : CHdr) (seqId i idx : Nat) (refused : Bool), s.heard h = true →
    let c := h.conduit
    let s' := (s.hear h).placeMessage c h.seq 41
    ((s.hear h).conduit c).judge h.seq = .fresh → s'.routeOf seqId = some (.chart i idx) → (s'.moveOf (.chart i idx)).sealing = true → (s'.moveOf (.chart i idx)).conduit = none →
    (refused = true → Runs (.sealed h seqId refused) s fun t => (∃ x, Map.find (t.chart i).transit idx = some x ∧ seqId ∈ x.stranded) ∧ t.seqs = s'.seqs ∧ t.reqs = s'.reqs) ∧
    (refused = false → s'.spans i ≤ 1 → Runs (.sealed h seqId refused) s fun t => (∃ x, Map.find (t.chart i).transit idx = some x ∧ seqId ∈ x.sealed_) ∧
      Map.find t.seqs seqId = none ∧ ∀ k q, Map.find s'.reqs k = some q → q.seqId = seqId → q.kind ≤ 9 → q.claimed = false → Map.find t.reqs k = none)) ∧
  (∀ (s : State) (h : CHdr) (i : Comp) (bucket span : Nat) (stranded : List Nat) (x : Transit), s.heard h = true →
    let c := h.conduit
    let s' := (s.hear h).placeMessage c h.seq (32 + 8 * stranded.length)
    let idx := bucket * max 1 (s'.spans i) + span
    ((s.hear h).conduit c).judge h.seq = .fresh → Map.find (s'.chart i).transit idx = some x →
    (x.inbound = true → s'.holds = [] → Runs (.bucketDone h i bucket span stranded) s fun t => Map.find (t.chart i).transit idx = none ∧
      (∀ q ∈ stranded, (q, (s'.conduit c).node) ∈ (t.chart i).stranded) ∧ ∀ y ∈ (t.staged c).pages, bucketOf y.seqId ≠ bucket) ∧
    (x.inbound = false → Runs (.bucketDone h i bucket span stranded) s fun t => t.charts = s'.charts ∧ t.stage = s'.stage))

/-- A composition's chart changes only as the epoch protocol says. Control 01h on an IDLE record with an ID and a full pending chart sends PREPARE to every member, or commits at once where there is none; a member answers a PREPARE with PREPARED, or with REFUSE and the first reason of R324 that holds, the first of them that the chart's SHA3-512 digest differs. All PREPARED fix a boundary at least 100 microseconds ahead and send COMMIT; one REFUSE aborts. COMMIT and control 02h fix the boundary, ABORT and control 03h discard, the boundary, once its time has come, makes the prepared chart current, answers COMMITTED and puts what changes owner in transit; control 04h installs; control 05h abandons transfers, what has not sealed staying stranded. A message with no answer goes again once its wait has passed, 20 microseconds at first, doubled each time up to 1 ms. A halted S3 does none of it but a boundary already fixed. In every other state nothing changes. (R314, R317, R320, R322, R323, R324, R325, R327, R377) -/
def Obligations.ChartsChangeByTheEpochProtocol : Prop :=
  ∀ (s : State) (i : Comp),
    let c := s.chart i
    let others (t : State) := t.mem = s.mem ∧ t.seqs = s.seqs ∧ t.reqs = s.reqs ∧ ∀ j, j ≠ i.val → t.chart j = s.chart j
    let is (t : State) (x : Chart) := t.chart i = x ∧ others t
    let still (x : Instr) := Runs x s fun t => t = s
    let idle : Chart := { c with st := .idle, prep := [], boundary := none, members := [], answered := [], resend := [] }
    let members := (s.nodesOf c.chart ++ s.nodesOf c.pend).dedup
    let bad := s.sliceBad i c.pend
    let full := c.st = .idle ∧ s.obj (recKey 0x2440 i 1) ≠ 0 ∧ c.pendLen = 65536 * s.obj (recKey 0x2440 i 5)
    (s.dutyDown 3 = true → ∀ x, (x = .chartPropose i ∨ x = .chartCommitControl i ∨ x = .chartAbortControl i ∨ x = .chartInstall i ∨ x = .abandonTransfers i ∨
      (∃ n e ch d, x = .chartPrepare i n e ch d) ∨ (∃ n e, x = .prepared i n e) ∨ (∃ n e r, x = .chartRefuse i n e r) ∨ (∃ e b, x = .chartCommit i e b) ∨
      (∃ n e, x = .committed i n e) ∨ (∃ e, x = .chartAbort i e) ∨ ∃ n, x = .chartResend i n) → still x) ∧
    (c.st ≠ .prepared ∨ (∀ b, c.boundary = some b → s.time < b) → still (.chartBoundary i)) ∧
    (c.st = .prepared → (∃ b, c.boundary = some b ∧ b ≤ s.time) → s.holds = [] → Runs (.chartBoundary i) s fun t => others t ∧
      (t.chart i).epoch = c.pendEpoch ∧ (t.chart i).chart = c.prep ∧ (t.chart i).prep = [] ∧ (t.chart i).boundary = none ∧ (t.chart i).committedAt = s.time ∧
      ((t.chart i).st = if (t.chart i).transit = [] then .idle else .transferring) ∧
      (c.proposer ≠ s.me → c.proposer ≠ 0 → Sent s t (.chart i 5 c.proposer c.pendEpoch s.time)) ∧
      ∀ k, c.stranded = [] →
        let old := entryNode (Map.getD c.chart k 0)
        let new := entryNode (Map.getD c.prep k 0)
        Map.find (t.chart i).transit k =
          if old = new ∨ new = 0 then none
          else if old = s.me then some { inbound := false, peer := new, move := { todo := s.bucketSeqs i (k / max 1 (s.spans i)) } }
          else if new = s.me ∧ old ≠ 0 then some { inbound := true, peer := old }
          else none) ∧
    (s.dutyDown 3 = false →
      (¬ full → still (.chartPropose i) ∧ still (.chartInstall i)) ∧
      (full → bad = true → ∀ x, (x = .chartPropose i ∨ x = .chartInstall i) → Runs x s fun t => t = s.setObj (recKey 0x2440 i 0xD) 6) ∧
      (full → bad = false → 131062 < (changedEntries c.chart c.pend).length → Runs (.chartPropose i) s fun t => t = s.setObj (recKey 0x2440 i 0xD) 0x11) ∧
      (full → bad = false → (changedEntries c.chart c.pend).length ≤ 131062 → members ≠ [] → Runs (.chartPropose i) s fun t =>
        is t { c with st := .proposing, prep := c.pend, pendEpoch := c.epoch + 1, proposer := s.me, answered := [], committed := [], members := members, resend := [], sentTo := (t.chart i).sentTo } ∧
        ∀ n ∈ members, Sent s t (.chart i 1 n (c.epoch + 1) 0) ∧ Map.getD (t.chart i).sentTo n 0 = s.time) ∧
      (full → bad = false → (changedEntries c.chart c.pend).length ≤ 131062 → members = [] → Runs (.chartPropose i) s fun t => others t ∧
        (t.chart i).st = .prepared ∧ (t.chart i).prep = c.pend ∧ (t.chart i).pendEpoch = c.epoch + 1 ∧ (t.chart i).boundary = some ((s.time + 109999) / 10000 * 10000)) ∧
      (full → bad = false → s.holds = [] → Runs (.chartInstall i) s fun t =>
        is t { c with chart := c.pend, chartLen := c.pendLen, epoch := s.obj (recKey 0x2440 i 0xB), committedAt := s.time }) ∧
      (∀ node epoch changes digest,
        let m := applyChanges c.chart changes
        let ok := digest = leNat (chartDigest m (65536 * s.obj (recKey 0x2440 i 5)))
        let refused (r : Nat) := Runs (.chartPrepare i node epoch changes digest) s fun t =>
          t.obj (recKey 0x2440 i 0xD) = r ∧ Sent s t (.chart i 3 node epoch r) ∧ t.charts = s.charts
        (c.st = .prepared → epoch = c.pendEpoch → node = c.proposer → m = c.prep → Runs (.chartPrepare i node epoch changes digest) s fun t =>
          Sent s t (.chart i 2 node epoch 0) ∧ t.charts = s.charts) ∧
        (¬ (c.st = .prepared ∧ epoch = c.pendEpoch ∧ node = c.proposer ∧ m = c.prep) →
          (¬ ok → refused 1) ∧ (ok → epoch ≠ c.epoch + 1 → refused 2) ∧ (ok → epoch = c.epoch + 1 → c.transit ≠ [] → refused 3) ∧
          (ok → epoch = c.epoch + 1 → c.transit = [] → (c.st ≠ .idle → refused 4) ∧ (c.st = .idle →
            (s.obj (recKey 0x2440 i 1) = 0 → refused 5) ∧ (s.obj (recKey 0x2440 i 1) ≠ 0 → s.sliceBad i m = true → refused 6) ∧
            (s.obj (recKey 0x2440 i 1) ≠ 0 → s.sliceBad i m = false → Runs (.chartPrepare i node epoch changes digest) s fun t =>
              is t { c with st := .prepared, prep := m, pendEpoch := epoch, proposer := node, boundary := none } ∧ Sent s t (.chart i 2 node epoch 0)))))) ∧
      (∀ node epoch, c.st = .proposing → epoch = c.pendEpoch → node ∈ c.members →
        ((∃ n ∈ c.members, n ≠ node ∧ n ∉ c.answered) → Runs (.prepared i node epoch) s fun t => t = s.setChart i { c with answered := insertNat c.answered node }) ∧
        ((∀ n ∈ c.members, n = node ∨ n ∈ c.answered) → Runs (.prepared i node epoch) s fun t => others t ∧ (t.chart i).st = .prepared ∧
          (t.chart i).boundary = some ((s.time + 109999) / 10000 * 10000) ∧ ∀ n ∈ c.members, Sent s t (.chart i 4 n c.pendEpoch ((s.time + 109999) / 10000 * 10000))) ∧
        ∀ r, Runs (.chartRefuse i node epoch r) s fun t => is t idle ∧ t.obj (recKey 0x2440 i 0xD) = 0x10 ∧ ∀ n ∈ c.members, Sent s t (.chart i 6 n epoch 0)) ∧
      (∀ node epoch, ¬ (c.st = .proposing ∧ epoch = c.pendEpoch ∧ node ∈ c.members) → still (.prepared i node epoch) ∧ ∀ r, still (.chartRefuse i node epoch r)) ∧
      (∀ epoch b, c.st = .prepared → epoch = c.pendEpoch → Runs (.chartCommit i epoch b) s fun t =>
        t.chart i = { c with boundary := if c.boundary.isSome then c.boundary else some (if b ≤ s.time then (s.time / 10000 + 1) * 10000 else b) } ∧ t = { s with charts := t.charts }) ∧
      (∀ epoch b, ¬ (c.st = .prepared ∧ epoch = c.pendEpoch) → (epoch = c.epoch → c.proposer ≠ s.me → c.proposer ≠ 0 → Runs (.chartCommit i epoch b) s fun t =>
          Sent s t (.chart i 5 c.proposer epoch c.committedAt) ∧ t.charts = s.charts) ∧
        (epoch ≠ c.epoch ∨ c.proposer = s.me ∨ c.proposer = 0 → still (.chartCommit i epoch b))) ∧
      (∀ node epoch, (c.proposer = s.me → epoch = c.pendEpoch → Runs (.committed i node epoch) s fun t => t = s.setChart i { c with committed := insertNat c.committed node }) ∧
        (c.proposer ≠ s.me ∨ epoch ≠ c.pendEpoch → still (.committed i node epoch))) ∧
      (∀ x, (x = .chartAbortControl i ∨ x = .chartAbort i c.pendEpoch) → (c.st = .prepared → Runs x s fun t => is t idle ∧ t.source 0x12 = (s.source 0x12).arrive) ∧
        (c.st ≠ .prepared → still x)) ∧
      (∀ epoch, epoch ≠ c.pendEpoch → still (.chartAbort i epoch)) ∧
      (c.st = .prepared → c.boundary = none → Runs (.chartCommitControl i) s fun t => t = s.setChart i { c with boundary := some ((s.time / 10000 + 1) * 10000) }) ∧
      (c.st ≠ .prepared ∨ c.boundary.isSome = true → still (.chartCommitControl i)) ∧
      (∀ node, (c.proposer ≠ s.me ∨ node ∉ c.members ∨ s.since (Map.getD c.sentTo node 0) < Map.getD c.resend node 20 → still (.chartResend i node)) ∧
        (c.proposer = s.me → node ∈ c.members → Map.getD c.resend node 20 ≤ s.since (Map.getD c.sentTo node 0) →
          (c.st = .proposing → node ∉ c.answered → Runs (.chartResend i node) s fun t => Sent s t (.chart i 1 node c.pendEpoch 0) ∧
            is t { c with resend := Map.put c.resend node (min 1000 (2 * Map.getD c.resend node 20)), sentTo := Map.put c.sentTo node s.time }) ∧
          (c.st ≠ .proposing → node ∉ c.committed → Runs (.chartResend i node) s fun t => Sent s t (.chart i 4 node c.pendEpoch (c.boundary.getD c.committedAt)) ∧
            is t { c with resend := Map.put c.resend node (min 1000 (2 * Map.getD c.resend node 20)), sentTo := Map.put c.sentTo node s.time }))) ∧
      (c.st ≠ .transferring → still (.abandonTransfers i)) ∧
      (c.st = .transferring → s.holds = [] → Runs (.abandonTransfers i) s fun t => others t ∧ (t.chart i).transit = [] ∧ (t.chart i).st = .idle ∧
        ∀ x ∈ c.transit, x.2.inbound = false → ∀ q ∈ x.2.stranded ++ x.2.move.todo, (q, s.me) ∈ (t.chart i).stranded))

/-- A freeze takes its place, seals at its turn, and at its limit ends what still runs. TRANSFER_FREEZE of the first sequence of a transfer, once copied and not yet sealing, takes its place in the sequence's order; with nothing before it and no move of the sequence under way it sends SEAL on the transfer's conduit, and a sequence with a suspect frame is stranded instead. FREEZE_LIMIT_EXPIRY, once the composition's freeze limit has passed since the freeze, ends every unclaimed request before it with MOVED, counted in 2430h.07. Neither does anything to a sequence that no transfer takes next. (R317, R321, R353) -/
def Obligations.FreezesSealOrEndWhatRuns : Prop :=
  ∀ (s : State) (i : Comp) (q : Nat),
    (s.freezeRoute i q = none → Runs (.transferFreeze i q) s (fun t => t = s) ∧ Runs (.freezeLimitExpiry i q) s fun t => t = s) ∧
    (∀ r, s.freezeRoute i q = some r →
      let m := s.moveOf r
      let o := m.freeze.getD s.orderCtr
      (m.copied = false ∨ m.sealing = true → Runs (.transferFreeze i q) s fun t => t = s) ∧
      (m.copied = true → m.sealing = false →
        (s.freezeReady q o = false → Runs (.transferFreeze i q) s fun t => t = s.setMove r { m with freeze := some o, frozenAt := if m.freeze.isSome = true then m.frozenAt else s.time }) ∧
        (∀ c e, s.freezeReady q o = true → m.conduit = some c → Map.find s.seqs q = some e →
          (s.suspectOn r e = false → (s.conduit c).st = .ready → (s.conduit c).closing = false → Runs (.transferFreeze i q) s fun t =>
            (t.moveOf r).sealing = true ∧ (t.moveOf r).freeze = some o ∧ (∃ k w, Map.find (t.conduit c).unplaced k = some w ∧ w.op = 7 ∧ w.what = q) ∧
            t.mem = s.mem ∧ t.seqs = s.seqs ∧ t.reqs = s.reqs) ∧
          (∀ j idx, r = .chart j idx → s.suspectOn r e = true → m.todo = [q] → (s.conduit c).st ≠ .ready → Runs (.transferFreeze i q) s fun t =>
            (∃ x, Map.find (t.chart j).transit idx = some x ∧ q ∈ x.stranded) ∧ t.seqs = s.seqs ∧ t.reqs = s.reqs))) ∧
      (m.freeze = none ∨ s.since m.frozenAt < s.obj (recKey 0x2440 i 9) → Runs (.freezeLimitExpiry i q) s fun t => t = s) ∧
      (∀ f, m.freeze = some f → s.obj (recKey 0x2440 i 9) ≤ s.since m.frozenAt → Runs (.freezeLimitExpiry i q) s fun t =>
        (∀ k x, Map.find s.reqs k = some x → x.seqId = q → x.kind ≤ 9 → x.order ≤ f → x.claimed = false → Map.find t.reqs k = none) ∧
        (r ≠ .pair → Map.wf s.reqs → ∀ k x, Map.find s.reqs k = some x → x.claimed = true → (Map.find t.reqs k).isSome = true)))

/-- A resource serves the first ready strict class, else the weighted group, and policing writes clamp the buckets. A selection on a port that is not ACTIVE changes nothing. Else a head is ready only where its ceiling holds its bytes and, on a port, its class's units cover it; the first of classes 0, 1, 2 that is ready sends its head, and only where none is, one of classes 3 to 7 that is ready sends, with a deficit that covers it, a class that is not ready keeping its deficit; where none is ready no head is sent, a port's 400GMII frame closes and the link-control frame that waited leaves. A packet closes its port's 400GMII frame as its sixteenth, and a weighted class whose queue has emptied has no deficit. What is sent leaves its queue, charges its ceiling, and is put out; a packet consumes its port's units; a tenant's head from the upper level takes its tags and charges the peak bucket, and the committed bucket only where it is green. A policing write that R342 refuses changes nothing, and one that is accepted clamps each bucket to its depth. (R265, R275, R280, R330, R331, R332, R333, R337, R339, R340, R342, R344) -/
def Obligations.SchedulersServeReadyHeadsInOrder : Prop :=
  (∀ (s : State) (r : Resource),
    let res := resNumber r
    let u := (if res < 12 then (List.range 5).foldl (fun s i => s.takeColours res (3 + i)) s else s).countHolds res
    let sent (v t : State) (c : Nat) (h : Pick) : Prop :=
      t.mem = s.mem ∧ t.seqs = s.seqs ∧ t.reqs = s.reqs ∧
      (h.upper = none → Map.getD t.sched.queues (resClass res c) [] = (Map.getD v.sched.queues (resClass res c) []).drop 1) ∧
      (∀ b, b < 8 → b ≠ c → Map.getD t.sched.queues (resClass res b) [] = Map.getD s.sched.queues (resClass res b) []) ∧
      (v.ceilRate res c ≠ 2 ^ 32 - 1 → Map.find t.sched.ceil (resClass res c) = some ⟨v.ceilNow res c - 1000 * h.w.len, s.time⟩) ∧
      (h.w.pkt = none → t.out = .work res h.w.len :: s.out) ∧
      (∀ k, h.w.pkt = some k → Sent s t (.packet res k) ∧ (t.port res).inFrame = (if 16 ≤ (s.port res).inFrame + 1 then 0 else (s.port res).inFrame + 1) ∧
        (16 ≤ (s.port res).inFrame + 1 → Sent s t (.frameEnd res))) ∧
      (3 ≤ c → t.classEmpty res c = true → Map.getD t.sched.deficit (resClass res c) 0 = 0) ∧
      ∀ x tier tag ftag, h.upper = some (x, tier, tag, ftag) → Map.find t.sched.tags (tagKey c tier x) = some tag ∧ Map.find t.sched.vtime (vtKey c tier) = some tag ∧
        (x ≠ systemQueue → v.obj (tenantKey x 0xF) ≠ 2 ^ 32 - 1 → Map.find t.sched.peak x = some ⟨v.peakNow x - 1000 * h.w.len, s.time⟩ ∧
          Map.find t.sched.committed x = if tier = 0 then some ⟨v.committedNow x - 1000 * h.w.len, s.time⟩ else Map.find v.sched.committed x)
    (res < 12 → (s.port res).st ≠ .active → Runs (.schedulerSelect r) s fun t => t = s) ∧
    ((12 ≤ res ∨ (s.port res).st = .active) →
      (∀ c h, u.readyHead res c = some h → (u.ceilRate res c = 2 ^ 32 - 1 ∨ 1000 * h.w.len ≤ u.ceilNow res c) ∧
        (∀ k, h.w.pkt = some k → needUnits k.len ≤ (u.port res).avail c) ∧ (3 ≤ c → u.power.paused.contains c = false)) ∧
      (∀ c h, c < 3 → u.readyHead res c = some h → (∀ b, b < c → u.readyHead res b = none) → Runs (.schedulerSelect r) s fun t => t = u.sendHead res c h ∧ sent u t c h) ∧
      ((∀ c, c < 8 → u.readyHead res c = none) → Runs (.schedulerSelect r) s fun t => t = u.idlePort res ∧ (12 ≤ res ∨ (s.port res).ctl = [] ∧ (s.port res).inFrame = 0 → t = u ∧ t.out = s.out) ∧
        (res < 12 → (s.port res).inFrame ≠ 0 → Sent s t (.frameEnd res) ∧ (t.port res).inFrame = 0) ∧ (∀ k l, res < 12 → (s.port res).ctl = k :: l → Sent s t (.packet res k) ∧ (t.port res).ctl = l)) ∧
      ((∀ c, c < 3 → u.readyHead res c = none) → (∃ c, 3 ≤ c ∧ c < 8 ∧ (u.readyHead res c).isSome = true) → (∀ c, 3 ≤ c → c < 8 → 1 ≤ s.classWeight res c) →
        Runs (.schedulerSelect r) s fun t => ∃ c h v, 3 ≤ c ∧ c < 8 ∧ u.readyHead res c = some h ∧ v = { u with sched := { u.sched with deficit := v.sched.deficit, visit := v.sched.visit } } ∧
          h.w.len ≤ Map.getD v.sched.deficit (resClass res c) 0 ∧
          (∀ b, 3 ≤ b → b < 8 → u.readyHead res b = none → Map.getD v.sched.deficit (resClass res b) 0 = Map.getD s.sched.deficit (resClass res b) 0) ∧
          t = v.sendHead res c h ∧ sent v t c h))) ∧
  (∀ (s : State) (x : Tenant) (sub value : Nat),
    let v (i : Nat) : Nat := if i = sub then value else s.obj (tenantKey x i)
    let refused := sub < 0xC ∨ 0x10 < sub ∨ objMax (tenantKey x sub) < value ∨ v 0xC = 0 ∨ v 0xF < v 0xD ∨ v 0x10 < v 0xE ∨ v 0xE < 4136 ∨ v 0x10 < 4136
    (refused → Runs (.tenantPolicingWrite x sub value) s fun t => t = s) ∧
    (¬ refused → sub = 0xC → Runs (.tenantPolicingWrite x sub value) s fun t => t.obj (tenantKey x sub) = value ∧ t = { s with regs := t.regs }) ∧
    (¬ refused → sub ≠ 0xC → Runs (.tenantPolicingWrite x sub value) s fun t => t.obj (tenantKey x sub) = value ∧
      Map.find t.sched.committed x = some ⟨min (s.committedNow x) (1000 * v 0xE), s.time⟩ ∧ Map.find t.sched.peak x = some ⟨min (s.peakNow x) (1000 * v 0x10), s.time⟩ ∧
      t = { s with regs := t.regs, sched := { s.sched with committed := t.sched.committed, peak := t.sched.peak } }))

/-- The recovery ladder moves a frame by the table of R352. A re-read that passes, with every sector's stored bits matching its check, counts a transient and leaves the frame GOOD; one that fails fetches from the partner while PAIRED, and else loses the page; a frame already lost ends LOST and one that its sequence no longer names ends GOOD without a count. A fetch without an answer for 2C10h.05 loses the page. A read-back that passes counts a repair; one that fails retires the row and loses the page. A table-pool sector that fails loses its sequences, to the partner while PAIRED. A patrol read that fails marks a good frame SUSPECT, and the last frame ends the pass; what on-die ECC corrected is counted. (R207, R347, R352, R353, R354, R355, R356, R372, R573, R226) -/
def Obligations.TheLadderRecoversOrLosesAFrame : Prop :=
  (∀ (s : State) (f : Nat) (x : Frame) (pass : Bool) (l : List Nat), f < 2 ^ 24 → Map.find s.frames f = some x →
    let p := framePolder f
    let reads := s.readOk (f * 65536) 65536 false
    let good (t : State) := Map.find t.frames f = some { x with health := .good, ladderSeq := 0, noFetch := false } ∧ t.mem = s.mem ∧ t.seqs = s.seqs ∧ t.reqs = s.reqs
    let counted (t : State) (k : Nat) := t.obj k = min (s.obj k + 1) (2 ^ 32 - 1)
    let lost (t : State) := (∃ y, Map.find t.frames f = some y ∧ y.health = .lost ∧ y.hdr.lost = true) ∧ counted t 0x2B4008 ∧ t.reqs = s.reqs ∧
      ∀ i e, Map.find t.seqs i = some e → ∀ k v, (k, v) ∈ e.leaves → v.val = f → v.loc ≠ 1
    (x.health ≠ .reread → Runs (.rereadDone f pass l) s fun t => t = s) ∧
    (x.health = .reread → x.hdr.lost = true → Runs (.rereadDone f pass l) s fun t => t = { s with frames := Map.put s.frames f { x with health := .lost } }) ∧
    (x.health = .reread → x.hdr.lost = false →
      (s.names x.ladderSeq f = false → Runs (.rereadDone f pass l) s fun t => good t ∧ t = { s with frames := t.frames }) ∧
      (s.names x.ladderSeq f = true → pass = true → reads = true → Runs (.rereadDone f pass l) s fun t => good t ∧ counted t (recKey 0x2C00 p 3)) ∧
      (s.names x.ladderSeq f = true → pass = false ∨ reads = false →
        (s.pair.st ≠ .paired ∨ x.noFetch = true → Runs (.rereadDone f pass l) s lost) ∧
        (s.pair.st = .paired → x.noFetch = false → Runs (.rereadDone f pass l) s fun t => Map.find t.frames f = some { x with health := .fetching, since := s.time } ∧
          (s.pairReady = true → (s.conduit s.pair.conduit).closing = false →
            ∃ w, Map.find (t.conduit s.pair.conduit).unplaced (s.conduit s.pair.conduit).next = some w ∧ w.op = 0x0B ∧ w.what = x.ladderSeq ∧ w.word = f ∧ w.body = s.fetchBody x.ladderSeq f x)))) ∧
    (x.health = .fetching → s.obj 0x2C1005 ≤ s.since x.since → Runs (.fetchTimeout f) s lost) ∧
    (x.health ≠ .fetching ∨ s.since x.since < s.obj 0x2C1005 → Runs (.fetchTimeout f) s fun t => t = s) ∧
    (x.health ≠ .rewriting → Runs (.rewriteReadback f pass) s fun t => t = s) ∧
    (x.health = .rewriting → (pass = true → reads = true → Runs (.rewriteReadback f pass) s fun t => good t ∧ counted t (recKey 0x2C00 p 4)) ∧
      (pass = false ∨ reads = false → Runs (.rewriteReadback f pass) s fun t => lost t ∧ counted t 0x2C0805 ∧ ∀ k, k / 4 = f / 4 → k ∈ t.retired))) ∧
  (∀ (s : State) (f : Nat) (pass : Bool), Map.find s.frames f = none → Runs (.fetchTimeout f) s (fun t => t = s) ∧ Runs (.rewriteReadback f pass) s fun t => t = s) ∧
  (∀ (s : State) (f : Nat) (l : List Nat), Map.find s.frames f = none → Runs (.rereadDone f true l) s (fun t => t = s) ∧
    Runs (.rereadDone f false l) s fun t => (∀ i ∈ l, Map.find t.seqs i = none) ∧ (∀ i, i ∉ l → Map.find t.seqs i = Map.find s.seqs i) ∧
      (∀ i ∈ l, Map.has s.seqs i = true → (s.pair.st = .paired → i ∈ t.lostHere) ∧ (s.pair.st ≠ .paired → s.lostSeqs.length + l.length ≤ 16384 → i ∈ t.lostSeqs)) ∧
      t = { s with seqs := t.seqs, lostHere := t.lostHere, lostSeqs := t.lostSeqs, sweep := t.sweep }) ∧
  (∀ (s : State) (f : Nat) (upset : Bool) (corrections : Nat), f < 2 ^ 24 →
    let u := s.bumpBy (recKey 0x2C00 (framePolder f % 8) 8) corrections
    let n := 7 * 2 ^ 21 + Config.framesPerStack - 1
    (s.readOk (f * 65536) 65536 upset = true → f ≠ n → Runs (.patrolRead f upset corrections) s fun t => t = u) ∧
    (s.readOk (f * 65536) 65536 upset = true → f = n → Runs (.patrolRead f upset corrections) s fun t => t = u.bump 0x2C0802) ∧
    (∀ x, s.readOk (f * 65536) 65536 upset = false → Map.find s.frames f = some x → x.health = .good → Runs (.patrolRead f upset corrections) s fun t =>
      Map.find t.frames f = some { x with health := .suspect, ladderSeq := 0 } ∧ t.obj (recKey 0x2C00 (framePolder f) 2) = min (s.obj (recKey 0x2C00 (framePolder f) 2) + 1) (2 ^ 32 - 1) ∧
      t.seqs = s.seqs ∧ t.reqs = s.reqs ∧ t.mem = s.mem))

/-- A FETCH is answered from the page table, and a FETCHED copy that matches is rewritten in place. A fresh FETCH is answered 01h where the sequence or page is absent, 02h where the page is lost, 00h where every sector passes, and 03h where one fails, which puts the frame on a ladder that cannot fetch back. A fresh FETCHED for a frame that is FETCHING rewrites it in place where the header matches the page key and the payload check matches the data; any other answer loses the page. A frame that is not FETCHING is left alone. (R301, R305, R350, R351, R352, R354, R357) -/
def Obligations.PartnersFetchPagesFromEachOther : Prop :=
  (∀ (s : State) (h : CHdr) (q k f : Nat) (ok : Bool), s.heard h = true →
    let c := h.conduit
    let s' := (s.hear h).placeMessage c h.seq 96
    ((s.hear h).conduit c).judge h.seq = .fresh → (s'.conduit c).st = .ready → (s'.conduit c).closing = false →
    let answers (code : Nat) (page : List Nat) := Runs (.fetch h q k f ok) s fun t => (∃ w, Map.find (t.conduit c).unplaced (s'.conduit c).next = some w ∧ w.op = 0x0C ∧ w.what = q ∧
        w.body = leBytes 8 q ++ leBytes 4 k ++ [code, 0, 0, 0] ++ page) ∧
      t.seqs = s'.seqs ∧ t.reqs = s'.reqs ∧ t.mem = s'.mem ∧ (code ≠ 3 → t.frames = s'.frames)
    (Map.find s'.seqs q = none → answers 1 []) ∧
    (∀ e, Map.find s'.seqs q = some e → Map.find e.leaves k = none → answers 1 []) ∧
    (∀ e l x, Map.find s'.seqs q = some e → Map.find e.leaves k = some l → Map.find s'.frames l.val = some x → (l.loc = 2 → answers 1 []) ∧ (l.loc ≠ 2 →
      (l.loc = 3 ∨ x.hdr.lost = true → answers 2 []) ∧
      (l.loc ≠ 3 → x.hdr.lost = false → (ok = true → s'.pageReads l.val (s'.shape e.binding) = true → answers 0 (s'.pageBytes l.val (s'.shape e.binding))) ∧
        (ok = false ∨ s'.pageReads l.val (s'.shape e.binding) = false → answers 3 []))))) ∧
  (∀ (s : State) (h : CHdr) (q k result : Nat) (hdr : PageHdr) (data : List Nat), s.heard h = true →
    let c := h.conduit
    let s' := (s.hear h).placeMessage c h.seq (if result = 0 then 96 + data.length else 48)
    ((s.hear h).conduit c).judge h.seq = .fresh → (s'.conduit c).closing = false → ∀ e l x, Map.find s'.seqs q = some e → Map.find e.leaves k = some l → Map.find s'.frames l.val = some x →
    let sh := s'.shape e.binding
    let matched := result = 0 ∧ hdr.layer = keyLayer sh k ∧ hdr.group = keyGroup sh k ∧ hdr.first = keyPage k * 64 ∧ crc64 (byUnit hdr.valOff data) = hdr.check
    (x.health ≠ .fetching → Runs (.fetched h q k result hdr data) s fun t => t = s') ∧
    (x.health = .fetching → matched → Runs (.fetched h q k result hdr data) s fun t =>
      Map.find t.frames l.val = some { x with hdr := { hdr with lost := false }, health := .rewriting } ∧ t.seqs = s'.seqs ∧ t.reqs = s'.reqs) ∧
    (x.health = .fetching → ¬ matched → Runs (.fetched h q k result hdr data) s fun t =>
      (∃ y, Map.find t.frames l.val = some y ∧ y.health = .lost ∧ y.hdr.lost = true) ∧ t.reqs = s'.reqs))

/-- Beats, mirror records and rebuilds change the pair's state by R365's table. A beat on an ACTIVE pair link is recorded and, by the state, forms the pair, makes this device sole owner or detaches it; silence for 10 microseconds, exhausted retries and a refusal make a PAIRED device sole owner, with its cause logged, no record left to send and every write that waited for one completed; a record is held for its turn within the window, acknowledged again where it was placed, and refused at its hold limit, which detaches this device. Control 01h begins a rebuild from SOLE_OWNER while the partner is detached, and control 02h abandons it. The beat timer sends one beat on every ACTIVE pair link, at once or after the next packet. A port's disable completes a change of pair mode. (R292, R358, R361, R362, R363, R364, R365, R366, R368, R369, R371, R379) -/
def Obligations.ThePairChangesStateByTheTable : Prop :=
  ∀ s : State,
    let p := s.pair
    let still (x : Instr) := Runs x s fun t => t = s
    let sole (t : State) (cause : Nat) : Prop := t.pair.st = .soleOwner ∧ t.pair.cause = cause ∧ t.pair.unplaced = [] ∧ t.log.entries.head? = some ⟨s.time, 6, 0, 0, cause, 0⟩ ∧
      ((∀ e ∈ s.reqs, e.2.phase ≠ .mirror) → t.mem = s.mem ∧ t.seqs = s.seqs ∧ t.reqs = s.reqs) ∧
      ∀ k q, s.reqs = [(k, q)] → q.phase = .mirror → q.kind ≤ 3 → q.src.isMirror = false → p.placed < q.lastRecord → q.lastRecord < p.next →
        t.reqs = [] ∧ ∃ a, a.status = .ok ∧ Answered t q.src k q.gen a
    (∀ (n : Port) (b : Beat),
      (s.pairLink n = false ∨ (s.port n).st ≠ .active ∨ p.st = .off → still (.pairBeat n b)) ∧
      (s.pairLink n = true → (s.port n).st = .active → p.st ≠ .off → b.placed = p.placed % 2 ^ 32 →
        let heard (t : State) := t.pair.lastBeat = some b ∧ t.pair.lastAt = s.time ∧ t.pair.down = b.down
        (p.st = .forming → s.seqs ≠ [] → Runs (.pairBeat n b) s fun t => heard t ∧ t.pair.st = .soleOwner ∧ t.source 3 = (s.source 3).arrive) ∧
        (p.st = .forming → s.seqs = [] → b.partnerHolds = true → Runs (.pairBeat n b) s fun t => heard t ∧ t.pair.st = .detached ∧ t.source 3 = (s.source 3).arrive) ∧
        (p.st = .forming → s.seqs = [] → b.partnerHolds = false → Runs (.pairBeat n b) s fun t => heard t ∧ t.pair.st = .paired ∧ t.pair.next = 1 ∧ t.pair.placed = 0 ∧
          t.pair.rxPlaced = 0 ∧ t.pair.unplaced = []) ∧
        (p.st = .paired → b.fenced = true → Runs (.pairBeat n b) s fun t => heard t ∧ sole t 2) ∧
        (p.st = .paired → b.fenced = false → b.detached = true → Runs (.pairBeat n b) s fun t => heard t ∧ sole t 3) ∧
        (p.st = .paired ∧ b.fenced = false ∧ b.detached = false ∨ p.st = .soleOwner ∨ p.st = .rebuilding → Runs (.pairBeat n b) s fun t =>
          t = { s.setPort n { s.port n with lastRx := s.time } with pair := { p with lastBeat := some b, lastAt := s.time, down := b.down } }) ∧
        (p.st = .detached → s.fence.st ≠ .fenced → p.receiving = false → b.rebuilding = true → s.seqs = [] → Runs (.pairBeat n b) s fun t =>
          heard t ∧ t.pair.receiving = true ∧ t.pair.st = .detached ∧ t.pair.rxPlaced = 0 ∧ t.lostHere = []) ∧
        (p.st = .detached → s.fence.st ≠ .fenced → p.receiving = true → b.rebuilding = false → b.sole = false → Runs (.pairBeat n b) s fun t =>
          heard t ∧ t.pair.st = .paired ∧ t.pair.receiving = false ∧ t.seqs = s.seqs))) ∧
    (p.st = .paired → 10 ≤ s.since p.lastAt → Runs .beatTimeout s fun t => sole t 1) ∧
    (p.st = .rebuilding → ∀ x, (x = .beatTimeout ∧ 10 ≤ s.since p.lastAt ∨ x = .abandonRebuild) → Runs x s fun t => t.pair.st = .soleOwner ∧ t.pair.unplaced = [] ∧ t.pair.rebuilt = []) ∧
    ((p.st ≠ .paired ∧ p.st ≠ .rebuilding) ∨ s.since p.lastAt < 10 → still .beatTimeout) ∧ (p.st ≠ .rebuilding → still .abandonRebuild) ∧
    (p.st ≠ .soleOwner ∨ (∀ b, p.lastBeat = some b → b.detached = false) → still .rebuild) ∧
    (∀ b, p.st = .soleOwner → p.lastBeat = some b → b.detached = true →
      (s.pairReady = false → s.openTo p.partner = none → still .rebuild) ∧
      (s.pairReady = false → (∃ c, s.freeConduit = some c) → s.conduitRoom = true → Runs .rebuild s fun t => t.pair.st = .rebuilding ∧ t.pair.move.todo = (Map.keys s.seqs).filter s.pairOwned ∧
        t.pair.next = 1 ∧ t.pair.rxPlaced = 0 ∧ s.freeConduit = some t.pair.conduit ∧ (t.conduit t.pair.conduit).st = .opening) ∧
      (s.pairReady = true → (Map.keys s.seqs).filter s.pairOwned = [] → Runs .rebuild s fun t => t.pair.st = .paired)) ∧
    (∀ placed refused n, p.placed < n → n ≤ p.sent → n - p.placed < 2 ^ 32 → placed = n % 2 ^ 32 → refused = 0 → Runs (.mirrorAck placed refused) s fun t =>
      t.pair.placed = n ∧ (∀ k, k ≤ n → Map.find t.pair.unplaced k = none) ∧
      ∀ k q, s.reqs = [(k, q)] → q.phase = .mirror → q.kind ≤ 3 → p.placed < q.lastRecord → q.lastRecord ≤ n → t.reqs = []) ∧
    (∀ refused, (refused = 0 → still (.mirrorAck (p.placed % 2 ^ 32) refused)) ∧
      (refused ≠ 0 → p.st = .paired → Runs (.mirrorAck (p.placed % 2 ^ 32) refused) s fun t => sole t 5)) ∧
    (∀ seq r,
      let n := p.rxPlaced + (seq % 2 ^ 32 + 2 ^ 32 - p.rxPlaced % 2 ^ 32) % 2 ^ 32
      let r' : Req := { r with src := .mirror n }
      let record := Instr.mirrorRecord seq (p.placed % 2 ^ 32) r
      (s.applies = false → still record) ∧
      (s.applies = true →
        (n = p.rxPlaced → Runs record s fun t => Sent s t (.recordAck (p.rxPlaced % 2 ^ 32) 0) ∧ t.pair.rxPlaced = p.rxPlaced ∧ t.seqs = s.seqs ∧ t.reqs = s.reqs) ∧
        (p.rxPlaced + 64 < n → n - p.rxPlaced < 2 ^ 31 → still record) ∧
        (p.rxPlaced + 1 < n → n ≤ p.rxPlaced + 64 → Map.find p.heldRecs (p.rxPlaced + 1) = none → Runs record s fun t =>
          t = { s with pair := { p with heldRecs := Map.put p.heldRecs n r' } }) ∧
        (n = p.rxPlaced + 1 → (∀ e ∈ s.reqs, e.2.src ≠ .mirror n) →
          let u := ({ s with pair := { p with heldRecs := Map.put p.heldRecs n r' } }).request r'
          (u.pair.rxPlaced = n → Map.find u.pair.heldRecs (n + 1) = none → Runs record s fun t => t = u) ∧
          (u.pair.rxPlaced ≠ n → (∃ e ∈ u.reqs, e.2.src = .mirror n) → Runs record s fun t => t = u) ∧
          (u.pair.rxPlaced ≠ n → (∀ e ∈ u.reqs, e.2.src ≠ .mirror n) → Runs record s fun t => t = { u with pair := { u.pair with lacking := t.pair.lacking } } ∧
            ∃ a, t.pair.lacking = some (n, a) ∧ (u.pair.lacking = some (n, a) ∨ a = u.time ∧ ∀ b, u.pair.lacking ≠ some (n, b)))))) ∧
    (∀ seq,
      let n := p.rxPlaced + (seq % 2 ^ 32 + 2 ^ 32 - p.rxPlaced % 2 ^ 32) % 2 ^ 32
      let expires := n = p.rxPlaced + 1 ∧ Map.has p.heldRecs n = true ∧ (∃ a, p.lacking = some (n, a) ∧ s.obj 0x2C1006 ≤ s.since a) ∧ ∀ e ∈ s.reqs, e.2.src ≠ .mirror n
      (¬ expires → still (.recordHoldExpiry seq)) ∧
      (expires → Runs (.recordHoldExpiry seq) s fun t => Sent s t (.recordAck (p.rxPlaced % 2 ^ 32) (n % 2 ^ 32)) ∧ t.pair.heldRecs = [] ∧ t.pair.receiving = false ∧
        t.pair.st = (if p.st = .paired then .detached else p.st) ∧ t.log.entries.head? = some ⟨s.time, 7, 0, 0, n, 0⟩ ∧ t.mem = s.mem ∧ t.seqs = s.seqs ∧ t.reqs = s.reqs)) ∧
    (∀ seq m,
      let n := p.placed + (seq % 2 ^ 32 + 2 ^ 32 - p.placed % 2 ^ 32) % 2 ^ 32
      (Map.find p.unplaced n = none → still (.mirrorRetry seq)) ∧
      (Map.find p.unplaced n = some m → (m.tries = 0 ∨ s.fence.st = .fenced ∨ s.waited m.last m.tries = false → still (.mirrorRetry seq)) ∧
        (m.tries ≠ 0 → s.fence.st ≠ .fenced → s.waited m.last m.tries = true → (m.tries < 9 → Runs (.mirrorRetry seq) s fun t => Sent s t (.record n m.what) ∧
            (∃ m', Map.find t.pair.unplaced n = some m' ∧ m'.tries = m.tries + 1 ∧ m'.msg = m.msg) ∧ t.mem = s.mem ∧ t.seqs = s.seqs ∧ t.reqs = s.reqs) ∧
          (9 ≤ m.tries → p.st = .paired → Runs (.mirrorRetry seq) s fun t => sole t 4)))) ∧
    (p.st = .off → still .pairBeatTimer) ∧
    (p.st ≠ .off → p.heldRecs = [] → Runs .pairBeatTimer s fun t => t.pair.beatSeq = (p.beatSeq + 1) % 2 ^ 32 ∧
      (∀ n, n = 10 ∨ n = 11 → s.pairLink n = true → (s.port n).st = .active →
        let k := s.controlFrame 3 ((s.ownBeat ((p.beatSeq + 1) % 2 ^ 32)).bytes s.time)
        if ((s.port n).ctlSent && s.packetsWait n) = true then (t.port n).ctl = (s.port n).ctl ++ [k] else Sent s t (.packet n k)) ∧
      (p.lastBeat.isSome = true → p.lastAt + 2000 ≤ s.time → t.obj 0x2C1004 = min (s.obj 0x2C1004 + 1) (2 ^ 32 - 1) ∧ t.source 4 = (s.source 4).arrive) ∧
      t.mem = s.mem ∧ t.seqs = s.seqs ∧ t.reqs = s.reqs) ∧
    (p.mode = true → s.obj 0x250001 ≠ 1 → (s.port 10).st ≠ .active → (s.port 11).st = .disabled → Runs (.portDisable 10) s fun t => t.pair.mode = false ∧ t.pair.st = .off) ∧
    (∀ q : Pol, Runs (.stackInterfaceFailure q) s fun t => (t.polder q).down = true ∧ t = (s.setPolder q { s.polder q with down := true }).arrive (0x4A + 16 * q))

/-- A lease write takes effect at once, and a fence control that the table does not list is refused. A write to the lease restarts it from the moment of the write, and with a lease of 0 nothing expires. Fence while FENCED, probation while PROBATION or FENCED, lift while LIVE, lift from PROBATION with an epoch below the current and lift from FENCED with an epoch not above it change nothing; a WOA write of 2C20h.04 that asks for one of them is answered with abort 0800 0022h and changes nothing. (R575) -/
def Obligations.LeaseWritesAndRefusedFenceControls : Prop :=
  ∀ s : State,
    let f := s.fence
    let refusedLift (e : Nat) : Prop := f.st = .live ∨ (f.st = .probation ∧ e < f.epoch) ∨ (f.st = .fenced ∧ e ≤ f.epoch)
    (∀ us, Runs (.leaseWrite us) s fun t => t = { s with fence := { f with lease := us, from_ := s.time } }) ∧
    (f.lease = 0 → Runs .leaseExpiry s fun t => t = s) ∧
    (f.st = .fenced → Runs .fence s fun t => t = s) ∧
    (f.st = .probation ∨ f.st = .fenced → Runs .probation s fun t => t = s) ∧
    (∀ e, refusedLift e → Runs (.lift e) s fun t => t = s) ∧
    (∀ m : WoaMsg, WoaBegins s m → s.servesAll = true → m.index = 0x2C20 → m.sub = 4 → m.cmd = 2 → m.expedited = true → m.last = true → m.len = 8 → m.value < 2 ^ 64 →
      ((m.value % 256 = 1 ∧ f.st = .fenced) ∨ (m.value % 256 = 2 ∧ f.st ≠ .live) ∨ (m.value % 256 = 3 ∧ refusedLift (m.value / 256 % 2 ^ 32))) →
      Runs (.woaWrite m) s fun t => WoaRefused s t m 0x08000022)

/-- Fence state changes by its table, orphan marks stand, and stewards halt and restart. A fence, by control or by an expired lease, ends every unclaimed request with FENCED and the current epoch and detaches a PAIRED device; probation and lift change the state, the lift adopting its epoch, unless the breach latch forbids it; a renewal with the current epoch restarts the lease. At most 4 096 buckets are marked orphaned, and a mark is cleared. A running steward whose watchdog expires, or whose memory fails its parity, is halted, its begun moves ending BUSY_RETRY; after three restarts within 60 seconds it stays halted, and the loss of S0 is a warm reset; a halted one that is not gone runs again, its restart noted. One that does not run is left alone. (R371, R373, R376, R377, R472, R482) -/
def Obligations.FencesProbationOrphansAndStewards : Prop :=
  ∀ s : State,
    let f := s.fence
    let still (x : Instr) := Runs x s fun t => t = s
    let noted (t : State) (st : FenceState) (e : Nat) : Prop := t.fence.st = st ∧ t.fence.epoch = e ∧ t.fence.lease = f.lease ∧
      t.log.entries.head? = some ⟨s.time, 8, 0, 0, st.code, e⟩ ∧ t.source 2 = (s.source 2).arrive ∧ t = { s with fence := t.fence, log := t.log, gath := t.gath }
    let fenced (t : State) : Prop :=
      t.fence = { f with st := .fenced } ∧ t.pair.st = (if s.pair.st = .paired then .detached else s.pair.st) ∧ t.holds = [] ∧
      (∀ k q, Map.find s.reqs k = some q → q.claimed = false → Map.find t.reqs k = none) ∧
      (∀ k q, s.reqs = [(k, q)] → s.holds = [] → q.claimed = false → q.phase ≠ .move → q.src.isMirror = false →
        Answered t q.src k q.gen ⟨.fenced, 0, leBytes 4 f.epoch⟩)
    (f.st ≠ .fenced → Runs .fence s fenced) ∧
    (f.st ≠ .fenced → f.lease ≠ 0 → f.lease ≤ s.since f.from_ → Runs .leaseExpiry s fenced) ∧
    (f.st = .fenced ∨ s.since f.from_ < f.lease → still .leaseExpiry) ∧
    (f.st = .live → Runs .probation s fun t => noted t .probation f.epoch ∧ t.fence.from_ = f.from_) ∧
    (∀ e, s.start.latch = true → still (.lift e)) ∧
    (∀ e, s.start.latch = false → f.st = .probation → f.epoch ≤ e → Runs (.lift e) s fun t => noted t .live e ∧ t.fence.from_ = f.from_) ∧
    (∀ e, s.start.latch = false → f.st = .fenced → f.epoch < e → Runs (.lift e) s fun t => noted t .live e ∧ t.fence.from_ = s.time) ∧
    (∀ e, (e = f.epoch → Runs (.leaseRenewal e) s fun t => t = { s with fence := { f with from_ := s.time } }) ∧ (e ≠ f.epoch → still (.leaseRenewal e))) ∧
    (∀ c b, (Runs (.orphanMark c b) s fun t => t = { s with orphans := t.orphans } ∧
        ((c, b) ∈ s.orphans ∨ 4096 ≤ s.orphans.length → t = s) ∧ ((c, b) ∉ s.orphans → s.orphans.length < 4096 → t.orphans = (c, b) :: s.orphans)) ∧
      Runs (.orphanClear c b) s fun t => t = { s with orphans := s.orphans.erase (c, b) }) ∧
    (∀ k : Stw,
      let recent := (Map.getD s.start.restarts k []).filter fun t => decide (s.time - t < 60 * 10 ^ 9)
      (s.steward k ≠ .running → still (.watchdogExpiry k) ∧ still (.stewardMemoryParityFailure k)) ∧
      let halts (parity : Bool) (P : State → Prop) : Prop :=
        if parity then Runs (.stewardMemoryParityFailure k) s P else Runs (.watchdogExpiry k) s P
      (s.steward k = .running → ∀ parity,
        (recent.length < 3 → halts parity fun t => t.steward k = .halted ∧ t.start.gone = s.start.gone ∧ Map.getD t.gath.claim k [] = [] ∧
          (∀ j, j ≠ k.val → t.steward j = s.steward j) ∧
          (∀ n q, Map.find s.reqs n = some q → q.claimed = false → q.phase = .move → 7 ≤ q.kind → q.kind ≤ 9 → nth s.start.duty 2 = k →
            Map.find t.reqs n = none) ∧
          (parity = true → t.obj 0x2C0803 = min (s.obj 0x2C0803 + 1) (2 ^ 32 - 1))) ∧
        (3 ≤ recent.length → k ≠ 0 → halts parity fun t => t.steward k = .halted ∧ k.val ∈ t.start.gone ∧
          ∀ n q, s.reqs = [(n, q)] → (∀ m ∈ s.transfers, m.before q = false) → Map.find s.seqs q.seqId = none → q.claimed = false → q.phase = .held → 4 ≤ q.kind → q.kind ≤ 6 → q.src.isMirror = false →
            nth s.start.duty 1 = k → t.reqs = [] ∧ Answered t q.src n q.gen (.busy 0x11)) ∧
        (3 ≤ recent.length → k = 0 → halts parity fun t => t.start.resetCause = 5 ∧ t.start.st = .rom ∧ t.seqs = [] ∧ t.reqs = [] ∧ t.steward 0 = .running)) ∧
      (s.steward k ≠ .halted ∨ k.val ∈ s.start.gone → s.woa.h2d = none → still (.stewardRestarted k)) ∧
      (s.steward k = .halted → k.val ∉ s.start.gone → s.woa.h2d = none → Runs (.stewardRestarted k) s fun t => t.steward k = .running ∧
        Map.getD t.start.restarts k [] = (s.time :: Map.getD s.start.restarts k []).take 3 ∧ t.start.gone = s.start.gone ∧ t.mem = s.mem))

/-- Bids, proposals and commits move the tempo as the tide protocol says. A TIDE message of another group is counted, and a halted S3 takes none. The leader keeps the latest bid of a listed member, sends its latest COMMIT again to one behind its epoch, and proposes the group tempo, which no bid is below, at once where it is below the committed tempo and after a millisecond above it; a proposal has an epoch above every one known and the first boundary its lead time away. All READY before the last ten microseconds send COMMIT; REFUSE 01h and the cutoff, from those ten microseconds on, send CANCEL. A member holds a PREPARE above its epoch and answers READY, refuses any other, discards what a CANCEL names, and on a COMMIT answers DONE and holds it to its boundary, or to the next where that has passed. The current tempo changes at the boundary of a commit and at no other command's. Messages unanswered for 20 microseconds go again. A PTP message of the domain sets the offset and its slew, counted beyond the limit. (R381, R382, R383, R385, R386, R387, R388, R389, R482) -/
def Obligations.TempoFollowsTheTideProtocol : Prop :=
  ∀ s : State,
    let m := s.tempo
    let up := s.dutyDown 3 = false
    let own := s.obj 0x221001
    let others := s.tideMembers.filter fun n => decide (n ≠ s.me)
    let still (x : Instr) := Runs x s fun t => t = s
    let send (t : State) (op node e v b : Nat) := Sent s t (.tide op node e v b)
    let proposes (u t : State) : Prop :=
      let p := max m.highest m.epoch + 1
      let b := (s.time + 1000 * s.obj 0x22000A + 9999) / 10000 * 10000
      let x : Tide := ⟨p, u.groupTempo, b⟩
      (others ≠ [] → t.tempo.proposal = some x ∧ t.tempo.highest = p ∧ t.tempo.cur = m.cur ∧ (∀ n ∈ others, send t 2 n p x.tempo b) ∧
        t.tempo.pend = if s.tideMembers.contains s.me then some x else m.pend) ∧
      (s.tideMembers = [s.me] → s.time + 10000 < b → t.tempo.proposal = none ∧ t.tempo.last = some x ∧ t.tempo.commit = some x ∧ t.tempo.cur = m.cur)
    let ruled (u t : State) : Prop :=
      let g := u.groupTempo
      let now := match m.last with | some x => x.tempo | none => m.cur
      (m.proposal.isSome = true → t.tempo.proposal = m.proposal) ∧
      (m.proposal = none → g < now → proposes u t) ∧
      (m.proposal = none → g = now → t.tempo = { u.tempo with above := none, sentAt := t.tempo.sentAt }) ∧
      (m.proposal = none → now < g → (∀ a, m.above = some a → s.time - a < 1000000) → t.tempo = { u.tempo with above := some (m.above.getD s.time), sentAt := t.tempo.sentAt }) ∧
      (∀ a, m.proposal = none → now < g → m.above = some a → 1000000 ≤ s.time - a → proposes u t)
    let bidden (n c : Nat) : State := { s with tempo := { m with bids := Map.put m.bids n c } }
    (s.ownCeiling ≤ s.obj 0x220001 ∧ s.ownCeiling ≤ s.thermal.ceiling ∧ s.ownCeiling ≤ s.thermal.gaugeCeil ∧ ∀ c, s.power.capCeil = some c → s.ownCeiling ≤ c) ∧
    (s.groupTempo ≤ s.obj 0x220001 ∧ ∀ n ∈ s.tideMembers, ∀ c, Map.find m.bids n = some c → s.groupTempo ≤ c) ∧
    (∀ x g, (∃ n c e, x = .bid n g c e) ∨ (∃ e v b, x = .tidePrepare g e v b) ∨ (∃ n e, x = .ready n g e) ∨ (∃ n e r, x = .tideRefuse n g e r) ∨
        (∃ e v b, x = .tideCommit g e v b) ∨ (∃ e, x = .cancel g e) ∨ (∃ n e, x = .tideDone n g e) →
      (up → g ≠ own → Runs x s fun t => t = s.bump 0x221005) ∧ (¬ up → still x)) ∧
    (¬ up → still .leaderEvaluate ∧ still .bidTimer ∧ still .proposalCutoff ∧ ∀ n, still (.tideResend n)) ∧
    (up →
      (∀ n c e, (s.tideLeader ≠ s.me ∨ n ∉ s.tideMembers → still (.bid n own c e)) ∧
        (s.tideLeader = s.me → n ∈ s.tideMembers → Runs (.bid n own c e) s fun t => Map.find t.tempo.bids n = some c ∧ ruled (bidden n c) t ∧
          ∀ x, m.last = some x → e < m.epoch → n ≠ s.me → send t 5 n x.epoch x.tempo x.boundary)) ∧
      (s.tideLeader = s.me → Runs .leaderEvaluate s fun t => ruled s t ∧ t.tempo.bids = m.bids) ∧ (s.tideLeader ≠ s.me → still .leaderEvaluate) ∧
      (s.tideLeader ≠ s.me → Runs .bidTimer s fun t => send t 1 s.tideLeader m.epoch s.ownCeiling s.time ∧ t.tempo = m) ∧
      (s.tideLeader = s.me → s.me ∈ s.tideMembers → Runs .bidTimer s fun t => Map.find t.tempo.bids s.me = some s.ownCeiling ∧ ruled (bidden s.me s.ownCeiling) t) ∧
      (∀ e v b, (m.epoch < e → Runs (.tidePrepare own e v b) s fun t => t.tempo = { m with pend := some ⟨e, v, b⟩ } ∧ send t 3 s.tideLeader e 0 0) ∧
        (e ≤ m.epoch → Runs (.tidePrepare own e v b) s fun t => t.tempo = m ∧ send t 4 s.tideLeader m.epoch 1 0) ∧
        (Runs (.tideCommit own e v b) s fun t => send t 7 s.tideLeader e 0 0 ∧ (e ≤ m.epoch → t.tempo = m) ∧
          (m.epoch < e → s.time < b → t.tempo = { m with commit := some ⟨e, v, b⟩, pend := none }) ∧
          (m.epoch < e → b ≤ s.time → t.tempo = { m with commit := some ⟨e, v, s.time / 10000 * 10000 + 10000⟩, pend := none } ∧
            t.obj 0x220009 = min (s.obj 0x220009 + 1) (2 ^ 32 - 1)))) ∧
      (∀ e, ((∃ x, m.pend = some x ∧ x.epoch = e) → Runs (.cancel own e) s fun t => t = { s with tempo := { m with pend := none } }) ∧
        ((∀ x, m.pend = some x → x.epoch ≠ e) → still (.cancel own e))) ∧
      (∀ n x, m.proposal = some x → n ∈ s.tideMembers →
        ((∃ k ∈ s.tideMembers, k ≠ n ∧ k ∉ m.ready) → Runs (.ready n own x.epoch) s fun t => t = { s with tempo := { m with ready := insertNat m.ready n } }) ∧
        ((∀ k ∈ s.tideMembers, k = n ∨ k ∈ m.ready) → s.time + 10000 < x.boundary → Runs (.ready n own x.epoch) s fun t => t.tempo.proposal = none ∧ t.tempo.last = some x ∧
          (∀ k ∈ others, send t 5 k x.epoch x.tempo x.boundary) ∧ (s.me ∈ s.tideMembers → m.epoch < x.epoch → t.tempo.commit = some x)) ∧
        ∀ e, Runs (.tideRefuse n own e 1) s fun t => t.tempo.proposal = none ∧ t.tempo.highest = max m.highest e ∧ t.tempo.commit = m.commit ∧
          ∀ k ∈ others, send t 6 k x.epoch x.tempo x.boundary) ∧
      (∀ n e, (m.proposal = none ∨ n ∉ s.tideMembers → still (.ready n own e) ∧ ∀ r, still (.tideRefuse n own e r)) ∧ (∀ r, r ≠ 1 → still (.tideRefuse n own e r))) ∧
      (∀ n e, ((∃ x, m.last = some x ∧ x.epoch = e) → Runs (.tideDone n own e) s fun t => t = { s with tempo := { m with done := insertNat m.done n } }) ∧
        ((∀ x, m.last = some x → x.epoch ≠ e) → still (.tideDone n own e))) ∧
      (∀ n, let waited := Map.getD m.sentAt n 0 + 20000 ≤ s.time
        let sentNow : Tempo := { m with sentAt := Map.put m.sentAt n s.time }
        (n ∉ others ∨ ¬ waited → still (.tideResend n)) ∧
        (∀ x, n ∈ others → waited → m.proposal = some x → (n ∉ m.ready → s.time + 10000 < x.boundary → Runs (.tideResend n) s fun t => t.tempo = sentNow ∧ send t 2 n x.epoch x.tempo x.boundary) ∧
          (n ∈ m.ready ∨ x.boundary ≤ s.time + 10000 → still (.tideResend n))) ∧
        (∀ x, n ∈ others → waited → m.proposal = none → m.last = some x → (n ∉ m.done → Runs (.tideResend n) s fun t => t.tempo = sentNow ∧ send t 5 n x.epoch x.tempo x.boundary) ∧
          (n ∈ m.done → still (.tideResend n)))) ∧
      (∀ x, m.proposal = some x → ((∃ k ∈ s.tideMembers, k ∉ m.ready) → x.boundary ≤ s.time + 10000 → Runs .proposalCutoff s fun t => t.tempo.proposal = none ∧ t.tempo.commit = m.commit ∧
          ∀ k ∈ others, send t 6 k x.epoch x.tempo x.boundary) ∧
        ((∀ k ∈ s.tideMembers, k ∈ m.ready) ∨ s.time + 10000 < x.boundary → still .proposalCutoff)) ∧
      (m.proposal = none → still .proposalCutoff)) ∧
    (∀ x, m.commit = some x → x.boundary ≤ s.time → Runs .tideBoundary s fun t => t.tempo = { m with cur := x.tempo, epoch := x.epoch, commit := none, highest := max m.highest x.epoch }) ∧
    ((∀ x, m.commit = some x → s.time < x.boundary) → Runs .tideBoundary s fun t => t.tempo = m) ∧
    (∀ x : PtpMsg, (x.domain ≠ s.obj 0x222002 ∨ s.ptp.st = 0 → still (.ptpMessage x)) ∧
      (x.domain = s.obj 0x222002 → s.ptp.st ≠ 0 → Runs (.ptpMessage x) s fun t => t.ptp = ⟨x.port + 1, x.offset, -x.offset⟩ ∧
        t = { s with ptp := t.ptp, regs := t.regs, gath := t.gath } ∧ (s.obj 0x222005 < x.offset.natAbs → t.obj 0x222006 = min (s.obj 0x222006 + 1) (2 ^ 32 - 1)) ∧
        (x.offset.natAbs ≤ s.obj 0x222005 → t.regs = s.regs))) ∧
    (Runs .ptpHoldover s fun t => t.ptp = { s.ptp with st := 0 } ∧ t = { s with ptp := t.ptp, gath := t.gath })

/-- The power, droop, margin and thermal governors act as their rules say. An estimate is kept, and one above the cap throttles the first domain of the order that meets it: compute to the highest tempo that fits, memory to the highest concurrency, links by pausing one weighted class, 7 first; while the tempo that fits is below the current, memory absorbs. An average above the cap past its bound is counted. A release undoes one step in the reverse order while the millisecond average is below the cap by the margin; a cap outside 450 to 1150 W is refused. A supply more than the threshold below the regulator's target, the lower of the two in a trim's ramp, is a droop: it lowers a tile's rate to its fraction of the tempo that was current and never above the current; it clears once every detector has stood above for the clear hold, and is logged after a millisecond. A reading, due an interval after the last, raises the trim by 5 mV below 30 per mille, lowers it by 5 mV above 80, and moves the gauge ceiling at the limits; in droop it is deferred. Heat lowers the thermal ceiling by 50 and a stack's concurrency by 32, and they rise again. Regulators that answer calibrate, the others are counted and marked. (R383, R390, R391, R392, R393, R394, R395, R396, R397, R398, R399, R567) -/
def Obligations.GovernorsHoldPowerDroopMarginAndHeat : Prop :=
  (∀ (s : State) (a m l tf cf fl : Nat),
    let p := s.power
    let total := a + m + l
    let cap := s.obj 0x220101
    let target := s.obj 0x220001
    let order := s.obj 0x220102
    let avg := (((total :: p.recent).take 1000).take 10).sum / (((total :: p.recent).take 1000).take 10).length
    let fits := max 64 (min cf 512)
    Runs (.powerEstimate a m l tf cf fl) s fun t =>
      let q := t.power
      q.compute = a ∧ q.memory = m ∧ q.links = l ∧ q.recent = (total :: p.recent).take 1000 ∧ q.highest = max p.highest avg ∧ q.floor = fl ∧
      (total ≤ cap → q.capCeil = p.capCeil ∧ q.concCeil = p.concCeil ∧ q.paused = p.paused ∧ q.absorb = p.absorb) ∧
      (cap < total →
        (q.absorb = if q.capCeil.getD target < s.tempo.cur then some fits else p.absorb) ∧
        (order / 16 % 4 = 0 → 250 ≤ tf → q.capCeil = some (max 250 (min tf target)) ∧ q.concCeil = p.concCeil ∧ q.paused = p.paused) ∧
        (order / 16 % 4 = 1 → 64 ≤ cf → q.capCeil = p.capCeil ∧ q.concCeil = fits ∧ q.paused = p.paused) ∧
        (order / 16 % 4 = 2 → 7 ∉ p.paused → q.capCeil = p.capCeil ∧ q.concCeil = p.concCeil ∧ q.paused = p.paused ++ [7]) ∧
        (order = 6 → tf < 250 → q.capCeil = some (max 250 (min tf target)) ∧ (64 ≤ cf → q.concCeil = fits ∧ q.paused = p.paused) ∧
          (cf < 64 → q.concCeil = 64 ∧ ∀ c, 3 ≤ c → c ≤ 7 → c ∉ p.paused → (∀ d, c < d → d ≤ 7 → d ∈ p.paused) → q.paused = p.paused ++ [c]))) ∧
      (avg ≤ cap → q.overSince = none) ∧ (cap < avg → p.overSince = none → q.overSince = some s.time) ∧
      (∀ x, cap < avg → p.overSince = some x → (s.time < x + 110000 → q.overSince = some x) ∧
        (x + 110000 ≤ s.time → q.overSince = some (x + 10000) ∧ t.obj 0x22010C = min (s.obj 0x22010C + 1) (2 ^ 32 - 1))) ∧
      t.tempo.cur = s.tempo.cur ∧ t.mem = s.mem ∧ t.seqs = s.seqs ∧ t.reqs = s.reqs) ∧
  (∀ s : State,
    let p := s.power
    let low := (p.recent.take 1000).sum / max 1 (p.recent.take 1000).length + s.obj 0x22010B < s.obj 0x220101
    let target := s.obj 0x220001
    (¬ low → Runs .throttleRelease s fun t => t = s) ∧
    (low → s.obj 0x220102 = 6 →
      (∀ c, 3 ≤ c → c ≤ 7 → c ∈ p.paused → (∀ d, 3 ≤ d → d < c → d ∉ p.paused) → Runs .throttleRelease s fun t => t.power = { p with paused := p.paused.erase c }) ∧
      ((∀ c, 3 ≤ c → c ≤ 7 → c ∉ p.paused) →
        (p.concCeil < 512 → Runs .throttleRelease s fun t => t.power = { p with concCeil := if s.obj 0x2B0100 ≤ p.concFit then 512 else max p.concCeil p.concFit }) ∧
        (∀ c, 512 ≤ p.concCeil → p.capCeil = some c → Runs .throttleRelease s fun t =>
          t.power = { p with capCeil := if target ≤ p.tempoFit then none else some (max c p.tempoFit) }) ∧
        (512 ≤ p.concCeil → p.capCeil = none → Runs .throttleRelease s fun t => t = s))) ∧
    (∀ w, (w < 450 ∨ 1150 < w → Runs (.powerCapWrite w) s fun t => t = s) ∧
      (450 ≤ w → w ≤ 1150 → Runs (.powerCapWrite w) s fun t => t.obj 0x220101 = w ∧ t = { s with regs := t.regs, power := { p with overSince := t.power.overSince } })) ∧
    (∀ answers watts, Runs (.powerCalibration answers watts) s fun t => t = { s with regs := t.regs, power := { p with rails := t.power.rails } } ∧
      ∀ i, i < 13 → bit (t.obj 0x233202) i = !bit answers i ∧ Map.find t.power.rails i = if bit answers i then some (nth watts i) else none)) ∧
  (∀ (s : State) (k : Tile) (d : Fin 64) (mv : Nat),
    let x := Map.getD s.tiles k {}
    let h := s.thermal
    let target := s.obj 0x232001 + if s.time < h.rampUntil then min h.rampFrom h.trim else h.trim
    (target ≤ mv + s.obj 0x231001 → x.droop = false ∨ target + 10 < mv + s.obj 0x231001 → Runs (.droop k d mv) s fun t => t = s) ∧
    (target ≤ mv + s.obj 0x231001 → x.droop = true → mv + s.obj 0x231001 ≤ target + 10 → Runs (.droop k d mv) s fun t =>
      t = { s with tiles := Map.put s.tiles k { x with last := s.time } }) ∧
    (mv + s.obj 0x231001 < target → x.droop = false → Runs (.droop k d mv) s fun t => Map.find t.tiles k = some ⟨true, [d.val], s.tempo.cur, s.time, false, s.time⟩ ∧
      (∀ p, p / 2 = k.val → t.rate p = min s.tempo.cur (s.tempo.cur * s.obj 0x231002 / 100)) ∧ (∀ j, j ≠ k.val → Map.find t.tiles j = Map.find s.tiles j) ∧
      t.obj 0x231004 = min (s.obj 0x231004 + 1) (2 ^ 32 - 1) ∧ t.source 0xC = (s.source 0xC).arrive ∧ t = { s with tiles := t.tiles, regs := t.regs, gath := t.gath }) ∧
    (mv + s.obj 0x231001 < target → x.droop = true → Runs (.droop k d mv) s fun t =>
      t = { s with tiles := Map.put s.tiles k { x with low := insertNat x.low d, last := s.time } }) ∧
    (x.droop = true → x.last + s.obj 0x231003 ≤ s.time → Runs (.droopClear k) s fun t => (∀ p, p / 2 = k.val → t.rate p = s.tempo.cur) ∧
      t.obj 0x231005 = max (s.obj 0x231005) (min (s.time - x.began) (2 ^ 32 - 1)) ∧ t = { s with tiles := Map.put s.tiles k {}, regs := t.regs }) ∧
    (x.droop = false ∨ s.time < x.last + s.obj 0x231003 → Runs (.droopClear k) s fun t => t = s) ∧
    (x.droop = true → x.logged = false → x.began + 1000000 ≤ s.time → Runs (.droopLong k) s fun t => t.log.entries.head? = some ⟨s.time, 0x0D, 0, k, 1, 0⟩ ∧
      t = { s with tiles := Map.put s.tiles k { x with logged := true }, log := t.log, gath := t.gath }) ∧
    (x.droop = false ∨ x.logged = true ∨ s.time < x.began + 1000000 → Runs (.droopLong k) s fun t => t = s)) ∧
  (∀ (s : State) (margins : List Int) (temps : List Nat) (low : Int), low ∈ margins → (∀ x ∈ margins, low ≤ x) →
    let h := s.thermal
    let limit := s.obj 0x232003
    let target := s.obj 0x220001
    let trimmed (t : State) (v : Nat) : Prop := t.thermal.trim = v ∧ (v ≠ h.trim → Sent s t (.avs (s.obj 0x232001 + v)))
    let due := s.obj 0x232006 + 10 ^ 9 * s.obj 0x232005 ≤ s.time
    (¬ due → Runs (.gaugeReading margins temps) s fun t => t = s) ∧
    (due → (∃ e ∈ s.tiles, e.2.droop = true) → Runs (.gaugeReading margins temps) s fun t => t = { s with thermal := { h with deferred := true } }) ∧
    (due → (∀ e ∈ s.tiles, e.2.droop = false) → Runs (.gaugeReading margins temps) s fun t => t.thermal.margins = margins ∧ t.thermal.temps = temps ∧
      t.obj 0x232004 = (low % 65536).toNat ∧ t.obj 0x232006 = s.time ∧ t.thermal.ceiling = h.ceiling ∧
      (low < 30 → h.trim < limit → trimmed t (min limit (h.trim + 5)) ∧ t.thermal.gaugeCeil = h.gaugeCeil) ∧
      (low < 30 → limit ≤ h.trim → trimmed t limit ∧ t.thermal.gaugeCeil = max 250 (h.gaugeCeil - target * 5 / 100) ∧
        t.log.entries.head? = some ⟨s.time, 0x0C, 0, 0, t.thermal.gaugeCeil, 0⟩) ∧
      (80 < low → trimmed t (min limit (h.trim - 5)) ∧ t.thermal.gaugeCeil =
        if h.gaugeCeil = 1400 ∨ target ≤ h.gaugeCeil + target * 5 / 100 then 1400 else h.gaugeCeil + target * 5 / 100) ∧
      (30 ≤ low → low ≤ 80 → trimmed t (min limit h.trim) ∧ t.thermal.gaugeCeil = h.gaugeCeil))) ∧
  (∀ (s : State) (tiles hbm : List Int),
    let h := s.thermal
    let own (p : Nat) := Map.getD h.stackCeil p 512
    ((∀ x ∈ tiles, 0 ≤ x ∧ x ≤ 1100) → (∀ x ∈ hbm, x ≤ 1050) → Runs (.thermalTick tiles hbm) s fun t =>
      t.thermal.tiles = tiles ∧ t.thermal.stackTemps = hbm ∧
      ((∃ x ∈ tiles, (s.obj 0x230004 : Int) < x) → t.thermal.ceiling = max 250 (min h.ceiling s.tempo.cur - 50)) ∧
      ((∀ x ∈ tiles, x ≤ (s.obj 0x230004 : Int)) → t.thermal.ceiling = h.ceiling) ∧
      ∀ p, p < 8 → Map.getD t.thermal.stackCeil p 512 = if hbm.getD p 0 ≤ s.obj 0x230005 then own p
        else max 64 (min (own p) (min (s.obj 0x2B0100) s.capConcurrency) - 32)) ∧
    ((∀ x ∈ tiles, 0 ≤ x ∧ x ≤ 1100) → (∀ x ∈ hbm, x ≤ 1050) → Runs (.thermalRecoveryTick tiles hbm) s fun t => t.thermal.tiles = tiles ∧ t.thermal.stackTemps = hbm ∧
      (t.thermal.ceiling = if (tiles.all fun x => decide (x ≤ (s.obj 0x230004 : Int) - 30)) = true ∧ h.ceiling ≠ 1400
        then (if s.obj 0x220001 ≤ h.ceiling + 50 then 1400 else h.ceiling + 50) else h.ceiling) ∧
      ∀ p, p < 8 → Map.getD t.thermal.stackCeil p 512 = if own p = 512 ∨ (s.obj 0x230005 : Int) - 30 < hbm.getD p 0 then own p
        else if s.obj 0x2B0100 ≤ own p + 32 then 512 else own p + 32))

/-- A polder's sleep state changes by the table, and a hold prevails. A wet polder that has been idle for 2404h.02 under automatic sleep is sent damp, at once where it does not run and at its next pass barrier where it does; a damp one that has been idle for 2404h.03 is sent dry, by a quiesce where it runs, and a dry one has lost its buffers, lanes and waits and kept its image and program record. A wake returns it to wet unless a hold on damp or dry is in force; each control of 2404h.05 records its hold and moves the polder by the same rows; switching automatic sleep off wakes every polder that is not held. (R84, R400, R401, R432) -/
def Obligations.PoldersSleepAndWakeByTheTable : Prop :=
  (∀ (s : State) (p : Pol),
    let x := s.polder p
    let free := (∀ l ∈ Map.keys x.lanes, x.laneAt s.time l = none) ∧ ∀ r ∈ x.rings, r.2 = []
    let auto := s.obj 0x240401 = 1 ∧ x.sleepHold = .automatic
    let free (key : Nat) : Prop := free ∧ s.obj key ≤ s.since ((Map.vals x.lanes).foldl (fun b a => max b a.freeAt) x.busyAt)
    let still (i : Instr) := Runs i s fun t => t = s
    let only (t : State) : Prop := t = { s with polders := t.polders, regs := t.regs, gath := t.gath } ∧ ∀ k, k ≠ p.val → t.polder k = s.polder k
    let fired (t : State) := t.source (0x49 + 16 * p) = (s.source (0x49 + 16 * p)).arrive
    let damp (t : State) (h : SleepHold) : Prop := only t ∧ (t.polder p).sleepHold = h ∧
      (x.prog = .running ∨ x.prog = .stopping → (t.polder p).sleep = .wet ∧ (t.polder p).damping = true ∧ (t.polder p).prog = x.prog) ∧
      (x.prog ≠ .running → x.prog ≠ .stopping → (t.polder p).sleep = .damp ∧ (t.polder p).damping = false ∧ (t.polder p).buf = x.buf ∧ (t.polder p).image = x.image ∧ fired t)
    let dry (t : State) (h : SleepHold) : Prop := only t ∧ (t.polder p).sleepHold = h ∧
      (x.prog = .running → (t.polder p).sleep = .damp ∧ (t.polder p).closed = true ∧ (t.polder p).closeSleep = true ∧ (t.polder p).drying = true) ∧
      (x.prog ≠ .running → (t.polder p).sleep = .dry ∧ (t.polder p).buf = [] ∧ (t.polder p).lanes = [] ∧ (t.polder p).waits = [] ∧ (t.polder p).gates = [] ∧
        (t.polder p).image = x.image ∧ (t.polder p).prog = x.prog ∧ (t.polder p).rings = x.rings ∧ (t.polder p).faultCode = x.faultCode ∧ fired t)
    let wet (t : State) (h : SleepHold) : Prop := only t ∧ (t.polder p).sleep = .wet ∧ (t.polder p).sleepHold = h ∧ (t.polder p).damping = false ∧ (t.polder p).drying = false ∧
      (t.polder p).prog = x.prog ∧ (t.polder p).image = x.image ∧ (x.sleep = .dry → t.obj 0x240406 = min (s.obj 0x240406 + 1) (2 ^ 32 - 1)) ∧ (x.sleep ≠ .wet → fired t)
    (x.sleep = .wet → free 0x240402 → auto → x.prog ≠ .stopping → x.damping = false → x.drying = false → Runs (.dampIdleExpiry p) s fun t => damp t x.sleepHold) ∧
    (x.sleep ≠ .wet ∨ ¬ free 0x240402 ∨ ¬ auto ∨ x.prog = .stopping → still (.dampIdleExpiry p)) ∧
    (x.sleep = .damp → free 0x240403 → auto → x.damping = false → Runs (.dryIdleExpiry p) s fun t => dry t x.sleepHold) ∧
    (x.sleep ≠ .damp ∨ ¬ free 0x240403 ∨ ¬ auto → still (.dryIdleExpiry p)) ∧
    (x.sleepHold = .damp ∨ x.sleepHold = .dry → still (.polderWake p)) ∧
    (x.sleepHold ≠ .damp → x.sleepHold ≠ .dry → Runs (.polderWake p) s fun t => wet t x.sleepHold) ∧
    (Runs (.holdWet p) s fun t => wet t .wet) ∧
    (s.obj 0x240401 = 0 → Runs (.sleepAutomatic p) s fun t => wet t .automatic) ∧
    (s.obj 0x240401 ≠ 0 → Runs (.sleepAutomatic p) s fun t => t = s.setPolder p { x with sleepHold := .automatic }) ∧
    (x.sleep = .wet → x.drying = false → Runs (.holdDamp p) s fun t => damp t .damp) ∧
    (x.sleep = .damp → Runs (.holdDamp p) s fun t => only t ∧ (t.polder p).sleep = .damp ∧ (t.polder p).sleepHold = .damp ∧ (t.polder p).drying = false) ∧
    (x.sleep = .dry → x.prog ≠ .running → x.prog ≠ .stopping → Runs (.holdDamp p) s fun t => only t ∧ (t.polder p).sleep = .damp ∧ (t.polder p).sleepHold = .damp) ∧
    (x.sleep = .damp → x.damping = false → Runs (.holdDry p) s fun t => dry t .dry) ∧
    (x.sleep = .wet → x.prog ≠ .running → x.prog ≠ .stopping → Runs (.holdDry p) s fun t => (t.polder p).sleep = .dry ∧ (t.polder p).sleepHold = .dry ∧ (t.polder p).buf = []) ∧
    (x.sleep = .wet → x.prog = .running → Runs (.holdDry p) s fun t => (t.polder p).sleep = .wet ∧ (t.polder p).damping = true ∧ (t.polder p).drying = true ∧ (t.polder p).sleepHold = .dry) ∧
    (x.sleep = .dry → Runs (.holdDry p) s fun t => t = s.setPolder p { x with sleepHold := .dry })) ∧
  (∀ s : State, (Runs (.automaticSleepWrite true) s fun t => t.obj 0x240401 = 1 ∧ t = { s with regs := t.regs }) ∧
    Runs (.automaticSleepWrite false) s fun t => t.obj 0x240401 = 0 ∧ ∀ p, p < 8 →
      ((s.polder p).sleepHold = .automatic → (t.polder p).sleep = .wet ∧ (t.polder p).prog = (s.polder p).prog) ∧
      ((s.polder p).sleepHold ≠ .automatic → t.polder p = s.polder p))

/-- Reports, envelopes, key slots, confidential operation and breaches do what the security rules say. A nonce copies the measurement entries and their count at one instant and its report stands signed, while the keys are held and the latch is clear. An envelope fails by the first check of R414 that it fails, with that result and no key changed, and else installs the keys that it wraps, under the key that its secret and its header give. A slot switches to its other generation only where that is installed, and its sending generation is not erased. A breach source at a level not yet acted on is logged, counted and raised, and acts by every level up to its own: the fence, the erasure of every key and every polder held dry, the erasure of the identity and the latch; at a level acted on it is only logged. A breach level is set while the policy is unlocked. Confidential operation starts only with session keys and the rings disabled, and ends only with them disabled. (R403, R404, R408, R411, R412, R414, R420, R421, R428, R431, R432, R435) -/
def Obligations.KeysReportsAndBreachesFollowTheirRules : Prop :=
  (∀ s : State,
    let x := s.sec
    let still (i : Instr) := Runs i s fun t => t = s
    let k := s.obj 0x2E1301 % 4096
    let j := s.jobSlot k
    let off : Prop := ∀ r ∈ s.rings, r.2.st = 0
    let may : Prop := x.session.isSome = true ∧ off
    (∀ n, Runs (.nonce n) s fun t => t = { s with sec := { x with pending := t.sec.pending, report := t.sec.report } } ∧
      (x.identityKey = true → x.transportKey = true → s.start.latch = false → (∃ r, t.sec.pending = some r ∧ r.nonce = n ∧ r.time = s.time ∧ r.count = x.count ∧ r.meas = x.meas ∧ r.node = s.obj 0x260001) ∧ t.sec.report = x.report) ∧
      (x.identityKey = false ∨ x.transportKey = false ∨ s.start.latch = true → t.sec.pending = none ∧ t.sec.report = none)) ∧
    (∀ sig, (x.pending = none → still (.reportStands sig)) ∧
      (∀ r, x.pending = some r → Runs (.reportStands sig) s fun t => t.sec.pending = none ∧
        t.sec.report = some { r with flags := b2n x.conf + 2 * b2n (decide (s.start.st = .berm)) + 4 * b2n s.start.latch + 8 * b2n x.locked, level := x.acted.getD 255, sig := sig } ∧
        t.source 0x11 = (s.source 0x11).arrive)) ∧
    (∀ e : Envelope,
      let wrapping := (sha3 (e.secret.take 32 ++ e.bytes.take 80)).take 32
      let opened := gcmOpen wrapping (List.replicate 12 0) (e.bytes.take 80) (e.bytes.drop 1648)
      let key (i : Nat) : Nat := fieldAt (opened.getD []) (32 * i) 32
      let result (kind : Nat) (target free : Bool) : Nat := if s.start.st = .berm ∨ s.start.latch = true then 6
        else if e.bytes.length ≠ 1728 ∨ nth e.bytes 0 ≠ 1 ∨ nth e.bytes 1 ≠ kind ∨ fieldAt e.bytes 4 4 ≠ 0 ∨ target = false then 1
        else if fieldAt e.bytes 16 64 ≠ s.idDigest then 2 else if fieldAt e.bytes 8 8 ≠ x.count then 3
        else if x.transportKey = false ∨ opened = none then 4 else if free = false then 5 else 0
      let at_ := fieldAt e.bytes 2 2
      let n := at_ % 4096
      let g := bit at_ 12
      let sending := ((if g then (s.jobSlot n).gen1 else (s.jobSlot n).gen0).isSome && decide ((s.jobSlot n).sending = g))
      let answered (t : State) (r : Nat) : Prop := t.sec.envResult = r ∧ t.source 0x10 = (s.source 0x10).arrive ∧
        (r ≠ 0 → t.obj 0x2E1203 = min (s.obj 0x2E1203 + 1) (2 ^ 32 - 1) ∧ t = { s with sec := { x with envResult := r }, regs := t.regs, gath := t.gath }) ∧
        t.mem = s.mem ∧ t.seqs = s.seqs ∧ t.reqs = s.reqs
      (Runs (.envelopeWeightKey e) s fun t => let r := result 1 (decide (at_ < 64)) !(s.weight at_).loading
        answered t r ∧ (r = 0 → (t.weight at_).key = some (key 0) ∧ ∀ b, b ≠ at_ → t.weight b = s.weight b)) ∧
      (Runs (.envelopeJobKey e) s fun t => let r := result 2 (decide (n ≠ 0) && decide (at_ < 8192)) !sending
        answered t r ∧ (r = 0 → (if g then (t.jobSlot n).gen1 else (t.jobSlot n).gen0) = some (key 0, key 1) ∧
          (if g then (t.jobSlot n).gen0 else (t.jobSlot n).gen1) = (if g then (s.jobSlot n).gen0 else (s.jobSlot n).gen1) ∧ ∀ b, b ≠ n → t.jobSlot b = s.jobSlot b)) ∧
      (Runs (.envelopeSessionKeys e) s fun t => let r := result 3 (decide (at_ = 0)) !x.conf
        answered t r ∧ (r = 0 → t.sec.session = some (key 0, key 1) ∧ ∀ k ∈ t.rings, k.2.counter = 0 ∧ k.2.outCounter = 0))) ∧
    ((if j.sending then j.gen0 else j.gen1) = none → still .switchGeneration) ∧
    ((if j.sending then j.gen0 else j.gen1) ≠ none → Runs .switchGeneration s fun t => t.jobSlot k = { j with sending := !j.sending, drawn := 0 } ∧ ∀ b, b ≠ k → t.jobSlot b = s.jobSlot b) ∧
    (j.gen0.isSome = true → j.sending = false → still .eraseGeneration0) ∧ (j.gen1.isSome = true → j.sending = true → still .eraseGeneration1) ∧
    (j.gen0 = none ∨ j.sending = true → Runs .eraseGeneration0 s fun t => (t.jobSlot k).gen0 = none ∧ (t.jobSlot k).gen1 = j.gen1 ∧ ∀ b, b ≠ k → t.jobSlot b = s.jobSlot b) ∧
    (j.gen1 = none ∨ j.sending = false → Runs .eraseGeneration1 s fun t => (t.jobSlot k).gen1 = none ∧ (t.jobSlot k).gen0 = j.gen0 ∧ ∀ b, b ≠ k → t.jobSlot b = s.jobSlot b) ∧
    (Runs .eraseSlot s fun t => t.jobSlot k = {} ∧ ∀ b, b ≠ k → t.jobSlot b = s.jobSlot b) ∧
    (Runs .entropyFailure s fun t => t.start.entropyOk = false ∧ t.obj 0x2E0006 = min (s.obj 0x2E0006 + 1) (2 ^ 32 - 1) ∧ t = { s with start := t.start, regs := t.regs }) ∧
    (Runs .entropyHealthTestPass s fun t => t = { s with start := { s.start with entropyOk := true } }) ∧
    (Runs .policyLock s fun t => t = { s with sec := { x with locked := true } }) ∧
    (∀ source level, (x.locked = true ∨ source = 0 ∨ 7 < source ∨ 3 < level → still (.breachLevelWrite source level)) ∧
      (x.locked = false → 1 ≤ source → source ≤ 7 → level ≤ 3 → Runs (.breachLevelWrite source level) s fun t => t.obj (0x2E2000 + source) = level ∧ t = { s with regs := t.regs })) ∧
    (may → Runs .confidentialStart s fun t => t = { s with sec := { x with conf := true } }) ∧ (¬ may → still .confidentialStart) ∧
    (x.conf = true → off → Runs .confidentialEnd s fun t => t = { s with sec := { x with conf := false, session := none } }) ∧
    (x.conf = false ∨ ¬ off → still .confidentialEnd)) ∧
  (∀ (s : State) (source : Nat) (recheck : Bool), 1 ≤ source → source ≤ 7 → (recheck = true → source = 7) →
    let breaches (P : State → Prop) : Prop := if recheck then Runs (.signatureRecheck false) s P else Runs (.breach source) s P
    let level := s.obj (0x2E2000 + source)
    let entry : LogEntry := ⟨s.time, 14, 0, 0, 0, source + 256 * level⟩
    ((∃ a, s.sec.acted = some a ∧ level ≤ a) → breaches fun t => t.log.entries.head? = some entry ∧ t = { s with log := t.log, gath := t.gath }) ∧
    ((∀ a, s.sec.acted = some a → a < level) → breaches fun t => entry ∈ t.log.entries ∧ t.sec.acted = some level ∧
      t.obj 0x2E0003 = min (s.obj 0x2E0003 + 1) (2 ^ 32 - 1) ∧ t.obj 0x2E0004 = source ∧ t.obj 0x2E0005 = s.time ∧
      (level = 0 → t.fence = s.fence ∧ t.seqs = s.seqs ∧ t.reqs = s.reqs ∧ t.weights = s.weights ∧ t.source 1 = (s.source 1).arrive) ∧
      (1 ≤ level → t.fence.st = .fenced) ∧
      (level ≤ 1 → t.sec = { s.sec with acted := some level, msgId := t.sec.msgId } ∧ t.weights = s.weights) ∧
      (2 ≤ level → t.sec.session = none ∧ t.sec.storageKeys = false ∧ t.sec.storeKey = 0 ∧ t.sec.conf = false ∧ (∀ k, (t.jobSlot k).gen0 = none ∧ (t.jobSlot k).gen1 = none) ∧
        (∀ b, b < 64 → (t.weight b).key = none) ∧ (∀ p, p < 8 → (t.polder p).sleepHold = .dry) ∧
        (s.pair.st ≠ .rebuilding → ∀ q e k v, Map.find t.seqs q = some e → Map.find e.stored k = some v → v.lost = true)) ∧
      (level ≤ 2 → t.sec.identityKey = s.sec.identityKey ∧ t.start.latch = s.start.latch) ∧
      (3 ≤ level → t.sec.identityKey = false ∧ t.sec.transportKey = false ∧ t.sec.report = none ∧ t.start.latch = true))) ∧
  (∀ s : State, Runs (.signatureRecheck true) s (fun t => t = s) ∧ ∀ source, source = 0 ∨ 7 < source → Runs (.breach source) s fun t => t = s)

/-- The aggregator records what is due, Tidegauge counts, checkpoints, logs and reads, and changes only as approved. While Tidegauge takes records, the timer makes one of each tenant and kind of which something is due, in one rising sequence, and the sums begin again. A valid record is applied: kinds 1 and 2 add, kind 3 adds in units of 1024 with its residue kept, kinds 4 to 6 set a charge whose time counts in units of 65 536 byte-seconds, a kind that the table lacks adds nothing; a record of 32 bytes with a failed CRC is a detection and not applied, one already applied is left, a gap is a detection. A detection is logged, or counted where the log is full, and a seal event is marked. The checkpoint holds every counter integrated to now and comes back at power-on. A reading takes its snapshot when asked and stands once signed; a clear needs a log reading of exactly the entries; an image runs only with the approved digest; an update package and the legally relevant changes are refused by the first reason that holds, and leave their entry. (R441, R444, R445, R446, R447, R448, R449, R450, R451, R452, R453, R454) -/
def Obligations.MeteringCountsAndReadsUnderSeal : Prop :=
  ∀ s : State,
    let g := s.gauge
    let still (x : Instr) := Runs x s fun t => t = s
    let berm := s.start.st = .berm
    let room := 8192 - g.log.length - (if g.pendVersion = 0 then 0 else 1)
    let seen (t : State) (code data : Nat) : Prop :=
      (room = 0 → t.gauge.log = g.log ∧ t.gauge.unlogged = g.unlogged + 1) ∧ (room ≠ 0 → t.gauge.log = g.log ++ [⟨g.next, g.time, code, data⟩] ∧ t.gauge.next = g.next + 1)
    let wrote (t : State) (code data : Nat) : Prop := t.gauge.log = g.log ++ [⟨g.next, g.time, code, data⟩] ∧ t.gauge.next = g.next + 1
    let unit (key : Nat) : Nat := if key % 8 = 4 then 10 ^ 9 else 16 * 10 ^ 9
    let held (key : Nat) : Nat := Map.getD g.frac key 0 + Map.getD g.charge key 0 * (g.time - Map.getD g.since key g.time)
    let reads := (g.st = .running ∨ g.st = .readOnly) ∧ g.keyOk = true
    (g.st ≠ .running → still .meteringRecordTimer ∧ ∀ bs, still (.meteringRecord bs)) ∧
    (g.st = .running → Runs .meteringRecordTimer s fun t => ∃ l, t.meter.queue = s.meter.queue ++ l ∧ t.meter.seq = s.meter.seq + l.length ∧ t = { s with meter := t.meter } ∧
      (∀ i r, l[i]? = some r → r.seq = s.meter.seq + i + 1 ∧ r.time = s.time ∧ s.dueAmount (r.tenant * 8 + r.kind) = some r.amount ∧
        (r.kind ≤ 3 → Map.getD t.meter.sums (r.tenant * 8 + r.kind) 0 = 0) ∧ (4 ≤ r.kind → Map.getD t.meter.reported (r.tenant * 8 + r.kind) 0 = r.amount)) ∧
      ∀ key n, s.dueAmount key = some n → ∃ r ∈ l, r.tenant = key / 8 ∧ r.kind = key % 8) ∧
    (∀ bs : List Nat, g.st = .running →
      let intact : Prop := bs.length = 32 ∧ fieldAt bs 28 4 = crc32c (bs.take 28)
      let seq := fieldAt bs 0 8
      let kind := nth bs 18
      let amount := fieldAt bs 20 8
      let key := fieldAt bs 16 2 % 4096 * 8 + kind
      (¬ intact → Runs (.meteringRecord bs) s fun t => seen t 0x13 seq ∧ t.gauge.sealed_ = true ∧ t.gauge.counters = g.counters ∧ t.gauge.lastRec = g.lastRec) ∧
      (intact → seq ≤ g.lastRec → Runs (.meteringRecord bs) s fun t => t.gauge = g ∧ t = { s with meter := t.meter }) ∧
      (intact → g.lastRec < seq → Runs (.meteringRecord bs) s fun t => t.gauge.lastRec = seq ∧
        (seq = g.lastRec + 1 → t.gauge.log = g.log) ∧ (seq ≠ g.lastRec + 1 → seen t 0x13 seq ∧ t.gauge.sealed_ = true) ∧
        (∀ k, k ≠ key → Map.getD t.gauge.counters k 0 = Map.getD g.counters k 0) ∧
        (kind = 0 ∨ 6 < kind → t.gauge.counters = g.counters ∧ t.gauge.charge = g.charge) ∧
        (kind = 1 ∨ kind = 2 → Map.getD t.gauge.counters key 0 = Map.getD g.counters key 0 + amount) ∧
        (kind = 3 → Map.getD t.gauge.counters key 0 = Map.getD g.counters key 0 + (Map.getD g.residue key 0 + amount) / 1024 ∧
          Map.getD t.gauge.residue key 0 = (Map.getD g.residue key 0 + amount) % 1024) ∧
        (4 ≤ kind → kind ≤ 6 → Map.getD t.gauge.counters key 0 = Map.getD g.counters key 0 + held key / unit key ∧ Map.getD t.gauge.frac key 0 = held key % unit key ∧
          Map.getD t.gauge.since key 0 = g.time ∧ Map.getD t.gauge.charge key 0 = amount))) ∧
    (g.st ≠ .running → g.st ≠ .readOnly → still .counterCheckpoint) ∧
    (g.st = .running ∨ g.st = .readOnly → Runs .counterCheckpoint s fun t => t = { s with gauge := t.gauge } ∧
      (∀ key, Map.has g.charge key = true → Map.getD t.gauge.counters key 0 = Map.getD g.counters key 0 + held key / unit key) ∧
      (∀ key, Map.has g.charge key = false → Map.getD t.gauge.counters key 0 = Map.getD g.counters key 0) ∧
      t.gauge.checkpoint = ⟨t.gauge.counters, g.residue, g.charge, t.gauge.frac, g.time, g.lastRec⟩) ∧
    (∀ ppm : Int, (ppm.natAbs ≤ 200 → still (.crystalCompare ppm)) ∧ (200 < ppm.natAbs → Runs (.crystalCompare ppm) s fun t => seen t 0x14 ppm.natAbs ∧ t.gauge.sealed_ = true)) ∧
    (Runs .islandSupplyOutOfRange s fun t => seen t 0x15 0 ∧ t.gauge.sealed_ = true) ∧
    (∀ (x : Tenant) n, (¬ reads → still (.tenantReading x n)) ∧
      (reads → Runs (.tenantReading x n) s fun t => t.gauge.sealed_ = false ∧ ∃ r, t.gauge.asked = some r ∧ r.kind = 1 ∧ r.tenant = x ∧ r.nonce = n ∧ r.time = g.time ∧
        r.device = s.time ∧ r.lastRec = g.lastRec ∧ r.counters = (List.range 6).map (fun k => Map.getD t.gauge.counters (x * 8 + k + 1) 0) ∧
        r.version = g.version ∧ r.image = g.digest ∧ (g.sealed_ = true → bit r.flags 3 = true))) ∧
    (∀ c n, (¬ reads ∨ c = 0 ∨ 256 < c → still (.logReading c n)) ∧
      (reads → 1 ≤ c → c ≤ 256 → Runs (.logReading c n) s fun t => ∃ r, t.gauge.asked = some r ∧ r.kind = 2 ∧ r.nonce = n ∧ r.entries = g.log.take c ∧ r.next = g.next)) ∧
    (∀ sig, (g.asked = none → still (.readingStands sig)) ∧
      (∀ r, g.asked = some r → Runs (.readingStands sig) s fun t =>
        let d := leNat (sha3 (r.entries.flatMap fun e => leBytes 8 e.seq ++ leBytes 8 e.time ++ leBytes 2 e.code ++ [0, 0] ++ leBytes 12 e.data))
        t.gauge.asked = none ∧ t.gauge.reading = some { r with digest := d, sig := sig } ∧
        (r.kind = 2 → (r.first, r.entries.length, d) ∈ t.gauge.exported) ∧ t.source 0x18 = (s.source 0x18).arrive ∧ t = { s with gauge := t.gauge, gath := t.gath })) ∧
    (∀ image : List Nat,
      let d := leNat (sha3 image)
      (g.st = .awaiting → d = g.approvedDigest → Runs (.imageLoadTidegauge image) s fun t => t.gauge.version = g.approvedVersion ∧ t.gauge.digest = d ∧ t.gauge.log = g.log ∧
        (berm → t.gauge.st = .readOnly) ∧ (¬ berm → t.gauge.st = .running) ∧ t.sec.count = s.sec.count + 1) ∧
      (g.st = .awaiting → d ≠ g.approvedDigest → Runs (.imageLoadTidegauge image) s fun t => seen t 0x17 0 ∧ t.gauge.st = .awaiting) ∧
      (g.st = .running ∨ g.st = .readOnly → Runs (.imageLoadTidegauge image) s fun t => seen t 0x12 0 ∧ t.gauge.st = g.st ∧ t.gauge.digest = g.digest) ∧
      (g.st ≠ .awaiting → g.st ≠ .running → g.st ≠ .readOnly → still (.imageLoadTidegauge image))) ∧
    (∀ (bs : List Nat) (sig : Bool),
      let new := fieldAt bs 4 4
      let r : Nat := if berm then 5 else if bs.length ≠ 4699 ∨ nth bs 0 ≠ 1 ∨ fieldAt bs 1 3 ≠ 0 then 6 else if s.pkg.updEn = false then 1 else if sig = false then 2
        else if new ≤ g.approvedVersion ∨ new ≤ g.pendVersion then 3 else if room < (if g.pendVersion = 0 then 2 else 1) then 4 else 0
      (r ≠ 0 → Runs (.updatePackage bs sig) s fun t => t = { s with gauge := { g with update := r } }) ∧
      (r = 0 → Runs (.updatePackage bs sig) s fun t => t.gauge.update = 0 ∧ t.gauge.pendVersion = new ∧ t.gauge.pendDigest = fieldAt bs 8 64 ∧ wrote t 1 new ∧
        t.gauge.approvedVersion = g.approvedVersion ∧ t.gauge.counters = g.counters)) ∧
    (∀ on, (s.pkg.updEn = on → still (.updateEnableChange on)) ∧
      (s.pkg.updEn ≠ on → Runs (.updateEnableChange on) s fun t => t.pkg.updEn = on ∧ seen t (if on then 0x10 else 0x11) 0)) ∧
    (∀ first count d,
      let may := ¬ berm ∧ count ≠ 0 ∧ count ≤ g.log.length ∧ (∃ e, g.log.head? = some e ∧ e.seq = first) ∧ (first, count, d) ∈ g.exported
      (¬ may → still (.logClear first count d)) ∧
      (may → Runs (.logClear first count d) s fun t => t.gauge.log = g.log.drop count ++ [⟨g.next, g.time, 5, count⟩] ∧ t.gauge.next = g.next + 1)) ∧
    (∀ ns : Int, (berm ∨ room = 0 ∨ 10 ^ 9 < ns.natAbs → still (.gaugeTimeAdjustment ns)) ∧
      (¬ berm → room ≠ 0 → ns.natAbs ≤ 10 ^ 9 → Runs (.gaugeTimeAdjustment ns) s fun t => t.gauge.time = ((g.time : Int) + ns).toNat ∧ wrote t 3 (ns % 2 ^ 64).toNat)) ∧
    (∀ x : Tenant, (berm ∨ room = 0 → still (.tenantRetire x)) ∧
      (¬ berm → room ≠ 0 → Runs (.tenantRetire x) s fun t => Map.getD t.gauge.epochs x 0 = Map.getD g.epochs x 0 + 1 ∧ t.gauge.counters = g.counters ∧
        wrote t 4 (x + (Map.getD g.epochs x 0 + 1) * 2 ^ 16))) ∧
    (∀ ok, Runs (.islandPowerOn ok) s fun t => t.gauge.st = (if ok then .awaiting else .mismatch) ∧ t.gauge.keyOk = ok ∧ t.gauge.counters = g.checkpoint.counters ∧
      t.gauge.residue = g.checkpoint.residue ∧ t.gauge.charge = g.checkpoint.charge ∧ t.gauge.time = g.checkpoint.time ∧ t.gauge.lastRec = g.checkpoint.lastRec ∧
      t.gauge.epochs = g.epochs ∧ t.gauge.pendVersion = 0 ∧ (t.gauge.approvedVersion = if g.pendVersion = 0 then g.approvedVersion else g.pendVersion) ∧
      (g.log.length + 4 ≤ 8192 → (∃ e, t.gauge.log.getLast? = some e ∧ e.code = 0x18 ∧ e.data = g.checkpoint.lastRec) ∧
        (g.clean = false → ∃ e ∈ t.gauge.log, e.seq ≥ g.next ∧ e.code = 0x16) ∧ (g.pendVersion ≠ 0 → ∃ e ∈ t.gauge.log, e.seq = g.next ∧ e.code = 2 ∧ e.data = g.pendVersion)) ∧
      (s.pkg.pwr = .ready ∨ s.pkg.pwr = .down → (g.clean = true → t.start = { s.start with latch := false } ∧ t.sec = { s.sec with locked := false }) ∧ t.sec.locked = false ∧ ∀ k, k / 256 = 0x2E20 → t.obj k = objDefault k) ∧
      (s.pkg.pwr ≠ .ready → s.pkg.pwr ≠ .down → g.clean = true → t.start = s.start ∧ t.sec = s.sec))

/-- The start sequence goes from ROM to SERVING by its table, and fails with the reason of its step. Each event of the start table completes: it changes the start only in the state that awaits it, sends it on where it passes, and fails the start with the listed step, reason and detail where it does not. The latch, or a third failure, leads to berm mode at the end of step 1. MARGIN steps the trim down, ends at 80 per mille or below, and fails only below 0 per mille at the trim limit and the lowest ceiling. Polders of untrained stacks are down. The path that begins the download owns it; a bundle is judged by the checks in their order, the first failure naming the reason. S0 takes the duty sets of the stewards that are not ready. A start fails at step 9 only when no polder loads. The first PTP lock sets device time and enables the ports. (R397, R398, R464, R465, R466, R467, R470, R472, R473, R475, R477, R576) -/
def Obligations.StartsRunByTheTable : Prop :=
  ∀ s : State,
    let st := s.start.st
    let b := s.start
    let still (x : Instr) := Runs x s fun t => t = s
    (∀ r, (st ≠ .rom → still (.selfCheckComplete r)) ∧
      (st = .rom → b.latch = true → Runs (.selfCheckComplete r) s fun t => InBerm s t 2 b.fails) ∧
      (st = .rom → b.latch = false → b.bermCause = 1 → Runs (.selfCheckComplete r) s fun t => InBerm s t 1 b.fails)) ∧
    (st = .rom → b.latch = false → b.bermCause ≠ 1 → (∀ k, Runs (.selfCheckComplete (some k)) s fun t => StartFails s t 1 1 k) ∧
      Runs (.selfCheckComplete none) s fun t => Entered s t .identity ∧ t = { s with start := { b with st := .identity, entered := s.time }, gath := t.gath }) ∧
    (∀ (record : List Nat) (sig : Bool) (key : List Nat),
      let x := Instr.identityDerived record sig key
      let u : State := { s with pkg := { s.pkg with record := record } }
      let good : Prop := sig = true ∧ record.length = 8828 + fieldAt record 20 4 + 4627 ∧ nth record 0 = 1 ∧ fieldAt record 1 3 = 0 ∧ fieldAt record 24 4 = 0 ∧
        (record.drop 28).take 64 = sha3 (publicRun 1 2592)
      let own : Prop := sha3 key = sha3 ((record.drop 92).take 2592)
      (st ≠ .identity → still x) ∧ (st = .identity → ¬ good → Runs x s fun t => StartFails u t 2 2 0) ∧
      (st = .identity → good → ¬ own → Runs x s fun t => StartFails u t 2 3 0) ∧
      (st = .identity → good → own → b.entropyOk = false → Runs x s fun t => StartFails u t 2 4 0) ∧
      (st = .identity → good → own → b.entropyOk = true → Runs x s fun t => Entered s t .margin ∧ t.pkg = u.pkg ∧
        t.start = { b with identity := true, st := .margin, entered := s.time } ∧
        t.thermal.trim = s.obj 0x232003 ∧ t.out = .avs (s.obj 0x232001 + s.obj 0x232003) :: s.out ∧
        t.sec = { s.sec with identityKey := true, transportKey := true, storageKeys := true, storeKey := t.sec.storeKey, writeSerial := 0, meas := t.sec.meas, count := t.sec.count } ∧
        t.sec.storeKey = (List.range 12).foldl (fun a i => a + (Config.freeValue (s.freeCtr + i)).toNat * 2 ^ (64 * i)) 0 ∧ t.freeCtr = s.freeCtr + 12 ∧
        ((Map.find t.sec.meas 1).map fun m => (m.kind, m.time)) = some (1, s.time))) ∧
    (∀ l, st ≠ .margin → still (.gaugeStartRead l)) ∧
    (∀ (l : List Int) (c : Nat) (low : Int), st = .margin → l[c]? = some low → (∀ m ∈ l, low ≤ m) → (∀ j, j < c → l[j]? ≠ some low) →
      let h := s.thermal
      let limit := s.obj 0x232003
      let less := max 250 (h.gaugeCeil - s.obj 0x220001 * 5 / 100)
      Runs (.gaugeStartRead l) s fun t =>
        (80 < low → h.trim = 0 → Entered s t .training ∧ t.thermal.trim = 0) ∧
        (80 < low → h.trim ≠ 0 → t.start = b ∧ t.thermal.trim = h.trim - 5 ∧ t.out = .avs (s.obj 0x232001 + (h.trim - 5)) :: s.out) ∧
        (30 ≤ low → low ≤ 80 → Entered s t .training ∧ t.thermal.trim = h.trim ∧ t.thermal.gaugeCeil = h.gaugeCeil) ∧
        (low < 30 → h.trim < limit → Entered s t .training ∧ t.thermal.trim = min limit (h.trim + 5) ∧ t.thermal.gaugeCeil = h.gaugeCeil) ∧
        (0 ≤ low → low < 30 → limit ≤ h.trim → Entered s t .training ∧ t.thermal.trim = h.trim ∧ t.thermal.gaugeCeil = less) ∧
        (low < 0 → limit ≤ h.trim → 250 < h.gaugeCeil → t.start = b ∧ t.thermal.trim = h.trim ∧ t.thermal.gaugeCeil = less) ∧
        (low < 0 → limit ≤ h.trim → h.gaugeCeil ≤ 250 → StartFails s t 3 5 c)) ∧
    (∀ n, (st ≠ .training → still (.trainingComplete n)) ∧
      (st = .training → n % 256 = 0 → Runs (.trainingComplete n) s fun t => StartFails s t 4 6 0) ∧
      (st = .training → n % 256 ≠ 0 → Runs (.trainingComplete n) s fun t => Entered s t .awaitBundle ∧ t.mem = [] ∧ t.sideband = [] ∧
        t.start = { b with trained := n % 256, st := .awaitBundle, entered := s.time } ∧
        (∀ p, p < 8 → t.polder p = if bit n p then s.polder p else { s.polder p with down := true }) ∧
        t = { s with start := t.start, mem := [], sideband := [], polders := t.polders, gath := t.gath })) ∧
    (∀ desc list : List Nat,
      let x := Instr.bootDescriptor desc list
      let n := fieldAt desc 8 4
      let at_ (i : Nat) := fieldAt list (16 * i) 8
      let len (i : Nat) := fieldAt list (16 * i + 8) 4
      let total := ((List.range n).map len).sum
      let ok := fieldAt desc 0 8 % 16 = 0 ∧ 1 ≤ n ∧ n ≤ 16384 ∧ fieldAt desc 12 4 = 0 ∧ list.length = 16 * n ∧
        (∀ i, i < n → fieldAt list (16 * i + 12) 4 = 0 ∧ at_ i % 4096 = 0) ∧ (∀ i, i + 1 < n → len i % 4096 = 0) ∧ total ≤ 67108864
      let shows (v : Nat) : Prop := Runs x s fun t => t = { s with start := { b with boot := v }, gath := t.gath } ∧ (b.boot ≠ v → t.source 0x182 = (s.source 0x182).arrive)
      let pulls := b.pulling = true ∧ b.path = 1
      (st = .berm ∨ pulls → still x) ∧ (st ≠ .berm → st ≠ .awaitBundle → ¬ pulls → shows 1) ∧ (st = .awaitBundle → b.path = 2 → shows 2) ∧
      (st = .awaitBundle → b.path ≠ 2 → ¬ pulls → ¬ ok → shows 1) ∧
      (st = .awaitBundle → b.path ≠ 2 → ¬ pulls → ok → Runs x s fun t => t.source 0x182 = (if b.boot = 3 then s.source 0x182 else (s.source 0x182).arrive) ∧
        t = { s with gath := t.gath, start := { b with path := 1, pulling := true, total := total, bytes := 0, boot := 3 } })) ∧
    (∀ (path : Fin 3) total,
      let may := path = 2 ∧ st = .awaitBundle ∧ b.path ≠ 1 ∧ total ≤ 67108864
      (¬ may → still (.bundleWrite path total)) ∧
      (may → Runs (.bundleWrite path total) s fun t => t = { s with start := { b with path := 2, pulling := true, total := total, bytes := 0 } })) ∧
    (∀ d : Bundle,
      let takes := st = .awaitBundle ∧ b.pulling = true ∧ (b.path = 1 → s.host.master = true) ∧ d.bytes.length = b.total
      let formed := d.malformedAt b.total = none
      let key := sha3 ((d.bytes.drop 128).take 2592) = sha3 (publicRun 9 2592)
      let differs (i : Nat) : Prop := i < d.sections ∧ (d.bytes.drop (Bundle.entryAt i + 32)).take 64 ≠ sha3 ((d.bytes.drop (d.offset i)).take (d.len i))
      let fails (r x : Nat) : Prop := Runs (.bundleReceived d) s fun t => StartFails s t 6 r x
      (formed → nth d.bytes 0 = 1 ∧ 1 ≤ d.sections ∧ d.sections ≤ 8 ∧ fieldAt d.bytes 16 8 = b.total ∧ bit d.stewards 0 = true ∧
        ∀ i, i < d.sections → 1 ≤ d.kind i ∧ d.kind i ≤ 3 ∧ d.offset i % 4096 = 0 ∧ d.offset i ≠ 0 ∧ d.offset i + d.len i + 4627 ≤ d.bytes.length) ∧
      (¬ takes → still (.bundleReceived d)) ∧
      (takes → (∀ off, d.malformedAt b.total = some off → fails 8 off) ∧
        (formed → ¬ key → fails 9 0) ∧ (formed → key → d.sigOk = false → fails 0xA 0) ∧
        (∀ i, formed → key → d.sigOk = true → differs i → (∀ j, j < i → ¬ differs j) → fails 0xB i) ∧
        (formed → key → d.sigOk = true → (∀ i, ¬ differs i) → (s.obj 0x101803 < fieldAt d.bytes 8 4 ∨ nth d.bytes 12 ≠ 3) → fails 0xC (nth d.bytes 12)) ∧
        (formed → key → d.sigOk = true → (∀ i, ¬ differs i) → fieldAt d.bytes 8 4 ≤ s.obj 0x101803 → nth d.bytes 12 = 3 →
          Runs (.bundleReceived d) s fun t => t.obj 0x200005 = fieldAt d.bytes 4 4 ∧
            t.start = { b with st := .stewards, pulling := false, bytes := b.total, bundle := some d, boot := if b.path = 1 then 4 else b.boot, entered := s.time } ∧
            Map.find t.sec.meas 2 = some ⟨2, 0, fieldAt d.bytes 4 4, s.time, leNat (sha3 d.bytes)⟩ ∧
            t = { s with start := t.start, regs := t.regs, gath := t.gath, sec := { s.sec with meas := t.sec.meas, count := s.sec.count + 1 } }))) ∧
    (∀ k : Stw,
      let starts := ∃ d, b.bundle = some d ∧ bit d.stewards k = true ∧ (if k.val = 0 then st = .stewards else s.steward k = .off)
      (¬ starts → still (.stewardReady k)) ∧
      (starts → Runs (.stewardReady k) s fun t => t.steward k = .running ∧ (∀ j, j ≠ k.val → t.steward j = s.steward j) ∧
        (k.val ≠ 0 → t = { s with start := { b with stewards := t.start.stewards } }) ∧
        (k.val = 0 → Entered s t .programs ∧ ∀ j, j < 4 → t.start.duty[j]? = some (if t.steward j = .running then j else 0)))) ∧
    (st ≠ .programs ∨ b.bundle = none → still .programsLoaded) ∧
    (∀ d, st = .programs → b.bundle = some d → (∀ p, p < 8 → (s.polder p).prog = .empty ∧ (d.programs.filter fun i => bit i.1 p).length ≤ 1) →
      let asks (p : Nat) (i : Nat × Image) : Prop := i ∈ d.programs ∧ bit i.1 p = true ∧ (s.polder p).down = false
      let loads (p : Nat) : Prop := ∃ i, asks p i ∧ refusalOf s i.2 = 0
      ((∃ p, p < 8 ∧ loads p) → Runs .programsLoaded s fun t => t.start.st = (if s.ptp.st = 0 then .joining else .serving) ∧
        ∀ p, p < 8 → (loads p → (t.polder p).prog = .loaded ∧ bit t.start.loaded p = true ∧ ∃ i, asks p i ∧ (t.polder p).image = some i.2) ∧
          (¬ loads p → (t.polder p).prog = .empty ∧ bit t.start.loaded p = false) ∧ ∀ i, asks p i → refusalOf s i.2 ≠ 0 → (t.polder p).refusal = refusalOf s i.2) ∧
      (∀ p i, p < 8 → (∀ q, q < 8 → ¬ loads q) → asks p i → (∀ q, q < p → ∀ j, ¬ asks q j) → Runs .programsLoaded s fun t => StartFails s t 9 0xE (refusalOf s i.2))) ∧
    (∀ (m : Mgmt) (x : Nat), Runs (.ptpLock m x) s fun t => t.ptp.st = m + 1 ∧ t.start.timeSet = true ∧
      (b.timeSet = true → t.time = s.time ∧ t.ptp.offset = (s.time : Int) - x) ∧ (b.timeSet = false → t.time = x ∧ t.ptp.offset = 0) ∧
      (st = .joining → t.start.st = .serving ∧ t.start.portsUp = true ∧ t.obj 0x200009 = t.time) ∧ (st ≠ .joining → t.start.st = st) ∧
      (st = .joining ∨ (st = .serving ∧ b.portsUp = false) → t.start.portsUp = true ∧
        ∀ n, n < 12 → (t.port n).st = if (s.port n).st = .disabled ∧ s.obj (0x251002 + n * 256) = 1 then .training else (s.port n).st) ∧
      (st ≠ .joining → ¬ (st = .serving ∧ b.portsUp = false) → t.start = { b with timeSet := true } ∧ t.ports = s.ports)) ∧
    ((st ≠ .joining ∨ s.time < b.entered + 10 ^ 9 * s.obj 0x200008 → still .ptpWaitExpiry) ∧
      (st = .joining → b.entered + 10 ^ 9 * s.obj 0x200008 ≤ s.time → Runs .ptpWaitExpiry s fun t => Entered s t .serving ∧ t.start.portsUp = false ∧ t.ports = s.ports ∧ t.obj 0x200009 = s.time)) ∧
    (∀ reason detail,
      let at_ (x : StartState) (l : List Nat) (step bound : Nat) : Prop := st = x →
        (reason ∈ l → b.entered + bound ≤ s.time → Runs (.startStepTimeout reason detail) s fun t => StartFails s t step reason (if reason = 7 then b.bytes else detail % 2 ^ 32)) ∧
        (reason ∉ l ∨ s.time < b.entered + bound → still (.startStepTimeout reason detail))
      at_ .rom [1] 1 5000000 ∧ at_ .identity [2, 3, 4] 2 30000000 ∧ at_ .margin [5] 3 2000000 ∧ at_ .training [6] 4 300000000 ∧
      at_ .awaitBundle [7] 5 (10 ^ 9 * s.obj 0x200007) ∧ at_ .verify [8, 9, 10, 11, 12] 6 100000000 ∧ at_ .stewards [13] 8 500000000 ∧
      at_ .programs [14] 9 50000000 ∧ at_ .joining [] 10 0 ∧ at_ .serving [] 11 0 ∧ at_ .berm [] 11 0)

/-- Resets clear the machine but for what survives, and the package events do as the table says. A warm reset by its command, by its control or by an assertion of PERST while PWRGOOD stands completes: before SERVING it also fails the start with reason 0Fh and the reset cause, the third such failure setting berm cause 01h; always a new start is in ROM, the count and the cause of the reset are kept, and everything else that does not survive is as after power-on. Berm control, in berm mode with the latch clear, restarts with no failed starts. Power-on and the loss of PWRGOOD also clear the always-on domain and device time, but not the latch. PWRFAIL flushes the metering and service goes on when it is withdrawn; a rail above its absolute maximum is breach source 01h and any other that leaves the rail's operating range is counted and logged, or at step 1 fails the start; THERMTRIP, at 120 degrees in a tile or 110 in a stack, stands; a poll keeps the readings of the regulators that answer and marks and counts the others. (R446, R459, R460, R461, R463, R475, R476, R480, R565, R566, R567, R569) -/
def Obligations.ResetsAndPackageEventsKeepWhatSurvives : Prop :=
  ∀ s : State,
    let b := s.start
    let still (x : Instr) := Runs x s fun t => t = s
    let after (cause : Nat) (t : State) : Prop :=
      (b.st = .serving ∨ b.st = .berm → Restarted s t cause b.bermCause b.fails) ∧
      (∀ step, (b.st, step) ∈ [(StartState.rom, 1), (.identity, 2), (.margin, 3), (.training, 4), (.awaitBundle, 5), (.verify, 6), (.stewards, 8),
          (.programs, 9), (.joining, 10)] →
        let fails := (b.fails ++ [(0xF, step, cause)]).take 3
        Restarted s t cause (if 3 ≤ fails.length then 1 else b.bermCause) fails)
    (∀ cause, Runs (.warmReset cause) s (after cause)) ∧ Runs .warmResetControl s (after 3) ∧
    (s.pkg.pwr = .running ∨ s.pkg.pwr = .failing → Runs .perst s (after 2)) ∧
    (s.pkg.pwr ≠ .running → s.pkg.pwr ≠ .failing → still .perst) ∧
    (b.st ≠ .berm ∨ b.latch = true → still .bermControl) ∧
    (b.st = .berm → b.latch = false → Runs .bermControl s fun t => Restarted s t 6 0 []) ∧
    let cold (pwr : Power) (hiZ : Bool) (stewards : Map StewardState) (t : State) : Prop :=
      (∀ k, t.obj k = if 0x5000 ≤ k / 256 ∨ (s.sec.locked = true ∧ k / 256 = 0x2E20) then s.obj k else objDefault k) ∧
      t = { pending := s.pending, freeCtr := t.freeCtr, time := 0, pkg := { s.pkg with pwr := pwr, hiZ := hiZ, thermtrip := false }, start := { latch := b.latch, stewards := stewards },
            regs := t.regs, out := s.out, meter := s.meter, gauge := { s.gauge with st := if s.gauge.st = .readOnly then .running else s.gauge.st },
            sec := { locked := s.sec.locked, msgId := t.sec.msgId }, gath := t.gath }
    (s.pkg.pwr = .ready ∨ s.pkg.pwr = .down → Runs .powerOn s (cold .running false [(0, .running)])) ∧
    (s.pkg.pwr = .running ∨ s.pkg.pwr = .failing ∨ s.pkg.pwr = .ready → Runs .pwrgoodDeassert s fun t => cold .down true [] t ∧ t.gath = {}) ∧
    (s.pkg.pwr ≠ .ready → s.pkg.pwr ≠ .down → still .powerOn) ∧
    (s.pkg.pwr ≠ .running → s.pkg.pwr ≠ .failing → s.pkg.pwr ≠ .ready → still .pwrgoodDeassert) ∧
    (s.pkg.pwr ≠ .running → still .pwrfail) ∧
    (s.pkg.pwr = .running → Runs .pwrfail s fun t => t.pkg = { s.pkg with pwr := .failing } ∧ t.gauge.asked = none ∧ t.gauge.clean = true ∧
      (InStep s → t = { s with pkg := t.pkg, meter := t.meter, gauge := t.gauge }) ∧
      (s.gauge.st ≠ .running → t.meter = s.meter ∧ t.gauge = { s.gauge with asked := none, clean := true }) ∧
      (s.gauge.st = .running → InStep s → t.meter.queue = [] ∧ t.gauge.checkpoint = ⟨t.gauge.counters, t.gauge.residue, t.gauge.charge, t.gauge.frac, s.gauge.time, t.gauge.lastRec⟩)) ∧
    (s.pkg.pwr ≠ .failing → still .pwrfailRecovery) ∧
    (s.pkg.pwr = .failing → Runs .pwrfailRecovery s fun t => t.obj 0x233205 = min (s.obj 0x233205 + 1) (2 ^ 32 - 1) ∧
      t = { s with pkg := { s.pkg with pwr := .running }, gauge := { s.gauge with clean := false }, regs := t.regs }) ∧
    (∀ tiles hbm : List Int,
      let hot := (∃ x ∈ tiles, 1200 ≤ x) ∨ ∃ x ∈ hbm, 1100 ≤ x
      let up := s.pkg.pwr = .running ∨ s.pkg.pwr = .failing
      (hot → up → Runs (.thermtrip tiles hbm) s fun t => t = { s with pkg := { s.pkg with thermtrip := true } }) ∧ (¬ (hot ∧ up) → still (.thermtrip tiles hbm))) ∧
    (∀ rail mv,
      let x := Instr.railExcursion rail mv
      let first := b.st = .rom ∧ (s.pkg.pwr = .running ∨ s.pkg.pwr = .failing) ∧ b.latch = false ∧ b.bermCause ≠ 1
      (railOf rail = none → still x) ∧
      ∀ r, railOf rail = some r →
        let inRange := r.low ≤ 10 * mv ∧ 10 * mv ≤ r.high
        (r.most < mv → s.pkg.pwr = .off → still x) ∧ (r.most < mv → s.pkg.pwr ≠ .off → exec x s = exec (.breach 1) s) ∧ (mv ≤ r.most → inRange → still x) ∧
        (mv ≤ r.most → ¬ inRange → first → Runs x s fun t => StartFails s t 1 1 rail) ∧
        (mv ≤ r.most → ¬ inRange → ¬ first → Runs x s fun t => t.obj 0x233204 = min (s.obj 0x233204 + 1) (2 ^ 32 - 1) ∧
          (∃ code, t.log.entries.head? = some ⟨s.time, code, 0, rail, 1, 0⟩) ∧ t = { s with freeCtr := s.freeCtr + 1, regs := t.regs, log := t.log, gath := t.gath })) ∧
    (∀ (readings statuses : List Nat) (answers : Nat),
      let missed := ((List.range 13).filter fun i => !bit answers i).length
      Runs (.regulatorPoll readings statuses answers) s fun t => t = { s with regs := t.regs } ∧
        (missed = 0 → t.obj 0x233201 = s.obj 0x233201) ∧ (missed ≠ 0 → t.obj 0x233201 = min (s.obj 0x233201 + missed) (2 ^ 32 - 1)) ∧
        ∀ i, i < 16 → ((13 ≤ i ∨ bit answers i = true) → t.obj (0x233001 + i) = nth readings i) ∧ (i < 13 → bit (t.obj 0x233202) i = !bit answers i ∧
          (bit answers i = true → t.obj (0x233101 + i) = nth statuses i) ∧
          (bit answers i = false → t.obj (0x233001 + i) = s.obj (0x233001 + i) ∧ t.obj (0x233101 + i) = s.obj (0x233101 + i))))

/-- WOA messages are judged, answered and carried out by the protocol. A message is counted; one with a bad check, version, length or source is discarded and counted; one whose flags, reserved fields or client are wrong meets an ABORT. A READ is answered with the value or with its ABORT; a value above the limit opens a transfer that holds the value as it stood and sends its window. A WRITE is carried out and its response kept, a repeat of a kept one is answered and not carried out, and a segmented one opens a transfer unless 64 are open or its object has one. A segment within the window is placed once, acknowledged after eight or at the end, and the last carries out the write. An ACK moves the window; without progress the segments are sent again, eight times. A client's ABORT or the idle timeout closes a transfer without effect. (R486, R487, R490, R494, R495, R496, R497, R499, R500, R501, R503, R505) -/
def Obligations.WoaCarriesReadsAndWrites : Prop :=
  (∀ (s : State) (m : WoaMsg) (x : Instr) (n : Nat), (n, x) ∈ [(1, Instr.woaRead m), (2, .woaWrite m), (3, .segment m), (4, .woaAck m), (5, .woaAbort m)] →
    let good := m.crcOk = true ∧ m.version = 1 ∧ m.len ≤ (if m.path = 2 then 4060 else 1400) ∧ (m.path = 2 ∨ s.allows m.source = true)
    let heard (t : State) : Prop := t.obj 0x1E0005 = min (s.obj 0x1E0005 + 1) (2 ^ 32 - 1)
    (s.powered = false ∨ m.cmd ≠ n → Runs x s fun t => t = s) ∧
    (s.powered = true → m.cmd = n → ¬ good → Runs x s fun t => heard t ∧ t.obj 0x1E0006 = min (s.obj 0x1E0006 + 1) (2 ^ 32 - 1) ∧ t = { s with regs := t.regs }) ∧
    (s.powered = true → m.cmd = n → good → s.steward 0 = .halted → Runs x s fun t => heard t ∧ t = { s with regs := t.regs }) ∧
    (s.powered = true → m.cmd = n → good → s.steward 0 ≠ .halted → m.response = true ∨ m.reservedSet = true ∨ m.client = 0 → Runs x s fun t => heard t ∧ WoaRefused s t m 0x05040001)) ∧
  (∀ (s : State) (m : WoaMsg), WoaTaken s m →
    let u := s.bump 0x1E0005
    let key := m.index * 256 + m.sub
    let id := m.client * 65536 + m.xfer
    let lim := if m.path = 2 then 4060 else 1400
    let n := u.readLen key
    let v := u.readObj key % 256 ^ n
    let only (s0 t : State) : Prop := t = { s0 with out := t.out, regs := t.regs, gath := t.gath, woa := { s0.woa with d2h := t.woa.d2h, waiting := t.woa.waiting } }
    let wrong := m.off ≠ 0 ∨ (m.expedited = true ∧ m.last = false) ∨ (m.expedited = false ∧ m.len ≠ 0)
    let isKept (k : Nat × Nat × Nat) : Prop := k.1 = id ∧ s.time < k.2.2 + 2 * 10 ^ 9
    let begins := Map.find s.woa.xfers id = none
    let size := if m.expedited then m.len else m.total
    let opens := m.cmd = 2 ∧ ¬ wrong ∧ begins ∧ (∀ k ∈ s.woa.kept, ¬ isKept k) ∧ m.expedited = false ∧ ∃ r, u.writeCheck m.path key m.total = .ok r
    (m.cmd = 1 → m.off ≠ 0 → Runs (.woaRead m) s fun t => WoaRefused s t m 0x05040001) ∧
    (m.cmd = 1 → m.off = 0 → begins → (∀ e, u.readCheck key = .error e → Runs (.woaRead m) s fun t => WoaRefused s t m e) ∧
      (u.readCheck key = .ok () → n ≤ lim → Runs (.woaRead m) s fun t => WoaOut s t m.path (.woa m.path (woaBytes m.client m.xfer 1 7 key n 0 n v)) (36 + n) ∧ only s t) ∧
      (u.readCheck key = .ok () → lim < n → 64 ≤ s.woa.xfers.length → Runs (.woaRead m) s fun t => WoaRefused s t m 0x05040005) ∧
      (u.readCheck key = .ok () → lim < n → s.woa.xfers.length < 64 → Runs (.woaRead m) s fun t =>
        Map.find t.woa.xfers id = some { write := false, key := key, total := n, value := v, path := m.path, sent := min n (32 * lim), heard := s.time, since := s.time } ∧
        (∀ i, i ≠ id → Map.find t.woa.xfers i = Map.find s.woa.xfers i) ∧
        (m.path = 2 ∨ Map.find s.woa.links m.path ≠ some 0 → ∀ i, i < 32 → i * lim < n → ∃ len, len = min lim (n - i * lim) ∧
          let o := Out.woa m.path (woaBytes m.client m.xfer 3 (if i * lim + len = n then 4 else 0) key n (i * lim) len (v / 256 ^ (i * lim) % 256 ^ len))
          o ∈ t.out ∨ ∃ b, (o, b) ∈ t.woa.waiting))) ∧
    (m.cmd = 2 → wrong → Runs (.woaWrite m) s fun t => WoaRefused s t m 0x05040001) ∧
    (∀ k, m.cmd = 2 → ¬ wrong → begins → isKept k → s.woa.kept.find? (fun j => decide (j.1 = id) && decide (s.time - j.2.2 < 2 * 10 ^ 9)) = some k →
      Runs (.woaWrite m) s fun t => WoaOut s t m.path (.woa m.path (woaBytes m.client m.xfer 2 5 k.2.1 0 0 0 0)) 36 ∧ only s t ∧
        t.obj 0x1E0008 = min (s.obj 0x1E0008 + 1) (2 ^ 32 - 1)) ∧
    (m.cmd = 2 → ¬ wrong → begins → (∀ k ∈ s.woa.kept, ¬ isKept k) →
      (∀ e, u.writeCheck m.path key size = .error e → e ≠ 0x06010002 → Runs (.woaWrite m) s fun t => WoaRefused s t m e) ∧
      (∀ r e, m.expedited = true → u.writeCheck m.path key m.len = .ok r → u.applyWrite r key m.len m.value = .error e →
        Runs (.woaWrite m) s fun t => WoaOut s t m.path (.woa m.path (woaBytes m.client m.xfer 5 0 key e 0 0 0)) 36 ∧ t.mem = s.mem ∧ t.seqs = s.seqs ∧ t.start = s.start) ∧
      (∀ r w, m.expedited = true → u.writeCheck m.path key m.len = .ok r → u.applyWrite r key m.len m.value = .ok w →
        (key = 0x20000C ∨ key = 0x210003 → Runs (.woaWrite m) s fun t => t = w) ∧
        (key ≠ 0x20000C → key ≠ 0x210003 → Runs (.woaWrite m) s fun t => WoaOut w t m.path (.woa m.path (woaBytes m.client m.xfer 2 5 key 0 0 0 0)) 36 ∧
          t.woa.kept = ((id, key, w.time) :: w.woa.kept.filter fun k => decide (w.time - k.2.2 < 2 * 10 ^ 9)).take 4096 ∧
          t = { w with out := t.out, gath := t.gath, woa := { w.woa with kept := t.woa.kept, d2h := t.woa.d2h, waiting := t.woa.waiting } }))) ∧
    (opens → (64 ≤ s.woa.xfers.length → Runs (.woaWrite m) s fun t => WoaRefused s t m 0x05040005) ∧
      (s.woa.xfers.length < 64 → (∃ e ∈ s.woa.xfers, e.2.write = true ∧ e.2.key = key) → Runs (.woaWrite m) s fun t => WoaRefused s t m 0x08000022) ∧
      (s.woa.xfers.length < 64 → (∀ e ∈ s.woa.xfers, e.2.write = true → e.2.key ≠ key) →
        (key = 0x200002 → u.bundleWrite m.path m.total = none → Runs (.woaWrite m) s fun t => WoaRefused s t m 0x08000022) ∧
        (key ≠ 0x200002 → m.total ≠ 0 → Runs (.woaWrite m) s fun t =>
          t.woa.xfers = Map.put s.woa.xfers id { write := true, key := key, total := m.total, path := m.path, heard := s.time } ∧
          WoaOut s t m.path (.woa m.path (woaBytes m.client m.xfer 2 1 key m.total 0 0 0)) 36 ∧
          t = { s with out := t.out, regs := t.regs, gath := t.gath, woa := { s.woa with xfers := t.woa.xfers, d2h := t.woa.d2h, waiting := t.woa.waiting } }))) ∧
    (begins → (m.cmd = 3 → Runs (.segment m) s fun t => WoaRefused s t m 0x05040001) ∧ (m.cmd = 4 → Runs (.woaAck m) s fun t => WoaRefused s t m 0x05040001) ∧
      (m.cmd = 5 → Runs (.woaAbort m) s fun t => t = u)) ∧
    (∀ x0 : Xfer, Map.find s.woa.xfers id = some x0 →
      let x : Xfer := { x0 with heard := s.time }
      let h : State := { s with woa := { s.woa with xfers := Map.put s.woa.xfers id x } }
      let side := (x.path = 2) ↔ (m.path.val = 2)
      let live := side ∧ x.broken = false ∧ ∃ r, u.lookup x.key = .ok r
      let wEnd := min x.total (x.acked + 32 * lim)
      let closed (t : State) : Prop := t.woa.xfers = Map.del h.woa.xfers id ∧ (x.write = true → x.key = 0x200002 → t.start.pulling = false) ∧ t.seqs = s.seqs ∧ t.mem = s.mem
      let set (t : State) (y : Xfer) : Prop := t.woa.xfers = Map.put h.woa.xfers id y
      (∀ i : Instr, (m.cmd, i) ∈ [(3, Instr.segment m), (4, .woaAck m), (5, .woaAbort m)] →
        (¬ side → Runs i s fun t => WoaRefused h t m 0x06010000) ∧
        (side → x.broken = true → Runs i s fun t => closed t ∧ WoaOut s t m.path (.woa m.path (woaBytes m.client m.xfer 5 0 key 0x08000000 0 0 0)) 36) ∧
        (∀ e, side → x.broken = false → u.lookup x.key = .error e → Runs i s fun t => closed t ∧ WoaOut s t m.path (.woa m.path (woaBytes m.client m.xfer 5 0 key e 0 0 0)) 36)) ∧
      (m.cmd = 5 → live → Runs (.woaAbort m) s closed) ∧
      (m.cmd = 3 → live → x.write = false → Runs (.segment m) s fun t => WoaRefused h t m 0x05040001) ∧
      (m.cmd = 4 → live → x.write = true → Runs (.woaAck m) s fun t => WoaRefused h t m 0x05040001) ∧
      (m.cmd = 3 → live → x.write = true → m.len = 0 ∨ wEnd < m.off + m.len → Runs (.segment m) s fun t => set t { x with path := m.path } ∧
        t = { s with regs := t.regs, woa := { s.woa with xfers := t.woa.xfers } }) ∧
      (m.cmd = 3 → live → x.write = true → x.key ≠ 0x200002 → m.len ≠ 0 → m.off + m.len ≤ wEnd → x.ranges = (if m.off = 0 then [] else [(0, m.off)]) →
        let y := { x with path := m.path, value := x.value + m.value % 256 ^ m.len * 256 ^ m.off, ranges := [(0, m.off + m.len)] }
        let o := Out.woa m.path (woaBytes m.client m.xfer 4 0 x.key 0 (m.off + m.len) 0 0)
        (m.off + m.len < x.total → x.placed < 7 → Runs (.segment m) s fun t => set t { y with placed := x.placed + 1 } ∧
          t = { s with regs := t.regs, woa := { s.woa with xfers := t.woa.xfers } }) ∧
        (m.off + m.len < x.total → 7 ≤ x.placed → Runs (.segment m) s fun t => set t { y with acked := m.off + m.len, placed := 0 } ∧ WoaOut s t m.path o 36) ∧
        (m.off + m.len = x.total → Runs (.segment m) s fun t => Map.find t.woa.xfers id = none ∧ ∃ z : State, WoaOut s z m.path o 36 ∧
          z = { s with out := z.out, regs := z.regs, gath := z.gath, woa := { s.woa with xfers := Map.del h.woa.xfers id, d2h := z.woa.d2h, waiting := z.woa.waiting } } ∧
          ∀ r, z.lookup x.key = .ok r → (∀ e, z.applyWrite r x.key x.total y.value = .error e → WoaOut z t m.path (.woa m.path (woaBytes m.client m.xfer 5 0 x.key e 0 0 0)) 36 ∧ t.mem = s.mem ∧ t.seqs = s.seqs) ∧
            (∀ w, z.applyWrite r x.key x.total y.value = .ok w → x.key ≠ 0x20000C → x.key ≠ 0x210003 →
              WoaOut w t m.path (.woa m.path (woaBytes m.client m.xfer 2 5 x.key 0 0 0 0)) 36 ∧ t.woa.kept.head? = some (id, x.key, w.time)))) ∧
      (∀ r ∈ x.ranges, m.cmd = 3 → live → x.write = true → x.key ≠ 0x200002 → m.len ≠ 0 → m.off + m.len ≤ wEnd → r.1 ≤ m.off → m.off + m.len ≤ r.1 + r.2 → rangeTotal x.ranges < x.total →
        x.ranges = [r] → Runs (.segment m) s fun t => ∃ y, set t y ∧ y.value = x.value ∧ y.ranges = x.ranges) ∧
      (m.cmd = 4 → live → x.write = false → m.off = x.total → x.total ≤ x.sent → Runs (.woaAck m) s fun t => t.woa.xfers = Map.del h.woa.xfers id ∧
        t = { s with regs := t.regs, woa := { s.woa with xfers := t.woa.xfers } }) ∧
      (m.cmd = 4 → live → x.write = false → ¬ (m.off = x.total ∧ x.total ≤ x.sent) → Runs (.woaAck m) s fun t => ∃ y : Xfer, set t y ∧ y.path = m.path ∧ y.value = x.value ∧
        (x.acked < m.off ∧ m.off ≤ x.sent → y.acked = m.off ∧ y.rounds = 0 ∧ y.since = s.time) ∧ (¬ (x.acked < m.off ∧ m.off ≤ x.sent) → y.acked = x.acked ∧ y.rounds = x.rounds ∧ y.since = x.since) ∧
        x.sent ≤ y.sent ∧ y.sent ≤ max x.sent (min x.total (y.acked + 32 * lim))))) ∧
  (∀ (s : State) (k : Nat) (r : ObjRow) (b : WoaMsg), WoaTaken s b → b.off = 0 → b.last = true → b.expedited = true → b.index * 256 + b.sub = k → Map.find s.woa.xfers (b.client * 65536 + b.xfer) = none →
    (∀ j ∈ s.woa.kept, j.1 ≠ b.client * 65536 + b.xfer) → s.start.st = .serving → objIndex (k / 256) = true →
    (objRow k = none → (b.cmd = 1 → Runs (.woaRead b) s fun t => WoaRefused s t b 0x06090011) ∧ (b.cmd = 2 → Runs (.woaWrite b) s fun t => WoaRefused s t b 0x06090011)) ∧
    (objRow k = some r →
      (r.access = .wo → b.cmd = 1 → Runs (.woaRead b) s fun t => WoaRefused s t b 0x06010001) ∧
      (r.access = .ro ∨ r.access = .const → b.cmd = 2 → Runs (.woaWrite b) s fun t => WoaRefused s t b 0x06010002) ∧
      (r.access = .rw → r.var = false → b.len ≠ r.size → b.cmd = 2 → Runs (.woaWrite b) s fun t => WoaRefused s t b 0x06070010) ∧
      (r.access = .sealed_ → b.cmd = 2 → Runs (.woaWrite b) s fun t => WoaOut s t b.path (.woa b.path (woaBytes b.client b.xfer 5 0 k 0x06010002 0 0 0)) 36 ∧
        (s.gauge.log.length < 8191 → t.gauge.log = s.gauge.log ++ [⟨s.gauge.next, s.gauge.time, 0x12, 0⟩])))) ∧
  (∀ (s : State) (k : Nat) (b : WoaMsg), WoaTaken s b → b.off = 0 → b.index * 256 + b.sub = k → Map.find s.woa.xfers (b.client * 65536 + b.xfer) = none → objIndex (k / 256) = false → b.cmd = 1 →
    Runs (.woaRead b) s fun t => WoaRefused s t b 0x06020000) ∧
  (∀ (s : State) (client xfer : Nat),
    let id := client * 65536 + xfer
    let still (i : Instr) := Runs i s fun t => t = s
    (Map.find s.woa.xfers id = none → still (.woaRetransmit client xfer) ∧ still (.woaIdleTimeout client xfer)) ∧
    (∀ x : Xfer, Map.find s.woa.xfers id = some x →
      let without := Map.del s.woa.xfers id
      (s.time < x.heard + 10 ^ 6 * s.obj 0x1E0002 → still (.woaIdleTimeout client xfer)) ∧
      (x.heard + 10 ^ 6 * s.obj 0x1E0002 ≤ s.time → Runs (.woaIdleTimeout client xfer) s fun t =>
        t = { s with woa := { s.woa with xfers := without }, start := { s.start with pulling := if x.write = true ∧ x.key = 0x200002 then false else s.start.pulling } }) ∧
      let due := x.since + 10 ^ 6 * s.obj 0x1E0003 ≤ s.time
      (x.write = true ∨ x.sent ≤ x.acked ∨ ¬ due → still (.woaRetransmit client xfer)) ∧
      (x.write = false → x.acked < x.sent → due → 8 ≤ x.rounds → Runs (.woaRetransmit client xfer) s fun t => t.woa.xfers = without ∧
        WoaOut s t x.path (.woa x.path (woaBytes client xfer 5 0 x.key 0x05040000 0 0 0)) 36) ∧
      (x.write = false → x.acked < x.sent → due → x.sent ≤ x.total → x.rounds < 8 → xfer < 65536 → Runs (.woaRetransmit client xfer) s fun t =>
        t.woa.xfers = Map.put s.woa.xfers id { x with rounds := x.rounds + 1, since := s.time } ∧
        t = { s with out := t.out, gath := t.gath, woa := { s.woa with xfers := t.woa.xfers, d2h := t.woa.d2h, waiting := t.woa.waiting } } ∧
        ((x.path = 2 ∨ Map.find s.woa.links x.path ≠ some 0) → x.acked + min (if x.path = 2 then 4060 else 1400) (x.total - x.acked) ≤ x.sent →
          ∃ len, len = min (if x.path = 2 then 4060 else 1400) (x.total - x.acked) ∧
            let o := Out.woa x.path (woaBytes client xfer 3 (if x.acked + len = x.total then 4 else 0) x.key x.total x.acked len (x.value / 256 ^ x.acked % 256 ^ len))
            o ∈ t.out ∨ ∃ b, (o, b) ∈ t.woa.waiting))))

/-- The PF1 mailbox holds one message in each direction, and the management ports answer what they must. A message posted while the buffer is free and the part runs is taken as its command byte says, as a message of the mailbox, and the buffer-free source fires; a halted S0 leaves it in the buffer; a post while the buffer is taken is ignored. Writing zero to the length register releases the waiting message and the next takes its place. A link change is kept and counted. A solicitation or an echo request is answered on its port. (R377, R503, R504, R507, R509, R512, R531, R542) -/
def Obligations.MailboxAndManagementPortsCarryWoa : Prop :=
  ∀ s : State,
    let still (x : Instr) := Runs x s fun t => t = s
    (∀ m, (s.woa.h2d.isSome = true ∨ s.powered = false → still (.h2dpost m)) ∧
      (s.woa.h2d = none → s.powered = true → s.steward 0 = .halted → Runs (.h2dpost m) s fun t => t = { s with woa := { s.woa with h2d := some m } }) ∧
      (s.woa.h2d = none → s.powered = true → s.steward 0 ≠ .halted →
        let p : WoaMsg := { m with path := 2 }
        (∀ (n : Nat) (x : Instr) (u : State), m.cmd = n → (n, x) ∈ [(1, Instr.woaRead p), (2, .woaWrite p), (3, .segment p), (4, .woaAck p), (5, .woaAbort p)] →
          exec x s = .next u → Runs (.h2dpost m) s fun t => t = { u with gath := t.gath } ∧ t.source 0x181 = (u.source 0x181).arrive ∧ ∀ y, y ≠ 0x181 → t.source y = u.source y) ∧
        (m.cmd = 0 ∨ 5 < m.cmd → WoaTaken s p → Runs (.h2dpost m) s fun t => WoaRefused s t p 0x05040001))) ∧
    (∀ v, (v ≠ 0 ∨ s.woa.d2h = 0 → still (.d2hlen v)) ∧
      (v = 0 → s.woa.d2h ≠ 0 → s.woa.waiting = [] → Runs (.d2hlen v) s fun t => t = { s with woa := { s.woa with d2h := 0 } }) ∧
      (∀ o n rest, v = 0 → s.woa.d2h ≠ 0 → s.woa.waiting = (o, n) :: rest → Runs (.d2hlen v) s fun t => t.source 0x180 = (s.source 0x180).arrive ∧
        t = { s with woa := { s.woa with d2h := n, waiting := rest }, out := o :: s.out, gath := t.gath })) ∧
    (∀ (m : Mgmt) (st : Fin 3), (Map.find s.woa.links m = some st.val → still (.managementLinkChange m st)) ∧
      (Map.find s.woa.links m ≠ some st.val → Runs (.managementLinkChange m st) s fun t =>
        t = { s with woa := { s.woa with links := Map.put s.woa.links m st }, regs := t.regs } ∧
        t.obj (0x1E0106 + m * 256) = if Map.getD s.woa.links m 0 = st.val then s.obj (0x1E0106 + m * 256) else min (s.obj (0x1E0106 + m * 256) + 1) (2 ^ 32 - 1))) ∧
    (∀ (m : Mgmt) (sol : Bool) (n : Nat),
      let answers := s.powered = true ∧ Map.find s.woa.links m ≠ some 0 ∧ s.steward 0 ≠ .halted
      (answers → Runs (.icmpv6Message m sol n) s fun t => t = { s with out := .icmp m (if sol then 1 else 0) n :: s.out }) ∧
      (¬ answers → still (.icmpv6Message m sol n)))

/-- The host interface's doorbells, rings, window, DMA failures, areas and losses act by their rules. A tail beyond an enabled ring's size is an error, and any other stands; a consumed head frees completions. An entry is read only where DMA may run, the ring is enabled, an entry waits and a completion entry is free; in confidential operation a counter that does not rise stops the ring; a fence or a wrong type is answered and a request is taken as any other. A valid configuration enables a disabled ring at slot 0, in the first pass; a disabled one drains. The coalescing time after the first completion since the last arrival fires the ring's source. A window read returns the bytes of its good sectors and leaves the memory; a write is discarded and counted, or written with fresh check words. Each failed DMA read is counted with its outcome. An area is registered or refused with its reason, and released only where unused. A host loss ends the rings' requests with no completion, the registrations, the download and confidential operation; a reset of PF1 only the mailbox, its vectors and its transfers. DMA waits for Bus Master Enable. (R428, R430, R531, R533, R534, R535, R536, R539, R542, R543, R544, R549) -/
def Obligations.TheHostInterfaceServesRingsWindowAndAreas : Prop :=
  (∀ (s : State) (r : Ring),
    let g := s.ring r
    let serving := s.start.st = .serving
    let sq := 2 ^ (6 + g.rcfg % 16)
    let cq := 2 ^ (6 + g.rcfg / 16 % 16)
    let still (x : Instr) := Runs x s fun t => t = s
    let ring (t : State) (h : RingSt) : Prop := t.ring r = h ∧ (∀ k, k ≠ r.val → t.ring k = s.ring k)
    let failed (t : State) (code : Nat) : Prop := ring t { g with st := 3, err := code } ∧ t.obj 0x2F0009 = min (s.obj 0x2F0009 + 1) (2 ^ 32 - 1) ∧
      t.source (0x140 + r) = (s.source (0x140 + r)).arrive ∧ t = { s with rings := t.rings, regs := t.regs, gath := t.gath }
    let only (t : State) : Prop := t = { s with rings := t.rings }
    (∀ v, (¬ serving → still (.sqtail r v)) ∧ (serving → g.st = 1 → sq ≤ v % 65536 → Runs (.sqtail r v) s fun t => failed t 1) ∧
      (serving → g.st ≠ 1 ∨ v % 65536 < sq → Runs (.sqtail r v) s fun t => ring t { g with sqTail := v % 65536 } ∧ only t)) ∧
    (∀ v, (¬ serving → still (.cqhead r v)) ∧
      (serving → Runs (.cqhead r v) s fun t => ring t { g with cqHead := v % 65536, unread := min g.unread ((g.cqTail + cq - v % 65536 % cq) % cq) } ∧ only t)) ∧
    (∀ entry body : List Nat,
      let x := Instr.submissionRead r entry body
      let conf := s.sec.conf
      let counter := fieldAt entry 80 8
      let may := s.host.master = true ∧ g.st = 1 ∧ g.sqHead ≠ g.sqTail ∧ g.unread + g.reserved < cq
      let stops := conf = true ∧ counter ≤ g.counter
      let opened := if conf then s.fromHost 1 r counter (entry.take 80) else some (entry.take 64)
      let advanced (t : State) : Prop := (t.ring r).sqHead = (g.sqHead + 1) % sq
      (¬ may → still x) ∧ (may → stops → Runs x s fun t => failed t 3) ∧
      (may → ¬ stops → opened = none → Runs x s fun t => ∃ c, Answered t (.ring r g.sqHead c) 0 0 ⟨.checkFail, 4, []⟩ ∧
        OnlyAnswered { s with freeCtr := s.freeCtr + 1 } t ∧ advanced t) ∧
      (∀ e, may → ¬ stops → opened = some e →
        let q : Req := { src := .ring r g.sqHead (fieldAt e 56 4), hdr := BitVec.ofNat 256 (fieldAt e 0 32), bodyLen := fieldAt e 40 4,
                         replyLen := fieldAt e 44 4, reserved := decide (fieldAt e 61 3 ≠ 0), replyAt := fieldAt e 48 8, entryCtr := counter }
        let ty := nth e 60
        let ended (t : State) (a : Answer) : Prop := Answered t q.src 0 0 a ∧ OnlyAnswered s t ∧ advanced t
        let bodiless := nth e 0 = 3 ∨ q.bodyLen = 0
        let bytes := body.take (q.bodyLen + if conf then 16 else 0)
        let data := if conf then s.fromHost 2 r counter bytes else some bytes
        let runs (bs : List Nat) : Prop := Runs x s fun t => ∃ u : State, t = u.request { q with body := bs } ∧
          u = { s with rings := Map.put s.rings r { g with sqHead := (g.sqHead + 1) % sq, reserved := g.reserved + 1, counter := if conf then counter else g.counter }, sched := u.sched }
        (ty ≠ 1 → ty ≠ 2 → Runs x s fun t => ended t (.malformed 1 60)) ∧
        (ty = 2 → q.hdr = 0 → q.reserved = false → Runs x s fun t => ended t (.ok) ∧ t.obj 0x2B1104 = min (s.obj 0x2B1104 + 1) (objMax 0x2B1104)) ∧
        (ty = 2 → q.hdr = 0 → q.reserved = true → Runs x s fun t => ended t (.malformed 1 61)) ∧
        (∀ i, ty = 2 → i < 32 → hdrField q.hdr i 1 ≠ 0 → (∀ j, j < i → hdrField q.hdr j 1 = 0) → Runs x s fun t => ended t (.malformed 1 i)) ∧
        (ty = 1 → bodiless → runs []) ∧ (∀ bs, ty = 1 → ¬ bodiless → data = some bs → runs bs) ∧
        (ty = 1 → ¬ bodiless → data = none → Runs x s fun t => Answered t q.src 0 0 ⟨.checkFail, 4, []⟩ ∧ t.reqs = s.reqs ∧ t.seqs = s.seqs ∧ t.mem = s.mem))) ∧
    (∀ a b c,
      let valid := a % 4096 = 0 ∧ b % 4096 = 0 ∧ c % 16 ≤ 10 ∧ c / 16 % 16 ≤ 10 ∧ c % 16 ≤ c / 16 % 16 ∧ 1 ≤ c / 65536 % 256
      (¬ serving ∨ g.st ≠ 0 → still (.ringEnable r a b c)) ∧
      (serving → g.st = 0 → valid → a < 2 ^ 64 → b < 2 ^ 64 → c < 2 ^ 32 → Runs (.ringEnable r a b c) s fun t => only t ∧
        ring t { g with st := 1, err := 0, sqBase := a, cqBase := b, rcfg := c % 256 + 256 + c / 65536 * 65536, sqTail := 0, sqHead := 0, cqHead := 0, cqTail := 0, phase := true, reserved := 0, unread := 0, unsig := 0 }) ∧
      (serving → g.st = 0 → ¬ valid → Runs (.ringEnable r a b c) s fun t => only t ∧ (t.ring r).st = 0)) ∧
    (¬ (serving ∧ (g.st = 1 ∨ g.st = 3)) → still (.ringDisable r)) ∧
    (serving → g.st = 1 ∨ g.st = 3 → Runs (.ringDisable r) s fun t => only t ∧ ring t { g with st := 2, rcfg := (t.ring r).rcfg } ∧ bit (t.ring r).rcfg 8 = false) ∧
    (¬ (g.st = 2 ∧ g.reserved = 0) → still (.ringDrained r)) ∧ (g.st = 2 → g.reserved = 0 → Runs (.ringDrained r) s fun t => only t ∧ ring t { g with st := 0 }) ∧
    (g.unsig = 0 ∨ g.rcfg / 2 ^ 24 % 256 = 0 ∨ s.since g.unsigAt < g.rcfg / 2 ^ 24 % 256 → still (.coalescingTimeout r)) ∧
    (g.unsig ≠ 0 → g.rcfg / 2 ^ 24 % 256 ≠ 0 → g.rcfg / 2 ^ 24 % 256 ≤ s.since g.unsigAt → Runs (.coalescingTimeout r) s fun t => ring t { g with unsig := 0 } ∧
      t.source (0x100 + r) = (s.source (0x100 + r)).arrive ∧ t = { s with rings := t.rings, gath := t.gath })) ∧
  (∀ (s : State) (off len : Nat) (upset bytes : List Nat),
    let reaches (n : Nat) : Prop := s.start.st = .serving ∧ s.sec.conf = false ∧ off + n ≤ 2 ^ 40 ∧
      ∀ a, off ≤ a → a < off + n → a / 65536 % 2 ^ 21 / 256 ≤ 4290 ∧ (s.polder (a / 65536 / 2 ^ 21)).down = false
    let refused (t : State) : Prop := t.out = .unsupported off :: s.out
    let bad := (sectorsOf off len).filter fun k => upset.contains k || !s.sectorOk k
    let good := (List.range len).filter fun i => !bad.contains ((off + i) / 64)
    (¬ reaches len → Runs (.windowRead off len upset) s fun t => refused t ∧ t = { s with out := t.out }) ∧
    (reaches len → Runs (.windowRead off len upset) s fun t => t.mem = s.mem ∧ t.sideband = s.sideband ∧
      t.out.head? = some (.window off (good.map fun i => s.stackByte (off + i)) bad) ∧ (bad = [] → t.frames = s.frames ∧ t.log = s.log) ∧
      ∀ k x, k ∈ bad → Map.find s.frames (k / 1024) = some x → ∃ y, Map.find t.frames (k / 1024) = some y ∧ y = { x with health := y.health, ladderSeq := y.ladderSeq } ∧ y.health ≠ .good) ∧
    (∀ a, (∀ p, p = a / 65536 / 2 ^ 21 → a < s.tableBase p * 65536 ∨ s.tableBase p * 65536 + 65536 * s.obj 0x2B4002 ≤ a) → s.stackByte a = (Memory.read s.mem a).toNat) ∧
    (let takes := s.obj 0x2F0006 = 1 ∧ reaches bytes.length ∧ off % 64 = 0 ∧ bytes.length % 64 = 0
     (s.start.st = .berm → Runs (.windowWrite off bytes) s fun t => refused t ∧ t = { s with out := t.out }) ∧
     (s.start.st ≠ .berm → ¬ takes → Runs (.windowWrite off bytes) s fun t => refused t ∧ t.obj 0x2F0007 = min (s.obj 0x2F0007 + 1) (2 ^ 32 - 1) ∧
       t = { s with out := t.out, regs := t.regs }) ∧
     (takes → Runs (.windowWrite off bytes) s fun t => (∀ k ∈ sectorsOf off bytes.length, t.sectorOk k = true) ∧
       (∀ a, Memory.read t.mem a = if off ≤ a ∧ a < off + bytes.length then BitVec.ofNat 8 (nth bytes (a - off)) else Memory.read s.mem a) ∧
       t = { s with mem := t.mem, sideband := t.sideband, sched := t.sched, regs := t.regs }))) ∧
  (∀ s : State,
    let u := s.bump 0x2F0005
    let counted (d : DmaRead) : Prop := Runs (.dmaReadFailure d) s fun t => t = u
    (∀ r : Ring, ((s.ring r).st ≠ 1 → counted (.entry r)) ∧
      ((s.ring r).st = 1 → Runs (.dmaReadFailure (.entry r)) s fun t => t.ring r = { s.ring r with st := 3, err := 2 } ∧ t.source (0x140 + r) = (s.source (0x140 + r)).arrive)) ∧
    (∀ tag, (Map.find s.reqs tag = none → counted (.body tag)) ∧
      ∀ q, Map.find s.reqs tag = some q → (q.claimed = true → counted (.body tag)) ∧
        (q.claimed = false → q.phase = .body → q.src.isMirror = false → Runs (.dmaReadFailure (.body tag)) s fun t => Ended s t tag q (.malformed 0x16 32))) ∧
    (s.start.pulling = false ∨ s.start.path ≠ 1 → counted .boot) ∧
    (s.start.pulling = true → s.start.path = 1 → Runs (.dmaReadFailure .boot) s fun t => t.start = { s.start with pulling := false, bytes := 0, boot := 5 } ∧
      t = { s with start := t.start, regs := t.regs, gath := t.gath }) ∧
    (∀ q k, counted (.pageRecord q k)) ∧ (∀ b p, counted (.weight b p)) ∧ (∀ q, exec (.dmaReadFailure (.spill q)) s = exec (.moveFailed q) u) ∧
    ((∀ r ∈ s.routes, (s.moveOf r).conduit = none) → ∀ c, Runs (.dmaReadFailure (.conduit c)) s fun t => (t.conduit c).st = .error ∧ (t.conduit c).reason = 0)) ∧
  (∀ (s : State) (conduit : Bool) (list : Option (List Nat)),
    let a := if conduit then s.host.conduit else s.host.spill
    let x := Instr.areaRegister conduit list
    let put (y : Area) (t : State) : Prop := t = { s with sched := t.sched, host := if conduit then { s.host with conduit := y } else { s.host with spill := y } }
    let n := s.obj (if conduit then 0x2F1102 else 0x2F1002)
    let refused (reason : Nat) : Prop := Runs x s (put { a with reason := reason })
    let used := if conduit then ∃ e ∈ s.conduits, e.2.onDie = false ∧ e.2.st ≠ .closed
      else s.spillRuns ≠ [] ∨ ∃ e ∈ s.seqs, e.2.st = .spilling
    (a.st = 1 → refused 3) ∧ (a.st ≠ 1 → list = none → refused 2) ∧
    (∀ bs, a.st ≠ 1 → list = some bs →
      let regions := (List.range n).map fun i => (fieldAt bs (16 * i) 8, fieldAt bs (16 * i + 8) 4)
      let bytes := (regions.map Prod.snd).sum
      let formed := 1 ≤ n ∧ n ≤ 1024 ∧ ∀ i, i < n → fieldAt bs (16 * i) 8 % 4096 = 0 ∧ fieldAt bs (16 * i + 8) 4 % 4096 = 0 ∧ fieldAt bs (16 * i + 12) 4 = 0
      let large := (if conduit then 268435456 else 2 ^ 32 * 4096) < bytes
      (¬ formed → refused 1) ∧ (formed → large → refused 4) ∧ (formed → ¬ large → Runs x s (put ⟨1, 0, bytes, regions⟩))) ∧
    (used → Runs (.areaRelease conduit) s fun t => t = s) ∧ (¬ used → Runs (.areaRelease conduit) s (put {}))) ∧
  (∀ s : State,
    let onRing (x : Src) : Prop := ∃ r slot c, x = .ring r slot c
    let reported (o : Out) : Bool := match o with | .hostWrite .. => false | _ => true
    let b := s.start
    (Runs .hostLoss s fun t => t.rings = [] ∧ t.host = {} ∧ t.sec.conf = false ∧ t.sec.session = none ∧ t.obj 0x2F0004 = min (s.obj 0x2F0004 + 1) (2 ^ 32 - 1) ∧
      t.start = (if b.path = 1 ∧ b.st = .awaitBundle then { b with path := 0, pulling := false, total := 0, bytes := 0, boot := 0 } else { b with boot := 0 }) ∧
      (∀ x, (t.source x).route = some 4 → (t.source x).active = false) ∧ Map.getD t.gath.msix 0 {} = {} ∧
      (∀ tag q, Map.find s.reqs tag = some q → onRing q.src → q.claimed = false → Map.find t.reqs tag = none) ∧
      (∃ l, t.out = l ++ s.out ∧ ∀ x tag gen st d body at_ replyAt data, onRing x → Out.completion x tag gen st d body at_ replyAt data ∉ l) ∧
      (s.reqs = [] → Map.wf s.seqs → (∀ e ∈ s.conduits, e.2.onDie = true) →
        (∀ q e, Map.find s.seqs q = some e → e.st = .spilled → ∃ e', Map.find t.seqs q = some e' ∧ e'.st = .spilled ∧ ∀ k x, Map.find e'.stored k = some x → x.lost = true) ∧
        (∀ k w, Map.find s.weights k = some w → (∃ h ∈ w.shares, h.tier = 2) → (t.weight k).loaded = false ∧ (t.weight k).loading = false)) ∧
      (s.reqs = [] → s.seqs = [] → (∀ r ∈ s.routes, (s.moveOf r).conduit = none) → ∀ c x, Map.find s.conduits c = some x → x.onDie = false → (x.st = .ready ∨ x.st = .opening) → (t.conduit c).st = .error)) ∧
    (Runs .pf1Reset s fun t => t.woa = { s.woa with h2d := none, d2h := 0, waiting := [], xfers := t.woa.xfers } ∧
      (∀ i x, Map.find t.woa.xfers i = some x → x.path ≠ 2) ∧ (∀ i x, Map.find s.woa.xfers i = some x → x.path ≠ 2 → Map.find t.woa.xfers i = some x) ∧
      (∀ x, (s.source x).active = true → (s.source x).route = some 5 → t.source x = { s.source x with pending := true, active := false, route := none }) ∧
      (∀ x, (s.source x).active = false ∨ (s.source x).route ≠ some 5 → t.source x = s.source x) ∧ Map.getD t.gath.msix 1 {} = {} ∧
      t.start = (if b.path = 2 then { b with pulling := false, total := 0, bytes := 0 } else b) ∧ t = { s with woa := t.woa, gath := t.gath, start := t.start }) ∧
    (Runs (.busMasterEnable false) s fun t => t = { s with host := { s.host with master := false } }) ∧
    (Runs (.busMasterEnable true) s fun t => t.host = { s.host with master := true, waiting := [] } ∧ t.out.filter reported = s.host.waiting.reverse.filter reported ++ s.out.filter reported ∧
      t = { s with host := t.host, out := t.out, rings := t.rings, gath := t.gath, sched := t.sched }))

/-- A step runs the command at the front of the queue with the queue's rest, and every command answers a next state. No command stops the block: each has its effect, or the effect that the rules give it where it does not apply, and answers a next state. Where a command waits, a step is exec of the first that waits on the state with the rest of the queue; with none waiting, a step is the tick of one nanosecond of device time. A word spells no command, so placing one changes nothing. The queue is the model's own (log entries 1 and 14). (R464) -/
def Obligations.AStepRunsTheFrontCommand : Prop :=
  (∀ (c : Instr) (s : State), ∃ t, exec c s = .next t) ∧
  (∀ (c : Instr) (s : State) (rest : List Instr), s.pending = c :: rest → step s = exec c { s with pending := rest }) ∧
  (∀ s : State, s.pending = [] → step s = .next s.tick) ∧
  (∀ (s : State) (nbits w : Nat), Sys2Proof.decodeTableWord nbits w = none ∧ s.withFetchWord nbits w = s)

/-- The state after reset holds what the spec gives and admits nothing. At reset every object reads its default, the start is in ROM with no failed start, no page, sequence, request or key exists, every polder is empty, every port disabled, every ring and source idle, the fence live, the memory canonical and empty, and no command waits. Values that the spec does not give are named in log entries 3, 4, 5, 6, 7, 8 and 10. (R277, R292, R371, R382, R400, R403, R459, R464, R488, R515, R531, R549) -/
def Obligations.ResetStandsAtItsDefaults : Prop :=
  let s := State.reset
  (∀ k, s.obj k = objDefault k) ∧ s.start.st = .rom ∧ s.start.fails = [] ∧ s.start.latch = false ∧ s.start.bundle = none ∧ s.mem = [] ∧ MemWf s ∧
  (∀ k, Map.find s.reqs k = none) ∧ (∀ k, Map.find s.seqs k = none) ∧ (∀ f, Map.find s.frames f = none) ∧
  (∀ p, (s.polder p).prog = .empty ∧ (s.polder p).image = none) ∧ (∀ n, (s.port n).st = .disabled) ∧ (∀ r, (s.ring r).st = 0) ∧
  (∀ c, (s.conduit c).st = .closed) ∧ (∀ x, (s.source x).pending = false ∧ (s.source x).active = false ∧ (s.source x).enable = false) ∧
  s.fence.st = .live ∧ s.pair.st = .off ∧ s.sec.identityKey = false ∧ s.sec.session = none ∧ (∀ k, s.jobSlot k = {}) ∧ s.host.master = false ∧ s.pending = [] ∧
  (∀ a, Memory.read s.mem a = 0)

/-- Every step keeps the memory in its canonical form and takes exactly the command at the front of the queue. For every state whose memory is in canonical form, with addresses strictly rising and no byte listed that reads as an unlisted one does, the next state's memory is in that form, whichever command runs; and a step removes the command that it ran from the queue, adds none and reorders none. (R346, R465, R534) -/
def Obligations.EveryStepKeepsMemoryCanonicalAndTakesOneCommand : Prop :=
  ∀ s t : State, step s = .next t → (MemWf s → MemWf t) ∧ t.pending = s.pending.tail
end

