-- ==== Sys2Proof/Laws/Store.lean ====
section
/-! SUPPORT. The laws of keyed lists and of memory: a read after a write, and the canonical form. -/

namespace Sys2Proof.Laws

open Sys2Proof.Machine

variable {α : Type}

/-- A key that was stored reads as stored. -/
@[simp] theorem find_put_same (m : Map α) (i : Nat) (v : α) : Map.find (Map.put m i v) i = some v := by
  induction m with
  | nil => simp [Map.put, Map.find]
  | cons e m ih =>
    obtain ⟨k, w⟩ := e
    by_cases h1 : i < k
    · simp [Map.put, Map.find, h1]
    · by_cases h2 : i = k
      · simp [Map.put, Map.find, h2]
      · simp [Map.put, Map.find, h1, h2, Ne.symm h2, ih]

/-- Every other key reads as before. -/
theorem find_put_ne (m : Map α) {i j : Nat} (v : α) (h : j ≠ i) : Map.find (Map.put m i v) j = Map.find m j := by
  induction m with
  | nil => simp [Map.put, Map.find, Ne.symm h]
  | cons e m ih =>
    obtain ⟨k, w⟩ := e
    by_cases h1 : i < k
    · simp [Map.put, Map.find, h1, Ne.symm h]
    · by_cases h2 : i = k
      · simp [Map.put, Map.find, h2, h2 ▸ Ne.symm h]
      · simp [Map.put, Map.find, h1, h2, ih]

/-- Reading any key after a write. -/
theorem find_put (m : Map α) (i j : Nat) (v : α) : Map.find (Map.put m i v) j = if j = i then some v else Map.find m j := by
  by_cases h : j = i
  · simp [h]
  · simp [h, find_put_ne]

/-- A later write of a key replaces the earlier one. -/
@[simp] theorem put_put (m : Map α) (i : Nat) (v w : α) : Map.put (Map.put m i v) i w = Map.put m i w := by
  induction m with
  | nil => simp [Map.put]
  | cons e m ih =>
    obtain ⟨k, u⟩ := e
    by_cases h1 : i < k
    · simp [Map.put, h1]
    · by_cases h2 : i = k
      · simp [Map.put, h2]
      · simp [Map.put, h1, h2, ih]

/-- A removed key is absent. -/
@[simp] theorem find_del_same (m : Map α) (i : Nat) : Map.find (Map.del m i) i = none := by
  induction m with
  | nil => rfl
  | cons e m ih =>
    obtain ⟨k, w⟩ := e
    by_cases h : i = k
    · subst h; simp [Map.del, ih]
    · simp [Map.del, Map.find, Ne.symm h, ih]

/-- Removing a key leaves every other key. -/
theorem find_del_ne (m : Map α) {i j : Nat} (h : j ≠ i) : Map.find (Map.del m i) j = Map.find m j := by
  induction m with
  | nil => rfl
  | cons e m ih =>
    obtain ⟨k, w⟩ := e
    by_cases h2 : i = k
    · subst h2; simp [Map.del, Map.find, Ne.symm h, ih]
    · have h2' : k ≠ i := Ne.symm h2
      simp only [Map.del, Map.find, if_neg h2', ih]

/-- Reading a key with the default after storing it. -/
@[simp] theorem getD_put_same (m : Map α) (i : Nat) (v d : α) : Map.getD (Map.put m i v) i d = v := by simp [Map.getD]

/-- Reading another key with a default. -/
theorem getD_put_ne (m : Map α) {i j : Nat} (v d : α) (h : j ≠ i) : Map.getD (Map.put m i v) j d = Map.getD m j d := by
  simp [Map.getD, find_put_ne m v h]

/-- A value stored with its default reads as stored. -/
@[simp] theorem getD_putD_same [DecidableEq α] (m : Map α) (i : Nat) (v d : α) : Map.getD (Map.putD m i v d) i d = v := by
  by_cases h : v = d <;> simp [Map.putD, Map.getD, h]

/-- Every other key reads as before. -/
theorem getD_putD_ne [DecidableEq α] (m : Map α) {i j : Nat} (v d : α) (h : j ≠ i) : Map.getD (Map.putD m i v d) j d = Map.getD m j d := by
  by_cases hv : v = d <;> simp [Map.putD, Map.getD, hv, find_del_ne m h, find_put_ne m _ h]

/-- Every key of a stored list is the key stored or one that stood. -/
theorem mem_put {m : Map α} {i : Nat} {v : α} {e : Nat × α} (h : e ∈ Map.put m i v) : e = (i, v) ∨ e ∈ m := by
  induction m with
  | nil => simpa [Map.put] using h
  | cons a m ih =>
    obtain ⟨k, w⟩ := a
    simp only [Map.put] at h
    split at h
    · simpa using h
    · split at h
      · simp only [List.mem_cons] at h ⊢; tauto
      · simp only [List.mem_cons] at h ⊢; rcases h with h | h
        · tauto
        · have := ih h; tauto

/-- What is left after a removal stood before. -/
theorem mem_del {m : Map α} {i : Nat} {e : Nat × α} (h : e ∈ Map.del m i) : e ∈ m := by
  induction m with
  | nil => simp [Map.del] at h
  | cons a m ih =>
    obtain ⟨k, w⟩ := a
    simp only [Map.del] at h
    split at h
    · exact List.mem_cons_of_mem _ (ih h)
    · simp only [List.mem_cons] at h ⊢; rcases h with h | h
      · tauto
      · exact .inr (ih h)

/-- A write keeps keys strictly rising. -/
theorem wf_put {m : Map α} (h : Map.wf m) (i : Nat) (v : α) : Map.wf (Map.put m i v) := by
  induction m with
  | nil => simp [Map.put, Map.wf]
  | cons a m ih =>
    obtain ⟨k, w⟩ := a
    simp only [Map.wf, List.pairwise_cons] at h
    simp only [Map.put]
    split
    · rename_i hk
      simp only [Map.wf, List.pairwise_cons, List.mem_cons]
      refine ⟨?_, h⟩
      rintro b (rfl | hb)
      · exact hk
      · exact hk.trans (h.1 b hb)
    · split
      · rename_i hk he
        simp only [Map.wf, List.pairwise_cons]
        exact ⟨he ▸ h.1, h.2⟩
      · rename_i hk he
        simp only [Map.wf, List.pairwise_cons]
        refine ⟨?_, ih h.2⟩
        intro b hb
        rcases mem_put hb with rfl | hb
        · simp only []; omega
        · exact h.1 b hb

/-- A removal keeps keys strictly rising. -/
theorem wf_del {m : Map α} (h : Map.wf m) (i : Nat) : Map.wf (Map.del m i) := by
  induction m with
  | nil => simp [Map.del, Map.wf]
  | cons a m ih =>
    obtain ⟨k, w⟩ := a
    simp only [Map.wf, List.pairwise_cons] at h
    simp only [Map.del]
    split
    · exact ih h.2
    · simp only [Map.wf, List.pairwise_cons]
      exact ⟨fun b hb => h.1 b (mem_del hb), ih h.2⟩

/-- Writing a byte keeps memory canonical. -/
theorem memory_wf_write {m : List Host.Cell} (h : Memory.wf m) (a : Nat) (b : Byte) : Memory.wf (Memory.write m a b) := by
  unfold Memory.write Map.putD
  split
  · exact ⟨wf_del h.1 a, fun c hc => h.2 c (mem_del hc)⟩
  · rename_i hb
    refine ⟨wf_put h.1 a b, fun c hc => ?_⟩
    rcases mem_put hc with rfl | hc
    · exact hb
    · exact h.2 c hc

/-- Storing bytes keeps memory canonical. -/
theorem memory_wf_store {m : List Host.Cell} (h : Memory.wf m) (a : Nat) (bs : List Nat) : Memory.wf (Memory.store m a bs) := by
  induction bs generalizing m a with
  | nil => exact h
  | cons b bs ih => exact ih (memory_wf_write h a _) (a + 1)

/-- Clearing bytes keeps memory canonical. -/
theorem memory_wf_clear {m : List Host.Cell} (h : Memory.wf m) (a n : Nat) : Memory.wf (Memory.clear m a n) :=
  ⟨h.1.sublist List.filter_sublist, fun c hc => h.2 c (List.mem_of_mem_filter hc)⟩

/-- A byte that was written reads as written, and every other byte as before. -/
theorem read_write (m : List Host.Cell) (a x : Nat) (b : Byte) :
    Memory.read (Memory.write m a b) x = if x = a then b else Memory.read m x := by
  by_cases h : x = a
  · subst h; simp [Memory.read, Memory.write]
  · simp [Memory.read, Memory.write, h, getD_putD_ne]

/-- Stored bytes read as stored, and every other byte as before. -/
theorem read_store (m : List Host.Cell) (a x : Nat) (bs : List Nat) :
    Memory.read (Memory.store m a bs) x = if a ≤ x ∧ x < a + bs.length then BitVec.ofNat 8 (nth bs (x - a)) else Memory.read m x := by
  induction bs generalizing m a with
  | nil => have : ¬ (a ≤ x ∧ x < a) := by omega
           simp [Memory.store, this]
  | cons b bs ih =>
    simp only [Memory.store, ih, read_write, List.length_cons]
    by_cases h1 : x = a
    · subst h1
      simp [nth]
    · by_cases h2 : a + 1 ≤ x ∧ x < a + 1 + bs.length
      · have h3 : a ≤ x ∧ x < a + (bs.length + 1) := by omega
        have h4 : x - a = (x - (a + 1)) + 1 := by omega
        simp only [h2, h3, and_self, if_true, nth, h4, List.getD_cons_succ]
      · have h3 : ¬ (a ≤ x ∧ x < a + (bs.length + 1)) := by omega
        simp only [h1, h2, h3, if_false]

end Sys2Proof.Laws
end

