-- ==== Sys2Proof/Laws/Keeps.lean ====
section
/-! SUPPORT. What every operation keeps: the queue of waiting commands, and the canonical form of memory. -/

namespace Sys2Proof.Laws
open Sys2Proof.Machine

/-- The queue is as it was and memory keeps its canonical form. -/
def Keeps (o s : State) : Prop := s.pending = o.pending ∧ (Memory.wf o.mem → Memory.wf s.mem)
/-- The same of a state that an operation may refuse. -/
def KeepsO (o : State) (x : Option State) : Prop := ∀ t, x = some t → Keeps o t
/-- The same of the state in a result that may be absent. -/
def KeepsP {α : Type} (o : State) (x : Option (State × α)) : Prop := ∀ t, x = some t → Keeps o t.1
/-- The same of a result that may be an error. -/
def KeepsE {ε : Type} (o : State) (x : Except ε State) : Prop := ∀ t, x = .ok t → Keeps o t
/-- The same of a write that an object may not take. -/
def KeepsW (o : State) (x : Option Wrote) : Prop := ∀ t, x = some t → KeepsE o t
/-- The same of the outcome of a command. -/
def KeepsX (o : State) (x : Host.Outcome State Fault Refusal) : Prop := ∀ t, x = .next t → Keeps o t

theorem Keeps.refl (s : State) : Keeps s s := ⟨rfl, id⟩
theorem Keeps.trans {a b c : State} (h : Keeps a b) (g : Keeps b c) : Keeps a c := ⟨g.1.trans h.1, g.2 ∘ h.2⟩
theorem Keeps.ite {o a b : State} {c : Prop} [Decidable c] (h : Keeps o a) (g : Keeps o b) : Keeps o (if c then a else b) := by split <;> assumption
theorem Keeps.fold {α : Type} {o s : State} {f : State → α → State} (l : List α) (h : Keeps o s) (g : ∀ t x, Keeps o t → Keeps o (f t x)) : Keeps o (l.foldl f s) := by
  induction l generalizing s with
  | nil => exact h
  | cons x l ih => exact ih (g _ _ h)
theorem Keeps.getD {o s : State} {x : Option State} (h : KeepsO o x) (g : Keeps o s) : Keeps o (x.getD s) := by
  cases x with
  | none => exact g
  | some t => exact h t rfl
theorem Keeps.fst {α : Type} {o t : State} {n : α} {p : State × α} (e : p = (t, n)) (h : Keeps o p.1) : Keeps o t := by subst e; exact h
theorem Keeps.ofO {o t : State} {x : Option State} (e : x = some t) (h : KeepsO o x) : Keeps o t := h t e
theorem Keeps.ofP {α : Type} {o : State} {t : State × α} {x : Option (State × α)} (e : x = some t) (h : KeepsP o x) : Keeps o t.1 := h t e
theorem Keeps.ofP' {α : Type} {o t : State} {a : α} {x : Option (State × α)} (e : x = some (t, a)) (h : KeepsP o x) : Keeps o t := h (t, a) e
theorem Keeps.ofE {ε : Type} {o t : State} {x : Except ε State} (e : x = .ok t) (h : KeepsE o x) : Keeps o t := h t e
theorem KeepsO.none {o : State} : KeepsO o none := fun _ h => nomatch h
theorem KeepsO.some {o s : State} (h : Keeps o s) : KeepsO o (some s) := fun _ e => by cases e; exact h
theorem KeepsO.ite {o : State} {a b : Option State} {c : Prop} [Decidable c] (h : KeepsO o a) (g : KeepsO o b) : KeepsO o (if c then a else b) := by split <;> assumption
theorem KeepsO.map {o : State} {x : Option State} {f : State → State} (h : KeepsO o x) (g : ∀ t, Keeps o t → Keeps o (f t)) : KeepsO o (x.map f) := by
  intro t e
  cases x with
  | none => cases e
  | some y => cases e; exact g _ (h y rfl)
theorem KeepsP.none {α : Type} {o : State} : KeepsP (α := α) o none := fun _ h => nomatch h
theorem KeepsP.some {α : Type} {o : State} {p : State × α} (h : Keeps o p.1) : KeepsP o (some p) := fun _ e => by cases e; exact h
theorem KeepsP.ite {α : Type} {o : State} {a b : Option (State × α)} {c : Prop} [Decidable c] (h : KeepsP o a) (g : KeepsP o b) : KeepsP o (if c then a else b) := by
  split <;> assumption
theorem KeepsE.error {ε : Type} {o : State} {e : ε} : KeepsE o (.error e) := fun _ h => nomatch h
theorem KeepsE.ok {ε : Type} {o s : State} (h : Keeps o s) : KeepsE (ε := ε) o (.ok s) := fun _ e => by cases e; exact h
theorem KeepsE.ite {ε : Type} {o : State} {a b : Except ε State} {c : Prop} [Decidable c] (h : KeepsE o a) (g : KeepsE o b) : KeepsE o (if c then a else b) := by
  split <;> assumption
theorem KeepsE.ofW {o : State} {x : Option Wrote} {y : Wrote} (e : x = some y) (h : KeepsW o x) : KeepsE o y := h y e
theorem KeepsW.none {o : State} : KeepsW o none := fun _ h => nomatch h
theorem KeepsW.some {o : State} {y : Wrote} (h : KeepsE o y) : KeepsW o (some y) := fun _ e => by cases e; exact h
theorem KeepsW.ite {o : State} {a b : Option Wrote} {c : Prop} [Decidable c] (h : KeepsW o a) (g : KeepsW o b) : KeepsW o (if c then a else b) := by split <;> assumption
theorem KeepsX.next {o s : State} (h : Keeps o s) : KeepsX o (.next s) := fun _ e => by cases e; exact h
theorem Keeps.lit {o s : State} {x_freeCtr} {x_time} {x_pkg} {x_start} {x_regs} {x_polders} {x_sideband} {x_frames} {x_retired} {x_seqs} {x_sweep} {x_moveFails} {x_lostSeqs} {x_lostHere} {x_orphans} {x_reqs} {x_gens} {x_orderCtr} {x_kept} {x_tombs} {x_holds} {x_bodies} {x_bodyHeld} {x_weights} {x_charges} {x_drives} {x_ports} {x_routes0} {x_routes1} {x_bank} {x_routed} {x_downMarks} {x_downSent} {x_contexts} {x_conduits} {x_stage} {x_miss} {x_charts} {x_sched} {x_pair} {x_fence} {x_log} {x_tempo} {x_power} {x_tiles} {x_thermal} {x_ptp} {x_sec} {x_meter} {x_gauge} {x_woa} {x_gath} {x_rings} {x_host} {x_out} (h : Keeps o s) : Keeps o ⟨s.pending, x_freeCtr, x_time, x_pkg, x_start, x_regs, x_polders, s.mem, x_sideband, x_frames, x_retired, x_seqs, x_sweep, x_moveFails, x_lostSeqs, x_lostHere, x_orphans, x_reqs, x_gens, x_orderCtr, x_kept, x_tombs, x_holds, x_bodies, x_bodyHeld, x_weights, x_charges, x_drives, x_ports, x_routes0, x_routes1, x_bank, x_routed, x_downMarks, x_downSent, x_contexts, x_conduits, x_stage, x_miss, x_charts, x_sched, x_pair, x_fence, x_log, x_tempo, x_power, x_tiles, x_thermal, x_ptp, x_sec, x_meter, x_gauge, x_woa, x_gath, x_rings, x_host, x_out⟩ := h
theorem Keeps.litMem {o s : State} {m : List Host.Cell} {x_freeCtr} {x_time} {x_pkg} {x_start} {x_regs} {x_polders} {x_sideband} {x_frames} {x_retired} {x_seqs} {x_sweep} {x_moveFails} {x_lostSeqs} {x_lostHere} {x_orphans} {x_reqs} {x_gens} {x_orderCtr} {x_kept} {x_tombs} {x_holds} {x_bodies} {x_bodyHeld} {x_weights} {x_charges} {x_drives} {x_ports} {x_routes0} {x_routes1} {x_bank} {x_routed} {x_downMarks} {x_downSent} {x_contexts} {x_conduits} {x_stage} {x_miss} {x_charts} {x_sched} {x_pair} {x_fence} {x_log} {x_tempo} {x_power} {x_tiles} {x_thermal} {x_ptp} {x_sec} {x_meter} {x_gauge} {x_woa} {x_gath} {x_rings} {x_host} {x_out} (h : Keeps o s) (g : Memory.wf s.mem → Memory.wf m) : Keeps o ⟨s.pending, x_freeCtr, x_time, x_pkg, x_start, x_regs, x_polders, m, x_sideband, x_frames, x_retired, x_seqs, x_sweep, x_moveFails, x_lostSeqs, x_lostHere, x_orphans, x_reqs, x_gens, x_orderCtr, x_kept, x_tombs, x_holds, x_bodies, x_bodyHeld, x_weights, x_charges, x_drives, x_ports, x_routes0, x_routes1, x_bank, x_routed, x_downMarks, x_downSent, x_contexts, x_conduits, x_stage, x_miss, x_charts, x_sched, x_pair, x_fence, x_log, x_tempo, x_power, x_tiles, x_thermal, x_ptp, x_sec, x_meter, x_gauge, x_woa, x_gath, x_rings, x_host, x_out⟩ := ⟨h.1, g ∘ h.2⟩
theorem Keeps.lit_eq (o s : State) (x_freeCtr : Nat) (x_time : Nat) (x_pkg : Pkg) (x_start : Start) (x_regs : Map Nat) (x_polders : Map Polder) (x_sideband : Map Nat) (x_frames : Map Frame) (x_retired : List Nat) (x_seqs : Map Seq) (x_sweep : Sweep) (x_moveFails : Nat) (x_lostSeqs : List Nat) (x_lostHere : List Nat) (x_orphans : List (Nat × Nat)) (x_reqs : Map Request) (x_gens : Map Nat) (x_orderCtr : Nat) (x_kept : List Kept) (x_tombs : List Tombstone) (x_holds : Map ChartHold) (x_bodies : Map Body) (x_bodyHeld : Option Nat) (x_weights : Map Weights) (x_charges : Map Charges) (x_drives : Map DriveSt) (x_ports : Map PortSt) (x_routes0 : Map Nat) (x_routes1 : Map Nat) (x_bank : Bool) (x_routed : Bool) (x_downMarks : List (Nat × Nat)) (x_downSent : Map Nat) (x_contexts : List Context) (x_conduits : Map Conduit) (x_stage : Map Stage) (x_miss : List Packet) (x_charts : Map Chart) (x_sched : Sched) (x_pair : Pair) (x_fence : Fence) (x_log : EvLog) (x_tempo : Tempo) (x_power : PowerGov) (x_tiles : Map TileSt) (x_thermal : Thermal) (x_ptp : Ptp) (x_sec : Sec) (x_meter : Meter) (x_gauge : Gauge) (x_woa : Woa) (x_gath : Gatherer) (x_rings : Map RingSt) (x_host : HostLink) (x_out : List Out) :
    Keeps o ⟨s.pending, x_freeCtr, x_time, x_pkg, x_start, x_regs, x_polders, s.mem, x_sideband, x_frames, x_retired, x_seqs, x_sweep, x_moveFails, x_lostSeqs, x_lostHere, x_orphans, x_reqs, x_gens, x_orderCtr, x_kept, x_tombs, x_holds, x_bodies, x_bodyHeld, x_weights, x_charges, x_drives, x_ports, x_routes0, x_routes1, x_bank, x_routed, x_downMarks, x_downSent, x_contexts, x_conduits, x_stage, x_miss, x_charts, x_sched, x_pair, x_fence, x_log, x_tempo, x_power, x_tiles, x_thermal, x_ptp, x_sec, x_meter, x_gauge, x_woa, x_gath, x_rings, x_host, x_out⟩ = Keeps o s := rfl

/-- The same of the state in a result or in its error. -/
def KeepsR {α β : Type} (o : State) (x : Except (State × α) (State × β)) : Prop := match x with | .ok p => Keeps o p.1 | .error p => Keeps o p.1
theorem KeepsR.ok {α β : Type} {o s : State} {b : β} (h : Keeps o s) : KeepsR (α := α) o (.ok (s, b)) := h
theorem KeepsR.error {α β : Type} {o s : State} {a : α} (h : Keeps o s) : KeepsR (β := β) o (.error (s, a)) := h
theorem KeepsR.error' {α β : Type} {o : State} {p : State × α} (h : Keeps o p.1) : KeepsR (β := β) o (.error p) := h
theorem KeepsR.ite {α β : Type} {o : State} {a b : Except (State × α) (State × β)} {c : Prop} [Decidable c] (h : KeepsR o a) (g : KeepsR o b) : KeepsR o (if c then a else b) := by
  split <;> assumption
theorem Keeps.ofROk {α β : Type} {o t : State} {b : β} {x : Except (State × α) (State × β)} (e : x = .ok (t, b)) (h : KeepsR o x) : Keeps o t := by subst e; exact h
theorem Keeps.ofRErr {α β : Type} {o t : State} {a : α} {x : Except (State × α) (State × β)} (e : x = .error (t, a)) (h : KeepsR o x) : Keeps o t := by subst e; exact h

theorem KeepsP.fold {α β : Type} {o : State} {f : Option (State × β) → α → Option (State × β)} (l : List α) {x : Option (State × β)} (h : KeepsP o x)
    (g : ∀ y a, KeepsP o y → KeepsP o (f y a)) : KeepsP o (l.foldl f x) := by
  induction l generalizing x with
  | nil => exact h
  | cons a l ih => exact ih (g _ _ h)
theorem KeepsO.fold {α : Type} {o : State} {f : Option State → α → Option State} (l : List α) {x : Option State} (h : KeepsO o x)
    (g : ∀ y a, KeepsO o y → KeepsO o (f y a)) : KeepsO o (l.foldl f x) := by
  induction l generalizing x with
  | nil => exact h
  | cons a l ih => exact ih (g _ _ h)
theorem KeepsF.fold {α β : Type} {o : State} {f : State × β → α → State × β} (l : List α) {x : State × β} (h : Keeps o x.1)
    (g : ∀ y a, Keeps o y.1 → Keeps o (f y a).1) : Keeps o (l.foldl f x).1 := by
  induction l generalizing x with
  | nil => exact h
  | cons a l ih => exact ih (g _ _ h)
theorem KeepsP.get {β : Type} {o t : State} {b : β} (h : KeepsP o (Option.some (t, b))) : Keeps o t := h _ rfl
theorem KeepsO.get {o t : State} (h : KeepsO o (Option.some t)) : Keeps o t := h _ rfl
theorem KeepsE.get {ε : Type} {o t : State} (h : KeepsE (ε := ε) o (.ok t)) : Keeps o t := h _ rfl
theorem KeepsF.ite {β : Type} {o : State} {a b : State × β} {c : Prop} [Decidable c] (h : Keeps o a.1) (g : Keeps o b.1) : Keeps o (if c then a else b).1 := by split <;> assumption

theorem KeepsO.findSome {α : Type} {o : State} {f : α → Option State} (l : List α) (g : ∀ a, KeepsO o (f a)) : KeepsO o (l.findSome? f) := by
  intro t e
  obtain ⟨a, _, h⟩ := List.exists_of_findSome?_eq_some e
  exact g a t h

end Sys2Proof.Laws
end

