-- ==== Sys2Proof/Laws/KeepsRequests.lean ====
section
/-! SUPPORT. What every operation keeps, continued: Objects, pages, requests and moves. -/

namespace Sys2Proof.Laws

open Sys2Proof Sys2Proof.Machine

/-! Objects -/

theorem setObj_keeps {z0 : State} (s : State) (k v : Nat) (h_s : Keeps z0 s) : Keeps z0 (State.setObj s k v) := by
  unfold State.setObj
  try dsimp only
  with_reducible repeat' (first | assumption | dsimp only [Keeps.lit_eq])

theorem bumpBy_keeps {z0 : State} (s : State) (k n : Nat) (h_s : Keeps z0 s) : Keeps z0 (State.bumpBy s k n) := by
  unfold State.bumpBy
  try dsimp only
  with_reducible repeat' (first | assumption | apply setObj_keeps)

theorem bump_keeps {z0 : State} (s : State) (k : Nat) (h_s : Keeps z0 s) : Keeps z0 (State.bump s k) := by
  unfold State.bump
  try dsimp only
  with_reducible repeat' (first | assumption | apply bumpBy_keeps)

/-! Flags -/

theorem setPolder_keeps {z0 : State} (s : State) (p : Nat) (x : Polder) (h_s : Keeps z0 s) : Keeps z0 (State.setPolder s p x) := by
  unfold State.setPolder
  try dsimp only
  with_reducible repeat' (first | assumption | dsimp only [Keeps.lit_eq])

theorem setPort_keeps {z0 : State} (s : State) (n : Nat) (x : PortSt) (h_s : Keeps z0 s) : Keeps z0 (State.setPort s n x) := by
  unfold State.setPort
  try dsimp only
  with_reducible repeat' (first | assumption | dsimp only [Keeps.lit_eq])

theorem setDrive_keeps {z0 : State} (s : State) (d : Nat) (x : DriveSt) (h_s : Keeps z0 s) : Keeps z0 (State.setDrive s d x) := by
  unfold State.setDrive
  try dsimp only
  with_reducible repeat' (first | assumption | dsimp only [Keeps.lit_eq])

theorem setRing_keeps {z0 : State} (s : State) (r : Nat) (x : RingSt) (h_s : Keeps z0 s) : Keeps z0 (State.setRing s r x) := by
  unfold State.setRing
  try dsimp only
  with_reducible repeat' (first | assumption | dsimp only [Keeps.lit_eq])

theorem setConduit_keeps {z0 : State} (s : State) (c : Nat) (x : Conduit) (h_s : Keeps z0 s) : Keeps z0 (State.setConduit s c x) := by
  unfold State.setConduit
  try dsimp only
  with_reducible repeat' (first | assumption | dsimp only [Keeps.lit_eq])

theorem setChart_keeps {z0 : State} (s : State) (i : Nat) (x : Chart) (h_s : Keeps z0 s) : Keeps z0 (State.setChart s i x) := by
  unfold State.setChart
  try dsimp only
  with_reducible repeat' (first | assumption | dsimp only [Keeps.lit_eq])

theorem setCharge_keeps {z0 : State} (s : State) (t : Nat) (x : Charges) (h_s : Keeps z0 s) : Keeps z0 (State.setCharge s t x) := by
  unfold State.setCharge
  try dsimp only
  with_reducible repeat' (first | assumption | dsimp only [Keeps.lit_eq])

theorem setWeight_keeps {z0 : State} (s : State) (b : Nat) (x : Weights) (h_s : Keeps z0 s) : Keeps z0 (State.setWeight s b x) := by
  unfold State.setWeight
  try dsimp only
  with_reducible repeat' (first | assumption | dsimp only [Keeps.lit_eq])

/-! Gatherer -/

theorem setSource_keeps {z0 : State} (s : State) (x : Nat) (g : GSource) (h_s : Keeps z0 s) : Keeps z0 (State.setSource s x g) := by
  unfold State.setSource
  try dsimp only
  with_reducible repeat' (first | assumption | dsimp only [Keeps.lit_eq])

theorem arrive_keeps {z0 : State} (s : State) (x : Nat) (h_s : Keeps z0 s) : Keeps z0 (State.arrive s x) := by
  unfold State.arrive
  try dsimp only
  with_reducible repeat' (first | assumption | refine Keeps.ite ?_ ?_ | apply setSource_keeps)

theorem logEvent_keeps {z0 : State} (s : State) (code : Nat) (cls unit count data : Nat) (h_s : Keeps z0 s) : Keeps z0 (State.logEvent s code cls unit count data) := by
  unfold State.logEvent
  try dsimp only
  with_reducible repeat' (first | assumption | refine Keeps.ite ?_ ?_ | apply arrive_keeps | dsimp only [Keeps.lit_eq])

theorem msixWork_keeps {z0 : State} (s : State) (h_s : Keeps z0 s) : Keeps z0 (State.msixWork s) := by
  unfold State.msixWork
  try dsimp only
  with_reducible repeat' (first | assumption | dsimp only [Keeps.lit_eq])

theorem deliver_keeps {z0 : State} (s : State) (x t : Nat) (h_s : Keeps z0 s) : Keeps z0 (State.deliver s x t) := by
  unfold State.deliver
  try dsimp only
  with_reducible repeat' (first | assumption | refine Keeps.ite ?_ ?_ | apply setSource_keeps | apply bump_keeps | apply msixWork_keeps | dsimp only [Keeps.lit_eq])

theorem unroute_keeps {z0 : State} (s : State) (t : Nat) (h_s : Keeps z0 s) : Keeps z0 (State.unroute s t) := by
  unfold State.unroute
  try dsimp only
  with_reducible repeat' (first | assumption | dsimp only [Keeps.lit_eq])

theorem completeBy_keeps {z0 : State} (s : State) (t x : Nat) (h_s : Keeps z0 s) : Keeps z0 (State.completeBy s t x) := by
  unfold State.completeBy
  try dsimp only
  with_reducible repeat' (first | assumption | refine Keeps.ite ?_ ?_ | apply setSource_keeps | apply bump_keeps)

theorem countRaced_keeps {z0 : State} (s : State) (forbids : GSource → Bool) (h_s : Keeps z0 s) : Keeps z0 (State.countRaced s forbids) := by
  unfold State.countRaced
  try dsimp only
  with_reducible repeat' (first | assumption | apply bumpBy_keeps)

theorem configure_keeps {z0 : State} (s : State) (x value : Nat) (h_s : Keeps z0 s) : KeepsO z0 (State.configure s x value) := by
  unfold State.configure
  try dsimp only
  with_reducible repeat' (first | assumption | exact KeepsO.none | refine Keeps.ite ?_ ?_ | refine KeepsO.ite ?_ ?_ | refine KeepsO.some ?_ | apply bump_keeps | apply setSource_keeps)

theorem execSourceArrival_keeps {z0 : State} (x : Source) (s : State) (h_s : Keeps z0 s) : KeepsX z0 (execSourceArrival x s) := by
  unfold execSourceArrival
  try dsimp only
  with_reducible repeat' (first | assumption | refine KeepsX.next ?_ | apply arrive_keeps)

theorem select_keeps {z0 : State} (s : State) (h_s : Keeps z0 s) : Keeps z0 (State.select s) := by
  unfold State.select
  try dsimp only
  with_reducible repeat' (first | assumption | apply deliver_keeps | split)

theorem execGathererSelect_keeps {z0 : State} (s : State) (h_s : Keeps z0 s) : KeepsX z0 (execGathererSelect s) := by
  unfold execGathererSelect
  try dsimp only
  with_reducible repeat' (first | assumption | refine KeepsX.next ?_ | apply select_keeps)

theorem claim_keeps {z0 : State} (s : State) (k : Nat) (h_s : Keeps z0 s) : Keeps z0 (State.claim s k) := by
  unfold State.claim
  try dsimp only
  with_reducible repeat' (first | assumption | dsimp only [Keeps.lit_eq] | split)

theorem execGclaim_keeps {z0 : State} (k : Stw) (s : State) (h_s : Keeps z0 s) : KeepsX z0 (execGclaim k s) := by
  unfold execGclaim
  try dsimp only
  with_reducible repeat' (first | assumption | refine KeepsX.next ?_ | apply claim_keeps)

theorem execGcomplete_keeps {z0 : State} (k : Stw) (x : Source) (s : State) (h_s : Keeps z0 s) : KeepsX z0 (execGcomplete k x s) := by
  unfold execGcomplete
  try dsimp only
  with_reducible repeat' (first | assumption | refine KeepsX.next ?_ | apply completeBy_keeps)

theorem setThreshold_keeps {z0 : State} (s : State) (k value : Nat) (h_s : Keeps z0 s) : Keeps z0 (State.setThreshold s k value) := by
  unfold State.setThreshold
  try dsimp only
  with_reducible repeat' (first | assumption | apply countRaced_keeps | dsimp only [Keeps.lit_eq])

theorem execGthresh_keeps {z0 : State} (k : Stw) (value : Fin 16) (s : State) (h_s : Keeps z0 s) : KeepsX z0 (execGthresh k value s) := by
  unfold execGthresh
  try dsimp only
  with_reducible repeat' (first | assumption | refine KeepsX.next ?_ | apply setThreshold_keeps)

theorem execGpendSet_keeps {z0 : State} (x : Source) (s : State) (h_s : Keeps z0 s) : KeepsX z0 (execGpendSet x s) := by
  unfold execGpendSet
  try dsimp only
  with_reducible repeat' (first | assumption | refine KeepsX.next ?_ | apply arrive_keeps)

theorem clearPending_keeps {z0 : State} (s : State) (x : Nat) (h_s : Keeps z0 s) : Keeps z0 (State.clearPending s x) := by
  unfold State.clearPending
  try dsimp only
  with_reducible repeat' (first | assumption | apply setSource_keeps)

theorem execGpendClear_keeps {z0 : State} (x : Source) (s : State) (h_s : Keeps z0 s) : KeepsX z0 (execGpendClear x s) := by
  unfold execGpendClear
  try dsimp only
  with_reducible repeat' (first | assumption | refine KeepsX.next ?_ | apply clearPending_keeps)

theorem execComplete_keeps {z0 : State} (pf1 : Bool) (x : Source) (s : State) (h_s : Keeps z0 s) : KeepsX z0 (execComplete pf1 x s) := by
  unfold execComplete
  try dsimp only
  with_reducible repeat' (first | assumption | refine Keeps.ite ?_ ?_ | refine KeepsX.next ?_ | apply completeBy_keeps)

theorem execSetpendSet_keeps {z0 : State} (pf1 : Bool) (x : Source) (s : State) (h_s : Keeps z0 s) : KeepsX z0 (execSetpendSet pf1 x s) := by
  unfold execSetpendSet
  try dsimp only
  with_reducible repeat' (first | assumption | refine Keeps.ite ?_ ?_ | refine KeepsX.next ?_ | apply arrive_keeps)

theorem execSetpendClear_keeps {z0 : State} (pf1 : Bool) (x : Source) (s : State) (h_s : Keeps z0 s) : KeepsX z0 (execSetpendClear pf1 x s) := by
  unfold execSetpendClear
  try dsimp only
  with_reducible repeat' (first | assumption | refine Keeps.ite ?_ ?_ | refine KeepsX.next ?_ | apply clearPending_keeps)

theorem execSourceSetPending_keeps {z0 : State} (s : State) (h_s : Keeps z0 s) : KeepsX z0 (execSourceSetPending s) := by
  unfold execSourceSetPending
  try dsimp only
  with_reducible repeat' (first | assumption | refine KeepsX.next ?_ | apply arrive_keeps)

theorem execSourceClearPending_keeps {z0 : State} (s : State) (h_s : Keeps z0 s) : KeepsX z0 (execSourceClearPending s) := by
  unfold execSourceClearPending
  try dsimp only
  with_reducible repeat' (first | assumption | refine KeepsX.next ?_ | apply clearPending_keeps)

theorem execSourceConfiguration_keeps {z0 : State} (value : Nat) (s : State) (h_s : Keeps z0 s) : KeepsX z0 (execSourceConfiguration value s) := by
  unfold execSourceConfiguration
  try dsimp only
  with_reducible repeat' (first | assumption | refine KeepsX.next ?_ | refine Keeps.getD ?_ ?_ | apply configure_keeps)

theorem msixWrite_keeps {z0 : State} (s : State) (pf1 enable functionMask : Bool) (vector : Nat) (masked : Bool) (h_s : Keeps z0 s) : Keeps z0 (State.msixWrite s pf1 enable functionMask vector masked) := by
  unfold State.msixWrite
  try dsimp only
  with_reducible repeat' (first | assumption | refine Keeps.ite ?_ ?_ | apply countRaced_keeps | apply unroute_keeps | dsimp only [Keeps.lit_eq])

theorem execMsiXMaskWrite_keeps {z0 : State} (pf1 enable functionMask : Bool) (vector : Nat) (masked : Bool) (s : State) (h_s : Keeps z0 s) : KeepsX z0 (execMsiXMaskWrite pf1 enable functionMask vector masked s) := by
  unfold execMsiXMaskWrite
  try dsimp only
  with_reducible repeat' (first | assumption | refine KeepsX.next ?_ | apply msixWrite_keeps)

/-! Clock -/

theorem tick_keeps {z0 : State} (s : State) (h_s : Keeps z0 s) : Keeps z0 (State.tick s) := by
  unfold State.tick
  try dsimp only
  with_reducible repeat' (first | assumption | dsimp only [Keeps.lit_eq])

/-! Egress -/

theorem enqueue_keeps {z0 : State} (s : State) (res c : Nat) (w : Work) (h_s : Keeps z0 s) : Keeps z0 (State.enqueue s res c w) := by
  unfold State.enqueue
  try dsimp only
  with_reducible repeat' (first | assumption | dsimp only [Keeps.lit_eq])

theorem work_keeps {z0 : State} (s : State) (res c len : Nat) (h_s : Keeps z0 s) : Keeps z0 (State.work s res c len) := by
  unfold State.work
  try dsimp only
  with_reducible repeat' (first | assumption | apply enqueue_keeps)

theorem putControl_keeps {z0 : State} (s : State) (n : Nat) (k : Packet) (h_s : Keeps z0 s) : Keeps z0 (State.putControl s n k) := by
  unfold State.putControl
  try dsimp only
  with_reducible repeat' (first | assumption | apply setPort_keeps | dsimp only [Keeps.lit_eq])

theorem sendControl_keeps {z0 : State} (s : State) (n subtype : Nat) (payload : List Nat) (h_s : Keeps z0 s) : Keeps z0 (State.sendControl s n subtype payload) := by
  unfold State.sendControl
  try dsimp only
  with_reducible repeat' (first | assumption | refine Keeps.ite ?_ ?_ | apply setPort_keeps | apply putControl_keeps)

theorem releaseControl_keeps {z0 : State} (s : State) (n : Nat) (h_s : Keeps z0 s) : Keeps z0 (State.releaseControl s n) := by
  unfold State.releaseControl
  try dsimp only
  with_reducible repeat' (first | assumption | apply setPort_keeps | apply putControl_keeps | split)

theorem closeFrame_keeps {z0 : State} (s : State) (n : Nat) (h_s : Keeps z0 s) : Keeps z0 (State.closeFrame s n) := by
  unfold State.closeFrame
  try dsimp only
  with_reducible repeat' (first | assumption | refine Keeps.ite ?_ ?_ | apply setPort_keeps | dsimp only [Keeps.lit_eq])

theorem afterPacket_keeps {z0 : State} (s : State) (n : Nat) (h_s : Keeps z0 s) : Keeps z0 (State.afterPacket s n) := by
  unfold State.afterPacket
  try dsimp only
  with_reducible repeat' (first | assumption | refine Keeps.ite ?_ ?_ | apply setPort_keeps | apply closeFrame_keeps | apply releaseControl_keeps)

theorem sendCredit_keeps {z0 : State} (s : State) (n : Nat) (h_s : Keeps z0 s) : Keeps z0 (State.sendCredit s n) := by
  unfold State.sendCredit
  try dsimp only
  with_reducible repeat' (first | assumption | apply setPort_keeps | apply sendControl_keeps)

theorem returnUnits_keeps {z0 : State} (s : State) (n c len : Nat) (h_s : Keeps z0 s) : Keeps z0 (State.returnUnits s n c len) := by
  unfold State.returnUnits
  try dsimp only
  with_reducible repeat' (first | assumption | refine Keeps.ite ?_ ?_ | apply setPort_keeps | apply sendCredit_keeps)

theorem leaveIngress_keeps {z0 : State} (s : State) (k : Packet) (w : Work) (h_s : Keeps z0 s) : Keeps z0 (State.leaveIngress s k w) := by
  unfold State.leaveIngress
  try dsimp only
  with_reducible repeat' (first | assumption | refine Keeps.ite ?_ ?_ | apply returnUnits_keeps | split)

theorem sendPathDown_keeps {z0 : State} (s : State) (n dst : Nat) (h_s : Keeps z0 s) : Keeps z0 (State.sendPathDown s n dst) := by
  unfold State.sendPathDown
  try dsimp only
  with_reducible repeat' (first | assumption | refine Keeps.ite ?_ ?_ | apply bump_keeps | apply sendControl_keeps | dsimp only [Keeps.lit_eq])

theorem discardNoRoute_keeps {z0 : State} (s : State) (k : Packet) (w : Work) (answer : Bool) (h_s : Keeps z0 s) : Keeps z0 (State.discardNoRoute s k w answer) := by
  unfold State.discardNoRoute
  try dsimp only
  with_reducible repeat' (first | assumption | refine Keeps.ite ?_ ?_ | apply bump_keeps | apply arrive_keeps | apply leaveIngress_keeps | apply sendPathDown_keeps | split)

theorem spray_keeps {z0 : State} (s : State) (w : Work) (k : Packet) (h_s : Keeps z0 s) : Keeps z0 (State.spray s w k) := by
  unfold State.spray
  try dsimp only
  with_reducible repeat' (first | assumption | apply enqueue_keeps | apply discardNoRoute_keeps | dsimp only [Keeps.lit_eq] | split)

theorem respray_keeps {z0 : State} (s : State) (h_s : Keeps z0 s) : Keeps z0 (State.respray s) := by
  unfold State.respray
  try dsimp only
  with_reducible repeat' (first | assumption | refine Keeps.fold _ ?_ (fun _ _ _ => ?_) | apply spray_keeps | dsimp only [Keeps.lit_eq] | split)

theorem drawId_keeps {z0 : State} (s : State) (slot : Nat) (h_s : Keeps z0 s) : Keeps z0 (State.drawId s slot).1 := by
  unfold State.drawId
  try dsimp only
  with_reducible repeat' (first | assumption | refine Keeps.ite ?_ ?_ | refine KeepsF.ite ?_ ?_ | apply arrive_keeps | dsimp only [Keeps.lit_eq])

theorem handOver_keeps {z0 : State} (s : State) (c : Context) (h_s : Keeps z0 s) : Keeps z0 (State.handOver s c) := by
  unfold State.handOver
  try dsimp only
  with_reducible repeat' (first | assumption | refine Keeps.ite ?_ ?_ | apply bump_keeps | dsimp only [Keeps.lit_eq])

theorem reassemble_keeps {z0 : State} (s : State) (k : Packet) (h_s : Keeps z0 s) : KeepsO z0 (State.reassemble s k) := by
  unfold State.reassemble
  try dsimp only
  with_reducible repeat' (first | assumption | exact KeepsO.none | refine KeepsO.ite ?_ ?_ | refine KeepsO.some ?_ | apply bump_keeps | apply handOver_keeps | dsimp only [Keeps.lit_eq] | split)

theorem fetchRecord_keeps {z0 : State} (s : State) (c : Nat) (h_s : Keeps z0 s) : Keeps z0 (State.fetchRecord s c) := by
  unfold State.fetchRecord
  try dsimp only
  with_reducible repeat' (first | assumption | refine Keeps.ite ?_ ?_ | apply bump_keeps | apply work_keeps)

theorem acceptClear_keeps {z0 : State} (s : State) (k : Packet) (h_s : Keeps z0 s) : KeepsO z0 (State.acceptClear s k) := by
  unfold State.acceptClear
  try dsimp only
  with_reducible repeat' (first | assumption | exact KeepsO.none | refine Keeps.ite ?_ ?_ | refine KeepsO.ite ?_ ?_ | refine KeepsO.some ?_ | apply bump_keeps | apply fetchRecord_keeps | apply reassemble_keeps | dsimp only [Keeps.lit_eq])

theorem accept_keeps {z0 : State} (s : State) (k : Packet) (h_s : Keeps z0 s) : KeepsO z0 (State.accept s k) := by
  unfold State.accept
  try dsimp only
  with_reducible repeat' (first | assumption | refine KeepsO.ite ?_ ?_ | refine KeepsO.some ?_ | refine KeepsO.map ?_ (fun _ _ => ?_) | apply acceptClear_keeps | apply bump_keeps | split)

theorem deliverOwn_keeps {z0 : State} (s : State) (k : Packet) (h_s : Keeps z0 s) : Keeps z0 (State.deliverOwn s k) := by
  unfold State.deliverOwn
  try dsimp only
  with_reducible repeat' (first | assumption | refine Keeps.ite ?_ ?_ | apply bump_keeps | apply accept_keeps | apply setPort_keeps | refine Keeps.ofO (by assumption) ?_ | split)

theorem sourcePacket_keeps {z0 : State} (s : State) (tenant : Option Nat) (flow : Nat) (k : Packet) (h_s : Keeps z0 s) : Keeps z0 (State.sourcePacket s tenant flow k) := by
  unfold State.sourcePacket
  try dsimp only
  with_reducible repeat' (first | assumption | refine Keeps.ite ?_ ?_ | apply deliverOwn_keeps | apply bump_keeps | apply discardNoRoute_keeps | apply spray_keeps | dsimp only [Keeps.lit_eq])

theorem sourceMessage_keeps {z0 : State} (s : State) (kind c dst pol slot msg : Nat) (data : List Nat) (tenant : Option Nat) (flow : Nat) (kindWord : Nat) (h_s : Keeps z0 s) : Keeps z0 (State.sourceMessage s kind c dst pol slot msg data tenant flow kindWord) := by
  unfold State.sourceMessage
  try dsimp only
  with_reducible repeat' (first | assumption | refine Keeps.ite ?_ ?_ | refine Keeps.fold _ ?_ (fun _ _ _ => ?_) | apply sourcePacket_keeps)

theorem sendSystem_keeps {z0 : State} (s : State) (kind c dst : Nat) (data : List Nat) (kindWord : Nat) (h_s : Keeps z0 s) : Keeps z0 (State.sendSystem s kind c dst data kindWord) := by
  unfold State.sendSystem
  try dsimp only
  with_reducible repeat' (first | assumption | apply drawId_keeps | apply sourceMessage_keeps)

theorem sendMirror_keeps {z0 : State} (s : State) (op msg seq refused : Nat) (body : List Nat) (h_s : Keeps z0 s) : Keeps z0 (State.sendMirror s op msg seq refused body) := by
  unfold State.sendMirror
  try dsimp only
  with_reducible repeat' (first | assumption | apply sourceMessage_keeps)

theorem sendMirrorAck_keeps {z0 : State} (s : State) (refused : Nat) (h_s : Keeps z0 s) : Keeps z0 (State.sendMirrorAck s refused) := by
  unfold State.sendMirrorAck
  try dsimp only
  with_reducible repeat' (first | assumption | apply drawId_keeps | apply sendMirror_keeps | dsimp only [Keeps.lit_eq])

/-! Pages -/

theorem writeStack_keeps {o : State} (s : State) (a : Nat) (bs : List Nat) (h_s : Keeps o s) : Keeps o (State.writeStack s a bs) := by
  unfold State.writeStack
  exact ⟨h_s.1, fun h => memory_wf_store (h_s.2 h) a bs⟩

theorem zeroFrame_keeps {z0 : State} (s : State) (k : Nat) (h_s : Keeps z0 s) : Keeps z0 (State.zeroFrame s k) :=
  ⟨h_s.1, fun h => memory_wf_clear (h_s.2 h) (k * 65536) 65536⟩

theorem bankHolds_keeps {z0 : State} (s : State) (rows : List Nat) (h_s : Keeps z0 s) : Keeps z0 (State.bankHolds s rows) := by
  unfold State.bankHolds
  try dsimp only
  with_reducible repeat' (first | assumption | refine Keeps.ite ?_ ?_ | refine Keeps.fold _ ?_ (fun _ _ _ => ?_) | apply bump_keeps | apply setObj_keeps)

theorem stackAccess_keeps {z0 : State} (s : State) (c off len : Nat) (h_s : Keeps z0 s) : Keeps z0 (State.stackAccess s c off len) := by
  unfold State.stackAccess
  try dsimp only
  with_reducible repeat' (first | assumption | refine Keeps.fold _ ?_ (fun _ _ _ => ?_) | apply work_keeps | apply bankHolds_keeps)

theorem pageAccess_keeps {z0 : State} (s : State) (c k : Nat) (sh : Shape) (h_s : Keeps z0 s) : Keeps z0 (State.pageAccess s c k sh) := by
  unfold State.pageAccess
  try dsimp only
  with_reducible repeat' (first | assumption | refine Keeps.fold _ ?_ (fun _ _ _ => ?_) | apply work_keeps | apply bankHolds_keeps)

theorem putFrame_keeps {z0 : State} (s : State) (k : Nat) (f : Frame) (h_s : Keeps z0 s) : Keeps z0 (State.putFrame s k f) := by
  unfold State.putFrame
  try dsimp only
  with_reducible repeat' (first | assumption | apply writeStack_keeps | dsimp only [Keeps.lit_eq])

theorem chargeBy_keeps {z0 : State} (s : State) (t : Nat) (f : Charges → Charges) (h_s : Keeps z0 s) : Keeps z0 (State.chargeBy s t f) := by
  unfold State.chargeBy
  try dsimp only
  with_reducible repeat' (first | assumption | apply setCharge_keeps)

theorem freeFrame_keeps {z0 : State} (s : State) (k : Nat) (h_s : Keeps z0 s) : Keeps z0 (State.freeFrame s k) := by
  unfold State.freeFrame
  try dsimp only
  with_reducible repeat' (first | assumption | apply writeStack_keeps | apply chargeBy_keeps | dsimp only [Keeps.lit_eq] | split)

theorem journal_keeps {z0 : State} (s : State) (k : Nat) (d : Int) (h_s : Keeps z0 s) : Keeps z0 (State.journal s k d) := by
  unfold State.journal
  try dsimp only
  with_reducible repeat' (first | assumption | refine Keeps.ite ?_ ?_ | dsimp only [Keeps.lit_eq])

theorem recount_keeps {z0 : State} (s : State) (k : Nat) (f : Frame) (n : Nat) (h_s : Keeps z0 s) : Keeps z0 (State.recount s k f n) := by
  unfold State.recount
  try dsimp only
  with_reducible repeat' (first | assumption | apply stackAccess_keeps | apply putFrame_keeps)

theorem addRef_keeps {z0 : State} (s : State) (k : Nat) (h_s : Keeps z0 s) : Keeps z0 (State.addRef s k) := by
  unfold State.addRef
  try dsimp only
  with_reducible repeat' (first | assumption | refine Keeps.ite ?_ ?_ | apply recount_keeps | apply journal_keeps | split)

theorem dropRef_keeps {z0 : State} (s : State) (k : Nat) (h_s : Keeps z0 s) : Keeps z0 (State.dropRef s k) := by
  unfold State.dropRef
  try dsimp only
  with_reducible repeat' (first | assumption | refine Keeps.ite ?_ ?_ | apply freeFrame_keeps | apply recount_keeps | apply journal_keeps | split)

theorem dropRefs_keeps {z0 : State} (s : State) (ks : List Nat) (h_s : Keeps z0 s) : Keeps z0 (State.dropRefs s ks) := by
  unfold State.dropRefs
  try dsimp only
  with_reducible repeat' (first | assumption | refine Keeps.fold _ ?_ (fun _ _ _ => ?_) | apply dropRef_keeps)

theorem setSeq_keeps {z0 : State} (s : State) (i : Nat) (q : Seq) (h_s : Keeps z0 s) : Keeps z0 (State.setSeq s i q) := by
  unfold State.setSeq
  try dsimp only
  with_reducible repeat' (first | assumption | dsimp only [Keeps.lit_eq])

theorem loseFrame_keeps {z0 : State} (s : State) (k : Nat) (h_s : Keeps z0 s) : Keeps z0 (State.loseFrame s k) := by
  unfold State.loseFrame
  try dsimp only
  with_reducible repeat' (first | assumption | apply putFrame_keeps | apply bump_keeps | apply arrive_keeps | apply logEvent_keeps | dsimp only [Keeps.lit_eq] | split)

/-! Inlet -/

theorem countStatus_keeps {z0 : State} (s : State) (kind seqId : Nat) (a : Answer) (h_s : Keeps z0 s) : Keeps z0 (State.countStatus s kind seqId a) := by
  unfold State.countStatus
  try dsimp only
  with_reducible repeat' (first | assumption | refine Keeps.ite ?_ ?_ | apply bump_keeps | split)

theorem ringEntry_keeps {z0 : State} (s : State) (r : Nat) (h_s : Keeps z0 s) : Keeps z0 (State.ringEntry s r) := by
  unfold State.ringEntry
  try dsimp only
  with_reducible repeat' (first | assumption | refine Keeps.ite ?_ ?_ | apply setRing_keeps | apply arrive_keeps)

theorem emit_keeps {z0 : State} (s : State) (o : Out) (h_s : Keeps z0 s) : Keeps z0 (State.emit s o) := by
  unfold State.emit
  try dsimp only
  with_reducible repeat' (first | assumption | refine Keeps.ite ?_ ?_ | apply ringEntry_keeps | dsimp only [Keeps.lit_eq] | split)

theorem recordDone_keeps {z0 : State} (s : State) (n : Nat) (placed : Bool) (h_s : Keeps z0 s) : Keeps z0 (State.recordDone s n placed) := by
  unfold State.recordDone
  try dsimp only
  with_reducible repeat' (first | assumption | refine Keeps.ite ?_ ?_ | apply sendMirrorAck_keeps | dsimp only [Keeps.lit_eq])

theorem reply_keeps {z0 : State} (s : State) (src : Src) (tag gen tenant replyAt : Nat) (data : List Nat) (a : Answer) (h_s : Keeps z0 s) : Keeps z0 (State.reply s src tag gen tenant replyAt data a) := by
  unfold State.reply
  try dsimp only
  with_reducible repeat' (first | assumption | apply emit_keeps | apply sourceMessage_keeps | apply work_keeps | apply recordDone_keeps | split)

theorem keep_keeps {z0 : State} (s : State) (k : Kept) (h_s : Keeps z0 s) : Keeps z0 (State.keep s k) := by
  unfold State.keep
  try dsimp only
  with_reducible repeat' (first | assumption | dsimp only [Keeps.lit_eq])

theorem refuse_keeps {z0 : State} (s : State) (r : Req) (a : Answer) (h_s : Keeps z0 s) : Keeps z0 (State.refuse s r a) := by
  unfold State.refuse
  try dsimp only
  with_reducible repeat' (first | assumption | refine Keeps.ite ?_ ?_ | apply reply_keeps | apply keep_keeps | apply countStatus_keeps)

theorem stopWaiting_keeps {z0 : State} (s : State) (tag : Nat) (h_s : Keeps z0 s) : Keeps z0 (State.stopWaiting s tag) := by
  unfold State.stopWaiting
  try dsimp only
  with_reducible repeat' (first | assumption | dsimp only [Keeps.lit_eq])

theorem releaseHeld_keeps {z0 : State} (s : State) (tag : Nat) (q : Request) (h_s : Keeps z0 s) : Keeps z0 (State.releaseHeld s tag q) := by
  unfold State.releaseHeld
  try dsimp only
  with_reducible repeat' (first | assumption | refine Keeps.ite ?_ ?_ | refine Keeps.fold _ ?_ (fun _ _ _ => ?_) | apply chargeBy_keeps | apply setPolder_keeps | dsimp only [Keeps.lit_eq])

theorem voidLanes_keeps {z0 : State} (s : State) (tag : Nat) (h_s : Keeps z0 s) : Keeps z0 (State.voidLanes s tag) := by
  unfold State.voidLanes
  try dsimp only
  with_reducible repeat' (first | assumption | dsimp only [Keeps.lit_eq])

theorem complete_keeps {z0 : State} (s : State) (tag : Nat) (q : Request) (a : Answer) (data : List Nat) (h_s : Keeps z0 s) : Keeps z0 (State.complete s tag q a data) := by
  unfold State.complete
  try dsimp only
  with_reducible repeat' (first | assumption | refine Keeps.ite ?_ ?_ | apply countStatus_keeps | apply stopWaiting_keeps | apply setSeq_keeps | apply keep_keeps | apply reply_keeps | dsimp only [Keeps.lit_eq] | split)

theorem endRequest_keeps {z0 : State} (s : State) (tag : Nat) (a : Answer) (h_s : Keeps z0 s) : Keeps z0 (State.endRequest s tag a) := by
  unfold State.endRequest
  try dsimp only
  with_reducible repeat' (first | assumption | apply releaseHeld_keeps | apply voidLanes_keeps | apply complete_keeps | split)

theorem take_keeps {z0 s t : State} {r : Req} {ph : Phase} {tag : Nat} {q : Request} (e : s.take r ph = some (tag, q, t)) (h : Keeps z0 s) : Keeps z0 t := by
  unfold State.take at e
  dsimp only at e
  split at e
  · cases e
  · cases e
    split
    · exact bump_keeps _ _ h
    · exact h

theorem setReq_keeps {z0 : State} (s : State) (tag : Nat) (q : Request) (h_s : Keeps z0 s) : Keeps z0 (State.setReq s tag q) := by
  unfold State.setReq
  try dsimp only
  with_reducible repeat' (first | assumption | dsimp only [Keeps.lit_eq])

theorem byDuty_keeps {z0 : State} (s : State) (d : Nat) (f : State → State) (h_f : ∀ t, Keeps z0 t → Keeps z0 (f t)) (h_s : Keeps z0 s) : Keeps z0 (State.byDuty s d f) := by
  unfold State.byDuty
  try dsimp only
  with_reducible repeat' (first | assumption | refine Keeps.ite ?_ ?_ | apply h_f)

theorem dutyTry_keeps {z0 : State} (s : State) (d : Nat) (x : Option State) (h_x : KeepsO z0 x) (h_s : Keeps z0 s) : KeepsO z0 (State.dutyTry s d x) := by
  unfold State.dutyTry
  try dsimp only
  with_reducible repeat' (first | assumption | exact KeepsO.none | refine KeepsO.ite ?_ ?_)

theorem meterAdd_keeps {z0 : State} (s : State) (t kind n : Nat) (h_s : Keeps z0 s) : Keeps z0 (State.meterAdd s t kind n) := by
  unfold State.meterAdd
  try dsimp only
  with_reducible repeat' (first | assumption | dsimp only [Keeps.lit_eq])

/-! Owner -/

theorem holdReq_keeps {z0 : State} (s : State) (r : Req) (comp : Nat) (order4 : Bool) (h_s : Keeps z0 s) : Keeps z0 (State.holdReq s r comp order4) := by
  unfold State.holdReq
  try dsimp only
  with_reducible repeat' (first | assumption | refine Keeps.ite ?_ ?_ | apply refuse_keeps | dsimp only [Keeps.lit_eq])

theorem entomb_keeps {z0 : State} (s : State) (r : Req) (t : Tombstone) (h_s : Keeps z0 s) : Keeps z0 (State.entomb s r t) := by
  unfold State.entomb
  try dsimp only
  with_reducible repeat' (first | assumption | refine Keeps.fold _ ?_ (fun _ _ _ => ?_) | apply refuse_keeps | apply complete_keeps | dsimp only [Keeps.lit_eq] | split)

theorem gate_keeps {z0 : State} (s : State) (r : Req) (write create needs : Bool) (span : Nat) (bad : List (Nat × Nat × Bool)) (next : State → State) (h_next : ∀ t, Keeps z0 t → Keeps z0 (next t)) (h_s : Keeps z0 s) : Keeps z0 (State.gate s r write create needs span bad next) := by
  unfold State.gate
  try dsimp only
  with_reducible repeat' (first | assumption | refine Keeps.ite ?_ ?_ | apply entomb_keeps | apply refuse_keeps | apply holdReq_keeps | apply h_next | split)

/-! Commit -/

theorem takeFrame_keeps {z0 : State} (s : State) (sh : Shape) (seqId layer top : Nat) (q : Seq) (t : Touch) (h_s : Keeps z0 s) : KeepsP z0 (State.takeFrame s sh seqId layer top q t) := by
  unfold State.takeFrame
  try dsimp only
  with_reducible repeat' (first | assumption | exact KeepsP.none | refine Keeps.ite ?_ ?_ | refine KeepsP.some ?_ | apply zeroFrame_keeps | apply setPolder_keeps | dsimp only [Keeps.lit_eq] | split)

theorem takeFrames_keeps {z0 : State} (s : State) (sh : Shape) (seqId layer top : Nat) (q : Seq) (l : List Touch) (h_s : Keeps z0 s) : KeepsP z0 (State.takeFrames s sh seqId layer top q l) := by
  induction l generalizing s sh seqId layer top q with
  | nil =>
    unfold State.takeFrames
    try dsimp only
    with_reducible repeat' (first | assumption | refine KeepsP.some ?_)
  | cons x l ih =>
    unfold State.takeFrames
    try dsimp only
    with_reducible repeat' (first | assumption | exact KeepsP.none | refine KeepsP.some ?_ | apply takeFrame_keeps | apply ih | refine Keeps.ofP' (by assumption) ?_ | split)

theorem enring_keeps {z0 : State} (s : State) (p : Nat) (e : RingEntry) (h_s : Keeps z0 s) : Keeps z0 (State.enring s p e) := by
  unfold State.enring
  try dsimp only
  with_reducible repeat' (first | assumption | apply setPolder_keeps)

theorem place_keeps {z0 : State} (s : State) (tag : Nat) (q : Request) (e : Seq) (sh : Shape) (project : Bool) (h_s : Keeps z0 s) : Keeps z0 (State.place s tag q e sh project) := by
  unfold State.place
  try dsimp only
  with_reducible repeat' (first | assumption | refine Keeps.fold _ ?_ (fun _ _ _ => ?_) | apply enring_keeps | apply setReq_keeps)

theorem link_keeps {z0 : State} (s : State) (q : Request) (h_s : Keeps z0 s) : Keeps z0 (State.link s q) := by
  unfold State.link
  try dsimp only
  with_reducible repeat' (first | assumption | refine Keeps.ite ?_ ?_ | refine Keeps.fold _ ?_ (fun _ _ _ => ?_) | apply putFrame_keeps | apply chargeBy_keeps | apply writeStack_keeps | apply setPolder_keeps | apply setSeq_keeps | dsimp only [Keeps.lit_eq] | split)

theorem meterRequest_keeps {z0 : State} (s : State) (q : Request) (h_s : Keeps z0 s) : Keeps z0 (State.meterRequest s q) := by
  unfold State.meterRequest
  try dsimp only
  with_reducible repeat' (first | assumption | refine Keeps.ite ?_ ?_ | apply meterAdd_keeps)

theorem replySegments_keeps {z0 : State} (s : State) (tag : Nat) (q : Request) (sh : Shape) (parts : List (List Nat)) (h_s : Keeps z0 s) : Keeps z0 (State.replySegments s tag q sh parts) := by
  unfold State.replySegments
  try dsimp only
  with_reducible repeat' (first | assumption | refine Keeps.fold _ ?_ (fun _ _ _ => ?_) | apply drawId_keeps | apply sourceMessage_keeps | dsimp only [Keeps.lit_eq] | split)

theorem commit_keeps {z0 : State} (s : State) (tag : Nat) (q : Request) (h_s : Keeps z0 s) : Keeps z0 (State.commit s tag q) := by
  unfold State.commit
  try dsimp only
  with_reducible repeat' (first | assumption | refine Keeps.ite ?_ ?_ | apply link_keeps | apply meterRequest_keeps | apply replySegments_keeps | apply complete_keeps | dsimp only [Keeps.lit_eq])

theorem sendRecord_keeps {z0 : State} (s : State) (n : Nat) (retry : Bool) (h_s : Keeps z0 s) : Keeps z0 (State.sendRecord s n retry) := by
  unfold State.sendRecord
  try dsimp only
  with_reducible repeat' (first | assumption | refine KeepsF.ite ?_ ?_ | apply drawId_keeps | apply sendMirror_keeps | dsimp only [Keeps.lit_eq] | split)

theorem sendWindow_keeps {z0 : State} (s : State) (h_s : Keeps z0 s) : Keeps z0 (State.sendWindow s) := by
  unfold State.sendWindow
  try dsimp only
  with_reducible repeat' (first | assumption | refine Keeps.ite ?_ ?_ | refine Keeps.fold _ ?_ (fun _ _ _ => ?_) | apply bumpBy_keeps | apply sendRecord_keeps | dsimp only [Keeps.lit_eq])

theorem mirror_keeps {z0 : State} (s : State) (tag : Nat) (q : Request) (recs : List (List Nat)) (h_s : Keeps z0 s) : Keeps z0 (State.mirror s tag q recs) := by
  unfold State.mirror
  try dsimp only
  with_reducible repeat' (first | assumption | apply setReq_keeps | apply sendWindow_keeps | dsimp only [Keeps.lit_eq])

theorem fail_keeps {z0 : State} (s : State) (tag : Nat) (q : Request) (a : Answer) (h_s : Keeps z0 s) : Keeps z0 (State.fail s tag q a) := by
  unfold State.fail
  try dsimp only
  with_reducible repeat' (first | assumption | apply releaseHeld_keeps | apply complete_keeps)

theorem finishOk_keeps {z0 : State} (s : State) (tag : Nat) (q : Request) (h_s : Keeps z0 s) : Keeps z0 (State.finishOk s tag q) := by
  unfold State.finishOk
  try dsimp only
  with_reducible repeat' (first | assumption | refine Keeps.ite ?_ ?_ | apply fail_keeps | apply mirror_keeps | apply commit_keeps)

theorem settle_keeps {z0 : State} (s : State) (tag : Nat) (h_s : Keeps z0 s) : Keeps z0 (State.settle s tag) := by
  unfold State.settle
  try dsimp only
  with_reducible repeat' (first | assumption | refine Keeps.ite ?_ ?_ | apply fail_keeps | apply setReq_keeps | apply finishOk_keeps | split)

/-! Seal -/

theorem draw_keeps {z0 : State} (s : State) (words : Nat) (h_s : Keeps z0 s) : Keeps z0 (State.draw s words).1 := by
  unfold State.draw
  try dsimp only
  with_reducible repeat' (first | assumption | dsimp only [Keeps.lit_eq])

theorem toHostMemory_keeps {z0 : State} (s : State) (l : List Out) (h_s : Keeps z0 s) : Keeps z0 (State.toHostMemory s l) := by
  unfold State.toHostMemory
  try dsimp only
  with_reducible repeat' (first | assumption | refine Keeps.ite ?_ ?_ | dsimp only [Keeps.lit_eq])

theorem sealRun_keeps {z0 : State} (s : State) (n block : Nat) (bs : List Nat) (h_s : Keeps z0 s) : Keeps z0 (State.sealRun s n block bs).1 := by
  unfold State.sealRun
  try dsimp only
  with_reducible repeat' (first | assumption | apply toHostMemory_keeps | dsimp only [Keeps.lit_eq])

theorem sealShare_keeps {z0 : State} (s : State) (block : Nat) (bs : List Nat) (h_s : Keeps z0 s) : Keeps z0 (State.sealShare s block bs).1 := by
  unfold State.sealShare
  try dsimp only
  with_reducible repeat' (first | assumption | refine KeepsF.fold _ ?_ (fun _ _ _ => ?_) | apply sealRun_keeps)

theorem toFlash_keeps {z0 : State} (s : State) (d : Nat) (extents : List Nat) (bs : List Nat) (h_s : Keeps z0 s) : Keeps z0 (State.toFlash s d extents bs) := by
  unfold State.toFlash
  try dsimp only
  with_reducible repeat' (first | assumption | dsimp only [Keeps.lit_eq])

/-! Tiers -/

theorem takeSpill_keeps {z0 : State} (s : State) (rec : List Nat) (h_s : Keeps z0 s) : KeepsP z0 (State.takeSpill s rec) := by
  unfold State.takeSpill
  try dsimp only
  with_reducible repeat' (first | assumption | exact KeepsP.none | refine KeepsP.some ?_ | apply sealRun_keeps | dsimp only [Keeps.lit_eq] | split)

theorem freeT2_keeps {z0 : State} (s : State) (seqId : Nat) (e : Seq) (h_s : Keeps z0 s) : Keeps z0 (State.freeT2 s seqId e) := by
  unfold State.freeT2
  try dsimp only
  with_reducible repeat' (first | assumption | apply chargeBy_keeps | dsimp only [Keeps.lit_eq])

theorem takeExtents_keeps {z0 : State} (s : State) (d n : Nat) (h_s : Keeps z0 s) : Keeps z0 (State.takeExtents s d n).1 := by
  unfold State.takeExtents
  try dsimp only
  with_reducible repeat' (first | assumption | refine Keeps.fold _ ?_ (fun _ _ _ => ?_) | apply work_keeps | apply setDrive_keeps | dsimp only [Keeps.lit_eq])

theorem giveExtents_keeps {z0 : State} (s : State) (d : Nat) (l : List Nat) (h_s : Keeps z0 s) : Keeps z0 (State.giveExtents s d l) := by
  unfold State.giveExtents
  try dsimp only
  with_reducible repeat' (first | assumption | apply setDrive_keeps)

theorem freeT3_keeps {z0 : State} (s : State) (seqId : Nat) (e : Seq) (h_s : Keeps z0 s) : Keeps z0 (State.freeT3 s seqId e) := by
  unfold State.freeT3
  try dsimp only
  with_reducible repeat' (first | assumption | apply setDrive_keeps | apply giveExtents_keeps | apply chargeBy_keeps)

theorem restoreFrame_keeps {z0 : State} (s : State) (tag gen : Nat) (e : Seq) (sh : Shape) (key : Nat) (x : Stored) (h_s : Keeps z0 s) : KeepsP z0 (State.restoreFrame s tag gen e sh key x) := by
  unfold State.restoreFrame
  try dsimp only
  with_reducible repeat' (first | assumption | exact KeepsP.none | refine KeepsP.some ?_ | apply setPolder_keeps | dsimp only [Keeps.lit_eq] | split)

theorem restoreFrames_keeps {z0 : State} (s : State) (tag gen : Nat) (e : Seq) (sh : Shape) (l : Map Stored) (h_s : Keeps z0 s) : KeepsP z0 (State.restoreFrames s tag gen e sh l) := by
  induction l generalizing s tag gen e sh with
  | nil =>
    unfold State.restoreFrames
    try dsimp only
    with_reducible repeat' (first | assumption | refine KeepsP.some ?_)
  | cons x l ih =>
    unfold State.restoreFrames
    try dsimp only
    with_reducible repeat' (first | assumption | exact KeepsP.none | refine KeepsP.some ?_ | apply restoreFrame_keeps | apply ih | refine Keeps.ofP' (by assumption) ?_ | split)

theorem recordRead_keeps {z0 : State} (s : State) (e : Seq) (x : Stored) (h_s : Keeps z0 s) : Keeps z0 (State.recordRead s e x) := by
  unfold State.recordRead
  try dsimp only
  with_reducible repeat' (first | assumption | refine Keeps.ite ?_ ?_ | apply work_keeps)

theorem startRestore_keeps {z0 : State} (s : State) (seqId : Nat) (mover : Option (Nat × Nat)) (h_s : Keeps z0 s) : KeepsE z0 (State.startRestore s seqId mover) := by
  unfold State.startRestore
  try dsimp only
  with_reducible repeat' (first | assumption | exact KeepsE.error | refine KeepsE.ite ?_ ?_ | refine KeepsE.ok ?_ | refine Keeps.fold _ ?_ (fun _ _ _ => ?_) | apply restoreFrames_keeps | apply recordRead_keeps | apply addRef_keeps | apply chargeBy_keeps | apply setSeq_keeps | refine Keeps.ofP' (by assumption) ?_ | split)

/-! Attend -/

theorem busyAway_keeps {z0 : State} (s : State) (seqId flags : Nat) (h_s : Keeps z0 s) : Keeps z0 (State.busyAway s seqId flags).1 := by
  unfold State.busyAway
  try dsimp only
  with_reducible repeat' (first | assumption | refine KeepsF.ite ?_ ?_ | apply startRestore_keeps | refine Keeps.ofE (by assumption) ?_ | split)

theorem resourceChecks_keeps {z0 : State} (s : State) (q : Request) (e : Seq) (h_s : Keeps z0 s) : KeepsR z0 (State.resourceChecks s q e) := by
  unfold State.resourceChecks
  try dsimp only
  with_reducible repeat' (first | assumption | refine KeepsR.ok ?_ | refine KeepsR.error ?_ | refine KeepsR.ite ?_ ?_ | apply busyAway_keeps | apply chargeBy_keeps | split)

theorem enter_keeps {z0 : State} (s : State) (r : Req) (set : Request → Request) (h_s : Keeps z0 s) : Keeps z0 (State.enter s r set) := by
  unfold State.enter
  try dsimp only
  with_reducible repeat' (first | assumption | refine Keeps.ite ?_ ?_ | apply refuse_keeps | apply setReq_keeps | apply resourceChecks_keeps | apply busyAway_keeps | refine take_keeps (by assumption) ?_ | refine Keeps.ofROk (by assumption) ?_ | split)

theorem attend_keeps {z0 : State} (s : State) (r : Req) (h_s : Keeps z0 s) : Keeps z0 (State.attend s r) := by
  unfold State.attend
  try dsimp only
  with_reducible repeat' (first | assumption | apply gate_keeps | apply enter_keeps | intro _)

theorem bind_keeps {z0 : State} (s : State) (tag : Nat) (q : Request) (e : Seq) (h_s : Keeps z0 s) : Keeps z0 (State.bind s tag q e) := by
  unfold State.bind
  try dsimp only
  with_reducible repeat' (first | assumption | refine Keeps.ite ?_ ?_ | apply finishOk_keeps | apply fail_keeps | apply takeFrames_keeps | apply chargeBy_keeps | apply place_keeps | refine Keeps.ofP' (by assumption) ?_ | split)

theorem lift_keeps {z0 : State} (s : State) (tag : Nat) (q : Request) (h_s : Keeps z0 s) : Keeps z0 (State.lift s tag q) := by
  unfold State.lift
  try dsimp only
  with_reducible repeat' (first | assumption | refine Keeps.ite ?_ ?_ | apply fail_keeps | apply bind_keeps | apply resourceChecks_keeps | refine Keeps.ofROk (by assumption) ?_ | refine Keeps.ofRErr (by assumption) ?_ | split)

theorem tokenLimit_keeps {z0 : State} (s : State) (tag : Nat) (h_s : Keeps z0 s) : Keeps z0 (State.tokenLimit s tag) := by
  unfold State.tokenLimit
  try dsimp only
  with_reducible repeat' (first | assumption | refine Keeps.ite ?_ ?_ | apply lift_keeps | split)

theorem epochHoldExpiry_keeps {z0 : State} (s : State) (hold : Nat) (h_s : Keeps z0 s) : Keeps z0 (State.epochHoldExpiry s hold) := by
  unfold State.epochHoldExpiry
  try dsimp only
  with_reducible repeat' (first | assumption | refine Keeps.ite ?_ ?_ | apply refuse_keeps | dsimp only [Keeps.lit_eq] | split)

theorem replay_keeps {z0 : State} (s : State) (tag : Nat) (h_s : Keeps z0 s) : Keeps z0 (State.replay s tag) := by
  unfold State.replay
  try dsimp only
  with_reducible repeat' (first | assumption | refine Keeps.ite ?_ ?_ | apply fail_keeps | apply place_keeps | apply bump_keeps | split)

theorem execAttend_keeps {z0 : State} (r : Req) (s : State) (h_s : Keeps z0 s) : KeepsX z0 (execAttend r s) := by
  unfold execAttend
  try dsimp only
  with_reducible repeat' (first | assumption | refine KeepsX.next ?_ | apply attend_keeps)

theorem execAttendTokenLimit_keeps {z0 : State} (tag : Nat) (s : State) (h_s : Keeps z0 s) : KeepsX z0 (execAttendTokenLimit tag s) := by
  unfold execAttendTokenLimit
  try dsimp only
  with_reducible repeat' (first | assumption | refine KeepsX.next ?_ | apply tokenLimit_keeps)

theorem execEpochHoldExpiry_keeps {z0 : State} (tag : Nat) (s : State) (h_s : Keeps z0 s) : KeepsX z0 (execEpochHoldExpiry tag s) := by
  unfold execEpochHoldExpiry
  try dsimp only
  with_reducible repeat' (first | assumption | refine KeepsX.next ?_ | apply epochHoldExpiry_keeps)

theorem execReplay_keeps {z0 : State} (tag : Nat) (s : State) (h_s : Keeps z0 s) : KeepsX z0 (execReplay tag s) := by
  unfold execReplay
  try dsimp only
  with_reducible repeat' (first | assumption | refine KeepsX.next ?_ | apply replay_keeps)

theorem execOrderingFence_keeps {z0 : State} (r : Ring) (slot cookie : Nat) (s : State) (h_s : Keeps z0 s) : KeepsX z0 (execOrderingFence r slot cookie s) := by
  unfold execOrderingFence
  try dsimp only
  with_reducible repeat' (first | assumption | refine KeepsX.next ?_ | apply emit_keeps | apply bump_keeps)

/-! Prefill -/

theorem append_keeps {z0 : State} (s : State) (r : Req) (h_s : Keeps z0 s) : Keeps z0 (State.append s r) := by
  unfold State.append
  try dsimp only
  with_reducible repeat' (first | assumption | apply gate_keeps | apply enter_keeps | intro _)

theorem prefill_keeps {z0 : State} (s : State) (r : Req) (h_s : Keeps z0 s) : Keeps z0 (State.prefill s r) := by
  unfold State.prefill
  try dsimp only
  with_reducible repeat' (first | assumption | refine Keeps.ite ?_ ?_ | apply gate_keeps | apply refuse_keeps | apply setReq_keeps | refine take_keeps (by assumption) ?_ | intro _ | dsimp only [Keeps.lit_eq] | split)

theorem writeBody_keeps {z0 : State} (s : State) (frames : List Nat) (off : Nat) (bs : List Nat) (h_s : Keeps z0 s) : Keeps z0 (State.writeBody s frames off bs) := by
  unfold State.writeBody
  try dsimp only
  with_reducible repeat' (first | assumption | refine Keeps.fold _ ?_ (fun _ _ _ => ?_) | apply writeStack_keeps)

theorem bodyPresent_keeps {z0 : State} (s : State) (tag : Nat) (q : Request) (len : Nat) (h_s : Keeps z0 s) : Keeps z0 (State.bodyPresent s tag q len) := by
  unfold State.bodyPresent
  try dsimp only
  with_reducible repeat' (first | assumption | refine Keeps.ite ?_ ?_ | apply fail_keeps | apply setReq_keeps | apply resourceChecks_keeps | refine Keeps.ofROk (by assumption) ?_ | refine Keeps.ofRErr (by assumption) ?_ | split)

theorem bodySegment_keeps {z0 : State} (s : State) (key source off len : Nat) (bytes : List Nat) (reserved : Bool) (h_s : Keeps z0 s) : Keeps z0 (State.bodySegment s key source off len bytes reserved) := by
  unfold State.bodySegment
  try dsimp only
  with_reducible repeat' (first | assumption | refine Keeps.ite ?_ ?_ | apply fail_keeps | apply writeBody_keeps | apply bodyPresent_keeps | dsimp only [Keeps.lit_eq] | split)

theorem bodyRead_keeps {z0 : State} (s : State) (tag : Nat) (bytes : List Nat) (h_s : Keeps z0 s) : Keeps z0 (State.bodyRead s tag bytes) := by
  unfold State.bodyRead
  try dsimp only
  with_reducible repeat' (first | assumption | refine Keeps.ite ?_ ?_ | apply work_keeps | apply fail_keeps | apply writeBody_keeps | apply bodyPresent_keeps | dsimp only [Keeps.lit_eq] | split)

theorem bodyTimeout_keeps {z0 : State} (s : State) (tag : Nat) (h_s : Keeps z0 s) : Keeps z0 (State.bodyTimeout s tag) := by
  unfold State.bodyTimeout
  try dsimp only
  with_reducible repeat' (first | assumption | refine Keeps.ite ?_ ?_ | apply fail_keeps | split)

theorem tokenBase_keeps {z0 : State} (s : State) (tag : Nat) (h_s : Keeps z0 s) : Keeps z0 (State.tokenBase s tag) := by
  unfold State.tokenBase
  try dsimp only
  with_reducible repeat' (first | assumption | refine Keeps.ite ?_ ?_ | apply lift_keeps | split)

theorem execPrefill_keeps {z0 : State} (r : Req) (s : State) (h_s : Keeps z0 s) : KeepsX z0 (execPrefill r s) := by
  unfold execPrefill
  try dsimp only
  with_reducible repeat' (first | assumption | refine KeepsX.next ?_ | apply prefill_keeps)

theorem execAppend_keeps {z0 : State} (r : Req) (s : State) (h_s : Keeps z0 s) : KeepsX z0 (execAppend r s) := by
  unfold execAppend
  try dsimp only
  with_reducible repeat' (first | assumption | refine KeepsX.next ?_ | apply append_keeps)

theorem execTokenBase_keeps {z0 : State} (tag : Nat) (s : State) (h_s : Keeps z0 s) : KeepsX z0 (execTokenBase tag s) := by
  unfold execTokenBase
  try dsimp only
  with_reducible repeat' (first | assumption | refine KeepsX.next ?_ | apply tokenBase_keeps)

theorem execBodySegment_keeps {z0 : State} (key source off len : Nat) (bytes : List Nat) (reserved : Bool) (s : State) (h_s : Keeps z0 s) : KeepsX z0 (execBodySegment key source off len bytes reserved s) := by
  unfold execBodySegment
  try dsimp only
  with_reducible repeat' (first | assumption | refine KeepsX.next ?_ | apply bodySegment_keeps)

theorem execBodyTimeout_keeps {z0 : State} (tag : Nat) (s : State) (h_s : Keeps z0 s) : KeepsX z0 (execBodyTimeout tag s) := by
  unfold execBodyTimeout
  try dsimp only
  with_reducible repeat' (first | assumption | refine KeepsX.next ?_ | apply bodyTimeout_keeps)

theorem execRequestBodyRead_keeps {z0 : State} (tag : Nat) (bytes : List Nat) (s : State) (h_s : Keeps z0 s) : KeepsX z0 (execRequestBodyRead tag bytes s) := by
  unfold execRequestBodyRead
  try dsimp only
  with_reducible repeat' (first | assumption | refine KeepsX.next ?_ | apply bodyRead_keeps)

/-! Ladder -/

theorem onLadder_keeps {z0 : State} (s : State) (f : Nat) (x : Frame) (h : Health) (seqId : Nat) (external : Bool) (h_s : Keeps z0 s) : Keeps z0 (State.onLadder s f x h seqId external) := by
  unfold State.onLadder
  try dsimp only
  with_reducible repeat' (first | assumption | apply bump_keeps | apply arrive_keeps | apply logEvent_keeps | dsimp only [Keeps.lit_eq])

theorem checkFailed_keeps {z0 : State} (s : State) (f : Nat) (seqId : Option Nat) (external : Bool) (h_s : Keeps z0 s) : Keeps z0 (State.checkFailed s f seqId external) := by
  unfold State.checkFailed
  try dsimp only
  with_reducible repeat' (first | assumption | refine Keeps.ite ?_ ?_ | apply onLadder_keeps | split)

theorem besideLadder_keeps {z0 : State} (s : State) (f : Nat) (seqId : Option Nat) (external : Bool) (h_s : Keeps z0 s) : Keeps z0 (State.besideLadder s f seqId external) := by
  unfold State.besideLadder
  try dsimp only
  with_reducible repeat' (first | assumption | refine Keeps.ite ?_ ?_ | apply onLadder_keeps | split)

theorem taint_keeps {z0 : State} (s : State) (p l : Nat) (frames : List Nat) (detail : Nat) (h_s : Keeps z0 s) : Keeps z0 (State.taint s p l frames detail) := by
  unfold State.taint
  try dsimp only
  with_reducible repeat' (first | assumption | apply setPolder_keeps | split)

theorem unitRead_keeps {z0 : State} (s : State) (p l a n : Nat) (upset tainting : Bool) (h_s : Keeps z0 s) : Keeps z0 (State.unitRead s p l a n upset tainting).1 := by
  unfold State.unitRead
  try dsimp only
  with_reducible repeat' (first | assumption | refine Keeps.ite ?_ ?_ | refine KeepsF.ite ?_ ?_ | apply taint_keeps | apply besideLadder_keeps | apply checkFailed_keeps)

/-! Sequences -/

theorem copyPage_keeps {z0 : State} (s : State) (sh : Shape) (src dst v : Nat) (h_s : Keeps z0 s) : Keeps z0 (State.copyPage s sh src dst v) := by
  unfold State.copyPage
  try dsimp only
  with_reducible repeat' (first | assumption | refine Keeps.fold _ ?_ (fun _ _ _ => ?_) | apply writeStack_keeps | apply pageAccess_keeps | apply putFrame_keeps | apply bump_keeps | split)

theorem copySources_keeps {z0 : State} (s : State) (seqId : Nat) (sh : Shape) (ks : List Nat) (h_s : Keeps z0 s) : Keeps z0 (State.copySources s seqId sh ks).2 := by
  unfold State.copySources
  try dsimp only
  with_reducible repeat' (first | assumption | refine Keeps.ite ?_ ?_ | refine Keeps.fold _ ?_ (fun _ _ _ => ?_) | apply checkFailed_keeps)

theorem takeCopies_keeps {z0 : State} (s : State) (e : Seq) (sh : Shape) (l : List Nat) (h_s : Keeps z0 s) : KeepsP z0 (State.takeCopies s e sh l) := by
  induction l generalizing s e sh with
  | nil =>
    unfold State.takeCopies
    try dsimp only
    with_reducible repeat' (first | assumption | refine KeepsP.some ?_)
  | cons x l ih =>
    unfold State.takeCopies
    try dsimp only
    with_reducible repeat' (first | assumption | exact KeepsP.none | refine KeepsP.some ?_ | apply ih | refine Keeps.ofP' (by assumption) ?_ | dsimp only [Keeps.lit_eq] | split)

theorem finishWide_keeps {z0 : State} (s : State) (tag : Nat) (q : Request) (commit : State → Nat → Request → State) (h_commit : ∀ t y z, Keeps z0 t → Keeps z0 (commit t y z)) (h_s : Keeps z0 s) : Keeps z0 (State.finishWide s tag q commit) := by
  unfold State.finishWide
  try dsimp only
  with_reducible repeat' (first | assumption | refine Keeps.ite ?_ ?_ | apply fail_keeps | apply mirror_keeps | apply h_commit)

theorem commitFork_keeps {z0 : State} (s : State) (tag : Nat) (q : Request) (h_s : Keeps z0 s) : Keeps z0 (State.commitFork s tag q) := by
  unfold State.commitFork
  try dsimp only
  with_reducible repeat' (first | assumption | refine Keeps.fold _ ?_ (fun _ _ _ => ?_) | apply fail_keeps | apply copyPage_keeps | apply chargeBy_keeps | apply addRef_keeps | apply setSeq_keeps | apply complete_keeps | split)

theorem forkTurn_keeps {z0 : State} (s : State) (tag : Nat) (q : Request) (e : Seq) (h_s : Keeps z0 s) : KeepsE z0 (State.forkTurn s tag q e) := by
  unfold State.forkTurn
  try dsimp only
  with_reducible repeat' (first | assumption | exact KeepsE.error | refine KeepsE.ite ?_ ?_ | refine KeepsE.ok ?_ | apply copySources_keeps | apply takeCopies_keeps | apply chargeBy_keeps | apply setReq_keeps | apply finishWide_keeps | apply commitFork_keeps | refine Keeps.ofP' (by assumption) ?_ | split)

theorem commitCreate_keeps {z0 : State} (s : State) (tag : Nat) (q : Request) (h_s : Keeps z0 s) : Keeps z0 (State.commitCreate s tag q) := by
  unfold State.commitCreate
  try dsimp only
  with_reducible repeat' (first | assumption | apply setSeq_keeps | apply complete_keeps)

theorem createTurn_keeps {z0 : State} (s : State) (tag : Nat) (q : Request) (h_s : Keeps z0 s) : KeepsE z0 (State.createTurn s tag q) := by
  unfold State.createTurn
  try dsimp only
  with_reducible repeat' (first | assumption | exact KeepsE.error | refine KeepsE.ite ?_ ?_ | refine KeepsE.ok ?_ | apply finishWide_keeps | apply commitCreate_keeps)

theorem dropAll_keeps {z0 : State} (s : State) (seqId : Nat) (e : Seq) (h_s : Keeps z0 s) : Keeps z0 (State.dropAll s seqId e) := by
  unfold State.dropAll
  try dsimp only
  with_reducible repeat' (first | assumption | refine Keeps.ite ?_ ?_ | apply freeT2_keeps | apply dropRefs_keeps | apply freeT3_keeps | dsimp only [Keeps.lit_eq])

theorem commitRelease_keeps {z0 : State} (s : State) (tag : Nat) (q : Request) (h_s : Keeps z0 s) : Keeps z0 (State.commitRelease s tag q) := by
  unfold State.commitRelease
  try dsimp only
  with_reducible repeat' (first | assumption | apply complete_keeps | apply dropAll_keeps | split)

theorem truncate_keeps {z0 : State} (s : State) (seqId : Nat) (e : Seq) (sh : Shape) (p : Nat) (copies : List (Nat × Nat × Nat)) (h_s : Keeps z0 s) : Keeps z0 (State.truncate s seqId e sh p copies) := by
  unfold State.truncate
  try dsimp only
  with_reducible repeat' (first | assumption | apply setSeq_keeps | apply dropRefs_keeps)

theorem commitTruncate_keeps {z0 : State} (s : State) (tag : Nat) (q : Request) (h_s : Keeps z0 s) : Keeps z0 (State.commitTruncate s tag q) := by
  unfold State.commitTruncate
  try dsimp only
  with_reducible repeat' (first | assumption | refine Keeps.fold _ ?_ (fun _ _ _ => ?_) | apply fail_keeps | apply copyPage_keeps | apply chargeBy_keeps | apply truncate_keeps | apply complete_keeps | split)

theorem releaseTurn_keeps {z0 : State} (s : State) (tag : Nat) (q : Request) (e : Seq) (h_s : Keeps z0 s) : KeepsE z0 (State.releaseTurn s tag q e) := by
  unfold State.releaseTurn
  try dsimp only
  with_reducible repeat' (first | assumption | exact KeepsE.error | refine KeepsE.ite ?_ ?_ | refine KeepsE.ok ?_ | apply finishWide_keeps | apply commitRelease_keeps | apply copySources_keeps | apply takeCopies_keeps | apply chargeBy_keeps | apply setReq_keeps | apply commitTruncate_keeps | refine Keeps.ofP' (by assumption) ?_ | split)

theorem startSweep_keeps {z0 : State} (s : State) (all : Bool) (h_s : Keeps z0 s) : Keeps z0 (State.startSweep s all) := by
  unfold State.startSweep
  try dsimp only
  with_reducible repeat' (first | assumption | dsimp only [Keeps.lit_eq])

theorem commitPin_keeps {z0 : State} (s : State) (tag : Nat) (q : Request) (h_s : Keeps z0 s) : Keeps z0 (State.commitPin s tag q) := by
  unfold State.commitPin
  try dsimp only
  with_reducible repeat' (first | assumption | refine Keeps.ite ?_ ?_ | refine Keeps.fold _ ?_ (fun _ _ _ => ?_) | apply fail_keeps | apply startSweep_keeps | apply complete_keeps | apply recount_keeps | dsimp only [Keeps.lit_eq] | split)

theorem pinTurn_keeps {z0 : State} (s : State) (tag : Nat) (q : Request) (e : Seq) (h_s : Keeps z0 s) : KeepsE z0 (State.pinTurn s tag q e) := by
  unfold State.pinTurn
  try dsimp only
  with_reducible repeat' (first | assumption | exact KeepsE.error | refine KeepsE.ite ?_ ?_ | refine KeepsE.ok ?_ | apply finishWide_keeps | apply commitPin_keeps)

/-! Moves -/

theorem failReads_keeps {z0 : State} (s : State) (l : List Nat) (seqId : Option Nat) (h_s : Keeps z0 s) : Keeps z0 (State.failReads s l seqId) := by
  unfold State.failReads
  try dsimp only
  with_reducible repeat' (first | assumption | refine Keeps.fold _ ?_ (fun _ _ _ => ?_) | apply checkFailed_keeps)

theorem startSpill_keeps {z0 : State} (s : State) (seqId : Nat) (e : Seq) (mover : Option Nat) (h_s : Keeps z0 s) : KeepsE z0 (State.startSpill s seqId e mover) := by
  unfold State.startSpill
  try dsimp only
  with_reducible repeat' (first | assumption | exact KeepsE.error | refine KeepsE.ite ?_ ?_ | refine KeepsE.ok ?_ | refine Keeps.fold _ ?_ (fun _ _ _ => ?_) | apply pageAccess_keeps | apply work_keeps | apply chargeBy_keeps | apply setSeq_keeps)

theorem flushPage_keeps {z0 : State} (s : State) (d : Nat) (e : Seq) (sh : Shape) (l : Nat × Leaf) (h_s : Keeps z0 s) : Keeps z0 (State.flushPage s d e sh l) := by
  unfold State.flushPage
  try dsimp only
  with_reducible repeat' (first | assumption | refine Keeps.ite ?_ ?_ | apply pageAccess_keeps | apply work_keeps)

theorem startFlush_keeps {z0 : State} (s : State) (seqId : Nat) (e : Seq) (mover : Option Nat) (h_s : Keeps z0 s) : KeepsE z0 (State.startFlush s seqId e mover) := by
  unfold State.startFlush
  try dsimp only
  with_reducible repeat' (first | assumption | exact KeepsE.error | refine KeepsE.ite ?_ ?_ | refine KeepsE.ok ?_ | refine Keeps.fold _ ?_ (fun _ _ _ => ?_) | apply chargeBy_keeps | apply takeExtents_keeps | apply flushPage_keeps | apply setSeq_keeps | dsimp only [Keeps.lit_eq] | split)

theorem countCoded_keeps {z0 : State} (s : State) (k : Nat) (sh : Shape) (h_s : Keeps z0 s) : Keeps z0 (State.countCoded s k sh) := by
  unfold State.countCoded
  try dsimp only
  with_reducible repeat' (first | assumption | apply bumpBy_keeps)

theorem spillPage_keeps {z0 : State} (s : State) (sh : Shape) (e : Seq) (blocks : Nat) (m : Nat × Nat) (hdr : PageHdr) (r : List Nat) (h : Keeps z0 s) : KeepsP z0 (s.spillPage sh e blocks m hdr r) := by
  unfold State.spillPage
  split
  · exact KeepsP.none
  · exact KeepsP.some (bump_keeps _ _ (countCoded_keeps _ _ _ (Keeps.ofP' (by assumption) (takeSpill_keeps _ _ h))))

theorem spillOne_keeps {z0 : State} (sh : Shape) (acc : Option (State × Seq × Nat)) (m : Nat × Nat) (h : KeepsP z0 acc) : KeepsP z0 (spillOne sh acc m) := by
  unfold spillOne
  split
  · exact KeepsP.none
  · split
    · exact KeepsP.none
    · exact spillPage_keeps _ _ _ _ _ _ _ h.get

theorem commitSpill_keeps {z0 : State} (s : State) (seqId : Nat) (e : Seq) (h_s : Keeps z0 s) : KeepsP z0 (State.commitSpill s seqId e) := by
  unfold State.commitSpill
  dsimp only
  generalize List.filter _ e.moving = pages
  have g := KeepsP.fold pages (KeepsP.some (p := (s, e, 0)) h_s) (fun a m h => spillOne_keeps (s.shape e.binding) a m h)
  split
  · exact KeepsP.none
  · exact KeepsP.some (dropRefs_keeps _ _ (setSeq_keeps _ _ _ (chargeBy_keeps _ _ _ (Keeps.ofP' (by assumption) g))))

theorem commitFlush_keeps {z0 : State} (s : State) (seqId : Nat) (e : Seq) (lost : List Nat) (h_s : Keeps z0 s) : Keeps z0 (State.commitFlush s seqId e lost).1 := by
  unfold State.commitFlush
  try dsimp only
  with_reducible repeat' (first | assumption | refine Keeps.fold _ ?_ (fun _ _ _ => ?_) | apply countCoded_keeps | apply bumpBy_keeps | apply freeT2_keeps | apply dropRefs_keeps | apply setDrive_keeps | apply giveExtents_keeps | apply chargeBy_keeps | apply setSeq_keeps | apply toFlash_keeps)

theorem commitRestore_keeps {z0 : State} (s : State) (seqId : Nat) (e : Seq) (lost : List Nat) (h_s : Keeps z0 s) : Keeps z0 (State.commitRestore s seqId e lost).1 := by
  unfold State.commitRestore
  try dsimp only
  with_reducible repeat' (first | assumption | refine Keeps.ite ?_ ?_ | refine Keeps.fold _ ?_ (fun _ _ _ => ?_) | refine KeepsF.ite ?_ ?_ | apply putFrame_keeps | apply chargeBy_keeps | apply freeT3_keeps | apply freeT2_keeps | apply bumpBy_keeps | apply setSeq_keeps | apply truncate_keeps | dsimp only [Keeps.lit_eq] | split)

theorem undoMove_keeps {z0 : State} (s : State) (seqId : Nat) (h_s : Keeps z0 s) : Keeps z0 (State.undoMove s seqId) := by
  unfold State.undoMove
  try dsimp only
  with_reducible repeat' (first | assumption | apply chargeBy_keeps | apply setSeq_keeps | apply giveExtents_keeps | apply dropRefs_keeps | dsimp only [Keeps.lit_eq] | split)

theorem commitMove_keeps {z0 : State} (s : State) (seqId : Nat) (e : Seq) (lost : List Nat) (h_s : Keeps z0 s) : Keeps z0 (State.commitMove s seqId e lost) := by
  unfold State.commitMove
  try dsimp only
  with_reducible repeat' (first | assumption | refine Keeps.ite ?_ ?_ | apply complete_keeps | apply commitSpill_keeps | apply bump_keeps | apply bumpBy_keeps | apply undoMove_keeps | apply commitFlush_keeps | apply commitRestore_keeps | refine Keeps.ofP' (by assumption) ?_ | split)

theorem commitMoved_keeps {z0 : State} (s : State) (_tag : Nat) (q : Request) (h_s : Keeps z0 s) : Keeps z0 (State.commitMoved s _tag q) := by
  unfold State.commitMoved
  try dsimp only
  with_reducible repeat' (first | assumption | apply commitMove_keeps | split)

theorem moveFailed_keeps {z0 : State} (s : State) (seqId : Nat) (h_s : Keeps z0 s) : Keeps z0 (State.moveFailed s seqId) := by
  unfold State.moveFailed
  try dsimp only
  with_reducible repeat' (first | assumption | refine Keeps.ite ?_ ?_ | apply undoMove_keeps | apply complete_keeps | dsimp only [Keeps.lit_eq] | split)

theorem moveComplete_keeps {z0 : State} (s : State) (seqId : Nat) (lost : List Nat) (h_s : Keeps z0 s) : Keeps z0 (State.moveComplete s seqId lost) := by
  unfold State.moveComplete
  try dsimp only
  with_reducible repeat' (first | assumption | refine Keeps.ite ?_ ?_ | apply moveFailed_keeps | apply failReads_keeps | apply commitMove_keeps | apply undoMove_keeps | apply complete_keeps | apply setReq_keeps | apply finishWide_keeps | apply commitMoved_keeps | split)

theorem execMoveComplete_keeps {z0 : State} (seqId : Nat) (lost : List Nat) (s : State) (h_s : Keeps z0 s) : KeepsX z0 (execMoveComplete seqId lost s) := by
  unfold execMoveComplete
  try dsimp only
  with_reducible repeat' (first | assumption | refine KeepsX.next ?_ | apply moveComplete_keeps)

theorem execMoveFailed_keeps {z0 : State} (seqId : Nat) (s : State) (h_s : Keeps z0 s) : KeepsX z0 (execMoveFailed seqId s) := by
  unfold execMoveFailed
  try dsimp only
  with_reducible repeat' (first | assumption | refine KeepsX.next ?_ | apply moveFailed_keeps)

theorem endAny_keeps {z0 : State} (s : State) (tag : Nat) (a : Answer) (h_s : Keeps z0 s) : Keeps z0 (State.endAny s tag a) := by
  unfold State.endAny
  try dsimp only
  with_reducible repeat' (first | assumption | refine Keeps.ite ?_ ?_ | apply undoMove_keeps | apply endRequest_keeps | split)

theorem endEvery_keeps {z0 : State} (s : State) (test : Nat → Request → Bool) (a : Answer) (h_s : Keeps z0 s) : Keeps z0 (State.endEvery s test a) := by
  unfold State.endEvery
  try dsimp only
  with_reducible repeat' (first | assumption | refine Keeps.fold _ ?_ (fun _ _ _ => ?_) | apply endAny_keeps)

theorem moveTurn_keeps {z0 : State} (s : State) (tag : Nat) (q : Request) (e : Seq) (h_s : Keeps z0 s) : KeepsE z0 (State.moveTurn s tag q e) := by
  unfold State.moveTurn
  try dsimp only
  with_reducible repeat' (first | assumption | exact KeepsE.error | refine KeepsE.ite ?_ ?_ | refine KeepsE.ok ?_ | apply finishWide_keeps | apply complete_keeps | apply setReq_keeps | apply startSpill_keeps | apply startFlush_keeps | apply startRestore_keeps | refine Keeps.ofE (by assumption) ?_ | intro _ | split)

theorem commitClaimed_keeps {z0 : State} (s : State) (tag : Nat) (q : Request) (h_s : Keeps z0 s) : Keeps z0 (State.commitClaimed s tag q) := by
  unfold State.commitClaimed
  try dsimp only
  with_reducible repeat' (first | assumption | refine Keeps.ite ?_ ?_ | apply commit_keeps | apply commitCreate_keeps | apply commitFork_keeps | apply commitTruncate_keeps | apply commitRelease_keeps | apply commitPin_keeps | apply commitMoved_keeps | apply complete_keeps | apply fail_keeps | split)

theorem commitRecords_keeps {z0 : State} (s : State) (first n : Nat) (h_s : Keeps z0 s) : Keeps z0 (State.commitRecords s first n) := by
  unfold State.commitRecords
  try dsimp only
  with_reducible repeat' (first | assumption | refine Keeps.fold _ ?_ (fun _ _ _ => ?_) | apply commitClaimed_keeps | split)

theorem giveUpRecords_keeps {z0 : State} (s : State) (h_s : Keeps z0 s) : Keeps z0 (State.giveUpRecords s) := by
  unfold State.giveUpRecords
  try dsimp only
  with_reducible repeat' (first | assumption | apply commitRecords_keeps | dsimp only [Keeps.lit_eq])

theorem wideTurn_keeps {z0 : State} (s : State) (tag : Nat) (q : Request) (h_s : Keeps z0 s) : KeepsE z0 (State.wideTurn s tag q) := by
  unfold State.wideTurn
  try dsimp only
  with_reducible repeat' (first | assumption | exact KeepsE.error | refine KeepsE.ite ?_ ?_ | refine KeepsE.ok ?_ | apply createTurn_keeps | apply finishWide_keeps | apply commitRelease_keeps | apply forkTurn_keeps | apply releaseTurn_keeps | apply pinTurn_keeps | apply moveTurn_keeps | dsimp only [Keeps.lit_eq] | split)

theorem enterWide_keeps {z0 : State} (s : State) (r : Req) (h_s : Keeps z0 s) : Keeps z0 (State.enterWide s r) := by
  unfold State.enterWide
  try dsimp only
  with_reducible repeat' (first | assumption | refine Keeps.ite ?_ ?_ | apply refuse_keeps | apply wideTurn_keeps | apply busyAway_keeps | refine take_keeps (by assumption) ?_ | refine Keeps.ofE (by assumption) ?_ | split)

theorem takeTurn_keeps {z0 : State} (s : State) (tag : Nat) (h_s : Keeps z0 s) : Keeps z0 (State.takeTurn s tag) := by
  unfold State.takeTurn
  try dsimp only
  with_reducible repeat' (first | assumption | refine Keeps.ite ?_ ?_ | apply wideTurn_keeps | apply busyAway_keeps | apply fail_keeps | refine Keeps.ofE (by assumption) ?_ | split)

theorem execSequenceWideTurn_keeps {z0 : State} (tag : Nat) (s : State) (h_s : Keeps z0 s) : KeepsX z0 (execSequenceWideTurn tag s) := by
  unfold execSequenceWideTurn
  try dsimp only
  with_reducible repeat' (first | assumption | refine KeepsX.next ?_ | apply takeTurn_keeps)

theorem fork_keeps {z0 : State} (s : State) (r : Req) (h_s : Keeps z0 s) : Keeps z0 (State.fork s r) := by
  unfold State.fork
  try dsimp only
  with_reducible repeat' (first | assumption | apply gate_keeps | apply enterWide_keeps | intro _)

theorem forkCreate_keeps {z0 : State} (s : State) (r : Req) (h_s : Keeps z0 s) : Keeps z0 (State.forkCreate s r) := by
  unfold State.forkCreate
  try dsimp only
  with_reducible repeat' (first | assumption | refine Keeps.ite ?_ ?_ | apply gate_keeps | apply refuse_keeps | apply enterWide_keeps | intro _)

theorem execFork_keeps {z0 : State} (r : Req) (s : State) (h_s : Keeps z0 s) : KeepsX z0 (execFork r s) := by
  unfold execFork
  try dsimp only
  with_reducible repeat' (first | assumption | refine Keeps.ite ?_ ?_ | refine KeepsX.next ?_ | apply forkCreate_keeps | apply fork_keeps)

theorem execForkCreate_keeps {z0 : State} (r : Req) (s : State) (h_s : Keeps z0 s) : KeepsX z0 (execForkCreate r s) := by
  unfold execForkCreate
  try dsimp only
  with_reducible repeat' (first | assumption | refine Keeps.ite ?_ ?_ | refine KeepsX.next ?_ | apply forkCreate_keeps | apply fork_keeps)

theorem release_keeps {z0 : State} (s : State) (r : Req) (h_s : Keeps z0 s) : Keeps z0 (State.release s r) := by
  unfold State.release
  try dsimp only
  with_reducible repeat' (first | assumption | apply gate_keeps | apply enterWide_keeps | intro _)

theorem execRelease_keeps {z0 : State} (r : Req) (s : State) (h_s : Keeps z0 s) : KeepsX z0 (execRelease r s) := by
  unfold execRelease
  try dsimp only
  with_reducible repeat' (first | assumption | refine KeepsX.next ?_ | apply release_keeps)

theorem execReleaseTruncate_keeps {z0 : State} (r : Req) (s : State) (h_s : Keeps z0 s) : KeepsX z0 (execReleaseTruncate r s) := by
  unfold execReleaseTruncate
  try dsimp only
  with_reducible repeat' (first | assumption | refine KeepsX.next ?_ | apply release_keeps)

theorem pin_keeps {z0 : State} (s : State) (r : Req) (h_s : Keeps z0 s) : Keeps z0 (State.pin s r) := by
  unfold State.pin
  try dsimp only
  with_reducible repeat' (first | assumption | apply gate_keeps | apply enterWide_keeps | intro _)

theorem execPin_keeps {z0 : State} (r : Req) (s : State) (h_s : Keeps z0 s) : KeepsX z0 (execPin r s) := by
  unfold execPin
  try dsimp only
  with_reducible repeat' (first | assumption | refine KeepsX.next ?_ | apply pin_keeps)

theorem execUnpin_keeps {z0 : State} (r : Req) (s : State) (h_s : Keeps z0 s) : KeepsX z0 (execUnpin r s) := by
  unfold execUnpin
  try dsimp only
  with_reducible repeat' (first | assumption | refine KeepsX.next ?_ | apply pin_keeps)

theorem swap_keeps {z0 : State} (s : State) (r : Req) (h_s : Keeps z0 s) : Keeps z0 (State.swap s r) := by
  unfold State.swap
  try dsimp only
  with_reducible repeat' (first | assumption | apply gate_keeps | apply enterWide_keeps | intro _)

theorem execSwapOut_keeps {z0 : State} (r : Req) (s : State) (h_s : Keeps z0 s) : KeepsX z0 (execSwapOut r s) := by
  unfold execSwapOut
  try dsimp only
  with_reducible repeat' (first | assumption | refine KeepsX.next ?_ | apply swap_keeps)

theorem execSwapIn_keeps {z0 : State} (r : Req) (s : State) (h_s : Keeps z0 s) : KeepsX z0 (execSwapIn r s) := by
  unfold execSwapIn
  try dsimp only
  with_reducible repeat' (first | assumption | refine KeepsX.next ?_ | apply swap_keeps)

theorem execFlush_keeps {z0 : State} (r : Req) (s : State) (h_s : Keeps z0 s) : KeepsX z0 (execFlush r s) := by
  unfold execFlush
  try dsimp only
  with_reducible repeat' (first | assumption | refine KeepsX.next ?_ | apply swap_keeps)

theorem preEmption_keeps {z0 : State} (s : State) (h_s : Keeps z0 s) : Keeps z0 (State.preEmption s) := by
  unfold State.preEmption
  try dsimp only
  with_reducible repeat' (first | assumption | refine Keeps.ite ?_ ?_ | refine Keeps.fold _ ?_ (fun _ _ _ => ?_) | apply startSpill_keeps | apply bump_keeps | apply arrive_keeps | refine Keeps.ofE (by assumption) ?_ | split)

theorem execPreEmption_keeps {z0 : State} (s : State) (h_s : Keeps z0 s) : KeepsX z0 (execPreEmption s) := by
  unfold execPreEmption
  try dsimp only
  with_reducible repeat' (first | assumption | refine KeepsX.next ?_ | apply preEmption_keeps)

theorem demotion_keeps {z0 : State} (s : State) (h_s : Keeps z0 s) : Keeps z0 (State.demotion s) := by
  unfold State.demotion
  try dsimp only
  with_reducible repeat' (first | assumption | refine Keeps.ite ?_ ?_ | refine Keeps.fold _ ?_ (fun _ _ _ => ?_) | apply startFlush_keeps | apply arrive_keeps | refine Keeps.ofE (by assumption) ?_ | split)

theorem execDemotion_keeps {z0 : State} (s : State) (h_s : Keeps z0 s) : KeepsX z0 (execDemotion s) := by
  unfold execDemotion
  try dsimp only
  with_reducible repeat' (first | assumption | refine KeepsX.next ?_ | apply demotion_keeps)

theorem execSweepCandidates_keeps {z0 : State} (s : State) (h_s : Keeps z0 s) : KeepsX z0 (execSweepCandidates s) := by
  unfold execSweepCandidates
  try dsimp only
  with_reducible repeat' (first | assumption | refine KeepsX.next ?_ | apply startSweep_keeps)

theorem execSweepAllPinned_keeps {z0 : State} (s : State) (h_s : Keeps z0 s) : KeepsX z0 (execSweepAllPinned s) := by
  unfold execSweepAllPinned
  try dsimp only
  with_reducible repeat' (first | assumption | refine KeepsX.next ?_ | apply startSweep_keeps)

theorem sweepEnd_keeps {z0 : State} (s : State) (h_s : Keeps z0 s) : Keeps z0 (State.sweepEnd s) := by
  unfold State.sweepEnd
  try dsimp only
  with_reducible repeat' (first | assumption | refine Keeps.ite ?_ ?_ | refine Keeps.fold _ ?_ (fun _ _ _ => ?_) | apply freeFrame_keeps | apply stackAccess_keeps | apply putFrame_keeps | apply setObj_keeps | apply bump_keeps | dsimp only [Keeps.lit_eq] | split)

theorem execSweepEnd_keeps {z0 : State} (s : State) (h_s : Keeps z0 s) : KeepsX z0 (execSweepEnd s) := by
  unfold execSweepEnd
  try dsimp only
  with_reducible repeat' (first | assumption | refine KeepsX.next ?_ | apply sweepEnd_keeps)

end Sys2Proof.Laws
end

