-- ==== Sys2Proof/Laws/KeepsSlots.lean ====
section
/-! SUPPORT. What every operation keeps, continued: slots, arrays and programs. -/

namespace Sys2Proof.Laws

open Sys2Proof Sys2Proof.Machine

/-! Slots -/

theorem save_keeps {z0 : State} (s : State) (p a : Nat) (bs : List Nat) (h_s : Keeps z0 s) : Keeps z0 (State.save s p a bs) := by
  unfold State.save
  try dsimp only
  with_reducible repeat' (first | assumption | apply setPolder_keeps)

theorem contractFault_keeps {z0 : State} (s : State) (p code loc : Nat) (h_s : Keeps z0 s) : Keeps z0 (State.contractFault s p code loc) := by
  unfold State.contractFault
  try dsimp only
  with_reducible repeat' (first | assumption | refine Keeps.ite ?_ ?_ | apply setPolder_keeps | apply arrive_keeps | apply logEvent_keeps | apply endEvery_keeps)

theorem leave_keeps {z0 : State} (s : State) (p cls unit idx n : Nat) (h_s : Keeps z0 s) : Keeps z0 (State.leave s p cls unit idx n) := by
  unfold State.leave
  try dsimp only
  with_reducible repeat' (first | assumption | apply setPolder_keeps)

theorem signalEnd_keeps {z0 : State} (s : State) (p cls : Nat) (c : Slot) (h_s : Keeps z0 s) : Keeps z0 (State.signalEnd s p cls c) := by
  unfold State.signalEnd
  try dsimp only
  with_reducible repeat' (first | assumption | refine Keeps.ite ?_ ?_ | apply setPolder_keeps | apply contractFault_keeps | split)

theorem slot_keeps {z0 : State} (s : State) (p cls op : Nat) (c : Slot) (output : Bool) (occ : Polder → Nat) (run : Bool → State → Except Nat State) (h_run : ∀ b t, Keeps z0 t → KeepsE z0 (run b t)) (h_s : Keeps z0 s) : Keeps z0 (State.slot s p cls op c output occ run) := by
  unfold State.slot
  try dsimp only
  with_reducible repeat' (first | assumption | refine Keeps.ite ?_ ?_ | apply contractFault_keeps | apply leave_keeps | apply setPolder_keeps | apply signalEnd_keeps | apply h_run | refine Keeps.ofE (by assumption) ?_ | split)

theorem guards_keeps {z0 : State} (l : List (Nat × Bool)) (f : Unit → State) (h : Keeps z0 (f ())) : KeepsE z0 (guards l f) := by
  induction l with
  | nil => exact KeepsE.ok h
  | cons g l ih =>
    unfold guards
    split
    · exact ih
    · exact KeepsE.error

/-! Aborts -/

theorem displace_keeps {z0 : State} (s : State) (h_s : Keeps z0 s) : Keeps z0 (State.displace s) := by
  unfold State.displace
  try dsimp only
  with_reducible repeat' (first | assumption | refine Keeps.fold _ ?_ (fun _ _ _ => ?_) | apply bump_keeps | apply complete_keeps | dsimp only [Keeps.lit_eq] | split)

theorem awaitTarget_keeps {z0 : State} (s : State) (tag seqId : Nat) (src : Src) (h_s : Keeps z0 s) : Keeps z0 (State.awaitTarget s tag seqId src) := by
  unfold State.awaitTarget
  try dsimp only
  with_reducible repeat' (first | assumption | refine Keeps.ite ?_ ?_ | apply displace_keeps | dsimp only [Keeps.lit_eq])

theorem endHolds_keeps {z0 : State} (s : State) (test : Req → Bool) (a : Answer) (h_s : Keeps z0 s) : Keeps z0 (State.endHolds s test a) := by
  unfold State.endHolds
  try dsimp only
  with_reducible repeat' (first | assumption | refine Keeps.fold _ ?_ (fun _ _ _ => ?_) | apply refuse_keeps | dsimp only [Keeps.lit_eq])

theorem abortOne_keeps {z0 : State} (s : State) (tag : Nat) (q : Request) (src : Src) (h_s : Keeps z0 s) : Keeps z0 (State.abortOne s tag q src) := by
  unfold State.abortOne
  try dsimp only
  with_reducible repeat' (first | assumption | refine Keeps.ite ?_ ?_ | apply complete_keeps | apply endAny_keeps | apply endHolds_keeps | apply awaitTarget_keeps | split)

theorem abortAll_keeps {z0 : State} (s : State) (tag : Nat) (q : Request) (h_s : Keeps z0 s) : Keeps z0 (State.abortAll s tag q) := by
  unfold State.abortAll
  try dsimp only
  with_reducible repeat' (first | assumption | apply endEvery_keeps | apply endHolds_keeps | apply complete_keeps)

theorem abort_keeps {z0 : State} (s : State) (r : Req) (h_s : Keeps z0 s) : Keeps z0 (State.abort s r) := by
  unfold State.abort
  try dsimp only
  with_reducible repeat' (first | assumption | refine Keeps.ite ?_ ?_ | apply gate_keeps | apply refuse_keeps | apply abortAll_keeps | apply abortOne_keeps | apply complete_keeps | refine take_keeps (by assumption) ?_ | intro _ | split)

theorem execAbort_keeps {z0 : State} (r : Req) (s : State) (h_s : Keeps z0 s) : KeepsX z0 (execAbort r s) := by
  unfold execAbort
  try dsimp only
  with_reducible repeat' (first | assumption | refine KeepsX.next ?_ | apply abort_keeps)

theorem execAbortAll_keeps {z0 : State} (r : Req) (s : State) (h_s : Keeps z0 s) : KeepsX z0 (execAbortAll r s) := by
  unfold execAbortAll
  try dsimp only
  with_reducible repeat' (first | assumption | refine KeepsX.next ?_ | apply abort_keeps)

theorem tombstoneExpiry_keeps {z0 : State} (s : State) (waiter : Nat) (h_s : Keeps z0 s) : Keeps z0 (State.tombstoneExpiry s waiter) := by
  unfold State.tombstoneExpiry
  try dsimp only
  with_reducible repeat' (first | assumption | refine Keeps.ite ?_ ?_ | apply stopWaiting_keeps | apply bumpBy_keeps | apply complete_keeps | split)

theorem execTombstoneExpiry_keeps {z0 : State} (waiter : Nat) (s : State) (h_s : Keeps z0 s) : KeepsX z0 (execTombstoneExpiry waiter s) := by
  unfold execTombstoneExpiry
  try dsimp only
  with_reducible repeat' (first | assumption | refine KeepsX.next ?_ | apply tombstoneExpiry_keeps)

theorem query_keeps {z0 : State} (s : State) (r : Req) (h_s : Keeps z0 s) : Keeps z0 (State.query s r) := by
  unfold State.query
  try dsimp only
  with_reducible repeat' (first | assumption | refine Keeps.ite ?_ ?_ | apply gate_keeps | apply refuse_keeps | apply complete_keeps | refine take_keeps (by assumption) ?_ | intro _ | split)

theorem execQuerySummary_keeps {z0 : State} (r : Req) (s : State) (h_s : Keeps z0 s) : KeepsX z0 (execQuerySummary r s) := by
  unfold execQuerySummary
  try dsimp only
  with_reducible repeat' (first | assumption | refine KeepsX.next ?_ | apply query_keeps)

theorem execQueryLayerCounts_keeps {z0 : State} (r : Req) (s : State) (h_s : Keeps z0 s) : KeepsX z0 (execQueryLayerCounts r s) := by
  unfold execQueryLayerCounts
  try dsimp only
  with_reducible repeat' (first | assumption | refine KeepsX.next ?_ | apply query_keeps)

theorem execQueryTenantUsage_keeps {z0 : State} (r : Req) (s : State) (h_s : Keeps z0 s) : KeepsX z0 (execQueryTenantUsage r s) := by
  unfold execQueryTenantUsage
  try dsimp only
  with_reducible repeat' (first | assumption | refine KeepsX.next ?_ | apply query_keeps)

theorem answerQueries_keeps {z0 : State} (s : State) (h_s : Keeps z0 s) : Keeps z0 (State.answerQueries s) := by
  unfold State.answerQueries
  try dsimp only
  with_reducible repeat' (first | assumption | refine Keeps.fold _ ?_ (fun _ _ _ => ?_) | apply complete_keeps)

theorem request_keeps {z0 : State} (s : State) (r : Req) (h_s : Keeps z0 s) : Keeps z0 (State.request s r) := by
  unfold State.request
  try dsimp only
  with_reducible repeat' (first | assumption | refine Keeps.ite ?_ ?_ | apply attend_keeps | apply append_keeps | apply prefill_keeps | apply forkCreate_keeps | apply fork_keeps | apply release_keeps | apply pin_keeps | apply swap_keeps | apply abort_keeps | apply query_keeps | apply refuse_keeps | split)

/-! Cores -/

theorem coreOp_keeps {z0 : State} (s : State) (p op : Nat) (c : Slot) (occ : Nat) (limits : List (Nat × Bool)) (runs : List (Nat × Nat)) (f : State → State) (h_f : ∀ t, Keeps z0 t → Keeps z0 (f t)) (h_s : Keeps z0 s) : Keeps z0 (State.coreOp s p op c occ limits runs f) := by
  unfold State.coreOp
  try dsimp only
  with_reducible repeat' (first | assumption | apply slot_keeps | apply guards_keeps | apply h_f | intro _)

theorem lsPut_keeps {z0 : State} (s : State) (p core off : Nat) (ws : List Nat) (h_s : Keeps z0 s) : Keeps z0 (State.lsPut s p core off ws) := by
  unfold State.lsPut
  try dsimp only
  with_reducible repeat' (first | assumption | apply save_keeps)

theorem execVop_keeps {z0 : State} (p : Pol) (c : Slot) (kind : VopKind) (n a b d dst : Nat) (s : State) (h_s : Keeps z0 s) : KeepsX z0 (execVop p c kind n a b d dst s) := by
  unfold execVop
  try dsimp only
  with_reducible repeat' (first | assumption | refine KeepsX.next ?_ | apply coreOp_keeps | apply lsPut_keeps | intro _ | dsimp only [Keeps.lit_eq])

theorem execExp_keeps {z0 : State} (p : Pol) (c : Slot) (n src dst : Nat) (s : State) (h_s : Keeps z0 s) : KeepsX z0 (execExp p c n src dst s) := by
  unfold execExp
  try dsimp only
  with_reducible repeat' (first | assumption | refine KeepsX.next ?_ | apply coreOp_keeps | apply lsPut_keeps | intro _)

theorem execSoftmax_keeps {z0 : State} (p : Pol) (c : Slot) (n heads scores state probs alpha : Nat) (scale : W32) (page : Nat) (first : Bool) (s : State) (h_s : Keeps z0 s) : KeepsX z0 (execSoftmax p c n heads scores state probs alpha scale page first s) := by
  unfold execSoftmax
  try dsimp only
  with_reducible repeat' (first | assumption | refine KeepsX.next ?_ | apply coreOp_keeps | apply lsPut_keeps | intro _)

theorem execOacc_keeps {z0 : State} (p : Pol) (c : Slot) (n d o w alpha : Nat) (first : Bool) (s : State) (h_s : Keeps z0 s) : KeepsX z0 (execOacc p c n d o w alpha first s) := by
  unfold execOacc
  try dsimp only
  with_reducible repeat' (first | assumption | refine KeepsX.next ?_ | apply coreOp_keeps | apply lsPut_keeps | intro _)

theorem exceptions_keeps {z0 : State} (s : State) (p n : Nat) (h_s : Keeps z0 s) : Keeps z0 (State.exceptions s p n) := by
  unfold State.exceptions
  try dsimp only
  with_reducible repeat' (first | assumption | refine Keeps.ite ?_ ?_ | apply bumpBy_keeps | apply arrive_keeps)

theorem partialFailed_keeps {z0 : State} (s : State) (p : Nat) (c : Slot) (h_s : Keeps z0 s) : Keeps z0 (State.partialFailed s p c) := by
  unfold State.partialFailed
  try dsimp only
  with_reducible repeat' (first | assumption | apply bump_keeps | apply setPolder_keeps | split)

theorem execMerge_keeps {z0 : State} (p : Pol) (c : Slot) (d : Nat) (parts : List (Nat × Bool)) (dst : Nat) (s : State) (h_s : Keeps z0 s) : KeepsX z0 (execMerge p c d parts dst s) := by
  unfold execMerge
  try dsimp only
  with_reducible repeat' (first | assumption | refine Keeps.ite ?_ ?_ | refine KeepsX.next ?_ | apply coreOp_keeps | apply partialFailed_keeps | apply lsPut_keeps | intro _)

theorem execCvt_keeps {z0 : State} (p : Pol) (c : Slot) (o : CvtOp) (s : State) (h_s : Keeps z0 s) : KeepsX z0 (execCvt p c o s) := by
  unfold execCvt
  try dsimp only
  with_reducible repeat' (first | assumption | refine KeepsX.next ?_ | apply coreOp_keeps | apply save_keeps | apply exceptions_keeps | intro _)

theorem execCrc64_keeps {z0 : State} (p : Pol) (c : Slot) (bytes src dst : Nat) (s : State) (h_s : Keeps z0 s) : KeepsX z0 (execCrc64 p c bytes src dst s) := by
  unfold execCrc64
  try dsimp only
  with_reducible repeat' (first | assumption | refine KeepsX.next ?_ | apply coreOp_keeps | apply save_keeps | intro _)

theorem meshSend_keeps {z0 : State} (s : State) (p : Nat) (bs : List Nat) (now dstPol dstOff : Nat) (h_s : Keeps z0 s) : Keeps z0 (State.meshSend s p bs now dstPol dstOff) := by
  unfold State.meshSend
  try dsimp only
  with_reducible repeat' (first | assumption | apply setPolder_keeps | apply save_keeps)

theorem execMsend_keeps {z0 : State} (p : Pol) (c : Slot) (bytes src : Nat) (dstPol : Pol) (dstOff : Nat) (s : State) (h_s : Keeps z0 s) : KeepsX z0 (execMsend p c bytes src dstPol dstOff s) := by
  unfold execMsend
  try dsimp only
  with_reducible repeat' (first | assumption | refine Keeps.ite ?_ ?_ | refine KeepsX.next ?_ | apply slot_keeps | apply guards_keeps | apply meshSend_keeps | intro _)

/-! Bank -/

theorem holdStart_keeps {z0 : State} (s : State) (p : Nat) (c : Slot) (h_s : Keeps z0 s) : Keeps z0 (State.holdStart s p c) := by
  unfold State.holdStart
  try dsimp only
  with_reducible repeat' (first | assumption | refine Keeps.ite ?_ ?_ | apply setPolder_keeps)

theorem computing_keeps {z0 : State} (s : State) (p unit steps : Nat) (h_s : Keeps z0 s) : Keeps z0 (State.computing s p unit steps) := by
  unfold State.computing
  try dsimp only
  with_reducible repeat' (first | assumption | apply setPolder_keeps)

theorem bankOp_keeps {z0 : State} (s : State) (p op : Nat) (c : Slot) (o : BankOp) (fits : Bool) (dst : Nat) (result : Polder → List Nat → List Nat) (h_s : Keeps z0 s) : Keeps z0 (State.bankOp s p op c o fits dst result) := by
  unfold State.bankOp
  try dsimp only
  with_reducible repeat' (first | assumption | refine Keeps.ite ?_ ?_ | apply holdStart_keeps | apply slot_keeps | apply guards_keeps | apply computing_keeps | apply unitRead_keeps | apply save_keeps | intro _)

theorem execScore_keeps {z0 : State} (p : Pol) (c : Slot) (o : BankOp) (s : State) (h_s : Keeps z0 s) : KeepsX z0 (execScore p c o s) := by
  unfold execScore
  try dsimp only
  with_reducible repeat' (first | assumption | refine KeepsX.next ?_ | apply bankOp_keeps)

theorem execWsum_keeps {z0 : State} (p : Pol) (c : Slot) (o : BankOp) (s : State) (h_s : Keeps z0 s) : KeepsX z0 (execWsum p c o s) := by
  unfold execWsum
  try dsimp only
  with_reducible repeat' (first | assumption | refine KeepsX.next ?_ | apply bankOp_keeps)

theorem execWrite_keeps {z0 : State} (p : Pol) (c : Slot) (row off bytes : Nat) (upset : Bool) (s : State) (h_s : Keeps z0 s) : KeepsX z0 (execWrite p c row off bytes upset s) := by
  unfold execWrite
  try dsimp only
  with_reducible repeat' (first | assumption | refine Keeps.ite ?_ ?_ | refine KeepsX.next ?_ | apply slot_keeps | apply guards_keeps | apply writeStack_keeps | apply taint_keeps | apply setPolder_keeps | intro _ | split)

theorem execCopy_keeps {z0 : State} (p : Pol) (c : Slot) (srcRow srcOff dstRow dstOff bytes : Nat) (s : State) (h_s : Keeps z0 s) : KeepsX z0 (execCopy p c srcRow srcOff dstRow dstOff bytes s) := by
  unfold execCopy
  try dsimp only
  with_reducible repeat' (first | assumption | refine Keeps.ite ?_ ?_ | refine KeepsX.next ?_ | apply slot_keeps | apply guards_keeps | apply writeStack_keeps | intro _)

theorem execVerify_keeps {z0 : State} (p : Pol) (c : Slot) (row off bytes : Nat) (upset : Bool) (s : State) (h_s : Keeps z0 s) : KeepsX z0 (execVerify p c row off bytes upset s) := by
  unfold execVerify
  try dsimp only
  with_reducible repeat' (first | assumption | refine KeepsX.next ?_ | apply slot_keeps | apply guards_keeps | apply unitRead_keeps | intro _)

theorem culvertOp_keeps {z0 : State} (s : State) (p op : Nat) (c : Slot) (o : CulvertOp) (tap unitBytes unitRoom : Nat) (f : State → State) (h_f : ∀ t, Keeps z0 t → Keeps z0 (f t)) (h_s : Keeps z0 s) : Keeps z0 (State.culvertOp s p op c o tap unitBytes unitRoom f) := by
  unfold State.culvertOp
  try dsimp only
  with_reducible repeat' (first | assumption | apply slot_keeps | apply guards_keeps | apply h_f | intro _)

theorem execCscatter_keeps {z0 : State} (p : Pol) (c : Slot) (o : CulvertOp) (s : State) (h_s : Keeps z0 s) : KeepsX z0 (execCscatter p c o s) := by
  unfold execCscatter
  try dsimp only
  with_reducible repeat' (first | assumption | refine KeepsX.next ?_ | apply culvertOp_keeps | apply setPolder_keeps | intro _)

theorem execCbcast_keeps {z0 : State} (p : Pol) (c : Slot) (o : CulvertOp) (s : State) (h_s : Keeps z0 s) : KeepsX z0 (execCbcast p c o s) := by
  unfold execCbcast
  try dsimp only
  with_reducible repeat' (first | assumption | refine KeepsX.next ?_ | refine Keeps.fold _ ?_ (fun _ _ _ => ?_) | apply culvertOp_keeps | apply save_keeps | intro _)

theorem execCreduce_keeps {z0 : State} (p : Pol) (c : Slot) (o : CulvertOp) (s : State) (h_s : Keeps z0 s) : KeepsX z0 (execCreduce p c o s) := by
  unfold execCreduce
  try dsimp only
  with_reducible repeat' (first | assumption | refine KeepsX.next ?_ | apply culvertOp_keeps | apply save_keeps | intro _)

theorem execCgather_keeps {z0 : State} (p : Pol) (c : Slot) (o : CulvertOp) (s : State) (h_s : Keeps z0 s) : KeepsX z0 (execCgather p c o s) := by
  unfold execCgather
  try dsimp only
  with_reducible repeat' (first | assumption | refine KeepsX.next ?_ | apply culvertOp_keeps | apply save_keeps | intro _)

/-! Arrays -/

theorem execWload_keeps {z0 : State} (p : Pol) (c : Slot) (bytes src : Nat) (s : State) (h_s : Keeps z0 s) : KeepsX z0 (execWload p c bytes src s) := by
  unfold execWload
  try dsimp only
  with_reducible repeat' (first | assumption | refine KeepsX.next ?_ | apply slot_keeps | apply guards_keeps | apply setPolder_keeps | apply save_keeps | intro _)

theorem execSwap_keeps {z0 : State} (p : Pol) (c : Slot) (s : State) (h_s : Keeps z0 s) : KeepsX z0 (execSwap p c s) := by
  unfold execSwap
  try dsimp only
  with_reducible repeat' (first | assumption | refine KeepsE.ok ?_ | refine KeepsX.next ?_ | apply slot_keeps | apply setPolder_keeps | intro _)

theorem execMm_keeps {z0 : State} (p : Pol) (c : Slot) (r src accRow ins cols : Nat) (add : Bool) (s : State) (h_s : Keeps z0 s) : KeepsX z0 (execMm p c r src accRow ins cols add s) := by
  unfold execMm
  try dsimp only
  with_reducible repeat' (first | assumption | refine KeepsX.next ?_ | refine Keeps.fold _ ?_ (fun _ _ _ => ?_) | apply slot_keeps | apply guards_keeps | apply save_keeps | intro _)

theorem execOutf_keeps {z0 : State} (p : Pol) (c : Slot) (bytes accOff cols : Nat) (dstPol : Pol) (dstUnit : Nat) (s : State) (h_s : Keeps z0 s) : KeepsX z0 (execOutf p c bytes accOff cols dstPol dstUnit s) := by
  unfold execOutf
  try dsimp only
  with_reducible repeat' (first | assumption | refine Keeps.ite ?_ ?_ | refine KeepsX.next ?_ | apply slot_keeps | apply guards_keeps | apply setPolder_keeps | apply exceptions_keeps | intro _)

theorem execOutr_keeps {z0 : State} (p : Pol) (c : Slot) (bytes accOff cols dst : Nat) (s : State) (h_s : Keeps z0 s) : KeepsX z0 (execOutr p c bytes accOff cols dst s) := by
  unfold execOutr
  try dsimp only
  with_reducible repeat' (first | assumption | refine KeepsX.next ?_ | apply slot_keeps | apply guards_keeps | apply save_keeps | apply exceptions_keeps | intro _)

theorem execBsoft_keeps {z0 : State} (p : Pol) (c : Slot) (scores state out d : Nat) (scale : W32) (keyBase : Nat) (queryPos : List Nat) (bf16 first : Bool) (s : State) (h_s : Keeps z0 s) : KeepsX z0 (execBsoft p c scores state out d scale keyBase queryPos bf16 first s) := by
  unfold execBsoft
  try dsimp only
  with_reducible repeat' (first | assumption | refine KeepsX.next ?_ | refine Keeps.fold _ ?_ (fun _ _ _ => ?_) | apply slot_keeps | apply guards_keeps | apply save_keeps | apply setPolder_keeps | intro _)

/-! Control -/

theorem measure_keeps {z0 : State} (s : State) (place : Nat) (e : Option Meas) (h_s : Keeps z0 s) : Keeps z0 (State.measure s place e) := by
  unfold State.measure
  try dsimp only
  with_reducible repeat' (first | assumption | dsimp only [Keeps.lit_eq])

theorem execNop_keeps {z0 : State} (p : Pol) (cls : Fin 6) (c : Slot) (s : State) (h_s : Keeps z0 s) : KeepsX z0 (execNop p cls c s) := by
  unfold execNop
  try dsimp only
  with_reducible repeat' (first | assumption | refine KeepsE.ok ?_ | refine KeepsX.next ?_ | apply slot_keeps | intro _)

theorem execWaitonly_keeps {z0 : State} (p : Pol) (cls : Fin 6) (c : Slot) (s : State) (h_s : Keeps z0 s) : KeepsX z0 (execWaitonly p cls c s) := by
  unfold execWaitonly
  try dsimp only
  with_reducible repeat' (first | assumption | refine KeepsE.ok ?_ | refine KeepsX.next ?_ | apply slot_keeps | intro _)

theorem execRepeatSlot_keeps {z0 : State} (p : Pol) (cls : Fin 6) (c : Slot) (len count : Nat) (fromEntry : Bool) (s : State) (h_s : Keeps z0 s) : KeepsX z0 (execRepeatSlot p cls c len count fromEntry s) := by
  unfold execRepeatSlot
  try dsimp only
  with_reducible repeat' (first | assumption | refine KeepsX.next ?_ | apply slot_keeps | apply guards_keeps | apply setPolder_keeps | intro _)

theorem execEndSlot_keeps {z0 : State} (p : Pol) (cls : Fin 6) (c : Slot) (s : State) (h_s : Keeps z0 s) : KeepsX z0 (execEndSlot p cls c s) := by
  unfold execEndSlot
  try dsimp only
  with_reducible repeat' (first | assumption | refine KeepsE.ok ?_ | refine KeepsX.next ?_ | apply slot_keeps | apply setPolder_keeps | intro _)

theorem externalSignal_keeps {z0 : State} (s : State) (p gate n : Nat) (e : GateEvent) (h_s : Keeps z0 s) : Keeps z0 (State.externalSignal s p gate n e) := by
  unfold State.externalSignal
  try dsimp only
  with_reducible repeat' (first | assumption | refine Keeps.ite ?_ ?_ | apply setPolder_keeps | apply contractFault_keeps | split)

theorem execExternalGateSignal_keeps {z0 : State} (p : Pol) (gate : Fin 4096) (count : Nat) (event : GateEvent) (s : State) (h_s : Keeps z0 s) : KeepsX z0 (execExternalGateSignal p gate count event s) := by
  unfold execExternalGateSignal
  try dsimp only
  with_reducible repeat' (first | assumption | refine KeepsX.next ?_ | apply externalSignal_keeps)

theorem markLate_keeps {z0 : State} (s : State) (p l : Nat) (h_s : Keeps z0 s) : Keeps z0 (State.markLate s p l) := by
  unfold State.markLate
  try dsimp only
  with_reducible repeat' (first | assumption | apply setPolder_keeps | apply bump_keeps | apply arrive_keeps | split)

theorem voidRest_keeps {z0 : State} (s : State) (tag : Nat) (h_s : Keeps z0 s) : Keeps z0 (State.voidRest s tag) := by
  unfold State.voidRest
  try dsimp only
  with_reducible repeat' (first | assumption | apply setReq_keeps | dsimp only [Keeps.lit_eq] | split)

theorem deadlineExpiry_keeps {z0 : State} (s : State) (p cls : Nat) (c : Slot) (h_s : Keeps z0 s) : Keeps z0 (State.deadlineExpiry s p cls c) := by
  unfold State.deadlineExpiry
  try dsimp only
  with_reducible repeat' (first | assumption | refine Keeps.ite ?_ ?_ | refine Keeps.fold _ ?_ (fun _ _ _ => ?_) | apply markLate_keeps | apply setPolder_keeps | apply voidRest_keeps | split)

theorem execDeadlineExpiry_keeps {z0 : State} (p : Pol) (cls : Fin 6) (c : Slot) (s : State) (h_s : Keeps z0 s) : KeepsX z0 (execDeadlineExpiry p cls c s) := by
  unfold execDeadlineExpiry
  try dsimp only
  with_reducible repeat' (first | assumption | refine KeepsX.next ?_ | apply deadlineExpiry_keeps)

theorem stallExpiry_keeps {z0 : State} (s : State) (p cls : Nat) (c : Slot) (h_s : Keeps z0 s) : Keeps z0 (State.stallExpiry s p cls c) := by
  unfold State.stallExpiry
  try dsimp only
  with_reducible repeat' (first | assumption | refine Keeps.ite ?_ ?_ | apply contractFault_keeps | split)

theorem execStallLimitExpiry_keeps {z0 : State} (p : Pol) (cls : Fin 6) (c : Slot) (s : State) (h_s : Keeps z0 s) : KeepsX z0 (execStallLimitExpiry p cls c s) := by
  unfold execStallLimitExpiry
  try dsimp only
  with_reducible repeat' (first | assumption | refine KeepsX.next ?_ | apply stallExpiry_keeps)

theorem sleepTo_keeps {z0 : State} (s : State) (p : Nat) (x : Polder) (st : SleepState) (h_s : Keeps z0 s) : Keeps z0 (State.sleepTo s p x st) := by
  unfold State.sleepTo
  try dsimp only
  with_reducible repeat' (first | assumption | apply setPolder_keeps | apply arrive_keeps)

theorem goDry_keeps {z0 : State} (s : State) (p : Nat) (h_s : Keeps z0 s) : Keeps z0 (State.goDry s p) := by
  unfold State.goDry
  try dsimp only
  with_reducible repeat' (first | assumption | apply sleepTo_keeps)

theorem barrier_keeps {z0 : State} (s : State) (p : Nat) (h_s : Keeps z0 s) : Keeps z0 (State.barrier s p) := by
  unfold State.barrier
  try dsimp only
  with_reducible repeat' (first | assumption | refine Keeps.ite ?_ ?_ | apply sleepTo_keeps | apply setPolder_keeps | apply goDry_keeps)

theorem passClose_keeps {z0 : State} (s : State) (p : Nat) (h_s : Keeps z0 s) : Keeps z0 (State.passClose s p) := by
  unfold State.passClose
  try dsimp only
  with_reducible repeat' (first | assumption | refine Keeps.ite ?_ ?_ | apply contractFault_keeps | apply setPolder_keeps | apply barrier_keeps | split)

theorem execPassClose_keeps {z0 : State} (p : Pol) (s : State) (h_s : Keeps z0 s) : KeepsX z0 (execPassClose p s) := by
  unfold execPassClose
  try dsimp only
  with_reducible repeat' (first | assumption | refine KeepsX.next ?_ | apply passClose_keeps)

theorem polderStopped_keeps {z0 : State} (s : State) (p : Nat) (h_s : Keeps z0 s) : Keeps z0 (State.polderStopped s p) := by
  unfold State.polderStopped
  try dsimp only
  with_reducible repeat' (first | assumption | refine Keeps.ite ?_ ?_ | apply setPolder_keeps | apply arrive_keeps | apply barrier_keeps)

theorem execPolderStopped_keeps {z0 : State} (p : Pol) (s : State) (h_s : Keeps z0 s) : KeepsX z0 (execPolderStopped p s) := by
  unfold execPolderStopped
  try dsimp only
  with_reducible repeat' (first | assumption | refine KeepsX.next ?_ | apply polderStopped_keeps)

theorem install_keeps {z0 : State} (s : State) (p : Nat) (h_s : Keeps z0 s) : Keeps z0 (State.install s p) := by
  unfold State.install
  try dsimp only
  with_reducible repeat' (first | assumption | apply setPolder_keeps | apply measure_keeps | split)

theorem boundaryAt_keeps {z0 : State} (s : State) (p : Nat) (h_s : Keeps z0 s) : Keeps z0 (State.boundaryAt s p) := by
  unfold State.boundaryAt
  try dsimp only
  with_reducible repeat' (first | assumption | refine Keeps.ite ?_ ?_ | apply setPolder_keeps | apply arrive_keeps | apply install_keeps | apply barrier_keeps | split)

theorem boundaries_keeps {z0 : State} (s : State) (h_s : Keeps z0 s) : Keeps z0 (State.boundaries s) := by
  unfold State.boundaries
  try dsimp only
  with_reducible repeat' (first | assumption | refine Keeps.fold _ ?_ (fun _ _ _ => ?_) | apply boundaryAt_keeps)

theorem imageLoad_keeps {z0 : State} (s : State) (p : Nat) (im : Image) (h_s : Keeps z0 s) : Keeps z0 (State.imageLoad s p im) := by
  unfold State.imageLoad
  try dsimp only
  with_reducible repeat' (first | assumption | refine Keeps.ite ?_ ?_ | apply setPolder_keeps | apply measure_keeps | apply arrive_keeps | split)

theorem execImageLoad_keeps {z0 : State} (p : Pol) (im : Image) (s : State) (h_s : Keeps z0 s) : KeepsX z0 (execImageLoad p im s) := by
  unfold execImageLoad
  try dsimp only
  with_reducible repeat' (first | assumption | refine KeepsX.next ?_ | apply imageLoad_keeps)

theorem quiesce_keeps {z0 : State} (s : State) (p : Nat) (h_s : Keeps z0 s) : KeepsO z0 (State.quiesce s p) := by
  unfold State.quiesce
  try dsimp only
  with_reducible repeat' (first | assumption | exact KeepsO.none | refine KeepsO.some ?_ | apply setPolder_keeps | split)

theorem execQuiesce_keeps {z0 : State} (p : Pol) (s : State) (h_s : Keeps z0 s) : KeepsX z0 (execQuiesce p s) := by
  unfold execQuiesce
  try dsimp only
  with_reducible repeat' (first | assumption | refine KeepsX.next ?_ | refine Keeps.getD ?_ ?_ | apply quiesce_keeps)

theorem clearStopped_keeps {z0 : State} (s : State) (p : Nat) (h_s : Keeps z0 s) : KeepsO z0 (State.clearStopped s p) := by
  unfold State.clearStopped
  try dsimp only
  with_reducible repeat' (first | assumption | exact KeepsO.none | refine Keeps.ite ?_ ?_ | refine KeepsO.ite ?_ ?_ | refine KeepsO.some ?_ | apply setPolder_keeps | apply install_keeps | apply measure_keeps | apply arrive_keeps)

theorem execClearStopped_keeps {z0 : State} (p : Pol) (s : State) (h_s : Keeps z0 s) : KeepsX z0 (execClearStopped p s) := by
  unfold execClearStopped
  try dsimp only
  with_reducible repeat' (first | assumption | refine KeepsX.next ?_ | refine Keeps.getD ?_ ?_ | apply clearStopped_keeps)

theorem resume_keeps {z0 : State} (s : State) (p : Nat) (h_s : Keeps z0 s) : KeepsO z0 (State.resume s p) := by
  unfold State.resume
  try dsimp only
  with_reducible repeat' (first | assumption | exact KeepsO.none | refine KeepsO.ite ?_ ?_ | refine KeepsO.some ?_ | apply setPolder_keeps)

theorem execResume_keeps {z0 : State} (p : Pol) (s : State) (h_s : Keeps z0 s) : KeepsX z0 (execResume p s) := by
  unfold execResume
  try dsimp only
  with_reducible repeat' (first | assumption | refine KeepsX.next ?_ | refine Keeps.getD ?_ ?_ | apply resume_keeps)

theorem arrivesAt_keeps {z0 : State} (s : State) (p region : Nat) (bs : List Nat) (h_s : Keeps z0 s) : Keeps z0 (State.arrivesAt s p region bs) := by
  unfold State.arrivesAt
  try dsimp only
  with_reducible repeat' (first | assumption | refine Keeps.ite ?_ ?_ | refine Keeps.fold _ ?_ (fun _ _ _ => ?_) | apply externalSignal_keeps | apply save_keeps | split)

theorem deliverEntry_keeps {z0 : State} (s : State) (p : Nat) (e : RingEntry) (h_s : Keeps z0 s) : Keeps z0 (State.deliverEntry s p e) := by
  unfold State.deliverEntry
  try dsimp only
  with_reducible repeat' (first | assumption | apply arrivesAt_keeps)

theorem execAdmitSlot_keeps {z0 : State} (p : Pol) (c : Slot) (ring : Fin 16) (firstLane count n dst : Nat) (s : State) (h_s : Keeps z0 s) : KeepsX z0 (execAdmitSlot p c ring firstLane count n dst s) := by
  unfold execAdmitSlot
  try dsimp only
  with_reducible repeat' (first | assumption | refine Keeps.ite ?_ ?_ | refine KeepsX.next ?_ | refine Keeps.fold _ ?_ (fun _ _ _ => ?_) | apply slot_keeps | apply guards_keeps | apply setPolder_keeps | apply deliverEntry_keeps | intro _)

theorem laneReport_keeps {z0 : State} (s : State) (p : Nat) (a : Lane) (status detail : Nat) (bytes : List Nat) (h_s : Keeps z0 s) : Keeps z0 (State.laneReport s p a status detail bytes) := by
  unfold State.laneReport
  try dsimp only
  with_reducible repeat' (first | assumption | refine Keeps.ite ?_ ?_ | apply bump_keeps | apply arrive_keeps | apply setReq_keeps | apply settle_keeps | split)

theorem execDone_keeps {z0 : State} (p : Pol) (c : Slot) (status detail at_ bytes : Nat) (s : State) (h_s : Keeps z0 s) : KeepsX z0 (execDone p c status detail at_ bytes s) := by
  unfold execDone
  try dsimp only
  with_reducible repeat' (first | assumption | refine KeepsE.ok ?_ | refine KeepsX.next ?_ | apply slot_keeps | apply guards_keeps | apply setPolder_keeps | apply laneReport_keeps | intro _ | split)

end Sys2Proof.Laws
end

