-- ==== Sys2Proof/Laws/KeepsFabric.lean ====
section
/-! SUPPORT. What every operation keeps, continued: the fabric, transfers, charts and the pair. -/

namespace Sys2Proof.Laws

open Sys2Proof Sys2Proof.Machine

/-! Conduits -/

theorem sendConduit_keeps {z0 : State} (s : State) (c op msg : Nat) (body : List Nat) (what seq word : Nat) (h_s : Keeps z0 s) : Keeps z0 (State.sendConduit s c op msg body what seq word) := by
  unfold State.sendConduit
  try dsimp only
  with_reducible repeat' (first | assumption | apply sourceMessage_keeps | dsimp only [Keeps.lit_eq])

theorem sendPlain_keeps {z0 : State} (s : State) (c op word : Nat) (h_s : Keeps z0 s) : Keeps z0 (State.sendPlain s c op word) := by
  unfold State.sendPlain
  try dsimp only
  with_reducible repeat' (first | assumption | apply drawId_keeps | apply sendConduit_keeps)

theorem sendAck_keeps {z0 : State} (s : State) (c : Nat) (h_s : Keeps z0 s) : Keeps z0 (State.sendAck s c) := by
  unfold State.sendAck
  try dsimp only
  with_reducible repeat' (first | assumption | apply sendPlain_keeps)

theorem transmit_keeps {z0 : State} (s : State) (c seq : Nat) (retry : Bool) (h_s : Keeps z0 s) : Keeps z0 (State.transmit s c seq retry) := by
  unfold State.transmit
  try dsimp only
  with_reducible repeat' (first | assumption | refine KeepsF.ite ?_ ?_ | apply drawId_keeps | apply setConduit_keeps | apply sendConduit_keeps | split)

theorem pump_keeps {z0 : State} (s : State) (c : Nat) (h_s : Keeps z0 s) : Keeps z0 (State.pump s c) := by
  unfold State.pump
  try dsimp only
  with_reducible repeat' (first | assumption | refine Keeps.ite ?_ ?_ | refine KeepsF.fold _ ?_ (fun _ _ _ => ?_) | refine KeepsF.ite ?_ ?_ | apply setConduit_keeps | apply transmit_keeps | split)

theorem makeRoom_keeps {z0 : State} (s : State) (h_s : Keeps z0 s) : Keeps z0 (State.makeRoom s) := by
  unfold State.makeRoom
  try dsimp only
  with_reducible repeat' (first | assumption | refine Keeps.ite ?_ ?_ | apply setConduit_keeps | apply work_keeps | split)

theorem convey_keeps {z0 : State} (s : State) (c op : Nat) (body : List Nat) (what : Nat) (word : Nat) (h_s : Keeps z0 s) : Keeps z0 (State.convey s c op body what word) := by
  unfold State.convey
  try dsimp only
  with_reducible repeat' (first | assumption | refine Keeps.ite ?_ ?_ | apply setConduit_keeps | apply fetchRecord_keeps | apply pump_keeps)

theorem maybeClose_keeps {z0 : State} (s : State) (c : Nat) (h_s : Keeps z0 s) : Keeps z0 (State.maybeClose s c) := by
  unfold State.maybeClose
  try dsimp only
  with_reducible repeat' (first | assumption | refine Keeps.ite ?_ ?_ | apply setConduit_keeps)

theorem takeAck_keeps {z0 : State} (s : State) (h : CHdr) (h_s : Keeps z0 s) : Keeps z0 (State.takeAck s h).1 := by
  unfold State.takeAck
  try dsimp only
  with_reducible repeat' (first | assumption | apply setConduit_keeps | apply pump_keeps | apply maybeClose_keeps | dsimp only [Keeps.lit_eq])

theorem placeMessage_keeps {z0 : State} (s : State) (c seq len : Nat) (h_s : Keeps z0 s) : Keeps z0 (State.placeMessage s c seq len) := by
  unfold State.placeMessage
  try dsimp only
  with_reducible repeat' (first | assumption | apply setConduit_keeps | apply sendAck_keeps)

theorem openConduit_keeps {z0 : State} (s : State) (c : Nat) (h_s : Keeps z0 s) : Keeps z0 (State.openConduit s c) := by
  unfold State.openConduit
  try dsimp only
  with_reducible repeat' (first | assumption | apply makeRoom_keeps | apply setConduit_keeps | apply sendPlain_keeps | dsimp only [Keeps.lit_eq])

theorem openTo_keeps {z0 : State} (s : State) (node : Nat) (h_s : Keeps z0 s) : KeepsP z0 (State.openTo s node) := by
  unfold State.openTo
  try dsimp only
  with_reducible repeat' (first | assumption | exact KeepsP.none | refine KeepsP.ite ?_ ?_ | refine KeepsP.some ?_ | apply setConduit_keeps | apply openConduit_keeps | split)

theorem openReceived_keeps {z0 : State} (s : State) (h : CHdr) (node window : Nat) (h_s : Keeps z0 s) : Keeps z0 (State.openReceived s h node window).1 := by
  unfold State.openReceived
  try dsimp only
  with_reducible repeat' (first | assumption | refine KeepsF.ite ?_ ?_ | apply sendPlain_keeps | apply drawId_keeps | apply sourceMessage_keeps | apply makeRoom_keeps | apply setConduit_keeps | dsimp only [Keeps.lit_eq] | split)

theorem resendThrough_keeps {z0 : State} (s : State) (n : Nat) (h_s : Keeps z0 s) : Keeps z0 (State.resendThrough s n) := by
  unfold State.resendThrough
  try dsimp only
  with_reducible repeat' (first | assumption | refine Keeps.fold _ ?_ (fun _ _ _ => ?_) | apply transmit_keeps | apply sendRecord_keeps)

/-! Fabric -/

theorem portState_keeps {z0 : State} (s : State) (n : Nat) (x : PortSt) (h_s : Keeps z0 s) : Keeps z0 (State.portState s n x) := by
  unfold State.portState
  try dsimp only
  with_reducible repeat' (first | assumption | apply setPort_keeps | apply arrive_keeps)

theorem trainPort_keeps {z0 : State} (s : State) (n : Nat) (h_s : Keeps z0 s) : Keeps z0 (State.trainPort s n) := by
  unfold State.trainPort
  try dsimp only
  with_reducible repeat' (first | assumption | refine Keeps.ite ?_ ?_ | apply portState_keeps)

theorem enablePort_keeps {z0 : State} (s : State) (n : Nat) (h_s : Keeps z0 s) : Keeps z0 (State.enablePort s n) := by
  unfold State.enablePort
  try dsimp only
  with_reducible repeat' (first | assumption | apply setObj_keeps | apply trainPort_keeps)

theorem execPortEnable_keeps {z0 : State} (n : Port) (s : State) (h_s : Keeps z0 s) : KeepsX z0 (execPortEnable n s) := by
  unfold execPortEnable
  try dsimp only
  with_reducible repeat' (first | assumption | refine KeepsX.next ?_ | apply enablePort_keeps)

theorem leaveActive_keeps {z0 : State} (s : State) (n : Nat) (x : PortSt) (h_s : Keeps z0 s) : Keeps z0 (State.leaveActive s n x) := by
  unfold State.leaveActive
  try dsimp only
  with_reducible repeat' (first | assumption | refine Keeps.fold _ ?_ (fun _ _ _ => ?_) | apply setPort_keeps | apply spray_keeps | apply respray_keeps | apply resendThrough_keeps | dsimp only [Keeps.lit_eq] | split)

theorem holdPort_keeps {z0 : State} (s : State) (n reason : Nat) (h_s : Keeps z0 s) : Keeps z0 (State.holdPort s n reason) := by
  unfold State.holdPort
  try dsimp only
  with_reducible repeat' (first | assumption | refine Keeps.ite ?_ ?_ | apply portState_keeps | apply bump_keeps | apply arrive_keeps | apply setObj_keeps | apply logEvent_keeps | apply leaveActive_keeps)

theorem disablePort_keeps {z0 : State} (s : State) (n : Nat) (h_s : Keeps z0 s) : Keeps z0 (State.disablePort s n) := by
  unfold State.disablePort
  try dsimp only
  with_reducible repeat' (first | assumption | refine Keeps.ite ?_ ?_ | apply setObj_keeps | apply portState_keeps | apply leaveActive_keeps)

theorem execLanesTrained_keeps {z0 : State} (n : Port) (s : State) (h_s : Keeps z0 s) : KeepsX z0 (execLanesTrained n s) := by
  unfold execLanesTrained
  try dsimp only
  with_reducible repeat' (first | assumption | refine Keeps.ite ?_ ?_ | refine KeepsX.next ?_ | apply portState_keeps)

theorem execPcsLock_keeps {z0 : State} (n : Port) (s : State) (h_s : Keeps z0 s) : KeepsX z0 (execPcsLock n s) := by
  unfold execPcsLock
  try dsimp only
  with_reducible repeat' (first | assumption | refine Keeps.ite ?_ ?_ | refine KeepsX.next ?_ | apply portState_keeps)

theorem execPortStateTimeout_keeps {z0 : State} (n : Port) (s : State) (h_s : Keeps z0 s) : KeepsX z0 (execPortStateTimeout n s) := by
  unfold execPortStateTimeout
  try dsimp only
  with_reducible repeat' (first | assumption | refine Keeps.ite ?_ ?_ | refine KeepsX.next ?_ | apply holdPort_keeps | split)

theorem activatePort_keeps {z0 : State} (s : State) (n : Nat) (x : PortSt) (h : Hello) (h_s : Keeps z0 s) : Keeps z0 (State.activatePort s n x h) := by
  unfold State.activatePort
  try dsimp only
  with_reducible repeat' (first | assumption | refine Keeps.ite ?_ ?_ | apply portState_keeps | apply sendCredit_keeps | apply respray_keeps | apply arrive_keeps | dsimp only [Keeps.lit_eq])

theorem proof_keeps {z0 : State} (s : State) (n : Nat) (h_s : Keeps z0 s) : Keeps z0 (State.proof s n) := by
  unfold State.proof
  try dsimp only
  with_reducible repeat' (first | assumption | apply setPort_keeps)

theorem noteNeighbour_keeps {z0 : State} (s : State) (n : Nat) (h : Hello) (h_s : Keeps z0 s) : Keeps z0 (State.noteNeighbour s n h) := by
  unfold State.noteNeighbour
  try dsimp only
  with_reducible repeat' (first | assumption | apply setObj_keeps)

theorem hello_keeps {z0 : State} (s : State) (n : Nat) (h : Hello) (h_s : Keeps z0 s) : Keeps z0 (State.hello s n h) := by
  unfold State.hello
  try dsimp only
  with_reducible repeat' (first | assumption | refine Keeps.ite ?_ ?_ | apply proof_keeps | apply setPort_keeps | apply holdPort_keeps | apply noteNeighbour_keeps | apply activatePort_keeps | apply setObj_keeps | split)

theorem execHello_keeps {z0 : State} (n : Port) (h : Hello) (s : State) (h_s : Keeps z0 s) : KeepsX z0 (execHello n h s) := by
  unfold execHello
  try dsimp only
  with_reducible repeat' (first | assumption | refine KeepsX.next ?_ | apply hello_keeps)

theorem execHelloTimer_keeps {z0 : State} (n : Port) (s : State) (h_s : Keeps z0 s) : KeepsX z0 (execHelloTimer n s) := by
  unfold execHelloTimer
  try dsimp only
  with_reducible repeat' (first | assumption | refine Keeps.ite ?_ ?_ | refine KeepsX.next ?_ | apply setPort_keeps | apply sendControl_keeps)

theorem execLossOfLock_keeps {z0 : State} (n : Port) (pcs : Bool) (s : State) (h_s : Keeps z0 s) : KeepsX z0 (execLossOfLock n pcs s) := by
  unfold execLossOfLock
  try dsimp only
  with_reducible repeat' (first | assumption | refine Keeps.ite ?_ ?_ | refine KeepsX.next ?_ | apply holdPort_keeps)

theorem fecDegrade_keeps {z0 : State} (s : State) (n corrected uncorrectable : Nat) (h_s : Keeps z0 s) : Keeps z0 (State.fecDegrade s n corrected uncorrectable) := by
  unfold State.fecDegrade
  try dsimp only
  with_reducible repeat' (first | assumption | refine Keeps.ite ?_ ?_ | apply bumpBy_keeps | apply arrive_keeps | apply holdPort_keeps)

theorem execFecDegrade_keeps {z0 : State} (n : Port) (corrected uncorrectable : Nat) (s : State) (h_s : Keeps z0 s) : KeepsX z0 (execFecDegrade n corrected uncorrectable s) := by
  unfold execFecDegrade
  try dsimp only
  with_reducible repeat' (first | assumption | refine KeepsX.next ?_ | apply fecDegrade_keeps)

theorem execLivenessTimeout_keeps {z0 : State} (n : Port) (s : State) (h_s : Keeps z0 s) : KeepsX z0 (execLivenessTimeout n s) := by
  unfold execLivenessTimeout
  try dsimp only
  with_reducible repeat' (first | assumption | refine Keeps.ite ?_ ?_ | refine KeepsX.next ?_ | apply holdPort_keeps)

theorem execHoldDownExpiry_keeps {z0 : State} (n : Port) (s : State) (h_s : Keeps z0 s) : KeepsX z0 (execHoldDownExpiry n s) := by
  unfold execHoldDownExpiry
  try dsimp only
  with_reducible repeat' (first | assumption | refine Keeps.ite ?_ ?_ | refine KeepsX.next ?_ | apply portState_keeps)

theorem takeCredit_keeps {z0 : State} (s : State) (n : Nat) (grants : List Nat) (h_s : Keeps z0 s) : Keeps z0 (State.takeCredit s n grants) := by
  unfold State.takeCredit
  try dsimp only
  with_reducible repeat' (first | assumption | refine Keeps.ite ?_ ?_ | apply setPort_keeps | apply respray_keeps)

theorem execCredit_keeps {z0 : State} (n : Port) (grants : List Nat) (s : State) (h_s : Keeps z0 s) : KeepsX z0 (execCredit n grants s) := by
  unfold execCredit
  try dsimp only
  with_reducible repeat' (first | assumption | refine KeepsX.next ?_ | apply takeCredit_keeps)

theorem execCreditTimer_keeps {z0 : State} (n : Port) (s : State) (h_s : Keeps z0 s) : KeepsX z0 (execCreditTimer n s) := by
  unfold execCreditTimer
  try dsimp only
  with_reducible repeat' (first | assumption | refine Keeps.ite ?_ ?_ | refine KeepsX.next ?_ | apply sendCredit_keeps)

theorem pathDown_keeps {z0 : State} (s : State) (n dst : Nat) (h_s : Keeps z0 s) : Keeps z0 (State.pathDown s n dst) := by
  unfold State.pathDown
  try dsimp only
  with_reducible repeat' (first | assumption | apply proof_keeps | apply bump_keeps | apply respray_keeps | dsimp only [Keeps.lit_eq])

theorem execPathDown_keeps {z0 : State} (n : Port) (dst : Nat) (s : State) (h_s : Keeps z0 s) : KeepsX z0 (execPathDown n dst s) := by
  unfold execPathDown
  try dsimp only
  with_reducible repeat' (first | assumption | refine KeepsX.next ?_ | apply pathDown_keeps)

theorem execPathDownHoldExpiry_keeps {z0 : State} (n : Port) (dst : Nat) (s : State) (h_s : Keeps z0 s) : KeepsX z0 (execPathDownHoldExpiry n dst s) := by
  unfold execPathDownHoldExpiry
  try dsimp only
  with_reducible repeat' (first | assumption | refine Keeps.ite ?_ ?_ | refine KeepsX.next ?_ | apply respray_keeps | dsimp only [Keeps.lit_eq] | split)

theorem discardAtPort_keeps {z0 : State} (s : State) (n : Nat) (h_s : Keeps z0 s) : Keeps z0 (State.discardAtPort s n) := by
  unfold State.discardAtPort
  try dsimp only
  with_reducible repeat' (first | assumption | apply bump_keeps | apply arrive_keeps)

theorem offerHeld_keeps {z0 : State} (s : State) (test : State → Packet → Bool) (n : Nat) (h_s : Keeps z0 s) : Keeps z0 (State.offerHeld s test n) := by
  unfold State.offerHeld
  try dsimp only
  with_reducible repeat' (first | assumption | refine Keeps.ite ?_ ?_ | refine Keeps.fold _ ?_ (fun _ _ _ => ?_) | apply setPort_keeps | apply accept_keeps | apply returnUnits_keeps | refine Keeps.ofO (by assumption) ?_ | split)

theorem retryHeld_keeps {z0 : State} (s : State) (h_s : Keeps z0 s) : Keeps z0 (State.retryHeld s) := by
  unfold State.retryHeld
  try dsimp only
  with_reducible repeat' (first | assumption | refine Keeps.fold _ ?_ (fun _ _ _ => ?_) | apply offerHeld_keeps)

theorem deliverPacket_keeps {z0 : State} (s : State) (n : Nat) (k : Packet) (h_s : Keeps z0 s) : Keeps z0 (State.deliverPacket s n k) := by
  unfold State.deliverPacket
  try dsimp only
  with_reducible repeat' (first | assumption | refine Keeps.ite ?_ ?_ | apply bump_keeps | apply returnUnits_keeps | apply accept_keeps | apply retryHeld_keeps | apply setPort_keeps | refine Keeps.ofO (by assumption) ?_ | split)

theorem forwardPacket_keeps {z0 : State} (s : State) (n : Nat) (k : Packet) (h_s : Keeps z0 s) : Keeps z0 (State.forwardPacket s n k) := by
  unfold State.forwardPacket
  try dsimp only
  with_reducible repeat' (first | assumption | refine Keeps.ite ?_ ?_ | apply returnUnits_keeps | apply bump_keeps | apply discardNoRoute_keeps | apply arrive_keeps | apply spray_keeps)

theorem cutShort_keeps {z0 : State} (s : State) (n : Nat) (k : Packet) (h_s : Keeps z0 s) : Keeps z0 (State.cutShort s n k) := by
  unfold State.cutShort
  try dsimp only
  with_reducible repeat' (first | assumption | apply setPort_keeps | dsimp only [Keeps.lit_eq] | split)

theorem badPacket_keeps {z0 : State} (s : State) (n : Nat) (cut : Bool) (k : Packet) (h_s : Keeps z0 s) : Keeps z0 (State.badPacket s n cut k) := by
  unfold State.badPacket
  try dsimp only
  with_reducible repeat' (first | assumption | refine Keeps.ite ?_ ?_ | apply discardAtPort_keeps | apply returnUnits_keeps | apply setPort_keeps | apply cutShort_keeps)

theorem receivePacket_keeps {z0 : State} (s : State) (n : Nat) (first cut : Bool) (k : Packet) (h_s : Keeps z0 s) : Keeps z0 (State.receivePacket s n first cut k) := by
  unfold State.receivePacket
  try dsimp only
  with_reducible repeat' (first | assumption | refine Keeps.ite ?_ ?_ | apply setPort_keeps | apply proof_keeps | apply bump_keeps | apply discardAtPort_keeps | apply badPacket_keeps | apply returnUnits_keeps | apply deliverPacket_keeps | apply forwardPacket_keeps)

theorem execPacketReceive_keeps {z0 : State} (n : Port) (first cut : Bool) (k : Packet) (s : State) (h_s : Keeps z0 s) : KeepsX z0 (execPacketReceive n first cut k s) := by
  unfold execPacketReceive
  try dsimp only
  with_reducible repeat' (first | assumption | refine KeepsX.next ?_ | apply receivePacket_keeps)

theorem writeNode_keeps {z0 : State} (s : State) (node : Nat) (h_s : Keeps z0 s) : KeepsO z0 (State.writeNode s node) := by
  unfold State.writeNode
  try dsimp only
  with_reducible repeat' (first | assumption | exact KeepsO.none | refine KeepsO.ite ?_ ?_ | refine KeepsO.some ?_ | apply setObj_keeps)

theorem execNodeIdWrite_keeps {z0 : State} (node : Nat) (s : State) (h_s : Keeps z0 s) : KeepsX z0 (execNodeIdWrite node s) := by
  unfold execNodeIdWrite
  try dsimp only
  with_reducible repeat' (first | assumption | refine KeepsX.next ?_ | refine Keeps.getD ?_ ?_ | apply writeNode_keeps)

theorem commitRoutes_keeps {z0 : State} (s : State) (h_s : Keeps z0 s) : KeepsO z0 (State.commitRoutes s) := by
  unfold State.commitRoutes
  try dsimp only
  with_reducible repeat' (first | assumption | exact KeepsO.none | refine KeepsO.ite ?_ ?_ | refine KeepsO.some ?_ | apply respray_keeps | dsimp only [Keeps.lit_eq])

theorem execRoutingCommit_keeps {z0 : State} (s : State) (h_s : Keeps z0 s) : KeepsX z0 (execRoutingCommit s) := by
  unfold execRoutingCommit
  try dsimp only
  with_reducible repeat' (first | assumption | refine KeepsX.next ?_ | refine Keeps.getD ?_ ?_ | apply commitRoutes_keeps)

theorem reassemblyTimeout_keeps {z0 : State} (s : State) (source msg : Nat) (h_s : Keeps z0 s) : Keeps z0 (State.reassemblyTimeout s source msg) := by
  unfold State.reassemblyTimeout
  try dsimp only
  with_reducible repeat' (first | assumption | refine Keeps.ite ?_ ?_ | apply bump_keeps | apply arrive_keeps | apply retryHeld_keeps | dsimp only [Keeps.lit_eq])

theorem execReassemblyTimeout_keeps {z0 : State} (source msg : Nat) (s : State) (h_s : Keeps z0 s) : KeepsX z0 (execReassemblyTimeout source msg s) := by
  unfold execReassemblyTimeout
  try dsimp only
  with_reducible repeat' (first | assumption | refine KeepsX.next ?_ | apply reassemblyTimeout_keeps)

theorem missDone_keeps {z0 : State} (s : State) (c ns : Nat) (h_s : Keeps z0 s) : Keeps z0 (State.missDone s c ns) := by
  unfold State.missDone
  try dsimp only
  with_reducible repeat' (first | assumption | refine Keeps.ite ?_ ?_ | refine Keeps.fold _ ?_ (fun _ _ _ => ?_) | refine Keeps.getD ?_ ?_ | apply makeRoom_keeps | apply setConduit_keeps | apply setObj_keeps | apply acceptClear_keeps | apply pump_keeps | apply retryHeld_keeps | dsimp only [Keeps.lit_eq])

theorem execMissFetchDone_keeps {z0 : State} (conduit ns : Nat) (s : State) (h_s : Keeps z0 s) : KeepsX z0 (execMissFetchDone conduit ns s) := by
  unfold execMissFetchDone
  try dsimp only
  with_reducible repeat' (first | assumption | refine KeepsX.next ?_ | apply missDone_keeps)

/-! Transfers -/

theorem setMove_keeps {z0 : State} (s : State) (r : Route) (m : Transfer) (h_s : Keeps z0 s) : Keeps z0 (State.setMove s r m) := by
  unfold State.setMove
  try dsimp only
  with_reducible repeat' (first | assumption | apply setChart_keeps | dsimp only [Keeps.lit_eq] | split)

theorem sendEntries_keeps {z0 : State} (s : State) (c : Nat) (r : Route) (m : Transfer) (seqId : Nat) (e : Seq) (h_s : Keeps z0 s) : Keeps z0 (State.sendEntries s c r m seqId e).1 := by
  unfold State.sendEntries
  try dsimp only
  with_reducible repeat' (first | assumption | refine KeepsF.fold _ ?_ (fun _ _ _ => ?_) | refine KeepsF.ite ?_ ?_ | apply convey_keeps | apply pageAccess_keeps | dsimp only [Keeps.lit_eq] | split)

theorem setPairState_keeps {z0 : State} (s : State) (st : PairState) (h_s : Keeps z0 s) : Keeps z0 (State.setPairState s st) := by
  unfold State.setPairState
  try dsimp only
  with_reducible repeat' (first | assumption | refine Keeps.ite ?_ ?_ | apply arrive_keeps | dsimp only [Keeps.lit_eq])

theorem dropRebuild_keeps {z0 : State} (s : State) (h_s : Keeps z0 s) : Keeps z0 (State.dropRebuild s) := by
  unfold State.dropRebuild
  try dsimp only
  with_reducible repeat' (first | assumption | refine Keeps.ite ?_ ?_ | apply setPairState_keeps | apply giveUpRecords_keeps | dsimp only [Keeps.lit_eq])

theorem strand_keeps {z0 : State} (s : State) (r : Route) (seqId : Nat) (h_s : Keeps z0 s) : Keeps z0 (State.strand s r seqId) := by
  unfold State.strand
  try dsimp only
  with_reducible repeat' (first | assumption | apply dropRebuild_keeps | apply setMove_keeps | apply setChart_keeps | split)

theorem advance_keeps {z0 : State} (s : State) (r : Route) (l : Nat) (h_s : Keeps z0 s) : Keeps z0 (State.advance s r l) := by
  induction l generalizing s r with
  | zero =>
    unfold State.advance
    try dsimp only
    with_reducible repeat' assumption
  | succ n ih =>
    unfold State.advance
    try dsimp only
    with_reducible repeat' (first | assumption | refine Keeps.ite ?_ ?_ | apply setMove_keeps | apply strand_keeps | apply failReads_keeps | apply sendEntries_keeps | apply setPairState_keeps | apply setChart_keeps | apply convey_keeps | apply ih | dsimp only [Keeps.lit_eq] | split)

theorem carry_keeps {z0 : State} (s : State) (r : Route) (h_s : Keeps z0 s) : Keeps z0 (State.carry s r) := by
  unfold State.carry
  try dsimp only
  with_reducible repeat' (first | assumption | apply advance_keeps)

theorem rerunHolds_keeps {z0 : State} (s : State) (i : Nat) (h_s : Keeps z0 s) : Keeps z0 (State.rerunHolds s i) := by
  unfold State.rerunHolds
  try dsimp only
  with_reducible repeat' (first | assumption | refine Keeps.fold _ ?_ (fun _ _ _ => ?_) | apply request_keeps | dsimp only [Keeps.lit_eq])

theorem settleChart_keeps {z0 : State} (s : State) (i : Nat) (h_s : Keeps z0 s) : Keeps z0 (State.settleChart s i) := by
  unfold State.settleChart
  try dsimp only
  with_reducible repeat' (first | assumption | refine Keeps.ite ?_ ?_ | apply setChart_keeps | apply arrive_keeps)

theorem leaveTransit_keeps {z0 : State} (s : State) (i idx : Nat) (stranded : List (Nat × Nat)) (h_s : Keeps z0 s) : Keeps z0 (State.leaveTransit s i idx stranded) := by
  unfold State.leaveTransit
  try dsimp only
  with_reducible repeat' (first | assumption | apply setChart_keeps | apply settleChart_keeps | apply rerunHolds_keeps)

theorem freeStaged_keeps {z0 : State} (s : State) (l : List Staged) (h_s : Keeps z0 s) : Keeps z0 (State.freeStaged s l) := by
  unfold State.freeStaged
  try dsimp only
  with_reducible repeat' (first | assumption | refine Keeps.ite ?_ ?_ | refine Keeps.fold _ ?_ (fun _ _ _ => ?_) | dsimp only [Keeps.lit_eq] | split)

theorem freeStage_keeps {z0 : State} (s : State) (c : Nat) (h_s : Keeps z0 s) : Keeps z0 (State.freeStage s c) := by
  unfold State.freeStage
  try dsimp only
  with_reducible repeat' (first | assumption | apply freeStaged_keeps | dsimp only [Keeps.lit_eq] | split)

theorem conduitError_keeps {z0 : State} (s : State) (c reason : Nat) (h_s : Keeps z0 s) : Keeps z0 (State.conduitError s c reason) := by
  unfold State.conduitError
  try dsimp only
  with_reducible repeat' (first | assumption | refine Keeps.ite ?_ ?_ | refine Keeps.fold _ ?_ (fun _ _ _ => ?_) | apply setConduit_keeps | apply bump_keeps | apply arrive_keeps | apply freeStage_keeps | apply dropRebuild_keeps | apply setMove_keeps | apply setChart_keeps | dsimp only [Keeps.lit_eq] | split)

theorem conduitReady_keeps {z0 : State} (s : State) (c : Nat) (h_s : Keeps z0 s) : Keeps z0 (State.conduitReady s c) := by
  unfold State.conduitReady
  try dsimp only
  with_reducible repeat' (first | assumption | refine Keeps.ite ?_ ?_ | refine Keeps.fold _ ?_ (fun _ _ _ => ?_) | apply setMove_keeps | apply carry_keeps)

theorem bucketPlaced_keeps {z0 : State} (s : State) (code : Nat) (h_s : Keeps z0 s) : Keeps z0 (State.bucketPlaced s code) := by
  unfold State.bucketPlaced
  try dsimp only
  with_reducible repeat' (first | assumption | refine Keeps.ite ?_ ?_ | apply leaveTransit_keeps | split)

theorem hear_keeps {z0 : State} (s : State) (h : CHdr) (h_s : Keeps z0 s) : Keeps z0 (State.hear s h) := by
  unfold State.hear
  try dsimp only
  with_reducible repeat' (first | assumption | refine Keeps.fold _ ?_ (fun _ _ _ => ?_) | apply takeAck_keeps | apply bucketPlaced_keeps)

theorem numbered_keeps {z0 : State} (s : State) (h : CHdr) (len : Nat) (effect : State → State) (h_effect : ∀ t, Keeps z0 t → Keeps z0 (effect t)) (h_s : Keeps z0 s) : Keeps z0 (State.numbered s h len effect) := by
  unfold State.numbered
  try dsimp only
  with_reducible repeat' (first | assumption | refine Keeps.ite ?_ ?_ | apply bump_keeps | apply hear_keeps | apply placeMessage_keeps | apply maybeClose_keeps | apply sendAck_keeps | apply h_effect | split)

theorem setStage_keeps {z0 : State} (s : State) (c : Nat) (g : Stage) (h_s : Keeps z0 s) : Keeps z0 (State.setStage s c g) := by
  unfold State.setStage
  try dsimp only
  with_reducible repeat' (first | assumption | dsimp only [Keeps.lit_eq])

theorem addStaged_keeps {z0 : State} (s : State) (c : Nat) (p : Staged) (h_s : Keeps z0 s) : Keeps z0 (State.addStaged s c p) := by
  unfold State.addStaged
  try dsimp only
  with_reducible repeat' (first | assumption | apply setStage_keeps | apply freeStaged_keeps)

theorem stageBad_keeps {z0 : State} (s : State) (c seqId : Nat) (h_s : Keeps z0 s) : Keeps z0 (State.stageBad s c seqId) := by
  unfold State.stageBad
  try dsimp only
  with_reducible repeat' (first | assumption | apply setStage_keeps)

theorem writePage_keeps {z0 : State} (s : State) (k : Nat) (hdr : PageHdr) (data : List Nat) (h_s : Keeps z0 s) : Keeps z0 (State.writePage s k hdr data) := by
  unfold State.writePage
  try dsimp only
  with_reducible repeat' (first | assumption | refine Keeps.fold _ ?_ (fun _ _ _ => ?_) | apply writeStack_keeps)

theorem stagePage_keeps {z0 : State} (s : State) (c : Nat) (u : Put) (hdr : PageHdr) (data : List Nat) (h_s : Keeps z0 s) : Keeps z0 (State.stagePage s c u hdr data) := by
  unfold State.stagePage
  try dsimp only
  with_reducible repeat' (first | assumption | refine Keeps.ite ?_ ?_ | apply stageBad_keeps | apply writePage_keeps | apply putFrame_keeps | apply setStage_keeps | apply addStaged_keeps | dsimp only [Keeps.lit_eq] | split)

theorem execPutPage_keeps {z0 : State} (h : CHdr) (u : Put) (hdr : PageHdr) (data : List Nat) (s : State) (h_s : Keeps z0 s) : KeepsX z0 (execPutPage h u hdr data s) := by
  unfold execPutPage
  try dsimp only
  with_reducible repeat' (first | assumption | refine KeepsX.next ?_ | apply numbered_keeps | apply stagePage_keeps | intro _)

theorem stageRecord_keeps {z0 : State} (s : State) (c : Nat) (u : Put) (rec : List Nat) (h_s : Keeps z0 s) : Keeps z0 (State.stageRecord s c u rec) := by
  unfold State.stageRecord
  try dsimp only
  with_reducible repeat' (first | assumption | refine Keeps.ite ?_ ?_ | apply stageBad_keeps | apply takeSpill_keeps | apply addStaged_keeps | refine Keeps.ofP' (by assumption) ?_ | split)

theorem execPutRecord_keeps {z0 : State} (h : CHdr) (u : Put) (record : List Nat) (s : State) (h_s : Keeps z0 s) : KeepsX z0 (execPutRecord h u record s) := by
  unfold execPutRecord
  try dsimp only
  with_reducible repeat' (first | assumption | refine KeepsX.next ?_ | apply numbered_keeps | apply stageRecord_keeps | intro _)

theorem stageRef_keeps {z0 : State} (s : State) (c : Nat) (u : Put) (h_s : Keeps z0 s) : Keeps z0 (State.stageRef s c u) := by
  unfold State.stageRef
  try dsimp only
  with_reducible repeat' (first | assumption | apply stageBad_keeps | apply addStaged_keeps | split)

theorem execPutRef_keeps {z0 : State} (h : CHdr) (u : Put) (s : State) (h_s : Keeps z0 s) : KeepsX z0 (execPutRef h u s) := by
  unfold execPutRef
  try dsimp only
  with_reducible repeat' (first | assumption | refine KeepsX.next ?_ | apply numbered_keeps | apply stageRef_keeps | intro _)

theorem linkSealed_keeps {z0 : State} (s : State) (c seqId b base : Nat) (counts : List Nat) (code : Nat) (h_s : Keeps z0 s) : KeepsO z0 (State.linkSealed s c seqId b base counts code) := by
  unfold State.linkSealed
  try dsimp only
  with_reducible repeat' (first | assumption | exact KeepsO.none | refine Keeps.ite ?_ ?_ | refine KeepsO.ite ?_ ?_ | refine KeepsO.some ?_ | refine Keeps.fold _ ?_ (fun _ _ _ => ?_) | apply setStage_keeps | apply recount_keeps | apply journal_keeps | apply chargeBy_keeps | apply setSeq_keeps | apply freeStaged_keeps | split)

theorem refuseSealed_keeps {z0 : State} (s : State) (c seqId : Nat) (h_s : Keeps z0 s) : Keeps z0 (State.refuseSealed s c seqId) := by
  unfold State.refuseSealed
  try dsimp only
  with_reducible repeat' (first | assumption | apply setStage_keeps | apply freeStaged_keeps)

theorem answerSeal_keeps {z0 : State} (s : State) (c seqId result : Nat) (h_s : Keeps z0 s) : Keeps z0 (State.answerSeal s c seqId result) := by
  unfold State.answerSeal
  try dsimp only
  with_reducible repeat' (first | assumption | apply convey_keeps)

theorem sealPlaced_keeps {z0 : State} (s : State) (c seqId b base : Nat) (counts : List Nat) (code : Nat) (h_s : Keeps z0 s) : Keeps z0 (State.sealPlaced s c seqId b base counts code) := by
  unfold State.sealPlaced
  try dsimp only
  with_reducible repeat' (first | assumption | exact KeepsO.none | refine KeepsO.ite ?_ ?_ | apply linkSealed_keeps | apply refuseSealed_keeps | apply answerSeal_keeps | apply setChart_keeps | apply bump_keeps | refine Keeps.ofO (by assumption) ?_ | split)

theorem execSeal_keeps {z0 : State} (h : CHdr) (seqId : Nat) (binding : Binding) (base : Pol) (counts : List Nat) (state : Nat) (s : State) (h_s : Keeps z0 s) : KeepsX z0 (execSeal h seqId binding base counts state s) := by
  unfold execSeal
  try dsimp only
  with_reducible repeat' (first | assumption | refine KeepsX.next ?_ | apply numbered_keeps | apply sealPlaced_keeps | intro _)

theorem dropMoved_keeps {z0 : State} (s : State) (r : Route) (seqId : Nat) (e : Seq) (h_s : Keeps z0 s) : Keeps z0 (State.dropMoved s r seqId e) := by
  unfold State.dropMoved
  try dsimp only
  with_reducible repeat' (first | assumption | refine Keeps.ite ?_ ?_ | apply dropAll_keeps | apply setSeq_keeps | apply dropRefs_keeps | split)

theorem sealedPlaced_keeps {z0 : State} (s : State) (seqId : Nat) (refused : Bool) (h_s : Keeps z0 s) : Keeps z0 (State.sealedPlaced s seqId refused) := by
  unfold State.sealedPlaced
  try dsimp only
  with_reducible repeat' (first | assumption | refine Keeps.ite ?_ ?_ | apply strand_keeps | apply carry_keeps | apply setChart_keeps | apply endEvery_keeps | apply dropMoved_keeps | apply bump_keeps | dsimp only [Keeps.lit_eq] | split)

theorem execSealed_keeps {z0 : State} (h : CHdr) (seqId : Nat) (refused : Bool) (s : State) (h_s : Keeps z0 s) : KeepsX z0 (execSealed h seqId refused s) := by
  unfold execSealed
  try dsimp only
  with_reducible repeat' (first | assumption | refine KeepsX.next ?_ | apply numbered_keeps | apply sealedPlaced_keeps | intro _)

theorem bucketDone_keeps {z0 : State} (s : State) (c i bucket span : Nat) (stranded : List Nat) (h_s : Keeps z0 s) : Keeps z0 (State.bucketDone s c i bucket span stranded) := by
  unfold State.bucketDone
  try dsimp only
  with_reducible repeat' (first | assumption | refine Keeps.ite ?_ ?_ | apply setStage_keeps | apply freeStaged_keeps | apply leaveTransit_keeps | split)

theorem execBucketDone_keeps {z0 : State} (h : CHdr) (comp : Comp) (bucket span : Nat) (stranded : List Nat) (s : State) (h_s : Keeps z0 s) : KeepsX z0 (execBucketDone h comp bucket span stranded s) := by
  unfold execBucketDone
  try dsimp only
  with_reducible repeat' (first | assumption | refine KeepsX.next ?_ | apply numbered_keeps | apply bucketDone_keeps | intro _)

theorem execClose_keeps {z0 : State} (h : CHdr) (s : State) (h_s : Keeps z0 s) : KeepsX z0 (execClose h s) := by
  unfold execClose
  try dsimp only
  with_reducible repeat' (first | assumption | refine KeepsX.next ?_ | apply numbered_keeps | apply setConduit_keeps | intro _)

theorem adoptPairConduit_keeps {z0 : State} (s : State) (c node : Nat) (h_s : Keeps z0 s) : Keeps z0 (State.adoptPairConduit s c node) := by
  unfold State.adoptPairConduit
  try dsimp only
  with_reducible repeat' (first | assumption | refine Keeps.ite ?_ ?_ | dsimp only [Keeps.lit_eq])

theorem execOpenMsg_keeps {z0 : State} (h : CHdr) (node window : Nat) (s : State) (h_s : Keeps z0 s) : KeepsX z0 (execOpenMsg h node window s) := by
  unfold execOpenMsg
  try dsimp only
  with_reducible repeat' (first | assumption | refine KeepsX.next ?_ | apply openReceived_keeps | apply adoptPairConduit_keeps | apply conduitReady_keeps | split)

theorem openAcked_keeps {z0 : State} (s : State) (h : CHdr) (code : Nat) (h_s : Keeps z0 s) : Keeps z0 (State.openAcked s h code) := by
  unfold State.openAcked
  try dsimp only
  with_reducible repeat' (first | assumption | refine Keeps.ite ?_ ?_ | apply bump_keeps | apply setConduit_keeps | apply conduitReady_keeps | apply conduitError_keeps)

theorem execOpenAck_keeps {z0 : State} (h : CHdr) (_node code : Nat) (s : State) (h_s : Keeps z0 s) : KeepsX z0 (execOpenAck h _node code s) := by
  unfold execOpenAck
  try dsimp only
  with_reducible repeat' (first | assumption | refine KeepsX.next ?_ | apply openAcked_keeps)

theorem execAck_keeps {z0 : State} (h : CHdr) (s : State) (h_s : Keeps z0 s) : KeepsX z0 (execAck h s) := by
  unfold execAck
  try dsimp only
  with_reducible repeat' (first | assumption | refine Keeps.ite ?_ ?_ | refine KeepsX.next ?_ | apply hear_keeps | apply bump_keeps)

theorem conduitRetry_keeps {z0 : State} (s : State) (c seq : Nat) (h_s : Keeps z0 s) : Keeps z0 (State.conduitRetry s c seq) := by
  unfold State.conduitRetry
  try dsimp only
  with_reducible repeat' (first | assumption | refine Keeps.ite ?_ ?_ | apply conduitError_keeps | apply setConduit_keeps | apply sendPlain_keeps | apply bump_keeps | apply transmit_keeps | split)

theorem execConduitRetry_keeps {z0 : State} (conduit seq : Nat) (s : State) (h_s : Keeps z0 s) : KeepsX z0 (execConduitRetry conduit seq s) := by
  unfold execConduitRetry
  try dsimp only
  with_reducible repeat' (first | assumption | refine KeepsX.next ?_ | apply conduitRetry_keeps)

theorem execNoAnswerToOpen_keeps {z0 : State} (conduit : Nat) (s : State) (h_s : Keeps z0 s) : KeepsX z0 (execNoAnswerToOpen conduit s) := by
  unfold execNoAnswerToOpen
  try dsimp only
  with_reducible repeat' (first | assumption | refine KeepsX.next ?_ | apply conduitRetry_keeps)

theorem conduitOpen_keeps {z0 : State} (s : State) (h_s : Keeps z0 s) : KeepsO z0 (State.conduitOpen s) := by
  unfold State.conduitOpen
  try dsimp only
  with_reducible repeat' (first | assumption | exact KeepsO.none | refine KeepsO.ite ?_ ?_ | refine KeepsO.some ?_ | apply openConduit_keeps)

theorem execConduitOpenControl_keeps {z0 : State} (s : State) (h_s : Keeps z0 s) : KeepsX z0 (execConduitOpenControl s) := by
  unfold execConduitOpenControl
  try dsimp only
  with_reducible repeat' (first | assumption | refine KeepsX.next ?_ | refine Keeps.getD ?_ ?_ | apply conduitOpen_keeps)

theorem conduitClose_keeps {z0 : State} (s : State) (h_s : Keeps z0 s) : KeepsO z0 (State.conduitClose s) := by
  unfold State.conduitClose
  try dsimp only
  with_reducible repeat' (first | assumption | exact KeepsO.none | refine KeepsO.ite ?_ ?_ | refine KeepsO.some ?_ | apply convey_keeps | apply setConduit_keeps)

theorem execConduitCloseControl_keeps {z0 : State} (s : State) (h_s : Keeps z0 s) : KeepsX z0 (execConduitCloseControl s) := by
  unfold execConduitCloseControl
  try dsimp only
  with_reducible repeat' (first | assumption | refine KeepsX.next ?_ | refine Keeps.getD ?_ ?_ | apply conduitClose_keeps)

theorem conduitReset_keeps {z0 : State} (s : State) (h_s : Keeps z0 s) : KeepsO z0 (State.conduitReset s) := by
  unfold State.conduitReset
  try dsimp only
  with_reducible repeat' (first | assumption | exact KeepsO.none | refine KeepsO.ite ?_ ?_ | refine KeepsO.some ?_ | apply setConduit_keeps)

theorem execConduitResetControl_keeps {z0 : State} (s : State) (h_s : Keeps z0 s) : KeepsX z0 (execConduitResetControl s) := by
  unfold execConduitResetControl
  try dsimp only
  with_reducible repeat' (first | assumption | refine KeepsX.next ?_ | refine Keeps.getD ?_ ?_ | apply conduitReset_keeps)

theorem sendSeal_keeps {z0 : State} (s : State) (r : Route) (seqId : Nat) (h_s : Keeps z0 s) : Keeps z0 (State.sendSeal s r seqId) := by
  unfold State.sendSeal
  try dsimp only
  with_reducible repeat' (first | assumption | refine Keeps.ite ?_ ?_ | apply strand_keeps | apply carry_keeps | apply sendEntries_keeps | apply convey_keeps | apply setMove_keeps | split)

theorem transferFreeze_keeps {z0 : State} (s : State) (i seqId : Nat) (h_s : Keeps z0 s) : Keeps z0 (State.transferFreeze s i seqId) := by
  unfold State.transferFreeze
  try dsimp only
  with_reducible repeat' (first | assumption | refine Keeps.ite ?_ ?_ | apply setMove_keeps | apply sendSeal_keeps | split)

theorem execTransferFreeze_keeps {z0 : State} (comp : Comp) (seqId : Nat) (s : State) (h_s : Keeps z0 s) : KeepsX z0 (execTransferFreeze comp seqId s) := by
  unfold execTransferFreeze
  try dsimp only
  with_reducible repeat' (first | assumption | refine KeepsX.next ?_ | apply transferFreeze_keeps)

theorem freezeLimit_keeps {z0 : State} (s : State) (i seqId : Nat) (h_s : Keeps z0 s) : Keeps z0 (State.freezeLimit s i seqId) := by
  unfold State.freezeLimit
  try dsimp only
  with_reducible repeat' (first | assumption | refine Keeps.ite ?_ ?_ | apply endEvery_keeps | apply bumpBy_keeps | apply sendSeal_keeps | split)

theorem execFreezeLimitExpiry_keeps {z0 : State} (comp : Comp) (seqId : Nat) (s : State) (h_s : Keeps z0 s) : KeepsX z0 (execFreezeLimitExpiry comp seqId s) := by
  unfold execFreezeLimitExpiry
  try dsimp only
  with_reducible repeat' (first | assumption | refine KeepsX.next ?_ | apply freezeLimit_keeps)

/-! Charts -/

theorem chartState_keeps {z0 : State} (s : State) (i : Nat) (c : Chart) (h_s : Keeps z0 s) : Keeps z0 (State.chartState s i c) := by
  unfold State.chartState
  try dsimp only
  with_reducible repeat' (first | assumption | apply setChart_keeps | apply arrive_keeps)

theorem sendChart_keeps {z0 : State} (s : State) (i op node epoch word : Nat) (h_s : Keeps z0 s) : Keeps z0 (State.sendChart s i op node epoch word) := by
  unfold State.sendChart
  try dsimp only
  with_reducible repeat' (first | assumption | apply sendSystem_keeps | dsimp only [Keeps.lit_eq])

theorem sendCharts_keeps {z0 : State} (s : State) (i op epoch word : Nat) (nodes : List Nat) (h_s : Keeps z0 s) : Keeps z0 (State.sendCharts s i op epoch word nodes) := by
  unfold State.sendCharts
  try dsimp only
  with_reducible repeat' (first | assumption | refine Keeps.fold _ ?_ (fun _ _ _ => ?_) | apply sendChart_keeps)

theorem commitIfAll_keeps {z0 : State} (s : State) (i : Nat) (h_s : Keeps z0 s) : Keeps z0 (State.commitIfAll s i) := by
  unfold State.commitIfAll
  try dsimp only
  with_reducible repeat' (first | assumption | refine Keeps.ite ?_ ?_ | apply chartState_keeps | apply sendCharts_keeps)

theorem proposeChart_keeps {z0 : State} (s : State) (i : Nat) (h_s : Keeps z0 s) : KeepsO z0 (State.proposeChart s i) := by
  unfold State.proposeChart
  try dsimp only
  with_reducible repeat' (first | assumption | exact KeepsO.none | refine KeepsO.ite ?_ ?_ | refine KeepsO.some ?_ | apply dutyTry_keeps | apply setObj_keeps | apply chartState_keeps | apply sendCharts_keeps | apply commitIfAll_keeps)

theorem noteSlice_keeps {z0 : State} (s : State) (i : Nat) (h_s : Keeps z0 s) : Keeps z0 (State.noteSlice s i) := by
  unfold State.noteSlice
  try dsimp only
  with_reducible repeat' (first | assumption | refine Keeps.ite ?_ ?_ | apply byDuty_keeps | apply setObj_keeps | intro _)

theorem execChartPropose_keeps {z0 : State} (comp : Comp) (s : State) (h_s : Keeps z0 s) : KeepsX z0 (execChartPropose comp s) := by
  unfold execChartPropose
  try dsimp only
  with_reducible repeat' (first | assumption | refine KeepsX.next ?_ | refine Keeps.getD ?_ ?_ | apply proposeChart_keeps | apply noteSlice_keeps)

theorem chartPrepare_keeps {z0 : State} (s : State) (i node epoch : Nat) (changes : List (Nat × Nat)) (digest : Nat) (h_s : Keeps z0 s) : Keeps z0 (State.chartPrepare s i node epoch changes digest) := by
  unfold State.chartPrepare
  try dsimp only
  with_reducible repeat' (first | assumption | refine Keeps.ite ?_ ?_ | apply sendChart_keeps | apply setObj_keeps | apply chartState_keeps)

theorem execChartPrepare_keeps {z0 : State} (comp : Comp) (node epoch : Nat) (changes : List (Nat × Nat)) (digest : Nat) (s : State) (h_s : Keeps z0 s) : KeepsX z0 (execChartPrepare comp node epoch changes digest s) := by
  unfold execChartPrepare
  try dsimp only
  with_reducible repeat' (first | assumption | refine KeepsX.next ?_ | apply byDuty_keeps | apply chartPrepare_keeps | intro _)

theorem chartPrepared_keeps {z0 : State} (s : State) (i node epoch : Nat) (h_s : Keeps z0 s) : Keeps z0 (State.chartPrepared s i node epoch) := by
  unfold State.chartPrepared
  try dsimp only
  with_reducible repeat' (first | assumption | refine Keeps.ite ?_ ?_ | apply setChart_keeps | apply commitIfAll_keeps)

theorem execPrepared_keeps {z0 : State} (comp : Comp) (node epoch : Nat) (s : State) (h_s : Keeps z0 s) : KeepsX z0 (execPrepared comp node epoch s) := by
  unfold execPrepared
  try dsimp only
  with_reducible repeat' (first | assumption | refine KeepsX.next ?_ | apply byDuty_keeps | apply chartPrepared_keeps | intro _)

theorem chartRefused_keeps {z0 : State} (s : State) (i node epoch : Nat) (h_s : Keeps z0 s) : Keeps z0 (State.chartRefused s i node epoch) := by
  unfold State.chartRefused
  try dsimp only
  with_reducible repeat' (first | assumption | refine Keeps.ite ?_ ?_ | apply setObj_keeps | apply sendCharts_keeps | apply chartState_keeps)

theorem execChartRefuse_keeps {z0 : State} (comp : Comp) (node epoch _reason : Nat) (s : State) (h_s : Keeps z0 s) : KeepsX z0 (execChartRefuse comp node epoch _reason s) := by
  unfold execChartRefuse
  try dsimp only
  with_reducible repeat' (first | assumption | refine KeepsX.next ?_ | apply byDuty_keeps | apply chartRefused_keeps | intro _)

theorem chartCommit_keeps {z0 : State} (s : State) (i epoch boundary : Nat) (h_s : Keeps z0 s) : Keeps z0 (State.chartCommit s i epoch boundary) := by
  unfold State.chartCommit
  try dsimp only
  with_reducible repeat' (first | assumption | refine Keeps.ite ?_ ?_ | apply setChart_keeps | apply sendChart_keeps)

theorem execChartCommit_keeps {z0 : State} (comp : Comp) (epoch boundary : Nat) (s : State) (h_s : Keeps z0 s) : KeepsX z0 (execChartCommit comp epoch boundary s) := by
  unfold execChartCommit
  try dsimp only
  with_reducible repeat' (first | assumption | refine KeepsX.next ?_ | apply byDuty_keeps | apply chartCommit_keeps | intro _)

theorem chartCommitted_keeps {z0 : State} (s : State) (i node epoch : Nat) (h_s : Keeps z0 s) : Keeps z0 (State.chartCommitted s i node epoch) := by
  unfold State.chartCommitted
  try dsimp only
  with_reducible repeat' (first | assumption | refine Keeps.ite ?_ ?_ | apply setChart_keeps)

theorem execCommitted_keeps {z0 : State} (comp : Comp) (node epoch : Nat) (s : State) (h_s : Keeps z0 s) : KeepsX z0 (execCommitted comp node epoch s) := by
  unfold execCommitted
  try dsimp only
  with_reducible repeat' (first | assumption | refine KeepsX.next ?_ | apply byDuty_keeps | apply chartCommitted_keeps | intro _)

theorem chartAbort_keeps {z0 : State} (s : State) (i epoch : Nat) (h_s : Keeps z0 s) : Keeps z0 (State.chartAbort s i epoch) := by
  unfold State.chartAbort
  try dsimp only
  with_reducible repeat' (first | assumption | refine Keeps.ite ?_ ?_ | apply chartState_keeps)

theorem execChartAbort_keeps {z0 : State} (comp : Comp) (epoch : Nat) (s : State) (h_s : Keeps z0 s) : KeepsX z0 (execChartAbort comp epoch s) := by
  unfold execChartAbort
  try dsimp only
  with_reducible repeat' (first | assumption | refine KeepsX.next ?_ | apply byDuty_keeps | apply chartAbort_keeps | intro _)

theorem chartResend_keeps {z0 : State} (s : State) (i node : Nat) (h_s : Keeps z0 s) : Keeps z0 (State.chartResend s i node) := by
  unfold State.chartResend
  try dsimp only
  with_reducible repeat' (first | assumption | refine Keeps.ite ?_ ?_ | apply setChart_keeps | apply sendChart_keeps)

theorem execChartResend_keeps {z0 : State} (comp : Comp) (node : Nat) (s : State) (h_s : Keeps z0 s) : KeepsX z0 (execChartResend comp node s) := by
  unfold execChartResend
  try dsimp only
  with_reducible repeat' (first | assumption | refine KeepsX.next ?_ | apply byDuty_keeps | apply chartResend_keeps | intro _)

theorem openTransfers_keeps {z0 : State} (s : State) (i : Nat) (h_s : Keeps z0 s) : Keeps z0 (State.openTransfers s i) := by
  unfold State.openTransfers
  try dsimp only
  with_reducible repeat' (first | assumption | refine Keeps.fold _ ?_ (fun _ _ _ => ?_) | apply openTo_keeps | refine Keeps.ofP' (by assumption) ?_ | split)

theorem commitChart_keeps {z0 : State} (s : State) (i : Nat) (h_s : Keeps z0 s) : Keeps z0 (State.commitChart s i) := by
  unfold State.commitChart
  try dsimp only
  with_reducible repeat' (first | assumption | refine Keeps.ite ?_ ?_ | apply chartState_keeps | apply sendChart_keeps | apply openTransfers_keeps | apply rerunHolds_keeps)

theorem chartBoundary_keeps {z0 : State} (s : State) (i : Nat) (h_s : Keeps z0 s) : Keeps z0 (State.chartBoundary s i) := by
  unfold State.chartBoundary
  try dsimp only
  with_reducible repeat' (first | assumption | refine Keeps.ite ?_ ?_ | apply commitChart_keeps | split)

theorem execChartBoundary_keeps {z0 : State} (comp : Comp) (s : State) (h_s : Keeps z0 s) : KeepsX z0 (execChartBoundary comp s) := by
  unfold execChartBoundary
  try dsimp only
  with_reducible repeat' (first | assumption | refine KeepsX.next ?_ | apply chartBoundary_keeps)

theorem chartCommitHere_keeps {z0 : State} (s : State) (i : Nat) (h_s : Keeps z0 s) : KeepsO z0 (State.chartCommitHere s i) := by
  unfold State.chartCommitHere
  try dsimp only
  with_reducible repeat' (first | assumption | exact KeepsO.none | refine Keeps.ite ?_ ?_ | refine KeepsO.ite ?_ ?_ | refine KeepsO.some ?_ | apply dutyTry_keeps | apply setChart_keeps)

theorem execChartCommitControl_keeps {z0 : State} (comp : Comp) (s : State) (h_s : Keeps z0 s) : KeepsX z0 (execChartCommitControl comp s) := by
  unfold execChartCommitControl
  try dsimp only
  with_reducible repeat' (first | assumption | refine KeepsX.next ?_ | refine Keeps.getD ?_ ?_ | apply chartCommitHere_keeps)

theorem chartAbortHere_keeps {z0 : State} (s : State) (i : Nat) (h_s : Keeps z0 s) : KeepsO z0 (State.chartAbortHere s i) := by
  unfold State.chartAbortHere
  try dsimp only
  with_reducible repeat' (first | assumption | exact KeepsO.none | refine KeepsO.ite ?_ ?_ | refine KeepsO.some ?_ | apply dutyTry_keeps | apply chartState_keeps)

theorem execChartAbortControl_keeps {z0 : State} (comp : Comp) (s : State) (h_s : Keeps z0 s) : KeepsX z0 (execChartAbortControl comp s) := by
  unfold execChartAbortControl
  try dsimp only
  with_reducible repeat' (first | assumption | refine KeepsX.next ?_ | refine Keeps.getD ?_ ?_ | apply chartAbortHere_keeps)

theorem chartInstall_keeps {z0 : State} (s : State) (i : Nat) (h_s : Keeps z0 s) : KeepsO z0 (State.chartInstall s i) := by
  unfold State.chartInstall
  try dsimp only
  with_reducible repeat' (first | assumption | exact KeepsO.none | refine KeepsO.ite ?_ ?_ | refine KeepsO.some ?_ | apply dutyTry_keeps | apply chartState_keeps | apply rerunHolds_keeps)

theorem execChartInstall_keeps {z0 : State} (comp : Comp) (s : State) (h_s : Keeps z0 s) : KeepsX z0 (execChartInstall comp s) := by
  unfold execChartInstall
  try dsimp only
  with_reducible repeat' (first | assumption | refine KeepsX.next ?_ | refine Keeps.getD ?_ ?_ | apply chartInstall_keeps | apply noteSlice_keeps)

theorem abandonTransfers_keeps {z0 : State} (s : State) (i : Nat) (h_s : Keeps z0 s) : KeepsO z0 (State.abandonTransfers s i) := by
  unfold State.abandonTransfers
  try dsimp only
  with_reducible repeat' (first | assumption | exact KeepsO.none | refine KeepsO.ite ?_ ?_ | refine KeepsO.some ?_ | apply dutyTry_keeps | apply freeStaged_keeps | apply setChart_keeps | apply settleChart_keeps | apply rerunHolds_keeps | dsimp only [Keeps.lit_eq])

theorem execAbandonTransfers_keeps {z0 : State} (comp : Comp) (s : State) (h_s : Keeps z0 s) : KeepsX z0 (execAbandonTransfers comp s) := by
  unfold execAbandonTransfers
  try dsimp only
  with_reducible repeat' (first | assumption | refine KeepsX.next ?_ | refine Keeps.getD ?_ ?_ | apply abandonTransfers_keeps)

/-! Expander -/

theorem malformedBlock_keeps {z0 : State} (s : State) (p lane : Nat) (h_s : Keeps z0 s) : Keeps z0 (State.malformedBlock s p lane) := by
  unfold State.malformedBlock
  try dsimp only
  with_reducible repeat' (first | assumption | apply setPolder_keeps | apply bump_keeps | apply arrive_keeps)

theorem execXblk_keeps {z0 : State} (p : Pol) (c : Slot) (m dst : Nat) (s : State) (h_s : Keeps z0 s) : KeepsX z0 (execXblk p c m dst s) := by
  unfold execXblk
  try dsimp only
  with_reducible repeat' (first | assumption | exact KeepsE.error | refine KeepsE.ite ?_ ?_ | refine KeepsX.next ?_ | refine KeepsF.fold _ ?_ (fun _ _ _ => ?_) | apply slot_keeps | apply guards_keeps | apply save_keeps | apply malformedBlock_keeps | apply setPolder_keeps | intro _ | split)

theorem execXtab_keeps {z0 : State} (p : Pol) (c : Slot) (src : Nat) (slot : Fin 4) (s : State) (h_s : Keeps z0 s) : KeepsX z0 (execXtab p c src slot s) := by
  unfold execXtab
  try dsimp only
  with_reducible repeat' (first | assumption | refine KeepsX.next ?_ | apply slot_keeps | apply guards_keeps | apply setPolder_keeps | intro _)

theorem fillQueue_keeps {z0 : State} (s : State) (p : Nat) (blocks : List (List Nat)) (h_s : Keeps z0 s) : Keeps z0 (State.fillQueue s p blocks) := by
  unfold State.fillQueue
  try dsimp only
  with_reducible repeat' (first | assumption | apply setPolder_keeps | apply setObj_keeps)

theorem execXreq_keeps {z0 : State} (p : Pol) (c : Slot) (bytes : Nat) (blocks : List (List Nat)) (drive : Option Drive) (s : State) (h_s : Keeps z0 s) : KeepsX z0 (execXreq p c bytes blocks drive s) := by
  unfold execXreq
  try dsimp only
  with_reducible repeat' (first | assumption | refine KeepsX.next ?_ | apply slot_keeps | apply guards_keeps | apply work_keeps | apply fillQueue_keeps | intro _)

theorem execDcopy_keeps {z0 : State} (p : Pol) (c : Slot) (bytes row unit off res : Nat) (toHbm upset : Bool) (s : State) (h_s : Keeps z0 s) : KeepsX z0 (execDcopy p c bytes row unit off res toHbm upset s) := by
  unfold execDcopy
  try dsimp only
  with_reducible repeat' (first | assumption | refine Keeps.ite ?_ ?_ | refine KeepsX.next ?_ | apply slot_keeps | apply guards_keeps | apply writeStack_keeps | apply unitRead_keeps | apply save_keeps | intro _)

theorem execDls_keeps {z0 : State} (p : Pol) (c : Slot) (bytes res core at_ : Nat) (toCore : Bool) (transpose : Nat) (s : State) (h_s : Keeps z0 s) : KeepsX z0 (execDls p c bytes res core at_ toCore transpose s) := by
  unfold execDls
  try dsimp only
  with_reducible repeat' (first | assumption | refine KeepsX.next ?_ | apply slot_keeps | apply guards_keeps | apply save_keeps | intro _)

theorem execDmesh_keeps {z0 : State} (p : Pol) (c : Slot) (bytes res : Nat) (dstPol : Pol) (dstOff : Nat) (s : State) (h_s : Keeps z0 s) : KeepsX z0 (execDmesh p c bytes res dstPol dstOff s) := by
  unfold execDmesh
  try dsimp only
  with_reducible repeat' (first | assumption | refine Keeps.ite ?_ ?_ | refine KeepsX.next ?_ | apply slot_keeps | apply guards_keeps | apply meshSend_keeps | intro _)

theorem execDfill_keeps {z0 : State} (p : Pol) (c : Slot) (bytes row unit off : Nat) (upset : Bool) (s : State) (h_s : Keeps z0 s) : KeepsX z0 (execDfill p c bytes row unit off upset s) := by
  unfold execDfill
  try dsimp only
  with_reducible repeat' (first | assumption | refine Keeps.ite ?_ ?_ | refine KeepsX.next ?_ | apply slot_keeps | apply guards_keeps | apply unitRead_keeps | apply fillQueue_keeps | intro _)

/-! Recovery -/

theorem goodFrame_keeps {z0 : State} (s : State) (f : Nat) (x : Frame) (h_s : Keeps z0 s) : Keeps z0 (State.goodFrame s f x) := by
  unfold State.goodFrame
  try dsimp only
  with_reducible repeat' (first | assumption | dsimp only [Keeps.lit_eq])

theorem recovered_keeps {z0 : State} (s : State) (f sub : Nat) (x : Frame) (h_s : Keeps z0 s) : Keeps z0 (State.recovered s f sub x) := by
  unfold State.recovered
  try dsimp only
  with_reducible repeat' (first | assumption | apply goodFrame_keeps | apply bump_keeps | apply arrive_keeps)

theorem reread_keeps {z0 : State} (s : State) (f : Nat) (pass : Bool) (h_s : Keeps z0 s) : Keeps z0 (State.reread s f pass) := by
  unfold State.reread
  try dsimp only
  with_reducible repeat' (first | assumption | refine Keeps.ite ?_ ?_ | apply goodFrame_keeps | apply recovered_keeps | apply convey_keeps | apply loseFrame_keeps | dsimp only [Keeps.lit_eq] | split)

theorem loseSequences_keeps {z0 : State} (s : State) (l : List Nat) (h_s : Keeps z0 s) : Keeps z0 (State.loseSequences s l) := by
  unfold State.loseSequences
  try dsimp only
  with_reducible repeat' (first | assumption | refine Keeps.ite ?_ ?_ | refine Keeps.fold _ ?_ (fun _ _ _ => ?_) | apply journal_keeps | dsimp only [Keeps.lit_eq] | split)

theorem execRereadDone_keeps {z0 : State} (frame : Nat) (pass : Bool) (seqs : List Nat) (s : State) (h_s : Keeps z0 s) : KeepsX z0 (execRereadDone frame pass seqs s) := by
  unfold execRereadDone
  try dsimp only
  with_reducible repeat' (first | assumption | refine Keeps.ite ?_ ?_ | refine KeepsX.next ?_ | apply reread_keeps | apply loseSequences_keeps)

theorem answerFetch_keeps {z0 : State} (s : State) (c seqId key : Nat) (ok : Bool) (h_s : Keeps z0 s) : Keeps z0 (State.answerFetch s c seqId key ok) := by
  unfold State.answerFetch
  try dsimp only
  with_reducible repeat' (first | assumption | refine Keeps.ite ?_ ?_ | apply convey_keeps | apply pageAccess_keeps | apply checkFailed_keeps | dsimp only [Keeps.lit_eq] | split)

theorem execFetch_keeps {z0 : State} (h : CHdr) (seqId key _frame : Nat) (checkOk : Bool) (s : State) (h_s : Keeps z0 s) : KeepsX z0 (execFetch h seqId key _frame checkOk s) := by
  unfold execFetch
  try dsimp only
  with_reducible repeat' (first | assumption | refine KeepsX.next ?_ | apply numbered_keeps | apply answerFetch_keeps | intro _)

theorem fetched_keeps {z0 : State} (s : State) (seqId key result : Nat) (hdr : PageHdr) (data : List Nat) (h_s : Keeps z0 s) : Keeps z0 (State.fetched s seqId key result hdr data) := by
  unfold State.fetched
  try dsimp only
  with_reducible repeat' (first | assumption | refine Keeps.ite ?_ ?_ | apply writePage_keeps | apply putFrame_keeps | apply loseFrame_keeps | split)

theorem execFetched_keeps {z0 : State} (h : CHdr) (seqId key result : Nat) (hdr : PageHdr) (data : List Nat) (s : State) (h_s : Keeps z0 s) : KeepsX z0 (execFetched h seqId key result hdr data s) := by
  unfold execFetched
  try dsimp only
  with_reducible repeat' (first | assumption | refine KeepsX.next ?_ | apply numbered_keeps | apply fetched_keeps | intro _)

theorem execFetchTimeout_keeps {z0 : State} (frame : Nat) (s : State) (h_s : Keeps z0 s) : KeepsX z0 (execFetchTimeout frame s) := by
  unfold execFetchTimeout
  try dsimp only
  with_reducible repeat' (first | assumption | refine Keeps.ite ?_ ?_ | refine KeepsX.next ?_ | apply loseFrame_keeps | split)

theorem retireRow_keeps {z0 : State} (s : State) (f : Nat) (h_s : Keeps z0 s) : Keeps z0 (State.retireRow s f) := by
  unfold State.retireRow
  try dsimp only
  with_reducible repeat' (first | assumption | apply bump_keeps | apply logEvent_keeps | dsimp only [Keeps.lit_eq])

theorem execRewriteReadback_keeps {z0 : State} (frame : Nat) (pass : Bool) (s : State) (h_s : Keeps z0 s) : KeepsX z0 (execRewriteReadback frame pass s) := by
  unfold execRewriteReadback
  try dsimp only
  with_reducible repeat' (first | assumption | refine Keeps.ite ?_ ?_ | refine KeepsX.next ?_ | apply recovered_keeps | apply retireRow_keeps | apply loseFrame_keeps | split)

theorem execPatrolRead_keeps {z0 : State} (frame : Nat) (upset : Bool) (corrections : Nat) (s : State) (h_s : Keeps z0 s) : KeepsX z0 (execPatrolRead frame upset corrections s) := by
  unfold execPatrolRead
  try dsimp only
  with_reducible repeat' (first | assumption | refine Keeps.ite ?_ ?_ | refine KeepsX.next ?_ | apply bumpBy_keeps | apply checkFailed_keeps | apply bump_keeps)

/-! Mirror -/

theorem enterSole_keeps {z0 : State} (s : State) (cause : Nat) (h_s : Keeps z0 s) : Keeps z0 (State.enterSole s cause) := by
  unfold State.enterSole
  try dsimp only
  with_reducible repeat' (first | assumption | apply setPairState_keeps | apply giveUpRecords_keeps | apply logEvent_keeps | apply dropRebuild_keeps | dsimp only [Keeps.lit_eq] | split)

theorem detach_keeps {z0 : State} (s : State) (h_s : Keeps z0 s) : Keeps z0 (State.detach s) := by
  unfold State.detach
  try dsimp only
  with_reducible repeat' (first | assumption | refine Keeps.ite ?_ ?_ | apply setPairState_keeps | dsimp only [Keeps.lit_eq])

theorem recordsPlaced_keeps {z0 : State} (s : State) (w : Nat) (h_s : Keeps z0 s) : Keeps z0 (State.recordsPlaced s w) := by
  unfold State.recordsPlaced
  extract_lets p n
  clear_value n
  split
  · exact h_s
  · exact sendWindow_keeps _ (commitRecords_keeps _ _ _ (Keeps.lit h_s))

theorem noteLack_keeps {z0 : State} (s : State) (n : Nat) (h_s : Keeps z0 s) : Keeps z0 (State.noteLack s n) := by
  unfold State.noteLack
  try dsimp only
  with_reducible repeat' (first | assumption | refine Keeps.ite ?_ ?_ | dsimp only [Keeps.lit_eq] | split)

theorem applyRecords_keeps {z0 : State} (s : State) (l : Nat) (h_s : Keeps z0 s) : Keeps z0 (State.applyRecords s l) := by
  induction l generalizing s with
  | zero =>
    unfold State.applyRecords
    try dsimp only
    with_reducible repeat' assumption
  | succ n ih =>
    unfold State.applyRecords
    try dsimp only
    with_reducible repeat' (first | assumption | refine Keeps.ite ?_ ?_ | apply request_keeps | apply noteLack_keeps | apply ih | split)

theorem mirrorRecord_keeps {z0 : State} (s : State) (seq placed : Nat) (r : Req) (h_s : Keeps z0 s) : Keeps z0 (State.mirrorRecord s seq placed r) := by
  unfold State.mirrorRecord
  extract_lets s1 n
  have h1 : Keeps z0 s1 := recordsPlaced_keeps _ _ h_s
  clear_value s1 n
  split
  · exact h1
  · split
    · exact recordDone_keeps _ _ _ h1
    · split
      · exact h1
      · exact applyRecords_keeps _ _ (Keeps.lit h1)

theorem execMirrorRecord_keeps {z0 : State} (seq placed : Nat) (r : Req) (s : State) (h_s : Keeps z0 s) : KeepsX z0 (execMirrorRecord seq placed r s) := by
  unfold execMirrorRecord
  try dsimp only
  with_reducible repeat' (first | assumption | refine KeepsX.next ?_ | apply mirrorRecord_keeps)

theorem mirrorAck_keeps {z0 : State} (s : State) (placed refused : Nat) (h_s : Keeps z0 s) : Keeps z0 (State.mirrorAck s placed refused) := by
  unfold State.mirrorAck
  try dsimp only
  with_reducible repeat' (first | assumption | refine Keeps.ite ?_ ?_ | apply recordsPlaced_keeps | apply enterSole_keeps)

theorem execMirrorAck_keeps {z0 : State} (placed refused : Nat) (s : State) (h_s : Keeps z0 s) : KeepsX z0 (execMirrorAck placed refused s) := by
  unfold execMirrorAck
  try dsimp only
  with_reducible repeat' (first | assumption | refine KeepsX.next ?_ | apply mirrorAck_keeps)

theorem mirrorRetry_keeps {z0 : State} (s : State) (seq : Nat) (h_s : Keeps z0 s) : Keeps z0 (State.mirrorRetry s seq) := by
  unfold State.mirrorRetry
  try dsimp only
  with_reducible repeat' (first | assumption | refine Keeps.ite ?_ ?_ | apply enterSole_keeps | apply sendRecord_keeps | split)

theorem execMirrorRetry_keeps {z0 : State} (seq : Nat) (s : State) (h_s : Keeps z0 s) : KeepsX z0 (execMirrorRetry seq s) := by
  unfold execMirrorRetry
  try dsimp only
  with_reducible repeat' (first | assumption | refine KeepsX.next ?_ | apply mirrorRetry_keeps)

theorem recordHoldExpiry_keeps {z0 : State} (s : State) (seq : Nat) (h_s : Keeps z0 s) : Keeps z0 (State.recordHoldExpiry s seq) := by
  unfold State.recordHoldExpiry
  try dsimp only
  with_reducible repeat' (first | assumption | refine Keeps.ite ?_ ?_ | apply sendMirrorAck_keeps | apply detach_keeps | apply logEvent_keeps | dsimp only [Keeps.lit_eq])

theorem execRecordHoldExpiry_keeps {z0 : State} (seq : Nat) (s : State) (h_s : Keeps z0 s) : KeepsX z0 (execRecordHoldExpiry seq s) := by
  unfold execRecordHoldExpiry
  try dsimp only
  with_reducible repeat' (first | assumption | refine KeepsX.next ?_ | apply recordHoldExpiry_keeps)

theorem openPair_keeps {z0 : State} (s : State) (h_s : Keeps z0 s) : KeepsO z0 (State.openPair s) := by
  unfold State.openPair
  try dsimp only
  with_reducible repeat' (first | assumption | exact KeepsO.none | refine KeepsO.some ?_ | apply openTo_keeps | refine Keeps.ofP' (by assumption) ?_ | dsimp only [Keeps.lit_eq] | split)

theorem releasePair_keeps {z0 : State} (s : State) (h_s : Keeps z0 s) : Keeps z0 (State.releasePair s) := by
  unfold State.releasePair
  try dsimp only
  with_reducible repeat' (first | assumption | refine Keeps.fold _ ?_ (fun _ _ _ => ?_) | apply endEvery_keeps | apply fail_keeps | apply undoMove_keeps | apply dropAll_keeps | dsimp only [Keeps.lit_eq] | split)

theorem beatState_keeps {z0 : State} (s : State) (b : Beat) (h_s : Keeps z0 s) : Keeps z0 (State.beatState s b) := by
  unfold State.beatState
  try dsimp only
  with_reducible repeat' (first | assumption | refine Keeps.ite ?_ ?_ | refine Keeps.getD ?_ ?_ | apply setPairState_keeps | apply openPair_keeps | apply enterSole_keeps | apply releasePair_keeps | dsimp only [Keeps.lit_eq] | split)

theorem pairBeat_keeps {z0 : State} (s : State) (n : Nat) (b : Beat) (h_s : Keeps z0 s) : Keeps z0 (State.pairBeat s n b) := by
  unfold State.pairBeat
  try dsimp only
  with_reducible repeat' (first | assumption | refine Keeps.ite ?_ ?_ | apply proof_keeps | apply recordsPlaced_keeps | apply beatState_keeps | dsimp only [Keeps.lit_eq])

theorem execPairBeat_keeps {z0 : State} (n : Port) (b : Beat) (s : State) (h_s : Keeps z0 s) : KeepsX z0 (execPairBeat n b s) := by
  unfold execPairBeat
  try dsimp only
  with_reducible repeat' (first | assumption | refine KeepsX.next ?_ | apply pairBeat_keeps)

theorem pairBeatTimer_keeps {z0 : State} (s : State) (h_s : Keeps z0 s) : Keeps z0 (State.pairBeatTimer s) := by
  unfold State.pairBeatTimer
  try dsimp only
  with_reducible repeat' (first | assumption | refine Keeps.ite ?_ ?_ | refine Keeps.fold _ ?_ (fun _ _ _ => ?_) | apply sendControl_keeps | apply bump_keeps | apply arrive_keeps | apply applyRecords_keeps | dsimp only [Keeps.lit_eq])

theorem execPairBeatTimer_keeps {z0 : State} (s : State) (h_s : Keeps z0 s) : KeepsX z0 (execPairBeatTimer s) := by
  unfold execPairBeatTimer
  try dsimp only
  with_reducible repeat' (first | assumption | refine KeepsX.next ?_ | apply pairBeatTimer_keeps)

theorem beatTimeout_keeps {z0 : State} (s : State) (h_s : Keeps z0 s) : Keeps z0 (State.beatTimeout s) := by
  unfold State.beatTimeout
  try dsimp only
  with_reducible repeat' (first | assumption | refine Keeps.ite ?_ ?_ | apply logEvent_keeps | apply enterSole_keeps)

theorem execBeatTimeout_keeps {z0 : State} (s : State) (h_s : Keeps z0 s) : KeepsX z0 (execBeatTimeout s) := by
  unfold execBeatTimeout
  try dsimp only
  with_reducible repeat' (first | assumption | refine KeepsX.next ?_ | apply beatTimeout_keeps)

theorem rebuild_keeps {z0 : State} (s : State) (h_s : Keeps z0 s) : KeepsO z0 (State.rebuild s) := by
  unfold State.rebuild
  try dsimp only
  with_reducible repeat' (first | assumption | exact KeepsO.none | refine KeepsO.ite ?_ ?_ | refine KeepsO.some ?_ | refine KeepsO.map ?_ (fun _ _ => ?_) | apply setPairState_keeps | apply setMove_keeps | apply carry_keeps | apply openPair_keeps | dsimp only [Keeps.lit_eq])

theorem execRebuild_keeps {z0 : State} (s : State) (h_s : Keeps z0 s) : KeepsX z0 (execRebuild s) := by
  unfold execRebuild
  try dsimp only
  with_reducible repeat' (first | assumption | refine KeepsX.next ?_ | refine Keeps.getD ?_ ?_ | apply rebuild_keeps)

theorem abandonRebuild_keeps {z0 : State} (s : State) (h_s : Keeps z0 s) : KeepsO z0 (State.abandonRebuild s) := by
  unfold State.abandonRebuild
  try dsimp only
  with_reducible repeat' (first | assumption | exact KeepsO.none | refine KeepsO.ite ?_ ?_ | refine KeepsO.some ?_ | apply dropRebuild_keeps)

theorem execAbandonRebuild_keeps {z0 : State} (s : State) (h_s : Keeps z0 s) : KeepsX z0 (execAbandonRebuild s) := by
  unfold execAbandonRebuild
  try dsimp only
  with_reducible repeat' (first | assumption | refine KeepsX.next ?_ | refine Keeps.getD ?_ ?_ | apply abandonRebuild_keeps)

theorem syncPairMode_keeps {z0 : State} (s : State) (h_s : Keeps z0 s) : Keeps z0 (State.syncPairMode s) := by
  unfold State.syncPairMode
  try dsimp only
  with_reducible repeat' (first | assumption | refine Keeps.ite ?_ ?_ | apply convey_keeps | apply setConduit_keeps | apply setPairState_keeps | apply giveUpRecords_keeps | dsimp only [Keeps.lit_eq])

theorem execPortDisable_keeps {z0 : State} (n : Port) (s : State) (h_s : Keeps z0 s) : KeepsX z0 (execPortDisable n s) := by
  unfold execPortDisable
  try dsimp only
  with_reducible repeat' (first | assumption | refine KeepsX.next ?_ | apply disablePort_keeps | apply syncPairMode_keeps)

theorem execStackInterfaceFailure_keeps {z0 : State} (p : Pol) (s : State) (h_s : Keeps z0 s) : KeepsX z0 (execStackInterfaceFailure p s) := by
  unfold execStackInterfaceFailure
  try dsimp only
  with_reducible repeat' (first | assumption | refine KeepsX.next ?_ | apply setPolder_keeps | apply arrive_keeps)

end Sys2Proof.Laws
end

