-- ==== Sys2Proof/Laws/KeepsDevice.lean ====
section
/-! SUPPORT. What every operation keeps, continued: power, security, metering, starts, the host and WOA. -/

namespace Sys2Proof.Laws

open Sys2Proof Sys2Proof.Machine

/-! Sleep -/

theorem toDamp_keeps {z0 : State} (s : State) (p : Nat) (h_s : Keeps z0 s) : Keeps z0 (State.toDamp s p) := by
  unfold State.toDamp
  try dsimp only
  with_reducible repeat' (first | assumption | refine Keeps.ite ?_ ?_ | apply setPolder_keeps | apply barrier_keeps)

theorem toDry_keeps {z0 : State} (s : State) (p : Nat) (h_s : Keeps z0 s) : Keeps z0 (State.toDry s p) := by
  unfold State.toDry
  try dsimp only
  with_reducible repeat' (first | assumption | refine Keeps.ite ?_ ?_ | apply setPolder_keeps | apply toDamp_keeps | apply barrier_keeps)

theorem toWet_keeps {z0 : State} (s : State) (p : Nat) (h_s : Keeps z0 s) : Keeps z0 (State.toWet s p) := by
  unfold State.toWet
  try dsimp only
  with_reducible repeat' (first | assumption | refine Keeps.ite ?_ ?_ | apply setPolder_keeps | apply bump_keeps | apply sleepTo_keeps)

theorem execDampIdleExpiry_keeps {z0 : State} (p : Pol) (s : State) (h_s : Keeps z0 s) : KeepsX z0 (execDampIdleExpiry p s) := by
  unfold execDampIdleExpiry
  try dsimp only
  with_reducible repeat' (first | assumption | refine Keeps.ite ?_ ?_ | refine KeepsX.next ?_ | apply toDamp_keeps)

theorem execDryIdleExpiry_keeps {z0 : State} (p : Pol) (s : State) (h_s : Keeps z0 s) : KeepsX z0 (execDryIdleExpiry p s) := by
  unfold execDryIdleExpiry
  try dsimp only
  with_reducible repeat' (first | assumption | refine Keeps.ite ?_ ?_ | refine KeepsX.next ?_ | apply toDry_keeps)

theorem execPolderWake_keeps {z0 : State} (p : Pol) (s : State) (h_s : Keeps z0 s) : KeepsX z0 (execPolderWake p s) := by
  unfold execPolderWake
  try dsimp only
  with_reducible repeat' (first | assumption | refine Keeps.ite ?_ ?_ | refine KeepsX.next ?_ | apply toWet_keeps)

theorem sleepControl_keeps {z0 : State} (s : State) (p : Nat) (h : SleepHold) (h_s : Keeps z0 s) : Keeps z0 (State.sleepControl s p h) := by
  unfold State.sleepControl
  try dsimp only
  with_reducible repeat' (first | assumption | refine Keeps.ite ?_ ?_ | apply setPolder_keeps | apply toWet_keeps | apply toDamp_keeps | apply toDry_keeps | split)

theorem execSleepAutomatic_keeps {z0 : State} (p : Pol) (s : State) (h_s : Keeps z0 s) : KeepsX z0 (execSleepAutomatic p s) := by
  unfold execSleepAutomatic
  try dsimp only
  with_reducible repeat' (first | assumption | refine KeepsX.next ?_ | apply sleepControl_keeps)

theorem execHoldWet_keeps {z0 : State} (p : Pol) (s : State) (h_s : Keeps z0 s) : KeepsX z0 (execHoldWet p s) := by
  unfold execHoldWet
  try dsimp only
  with_reducible repeat' (first | assumption | refine KeepsX.next ?_ | apply sleepControl_keeps)

theorem execHoldDamp_keeps {z0 : State} (p : Pol) (s : State) (h_s : Keeps z0 s) : KeepsX z0 (execHoldDamp p s) := by
  unfold execHoldDamp
  try dsimp only
  with_reducible repeat' (first | assumption | refine KeepsX.next ?_ | apply sleepControl_keeps)

theorem execHoldDry_keeps {z0 : State} (p : Pol) (s : State) (h_s : Keeps z0 s) : KeepsX z0 (execHoldDry p s) := by
  unfold execHoldDry
  try dsimp only
  with_reducible repeat' (first | assumption | refine KeepsX.next ?_ | apply sleepControl_keeps)

theorem automaticSleep_keeps {z0 : State} (s : State) (on : Bool) (h_s : Keeps z0 s) : Keeps z0 (State.automaticSleep s on) := by
  unfold State.automaticSleep
  try dsimp only
  with_reducible repeat' (first | assumption | refine Keeps.ite ?_ ?_ | refine Keeps.fold _ ?_ (fun _ _ _ => ?_) | apply setObj_keeps | apply toWet_keeps)

theorem execAutomaticSleepWrite_keeps {z0 : State} (on : Bool) (s : State) (h_s : Keeps z0 s) : KeepsX z0 (execAutomaticSleepWrite on s) := by
  unfold execAutomaticSleepWrite
  try dsimp only
  with_reducible repeat' (first | assumption | refine KeepsX.next ?_ | apply automaticSleep_keeps)

/-! Fences -/

theorem setFence_keeps {z0 : State} (s : State) (f : Fence) (h_s : Keeps z0 s) : Keeps z0 (State.setFence s f) := by
  unfold State.setFence
  try dsimp only
  with_reducible repeat' (first | assumption | apply logEvent_keeps | apply arrive_keeps | dsimp only [Keeps.lit_eq])

theorem fenceNow_keeps {z0 : State} (s : State) (h_s : Keeps z0 s) : Keeps z0 (State.fenceNow s) := by
  unfold State.fenceNow
  try dsimp only
  with_reducible repeat' (first | assumption | apply setFence_keeps | apply endEvery_keeps | apply endHolds_keeps | apply detach_keeps)

theorem fenceControl_keeps {z0 : State} (s : State) (h_s : Keeps z0 s) : KeepsO z0 (State.fenceControl s) := by
  unfold State.fenceControl
  try dsimp only
  with_reducible repeat' (first | assumption | exact KeepsO.none | refine KeepsO.ite ?_ ?_ | refine KeepsO.some ?_ | apply fenceNow_keeps)

theorem execFence_keeps {z0 : State} (s : State) (h_s : Keeps z0 s) : KeepsX z0 (execFence s) := by
  unfold execFence
  try dsimp only
  with_reducible repeat' (first | assumption | refine KeepsX.next ?_ | refine Keeps.getD ?_ ?_ | apply fenceControl_keeps)

theorem probation_keeps {z0 : State} (s : State) (h_s : Keeps z0 s) : KeepsO z0 (State.probation s) := by
  unfold State.probation
  try dsimp only
  with_reducible repeat' (first | assumption | exact KeepsO.none | refine KeepsO.ite ?_ ?_ | refine KeepsO.some ?_ | apply setFence_keeps)

theorem execProbation_keeps {z0 : State} (s : State) (h_s : Keeps z0 s) : KeepsX z0 (execProbation s) := by
  unfold execProbation
  try dsimp only
  with_reducible repeat' (first | assumption | refine KeepsX.next ?_ | refine Keeps.getD ?_ ?_ | apply probation_keeps)

theorem liftFence_keeps {z0 : State} (s : State) (epoch : Nat) (h_s : Keeps z0 s) : KeepsO z0 (State.liftFence s epoch) := by
  unfold State.liftFence
  try dsimp only
  with_reducible repeat' (first | assumption | exact KeepsO.none | refine KeepsO.ite ?_ ?_ | refine KeepsO.some ?_ | apply setFence_keeps | split)

theorem execLift_keeps {z0 : State} (epoch : Nat) (s : State) (h_s : Keeps z0 s) : KeepsX z0 (execLift epoch s) := by
  unfold execLift
  try dsimp only
  with_reducible repeat' (first | assumption | refine KeepsX.next ?_ | refine Keeps.getD ?_ ?_ | apply liftFence_keeps)

theorem execLeaseExpiry_keeps {z0 : State} (s : State) (h_s : Keeps z0 s) : KeepsX z0 (execLeaseExpiry s) := by
  unfold execLeaseExpiry
  try dsimp only
  with_reducible repeat' (first | assumption | refine Keeps.ite ?_ ?_ | refine KeepsX.next ?_ | apply fenceNow_keeps)

theorem renewLease_keeps {z0 : State} (s : State) (epoch : Nat) (h_s : Keeps z0 s) : KeepsO z0 (State.renewLease s epoch) := by
  unfold State.renewLease
  try dsimp only
  with_reducible repeat' (first | assumption | exact KeepsO.none | refine KeepsO.ite ?_ ?_ | refine KeepsO.some ?_ | dsimp only [Keeps.lit_eq])

theorem execLeaseRenewal_keeps {z0 : State} (epoch : Nat) (s : State) (h_s : Keeps z0 s) : KeepsX z0 (execLeaseRenewal epoch s) := by
  unfold execLeaseRenewal
  try dsimp only
  with_reducible repeat' (first | assumption | refine KeepsX.next ?_ | refine Keeps.getD ?_ ?_ | apply renewLease_keeps)

theorem writeLease_keeps {z0 : State} (s : State) (us : Nat) (h_s : Keeps z0 s) : Keeps z0 (State.writeLease s us) := by
  unfold State.writeLease
  try dsimp only
  with_reducible repeat' (first | assumption | dsimp only [Keeps.lit_eq])

theorem execLeaseWrite_keeps {z0 : State} (us : Nat) (s : State) (h_s : Keeps z0 s) : KeepsX z0 (execLeaseWrite us s) := by
  unfold execLeaseWrite
  try dsimp only
  with_reducible repeat' (first | assumption | refine KeepsX.next ?_ | apply writeLease_keeps)

theorem markOrphan_keeps {z0 : State} (s : State) (comp bucket : Nat) (h_s : Keeps z0 s) : KeepsO z0 (State.markOrphan s comp bucket) := by
  unfold State.markOrphan
  try dsimp only
  with_reducible repeat' (first | assumption | exact KeepsO.none | refine KeepsO.ite ?_ ?_ | refine KeepsO.some ?_ | dsimp only [Keeps.lit_eq])

theorem execOrphanMark_keeps {z0 : State} (comp bucket : Nat) (s : State) (h_s : Keeps z0 s) : KeepsX z0 (execOrphanMark comp bucket s) := by
  unfold execOrphanMark
  try dsimp only
  with_reducible repeat' (first | assumption | refine KeepsX.next ?_ | refine Keeps.getD ?_ ?_ | apply markOrphan_keeps)

theorem execOrphanClear_keeps {z0 : State} (comp bucket : Nat) (s : State) (h_s : Keeps z0 s) : KeepsX z0 (execOrphanClear comp bucket s) := by
  unfold execOrphanClear
  try dsimp only
  with_reducible repeat' (first | assumption | refine KeepsX.next ?_ | dsimp only [Keeps.lit_eq])

/-! Weights -/

theorem enableBinding_keeps {z0 : State} (s : State) (b : Nat) (h_s : Keeps z0 s) : Keeps z0 (State.enableBinding s b) := by
  unfold State.enableBinding
  try dsimp only
  with_reducible repeat' (first | assumption | refine Keeps.ite ?_ ?_ | apply setObj_keeps)

theorem execBindingEnable_keeps {z0 : State} (b : Binding) (s : State) (h_s : Keeps z0 s) : KeepsX z0 (execBindingEnable b s) := by
  unfold execBindingEnable
  try dsimp only
  with_reducible repeat' (first | assumption | refine KeepsX.next ?_ | apply enableBinding_keeps)

theorem unbindShape_keeps {z0 : State} (s : State) (b : Nat) (h_s : Keeps z0 s) : Keeps z0 (State.unbindShape s b) := by
  unfold State.unbindShape
  try dsimp only
  with_reducible repeat' (first | assumption | apply setObj_keeps)

theorem disableBinding_keeps {z0 : State} (s : State) (b : Nat) (h_s : Keeps z0 s) : KeepsO z0 (State.disableBinding s b) := by
  unfold State.disableBinding
  try dsimp only
  with_reducible repeat' (first | assumption | exact KeepsO.none | refine KeepsO.ite ?_ ?_ | refine KeepsO.some ?_ | apply unbindShape_keeps)

theorem execBindingDisable_keeps {z0 : State} (b : Binding) (s : State) (h_s : Keeps z0 s) : KeepsX z0 (execBindingDisable b s) := by
  unfold execBindingDisable
  try dsimp only
  with_reducible repeat' (first | assumption | refine KeepsX.next ?_ | refine Keeps.getD ?_ ?_ | apply disableBinding_keeps)

theorem writeShape_keeps {z0 : State} (s : State) (b sub value : Nat) (h_s : Keeps z0 s) : KeepsO z0 (State.writeShape s b sub value) := by
  unfold State.writeShape
  try dsimp only
  with_reducible repeat' (first | assumption | exact KeepsO.none | refine Keeps.ite ?_ ?_ | refine KeepsO.ite ?_ ?_ | refine KeepsO.some ?_ | apply unbindShape_keeps | apply setObj_keeps)

theorem execBindingShapeWrite_keeps {z0 : State} (b : Binding) (sub value : Nat) (s : State) (h_s : Keeps z0 s) : KeepsX z0 (execBindingShapeWrite b sub value s) := by
  unfold execBindingShapeWrite
  try dsimp only
  with_reducible repeat' (first | assumption | refine KeepsX.next ?_ | refine Keeps.getD ?_ ?_ | apply writeShape_keeps)

theorem addShare_keeps {z0 : State} (s : State) (b : Nat) (h : Share) (h_s : Keeps z0 s) : Keeps z0 (State.addShare s b h) := by
  unfold State.addShare
  try dsimp only
  with_reducible repeat' (first | assumption | apply setWeight_keeps)

theorem placeShare_keeps {z0 : State} (s : State) (b layer array : Nat) (bytes : List Nat) (h_s : Keeps z0 s) : KeepsO z0 (State.placeShare s b layer array bytes) := by
  unfold State.placeShare
  try dsimp only
  with_reducible repeat' (first | assumption | exact KeepsO.none | refine KeepsO.some ?_ | refine Keeps.fold _ ?_ (fun _ _ _ => ?_) | apply writeStack_keeps | apply addShare_keeps | apply setPolder_keeps | apply sealShare_keeps | apply takeExtents_keeps | apply setDrive_keeps | apply toFlash_keeps | split)

theorem placeShares_keeps {z0 : State} (b : Nat) (l : List (Nat × Nat × List Nat)) (s : State) (h_s : Keeps z0 s) : KeepsO z0 (s.placeShares b l) := by
  induction l generalizing s with
  | nil => exact KeepsO.some h_s
  | cons x l ih =>
    obtain ⟨i, j, bs⟩ := x
    rw [State.placeShares]
    split
    · exact ih _ (Keeps.ofO (by assumption) (placeShare_keeps _ _ _ _ _ h_s))
    · exact KeepsO.none

theorem dropWeights_keeps {z0 : State} (s : State) (b : Nat) (h_s : Keeps z0 s) : Keeps z0 (State.dropWeights s b) := by
  unfold State.dropWeights
  try dsimp only
  with_reducible repeat' (first | assumption | refine Keeps.ite ?_ ?_ | refine Keeps.fold _ ?_ (fun _ _ _ => ?_) | apply setPolder_keeps | apply setDrive_keeps | apply giveExtents_keeps | apply setWeight_keeps)

theorem unloadWeights_keeps {z0 : State} (s : State) (b : Nat) (h_s : Keeps z0 s) : Keeps z0 (State.unloadWeights s b) := by
  unfold State.unloadWeights
  try dsimp only
  with_reducible repeat' (first | assumption | refine Keeps.ite ?_ ?_ | apply dropWeights_keeps | apply setWeight_keeps | apply measure_keeps)

theorem endLoad_keeps {z0 : State} (s : State) (b result digest : Nat) (h_s : Keeps z0 s) : Keeps z0 (State.endLoad s b result digest) := by
  unfold State.endLoad
  try dsimp only
  with_reducible repeat' (first | assumption | refine Keeps.ite ?_ ?_ | apply setWeight_keeps | apply measure_keeps | apply dropWeights_keeps | apply setObj_keeps)

theorem startLoad_keeps {z0 : State} (s : State) (b : Nat) (header : List Nat) (segments : List (List Nat)) (sizes : List (List Nat)) (hasQ : Bool) (wFmt aFmt tables : Nat) (h_s : Keeps z0 s) : Keeps z0 (State.startLoad s b header segments sizes hasQ wFmt aFmt tables) := by
  unfold State.startLoad
  try dsimp only
  with_reducible repeat' (first | assumption | refine Keeps.ite ?_ ?_ | apply unloadWeights_keeps | apply setObj_keeps | apply setWeight_keeps | apply placeShares_keeps | refine Keeps.ofO (by assumption) ?_ | split)

theorem execWeightLoad_keeps {z0 : State} (b : Binding) (header : List Nat) (segments sizes : List (List Nat)) (hasQ : Bool) (wFmt aFmt : Fin 16) (tables : Nat) (s : State) (h_s : Keeps z0 s) : KeepsX z0 (execWeightLoad b header segments sizes hasQ wFmt aFmt tables s) := by
  unfold execWeightLoad
  try dsimp only
  with_reducible repeat' (first | assumption | refine KeepsX.next ?_ | apply startLoad_keeps)

theorem finishLoad_keeps {z0 : State} (s : State) (b : Nat) (h_s : Keeps z0 s) : Keeps z0 (State.finishLoad s b) := by
  unfold State.finishLoad
  try dsimp only
  with_reducible repeat' (first | assumption | apply endLoad_keeps)

theorem execWeightLoadEnd_keeps {z0 : State} (b : Binding) (s : State) (h_s : Keeps z0 s) : KeepsX z0 (execWeightLoadEnd b s) := by
  unfold execWeightLoadEnd
  try dsimp only
  with_reducible repeat' (first | assumption | refine KeepsX.next ?_ | apply finishLoad_keeps)

theorem requeue_keeps {z0 : State} (s : State) (seqId key : Nat) (h_s : Keeps z0 s) : Keeps z0 (State.requeue s seqId key) := by
  unfold State.requeue
  try dsimp only
  with_reducible repeat' (first | assumption | apply setPolder_keeps | split)

theorem loseStored_keeps {z0 : State} (s : State) (seqId key : Nat) (h_s : Keeps z0 s) : Keeps z0 (State.loseStored s seqId key) := by
  unfold State.loseStored
  try dsimp only
  with_reducible repeat' (first | assumption | apply setSeq_keeps | split)

theorem refetch_keeps {z0 : State} (s : State) (m : Malformed) (good : Bool) (h_s : Keeps z0 s) : Keeps z0 (State.refetch s m good) := by
  unfold State.refetch
  try dsimp only
  with_reducible repeat' (first | assumption | refine Keeps.ite ?_ ?_ | refine Keeps.fold _ ?_ (fun _ _ _ => ?_) | apply bump_keeps | apply endAny_keeps | apply unloadWeights_keeps | apply setObj_keeps | apply requeue_keeps | apply loseStored_keeps | split)

theorem execRefetchResult_keeps {z0 : State} (m : Malformed) (good : Bool) (s : State) (h_s : Keeps z0 s) : KeepsX z0 (execRefetchResult m good s) := by
  unfold execRefetchResult
  try dsimp only
  with_reducible repeat' (first | assumption | refine KeepsX.next ?_ | apply refetch_keeps)

theorem driveState_keeps {z0 : State} (s : State) (d : Nat) (st : DriveState) (reason : Nat) (h_s : Keeps z0 s) : Keeps z0 (State.driveState s d st reason) := by
  unfold State.driveState
  try dsimp only
  with_reducible repeat' (first | assumption | apply setDrive_keeps | apply arrive_keeps)

theorem withdraw_keeps {z0 : State} (s : State) (d reason : Nat) (h_s : Keeps z0 s) : Keeps z0 (State.withdraw s d reason) := by
  unfold State.withdraw
  try dsimp only
  with_reducible repeat' (first | assumption | refine Keeps.ite ?_ ?_ | refine Keeps.fold _ ?_ (fun _ _ _ => ?_) | apply driveState_keeps | apply logEvent_keeps | apply moveFailed_keeps | apply unloadWeights_keeps | apply setDrive_keeps | dsimp only [Keeps.lit_eq])

theorem health_keeps {z0 : State} (s : State) (d : Nat) (r : NvmeReply) (h_s : Keeps z0 s) : Keeps z0 (State.health s d r) := by
  unfold State.health
  try dsimp only
  with_reducible repeat' (first | assumption | refine Keeps.ite ?_ ?_ | apply setDrive_keeps | apply setObj_keeps | apply arrive_keeps | split)

theorem imageWritten_keeps {z0 : State} (s : State) (seqId d : Nat) (h_s : Keeps z0 s) : Keeps z0 (State.imageWritten s seqId d) := by
  unfold State.imageWritten
  try dsimp only
  with_reducible repeat' (first | assumption | refine Keeps.ite ?_ ?_ | apply setSeq_keeps | dsimp only [Keeps.lit_eq] | split)

theorem nvmeDone_keeps {z0 : State} (s : State) (d cmd : Nat) (ok : Bool) (r : NvmeReply) (h_s : Keeps z0 s) : Keeps z0 (State.nvmeDone s d cmd ok r) := by
  unfold State.nvmeDone
  try dsimp only
  with_reducible repeat' (first | assumption | refine Keeps.ite ?_ ?_ | apply health_keeps | apply imageWritten_keeps | apply moveFailed_keeps | apply setDrive_keeps | apply driveState_keeps | split)

theorem execNvmeCompletion_keeps {z0 : State} (d : Drive) (cmd : Nat) (ok : Bool) (r : NvmeReply) (s : State) (h_s : Keeps z0 s) : KeepsX z0 (execNvmeCompletion d cmd ok r s) := by
  unfold execNvmeCompletion
  try dsimp only
  with_reducible repeat' (first | assumption | refine KeepsX.next ?_ | apply nvmeDone_keeps)

theorem nvmeTimeout_keeps {z0 : State} (s : State) (d cmd : Nat) (h_s : Keeps z0 s) : Keeps z0 (State.nvmeTimeout s d cmd) := by
  unfold State.nvmeTimeout
  try dsimp only
  with_reducible repeat' (first | assumption | refine Keeps.ite ?_ ?_ | apply setDrive_keeps | apply bump_keeps | apply arrive_keeps | apply work_keeps | apply moveFailed_keeps | apply withdraw_keeps | dsimp only [Keeps.lit_eq])

theorem execNvmeCommandTimeout_keeps {z0 : State} (d : Drive) (cmd : Nat) (s : State) (h_s : Keeps z0 s) : KeepsX z0 (execNvmeCommandTimeout d cmd s) := by
  unfold execNvmeCommandTimeout
  try dsimp only
  with_reducible repeat' (first | assumption | refine KeepsX.next ?_ | apply nvmeTimeout_keeps)

theorem execDriveFatalStatus_keeps {z0 : State} (d : Drive) (s : State) (h_s : Keeps z0 s) : KeepsX z0 (execDriveFatalStatus d s) := by
  unfold execDriveFatalStatus
  try dsimp only
  with_reducible repeat' (first | assumption | refine KeepsX.next ?_ | apply withdraw_keeps)

theorem execDriveLinkLost_keeps {z0 : State} (d : Drive) (s : State) (h_s : Keeps z0 s) : KeepsX z0 (execDriveLinkLost d s) := by
  unfold execDriveLinkLost
  try dsimp only
  with_reducible repeat' (first | assumption | refine KeepsX.next ?_ | apply withdraw_keeps)

theorem driveInitTimeout_keeps {z0 : State} (s : State) (d : Nat) (h_s : Keeps z0 s) : Keeps z0 (State.driveInitTimeout s d) := by
  unfold State.driveInitTimeout
  try dsimp only
  with_reducible repeat' (first | assumption | refine Keeps.ite ?_ ?_ | apply driveState_keeps)

theorem execDriveInitialisationTimeout_keeps {z0 : State} (d : Drive) (s : State) (h_s : Keeps z0 s) : KeepsX z0 (execDriveInitialisationTimeout d s) := by
  unfold execDriveInitialisationTimeout
  try dsimp only
  with_reducible repeat' (first | assumption | refine KeepsX.next ?_ | apply driveInitTimeout_keeps)

theorem driveOffline_keeps {z0 : State} (s : State) (d : Nat) (h_s : Keeps z0 s) : KeepsO z0 (State.driveOffline s d) := by
  unfold State.driveOffline
  try dsimp only
  with_reducible repeat' (first | assumption | exact KeepsO.none | refine KeepsO.ite ?_ ?_ | refine KeepsO.some ?_ | apply dutyTry_keeps | apply driveState_keeps)

theorem execDriveOffline_keeps {z0 : State} (d : Drive) (s : State) (h_s : Keeps z0 s) : KeepsX z0 (execDriveOffline d s) := by
  unfold execDriveOffline
  try dsimp only
  with_reducible repeat' (first | assumption | refine KeepsX.next ?_ | refine Keeps.getD ?_ ?_ | apply driveOffline_keeps)

theorem driveReinit_keeps {z0 : State} (s : State) (d : Nat) (h_s : Keeps z0 s) : KeepsO z0 (State.driveReinit s d) := by
  unfold State.driveReinit
  try dsimp only
  with_reducible repeat' (first | assumption | exact KeepsO.none | refine KeepsO.ite ?_ ?_ | refine KeepsO.some ?_ | apply dutyTry_keeps | apply setDrive_keeps | apply driveState_keeps)

theorem execDriveReinitialise_keeps {z0 : State} (d : Drive) (s : State) (h_s : Keeps z0 s) : KeepsX z0 (execDriveReinitialise d s) := by
  unfold execDriveReinitialise
  try dsimp only
  with_reducible repeat' (first | assumption | refine KeepsX.next ?_ | refine Keeps.getD ?_ ?_ | apply driveReinit_keeps)

/-! Security -/

theorem nonce_keeps {z0 : State} (s : State) (nonce : Nat) (h_s : Keeps z0 s) : Keeps z0 (State.nonce s nonce) := by
  unfold State.nonce
  try dsimp only
  with_reducible repeat' (first | assumption | refine Keeps.ite ?_ ?_ | dsimp only [Keeps.lit_eq])

theorem execNonce_keeps {z0 : State} (nonce : Nat) (s : State) (h_s : Keeps z0 s) : KeepsX z0 (execNonce nonce s) := by
  unfold execNonce
  try dsimp only
  with_reducible repeat' (first | assumption | refine KeepsX.next ?_ | apply nonce_keeps)

theorem execReportStands_keeps {z0 : State} (signature : Nat) (s : State) (h_s : Keeps z0 s) : KeepsX z0 (execReportStands signature s) := by
  unfold execReportStands
  try dsimp only
  with_reducible repeat' (first | assumption | refine KeepsX.next ?_ | apply arrive_keeps | dsimp only [Keeps.lit_eq] | split)

theorem setJobSlot_keeps {z0 : State} (s : State) (k : Nat) (x : JobSlot) (h_s : Keeps z0 s) : Keeps z0 (State.setJobSlot s k x) := by
  unfold State.setJobSlot
  try dsimp only
  with_reducible repeat' (first | assumption | dsimp only [Keeps.lit_eq])

theorem envelope_keeps {z0 : State} (s : State) (r : Nat) (install : State → State) (h_install : ∀ t, Keeps z0 t → Keeps z0 (install t)) (h_s : Keeps z0 s) : Keeps z0 (State.envelope s r install) := by
  unfold State.envelope
  try dsimp only
  with_reducible repeat' (first | assumption | refine Keeps.ite ?_ ?_ | apply bump_keeps | apply arrive_keeps | apply h_install | dsimp only [Keeps.lit_eq])

theorem weightEnvelope_keeps {z0 : State} (s : State) (e : Envelope) (h_s : Keeps z0 s) : Keeps z0 (State.weightEnvelope s e) := by
  unfold State.weightEnvelope
  try dsimp only
  with_reducible repeat' (first | assumption | apply envelope_keeps | apply setWeight_keeps | intro _)

theorem execEnvelopeWeightKey_keeps {z0 : State} (e : Envelope) (s : State) (h_s : Keeps z0 s) : KeepsX z0 (execEnvelopeWeightKey e s) := by
  unfold execEnvelopeWeightKey
  try dsimp only
  with_reducible repeat' (first | assumption | refine KeepsX.next ?_ | apply weightEnvelope_keeps)

theorem jobEnvelope_keeps {z0 : State} (s : State) (e : Envelope) (h_s : Keeps z0 s) : Keeps z0 (State.jobEnvelope s e) := by
  unfold State.jobEnvelope
  try dsimp only
  with_reducible repeat' (first | assumption | apply envelope_keeps | apply setJobSlot_keeps | intro _)

theorem execEnvelopeJobKey_keeps {z0 : State} (e : Envelope) (s : State) (h_s : Keeps z0 s) : KeepsX z0 (execEnvelopeJobKey e s) := by
  unfold execEnvelopeJobKey
  try dsimp only
  with_reducible repeat' (first | assumption | refine KeepsX.next ?_ | apply jobEnvelope_keeps)

theorem sessionEnvelope_keeps {z0 : State} (s : State) (e : Envelope) (h_s : Keeps z0 s) : Keeps z0 (State.sessionEnvelope s e) := by
  unfold State.sessionEnvelope
  try dsimp only
  with_reducible repeat' (first | assumption | apply envelope_keeps | intro _ | dsimp only [Keeps.lit_eq])

theorem execEnvelopeSessionKeys_keeps {z0 : State} (e : Envelope) (s : State) (h_s : Keeps z0 s) : KeepsX z0 (execEnvelopeSessionKeys e s) := by
  unfold execEnvelopeSessionKeys
  try dsimp only
  with_reducible repeat' (first | assumption | refine KeepsX.next ?_ | apply sessionEnvelope_keeps)

theorem switchGeneration_keeps {z0 : State} (s : State) (h_s : Keeps z0 s) : KeepsO z0 (State.switchGeneration s) := by
  unfold State.switchGeneration
  try dsimp only
  with_reducible repeat' (first | assumption | exact KeepsO.none | refine KeepsO.ite ?_ ?_ | refine KeepsO.some ?_ | apply setJobSlot_keeps)

theorem execSwitchGeneration_keeps {z0 : State} (s : State) (h_s : Keeps z0 s) : KeepsX z0 (execSwitchGeneration s) := by
  unfold execSwitchGeneration
  try dsimp only
  with_reducible repeat' (first | assumption | refine KeepsX.next ?_ | refine Keeps.getD ?_ ?_ | apply switchGeneration_keeps)

theorem eraseGeneration_keeps {z0 : State} (s : State) (g : Bool) (h_s : Keeps z0 s) : KeepsO z0 (State.eraseGeneration s g) := by
  unfold State.eraseGeneration
  try dsimp only
  with_reducible repeat' (first | assumption | exact KeepsO.none | refine KeepsO.ite ?_ ?_ | refine KeepsO.some ?_ | apply setJobSlot_keeps)

theorem execEraseGeneration0_keeps {z0 : State} (s : State) (h_s : Keeps z0 s) : KeepsX z0 (execEraseGeneration0 s) := by
  unfold execEraseGeneration0
  try dsimp only
  with_reducible repeat' (first | assumption | refine KeepsX.next ?_ | refine Keeps.getD ?_ ?_ | apply eraseGeneration_keeps)

theorem execEraseGeneration1_keeps {z0 : State} (s : State) (h_s : Keeps z0 s) : KeepsX z0 (execEraseGeneration1 s) := by
  unfold execEraseGeneration1
  try dsimp only
  with_reducible repeat' (first | assumption | refine KeepsX.next ?_ | refine Keeps.getD ?_ ?_ | apply eraseGeneration_keeps)

theorem eraseSlot_keeps {z0 : State} (s : State) (h_s : Keeps z0 s) : Keeps z0 (State.eraseSlot s) := by
  unfold State.eraseSlot
  try dsimp only
  with_reducible repeat' (first | assumption | apply setJobSlot_keeps)

theorem execEraseSlot_keeps {z0 : State} (s : State) (h_s : Keeps z0 s) : KeepsX z0 (execEraseSlot s) := by
  unfold execEraseSlot
  try dsimp only
  with_reducible repeat' (first | assumption | refine KeepsX.next ?_ | apply eraseSlot_keeps)

theorem eraseKeys_keeps {z0 : State} (s : State) (h_s : Keeps z0 s) : Keeps z0 (State.eraseKeys s) := by
  unfold State.eraseKeys
  try dsimp only
  with_reducible repeat' (first | assumption | refine Keeps.ite ?_ ?_ | refine Keeps.fold _ ?_ (fun _ _ _ => ?_) | apply zeroFrame_keeps | apply endLoad_keeps | apply unloadWeights_keeps | apply setWeight_keeps | apply moveComplete_keeps | apply conduitError_keeps | apply sleepControl_keeps | dsimp only [Keeps.lit_eq])

theorem eraseIdentity_keeps {z0 : State} (s : State) (h_s : Keeps z0 s) : Keeps z0 (State.eraseIdentity s) := by
  unfold State.eraseIdentity
  try dsimp only
  with_reducible repeat' (first | assumption | dsimp only [Keeps.lit_eq])

theorem breach_keeps {z0 : State} (s : State) (source : Nat) (h_s : Keeps z0 s) : Keeps z0 (State.breach s source) := by
  unfold State.breach
  try dsimp only
  with_reducible repeat' (first | assumption | refine Keeps.ite ?_ ?_ | apply logEvent_keeps | apply setObj_keeps | apply bump_keeps | apply arrive_keeps | apply fenceNow_keeps | apply eraseKeys_keeps | apply eraseIdentity_keeps | dsimp only [Keeps.lit_eq])

theorem execBreach_keeps {z0 : State} (source : Nat) (s : State) (h_s : Keeps z0 s) : KeepsX z0 (execBreach source s) := by
  unfold execBreach
  try dsimp only
  with_reducible repeat' (first | assumption | refine Keeps.ite ?_ ?_ | refine KeepsX.next ?_ | apply breach_keeps)

theorem execSignatureRecheck_keeps {z0 : State} (ok : Bool) (s : State) (h_s : Keeps z0 s) : KeepsX z0 (execSignatureRecheck ok s) := by
  unfold execSignatureRecheck
  try dsimp only
  with_reducible repeat' (first | assumption | refine Keeps.ite ?_ ?_ | refine KeepsX.next ?_ | apply breach_keeps)

theorem entropyFailure_keeps {z0 : State} (s : State) (h_s : Keeps z0 s) : Keeps z0 (State.entropyFailure s) := by
  unfold State.entropyFailure
  try dsimp only
  with_reducible repeat' (first | assumption | apply bump_keeps | dsimp only [Keeps.lit_eq])

theorem execEntropyFailure_keeps {z0 : State} (s : State) (h_s : Keeps z0 s) : KeepsX z0 (execEntropyFailure s) := by
  unfold execEntropyFailure
  try dsimp only
  with_reducible repeat' (first | assumption | refine KeepsX.next ?_ | apply entropyFailure_keeps)

theorem execEntropyHealthTestPass_keeps {z0 : State} (s : State) (h_s : Keeps z0 s) : KeepsX z0 (execEntropyHealthTestPass s) := by
  unfold execEntropyHealthTestPass
  try dsimp only
  with_reducible repeat' (first | assumption | refine KeepsX.next ?_ | dsimp only [Keeps.lit_eq])

theorem lockPolicy_keeps {z0 : State} (s : State) (h_s : Keeps z0 s) : Keeps z0 (State.lockPolicy s) := by
  unfold State.lockPolicy
  try dsimp only
  with_reducible repeat' (first | assumption | dsimp only [Keeps.lit_eq])

theorem execPolicyLock_keeps {z0 : State} (s : State) (h_s : Keeps z0 s) : KeepsX z0 (execPolicyLock s) := by
  unfold execPolicyLock
  try dsimp only
  with_reducible repeat' (first | assumption | refine KeepsX.next ?_ | apply lockPolicy_keeps)

theorem writeBreachLevel_keeps {z0 : State} (s : State) (source level : Nat) (h_s : Keeps z0 s) : KeepsO z0 (State.writeBreachLevel s source level) := by
  unfold State.writeBreachLevel
  try dsimp only
  with_reducible repeat' (first | assumption | exact KeepsO.none | refine KeepsO.ite ?_ ?_ | refine KeepsO.some ?_ | apply setObj_keeps)

theorem execBreachLevelWrite_keeps {z0 : State} (source level : Nat) (s : State) (h_s : Keeps z0 s) : KeepsX z0 (execBreachLevelWrite source level s) := by
  unfold execBreachLevelWrite
  try dsimp only
  with_reducible repeat' (first | assumption | refine KeepsX.next ?_ | refine Keeps.getD ?_ ?_ | apply writeBreachLevel_keeps)

theorem startConfidential_keeps {z0 : State} (s : State) (h_s : Keeps z0 s) : KeepsO z0 (State.startConfidential s) := by
  unfold State.startConfidential
  try dsimp only
  with_reducible repeat' (first | assumption | exact KeepsO.none | refine KeepsO.ite ?_ ?_ | refine KeepsO.some ?_ | dsimp only [Keeps.lit_eq])

theorem execConfidentialStart_keeps {z0 : State} (s : State) (h_s : Keeps z0 s) : KeepsX z0 (execConfidentialStart s) := by
  unfold execConfidentialStart
  try dsimp only
  with_reducible repeat' (first | assumption | refine KeepsX.next ?_ | refine Keeps.getD ?_ ?_ | apply startConfidential_keeps)

theorem endConfidential_keeps {z0 : State} (s : State) (h_s : Keeps z0 s) : KeepsO z0 (State.endConfidential s) := by
  unfold State.endConfidential
  try dsimp only
  with_reducible repeat' (first | assumption | exact KeepsO.none | refine KeepsO.ite ?_ ?_ | refine KeepsO.some ?_ | dsimp only [Keeps.lit_eq])

theorem execConfidentialEnd_keeps {z0 : State} (s : State) (h_s : Keeps z0 s) : KeepsX z0 (execConfidentialEnd s) := by
  unfold execConfidentialEnd
  try dsimp only
  with_reducible repeat' (first | assumption | refine KeepsX.next ?_ | refine Keeps.getD ?_ ?_ | apply endConfidential_keeps)

/-! Metering -/

theorem gaugeEntry_keeps {z0 : State} (s : State) (code data : Nat) (h_s : Keeps z0 s) : Keeps z0 (State.gaugeEntry s code data) := by
  unfold State.gaugeEntry
  try dsimp only
  with_reducible repeat' (first | assumption | refine Keeps.ite ?_ ?_ | apply arrive_keeps | dsimp only [Keeps.lit_eq])

theorem detect_keeps {z0 : State} (s : State) (code data : Nat) (raise_ : Bool) (h_s : Keeps z0 s) : Keeps z0 (State.detect s code data raise_) := by
  unfold State.detect
  try dsimp only
  with_reducible repeat' (first | assumption | refine Keeps.ite ?_ ?_ | apply gaugeEntry_keeps | apply arrive_keeps | apply breach_keeps | dsimp only [Keeps.lit_eq])

theorem setGauge_keeps {z0 : State} (s : State) (st : GaugeState) (h_s : Keeps z0 s) : Keeps z0 (State.setGauge s st) := by
  unfold State.setGauge
  try dsimp only
  with_reducible repeat' (first | assumption | refine Keeps.ite ?_ ?_ | apply arrive_keeps | dsimp only [Keeps.lit_eq])

theorem gaugeRecord_keeps {z0 : State} (s : State) (bs : List Nat) (h_s : Keeps z0 s) : Keeps z0 (State.gaugeRecord s bs) := by
  unfold State.gaugeRecord
  try dsimp only
  with_reducible repeat' (first | assumption | refine Keeps.ite ?_ ?_ | apply detect_keeps | dsimp only [Keeps.lit_eq] | split)

theorem execMeteringRecord_keeps {z0 : State} (bytes : List Nat) (s : State) (h_s : Keeps z0 s) : KeepsX z0 (execMeteringRecord bytes s) := by
  unfold execMeteringRecord
  try dsimp only
  with_reducible repeat' (first | assumption | refine KeepsX.next ?_ | apply gaugeRecord_keeps)

theorem makeRecords_keeps {z0 : State} (s : State) (h_s : Keeps z0 s) : Keeps z0 (State.makeRecords s) := by
  unfold State.makeRecords
  try dsimp only
  with_reducible repeat' (first | assumption | refine Keeps.fold _ ?_ (fun _ _ _ => ?_) | dsimp only [Keeps.lit_eq] | split)

theorem execMeteringRecordTimer_keeps {z0 : State} (s : State) (h_s : Keeps z0 s) : KeepsX z0 (execMeteringRecordTimer s) := by
  unfold execMeteringRecordTimer
  try dsimp only
  with_reducible repeat' (first | assumption | refine Keeps.ite ?_ ?_ | refine KeepsX.next ?_ | apply makeRecords_keeps)

theorem checkpoint_keeps {z0 : State} (s : State) (h_s : Keeps z0 s) : Keeps z0 (State.checkpoint s) := by
  unfold State.checkpoint
  try dsimp only
  with_reducible repeat' (first | assumption | dsimp only [Keeps.lit_eq])

theorem execCounterCheckpoint_keeps {z0 : State} (s : State) (h_s : Keeps z0 s) : KeepsX z0 (execCounterCheckpoint s) := by
  unfold execCounterCheckpoint
  try dsimp only
  with_reducible repeat' (first | assumption | refine Keeps.ite ?_ ?_ | refine KeepsX.next ?_ | apply checkpoint_keeps)

theorem flushMeter_keeps {z0 : State} (s : State) (h_s : Keeps z0 s) : Keeps z0 (State.flushMeter s) := by
  unfold State.flushMeter
  try dsimp only
  with_reducible repeat' (first | assumption | refine Keeps.ite ?_ ?_ | refine Keeps.fold _ ?_ (fun _ _ _ => ?_) | apply makeRecords_keeps | apply gaugeRecord_keeps | apply checkpoint_keeps)

theorem execCrystalCompare_keeps {z0 : State} (ppm : Int) (s : State) (h_s : Keeps z0 s) : KeepsX z0 (execCrystalCompare ppm s) := by
  unfold execCrystalCompare
  try dsimp only
  with_reducible repeat' (first | assumption | refine Keeps.ite ?_ ?_ | refine KeepsX.next ?_ | apply detect_keeps)

theorem execIslandSupplyOutOfRange_keeps {z0 : State} (s : State) (h_s : Keeps z0 s) : KeepsX z0 (execIslandSupplyOutOfRange s) := by
  unfold execIslandSupplyOutOfRange
  try dsimp only
  with_reducible repeat' (first | assumption | refine KeepsX.next ?_ | apply detect_keeps)

theorem snapshot_keeps {z0 : State} (s : State) (kind tenant nonce : Nat) (entries : List GEntry) (h_s : Keeps z0 s) : Keeps z0 (State.snapshot s kind tenant nonce entries) := by
  unfold State.snapshot
  try dsimp only
  with_reducible repeat' (first | assumption | dsimp only [Keeps.lit_eq])

theorem askTenant_keeps {z0 : State} (s : State) (t nonce : Nat) (h_s : Keeps z0 s) : KeepsO z0 (State.askTenant s t nonce) := by
  unfold State.askTenant
  try dsimp only
  with_reducible repeat' (first | assumption | exact KeepsO.none | refine KeepsO.ite ?_ ?_ | refine KeepsO.some ?_ | apply snapshot_keeps)

theorem execTenantReading_keeps {z0 : State} (t : Tenant) (nonce : Nat) (s : State) (h_s : Keeps z0 s) : KeepsX z0 (execTenantReading t nonce s) := by
  unfold execTenantReading
  try dsimp only
  with_reducible repeat' (first | assumption | refine KeepsX.next ?_ | refine Keeps.getD ?_ ?_ | apply askTenant_keeps)

theorem askLog_keeps {z0 : State} (s : State) (count nonce : Nat) (h_s : Keeps z0 s) : KeepsO z0 (State.askLog s count nonce) := by
  unfold State.askLog
  try dsimp only
  with_reducible repeat' (first | assumption | exact KeepsO.none | refine KeepsO.ite ?_ ?_ | refine KeepsO.some ?_ | apply snapshot_keeps)

theorem execLogReading_keeps {z0 : State} (count nonce : Nat) (s : State) (h_s : Keeps z0 s) : KeepsX z0 (execLogReading count nonce s) := by
  unfold execLogReading
  try dsimp only
  with_reducible repeat' (first | assumption | refine KeepsX.next ?_ | refine Keeps.getD ?_ ?_ | apply askLog_keeps)

theorem readingStands_keeps {z0 : State} (s : State) (signature : Nat) (h_s : Keeps z0 s) : Keeps z0 (State.readingStands s signature) := by
  unfold State.readingStands
  try dsimp only
  with_reducible repeat' (first | assumption | apply arrive_keeps | dsimp only [Keeps.lit_eq] | split)

theorem execReadingStands_keeps {z0 : State} (signature : Nat) (s : State) (h_s : Keeps z0 s) : KeepsX z0 (execReadingStands signature s) := by
  unfold execReadingStands
  try dsimp only
  with_reducible repeat' (first | assumption | refine KeepsX.next ?_ | apply readingStands_keeps)

theorem gaugeImage_keeps {z0 : State} (s : State) (image : List Nat) (h_s : Keeps z0 s) : Keeps z0 (State.gaugeImage s image) := by
  unfold State.gaugeImage
  try dsimp only
  with_reducible repeat' (first | assumption | refine Keeps.ite ?_ ?_ | apply setGauge_keeps | apply measure_keeps | apply detect_keeps | dsimp only [Keeps.lit_eq] | split)

theorem execImageLoadTidegauge_keeps {z0 : State} (image : List Nat) (s : State) (h_s : Keeps z0 s) : KeepsX z0 (execImageLoadTidegauge image s) := by
  unfold execImageLoadTidegauge
  try dsimp only
  with_reducible repeat' (first | assumption | refine KeepsX.next ?_ | apply gaugeImage_keeps)

theorem updatePackage_keeps {z0 : State} (s : State) (bs : List Nat) (sigOk : Bool) (h_s : Keeps z0 s) : Keeps z0 (State.updatePackage s bs sigOk) := by
  unfold State.updatePackage
  try dsimp only
  with_reducible repeat' (first | assumption | refine Keeps.ite ?_ ?_ | apply gaugeEntry_keeps | dsimp only [Keeps.lit_eq])

theorem execUpdatePackage_keeps {z0 : State} (bytes : List Nat) (sigOk : Bool) (s : State) (h_s : Keeps z0 s) : KeepsX z0 (execUpdatePackage bytes sigOk s) := by
  unfold execUpdatePackage
  try dsimp only
  with_reducible repeat' (first | assumption | refine KeepsX.next ?_ | apply updatePackage_keeps)

theorem execUpdateEnableChange_keeps {z0 : State} (on : Bool) (s : State) (h_s : Keeps z0 s) : KeepsX z0 (execUpdateEnableChange on s) := by
  unfold execUpdateEnableChange
  try dsimp only
  with_reducible repeat' (first | assumption | refine Keeps.ite ?_ ?_ | refine KeepsX.next ?_ | apply detect_keeps | dsimp only [Keeps.lit_eq])

theorem clearGaugeLog_keeps {z0 : State} (s : State) (first count digest : Nat) (h_s : Keeps z0 s) : KeepsO z0 (State.clearGaugeLog s first count digest) := by
  unfold State.clearGaugeLog
  try dsimp only
  with_reducible repeat' (first | assumption | exact KeepsO.none | refine KeepsO.ite ?_ ?_ | refine KeepsO.some ?_ | apply gaugeEntry_keeps | dsimp only [Keeps.lit_eq])

theorem execLogClear_keeps {z0 : State} (first count digest : Nat) (s : State) (h_s : Keeps z0 s) : KeepsX z0 (execLogClear first count digest s) := by
  unfold execLogClear
  try dsimp only
  with_reducible repeat' (first | assumption | refine KeepsX.next ?_ | refine Keeps.getD ?_ ?_ | apply clearGaugeLog_keeps)

theorem adjustGauge_keeps {z0 : State} (s : State) (ns : Int) (h_s : Keeps z0 s) : KeepsO z0 (State.adjustGauge s ns) := by
  unfold State.adjustGauge
  try dsimp only
  with_reducible repeat' (first | assumption | exact KeepsO.none | refine KeepsO.ite ?_ ?_ | refine KeepsO.some ?_ | apply gaugeEntry_keeps | dsimp only [Keeps.lit_eq])

theorem execGaugeTimeAdjustment_keeps {z0 : State} (ns : Int) (s : State) (h_s : Keeps z0 s) : KeepsX z0 (execGaugeTimeAdjustment ns s) := by
  unfold execGaugeTimeAdjustment
  try dsimp only
  with_reducible repeat' (first | assumption | refine KeepsX.next ?_ | refine Keeps.getD ?_ ?_ | apply adjustGauge_keeps)

theorem retireTenant_keeps {z0 : State} (s : State) (t : Nat) (h_s : Keeps z0 s) : KeepsO z0 (State.retireTenant s t) := by
  unfold State.retireTenant
  try dsimp only
  with_reducible repeat' (first | assumption | exact KeepsO.none | refine KeepsO.ite ?_ ?_ | refine KeepsO.some ?_ | apply gaugeEntry_keeps | dsimp only [Keeps.lit_eq])

theorem execTenantRetire_keeps {z0 : State} (t : Tenant) (s : State) (h_s : Keeps z0 s) : KeepsX z0 (execTenantRetire t s) := by
  unfold execTenantRetire
  try dsimp only
  with_reducible repeat' (first | assumption | refine KeepsX.next ?_ | refine Keeps.getD ?_ ?_ | apply retireTenant_keeps)

theorem alwaysOn_keeps {z0 : State} (s : State) (h_s : Keeps z0 s) : Keeps z0 (State.alwaysOn s) := by
  unfold State.alwaysOn
  try dsimp only
  with_reducible repeat' (first | assumption | refine Keeps.ite ?_ ?_ | dsimp only [Keeps.lit_eq])

theorem islandOn_keeps {z0 : State} (s : State) (keyOk : Bool) (h_s : Keeps z0 s) : Keeps z0 (State.islandOn s keyOk) := by
  unfold State.islandOn
  try dsimp only
  with_reducible repeat' (first | assumption | refine Keeps.ite ?_ ?_ | apply alwaysOn_keeps | apply gaugeEntry_keeps | apply detect_keeps | dsimp only [Keeps.lit_eq])

theorem execIslandPowerOn_keeps {z0 : State} (keyOk : Bool) (s : State) (h_s : Keeps z0 s) : KeepsX z0 (execIslandPowerOn keyOk s) := by
  unfold execIslandPowerOn
  try dsimp only
  with_reducible repeat' (first | assumption | refine KeepsX.next ?_ | apply islandOn_keeps)

/-! Restart -/

theorem setStart_keeps {z0 : State} (s : State) (st : StartState) (h_s : Keeps z0 s) : Keeps z0 (State.setStart s st) := by
  unfold State.setStart
  try dsimp only
  with_reducible repeat' (first | assumption | apply arrive_keeps | dsimp only [Keeps.lit_eq])

theorem cleared_keeps {z0 : State} (s : State) (h_s : Keeps z0 s) : Keeps z0 (State.cleared s) :=
  ⟨h_s.1, fun _ => ⟨.nil, fun _ h => nomatch h⟩⟩

theorem restart_keeps {z0 : State} (s : State) (cause : Nat) (h_s : Keeps z0 s) : Keeps z0 (State.restart s cause) := by
  unfold State.restart
  try dsimp only
  with_reducible repeat' (first | assumption | apply cleared_keeps | apply bump_keeps | apply setStart_keeps | dsimp only [Keeps.lit_eq])

theorem recordFail_keeps {z0 : State} (s : State) (reason detail : Nat) (h_s : Keeps z0 s) : Keeps z0 (State.recordFail s reason detail) := by
  unfold State.recordFail
  try dsimp only
  with_reducible repeat' (first | assumption | dsimp only [Keeps.lit_eq])

theorem enterBerm_keeps {z0 : State} (s : State) (cause : Nat) (h_s : Keeps z0 s) : Keeps z0 (State.enterBerm s cause) := by
  unfold State.enterBerm
  try dsimp only
  with_reducible repeat' (first | assumption | refine Keeps.ite ?_ ?_ | refine Keeps.fold _ ?_ (fun _ _ _ => ?_) | apply setPolder_keeps | apply setGauge_keeps | apply setStart_keeps | dsimp only [Keeps.lit_eq])

theorem warmReset_keeps {z0 : State} (s : State) (cause : Nat) (h_s : Keeps z0 s) : Keeps z0 (State.warmReset s cause) := by
  unfold State.warmReset
  try dsimp only
  with_reducible repeat' (first | assumption | refine Keeps.ite ?_ ?_ | apply flushMeter_keeps | apply restart_keeps | apply recordFail_keeps | dsimp only [Keeps.lit_eq])

theorem execWarmReset_keeps {z0 : State} (cause : Nat) (s : State) (h_s : Keeps z0 s) : KeepsX z0 (execWarmReset cause s) := by
  unfold execWarmReset
  try dsimp only
  with_reducible repeat' (first | assumption | refine KeepsX.next ?_ | apply warmReset_keeps)

theorem execWarmResetControl_keeps {z0 : State} (s : State) (h_s : Keeps z0 s) : KeepsX z0 (execWarmResetControl s) := by
  unfold execWarmResetControl
  try dsimp only
  with_reducible repeat' (first | assumption | refine KeepsX.next ?_ | apply warmReset_keeps)

theorem execPerst_keeps {z0 : State} (s : State) (h_s : Keeps z0 s) : KeepsX z0 (execPerst s) := by
  unfold execPerst
  try dsimp only
  with_reducible repeat' (first | assumption | refine Keeps.ite ?_ ?_ | refine KeepsX.next ?_ | apply warmReset_keeps)

theorem failStart_keeps {z0 : State} (s : State) (reason detail : Nat) (h_s : Keeps z0 s) : Keeps z0 (State.failStart s reason detail) := by
  unfold State.failStart
  try dsimp only
  with_reducible repeat' (first | assumption | refine Keeps.ite ?_ ?_ | apply recordFail_keeps | apply enterBerm_keeps | apply flushMeter_keeps | apply restart_keeps)

theorem bermControl_keeps {z0 : State} (s : State) (h_s : Keeps z0 s) : KeepsO z0 (State.bermControl s) := by
  unfold State.bermControl
  try dsimp only
  with_reducible repeat' (first | assumption | exact KeepsO.none | refine KeepsO.ite ?_ ?_ | refine KeepsO.some ?_ | apply flushMeter_keeps | apply restart_keeps | dsimp only [Keeps.lit_eq])

theorem execBermControl_keeps {z0 : State} (s : State) (h_s : Keeps z0 s) : KeepsX z0 (execBermControl s) := by
  unfold execBermControl
  try dsimp only
  with_reducible repeat' (first | assumption | refine KeepsX.next ?_ | refine Keeps.getD ?_ ?_ | apply bermControl_keeps)

theorem powerReset_keeps {z0 : State} (s : State) (pwr : Power) (hiZ : Bool) (h_s : Keeps z0 s) : Keeps z0 (State.powerReset s pwr hiZ) := by
  unfold State.powerReset
  try dsimp only
  with_reducible repeat' (first | assumption | apply cleared_keeps | dsimp only [Keeps.lit_eq])

theorem powerOn_keeps {z0 : State} (s : State) (h_s : Keeps z0 s) : Keeps z0 (State.powerOn s) := by
  unfold State.powerOn
  try dsimp only
  with_reducible repeat' (first | assumption | refine Keeps.ite ?_ ?_ | apply powerReset_keeps | apply setStart_keeps | dsimp only [Keeps.lit_eq])

theorem execPowerOn_keeps {z0 : State} (s : State) (h_s : Keeps z0 s) : KeepsX z0 (execPowerOn s) := by
  unfold execPowerOn
  try dsimp only
  with_reducible repeat' (first | assumption | refine KeepsX.next ?_ | apply powerOn_keeps)

theorem execPwrgoodDeassert_keeps {z0 : State} (s : State) (h_s : Keeps z0 s) : KeepsX z0 (execPwrgoodDeassert s) := by
  unfold execPwrgoodDeassert
  try dsimp only
  with_reducible repeat' (first | assumption | refine Keeps.ite ?_ ?_ | refine KeepsX.next ?_ | apply powerReset_keeps)

theorem powerFail_keeps {z0 : State} (s : State) (h_s : Keeps z0 s) : Keeps z0 (State.powerFail s) := by
  unfold State.powerFail
  try dsimp only
  with_reducible repeat' (first | assumption | refine Keeps.ite ?_ ?_ | apply flushMeter_keeps | dsimp only [Keeps.lit_eq])

theorem execPwrfail_keeps {z0 : State} (s : State) (h_s : Keeps z0 s) : KeepsX z0 (execPwrfail s) := by
  unfold execPwrfail
  try dsimp only
  with_reducible repeat' (first | assumption | refine KeepsX.next ?_ | apply powerFail_keeps)

theorem execPwrfailRecovery_keeps {z0 : State} (s : State) (h_s : Keeps z0 s) : KeepsX z0 (execPwrfailRecovery s) := by
  unfold execPwrfailRecovery
  try dsimp only
  with_reducible repeat' (first | assumption | refine Keeps.ite ?_ ?_ | refine KeepsX.next ?_ | apply bump_keeps | dsimp only [Keeps.lit_eq])

theorem railOut_keeps {z0 : State} (s : State) (rail : Nat) (h_s : Keeps z0 s) : Keeps z0 (State.railOut s rail) := by
  unfold State.railOut
  try dsimp only
  with_reducible repeat' (first | assumption | refine Keeps.ite ?_ ?_ | apply bump_keeps | apply logEvent_keeps | apply failStart_keeps | dsimp only [Keeps.lit_eq])

theorem railAt_keeps {z0 : State} (s : State) (rail mv : Nat) (h_s : Keeps z0 s) : Keeps z0 (State.railAt s rail mv) := by
  unfold State.railAt
  try dsimp only
  with_reducible repeat' (first | assumption | refine Keeps.ite ?_ ?_ | apply breach_keeps | apply railOut_keeps | split)

theorem execRailExcursion_keeps {z0 : State} (rail mv : Nat) (s : State) (h_s : Keeps z0 s) : KeepsX z0 (execRailExcursion rail mv s) := by
  unfold execRailExcursion
  try dsimp only
  with_reducible repeat' (first | assumption | refine KeepsX.next ?_ | apply railAt_keeps)

theorem execThermtrip_keeps {z0 : State} (tileTemps stackTemps : List Int) (s : State) (h_s : Keeps z0 s) : KeepsX z0 (execThermtrip tileTemps stackTemps s) := by
  unfold execThermtrip
  try dsimp only
  with_reducible repeat' (first | assumption | refine Keeps.ite ?_ ?_ | refine KeepsX.next ?_ | dsimp only [Keeps.lit_eq])

theorem execRegulatorPoll_keeps {z0 : State} (readings statuses : List Nat) (answers : Nat) (s : State) (h_s : Keeps z0 s) : KeepsX z0 (execRegulatorPoll readings statuses answers s) := by
  unfold execRegulatorPoll
  try dsimp only
  with_reducible repeat' (first | assumption | refine Keeps.ite ?_ ?_ | refine KeepsX.next ?_ | refine Keeps.fold _ ?_ (fun _ _ _ => ?_) | apply setObj_keeps | apply bump_keeps)

/-! Stewards -/

theorem dropBegun_keeps {z0 : State} (s : State) (k : Nat) (h_s : Keeps z0 s) : Keeps z0 (State.dropBegun s k) := by
  unfold State.dropBegun
  try dsimp only
  with_reducible repeat' (first | assumption | refine Keeps.ite ?_ ?_ | refine Keeps.fold _ ?_ (fun _ _ _ => ?_) | apply endEvery_keeps | apply moveFailed_keeps)

theorem haltSteward_keeps {z0 : State} (s : State) (k : Nat) (h_s : Keeps z0 s) : Keeps z0 (State.haltSteward s k) := by
  unfold State.haltSteward
  try dsimp only
  with_reducible repeat' (first | assumption | refine Keeps.ite ?_ ?_ | apply unroute_keeps | apply arrive_keeps | apply logEvent_keeps | apply dropBegun_keeps | apply warmReset_keeps | apply endEvery_keeps | dsimp only [Keeps.lit_eq])

theorem execWatchdogExpiry_keeps {z0 : State} (k : Stw) (s : State) (h_s : Keeps z0 s) : KeepsX z0 (execWatchdogExpiry k s) := by
  unfold execWatchdogExpiry
  try dsimp only
  with_reducible repeat' (first | assumption | refine KeepsX.next ?_ | apply haltSteward_keeps)

theorem execStewardMemoryParityFailure_keeps {z0 : State} (k : Stw) (s : State) (h_s : Keeps z0 s) : KeepsX z0 (execStewardMemoryParityFailure k s) := by
  unfold execStewardMemoryParityFailure
  try dsimp only
  with_reducible repeat' (first | assumption | refine Keeps.ite ?_ ?_ | refine KeepsX.next ?_ | apply bump_keeps | apply haltSteward_keeps)

theorem restartSteward_keeps {z0 : State} (s : State) (k : Nat) (h_s : Keeps z0 s) : Keeps z0 (State.restartSteward s k) := by
  unfold State.restartSteward
  try dsimp only
  with_reducible repeat' (first | assumption | refine Keeps.ite ?_ ?_ | apply setObj_keeps | apply arrive_keeps | apply answerQueries_keeps | dsimp only [Keeps.lit_eq])

/-! Tempo -/

theorem sendTide_keeps {z0 : State} (s : State) (op node : Nat) (t : Tide) (h_s : Keeps z0 s) : Keeps z0 (State.sendTide s op node t) := by
  unfold State.sendTide
  try dsimp only
  with_reducible repeat' (first | assumption | refine Keeps.ite ?_ ?_ | apply sendSystem_keeps | dsimp only [Keeps.lit_eq])

theorem sendMembers_keeps {z0 : State} (s : State) (op : Nat) (t : Tide) (h_s : Keeps z0 s) : Keeps z0 (State.sendMembers s op t) := by
  unfold State.sendMembers
  try dsimp only
  with_reducible repeat' (first | assumption | refine Keeps.fold _ ?_ (fun _ _ _ => ?_) | apply sendTide_keeps)

theorem takeCommit_keeps {z0 : State} (s : State) (t : Tide) (h_s : Keeps z0 s) : Keeps z0 (State.takeCommit s t) := by
  unfold State.takeCommit
  try dsimp only
  with_reducible repeat' (first | assumption | refine Keeps.ite ?_ ?_ | apply bump_keeps | dsimp only [Keeps.lit_eq])

theorem commitTide_keeps {z0 : State} (s : State) (t : Tide) (h_s : Keeps z0 s) : Keeps z0 (State.commitTide s t) := by
  unfold State.commitTide
  try dsimp only
  with_reducible repeat' (first | assumption | refine Keeps.ite ?_ ?_ | apply sendMembers_keeps | apply takeCommit_keeps | dsimp only [Keeps.lit_eq])

theorem commitIfReady_keeps {z0 : State} (s : State) (h_s : Keeps z0 s) : Keeps z0 (State.commitIfReady s) := by
  unfold State.commitIfReady
  try dsimp only
  with_reducible repeat' (first | assumption | refine Keeps.ite ?_ ?_ | apply commitTide_keeps | split)

theorem propose_keeps {z0 : State} (s : State) (g : Nat) (h_s : Keeps z0 s) : Keeps z0 (State.propose s g) := by
  unfold State.propose
  try dsimp only
  with_reducible repeat' (first | assumption | apply sendMembers_keeps | apply commitIfReady_keeps | dsimp only [Keeps.lit_eq])

theorem evaluate_keeps {z0 : State} (s : State) (h_s : Keeps z0 s) : Keeps z0 (State.evaluate s) := by
  unfold State.evaluate
  try dsimp only
  with_reducible repeat' (first | assumption | refine Keeps.ite ?_ ?_ | apply propose_keeps | dsimp only [Keeps.lit_eq] | split)

theorem execLeaderEvaluate_keeps {z0 : State} (s : State) (h_s : Keeps z0 s) : KeepsX z0 (execLeaderEvaluate s) := by
  unfold execLeaderEvaluate
  try dsimp only
  with_reducible repeat' (first | assumption | refine KeepsX.next ?_ | apply byDuty_keeps | apply evaluate_keeps)

theorem takeBid_keeps {z0 : State} (s : State) (node ceiling epoch : Nat) (h_s : Keeps z0 s) : Keeps z0 (State.takeBid s node ceiling epoch) := by
  unfold State.takeBid
  try dsimp only
  with_reducible repeat' (first | assumption | refine Keeps.ite ?_ ?_ | apply sendTide_keeps | apply evaluate_keeps | dsimp only [Keeps.lit_eq] | split)

theorem sendBid_keeps {z0 : State} (s : State) (h_s : Keeps z0 s) : Keeps z0 (State.sendBid s) := by
  unfold State.sendBid
  try dsimp only
  with_reducible repeat' (first | assumption | refine Keeps.ite ?_ ?_ | apply takeBid_keeps | apply sendTide_keeps)

theorem execBidTimer_keeps {z0 : State} (s : State) (h_s : Keeps z0 s) : KeepsX z0 (execBidTimer s) := by
  unfold execBidTimer
  try dsimp only
  with_reducible repeat' (first | assumption | refine KeepsX.next ?_ | apply sendBid_keeps)

theorem rebid_keeps {z0 : State} (s' s : State) (h_s : Keeps z0 s') : Keeps z0 (State.rebid s' s) := by
  unfold State.rebid
  try dsimp only
  with_reducible repeat' (first | assumption | refine Keeps.ite ?_ ?_ | apply sendBid_keeps)

theorem inGroup_keeps {z0 : State} (s : State) (group : Nat) (f : State → State) (h_f : ∀ t, Keeps z0 t → Keeps z0 (f t)) (h_s : Keeps z0 s) : Keeps z0 (State.inGroup s group f) := by
  unfold State.inGroup
  try dsimp only
  with_reducible repeat' (first | assumption | refine Keeps.ite ?_ ?_ | apply byDuty_keeps | apply bump_keeps | apply h_f | intro _)

theorem execBid_keeps {z0 : State} (node group ceiling epoch : Nat) (s : State) (h_s : Keeps z0 s) : KeepsX z0 (execBid node group ceiling epoch s) := by
  unfold execBid
  try dsimp only
  with_reducible repeat' (first | assumption | refine KeepsX.next ?_ | apply inGroup_keeps | apply takeBid_keeps | intro _)

theorem execTidePrepare_keeps {z0 : State} (group epoch tempo boundary : Nat) (s : State) (h_s : Keeps z0 s) : KeepsX z0 (execTidePrepare group epoch tempo boundary s) := by
  unfold execTidePrepare
  try dsimp only
  with_reducible repeat' (first | assumption | refine Keeps.ite ?_ ?_ | refine KeepsX.next ?_ | apply inGroup_keeps | apply sendTide_keeps | intro _ | dsimp only [Keeps.lit_eq])

theorem execReady_keeps {z0 : State} (node group epoch : Nat) (s : State) (h_s : Keeps z0 s) : KeepsX z0 (execReady node group epoch s) := by
  unfold execReady
  try dsimp only
  with_reducible repeat' (first | assumption | refine Keeps.ite ?_ ?_ | refine KeepsX.next ?_ | apply inGroup_keeps | apply commitIfReady_keeps | intro _ | dsimp only [Keeps.lit_eq] | split)

theorem cancelTide_keeps {z0 : State} (s : State) (t : Tide) (h_s : Keeps z0 s) : Keeps z0 (State.cancelTide s t) := by
  unfold State.cancelTide
  try dsimp only
  with_reducible repeat' (first | assumption | apply sendMembers_keeps | dsimp only [Keeps.lit_eq])

theorem execTideRefuse_keeps {z0 : State} (node group epoch reason : Nat) (s : State) (h_s : Keeps z0 s) : KeepsX z0 (execTideRefuse node group epoch reason s) := by
  unfold execTideRefuse
  try dsimp only
  with_reducible repeat' (first | assumption | refine Keeps.ite ?_ ?_ | refine KeepsX.next ?_ | apply inGroup_keeps | apply cancelTide_keeps | intro _ | dsimp only [Keeps.lit_eq] | split)

theorem execTideCommit_keeps {z0 : State} (group epoch tempo boundary : Nat) (s : State) (h_s : Keeps z0 s) : KeepsX z0 (execTideCommit group epoch tempo boundary s) := by
  unfold execTideCommit
  try dsimp only
  with_reducible repeat' (first | assumption | refine KeepsX.next ?_ | apply inGroup_keeps | apply takeCommit_keeps | apply sendTide_keeps | intro _)

theorem execCancel_keeps {z0 : State} (group epoch : Nat) (s : State) (h_s : Keeps z0 s) : KeepsX z0 (execCancel group epoch s) := by
  unfold execCancel
  try dsimp only
  with_reducible repeat' (first | assumption | refine Keeps.ite ?_ ?_ | refine KeepsX.next ?_ | apply inGroup_keeps | intro _ | dsimp only [Keeps.lit_eq] | split)

theorem execTideDone_keeps {z0 : State} (node group epoch : Nat) (s : State) (h_s : Keeps z0 s) : KeepsX z0 (execTideDone node group epoch s) := by
  unfold execTideDone
  try dsimp only
  with_reducible repeat' (first | assumption | refine Keeps.ite ?_ ?_ | refine KeepsX.next ?_ | apply inGroup_keeps | intro _ | dsimp only [Keeps.lit_eq] | split)

theorem execTideResend_keeps {z0 : State} (node : Nat) (s : State) (h_s : Keeps z0 s) : KeepsX z0 (execTideResend node s) := by
  unfold execTideResend
  try dsimp only
  with_reducible repeat' (first | assumption | refine Keeps.ite ?_ ?_ | refine KeepsX.next ?_ | apply sendTide_keeps | split)

theorem execProposalCutoff_keeps {z0 : State} (s : State) (h_s : Keeps z0 s) : KeepsX z0 (execProposalCutoff s) := by
  unfold execProposalCutoff
  try dsimp only
  with_reducible repeat' (first | assumption | refine Keeps.ite ?_ ?_ | refine KeepsX.next ?_ | apply byDuty_keeps | apply cancelTide_keeps | intro _ | split)

theorem tempoBoundary_keeps {z0 : State} (s : State) (h_s : Keeps z0 s) : Keeps z0 (State.tempoBoundary s) := by
  unfold State.tempoBoundary
  try dsimp only
  with_reducible repeat' (first | assumption | refine Keeps.ite ?_ ?_ | apply bump_keeps | apply arrive_keeps | dsimp only [Keeps.lit_eq] | split)

theorem execTideBoundary_keeps {z0 : State} (s : State) (h_s : Keeps z0 s) : KeepsX z0 (execTideBoundary s) := by
  unfold execTideBoundary
  try dsimp only
  with_reducible repeat' (first | assumption | refine KeepsX.next ?_ | apply tempoBoundary_keeps | apply boundaries_keeps)

theorem setSync_keeps {z0 : State} (s : State) (st : Nat) (h_s : Keeps z0 s) : Keeps z0 (State.setSync s st) := by
  unfold State.setSync
  try dsimp only
  with_reducible repeat' (first | assumption | refine Keeps.ite ?_ ?_ | apply arrive_keeps | dsimp only [Keeps.lit_eq])

theorem execPtpMessage_keeps {z0 : State} (m : PtpMsg) (s : State) (h_s : Keeps z0 s) : KeepsX z0 (execPtpMessage m s) := by
  unfold execPtpMessage
  try dsimp only
  with_reducible repeat' (first | assumption | refine Keeps.ite ?_ ?_ | refine KeepsX.next ?_ | apply setSync_keeps | apply bump_keeps | apply arrive_keeps | dsimp only [Keeps.lit_eq])

theorem execPtpHoldover_keeps {z0 : State} (s : State) (h_s : Keeps z0 s) : KeepsX z0 (execPtpHoldover s) := by
  unfold execPtpHoldover
  try dsimp only
  with_reducible repeat' (first | assumption | refine KeepsX.next ?_ | apply setSync_keeps)

/-! Power -/

theorem governed_keeps {z0 : State} (s' s : State) (h_s : Keeps z0 s') : Keeps z0 (State.governed s' s) := by
  unfold State.governed
  refine rebid_keeps _ _ ?_
  split
  · exact h_s
  · exact arrive_keeps _ _ h_s

theorem throttleDomain_keeps {z0 : State} (s : State) (d : Nat) (h_s : Keeps z0 s) : Keeps z0 (State.throttleDomain s d).1 := by
  unfold State.throttleDomain
  try dsimp only
  with_reducible repeat' (first | assumption | refine KeepsF.ite ?_ ?_ | dsimp only [Keeps.lit_eq] | split)

theorem throttle_keeps {z0 : State} (s : State) (l : List Nat) (h_s : Keeps z0 s) : Keeps z0 (State.throttle s l) := by
  induction l generalizing s with
  | nil =>
    unfold State.throttle
    try dsimp only
    with_reducible repeat' assumption
  | cons x l ih =>
    unfold State.throttle
    try dsimp only
    with_reducible repeat' (first | assumption | refine Keeps.ite ?_ ?_ | apply throttleDomain_keeps | apply ih)

theorem absorb_keeps {z0 : State} (s : State) (h_s : Keeps z0 s) : Keeps z0 (State.absorb s) := by
  unfold State.absorb
  try dsimp only
  with_reducible repeat' (first | assumption | refine Keeps.ite ?_ ?_ | dsimp only [Keeps.lit_eq])

theorem excursion_keeps {z0 : State} (s : State) (h_s : Keeps z0 s) : Keeps z0 (State.excursion s) := by
  unfold State.excursion
  try dsimp only
  with_reducible repeat' (first | assumption | refine Keeps.ite ?_ ?_ | apply bump_keeps | apply arrive_keeps | dsimp only [Keeps.lit_eq] | split)

theorem powerEstimate_keeps {z0 : State} (s : State) (compute memory links tempoFit concFit floor : Nat) (h_s : Keeps z0 s) : Keeps z0 (State.powerEstimate s compute memory links tempoFit concFit floor) := by
  unfold State.powerEstimate
  try dsimp only
  with_reducible repeat' (first | assumption | refine Keeps.ite ?_ ?_ | apply throttle_keeps | apply absorb_keeps | apply excursion_keeps | apply governed_keeps | dsimp only [Keeps.lit_eq])

theorem execPowerEstimate_keeps {z0 : State} (compute memory links tempoFit concFit floor : Nat) (s : State) (h_s : Keeps z0 s) : KeepsX z0 (execPowerEstimate compute memory links tempoFit concFit floor s) := by
  unfold execPowerEstimate
  try dsimp only
  with_reducible repeat' (first | assumption | refine KeepsX.next ?_ | apply powerEstimate_keeps)

theorem execPowerCalibration_keeps {z0 : State} (answers : Nat) (watts : List Nat) (s : State) (h_s : Keeps z0 s) : KeepsX z0 (execPowerCalibration answers watts s) := by
  unfold execPowerCalibration
  try dsimp only
  with_reducible repeat' (first | assumption | refine Keeps.ite ?_ ?_ | refine KeepsX.next ?_ | refine Keeps.fold _ ?_ (fun _ _ _ => ?_) | apply setObj_keeps | apply bump_keeps | dsimp only [Keeps.lit_eq])

theorem releaseDomain_keeps {z0 : State} (s : State) (d : Nat) (h_s : Keeps z0 s) : KeepsO z0 (State.releaseDomain s d) := by
  unfold State.releaseDomain
  try dsimp only
  with_reducible repeat' (first | assumption | exact KeepsO.none | refine KeepsO.ite ?_ ?_ | refine KeepsO.some ?_ | dsimp only [Keeps.lit_eq] | split)

theorem execThrottleRelease_keeps {z0 : State} (s : State) (h_s : Keeps z0 s) : KeepsX z0 (execThrottleRelease s) := by
  unfold execThrottleRelease
  try dsimp only
  with_reducible repeat' (first | assumption | refine Keeps.ite ?_ ?_ | refine KeepsX.next ?_ | refine KeepsO.findSome _ (fun _ => ?_) | apply releaseDomain_keeps | apply governed_keeps | refine Keeps.ofO (by assumption) ?_ | split)

theorem writeCap_keeps {z0 : State} (s : State) (watts : Nat) (h_s : Keeps z0 s) : KeepsO z0 (State.writeCap s watts) := by
  unfold State.writeCap
  try dsimp only
  with_reducible repeat' (first | assumption | exact KeepsO.none | refine KeepsO.ite ?_ ?_ | refine KeepsO.some ?_ | apply setObj_keeps | dsimp only [Keeps.lit_eq])

theorem execPowerCapWrite_keeps {z0 : State} (watts : Nat) (s : State) (h_s : Keeps z0 s) : KeepsX z0 (execPowerCapWrite watts s) := by
  unfold execPowerCapWrite
  try dsimp only
  with_reducible repeat' (first | assumption | refine KeepsX.next ?_ | refine Keeps.getD ?_ ?_ | apply writeCap_keeps)

theorem execDroop_keeps {z0 : State} (t : Tile) (det : Fin 64) (mv : Nat) (s : State) (h_s : Keeps z0 s) : KeepsX z0 (execDroop t det mv s) := by
  unfold execDroop
  try dsimp only
  with_reducible repeat' (first | assumption | refine Keeps.ite ?_ ?_ | refine KeepsX.next ?_ | apply bump_keeps | apply arrive_keeps | dsimp only [Keeps.lit_eq])

theorem execDroopClear_keeps {z0 : State} (t : Tile) (s : State) (h_s : Keeps z0 s) : KeepsX z0 (execDroopClear t s) := by
  unfold execDroopClear
  try dsimp only
  with_reducible repeat' (first | assumption | refine Keeps.ite ?_ ?_ | refine KeepsX.next ?_ | apply setObj_keeps | dsimp only [Keeps.lit_eq])

theorem execDroopLong_keeps {z0 : State} (t : Tile) (s : State) (h_s : Keeps z0 s) : KeepsX z0 (execDroopLong t s) := by
  unfold execDroopLong
  try dsimp only
  with_reducible repeat' (first | assumption | refine Keeps.ite ?_ ?_ | refine KeepsX.next ?_ | apply logEvent_keeps | dsimp only [Keeps.lit_eq])

theorem setTrim_keeps {z0 : State} (s : State) (trim : Nat) (h_s : Keeps z0 s) : Keeps z0 (State.setTrim s trim) := by
  unfold State.setTrim
  try dsimp only
  with_reducible repeat' (first | assumption | refine Keeps.ite ?_ ?_ | apply bump_keeps | dsimp only [Keeps.lit_eq])

theorem lowerGauge_keeps {z0 : State} (s : State) (h_s : Keeps z0 s) : Keeps z0 (State.lowerGauge s) := by
  unfold State.lowerGauge
  try dsimp only
  with_reducible repeat' (first | assumption | apply logEvent_keeps | apply arrive_keeps | dsimp only [Keeps.lit_eq])

theorem noteGauges_keeps {z0 : State} (s : State) (margins : List Int) (temps : List Nat) (h_s : Keeps z0 s) : Keeps z0 (State.noteGauges s margins temps) := by
  unfold State.noteGauges
  try dsimp only
  with_reducible repeat' (first | assumption | apply setObj_keeps | dsimp only [Keeps.lit_eq])

theorem gaugeReading_keeps {z0 : State} (s : State) (margins : List Int) (temps : List Nat) (h_s : Keeps z0 s) : Keeps z0 (State.gaugeReading s margins temps) := by
  unfold State.gaugeReading
  try dsimp only
  with_reducible repeat' (first | assumption | refine Keeps.ite ?_ ?_ | apply noteGauges_keeps | apply setTrim_keeps | apply arrive_keeps | apply lowerGauge_keeps | apply rebid_keeps | dsimp only [Keeps.lit_eq])

theorem execGaugeReading_keeps {z0 : State} (margins : List Int) (temps : List Nat) (s : State) (h_s : Keeps z0 s) : KeepsX z0 (execGaugeReading margins temps s) := by
  unfold execGaugeReading
  try dsimp only
  with_reducible repeat' (first | assumption | refine KeepsX.next ?_ | apply gaugeReading_keeps)

theorem thermalTick_keeps {z0 : State} (s : State) (tileTemps stackTemps : List Int) (h_s : Keeps z0 s) : Keeps z0 (State.thermalTick s tileTemps stackTemps) := by
  unfold State.thermalTick
  try dsimp only
  with_reducible repeat' (first | assumption | refine Keeps.ite ?_ ?_ | refine Keeps.fold _ ?_ (fun _ _ _ => ?_) | apply bump_keeps | apply arrive_keeps | apply rebid_keeps | apply breach_keeps | dsimp only [Keeps.lit_eq])

theorem execThermalTick_keeps {z0 : State} (tileTemps stackTemps : List Int) (s : State) (h_s : Keeps z0 s) : KeepsX z0 (execThermalTick tileTemps stackTemps s) := by
  unfold execThermalTick
  try dsimp only
  with_reducible repeat' (first | assumption | refine KeepsX.next ?_ | apply thermalTick_keeps)

theorem thermalRecovery_keeps {z0 : State} (s : State) (tileTemps stackTemps : List Int) (h_s : Keeps z0 s) : Keeps z0 (State.thermalRecovery s tileTemps stackTemps) := by
  unfold State.thermalRecovery
  try dsimp only
  with_reducible repeat' (first | assumption | refine Keeps.ite ?_ ?_ | refine Keeps.fold _ ?_ (fun _ _ _ => ?_) | apply arrive_keeps | apply rebid_keeps | apply breach_keeps | dsimp only [Keeps.lit_eq])

theorem execThermalRecoveryTick_keeps {z0 : State} (tileTemps stackTemps : List Int) (s : State) (h_s : Keeps z0 s) : KeepsX z0 (execThermalRecoveryTick tileTemps stackTemps s) := by
  unfold execThermalRecoveryTick
  try dsimp only
  with_reducible repeat' (first | assumption | refine KeepsX.next ?_ | apply thermalRecovery_keeps)

/-! Startup -/

theorem setBoot_keeps {z0 : State} (s : State) (v : Nat) (h_s : Keeps z0 s) : Keeps z0 (State.setBoot s v) := by
  unfold State.setBoot
  try dsimp only
  with_reducible repeat' (first | assumption | refine Keeps.ite ?_ ?_ | apply arrive_keeps | dsimp only [Keeps.lit_eq])

theorem selfCheck_keeps {z0 : State} (s : State) (rail : Option Nat) (h_s : Keeps z0 s) : Keeps z0 (State.selfCheck s rail) := by
  unfold State.selfCheck
  try dsimp only
  with_reducible repeat' (first | assumption | refine Keeps.ite ?_ ?_ | apply enterBerm_keeps | apply failStart_keeps | apply setStart_keeps | split)

theorem execSelfCheckComplete_keeps {z0 : State} (rail : Option Nat) (s : State) (h_s : Keeps z0 s) : KeepsX z0 (execSelfCheckComplete rail s) := by
  unfold execSelfCheckComplete
  try dsimp only
  with_reducible repeat' (first | assumption | refine KeepsX.next ?_ | apply selfCheck_keeps)

theorem measureStanding_keeps {z0 : State} (s : State) (h_s : Keeps z0 s) : Keeps z0 (State.measureStanding s) := by
  unfold State.measureStanding
  try dsimp only
  with_reducible repeat' (first | assumption | refine Keeps.ite ?_ ?_ | apply measure_keeps)

theorem identityDerived_keeps {z0 : State} (s : State) (record : List Nat) (sigOk : Bool) (key : List Nat) (h_s : Keeps z0 s) : Keeps z0 (State.identityDerived s record sigOk key) := by
  unfold State.identityDerived
  try dsimp only
  with_reducible repeat' (first | assumption | refine Keeps.ite ?_ ?_ | apply failStart_keeps | apply draw_keeps | apply measureStanding_keeps | apply setStart_keeps | dsimp only [Keeps.lit_eq])

theorem execIdentityDerived_keeps {z0 : State} (record : List Nat) (sigOk : Bool) (key : List Nat) (s : State) (h_s : Keeps z0 s) : KeepsX z0 (execIdentityDerived record sigOk key s) := by
  unfold execIdentityDerived
  try dsimp only
  with_reducible repeat' (first | assumption | refine KeepsX.next ?_ | apply identityDerived_keeps)

theorem gaugeStartRead_keeps {z0 : State} (s : State) (margins : List Int) (h_s : Keeps z0 s) : Keeps z0 (State.gaugeStartRead s margins) := by
  unfold State.gaugeStartRead
  try dsimp only
  with_reducible repeat' (first | assumption | refine Keeps.ite ?_ ?_ | apply noteGauges_keeps | apply setStart_keeps | apply setTrim_keeps | apply lowerGauge_keeps | apply failStart_keeps)

theorem execGaugeStartRead_keeps {z0 : State} (margins : List Int) (s : State) (h_s : Keeps z0 s) : KeepsX z0 (execGaugeStartRead margins s) := by
  unfold execGaugeStartRead
  try dsimp only
  with_reducible repeat' (first | assumption | refine KeepsX.next ?_ | apply gaugeStartRead_keeps)

theorem trainingComplete_keeps {z0 : State} (s : State) (trained : Nat) (h_s : Keeps z0 s) : Keeps z0 (State.trainingComplete s trained) := by
  unfold State.trainingComplete
  split
  · exact h_s
  · split
    · exact failStart_keeps _ _ _ h_s
    · refine setStart_keeps _ _ (Keeps.fold _ ⟨h_s.1, fun _ => ⟨.nil, fun _ h => nomatch h⟩⟩ fun t x h => ?_)
      split
      · exact h
      · exact setPolder_keeps _ _ _ h

theorem execTrainingComplete_keeps {z0 : State} (trained : Nat) (s : State) (h_s : Keeps z0 s) : KeepsX z0 (execTrainingComplete trained s) := by
  unfold execTrainingComplete
  try dsimp only
  with_reducible repeat' (first | assumption | refine KeepsX.next ?_ | apply trainingComplete_keeps)

theorem bootDescriptor_keeps {z0 : State} (s : State) (desc list : List Nat) (h_s : Keeps z0 s) : Keeps z0 (State.bootDescriptor s desc list) := by
  unfold State.bootDescriptor
  try dsimp only
  with_reducible repeat' (first | assumption | refine Keeps.ite ?_ ?_ | apply setBoot_keeps | dsimp only [Keeps.lit_eq])

theorem execBootDescriptor_keeps {z0 : State} (desc list : List Nat) (s : State) (h_s : Keeps z0 s) : KeepsX z0 (execBootDescriptor desc list s) := by
  unfold execBootDescriptor
  try dsimp only
  with_reducible repeat' (first | assumption | refine KeepsX.next ?_ | apply bootDescriptor_keeps)

theorem bundleWrite_keeps {z0 : State} (s : State) (path total : Nat) (h_s : Keeps z0 s) : KeepsO z0 (State.bundleWrite s path total) := by
  unfold State.bundleWrite
  try dsimp only
  with_reducible repeat' (first | assumption | exact KeepsO.none | refine KeepsO.ite ?_ ?_ | refine KeepsO.some ?_ | dsimp only [Keeps.lit_eq])

theorem execBundleWrite_keeps {z0 : State} (path : Fin 3) (total : Nat) (s : State) (h_s : Keeps z0 s) : KeepsX z0 (execBundleWrite path total s) := by
  unfold execBundleWrite
  try dsimp only
  with_reducible repeat' (first | assumption | refine KeepsX.next ?_ | refine Keeps.getD ?_ ?_ | apply bundleWrite_keeps)

theorem bundleReceived_keeps {z0 : State} (s : State) (b : Bundle) (h_s : Keeps z0 s) : Keeps z0 (State.bundleReceived s b) := by
  unfold State.bundleReceived
  try dsimp only
  with_reducible repeat' (first | assumption | refine Keeps.ite ?_ ?_ | apply setBoot_keeps | apply setStart_keeps | apply failStart_keeps | apply setObj_keeps | apply measure_keeps | dsimp only [Keeps.lit_eq] | split)

theorem execBundleReceived_keeps {z0 : State} (b : Bundle) (s : State) (h_s : Keeps z0 s) : KeepsX z0 (execBundleReceived b s) := by
  unfold execBundleReceived
  try dsimp only
  with_reducible repeat' (first | assumption | refine KeepsX.next ?_ | apply bundleReceived_keeps)

theorem assignDuties_keeps {z0 : State} (s : State) (h_s : Keeps z0 s) : Keeps z0 (State.assignDuties s) := by
  unfold State.assignDuties
  try dsimp only
  with_reducible repeat' (first | assumption | dsimp only [Keeps.lit_eq])

theorem stewardReady_keeps {z0 : State} (s : State) (k : Nat) (h_s : Keeps z0 s) : Keeps z0 (State.stewardReady s k) := by
  unfold State.stewardReady
  try dsimp only
  with_reducible repeat' (first | assumption | refine Keeps.ite ?_ ?_ | apply assignDuties_keeps | apply setStart_keeps | dsimp only [Keeps.lit_eq] | split)

theorem execStewardReady_keeps {z0 : State} (k : Stw) (s : State) (h_s : Keeps z0 s) : KeepsX z0 (execStewardReady k s) := by
  unfold execStewardReady
  try dsimp only
  with_reducible repeat' (first | assumption | refine KeepsX.next ?_ | apply stewardReady_keeps)

theorem serve_keeps {z0 : State} (s : State) (ports : Bool) (h_s : Keeps z0 s) : Keeps z0 (State.serve s ports) := by
  unfold State.serve
  try dsimp only
  with_reducible repeat' (first | assumption | refine Keeps.ite ?_ ?_ | refine Keeps.fold _ ?_ (fun _ _ _ => ?_) | apply setObj_keeps | apply trainPort_keeps | apply setStart_keeps | dsimp only [Keeps.lit_eq])

theorem loadPrograms_keeps {z0 : State} (s : State) (images : List (Nat × Image)) (h_s : Keeps z0 s) : Keeps z0 (State.loadPrograms s images) := by
  unfold State.loadPrograms
  try dsimp only
  with_reducible repeat' (first | assumption | refine Keeps.ite ?_ ?_ | refine Keeps.fold _ ?_ (fun _ _ _ => ?_) | apply imageLoad_keeps)

theorem programsLoaded_keeps {z0 : State} (s : State) (h_s : Keeps z0 s) : Keeps z0 (State.programsLoaded s) := by
  unfold State.programsLoaded
  try dsimp only
  with_reducible repeat' (first | assumption | refine Keeps.ite ?_ ?_ | apply loadPrograms_keeps | apply failStart_keeps | apply setStart_keeps | apply serve_keeps | dsimp only [Keeps.lit_eq] | split)

theorem execProgramsLoaded_keeps {z0 : State} (s : State) (h_s : Keeps z0 s) : KeepsX z0 (execProgramsLoaded s) := by
  unfold execProgramsLoaded
  try dsimp only
  with_reducible repeat' (first | assumption | refine KeepsX.next ?_ | apply programsLoaded_keeps)

theorem ptpLock_keeps {z0 : State} (s : State) (port time : Nat) (h_s : Keeps z0 s) : Keeps z0 (State.ptpLock s port time) := by
  unfold State.ptpLock
  try dsimp only
  with_reducible repeat' (first | assumption | refine Keeps.ite ?_ ?_ | refine Keeps.fold _ ?_ (fun _ _ _ => ?_) | apply setSync_keeps | apply serve_keeps | apply trainPort_keeps | dsimp only [Keeps.lit_eq])

theorem execPtpLock_keeps {z0 : State} (port : Mgmt) (time : Nat) (s : State) (h_s : Keeps z0 s) : KeepsX z0 (execPtpLock port time s) := by
  unfold execPtpLock
  try dsimp only
  with_reducible repeat' (first | assumption | refine KeepsX.next ?_ | apply ptpLock_keeps)

theorem execPtpWaitExpiry_keeps {z0 : State} (s : State) (h_s : Keeps z0 s) : KeepsX z0 (execPtpWaitExpiry s) := by
  unfold execPtpWaitExpiry
  try dsimp only
  with_reducible repeat' (first | assumption | refine Keeps.ite ?_ ?_ | refine KeepsX.next ?_ | apply serve_keeps)

theorem stepTimeout_keeps {z0 : State} (s : State) (reason detail : Nat) (h_s : Keeps z0 s) : Keeps z0 (State.stepTimeout s reason detail) := by
  unfold State.stepTimeout
  try dsimp only
  with_reducible repeat' (first | assumption | refine Keeps.ite ?_ ?_ | apply failStart_keeps)

theorem execStartStepTimeout_keeps {z0 : State} (reason detail : Nat) (s : State) (h_s : Keeps z0 s) : KeepsX z0 (execStartStepTimeout reason detail s) := by
  unfold execStartStepTimeout
  try dsimp only
  with_reducible repeat' (first | assumption | refine KeepsX.next ?_ | apply stepTimeout_keeps)

/-! HostIf -/

theorem ringError_keeps {z0 : State} (s : State) (r code : Nat) (h_s : Keeps z0 s) : Keeps z0 (State.ringError s r code) := by
  unfold State.ringError
  try dsimp only
  with_reducible repeat' (first | assumption | apply setRing_keeps | apply bump_keeps | apply arrive_keeps)

theorem sqTail_keeps {z0 : State} (s : State) (r tail : Nat) (h_s : Keeps z0 s) : Keeps z0 (State.sqTail s r tail) := by
  unfold State.sqTail
  try dsimp only
  with_reducible repeat' (first | assumption | refine Keeps.ite ?_ ?_ | apply ringError_keeps | apply setRing_keeps)

theorem execSqtail_keeps {z0 : State} (r : Ring) (tail : Nat) (s : State) (h_s : Keeps z0 s) : KeepsX z0 (execSqtail r tail s) := by
  unfold execSqtail
  try dsimp only
  with_reducible repeat' (first | assumption | refine KeepsX.next ?_ | apply sqTail_keeps)

theorem cqConsume_keeps {z0 : State} (s : State) (r head : Nat) (h_s : Keeps z0 s) : Keeps z0 (State.cqConsume s r head) := by
  unfold State.cqConsume
  try dsimp only
  with_reducible repeat' (first | assumption | refine Keeps.ite ?_ ?_ | apply setRing_keeps)

theorem execCqhead_keeps {z0 : State} (r : Ring) (head : Nat) (s : State) (h_s : Keeps z0 s) : KeepsX z0 (execCqhead r head s) := by
  unfold execCqhead
  try dsimp only
  with_reducible repeat' (first | assumption | refine KeepsX.next ?_ | apply cqConsume_keeps)

theorem consume_keeps {z0 : State} (s : State) (r counter : Nat) (h_s : Keeps z0 s) : Keeps z0 (State.consume s r counter) := by
  unfold State.consume
  try dsimp only
  with_reducible repeat' (first | assumption | apply setRing_keeps)

theorem endEntry_keeps {z0 : State} (s : State) (r slot cookie : Nat) (a : Answer) (h_s : Keeps z0 s) : Keeps z0 (State.endEntry s r slot cookie a) := by
  unfold State.endEntry
  try dsimp only
  with_reducible repeat' (first | assumption | apply work_keeps | apply emit_keeps)

theorem entry_keeps {z0 : State} (s : State) (r slot : Nat) (e body : List Nat) (counter : Nat) (h_s : Keeps z0 s) : Keeps z0 (State.entry s r slot e body counter) := by
  unfold State.entry
  try dsimp only
  with_reducible repeat' (first | assumption | refine Keeps.ite ?_ ?_ | apply request_keeps | apply endEntry_keeps | apply bump_keeps | split)

theorem submissionRead_keeps {z0 : State} (s : State) (r : Nat) (entry body : List Nat) (h_s : Keeps z0 s) : Keeps z0 (State.submissionRead s r entry body) := by
  unfold State.submissionRead
  try dsimp only
  with_reducible repeat' (first | assumption | refine Keeps.ite ?_ ?_ | apply entry_keeps | apply ringError_keeps | apply consume_keeps | apply work_keeps | apply endEntry_keeps | apply refuse_keeps | dsimp only [Keeps.lit_eq] | split)

theorem execSubmissionRead_keeps {z0 : State} (r : Ring) (entry body : List Nat) (s : State) (h_s : Keeps z0 s) : KeepsX z0 (execSubmissionRead r entry body s) := by
  unfold execSubmissionRead
  try dsimp only
  with_reducible repeat' (first | assumption | refine KeepsX.next ?_ | apply submissionRead_keeps)

theorem ringEnable_keeps {z0 : State} (s : State) (r sqBase cqBase rcfg : Nat) (h_s : Keeps z0 s) : Keeps z0 (State.ringEnable s r sqBase cqBase rcfg) := by
  unfold State.ringEnable
  try dsimp only
  with_reducible repeat' (first | assumption | refine Keeps.ite ?_ ?_ | apply setRing_keeps)

theorem execRingEnable_keeps {z0 : State} (r : Ring) (sqBase cqBase rcfg : Nat) (s : State) (h_s : Keeps z0 s) : KeepsX z0 (execRingEnable r sqBase cqBase rcfg s) := by
  unfold execRingEnable
  try dsimp only
  with_reducible repeat' (first | assumption | refine KeepsX.next ?_ | apply ringEnable_keeps)

theorem ringDisable_keeps {z0 : State} (s : State) (r : Nat) (h_s : Keeps z0 s) : Keeps z0 (State.ringDisable s r) := by
  unfold State.ringDisable
  try dsimp only
  with_reducible repeat' (first | assumption | refine Keeps.ite ?_ ?_ | apply setRing_keeps)

theorem execRingDisable_keeps {z0 : State} (r : Ring) (s : State) (h_s : Keeps z0 s) : KeepsX z0 (execRingDisable r s) := by
  unfold execRingDisable
  try dsimp only
  with_reducible repeat' (first | assumption | refine KeepsX.next ?_ | apply ringDisable_keeps)

theorem ringDrained_keeps {z0 : State} (s : State) (r : Nat) (h_s : Keeps z0 s) : Keeps z0 (State.ringDrained s r) := by
  unfold State.ringDrained
  try dsimp only
  with_reducible repeat' (first | assumption | refine Keeps.ite ?_ ?_ | apply setRing_keeps)

theorem execRingDrained_keeps {z0 : State} (r : Ring) (s : State) (h_s : Keeps z0 s) : KeepsX z0 (execRingDrained r s) := by
  unfold execRingDrained
  try dsimp only
  with_reducible repeat' (first | assumption | refine KeepsX.next ?_ | apply ringDrained_keeps)

theorem coalesce_keeps {z0 : State} (s : State) (r : Nat) (h_s : Keeps z0 s) : Keeps z0 (State.coalesce s r) := by
  unfold State.coalesce
  try dsimp only
  with_reducible repeat' (first | assumption | refine Keeps.ite ?_ ?_ | apply setRing_keeps | apply arrive_keeps)

theorem execCoalescingTimeout_keeps {z0 : State} (r : Ring) (s : State) (h_s : Keeps z0 s) : KeepsX z0 (execCoalescingTimeout r s) := by
  unfold execCoalescingTimeout
  try dsimp only
  with_reducible repeat' (first | assumption | refine KeepsX.next ?_ | apply coalesce_keeps)

theorem windowRead_keeps {z0 : State} (s : State) (off len : Nat) (upset : List Nat) (h_s : Keeps z0 s) : Keeps z0 (State.windowRead s off len upset) := by
  unfold State.windowRead
  try dsimp only
  with_reducible repeat' (first | assumption | refine Keeps.ite ?_ ?_ | refine Keeps.fold _ ?_ (fun _ _ _ => ?_) | apply stackAccess_keeps | apply checkFailed_keeps | dsimp only [Keeps.lit_eq])

theorem execWindowRead_keeps {z0 : State} (off len : Nat) (upset : List Nat) (s : State) (h_s : Keeps z0 s) : KeepsX z0 (execWindowRead off len upset s) := by
  unfold execWindowRead
  try dsimp only
  with_reducible repeat' (first | assumption | refine KeepsX.next ?_ | apply windowRead_keeps)

theorem windowWrite_keeps {z0 : State} (s : State) (off : Nat) (bytes : List Nat) (h_s : Keeps z0 s) : Keeps z0 (State.windowWrite s off bytes) := by
  unfold State.windowWrite
  try dsimp only
  with_reducible repeat' (first | assumption | refine Keeps.ite ?_ ?_ | apply stackAccess_keeps | apply writeStack_keeps | apply bump_keeps | dsimp only [Keeps.lit_eq])

theorem execWindowWrite_keeps {z0 : State} (off : Nat) (bytes : List Nat) (s : State) (h_s : Keeps z0 s) : KeepsX z0 (execWindowWrite off bytes s) := by
  unfold execWindowWrite
  try dsimp only
  with_reducible repeat' (first | assumption | refine KeepsX.next ?_ | apply windowWrite_keeps)

theorem dmaFailure_keeps {z0 : State} (s : State) (d : DmaRead) (h_s : Keeps z0 s) : Keeps z0 (State.dmaFailure s d) := by
  unfold State.dmaFailure
  try dsimp only
  with_reducible repeat' (first | assumption | refine Keeps.ite ?_ ?_ | apply bump_keeps | apply ringError_keeps | apply endAny_keeps | apply setBoot_keeps | apply moveFailed_keeps | apply conduitError_keeps | dsimp only [Keeps.lit_eq] | split)

theorem execDmaReadFailure_keeps {z0 : State} (d : DmaRead) (s : State) (h_s : Keeps z0 s) : KeepsX z0 (execDmaReadFailure d s) := by
  unfold execDmaReadFailure
  try dsimp only
  with_reducible repeat' (first | assumption | refine KeepsX.next ?_ | apply dmaFailure_keeps)

theorem setArea_keeps {z0 : State} (s : State) (conduit : Bool) (a : Area) (h_s : Keeps z0 s) : Keeps z0 (State.setArea s conduit a) := by
  unfold State.setArea
  try dsimp only
  with_reducible repeat' (first | assumption | dsimp only [Keeps.lit_eq])

theorem registerArea_keeps {z0 : State} (s : State) (conduit : Bool) (list : Option (List Nat)) (h_s : Keeps z0 s) : Keeps z0 (State.registerArea s conduit list) := by
  unfold State.registerArea
  try dsimp only
  with_reducible repeat' (first | assumption | refine Keeps.ite ?_ ?_ | apply work_keeps | apply setArea_keeps | split)

theorem execAreaRegister_keeps {z0 : State} (conduit : Bool) (list : Option (List Nat)) (s : State) (h_s : Keeps z0 s) : KeepsX z0 (execAreaRegister conduit list s) := by
  unfold execAreaRegister
  try dsimp only
  with_reducible repeat' (first | assumption | refine KeepsX.next ?_ | apply registerArea_keeps)

theorem releaseArea_keeps {z0 : State} (s : State) (conduit : Bool) (h_s : Keeps z0 s) : KeepsO z0 (State.releaseArea s conduit) := by
  unfold State.releaseArea
  try dsimp only
  with_reducible repeat' (first | assumption | exact KeepsO.none | refine KeepsO.ite ?_ ?_ | refine KeepsO.some ?_ | apply setArea_keeps)

theorem execAreaRelease_keeps {z0 : State} (conduit : Bool) (s : State) (h_s : Keeps z0 s) : KeepsX z0 (execAreaRelease conduit s) := by
  unfold execAreaRelease
  try dsimp only
  with_reducible repeat' (first | assumption | refine KeepsX.next ?_ | refine Keeps.getD ?_ ?_ | apply releaseArea_keeps)

theorem loseT2_keeps {z0 : State} (s : State) (h_s : Keeps z0 s) : Keeps z0 (State.loseT2 s) := by
  unfold State.loseT2
  try dsimp only
  with_reducible repeat' (first | assumption | refine Keeps.fold _ ?_ (fun _ _ _ => ?_) | apply moveFailed_keeps | apply moveComplete_keeps | apply unloadWeights_keeps | dsimp only [Keeps.lit_eq])

theorem dropHostWork_keeps {z0 : State} (s : State) (h_s : Keeps z0 s) : Keeps z0 (State.dropHostWork s) := by
  unfold State.dropHostWork
  try dsimp only
  with_reducible repeat' (first | assumption | dsimp only [Keeps.lit_eq])

theorem resetMsix_keeps {z0 : State} (s : State) (pf1 : Bool) (h_s : Keeps z0 s) : Keeps z0 (State.resetMsix s pf1) := by
  unfold State.resetMsix
  try dsimp only
  with_reducible repeat' (first | assumption | apply unroute_keeps | dsimp only [Keeps.lit_eq])

theorem hostLoss_keeps {z0 : State} (s : State) (h_s : Keeps z0 s) : Keeps z0 (State.hostLoss s) := by
  unfold State.hostLoss
  try dsimp only
  with_reducible repeat' (first | assumption | refine Keeps.fold _ ?_ (fun _ _ _ => ?_) | apply bump_keeps | apply endEvery_keeps | apply loseT2_keeps | apply conduitError_keeps | apply dropHostWork_keeps | apply resetMsix_keeps | dsimp only [Keeps.lit_eq])

theorem execHostLoss_keeps {z0 : State} (s : State) (h_s : Keeps z0 s) : KeepsX z0 (execHostLoss s) := by
  unfold execHostLoss
  try dsimp only
  with_reducible repeat' (first | assumption | refine KeepsX.next ?_ | apply hostLoss_keeps)

theorem pf1Reset_keeps {z0 : State} (s : State) (h_s : Keeps z0 s) : Keeps z0 (State.pf1Reset s) := by
  unfold State.pf1Reset
  try dsimp only
  with_reducible repeat' (first | assumption | apply resetMsix_keeps | dsimp only [Keeps.lit_eq])

theorem execPf1Reset_keeps {z0 : State} (s : State) (h_s : Keeps z0 s) : KeepsX z0 (execPf1Reset s) := by
  unfold execPf1Reset
  try dsimp only
  with_reducible repeat' (first | assumption | refine KeepsX.next ?_ | apply pf1Reset_keeps)

theorem busMaster_keeps {z0 : State} (s : State) (on : Bool) (h_s : Keeps z0 s) : Keeps z0 (State.busMaster s on) := by
  unfold State.busMaster
  try dsimp only
  with_reducible repeat' (first | assumption | refine Keeps.ite ?_ ?_ | refine Keeps.fold _ ?_ (fun _ _ _ => ?_) | apply msixWork_keeps | apply emit_keeps | dsimp only [Keeps.lit_eq] | split)

theorem execBusMasterEnable_keeps {z0 : State} (on : Bool) (s : State) (h_s : Keeps z0 s) : KeepsX z0 (execBusMasterEnable on s) := by
  unfold execBusMasterEnable
  try dsimp only
  with_reducible repeat' (first | assumption | refine KeepsX.next ?_ | apply busMaster_keeps)

/-! Scheduler -/

theorem joinTier_keeps {z0 : State} (s : State) (c k t : Nat) (h_s : Keeps z0 s) : Keeps z0 (State.joinTier s c k t) := by
  unfold State.joinTier
  try dsimp only
  with_reducible repeat' (first | assumption | refine Keeps.ite ?_ ?_ | dsimp only [Keeps.lit_eq])

theorem takeColours_keeps {z0 : State} (s : State) (p c : Nat) (h_s : Keeps z0 s) : Keeps z0 (State.takeColours s p c) := by
  unfold State.takeColours
  try dsimp only
  with_reducible repeat' (first | assumption | refine Keeps.ite ?_ ?_ | refine Keeps.fold _ ?_ (fun _ _ _ => ?_) | apply bump_keeps | apply joinTier_keeps | dsimp only [Keeps.lit_eq] | split)

theorem markLeft_keeps {z0 : State} (s : State) (p : Nat) (k : Packet) (h_s : Keeps z0 s) : Keeps z0 (State.markLeft s p k) := by
  unfold State.markLeft
  try dsimp only
  with_reducible repeat' (first | assumption | refine Keeps.ite ?_ ?_ | dsimp only [Keeps.lit_eq])

theorem sendPacket_keeps {z0 : State} (s : State) (p : Nat) (w : Work) (k : Packet) (h_s : Keeps z0 s) : Keeps z0 (State.sendPacket s p w k) := by
  unfold State.sendPacket
  try dsimp only
  with_reducible repeat' (first | assumption | refine Keeps.ite ?_ ?_ | apply setPort_keeps | apply bump_keeps | apply markLeft_keeps | apply leaveIngress_keeps | apply afterPacket_keeps | dsimp only [Keeps.lit_eq])

theorem idlePort_keeps {z0 : State} (s : State) (p : Nat) (h_s : Keeps z0 s) : Keeps z0 (State.idlePort s p) := by
  unfold State.idlePort
  try dsimp only
  with_reducible repeat' (first | assumption | refine Keeps.ite ?_ ?_ | apply releaseControl_keeps | apply closeFrame_keeps)

theorem sentUpper_keeps {z0 : State} (s : State) (c len flow : Nat) (t k tag ftag : Nat) (h_s : Keeps z0 s) : Keeps z0 (State.sentUpper s c len flow t k tag ftag) := by
  unfold State.sentUpper
  try dsimp only
  with_reducible repeat' (first | assumption | refine Keeps.ite ?_ ?_ | apply bumpBy_keeps | dsimp only [Keeps.lit_eq])

theorem emptied_keeps {z0 : State} (s : State) (c : Nat) (l : List Nat) (h_s : Keeps z0 s) : Keeps z0 (State.emptied s c l) := by
  unfold State.emptied
  try dsimp only
  with_reducible repeat' (first | assumption | refine Keeps.ite ?_ ?_ | dsimp only [Keeps.lit_eq])

theorem sendHead_keeps {z0 : State} (s : State) (res c : Nat) (h : Pick) (h_s : Keeps z0 s) : Keeps z0 (State.sendHead s res c h) := by
  unfold State.sendHead
  try dsimp only
  with_reducible repeat' (first | assumption | refine Keeps.ite ?_ ?_ | apply sentUpper_keeps | apply emptied_keeps | apply setObj_keeps | apply sendPacket_keeps | dsimp only [Keeps.lit_eq] | split)

theorem roundRobin_keeps {z0 : State} (s : State) (res c : Nat) (l : Nat) (h_s : Keeps z0 s) : Keeps z0 (State.roundRobin s res c l) := by
  induction l generalizing s res c with
  | zero =>
    unfold State.roundRobin
    try dsimp only
    with_reducible repeat' assumption
  | succ n ih =>
    unfold State.roundRobin
    try dsimp only
    with_reducible repeat' (first | assumption | refine Keeps.ite ?_ ?_ | apply sendHead_keeps | apply ih | dsimp only [Keeps.lit_eq] | split)

theorem selectWeighted_keeps {z0 : State} (s : State) (res : Nat) (h_s : Keeps z0 s) : Keeps z0 (State.selectWeighted s res) := by
  unfold State.selectWeighted
  try dsimp only
  with_reducible repeat' (first | assumption | refine Keeps.ite ?_ ?_ | apply idlePort_keeps | apply sendHead_keeps | apply roundRobin_keeps | split)

theorem countHolds_keeps {z0 : State} (s : State) (res : Nat) (h_s : Keeps z0 s) : Keeps z0 (State.countHolds s res) := by
  unfold State.countHolds
  try dsimp only
  with_reducible repeat' (first | assumption | apply bumpBy_keeps)

theorem schedule_keeps {z0 : State} (s : State) (res : Nat) (h_s : Keeps z0 s) : Keeps z0 (State.schedule s res) := by
  unfold State.schedule
  try dsimp only
  with_reducible repeat' (first | assumption | refine Keeps.ite ?_ ?_ | refine Keeps.fold _ ?_ (fun _ _ _ => ?_) | apply takeColours_keeps | apply countHolds_keeps | apply sendHead_keeps | apply selectWeighted_keeps | split)

theorem execSchedulerSelect_keeps {z0 : State} (r : Resource) (s : State) (h_s : Keeps z0 s) : KeepsX z0 (execSchedulerSelect r s) := by
  unfold execSchedulerSelect
  try dsimp only
  with_reducible repeat' (first | assumption | refine KeepsX.next ?_ | apply schedule_keeps)

theorem writePolicing_keeps {z0 : State} (s : State) (t sub value : Nat) (h_s : Keeps z0 s) : KeepsO z0 (State.writePolicing s t sub value) := by
  unfold State.writePolicing
  try dsimp only
  with_reducible repeat' (first | assumption | exact KeepsO.none | refine KeepsO.ite ?_ ?_ | refine KeepsO.some ?_ | apply setObj_keeps | dsimp only [Keeps.lit_eq])

theorem execTenantPolicingWrite_keeps {z0 : State} (t : Tenant) (sub value : Nat) (s : State) (h_s : Keeps z0 s) : KeepsX z0 (execTenantPolicingWrite t sub value s) := by
  unfold execTenantPolicingWrite
  try dsimp only
  with_reducible repeat' (first | assumption | refine KeepsX.next ?_ | refine Keeps.getD ?_ ?_ | apply writePolicing_keeps)

theorem writeCeiling_keeps {z0 : State} (s : State) (rec sub value : Nat) (h_s : Keeps z0 s) : Keeps z0 (State.writeCeiling s rec sub value) := by
  unfold State.writeCeiling
  try dsimp only
  with_reducible repeat' (first | assumption | apply setObj_keeps | dsimp only [Keeps.lit_eq])

/-! Writes -/

theorem badValue_keeps {z0 : State} : KeepsE z0 badValue := KeepsE.error

theorem badState_keeps {z0 : State} : KeepsE z0 badState := KeepsE.error

theorem orState_keeps {z0 : State} (x : Option State) (h : KeepsO z0 x) : KeepsE z0 (orState x) := by
  unfold orState
  cases x with
  | none => exact KeepsE.error
  | some t => exact KeepsE.ok (h t rfl)

theorem orValue_keeps {z0 : State} (x : Option State) (h : KeepsO z0 x) : KeepsE z0 (orValue x) := by
  unfold orValue
  cases x with
  | none => exact KeepsE.error
  | some t => exact KeepsE.ok (h t rfl)

theorem only1_keeps {z0 : State} (v : Nat) (x : Wrote) (h : KeepsE z0 x) : KeepsE z0 (only1 v x) := by
  unfold only1
  split
  · exact h
  · exact KeepsE.error

theorem writeStart_keeps {z0 : State} (s : State) (i sub len v : Nat) (h_s : Keeps z0 s) : KeepsW z0 (State.writeStart s i sub len v) := by
  unfold State.writeStart
  try dsimp only
  with_reducible repeat' (first | assumption | exact KeepsW.none | refine KeepsE.ite ?_ ?_ | refine KeepsW.ite ?_ ?_ | refine KeepsE.ok ?_ | refine KeepsW.some ?_ | refine KeepsO.map ?_ (fun _ _ => ?_) | apply setObj_keeps | apply badValue_keeps | apply orState_keeps | apply bundleWrite_keeps | apply only1_keeps | apply warmReset_keeps | apply bermControl_keeps | dsimp only [Keeps.lit_eq])

theorem writeTempo_keeps {z0 : State} (s : State) (i sub v : Nat) (h_s : Keeps z0 s) : KeepsW z0 (State.writeTempo s i sub v) := by
  unfold State.writeTempo
  try dsimp only
  with_reducible repeat' (first | assumption | exact KeepsW.none | refine Keeps.ite ?_ ?_ | refine KeepsE.ite ?_ ?_ | refine KeepsW.ite ?_ ?_ | refine KeepsE.ok ?_ | refine KeepsW.some ?_ | apply setObj_keeps | apply rebid_keeps | apply orValue_keeps | apply writeCap_keeps | apply badValue_keeps | apply setTrim_keeps | apply automaticSleep_keeps | apply sleepControl_keeps | dsimp only [Keeps.lit_eq])

theorem writeProgram_keeps {z0 : State} (s : State) (p v : Nat) (h_s : Keeps z0 s) : KeepsE z0 (State.writeProgram s p v) := by
  unfold State.writeProgram
  try dsimp only
  with_reducible repeat' (first | assumption | refine KeepsE.ite ?_ ?_ | apply orState_keeps | apply quiesce_keeps | apply clearStopped_keeps | apply resume_keeps | apply badValue_keeps)

theorem chartControl_keeps {z0 : State} (s : State) (i v : Nat) (h_s : Keeps z0 s) : KeepsE z0 (State.chartControl s i v) := by
  unfold State.chartControl
  try dsimp only
  with_reducible repeat' (first | assumption | apply orState_keeps | apply proposeChart_keeps | apply chartCommitHere_keeps | apply chartAbortHere_keeps | apply chartInstall_keeps | apply abandonTransfers_keeps | apply badValue_keeps | split)

theorem writeChart_keeps {z0 : State} (s : State) (i sub len v : Nat) (h_s : Keeps z0 s) : KeepsW z0 (State.writeChart s i sub len v) := by
  unfold State.writeChart
  try dsimp only
  with_reducible repeat' (first | assumption | exact KeepsW.none | refine KeepsE.ite ?_ ?_ | refine KeepsW.ite ?_ ?_ | refine KeepsE.ok ?_ | refine KeepsW.some ?_ | apply setObj_keeps | apply badState_keeps | apply setChart_keeps | apply badValue_keeps | apply chartControl_keeps | split)

theorem writeFabric_keeps {z0 : State} (s : State) (i sub v : Nat) (h_s : Keeps z0 s) : KeepsW z0 (State.writeFabric s i sub v) := by
  unfold State.writeFabric
  try dsimp only
  with_reducible repeat' (first | assumption | exact KeepsW.none | refine Keeps.ite ?_ ?_ | refine KeepsE.ite ?_ ?_ | refine KeepsW.ite ?_ ?_ | refine KeepsE.ok ?_ | refine KeepsW.some ?_ | apply setObj_keeps | apply syncPairMode_keeps | apply disablePort_keeps | apply enablePort_keeps | apply badValue_keeps | apply orState_keeps | apply writeNode_keeps | apply only1_keeps | apply commitRoutes_keeps | dsimp only [Keeps.lit_eq])

theorem writeConduit_keeps {z0 : State} (s : State) (sub v : Nat) (h_s : Keeps z0 s) : KeepsW z0 (State.writeConduit s sub v) := by
  unfold State.writeConduit
  try dsimp only
  with_reducible repeat' (first | assumption | exact KeepsW.none | refine KeepsE.ite ?_ ?_ | refine KeepsE.ok ?_ | refine KeepsW.some ?_ | apply setConduit_keeps | apply badState_keeps | apply badValue_keeps | apply orState_keeps | apply conduitOpen_keeps | apply conduitClose_keeps | apply conduitReset_keeps | split)

theorem writeTiers_keeps {z0 : State} (s : State) (i sub v : Nat) (h_s : Keeps z0 s) : KeepsW z0 (State.writeTiers s i sub v) := by
  unfold State.writeTiers
  try dsimp only
  with_reducible repeat' (first | assumption | exact KeepsW.none | refine KeepsE.ite ?_ ?_ | refine KeepsW.ite ?_ ?_ | refine KeepsE.ok ?_ | refine KeepsW.some ?_ | apply setObj_keeps | apply badValue_keeps | apply writeCeiling_keeps | apply orState_keeps | apply driveOffline_keeps | apply driveReinit_keeps | split)

theorem writePages_keeps {z0 : State} (s : State) (i sub v : Nat) (h_s : Keeps z0 s) : KeepsW z0 (State.writePages s i sub v) := by
  unfold State.writePages
  try dsimp only
  with_reducible repeat' (first | assumption | exact KeepsW.none | refine KeepsE.ite ?_ ?_ | refine KeepsW.ite ?_ ?_ | refine KeepsE.ok ?_ | refine KeepsW.some ?_ | apply setObj_keeps | apply badState_keeps | apply badValue_keeps | apply startSweep_keeps | apply enableBinding_keeps | apply orState_keeps | apply disableBinding_keeps | apply writeShape_keeps | dsimp only [Keeps.lit_eq])

theorem writeIntegrity_keeps {z0 : State} (s : State) (i sub v : Nat) (h_s : Keeps z0 s) : KeepsW z0 (State.writeIntegrity s i sub v) := by
  unfold State.writeIntegrity
  try dsimp only
  with_reducible repeat' (first | assumption | exact KeepsW.none | refine KeepsE.ite ?_ ?_ | refine KeepsW.ite ?_ ?_ | refine KeepsE.ok ?_ | refine KeepsW.some ?_ | apply orState_keeps | apply rebuild_keeps | apply abandonRebuild_keeps | apply badValue_keeps | apply orValue_keeps | apply renewLease_keeps | apply writeLease_keeps | apply fenceControl_keeps | apply probation_keeps | apply liftFence_keeps | apply markOrphan_keeps | dsimp only [Keeps.lit_eq] | split)

theorem writeGatherer_keeps {z0 : State} (s : State) (sub v : Nat) (h_s : Keeps z0 s) : KeepsW z0 (State.writeGatherer s sub v) := by
  unfold State.writeGatherer
  try dsimp only
  with_reducible repeat' (first | assumption | exact KeepsW.none | refine KeepsE.ite ?_ ?_ | refine KeepsE.ok ?_ | refine KeepsW.some ?_ | apply orValue_keeps | apply configure_keeps | apply arrive_keeps | apply clearPending_keeps | apply badValue_keeps | split)

theorem writeSecurity_keeps {z0 : State} (s : State) (i sub v : Nat) (h_s : Keeps z0 s) : KeepsW z0 (State.writeSecurity s i sub v) := by
  unfold State.writeSecurity
  try dsimp only
  with_reducible repeat' (first | assumption | exact KeepsW.none | refine KeepsO.ite ?_ ?_ | refine KeepsW.ite ?_ ?_ | refine KeepsE.ok ?_ | refine KeepsW.some ?_ | apply nonce_keeps | apply orState_keeps | apply switchGeneration_keeps | apply eraseGeneration_keeps | apply eraseSlot_keeps | apply badValue_keeps | apply writeBreachLevel_keeps | apply only1_keeps | apply lockPolicy_keeps | apply startConfidential_keeps | apply endConfidential_keeps | split)

theorem writeHost_keeps {z0 : State} (s : State) (i sub v : Nat) (h_s : Keeps z0 s) : KeepsW z0 (State.writeHost s i sub v) := by
  unfold State.writeHost
  try dsimp only
  with_reducible repeat' (first | assumption | exact KeepsW.none | refine KeepsE.ite ?_ ?_ | refine KeepsW.ite ?_ ?_ | refine KeepsE.ok ?_ | refine KeepsW.some ?_ | apply setObj_keeps | apply badValue_keeps | apply orState_keeps | apply releaseArea_keeps)

theorem writeTenant_keeps {z0 : State} (s : State) (t sub v : Nat) (h_s : Keeps z0 s) : KeepsW z0 (State.writeTenant s t sub v) := by
  unfold State.writeTenant
  try dsimp only
  with_reducible repeat' (first | assumption | exact KeepsW.none | refine KeepsE.ite ?_ ?_ | refine KeepsW.ite ?_ ?_ | refine KeepsE.ok ?_ | refine KeepsW.some ?_ | apply badState_keeps | apply badValue_keeps | apply setObj_keeps | apply orValue_keeps | apply writePolicing_keeps)

theorem writeGauge_keeps {z0 : State} (s : State) (i sub v : Nat) (h_s : Keeps z0 s) : KeepsW z0 (State.writeGauge s i sub v) := by
  unfold State.writeGauge
  try dsimp only
  with_reducible repeat' (first | assumption | exact KeepsW.none | refine KeepsE.ite ?_ ?_ | refine KeepsW.ite ?_ ?_ | refine KeepsE.ok ?_ | refine KeepsW.some ?_ | apply badValue_keeps | apply orState_keeps | apply askTenant_keeps | apply askLog_keeps | apply clearGaugeLog_keeps | apply adjustGauge_keeps | apply retireTenant_keeps)

theorem writeSpecial_keeps {z0 : State} (s : State) (k len v : Nat) (h_s : Keeps z0 s) : KeepsW z0 (State.writeSpecial s k len v) := by
  unfold State.writeSpecial
  try dsimp only
  with_reducible repeat' (first | assumption | exact KeepsW.none | refine KeepsW.ite ?_ ?_ | refine KeepsW.some ?_ | apply writeStart_keeps | apply writeTempo_keeps | apply writeProgram_keeps | apply writeChart_keeps | apply writeFabric_keeps | apply writeConduit_keeps | apply writeTiers_keeps | apply writePages_keeps | apply writeIntegrity_keeps | apply writeGatherer_keeps | apply writeSecurity_keeps | apply writeHost_keeps | apply writeTenant_keeps | apply writeGauge_keeps)

theorem applyWrite_keeps {z0 : State} (s : State) (r : ObjRow) (k len v : Nat) (h_s : Keeps z0 s) : KeepsE z0 (State.applyWrite s r k len v) := by
  unfold State.applyWrite
  try dsimp only
  with_reducible repeat' (first | assumption | refine KeepsE.ite ?_ ?_ | refine KeepsE.ok ?_ | apply badValue_keeps | apply writeSpecial_keeps | apply setObj_keeps | refine KeepsE.ofW (by assumption) ?_ | split)

/-! Woa -/

theorem toMailbox_keeps {z0 : State} (s : State) (o : Out) (n : Nat) (h_s : Keeps z0 s) : Keeps z0 (State.toMailbox s o n) := by
  unfold State.toMailbox
  try dsimp only
  with_reducible repeat' (first | assumption | apply arrive_keeps | dsimp only [Keeps.lit_eq])

theorem woaSend_keeps {z0 : State} (s : State) (path client xfer cmd flags key total off len value : Nat) (h_s : Keeps z0 s) : Keeps z0 (State.woaSend s path client xfer cmd flags key total off len value) := by
  unfold State.woaSend
  try dsimp only
  with_reducible repeat' (first | assumption | refine Keeps.ite ?_ ?_ | apply toMailbox_keeps | dsimp only [Keeps.lit_eq])

theorem sendAbort_keeps {z0 : State} (s : State) (path client xfer key code : Nat) (h_s : Keeps z0 s) : Keeps z0 (State.sendAbort s path client xfer key code) := by
  unfold State.sendAbort
  try dsimp only
  with_reducible repeat' (first | assumption | refine Keeps.ite ?_ ?_ | apply woaSend_keeps | apply bump_keeps)

theorem refuseWoa_keeps {z0 : State} (s : State) (m : WoaMsg) (code : Nat) (h_s : Keeps z0 s) : Keeps z0 (State.refuseWoa s m code) := by
  unfold State.refuseWoa
  try dsimp only
  with_reducible repeat' (first | assumption | apply sendAbort_keeps)

theorem hearWoa_keeps {z0 : State} (s : State) (cmd : Nat) (m : WoaMsg) (f : State → State) (h_f : ∀ t, Keeps z0 t → Keeps z0 (f t)) (h_s : Keeps z0 s) : Keeps z0 (State.hearWoa s cmd m f) := by
  unfold State.hearWoa
  try dsimp only
  with_reducible repeat' (first | assumption | refine Keeps.ite ?_ ?_ | apply bump_keeps | apply refuseWoa_keeps | apply h_f)

theorem setXfer_keeps {z0 : State} (s : State) (id : Nat) (x : Xfer) (h_s : Keeps z0 s) : Keeps z0 (State.setXfer s id x) := by
  unfold State.setXfer
  try dsimp only
  with_reducible repeat' (first | assumption | dsimp only [Keeps.lit_eq])

theorem closeXfer_keeps {z0 : State} (s : State) (id : Nat) (h_s : Keeps z0 s) : Keeps z0 (State.closeXfer s id) := by
  unfold State.closeXfer
  try dsimp only
  with_reducible repeat' (first | assumption | refine Keeps.ite ?_ ?_ | dsimp only [Keeps.lit_eq] | split)

theorem onXfer_keeps {z0 : State} (s : State) (m : WoaMsg) (other : State → State) (f : State → Xfer → State) (h_other : ∀ t, Keeps z0 t → Keeps z0 (other t)) (h_f : ∀ t y, Keeps z0 t → Keeps z0 (f t y)) (h_s : Keeps z0 s) : Keeps z0 (State.onXfer s m other f) := by
  unfold State.onXfer
  try dsimp only
  with_reducible repeat' (first | assumption | refine Keeps.ite ?_ ?_ | apply setXfer_keeps | apply closeXfer_keeps | apply refuseWoa_keeps | apply h_other | apply h_f | split)

theorem sendSegments_keeps {z0 : State} (s : State) (id : Nat) (x : Xfer) (stop off : Nat) (l : Nat) (h_s : Keeps z0 s) : Keeps z0 (State.sendSegments s id x stop off l).1 := by
  induction l generalizing s id x stop off with
  | zero =>
    unfold State.sendSegments
    try dsimp only
    with_reducible repeat' assumption
  | succ n ih =>
    unfold State.sendSegments
    try dsimp only
    with_reducible repeat' (first | assumption | refine KeepsF.ite ?_ ?_ | apply woaSend_keeps | apply ih)

theorem pumpXfer_keeps {z0 : State} (s : State) (id : Nat) (x : Xfer) (h_s : Keeps z0 s) : Keeps z0 (State.pumpXfer s id x) := by
  unfold State.pumpXfer
  try dsimp only
  with_reducible repeat' (first | assumption | apply sendSegments_keeps | apply setXfer_keeps)

theorem resendXfer_keeps {z0 : State} (s : State) (id : Nat) (x : Xfer) (h_s : Keeps z0 s) : Keeps z0 (State.resendXfer s id x) := by
  unfold State.resendXfer
  try dsimp only
  with_reducible repeat' (first | assumption | apply sendSegments_keeps)

theorem woaRead_keeps {z0 : State} (s : State) (m : WoaMsg) (h_s : Keeps z0 s) : Keeps z0 (State.woaRead s m) := by
  unfold State.woaRead
  try dsimp only
  with_reducible repeat' (first | assumption | refine Keeps.ite ?_ ?_ | apply refuseWoa_keeps | apply woaSend_keeps | apply pumpXfer_keeps | apply hearWoa_keeps | apply onXfer_keeps | intro _ | split)

theorem execWoaRead_keeps {z0 : State} (m : WoaMsg) (s : State) (h_s : Keeps z0 s) : KeepsX z0 (execWoaRead m s) := by
  unfold execWoaRead
  try dsimp only
  with_reducible repeat' (first | assumption | refine KeepsX.next ?_ | apply woaRead_keeps)

theorem keepResponse_keeps {z0 : State} (s : State) (id key : Nat) (h_s : Keeps z0 s) : Keeps z0 (State.keepResponse s id key) := by
  unfold State.keepResponse
  try dsimp only
  with_reducible repeat' (first | assumption | dsimp only [Keeps.lit_eq])

theorem noteRefusal_keeps {z0 : State} (s : State) (k v : Nat) (h_s : Keeps z0 s) : Keeps z0 (State.noteRefusal s k v) := by
  unfold State.noteRefusal
  try dsimp only
  with_reducible repeat' (first | assumption | refine Keeps.ite ?_ ?_ | apply noteSlice_keeps)

theorem finishWrite_keeps {z0 : State} (s : State) (path client xfer k len v : Nat) (bundle : Bool) (h_s : Keeps z0 s) : Keeps z0 (State.finishWrite s path client xfer k len v bundle) := by
  unfold State.finishWrite
  try dsimp only
  with_reducible repeat' (first | assumption | refine Keeps.ite ?_ ?_ | apply keepResponse_keeps | apply woaSend_keeps | apply sendAbort_keeps | apply applyWrite_keeps | apply noteRefusal_keeps | refine Keeps.ofE (by assumption) ?_ | split)

theorem refuseWrite_keeps {z0 : State} (s : State) (m : WoaMsg) (code : Nat) (h_s : Keeps z0 s) : Keeps z0 (State.refuseWrite s m code) := by
  unfold State.refuseWrite
  try dsimp only
  with_reducible repeat' (first | assumption | refine Keeps.ite ?_ ?_ | apply detect_keeps | apply refuseWoa_keeps)

theorem openWrite_keeps {z0 : State} (s : State) (m : WoaMsg) (h_s : Keeps z0 s) : Keeps z0 (State.openWrite s m) := by
  unfold State.openWrite
  try dsimp only
  with_reducible repeat' (first | assumption | refine Keeps.ite ?_ ?_ | refine KeepsO.ite ?_ ?_ | refine KeepsO.some ?_ | apply refuseWoa_keeps | apply bundleWrite_keeps | apply setXfer_keeps | apply woaSend_keeps | apply closeXfer_keeps | apply finishWrite_keeps | refine Keeps.ofO (by assumption) ?_ | split)

theorem woaWrite_keeps {z0 : State} (s : State) (m : WoaMsg) (h_s : Keeps z0 s) : Keeps z0 (State.woaWrite s m) := by
  unfold State.woaWrite
  try dsimp only
  with_reducible repeat' (first | assumption | refine Keeps.ite ?_ ?_ | apply woaSend_keeps | apply bump_keeps | apply refuseWrite_keeps | apply finishWrite_keeps | apply openWrite_keeps | apply hearWoa_keeps | apply refuseWoa_keeps | apply onXfer_keeps | apply setXfer_keeps | intro _ | split)

theorem execWoaWrite_keeps {z0 : State} (m : WoaMsg) (s : State) (h_s : Keeps z0 s) : KeepsX z0 (execWoaWrite m s) := by
  unfold execWoaWrite
  try dsimp only
  with_reducible repeat' (first | assumption | refine KeepsX.next ?_ | apply woaWrite_keeps)

theorem woaSegment_keeps {z0 : State} (s : State) (m : WoaMsg) (h_s : Keeps z0 s) : Keeps z0 (State.woaSegment s m) := by
  unfold State.woaSegment
  try dsimp only
  with_reducible repeat' (first | assumption | refine Keeps.ite ?_ ?_ | apply hearWoa_keeps | apply onXfer_keeps | apply refuseWoa_keeps | apply setXfer_keeps | apply woaSend_keeps | apply finishWrite_keeps | intro _ | dsimp only [Keeps.lit_eq])

theorem execSegment_keeps {z0 : State} (m : WoaMsg) (s : State) (h_s : Keeps z0 s) : KeepsX z0 (execSegment m s) := by
  unfold execSegment
  try dsimp only
  with_reducible repeat' (first | assumption | refine KeepsX.next ?_ | apply woaSegment_keeps)

theorem woaAck_keeps {z0 : State} (s : State) (m : WoaMsg) (h_s : Keeps z0 s) : Keeps z0 (State.woaAck s m) := by
  unfold State.woaAck
  try dsimp only
  with_reducible repeat' (first | assumption | refine Keeps.ite ?_ ?_ | apply hearWoa_keeps | apply onXfer_keeps | apply refuseWoa_keeps | apply closeXfer_keeps | apply resendXfer_keeps | apply pumpXfer_keeps | intro _)

theorem execWoaAck_keeps {z0 : State} (m : WoaMsg) (s : State) (h_s : Keeps z0 s) : KeepsX z0 (execWoaAck m s) := by
  unfold execWoaAck
  try dsimp only
  with_reducible repeat' (first | assumption | refine KeepsX.next ?_ | apply woaAck_keeps)

theorem woaAborted_keeps {z0 : State} (s : State) (m : WoaMsg) (h_s : Keeps z0 s) : Keeps z0 (State.woaAborted s m) := by
  unfold State.woaAborted
  try dsimp only
  with_reducible repeat' (first | assumption | apply hearWoa_keeps | apply onXfer_keeps | apply closeXfer_keeps | intro _)

theorem execWoaAbort_keeps {z0 : State} (m : WoaMsg) (s : State) (h_s : Keeps z0 s) : KeepsX z0 (execWoaAbort m s) := by
  unfold execWoaAbort
  try dsimp only
  with_reducible repeat' (first | assumption | refine KeepsX.next ?_ | apply woaAborted_keeps)

theorem woaRetransmit_keeps {z0 : State} (s : State) (client xfer : Nat) (h_s : Keeps z0 s) : Keeps z0 (State.woaRetransmit s client xfer) := by
  unfold State.woaRetransmit
  try dsimp only
  with_reducible repeat' (first | assumption | refine Keeps.ite ?_ ?_ | apply closeXfer_keeps | apply sendAbort_keeps | apply resendXfer_keeps | apply setXfer_keeps | split)

theorem execWoaRetransmit_keeps {z0 : State} (client xfer : Nat) (s : State) (h_s : Keeps z0 s) : KeepsX z0 (execWoaRetransmit client xfer s) := by
  unfold execWoaRetransmit
  try dsimp only
  with_reducible repeat' (first | assumption | refine KeepsX.next ?_ | apply woaRetransmit_keeps)

theorem woaIdle_keeps {z0 : State} (s : State) (client xfer : Nat) (h_s : Keeps z0 s) : Keeps z0 (State.woaIdle s client xfer) := by
  unfold State.woaIdle
  try dsimp only
  with_reducible repeat' (first | assumption | refine Keeps.ite ?_ ?_ | apply closeXfer_keeps | split)

theorem execWoaIdleTimeout_keeps {z0 : State} (client xfer : Nat) (s : State) (h_s : Keeps z0 s) : KeepsX z0 (execWoaIdleTimeout client xfer s) := by
  unfold execWoaIdleTimeout
  try dsimp only
  with_reducible repeat' (first | assumption | refine KeepsX.next ?_ | apply woaIdle_keeps)

theorem takePosted_keeps {z0 : State} (s : State) (m : WoaMsg) (h_s : Keeps z0 s) : Keeps z0 (State.takePosted s m) := by
  unfold State.takePosted
  try dsimp only
  with_reducible repeat' (first | assumption | apply woaRead_keeps | apply woaWrite_keeps | apply woaSegment_keeps | apply woaAck_keeps | apply woaAborted_keeps | apply hearWoa_keeps | apply refuseWoa_keeps | apply arrive_keeps | intro _ | split)

theorem execH2dpost_keeps {z0 : State} (m : WoaMsg) (s : State) (h_s : Keeps z0 s) : KeepsX z0 (execH2dpost m s) := by
  unfold execH2dpost
  try dsimp only
  with_reducible repeat' (first | assumption | refine Keeps.ite ?_ ?_ | refine KeepsX.next ?_ | apply takePosted_keeps | dsimp only [Keeps.lit_eq])

theorem releaseMail_keeps {z0 : State} (s : State) (h_s : Keeps z0 s) : Keeps z0 (State.releaseMail s) := by
  unfold State.releaseMail
  try dsimp only
  with_reducible repeat' (first | assumption | apply toMailbox_keeps | dsimp only [Keeps.lit_eq] | split)

theorem execD2hlen_keeps {z0 : State} (value : Nat) (s : State) (h_s : Keeps z0 s) : KeepsX z0 (execD2hlen value s) := by
  unfold execD2hlen
  try dsimp only
  with_reducible repeat' (first | assumption | refine Keeps.ite ?_ ?_ | refine KeepsX.next ?_ | apply releaseMail_keeps)

theorem stewardRestarted_keeps {z0 : State} (s : State) (k : Nat) (h_s : Keeps z0 s) : Keeps z0 (State.stewardRestarted s k) := by
  unfold State.stewardRestarted
  try dsimp only
  with_reducible repeat' (first | assumption | refine Keeps.ite ?_ ?_ | apply restartSteward_keeps | apply takePosted_keeps | dsimp only [Keeps.lit_eq] | split)

theorem execStewardRestarted_keeps {z0 : State} (k : Stw) (s : State) (h_s : Keeps z0 s) : KeepsX z0 (execStewardRestarted k s) := by
  unfold execStewardRestarted
  try dsimp only
  with_reducible repeat' (first | assumption | refine KeepsX.next ?_ | apply stewardRestarted_keeps)

theorem execManagementLinkChange_keeps {z0 : State} (m : Mgmt) (state : Fin 3) (s : State) (h_s : Keeps z0 s) : KeepsX z0 (execManagementLinkChange m state s) := by
  unfold execManagementLinkChange
  try dsimp only
  with_reducible repeat' (first | assumption | refine Keeps.ite ?_ ?_ | refine KeepsX.next ?_ | apply bump_keeps | dsimp only [Keeps.lit_eq])

theorem execIcmpv6Message_keeps {z0 : State} (m : Mgmt) (solicitation : Bool) (ident : Nat) (s : State) (h_s : Keeps z0 s) : KeepsX z0 (execIcmpv6Message m solicitation ident s) := by
  unfold execIcmpv6Message
  try dsimp only
  with_reducible repeat' (first | assumption | refine Keeps.ite ?_ ?_ | refine KeepsX.next ?_ | dsimp only [Keeps.lit_eq])

end Sys2Proof.Laws
end

