-- ==== Sys2Proof/Laws/State.lean ====
section
/-! SUPPORT. What each update of the state leaves, field by field, and what is read back after it. No proof need unfold a record update. -/

namespace Sys2Proof.Laws

open Sys2Proof.Machine

variable (s : State)

/-! setPolder changes polders. -/
@[simp] theorem setPolder_pending (p : Nat) (x : Polder) : (s.setPolder p x).pending = s.pending := rfl
@[simp] theorem setPolder_freeCtr (p : Nat) (x : Polder) : (s.setPolder p x).freeCtr = s.freeCtr := rfl
@[simp] theorem setPolder_time (p : Nat) (x : Polder) : (s.setPolder p x).time = s.time := rfl
@[simp] theorem setPolder_pkg (p : Nat) (x : Polder) : (s.setPolder p x).pkg = s.pkg := rfl
@[simp] theorem setPolder_start (p : Nat) (x : Polder) : (s.setPolder p x).start = s.start := rfl
@[simp] theorem setPolder_regs (p : Nat) (x : Polder) : (s.setPolder p x).regs = s.regs := rfl
@[simp] theorem setPolder_mem (p : Nat) (x : Polder) : (s.setPolder p x).mem = s.mem := rfl
@[simp] theorem setPolder_sideband (p : Nat) (x : Polder) : (s.setPolder p x).sideband = s.sideband := rfl
@[simp] theorem setPolder_frames (p : Nat) (x : Polder) : (s.setPolder p x).frames = s.frames := rfl
@[simp] theorem setPolder_retired (p : Nat) (x : Polder) : (s.setPolder p x).retired = s.retired := rfl
@[simp] theorem setPolder_seqs (p : Nat) (x : Polder) : (s.setPolder p x).seqs = s.seqs := rfl
@[simp] theorem setPolder_sweep (p : Nat) (x : Polder) : (s.setPolder p x).sweep = s.sweep := rfl
@[simp] theorem setPolder_moveFails (p : Nat) (x : Polder) : (s.setPolder p x).moveFails = s.moveFails := rfl
@[simp] theorem setPolder_lostSeqs (p : Nat) (x : Polder) : (s.setPolder p x).lostSeqs = s.lostSeqs := rfl
@[simp] theorem setPolder_lostHere (p : Nat) (x : Polder) : (s.setPolder p x).lostHere = s.lostHere := rfl
@[simp] theorem setPolder_orphans (p : Nat) (x : Polder) : (s.setPolder p x).orphans = s.orphans := rfl
@[simp] theorem setPolder_reqs (p : Nat) (x : Polder) : (s.setPolder p x).reqs = s.reqs := rfl
@[simp] theorem setPolder_gens (p : Nat) (x : Polder) : (s.setPolder p x).gens = s.gens := rfl
@[simp] theorem setPolder_orderCtr (p : Nat) (x : Polder) : (s.setPolder p x).orderCtr = s.orderCtr := rfl
@[simp] theorem setPolder_kept (p : Nat) (x : Polder) : (s.setPolder p x).kept = s.kept := rfl
@[simp] theorem setPolder_tombs (p : Nat) (x : Polder) : (s.setPolder p x).tombs = s.tombs := rfl
@[simp] theorem setPolder_holds (p : Nat) (x : Polder) : (s.setPolder p x).holds = s.holds := rfl
@[simp] theorem setPolder_bodies (p : Nat) (x : Polder) : (s.setPolder p x).bodies = s.bodies := rfl
@[simp] theorem setPolder_bodyHeld (p : Nat) (x : Polder) : (s.setPolder p x).bodyHeld = s.bodyHeld := rfl
@[simp] theorem setPolder_weights (p : Nat) (x : Polder) : (s.setPolder p x).weights = s.weights := rfl
@[simp] theorem setPolder_charges (p : Nat) (x : Polder) : (s.setPolder p x).charges = s.charges := rfl
@[simp] theorem setPolder_drives (p : Nat) (x : Polder) : (s.setPolder p x).drives = s.drives := rfl
@[simp] theorem setPolder_ports (p : Nat) (x : Polder) : (s.setPolder p x).ports = s.ports := rfl
@[simp] theorem setPolder_routes0 (p : Nat) (x : Polder) : (s.setPolder p x).routes0 = s.routes0 := rfl
@[simp] theorem setPolder_routes1 (p : Nat) (x : Polder) : (s.setPolder p x).routes1 = s.routes1 := rfl
@[simp] theorem setPolder_bank (p : Nat) (x : Polder) : (s.setPolder p x).bank = s.bank := rfl
@[simp] theorem setPolder_routed (p : Nat) (x : Polder) : (s.setPolder p x).routed = s.routed := rfl
@[simp] theorem setPolder_downMarks (p : Nat) (x : Polder) : (s.setPolder p x).downMarks = s.downMarks := rfl
@[simp] theorem setPolder_downSent (p : Nat) (x : Polder) : (s.setPolder p x).downSent = s.downSent := rfl
@[simp] theorem setPolder_contexts (p : Nat) (x : Polder) : (s.setPolder p x).contexts = s.contexts := rfl
@[simp] theorem setPolder_conduits (p : Nat) (x : Polder) : (s.setPolder p x).conduits = s.conduits := rfl
@[simp] theorem setPolder_stage (p : Nat) (x : Polder) : (s.setPolder p x).stage = s.stage := rfl
@[simp] theorem setPolder_miss (p : Nat) (x : Polder) : (s.setPolder p x).miss = s.miss := rfl
@[simp] theorem setPolder_charts (p : Nat) (x : Polder) : (s.setPolder p x).charts = s.charts := rfl
@[simp] theorem setPolder_sched (p : Nat) (x : Polder) : (s.setPolder p x).sched = s.sched := rfl
@[simp] theorem setPolder_pair (p : Nat) (x : Polder) : (s.setPolder p x).pair = s.pair := rfl
@[simp] theorem setPolder_fence (p : Nat) (x : Polder) : (s.setPolder p x).fence = s.fence := rfl
@[simp] theorem setPolder_log (p : Nat) (x : Polder) : (s.setPolder p x).log = s.log := rfl
@[simp] theorem setPolder_tempo (p : Nat) (x : Polder) : (s.setPolder p x).tempo = s.tempo := rfl
@[simp] theorem setPolder_power (p : Nat) (x : Polder) : (s.setPolder p x).power = s.power := rfl
@[simp] theorem setPolder_tiles (p : Nat) (x : Polder) : (s.setPolder p x).tiles = s.tiles := rfl
@[simp] theorem setPolder_thermal (p : Nat) (x : Polder) : (s.setPolder p x).thermal = s.thermal := rfl
@[simp] theorem setPolder_ptp (p : Nat) (x : Polder) : (s.setPolder p x).ptp = s.ptp := rfl
@[simp] theorem setPolder_sec (p : Nat) (x : Polder) : (s.setPolder p x).sec = s.sec := rfl
@[simp] theorem setPolder_meter (p : Nat) (x : Polder) : (s.setPolder p x).meter = s.meter := rfl
@[simp] theorem setPolder_gauge (p : Nat) (x : Polder) : (s.setPolder p x).gauge = s.gauge := rfl
@[simp] theorem setPolder_woa (p : Nat) (x : Polder) : (s.setPolder p x).woa = s.woa := rfl
@[simp] theorem setPolder_gath (p : Nat) (x : Polder) : (s.setPolder p x).gath = s.gath := rfl
@[simp] theorem setPolder_rings (p : Nat) (x : Polder) : (s.setPolder p x).rings = s.rings := rfl
@[simp] theorem setPolder_host (p : Nat) (x : Polder) : (s.setPolder p x).host = s.host := rfl
@[simp] theorem setPolder_out (p : Nat) (x : Polder) : (s.setPolder p x).out = s.out := rfl
@[simp] theorem setPolder_port (p : Nat) (x : Polder) (j : Nat) : (s.setPolder p x).port j = s.port j := rfl
@[simp] theorem setPolder_drive (p : Nat) (x : Polder) (j : Nat) : (s.setPolder p x).drive j = s.drive j := rfl
@[simp] theorem setPolder_ring (p : Nat) (x : Polder) (j : Nat) : (s.setPolder p x).ring j = s.ring j := rfl
@[simp] theorem setPolder_conduit (p : Nat) (x : Polder) (j : Nat) : (s.setPolder p x).conduit j = s.conduit j := rfl
@[simp] theorem setPolder_chart (p : Nat) (x : Polder) (j : Nat) : (s.setPolder p x).chart j = s.chart j := rfl
@[simp] theorem setPolder_charge (p : Nat) (x : Polder) (j : Nat) : (s.setPolder p x).charge j = s.charge j := rfl
@[simp] theorem setPolder_weight (p : Nat) (x : Polder) (j : Nat) : (s.setPolder p x).weight j = s.weight j := rfl
@[simp] theorem setPolder_source (p : Nat) (x : Polder) (j : Nat) : (s.setPolder p x).source j = s.source j := rfl
@[simp] theorem setPolder_obj (p : Nat) (x : Polder) (j : Nat) : (s.setPolder p x).obj j = s.obj j := rfl
@[simp] theorem setPolder_steward (p : Nat) (x : Polder) (j : Nat) : (s.setPolder p x).steward j = s.steward j := rfl
@[simp] theorem setPolder_jobSlot (p : Nat) (x : Polder) (j : Nat) : (s.setPolder p x).jobSlot j = s.jobSlot j := rfl

/-! setPort changes ports. -/
@[simp] theorem setPort_pending (n : Nat) (x : PortSt) : (s.setPort n x).pending = s.pending := rfl
@[simp] theorem setPort_freeCtr (n : Nat) (x : PortSt) : (s.setPort n x).freeCtr = s.freeCtr := rfl
@[simp] theorem setPort_time (n : Nat) (x : PortSt) : (s.setPort n x).time = s.time := rfl
@[simp] theorem setPort_pkg (n : Nat) (x : PortSt) : (s.setPort n x).pkg = s.pkg := rfl
@[simp] theorem setPort_start (n : Nat) (x : PortSt) : (s.setPort n x).start = s.start := rfl
@[simp] theorem setPort_regs (n : Nat) (x : PortSt) : (s.setPort n x).regs = s.regs := rfl
@[simp] theorem setPort_polders (n : Nat) (x : PortSt) : (s.setPort n x).polders = s.polders := rfl
@[simp] theorem setPort_mem (n : Nat) (x : PortSt) : (s.setPort n x).mem = s.mem := rfl
@[simp] theorem setPort_sideband (n : Nat) (x : PortSt) : (s.setPort n x).sideband = s.sideband := rfl
@[simp] theorem setPort_frames (n : Nat) (x : PortSt) : (s.setPort n x).frames = s.frames := rfl
@[simp] theorem setPort_retired (n : Nat) (x : PortSt) : (s.setPort n x).retired = s.retired := rfl
@[simp] theorem setPort_seqs (n : Nat) (x : PortSt) : (s.setPort n x).seqs = s.seqs := rfl
@[simp] theorem setPort_sweep (n : Nat) (x : PortSt) : (s.setPort n x).sweep = s.sweep := rfl
@[simp] theorem setPort_moveFails (n : Nat) (x : PortSt) : (s.setPort n x).moveFails = s.moveFails := rfl
@[simp] theorem setPort_lostSeqs (n : Nat) (x : PortSt) : (s.setPort n x).lostSeqs = s.lostSeqs := rfl
@[simp] theorem setPort_lostHere (n : Nat) (x : PortSt) : (s.setPort n x).lostHere = s.lostHere := rfl
@[simp] theorem setPort_orphans (n : Nat) (x : PortSt) : (s.setPort n x).orphans = s.orphans := rfl
@[simp] theorem setPort_reqs (n : Nat) (x : PortSt) : (s.setPort n x).reqs = s.reqs := rfl
@[simp] theorem setPort_gens (n : Nat) (x : PortSt) : (s.setPort n x).gens = s.gens := rfl
@[simp] theorem setPort_orderCtr (n : Nat) (x : PortSt) : (s.setPort n x).orderCtr = s.orderCtr := rfl
@[simp] theorem setPort_kept (n : Nat) (x : PortSt) : (s.setPort n x).kept = s.kept := rfl
@[simp] theorem setPort_tombs (n : Nat) (x : PortSt) : (s.setPort n x).tombs = s.tombs := rfl
@[simp] theorem setPort_holds (n : Nat) (x : PortSt) : (s.setPort n x).holds = s.holds := rfl
@[simp] theorem setPort_bodies (n : Nat) (x : PortSt) : (s.setPort n x).bodies = s.bodies := rfl
@[simp] theorem setPort_bodyHeld (n : Nat) (x : PortSt) : (s.setPort n x).bodyHeld = s.bodyHeld := rfl
@[simp] theorem setPort_weights (n : Nat) (x : PortSt) : (s.setPort n x).weights = s.weights := rfl
@[simp] theorem setPort_charges (n : Nat) (x : PortSt) : (s.setPort n x).charges = s.charges := rfl
@[simp] theorem setPort_drives (n : Nat) (x : PortSt) : (s.setPort n x).drives = s.drives := rfl
@[simp] theorem setPort_routes0 (n : Nat) (x : PortSt) : (s.setPort n x).routes0 = s.routes0 := rfl
@[simp] theorem setPort_routes1 (n : Nat) (x : PortSt) : (s.setPort n x).routes1 = s.routes1 := rfl
@[simp] theorem setPort_bank (n : Nat) (x : PortSt) : (s.setPort n x).bank = s.bank := rfl
@[simp] theorem setPort_routed (n : Nat) (x : PortSt) : (s.setPort n x).routed = s.routed := rfl
@[simp] theorem setPort_downMarks (n : Nat) (x : PortSt) : (s.setPort n x).downMarks = s.downMarks := rfl
@[simp] theorem setPort_downSent (n : Nat) (x : PortSt) : (s.setPort n x).downSent = s.downSent := rfl
@[simp] theorem setPort_contexts (n : Nat) (x : PortSt) : (s.setPort n x).contexts = s.contexts := rfl
@[simp] theorem setPort_conduits (n : Nat) (x : PortSt) : (s.setPort n x).conduits = s.conduits := rfl
@[simp] theorem setPort_stage (n : Nat) (x : PortSt) : (s.setPort n x).stage = s.stage := rfl
@[simp] theorem setPort_miss (n : Nat) (x : PortSt) : (s.setPort n x).miss = s.miss := rfl
@[simp] theorem setPort_charts (n : Nat) (x : PortSt) : (s.setPort n x).charts = s.charts := rfl
@[simp] theorem setPort_sched (n : Nat) (x : PortSt) : (s.setPort n x).sched = s.sched := rfl
@[simp] theorem setPort_pair (n : Nat) (x : PortSt) : (s.setPort n x).pair = s.pair := rfl
@[simp] theorem setPort_fence (n : Nat) (x : PortSt) : (s.setPort n x).fence = s.fence := rfl
@[simp] theorem setPort_log (n : Nat) (x : PortSt) : (s.setPort n x).log = s.log := rfl
@[simp] theorem setPort_tempo (n : Nat) (x : PortSt) : (s.setPort n x).tempo = s.tempo := rfl
@[simp] theorem setPort_power (n : Nat) (x : PortSt) : (s.setPort n x).power = s.power := rfl
@[simp] theorem setPort_tiles (n : Nat) (x : PortSt) : (s.setPort n x).tiles = s.tiles := rfl
@[simp] theorem setPort_thermal (n : Nat) (x : PortSt) : (s.setPort n x).thermal = s.thermal := rfl
@[simp] theorem setPort_ptp (n : Nat) (x : PortSt) : (s.setPort n x).ptp = s.ptp := rfl
@[simp] theorem setPort_sec (n : Nat) (x : PortSt) : (s.setPort n x).sec = s.sec := rfl
@[simp] theorem setPort_meter (n : Nat) (x : PortSt) : (s.setPort n x).meter = s.meter := rfl
@[simp] theorem setPort_gauge (n : Nat) (x : PortSt) : (s.setPort n x).gauge = s.gauge := rfl
@[simp] theorem setPort_woa (n : Nat) (x : PortSt) : (s.setPort n x).woa = s.woa := rfl
@[simp] theorem setPort_gath (n : Nat) (x : PortSt) : (s.setPort n x).gath = s.gath := rfl
@[simp] theorem setPort_rings (n : Nat) (x : PortSt) : (s.setPort n x).rings = s.rings := rfl
@[simp] theorem setPort_host (n : Nat) (x : PortSt) : (s.setPort n x).host = s.host := rfl
@[simp] theorem setPort_out (n : Nat) (x : PortSt) : (s.setPort n x).out = s.out := rfl
@[simp] theorem setPort_polder (n : Nat) (x : PortSt) (j : Nat) : (s.setPort n x).polder j = s.polder j := rfl
@[simp] theorem setPort_drive (n : Nat) (x : PortSt) (j : Nat) : (s.setPort n x).drive j = s.drive j := rfl
@[simp] theorem setPort_ring (n : Nat) (x : PortSt) (j : Nat) : (s.setPort n x).ring j = s.ring j := rfl
@[simp] theorem setPort_conduit (n : Nat) (x : PortSt) (j : Nat) : (s.setPort n x).conduit j = s.conduit j := rfl
@[simp] theorem setPort_chart (n : Nat) (x : PortSt) (j : Nat) : (s.setPort n x).chart j = s.chart j := rfl
@[simp] theorem setPort_charge (n : Nat) (x : PortSt) (j : Nat) : (s.setPort n x).charge j = s.charge j := rfl
@[simp] theorem setPort_weight (n : Nat) (x : PortSt) (j : Nat) : (s.setPort n x).weight j = s.weight j := rfl
@[simp] theorem setPort_source (n : Nat) (x : PortSt) (j : Nat) : (s.setPort n x).source j = s.source j := rfl
@[simp] theorem setPort_obj (n : Nat) (x : PortSt) (j : Nat) : (s.setPort n x).obj j = s.obj j := rfl
@[simp] theorem setPort_steward (n : Nat) (x : PortSt) (j : Nat) : (s.setPort n x).steward j = s.steward j := rfl
@[simp] theorem setPort_jobSlot (n : Nat) (x : PortSt) (j : Nat) : (s.setPort n x).jobSlot j = s.jobSlot j := rfl

/-! setDrive changes drives. -/
@[simp] theorem setDrive_pending (d : Nat) (x : DriveSt) : (s.setDrive d x).pending = s.pending := rfl
@[simp] theorem setDrive_freeCtr (d : Nat) (x : DriveSt) : (s.setDrive d x).freeCtr = s.freeCtr := rfl
@[simp] theorem setDrive_time (d : Nat) (x : DriveSt) : (s.setDrive d x).time = s.time := rfl
@[simp] theorem setDrive_pkg (d : Nat) (x : DriveSt) : (s.setDrive d x).pkg = s.pkg := rfl
@[simp] theorem setDrive_start (d : Nat) (x : DriveSt) : (s.setDrive d x).start = s.start := rfl
@[simp] theorem setDrive_regs (d : Nat) (x : DriveSt) : (s.setDrive d x).regs = s.regs := rfl
@[simp] theorem setDrive_polders (d : Nat) (x : DriveSt) : (s.setDrive d x).polders = s.polders := rfl
@[simp] theorem setDrive_mem (d : Nat) (x : DriveSt) : (s.setDrive d x).mem = s.mem := rfl
@[simp] theorem setDrive_sideband (d : Nat) (x : DriveSt) : (s.setDrive d x).sideband = s.sideband := rfl
@[simp] theorem setDrive_frames (d : Nat) (x : DriveSt) : (s.setDrive d x).frames = s.frames := rfl
@[simp] theorem setDrive_retired (d : Nat) (x : DriveSt) : (s.setDrive d x).retired = s.retired := rfl
@[simp] theorem setDrive_seqs (d : Nat) (x : DriveSt) : (s.setDrive d x).seqs = s.seqs := rfl
@[simp] theorem setDrive_sweep (d : Nat) (x : DriveSt) : (s.setDrive d x).sweep = s.sweep := rfl
@[simp] theorem setDrive_moveFails (d : Nat) (x : DriveSt) : (s.setDrive d x).moveFails = s.moveFails := rfl
@[simp] theorem setDrive_lostSeqs (d : Nat) (x : DriveSt) : (s.setDrive d x).lostSeqs = s.lostSeqs := rfl
@[simp] theorem setDrive_lostHere (d : Nat) (x : DriveSt) : (s.setDrive d x).lostHere = s.lostHere := rfl
@[simp] theorem setDrive_orphans (d : Nat) (x : DriveSt) : (s.setDrive d x).orphans = s.orphans := rfl
@[simp] theorem setDrive_reqs (d : Nat) (x : DriveSt) : (s.setDrive d x).reqs = s.reqs := rfl
@[simp] theorem setDrive_gens (d : Nat) (x : DriveSt) : (s.setDrive d x).gens = s.gens := rfl
@[simp] theorem setDrive_orderCtr (d : Nat) (x : DriveSt) : (s.setDrive d x).orderCtr = s.orderCtr := rfl
@[simp] theorem setDrive_kept (d : Nat) (x : DriveSt) : (s.setDrive d x).kept = s.kept := rfl
@[simp] theorem setDrive_tombs (d : Nat) (x : DriveSt) : (s.setDrive d x).tombs = s.tombs := rfl
@[simp] theorem setDrive_holds (d : Nat) (x : DriveSt) : (s.setDrive d x).holds = s.holds := rfl
@[simp] theorem setDrive_bodies (d : Nat) (x : DriveSt) : (s.setDrive d x).bodies = s.bodies := rfl
@[simp] theorem setDrive_bodyHeld (d : Nat) (x : DriveSt) : (s.setDrive d x).bodyHeld = s.bodyHeld := rfl
@[simp] theorem setDrive_weights (d : Nat) (x : DriveSt) : (s.setDrive d x).weights = s.weights := rfl
@[simp] theorem setDrive_charges (d : Nat) (x : DriveSt) : (s.setDrive d x).charges = s.charges := rfl
@[simp] theorem setDrive_ports (d : Nat) (x : DriveSt) : (s.setDrive d x).ports = s.ports := rfl
@[simp] theorem setDrive_routes0 (d : Nat) (x : DriveSt) : (s.setDrive d x).routes0 = s.routes0 := rfl
@[simp] theorem setDrive_routes1 (d : Nat) (x : DriveSt) : (s.setDrive d x).routes1 = s.routes1 := rfl
@[simp] theorem setDrive_bank (d : Nat) (x : DriveSt) : (s.setDrive d x).bank = s.bank := rfl
@[simp] theorem setDrive_routed (d : Nat) (x : DriveSt) : (s.setDrive d x).routed = s.routed := rfl
@[simp] theorem setDrive_downMarks (d : Nat) (x : DriveSt) : (s.setDrive d x).downMarks = s.downMarks := rfl
@[simp] theorem setDrive_downSent (d : Nat) (x : DriveSt) : (s.setDrive d x).downSent = s.downSent := rfl
@[simp] theorem setDrive_contexts (d : Nat) (x : DriveSt) : (s.setDrive d x).contexts = s.contexts := rfl
@[simp] theorem setDrive_conduits (d : Nat) (x : DriveSt) : (s.setDrive d x).conduits = s.conduits := rfl
@[simp] theorem setDrive_stage (d : Nat) (x : DriveSt) : (s.setDrive d x).stage = s.stage := rfl
@[simp] theorem setDrive_miss (d : Nat) (x : DriveSt) : (s.setDrive d x).miss = s.miss := rfl
@[simp] theorem setDrive_charts (d : Nat) (x : DriveSt) : (s.setDrive d x).charts = s.charts := rfl
@[simp] theorem setDrive_sched (d : Nat) (x : DriveSt) : (s.setDrive d x).sched = s.sched := rfl
@[simp] theorem setDrive_pair (d : Nat) (x : DriveSt) : (s.setDrive d x).pair = s.pair := rfl
@[simp] theorem setDrive_fence (d : Nat) (x : DriveSt) : (s.setDrive d x).fence = s.fence := rfl
@[simp] theorem setDrive_log (d : Nat) (x : DriveSt) : (s.setDrive d x).log = s.log := rfl
@[simp] theorem setDrive_tempo (d : Nat) (x : DriveSt) : (s.setDrive d x).tempo = s.tempo := rfl
@[simp] theorem setDrive_power (d : Nat) (x : DriveSt) : (s.setDrive d x).power = s.power := rfl
@[simp] theorem setDrive_tiles (d : Nat) (x : DriveSt) : (s.setDrive d x).tiles = s.tiles := rfl
@[simp] theorem setDrive_thermal (d : Nat) (x : DriveSt) : (s.setDrive d x).thermal = s.thermal := rfl
@[simp] theorem setDrive_ptp (d : Nat) (x : DriveSt) : (s.setDrive d x).ptp = s.ptp := rfl
@[simp] theorem setDrive_sec (d : Nat) (x : DriveSt) : (s.setDrive d x).sec = s.sec := rfl
@[simp] theorem setDrive_meter (d : Nat) (x : DriveSt) : (s.setDrive d x).meter = s.meter := rfl
@[simp] theorem setDrive_gauge (d : Nat) (x : DriveSt) : (s.setDrive d x).gauge = s.gauge := rfl
@[simp] theorem setDrive_woa (d : Nat) (x : DriveSt) : (s.setDrive d x).woa = s.woa := rfl
@[simp] theorem setDrive_gath (d : Nat) (x : DriveSt) : (s.setDrive d x).gath = s.gath := rfl
@[simp] theorem setDrive_rings (d : Nat) (x : DriveSt) : (s.setDrive d x).rings = s.rings := rfl
@[simp] theorem setDrive_host (d : Nat) (x : DriveSt) : (s.setDrive d x).host = s.host := rfl
@[simp] theorem setDrive_out (d : Nat) (x : DriveSt) : (s.setDrive d x).out = s.out := rfl
@[simp] theorem setDrive_polder (d : Nat) (x : DriveSt) (j : Nat) : (s.setDrive d x).polder j = s.polder j := rfl
@[simp] theorem setDrive_port (d : Nat) (x : DriveSt) (j : Nat) : (s.setDrive d x).port j = s.port j := rfl
@[simp] theorem setDrive_ring (d : Nat) (x : DriveSt) (j : Nat) : (s.setDrive d x).ring j = s.ring j := rfl
@[simp] theorem setDrive_conduit (d : Nat) (x : DriveSt) (j : Nat) : (s.setDrive d x).conduit j = s.conduit j := rfl
@[simp] theorem setDrive_chart (d : Nat) (x : DriveSt) (j : Nat) : (s.setDrive d x).chart j = s.chart j := rfl
@[simp] theorem setDrive_charge (d : Nat) (x : DriveSt) (j : Nat) : (s.setDrive d x).charge j = s.charge j := rfl
@[simp] theorem setDrive_weight (d : Nat) (x : DriveSt) (j : Nat) : (s.setDrive d x).weight j = s.weight j := rfl
@[simp] theorem setDrive_source (d : Nat) (x : DriveSt) (j : Nat) : (s.setDrive d x).source j = s.source j := rfl
@[simp] theorem setDrive_obj (d : Nat) (x : DriveSt) (j : Nat) : (s.setDrive d x).obj j = s.obj j := rfl
@[simp] theorem setDrive_steward (d : Nat) (x : DriveSt) (j : Nat) : (s.setDrive d x).steward j = s.steward j := rfl
@[simp] theorem setDrive_jobSlot (d : Nat) (x : DriveSt) (j : Nat) : (s.setDrive d x).jobSlot j = s.jobSlot j := rfl

/-! setRing changes rings. -/
@[simp] theorem setRing_pending (r : Nat) (x : RingSt) : (s.setRing r x).pending = s.pending := rfl
@[simp] theorem setRing_freeCtr (r : Nat) (x : RingSt) : (s.setRing r x).freeCtr = s.freeCtr := rfl
@[simp] theorem setRing_time (r : Nat) (x : RingSt) : (s.setRing r x).time = s.time := rfl
@[simp] theorem setRing_pkg (r : Nat) (x : RingSt) : (s.setRing r x).pkg = s.pkg := rfl
@[simp] theorem setRing_start (r : Nat) (x : RingSt) : (s.setRing r x).start = s.start := rfl
@[simp] theorem setRing_regs (r : Nat) (x : RingSt) : (s.setRing r x).regs = s.regs := rfl
@[simp] theorem setRing_polders (r : Nat) (x : RingSt) : (s.setRing r x).polders = s.polders := rfl
@[simp] theorem setRing_mem (r : Nat) (x : RingSt) : (s.setRing r x).mem = s.mem := rfl
@[simp] theorem setRing_sideband (r : Nat) (x : RingSt) : (s.setRing r x).sideband = s.sideband := rfl
@[simp] theorem setRing_frames (r : Nat) (x : RingSt) : (s.setRing r x).frames = s.frames := rfl
@[simp] theorem setRing_retired (r : Nat) (x : RingSt) : (s.setRing r x).retired = s.retired := rfl
@[simp] theorem setRing_seqs (r : Nat) (x : RingSt) : (s.setRing r x).seqs = s.seqs := rfl
@[simp] theorem setRing_sweep (r : Nat) (x : RingSt) : (s.setRing r x).sweep = s.sweep := rfl
@[simp] theorem setRing_moveFails (r : Nat) (x : RingSt) : (s.setRing r x).moveFails = s.moveFails := rfl
@[simp] theorem setRing_lostSeqs (r : Nat) (x : RingSt) : (s.setRing r x).lostSeqs = s.lostSeqs := rfl
@[simp] theorem setRing_lostHere (r : Nat) (x : RingSt) : (s.setRing r x).lostHere = s.lostHere := rfl
@[simp] theorem setRing_orphans (r : Nat) (x : RingSt) : (s.setRing r x).orphans = s.orphans := rfl
@[simp] theorem setRing_reqs (r : Nat) (x : RingSt) : (s.setRing r x).reqs = s.reqs := rfl
@[simp] theorem setRing_gens (r : Nat) (x : RingSt) : (s.setRing r x).gens = s.gens := rfl
@[simp] theorem setRing_orderCtr (r : Nat) (x : RingSt) : (s.setRing r x).orderCtr = s.orderCtr := rfl
@[simp] theorem setRing_kept (r : Nat) (x : RingSt) : (s.setRing r x).kept = s.kept := rfl
@[simp] theorem setRing_tombs (r : Nat) (x : RingSt) : (s.setRing r x).tombs = s.tombs := rfl
@[simp] theorem setRing_holds (r : Nat) (x : RingSt) : (s.setRing r x).holds = s.holds := rfl
@[simp] theorem setRing_bodies (r : Nat) (x : RingSt) : (s.setRing r x).bodies = s.bodies := rfl
@[simp] theorem setRing_bodyHeld (r : Nat) (x : RingSt) : (s.setRing r x).bodyHeld = s.bodyHeld := rfl
@[simp] theorem setRing_weights (r : Nat) (x : RingSt) : (s.setRing r x).weights = s.weights := rfl
@[simp] theorem setRing_charges (r : Nat) (x : RingSt) : (s.setRing r x).charges = s.charges := rfl
@[simp] theorem setRing_drives (r : Nat) (x : RingSt) : (s.setRing r x).drives = s.drives := rfl
@[simp] theorem setRing_ports (r : Nat) (x : RingSt) : (s.setRing r x).ports = s.ports := rfl
@[simp] theorem setRing_routes0 (r : Nat) (x : RingSt) : (s.setRing r x).routes0 = s.routes0 := rfl
@[simp] theorem setRing_routes1 (r : Nat) (x : RingSt) : (s.setRing r x).routes1 = s.routes1 := rfl
@[simp] theorem setRing_bank (r : Nat) (x : RingSt) : (s.setRing r x).bank = s.bank := rfl
@[simp] theorem setRing_routed (r : Nat) (x : RingSt) : (s.setRing r x).routed = s.routed := rfl
@[simp] theorem setRing_downMarks (r : Nat) (x : RingSt) : (s.setRing r x).downMarks = s.downMarks := rfl
@[simp] theorem setRing_downSent (r : Nat) (x : RingSt) : (s.setRing r x).downSent = s.downSent := rfl
@[simp] theorem setRing_contexts (r : Nat) (x : RingSt) : (s.setRing r x).contexts = s.contexts := rfl
@[simp] theorem setRing_conduits (r : Nat) (x : RingSt) : (s.setRing r x).conduits = s.conduits := rfl
@[simp] theorem setRing_stage (r : Nat) (x : RingSt) : (s.setRing r x).stage = s.stage := rfl
@[simp] theorem setRing_miss (r : Nat) (x : RingSt) : (s.setRing r x).miss = s.miss := rfl
@[simp] theorem setRing_charts (r : Nat) (x : RingSt) : (s.setRing r x).charts = s.charts := rfl
@[simp] theorem setRing_sched (r : Nat) (x : RingSt) : (s.setRing r x).sched = s.sched := rfl
@[simp] theorem setRing_pair (r : Nat) (x : RingSt) : (s.setRing r x).pair = s.pair := rfl
@[simp] theorem setRing_fence (r : Nat) (x : RingSt) : (s.setRing r x).fence = s.fence := rfl
@[simp] theorem setRing_log (r : Nat) (x : RingSt) : (s.setRing r x).log = s.log := rfl
@[simp] theorem setRing_tempo (r : Nat) (x : RingSt) : (s.setRing r x).tempo = s.tempo := rfl
@[simp] theorem setRing_power (r : Nat) (x : RingSt) : (s.setRing r x).power = s.power := rfl
@[simp] theorem setRing_tiles (r : Nat) (x : RingSt) : (s.setRing r x).tiles = s.tiles := rfl
@[simp] theorem setRing_thermal (r : Nat) (x : RingSt) : (s.setRing r x).thermal = s.thermal := rfl
@[simp] theorem setRing_ptp (r : Nat) (x : RingSt) : (s.setRing r x).ptp = s.ptp := rfl
@[simp] theorem setRing_sec (r : Nat) (x : RingSt) : (s.setRing r x).sec = s.sec := rfl
@[simp] theorem setRing_meter (r : Nat) (x : RingSt) : (s.setRing r x).meter = s.meter := rfl
@[simp] theorem setRing_gauge (r : Nat) (x : RingSt) : (s.setRing r x).gauge = s.gauge := rfl
@[simp] theorem setRing_woa (r : Nat) (x : RingSt) : (s.setRing r x).woa = s.woa := rfl
@[simp] theorem setRing_gath (r : Nat) (x : RingSt) : (s.setRing r x).gath = s.gath := rfl
@[simp] theorem setRing_host (r : Nat) (x : RingSt) : (s.setRing r x).host = s.host := rfl
@[simp] theorem setRing_out (r : Nat) (x : RingSt) : (s.setRing r x).out = s.out := rfl
@[simp] theorem setRing_polder (r : Nat) (x : RingSt) (j : Nat) : (s.setRing r x).polder j = s.polder j := rfl
@[simp] theorem setRing_port (r : Nat) (x : RingSt) (j : Nat) : (s.setRing r x).port j = s.port j := rfl
@[simp] theorem setRing_drive (r : Nat) (x : RingSt) (j : Nat) : (s.setRing r x).drive j = s.drive j := rfl
@[simp] theorem setRing_conduit (r : Nat) (x : RingSt) (j : Nat) : (s.setRing r x).conduit j = s.conduit j := rfl
@[simp] theorem setRing_chart (r : Nat) (x : RingSt) (j : Nat) : (s.setRing r x).chart j = s.chart j := rfl
@[simp] theorem setRing_charge (r : Nat) (x : RingSt) (j : Nat) : (s.setRing r x).charge j = s.charge j := rfl
@[simp] theorem setRing_weight (r : Nat) (x : RingSt) (j : Nat) : (s.setRing r x).weight j = s.weight j := rfl
@[simp] theorem setRing_source (r : Nat) (x : RingSt) (j : Nat) : (s.setRing r x).source j = s.source j := rfl
@[simp] theorem setRing_obj (r : Nat) (x : RingSt) (j : Nat) : (s.setRing r x).obj j = s.obj j := rfl
@[simp] theorem setRing_steward (r : Nat) (x : RingSt) (j : Nat) : (s.setRing r x).steward j = s.steward j := rfl
@[simp] theorem setRing_jobSlot (r : Nat) (x : RingSt) (j : Nat) : (s.setRing r x).jobSlot j = s.jobSlot j := rfl

/-! setConduit changes conduits. -/
@[simp] theorem setConduit_pending (c : Nat) (x : Conduit) : (s.setConduit c x).pending = s.pending := rfl
@[simp] theorem setConduit_freeCtr (c : Nat) (x : Conduit) : (s.setConduit c x).freeCtr = s.freeCtr := rfl
@[simp] theorem setConduit_time (c : Nat) (x : Conduit) : (s.setConduit c x).time = s.time := rfl
@[simp] theorem setConduit_pkg (c : Nat) (x : Conduit) : (s.setConduit c x).pkg = s.pkg := rfl
@[simp] theorem setConduit_start (c : Nat) (x : Conduit) : (s.setConduit c x).start = s.start := rfl
@[simp] theorem setConduit_regs (c : Nat) (x : Conduit) : (s.setConduit c x).regs = s.regs := rfl
@[simp] theorem setConduit_polders (c : Nat) (x : Conduit) : (s.setConduit c x).polders = s.polders := rfl
@[simp] theorem setConduit_mem (c : Nat) (x : Conduit) : (s.setConduit c x).mem = s.mem := rfl
@[simp] theorem setConduit_sideband (c : Nat) (x : Conduit) : (s.setConduit c x).sideband = s.sideband := rfl
@[simp] theorem setConduit_frames (c : Nat) (x : Conduit) : (s.setConduit c x).frames = s.frames := rfl
@[simp] theorem setConduit_retired (c : Nat) (x : Conduit) : (s.setConduit c x).retired = s.retired := rfl
@[simp] theorem setConduit_seqs (c : Nat) (x : Conduit) : (s.setConduit c x).seqs = s.seqs := rfl
@[simp] theorem setConduit_sweep (c : Nat) (x : Conduit) : (s.setConduit c x).sweep = s.sweep := rfl
@[simp] theorem setConduit_moveFails (c : Nat) (x : Conduit) : (s.setConduit c x).moveFails = s.moveFails := rfl
@[simp] theorem setConduit_lostSeqs (c : Nat) (x : Conduit) : (s.setConduit c x).lostSeqs = s.lostSeqs := rfl
@[simp] theorem setConduit_lostHere (c : Nat) (x : Conduit) : (s.setConduit c x).lostHere = s.lostHere := rfl
@[simp] theorem setConduit_orphans (c : Nat) (x : Conduit) : (s.setConduit c x).orphans = s.orphans := rfl
@[simp] theorem setConduit_reqs (c : Nat) (x : Conduit) : (s.setConduit c x).reqs = s.reqs := rfl
@[simp] theorem setConduit_gens (c : Nat) (x : Conduit) : (s.setConduit c x).gens = s.gens := rfl
@[simp] theorem setConduit_orderCtr (c : Nat) (x : Conduit) : (s.setConduit c x).orderCtr = s.orderCtr := rfl
@[simp] theorem setConduit_kept (c : Nat) (x : Conduit) : (s.setConduit c x).kept = s.kept := rfl
@[simp] theorem setConduit_tombs (c : Nat) (x : Conduit) : (s.setConduit c x).tombs = s.tombs := rfl
@[simp] theorem setConduit_holds (c : Nat) (x : Conduit) : (s.setConduit c x).holds = s.holds := rfl
@[simp] theorem setConduit_bodies (c : Nat) (x : Conduit) : (s.setConduit c x).bodies = s.bodies := rfl
@[simp] theorem setConduit_bodyHeld (c : Nat) (x : Conduit) : (s.setConduit c x).bodyHeld = s.bodyHeld := rfl
@[simp] theorem setConduit_weights (c : Nat) (x : Conduit) : (s.setConduit c x).weights = s.weights := rfl
@[simp] theorem setConduit_charges (c : Nat) (x : Conduit) : (s.setConduit c x).charges = s.charges := rfl
@[simp] theorem setConduit_drives (c : Nat) (x : Conduit) : (s.setConduit c x).drives = s.drives := rfl
@[simp] theorem setConduit_ports (c : Nat) (x : Conduit) : (s.setConduit c x).ports = s.ports := rfl
@[simp] theorem setConduit_routes0 (c : Nat) (x : Conduit) : (s.setConduit c x).routes0 = s.routes0 := rfl
@[simp] theorem setConduit_routes1 (c : Nat) (x : Conduit) : (s.setConduit c x).routes1 = s.routes1 := rfl
@[simp] theorem setConduit_bank (c : Nat) (x : Conduit) : (s.setConduit c x).bank = s.bank := rfl
@[simp] theorem setConduit_routed (c : Nat) (x : Conduit) : (s.setConduit c x).routed = s.routed := rfl
@[simp] theorem setConduit_downMarks (c : Nat) (x : Conduit) : (s.setConduit c x).downMarks = s.downMarks := rfl
@[simp] theorem setConduit_downSent (c : Nat) (x : Conduit) : (s.setConduit c x).downSent = s.downSent := rfl
@[simp] theorem setConduit_contexts (c : Nat) (x : Conduit) : (s.setConduit c x).contexts = s.contexts := rfl
@[simp] theorem setConduit_stage (c : Nat) (x : Conduit) : (s.setConduit c x).stage = s.stage := rfl
@[simp] theorem setConduit_miss (c : Nat) (x : Conduit) : (s.setConduit c x).miss = s.miss := rfl
@[simp] theorem setConduit_charts (c : Nat) (x : Conduit) : (s.setConduit c x).charts = s.charts := rfl
@[simp] theorem setConduit_sched (c : Nat) (x : Conduit) : (s.setConduit c x).sched = s.sched := rfl
@[simp] theorem setConduit_pair (c : Nat) (x : Conduit) : (s.setConduit c x).pair = s.pair := rfl
@[simp] theorem setConduit_fence (c : Nat) (x : Conduit) : (s.setConduit c x).fence = s.fence := rfl
@[simp] theorem setConduit_log (c : Nat) (x : Conduit) : (s.setConduit c x).log = s.log := rfl
@[simp] theorem setConduit_tempo (c : Nat) (x : Conduit) : (s.setConduit c x).tempo = s.tempo := rfl
@[simp] theorem setConduit_power (c : Nat) (x : Conduit) : (s.setConduit c x).power = s.power := rfl
@[simp] theorem setConduit_tiles (c : Nat) (x : Conduit) : (s.setConduit c x).tiles = s.tiles := rfl
@[simp] theorem setConduit_thermal (c : Nat) (x : Conduit) : (s.setConduit c x).thermal = s.thermal := rfl
@[simp] theorem setConduit_ptp (c : Nat) (x : Conduit) : (s.setConduit c x).ptp = s.ptp := rfl
@[simp] theorem setConduit_sec (c : Nat) (x : Conduit) : (s.setConduit c x).sec = s.sec := rfl
@[simp] theorem setConduit_meter (c : Nat) (x : Conduit) : (s.setConduit c x).meter = s.meter := rfl
@[simp] theorem setConduit_gauge (c : Nat) (x : Conduit) : (s.setConduit c x).gauge = s.gauge := rfl
@[simp] theorem setConduit_woa (c : Nat) (x : Conduit) : (s.setConduit c x).woa = s.woa := rfl
@[simp] theorem setConduit_gath (c : Nat) (x : Conduit) : (s.setConduit c x).gath = s.gath := rfl
@[simp] theorem setConduit_rings (c : Nat) (x : Conduit) : (s.setConduit c x).rings = s.rings := rfl
@[simp] theorem setConduit_host (c : Nat) (x : Conduit) : (s.setConduit c x).host = s.host := rfl
@[simp] theorem setConduit_out (c : Nat) (x : Conduit) : (s.setConduit c x).out = s.out := rfl
@[simp] theorem setConduit_polder (c : Nat) (x : Conduit) (j : Nat) : (s.setConduit c x).polder j = s.polder j := rfl
@[simp] theorem setConduit_port (c : Nat) (x : Conduit) (j : Nat) : (s.setConduit c x).port j = s.port j := rfl
@[simp] theorem setConduit_drive (c : Nat) (x : Conduit) (j : Nat) : (s.setConduit c x).drive j = s.drive j := rfl
@[simp] theorem setConduit_ring (c : Nat) (x : Conduit) (j : Nat) : (s.setConduit c x).ring j = s.ring j := rfl
@[simp] theorem setConduit_chart (c : Nat) (x : Conduit) (j : Nat) : (s.setConduit c x).chart j = s.chart j := rfl
@[simp] theorem setConduit_charge (c : Nat) (x : Conduit) (j : Nat) : (s.setConduit c x).charge j = s.charge j := rfl
@[simp] theorem setConduit_weight (c : Nat) (x : Conduit) (j : Nat) : (s.setConduit c x).weight j = s.weight j := rfl
@[simp] theorem setConduit_source (c : Nat) (x : Conduit) (j : Nat) : (s.setConduit c x).source j = s.source j := rfl
@[simp] theorem setConduit_obj (c : Nat) (x : Conduit) (j : Nat) : (s.setConduit c x).obj j = s.obj j := rfl
@[simp] theorem setConduit_steward (c : Nat) (x : Conduit) (j : Nat) : (s.setConduit c x).steward j = s.steward j := rfl
@[simp] theorem setConduit_jobSlot (c : Nat) (x : Conduit) (j : Nat) : (s.setConduit c x).jobSlot j = s.jobSlot j := rfl

/-! setChart changes charts. -/
@[simp] theorem setChart_pending (i : Nat) (x : Chart) : (s.setChart i x).pending = s.pending := rfl
@[simp] theorem setChart_freeCtr (i : Nat) (x : Chart) : (s.setChart i x).freeCtr = s.freeCtr := rfl
@[simp] theorem setChart_time (i : Nat) (x : Chart) : (s.setChart i x).time = s.time := rfl
@[simp] theorem setChart_pkg (i : Nat) (x : Chart) : (s.setChart i x).pkg = s.pkg := rfl
@[simp] theorem setChart_start (i : Nat) (x : Chart) : (s.setChart i x).start = s.start := rfl
@[simp] theorem setChart_regs (i : Nat) (x : Chart) : (s.setChart i x).regs = s.regs := rfl
@[simp] theorem setChart_polders (i : Nat) (x : Chart) : (s.setChart i x).polders = s.polders := rfl
@[simp] theorem setChart_mem (i : Nat) (x : Chart) : (s.setChart i x).mem = s.mem := rfl
@[simp] theorem setChart_sideband (i : Nat) (x : Chart) : (s.setChart i x).sideband = s.sideband := rfl
@[simp] theorem setChart_frames (i : Nat) (x : Chart) : (s.setChart i x).frames = s.frames := rfl
@[simp] theorem setChart_retired (i : Nat) (x : Chart) : (s.setChart i x).retired = s.retired := rfl
@[simp] theorem setChart_seqs (i : Nat) (x : Chart) : (s.setChart i x).seqs = s.seqs := rfl
@[simp] theorem setChart_sweep (i : Nat) (x : Chart) : (s.setChart i x).sweep = s.sweep := rfl
@[simp] theorem setChart_moveFails (i : Nat) (x : Chart) : (s.setChart i x).moveFails = s.moveFails := rfl
@[simp] theorem setChart_lostSeqs (i : Nat) (x : Chart) : (s.setChart i x).lostSeqs = s.lostSeqs := rfl
@[simp] theorem setChart_lostHere (i : Nat) (x : Chart) : (s.setChart i x).lostHere = s.lostHere := rfl
@[simp] theorem setChart_orphans (i : Nat) (x : Chart) : (s.setChart i x).orphans = s.orphans := rfl
@[simp] theorem setChart_reqs (i : Nat) (x : Chart) : (s.setChart i x).reqs = s.reqs := rfl
@[simp] theorem setChart_gens (i : Nat) (x : Chart) : (s.setChart i x).gens = s.gens := rfl
@[simp] theorem setChart_orderCtr (i : Nat) (x : Chart) : (s.setChart i x).orderCtr = s.orderCtr := rfl
@[simp] theorem setChart_kept (i : Nat) (x : Chart) : (s.setChart i x).kept = s.kept := rfl
@[simp] theorem setChart_tombs (i : Nat) (x : Chart) : (s.setChart i x).tombs = s.tombs := rfl
@[simp] theorem setChart_holds (i : Nat) (x : Chart) : (s.setChart i x).holds = s.holds := rfl
@[simp] theorem setChart_bodies (i : Nat) (x : Chart) : (s.setChart i x).bodies = s.bodies := rfl
@[simp] theorem setChart_bodyHeld (i : Nat) (x : Chart) : (s.setChart i x).bodyHeld = s.bodyHeld := rfl
@[simp] theorem setChart_weights (i : Nat) (x : Chart) : (s.setChart i x).weights = s.weights := rfl
@[simp] theorem setChart_charges (i : Nat) (x : Chart) : (s.setChart i x).charges = s.charges := rfl
@[simp] theorem setChart_drives (i : Nat) (x : Chart) : (s.setChart i x).drives = s.drives := rfl
@[simp] theorem setChart_ports (i : Nat) (x : Chart) : (s.setChart i x).ports = s.ports := rfl
@[simp] theorem setChart_routes0 (i : Nat) (x : Chart) : (s.setChart i x).routes0 = s.routes0 := rfl
@[simp] theorem setChart_routes1 (i : Nat) (x : Chart) : (s.setChart i x).routes1 = s.routes1 := rfl
@[simp] theorem setChart_bank (i : Nat) (x : Chart) : (s.setChart i x).bank = s.bank := rfl
@[simp] theorem setChart_routed (i : Nat) (x : Chart) : (s.setChart i x).routed = s.routed := rfl
@[simp] theorem setChart_downMarks (i : Nat) (x : Chart) : (s.setChart i x).downMarks = s.downMarks := rfl
@[simp] theorem setChart_downSent (i : Nat) (x : Chart) : (s.setChart i x).downSent = s.downSent := rfl
@[simp] theorem setChart_contexts (i : Nat) (x : Chart) : (s.setChart i x).contexts = s.contexts := rfl
@[simp] theorem setChart_conduits (i : Nat) (x : Chart) : (s.setChart i x).conduits = s.conduits := rfl
@[simp] theorem setChart_stage (i : Nat) (x : Chart) : (s.setChart i x).stage = s.stage := rfl
@[simp] theorem setChart_miss (i : Nat) (x : Chart) : (s.setChart i x).miss = s.miss := rfl
@[simp] theorem setChart_sched (i : Nat) (x : Chart) : (s.setChart i x).sched = s.sched := rfl
@[simp] theorem setChart_pair (i : Nat) (x : Chart) : (s.setChart i x).pair = s.pair := rfl
@[simp] theorem setChart_fence (i : Nat) (x : Chart) : (s.setChart i x).fence = s.fence := rfl
@[simp] theorem setChart_log (i : Nat) (x : Chart) : (s.setChart i x).log = s.log := rfl
@[simp] theorem setChart_tempo (i : Nat) (x : Chart) : (s.setChart i x).tempo = s.tempo := rfl
@[simp] theorem setChart_power (i : Nat) (x : Chart) : (s.setChart i x).power = s.power := rfl
@[simp] theorem setChart_tiles (i : Nat) (x : Chart) : (s.setChart i x).tiles = s.tiles := rfl
@[simp] theorem setChart_thermal (i : Nat) (x : Chart) : (s.setChart i x).thermal = s.thermal := rfl
@[simp] theorem setChart_ptp (i : Nat) (x : Chart) : (s.setChart i x).ptp = s.ptp := rfl
@[simp] theorem setChart_sec (i : Nat) (x : Chart) : (s.setChart i x).sec = s.sec := rfl
@[simp] theorem setChart_meter (i : Nat) (x : Chart) : (s.setChart i x).meter = s.meter := rfl
@[simp] theorem setChart_gauge (i : Nat) (x : Chart) : (s.setChart i x).gauge = s.gauge := rfl
@[simp] theorem setChart_woa (i : Nat) (x : Chart) : (s.setChart i x).woa = s.woa := rfl
@[simp] theorem setChart_gath (i : Nat) (x : Chart) : (s.setChart i x).gath = s.gath := rfl
@[simp] theorem setChart_rings (i : Nat) (x : Chart) : (s.setChart i x).rings = s.rings := rfl
@[simp] theorem setChart_host (i : Nat) (x : Chart) : (s.setChart i x).host = s.host := rfl
@[simp] theorem setChart_out (i : Nat) (x : Chart) : (s.setChart i x).out = s.out := rfl
@[simp] theorem setChart_polder (i : Nat) (x : Chart) (j : Nat) : (s.setChart i x).polder j = s.polder j := rfl
@[simp] theorem setChart_port (i : Nat) (x : Chart) (j : Nat) : (s.setChart i x).port j = s.port j := rfl
@[simp] theorem setChart_drive (i : Nat) (x : Chart) (j : Nat) : (s.setChart i x).drive j = s.drive j := rfl
@[simp] theorem setChart_ring (i : Nat) (x : Chart) (j : Nat) : (s.setChart i x).ring j = s.ring j := rfl
@[simp] theorem setChart_conduit (i : Nat) (x : Chart) (j : Nat) : (s.setChart i x).conduit j = s.conduit j := rfl
@[simp] theorem setChart_charge (i : Nat) (x : Chart) (j : Nat) : (s.setChart i x).charge j = s.charge j := rfl
@[simp] theorem setChart_weight (i : Nat) (x : Chart) (j : Nat) : (s.setChart i x).weight j = s.weight j := rfl
@[simp] theorem setChart_source (i : Nat) (x : Chart) (j : Nat) : (s.setChart i x).source j = s.source j := rfl
@[simp] theorem setChart_obj (i : Nat) (x : Chart) (j : Nat) : (s.setChart i x).obj j = s.obj j := rfl
@[simp] theorem setChart_steward (i : Nat) (x : Chart) (j : Nat) : (s.setChart i x).steward j = s.steward j := rfl
@[simp] theorem setChart_jobSlot (i : Nat) (x : Chart) (j : Nat) : (s.setChart i x).jobSlot j = s.jobSlot j := rfl

/-! setCharge changes charges. -/
@[simp] theorem setCharge_pending (k : Nat) (x : Charges) : (s.setCharge k x).pending = s.pending := rfl
@[simp] theorem setCharge_freeCtr (k : Nat) (x : Charges) : (s.setCharge k x).freeCtr = s.freeCtr := rfl
@[simp] theorem setCharge_time (k : Nat) (x : Charges) : (s.setCharge k x).time = s.time := rfl
@[simp] theorem setCharge_pkg (k : Nat) (x : Charges) : (s.setCharge k x).pkg = s.pkg := rfl
@[simp] theorem setCharge_start (k : Nat) (x : Charges) : (s.setCharge k x).start = s.start := rfl
@[simp] theorem setCharge_regs (k : Nat) (x : Charges) : (s.setCharge k x).regs = s.regs := rfl
@[simp] theorem setCharge_polders (k : Nat) (x : Charges) : (s.setCharge k x).polders = s.polders := rfl
@[simp] theorem setCharge_mem (k : Nat) (x : Charges) : (s.setCharge k x).mem = s.mem := rfl
@[simp] theorem setCharge_sideband (k : Nat) (x : Charges) : (s.setCharge k x).sideband = s.sideband := rfl
@[simp] theorem setCharge_frames (k : Nat) (x : Charges) : (s.setCharge k x).frames = s.frames := rfl
@[simp] theorem setCharge_retired (k : Nat) (x : Charges) : (s.setCharge k x).retired = s.retired := rfl
@[simp] theorem setCharge_seqs (k : Nat) (x : Charges) : (s.setCharge k x).seqs = s.seqs := rfl
@[simp] theorem setCharge_sweep (k : Nat) (x : Charges) : (s.setCharge k x).sweep = s.sweep := rfl
@[simp] theorem setCharge_moveFails (k : Nat) (x : Charges) : (s.setCharge k x).moveFails = s.moveFails := rfl
@[simp] theorem setCharge_lostSeqs (k : Nat) (x : Charges) : (s.setCharge k x).lostSeqs = s.lostSeqs := rfl
@[simp] theorem setCharge_lostHere (k : Nat) (x : Charges) : (s.setCharge k x).lostHere = s.lostHere := rfl
@[simp] theorem setCharge_orphans (k : Nat) (x : Charges) : (s.setCharge k x).orphans = s.orphans := rfl
@[simp] theorem setCharge_reqs (k : Nat) (x : Charges) : (s.setCharge k x).reqs = s.reqs := rfl
@[simp] theorem setCharge_gens (k : Nat) (x : Charges) : (s.setCharge k x).gens = s.gens := rfl
@[simp] theorem setCharge_orderCtr (k : Nat) (x : Charges) : (s.setCharge k x).orderCtr = s.orderCtr := rfl
@[simp] theorem setCharge_kept (k : Nat) (x : Charges) : (s.setCharge k x).kept = s.kept := rfl
@[simp] theorem setCharge_tombs (k : Nat) (x : Charges) : (s.setCharge k x).tombs = s.tombs := rfl
@[simp] theorem setCharge_holds (k : Nat) (x : Charges) : (s.setCharge k x).holds = s.holds := rfl
@[simp] theorem setCharge_bodies (k : Nat) (x : Charges) : (s.setCharge k x).bodies = s.bodies := rfl
@[simp] theorem setCharge_bodyHeld (k : Nat) (x : Charges) : (s.setCharge k x).bodyHeld = s.bodyHeld := rfl
@[simp] theorem setCharge_weights (k : Nat) (x : Charges) : (s.setCharge k x).weights = s.weights := rfl
@[simp] theorem setCharge_drives (k : Nat) (x : Charges) : (s.setCharge k x).drives = s.drives := rfl
@[simp] theorem setCharge_ports (k : Nat) (x : Charges) : (s.setCharge k x).ports = s.ports := rfl
@[simp] theorem setCharge_routes0 (k : Nat) (x : Charges) : (s.setCharge k x).routes0 = s.routes0 := rfl
@[simp] theorem setCharge_routes1 (k : Nat) (x : Charges) : (s.setCharge k x).routes1 = s.routes1 := rfl
@[simp] theorem setCharge_bank (k : Nat) (x : Charges) : (s.setCharge k x).bank = s.bank := rfl
@[simp] theorem setCharge_routed (k : Nat) (x : Charges) : (s.setCharge k x).routed = s.routed := rfl
@[simp] theorem setCharge_downMarks (k : Nat) (x : Charges) : (s.setCharge k x).downMarks = s.downMarks := rfl
@[simp] theorem setCharge_downSent (k : Nat) (x : Charges) : (s.setCharge k x).downSent = s.downSent := rfl
@[simp] theorem setCharge_contexts (k : Nat) (x : Charges) : (s.setCharge k x).contexts = s.contexts := rfl
@[simp] theorem setCharge_conduits (k : Nat) (x : Charges) : (s.setCharge k x).conduits = s.conduits := rfl
@[simp] theorem setCharge_stage (k : Nat) (x : Charges) : (s.setCharge k x).stage = s.stage := rfl
@[simp] theorem setCharge_miss (k : Nat) (x : Charges) : (s.setCharge k x).miss = s.miss := rfl
@[simp] theorem setCharge_charts (k : Nat) (x : Charges) : (s.setCharge k x).charts = s.charts := rfl
@[simp] theorem setCharge_sched (k : Nat) (x : Charges) : (s.setCharge k x).sched = s.sched := rfl
@[simp] theorem setCharge_pair (k : Nat) (x : Charges) : (s.setCharge k x).pair = s.pair := rfl
@[simp] theorem setCharge_fence (k : Nat) (x : Charges) : (s.setCharge k x).fence = s.fence := rfl
@[simp] theorem setCharge_log (k : Nat) (x : Charges) : (s.setCharge k x).log = s.log := rfl
@[simp] theorem setCharge_tempo (k : Nat) (x : Charges) : (s.setCharge k x).tempo = s.tempo := rfl
@[simp] theorem setCharge_power (k : Nat) (x : Charges) : (s.setCharge k x).power = s.power := rfl
@[simp] theorem setCharge_tiles (k : Nat) (x : Charges) : (s.setCharge k x).tiles = s.tiles := rfl
@[simp] theorem setCharge_thermal (k : Nat) (x : Charges) : (s.setCharge k x).thermal = s.thermal := rfl
@[simp] theorem setCharge_ptp (k : Nat) (x : Charges) : (s.setCharge k x).ptp = s.ptp := rfl
@[simp] theorem setCharge_sec (k : Nat) (x : Charges) : (s.setCharge k x).sec = s.sec := rfl
@[simp] theorem setCharge_meter (k : Nat) (x : Charges) : (s.setCharge k x).meter = s.meter := rfl
@[simp] theorem setCharge_gauge (k : Nat) (x : Charges) : (s.setCharge k x).gauge = s.gauge := rfl
@[simp] theorem setCharge_woa (k : Nat) (x : Charges) : (s.setCharge k x).woa = s.woa := rfl
@[simp] theorem setCharge_gath (k : Nat) (x : Charges) : (s.setCharge k x).gath = s.gath := rfl
@[simp] theorem setCharge_rings (k : Nat) (x : Charges) : (s.setCharge k x).rings = s.rings := rfl
@[simp] theorem setCharge_host (k : Nat) (x : Charges) : (s.setCharge k x).host = s.host := rfl
@[simp] theorem setCharge_out (k : Nat) (x : Charges) : (s.setCharge k x).out = s.out := rfl
@[simp] theorem setCharge_polder (k : Nat) (x : Charges) (j : Nat) : (s.setCharge k x).polder j = s.polder j := rfl
@[simp] theorem setCharge_port (k : Nat) (x : Charges) (j : Nat) : (s.setCharge k x).port j = s.port j := rfl
@[simp] theorem setCharge_drive (k : Nat) (x : Charges) (j : Nat) : (s.setCharge k x).drive j = s.drive j := rfl
@[simp] theorem setCharge_ring (k : Nat) (x : Charges) (j : Nat) : (s.setCharge k x).ring j = s.ring j := rfl
@[simp] theorem setCharge_conduit (k : Nat) (x : Charges) (j : Nat) : (s.setCharge k x).conduit j = s.conduit j := rfl
@[simp] theorem setCharge_chart (k : Nat) (x : Charges) (j : Nat) : (s.setCharge k x).chart j = s.chart j := rfl
@[simp] theorem setCharge_weight (k : Nat) (x : Charges) (j : Nat) : (s.setCharge k x).weight j = s.weight j := rfl
@[simp] theorem setCharge_source (k : Nat) (x : Charges) (j : Nat) : (s.setCharge k x).source j = s.source j := rfl
@[simp] theorem setCharge_obj (k : Nat) (x : Charges) (j : Nat) : (s.setCharge k x).obj j = s.obj j := rfl
@[simp] theorem setCharge_steward (k : Nat) (x : Charges) (j : Nat) : (s.setCharge k x).steward j = s.steward j := rfl
@[simp] theorem setCharge_jobSlot (k : Nat) (x : Charges) (j : Nat) : (s.setCharge k x).jobSlot j = s.jobSlot j := rfl

/-! setWeight changes weights. -/
@[simp] theorem setWeight_pending (b : Nat) (x : Weights) : (s.setWeight b x).pending = s.pending := rfl
@[simp] theorem setWeight_freeCtr (b : Nat) (x : Weights) : (s.setWeight b x).freeCtr = s.freeCtr := rfl
@[simp] theorem setWeight_time (b : Nat) (x : Weights) : (s.setWeight b x).time = s.time := rfl
@[simp] theorem setWeight_pkg (b : Nat) (x : Weights) : (s.setWeight b x).pkg = s.pkg := rfl
@[simp] theorem setWeight_start (b : Nat) (x : Weights) : (s.setWeight b x).start = s.start := rfl
@[simp] theorem setWeight_regs (b : Nat) (x : Weights) : (s.setWeight b x).regs = s.regs := rfl
@[simp] theorem setWeight_polders (b : Nat) (x : Weights) : (s.setWeight b x).polders = s.polders := rfl
@[simp] theorem setWeight_mem (b : Nat) (x : Weights) : (s.setWeight b x).mem = s.mem := rfl
@[simp] theorem setWeight_sideband (b : Nat) (x : Weights) : (s.setWeight b x).sideband = s.sideband := rfl
@[simp] theorem setWeight_frames (b : Nat) (x : Weights) : (s.setWeight b x).frames = s.frames := rfl
@[simp] theorem setWeight_retired (b : Nat) (x : Weights) : (s.setWeight b x).retired = s.retired := rfl
@[simp] theorem setWeight_seqs (b : Nat) (x : Weights) : (s.setWeight b x).seqs = s.seqs := rfl
@[simp] theorem setWeight_sweep (b : Nat) (x : Weights) : (s.setWeight b x).sweep = s.sweep := rfl
@[simp] theorem setWeight_moveFails (b : Nat) (x : Weights) : (s.setWeight b x).moveFails = s.moveFails := rfl
@[simp] theorem setWeight_lostSeqs (b : Nat) (x : Weights) : (s.setWeight b x).lostSeqs = s.lostSeqs := rfl
@[simp] theorem setWeight_lostHere (b : Nat) (x : Weights) : (s.setWeight b x).lostHere = s.lostHere := rfl
@[simp] theorem setWeight_orphans (b : Nat) (x : Weights) : (s.setWeight b x).orphans = s.orphans := rfl
@[simp] theorem setWeight_reqs (b : Nat) (x : Weights) : (s.setWeight b x).reqs = s.reqs := rfl
@[simp] theorem setWeight_gens (b : Nat) (x : Weights) : (s.setWeight b x).gens = s.gens := rfl
@[simp] theorem setWeight_orderCtr (b : Nat) (x : Weights) : (s.setWeight b x).orderCtr = s.orderCtr := rfl
@[simp] theorem setWeight_kept (b : Nat) (x : Weights) : (s.setWeight b x).kept = s.kept := rfl
@[simp] theorem setWeight_tombs (b : Nat) (x : Weights) : (s.setWeight b x).tombs = s.tombs := rfl
@[simp] theorem setWeight_holds (b : Nat) (x : Weights) : (s.setWeight b x).holds = s.holds := rfl
@[simp] theorem setWeight_bodies (b : Nat) (x : Weights) : (s.setWeight b x).bodies = s.bodies := rfl
@[simp] theorem setWeight_bodyHeld (b : Nat) (x : Weights) : (s.setWeight b x).bodyHeld = s.bodyHeld := rfl
@[simp] theorem setWeight_charges (b : Nat) (x : Weights) : (s.setWeight b x).charges = s.charges := rfl
@[simp] theorem setWeight_drives (b : Nat) (x : Weights) : (s.setWeight b x).drives = s.drives := rfl
@[simp] theorem setWeight_ports (b : Nat) (x : Weights) : (s.setWeight b x).ports = s.ports := rfl
@[simp] theorem setWeight_routes0 (b : Nat) (x : Weights) : (s.setWeight b x).routes0 = s.routes0 := rfl
@[simp] theorem setWeight_routes1 (b : Nat) (x : Weights) : (s.setWeight b x).routes1 = s.routes1 := rfl
@[simp] theorem setWeight_bank (b : Nat) (x : Weights) : (s.setWeight b x).bank = s.bank := rfl
@[simp] theorem setWeight_routed (b : Nat) (x : Weights) : (s.setWeight b x).routed = s.routed := rfl
@[simp] theorem setWeight_downMarks (b : Nat) (x : Weights) : (s.setWeight b x).downMarks = s.downMarks := rfl
@[simp] theorem setWeight_downSent (b : Nat) (x : Weights) : (s.setWeight b x).downSent = s.downSent := rfl
@[simp] theorem setWeight_contexts (b : Nat) (x : Weights) : (s.setWeight b x).contexts = s.contexts := rfl
@[simp] theorem setWeight_conduits (b : Nat) (x : Weights) : (s.setWeight b x).conduits = s.conduits := rfl
@[simp] theorem setWeight_stage (b : Nat) (x : Weights) : (s.setWeight b x).stage = s.stage := rfl
@[simp] theorem setWeight_miss (b : Nat) (x : Weights) : (s.setWeight b x).miss = s.miss := rfl
@[simp] theorem setWeight_charts (b : Nat) (x : Weights) : (s.setWeight b x).charts = s.charts := rfl
@[simp] theorem setWeight_sched (b : Nat) (x : Weights) : (s.setWeight b x).sched = s.sched := rfl
@[simp] theorem setWeight_pair (b : Nat) (x : Weights) : (s.setWeight b x).pair = s.pair := rfl
@[simp] theorem setWeight_fence (b : Nat) (x : Weights) : (s.setWeight b x).fence = s.fence := rfl
@[simp] theorem setWeight_log (b : Nat) (x : Weights) : (s.setWeight b x).log = s.log := rfl
@[simp] theorem setWeight_tempo (b : Nat) (x : Weights) : (s.setWeight b x).tempo = s.tempo := rfl
@[simp] theorem setWeight_power (b : Nat) (x : Weights) : (s.setWeight b x).power = s.power := rfl
@[simp] theorem setWeight_tiles (b : Nat) (x : Weights) : (s.setWeight b x).tiles = s.tiles := rfl
@[simp] theorem setWeight_thermal (b : Nat) (x : Weights) : (s.setWeight b x).thermal = s.thermal := rfl
@[simp] theorem setWeight_ptp (b : Nat) (x : Weights) : (s.setWeight b x).ptp = s.ptp := rfl
@[simp] theorem setWeight_sec (b : Nat) (x : Weights) : (s.setWeight b x).sec = s.sec := rfl
@[simp] theorem setWeight_meter (b : Nat) (x : Weights) : (s.setWeight b x).meter = s.meter := rfl
@[simp] theorem setWeight_gauge (b : Nat) (x : Weights) : (s.setWeight b x).gauge = s.gauge := rfl
@[simp] theorem setWeight_woa (b : Nat) (x : Weights) : (s.setWeight b x).woa = s.woa := rfl
@[simp] theorem setWeight_gath (b : Nat) (x : Weights) : (s.setWeight b x).gath = s.gath := rfl
@[simp] theorem setWeight_rings (b : Nat) (x : Weights) : (s.setWeight b x).rings = s.rings := rfl
@[simp] theorem setWeight_host (b : Nat) (x : Weights) : (s.setWeight b x).host = s.host := rfl
@[simp] theorem setWeight_out (b : Nat) (x : Weights) : (s.setWeight b x).out = s.out := rfl
@[simp] theorem setWeight_polder (b : Nat) (x : Weights) (j : Nat) : (s.setWeight b x).polder j = s.polder j := rfl
@[simp] theorem setWeight_port (b : Nat) (x : Weights) (j : Nat) : (s.setWeight b x).port j = s.port j := rfl
@[simp] theorem setWeight_drive (b : Nat) (x : Weights) (j : Nat) : (s.setWeight b x).drive j = s.drive j := rfl
@[simp] theorem setWeight_ring (b : Nat) (x : Weights) (j : Nat) : (s.setWeight b x).ring j = s.ring j := rfl
@[simp] theorem setWeight_conduit (b : Nat) (x : Weights) (j : Nat) : (s.setWeight b x).conduit j = s.conduit j := rfl
@[simp] theorem setWeight_chart (b : Nat) (x : Weights) (j : Nat) : (s.setWeight b x).chart j = s.chart j := rfl
@[simp] theorem setWeight_charge (b : Nat) (x : Weights) (j : Nat) : (s.setWeight b x).charge j = s.charge j := rfl
@[simp] theorem setWeight_source (b : Nat) (x : Weights) (j : Nat) : (s.setWeight b x).source j = s.source j := rfl
@[simp] theorem setWeight_obj (b : Nat) (x : Weights) (j : Nat) : (s.setWeight b x).obj j = s.obj j := rfl
@[simp] theorem setWeight_steward (b : Nat) (x : Weights) (j : Nat) : (s.setWeight b x).steward j = s.steward j := rfl
@[simp] theorem setWeight_jobSlot (b : Nat) (x : Weights) (j : Nat) : (s.setWeight b x).jobSlot j = s.jobSlot j := rfl

/-! setSource changes gath. -/
@[simp] theorem setSource_pending (k : Nat) (x : GSource) : (s.setSource k x).pending = s.pending := rfl
@[simp] theorem setSource_freeCtr (k : Nat) (x : GSource) : (s.setSource k x).freeCtr = s.freeCtr := rfl
@[simp] theorem setSource_time (k : Nat) (x : GSource) : (s.setSource k x).time = s.time := rfl
@[simp] theorem setSource_pkg (k : Nat) (x : GSource) : (s.setSource k x).pkg = s.pkg := rfl
@[simp] theorem setSource_start (k : Nat) (x : GSource) : (s.setSource k x).start = s.start := rfl
@[simp] theorem setSource_regs (k : Nat) (x : GSource) : (s.setSource k x).regs = s.regs := rfl
@[simp] theorem setSource_polders (k : Nat) (x : GSource) : (s.setSource k x).polders = s.polders := rfl
@[simp] theorem setSource_mem (k : Nat) (x : GSource) : (s.setSource k x).mem = s.mem := rfl
@[simp] theorem setSource_sideband (k : Nat) (x : GSource) : (s.setSource k x).sideband = s.sideband := rfl
@[simp] theorem setSource_frames (k : Nat) (x : GSource) : (s.setSource k x).frames = s.frames := rfl
@[simp] theorem setSource_retired (k : Nat) (x : GSource) : (s.setSource k x).retired = s.retired := rfl
@[simp] theorem setSource_seqs (k : Nat) (x : GSource) : (s.setSource k x).seqs = s.seqs := rfl
@[simp] theorem setSource_sweep (k : Nat) (x : GSource) : (s.setSource k x).sweep = s.sweep := rfl
@[simp] theorem setSource_moveFails (k : Nat) (x : GSource) : (s.setSource k x).moveFails = s.moveFails := rfl
@[simp] theorem setSource_lostSeqs (k : Nat) (x : GSource) : (s.setSource k x).lostSeqs = s.lostSeqs := rfl
@[simp] theorem setSource_lostHere (k : Nat) (x : GSource) : (s.setSource k x).lostHere = s.lostHere := rfl
@[simp] theorem setSource_orphans (k : Nat) (x : GSource) : (s.setSource k x).orphans = s.orphans := rfl
@[simp] theorem setSource_reqs (k : Nat) (x : GSource) : (s.setSource k x).reqs = s.reqs := rfl
@[simp] theorem setSource_gens (k : Nat) (x : GSource) : (s.setSource k x).gens = s.gens := rfl
@[simp] theorem setSource_orderCtr (k : Nat) (x : GSource) : (s.setSource k x).orderCtr = s.orderCtr := rfl
@[simp] theorem setSource_kept (k : Nat) (x : GSource) : (s.setSource k x).kept = s.kept := rfl
@[simp] theorem setSource_tombs (k : Nat) (x : GSource) : (s.setSource k x).tombs = s.tombs := rfl
@[simp] theorem setSource_holds (k : Nat) (x : GSource) : (s.setSource k x).holds = s.holds := rfl
@[simp] theorem setSource_bodies (k : Nat) (x : GSource) : (s.setSource k x).bodies = s.bodies := rfl
@[simp] theorem setSource_bodyHeld (k : Nat) (x : GSource) : (s.setSource k x).bodyHeld = s.bodyHeld := rfl
@[simp] theorem setSource_weights (k : Nat) (x : GSource) : (s.setSource k x).weights = s.weights := rfl
@[simp] theorem setSource_charges (k : Nat) (x : GSource) : (s.setSource k x).charges = s.charges := rfl
@[simp] theorem setSource_drives (k : Nat) (x : GSource) : (s.setSource k x).drives = s.drives := rfl
@[simp] theorem setSource_ports (k : Nat) (x : GSource) : (s.setSource k x).ports = s.ports := rfl
@[simp] theorem setSource_routes0 (k : Nat) (x : GSource) : (s.setSource k x).routes0 = s.routes0 := rfl
@[simp] theorem setSource_routes1 (k : Nat) (x : GSource) : (s.setSource k x).routes1 = s.routes1 := rfl
@[simp] theorem setSource_bank (k : Nat) (x : GSource) : (s.setSource k x).bank = s.bank := rfl
@[simp] theorem setSource_routed (k : Nat) (x : GSource) : (s.setSource k x).routed = s.routed := rfl
@[simp] theorem setSource_downMarks (k : Nat) (x : GSource) : (s.setSource k x).downMarks = s.downMarks := rfl
@[simp] theorem setSource_downSent (k : Nat) (x : GSource) : (s.setSource k x).downSent = s.downSent := rfl
@[simp] theorem setSource_contexts (k : Nat) (x : GSource) : (s.setSource k x).contexts = s.contexts := rfl
@[simp] theorem setSource_conduits (k : Nat) (x : GSource) : (s.setSource k x).conduits = s.conduits := rfl
@[simp] theorem setSource_stage (k : Nat) (x : GSource) : (s.setSource k x).stage = s.stage := rfl
@[simp] theorem setSource_miss (k : Nat) (x : GSource) : (s.setSource k x).miss = s.miss := rfl
@[simp] theorem setSource_charts (k : Nat) (x : GSource) : (s.setSource k x).charts = s.charts := rfl
@[simp] theorem setSource_sched (k : Nat) (x : GSource) : (s.setSource k x).sched = s.sched := rfl
@[simp] theorem setSource_pair (k : Nat) (x : GSource) : (s.setSource k x).pair = s.pair := rfl
@[simp] theorem setSource_fence (k : Nat) (x : GSource) : (s.setSource k x).fence = s.fence := rfl
@[simp] theorem setSource_log (k : Nat) (x : GSource) : (s.setSource k x).log = s.log := rfl
@[simp] theorem setSource_tempo (k : Nat) (x : GSource) : (s.setSource k x).tempo = s.tempo := rfl
@[simp] theorem setSource_power (k : Nat) (x : GSource) : (s.setSource k x).power = s.power := rfl
@[simp] theorem setSource_tiles (k : Nat) (x : GSource) : (s.setSource k x).tiles = s.tiles := rfl
@[simp] theorem setSource_thermal (k : Nat) (x : GSource) : (s.setSource k x).thermal = s.thermal := rfl
@[simp] theorem setSource_ptp (k : Nat) (x : GSource) : (s.setSource k x).ptp = s.ptp := rfl
@[simp] theorem setSource_sec (k : Nat) (x : GSource) : (s.setSource k x).sec = s.sec := rfl
@[simp] theorem setSource_meter (k : Nat) (x : GSource) : (s.setSource k x).meter = s.meter := rfl
@[simp] theorem setSource_gauge (k : Nat) (x : GSource) : (s.setSource k x).gauge = s.gauge := rfl
@[simp] theorem setSource_woa (k : Nat) (x : GSource) : (s.setSource k x).woa = s.woa := rfl
@[simp] theorem setSource_rings (k : Nat) (x : GSource) : (s.setSource k x).rings = s.rings := rfl
@[simp] theorem setSource_host (k : Nat) (x : GSource) : (s.setSource k x).host = s.host := rfl
@[simp] theorem setSource_out (k : Nat) (x : GSource) : (s.setSource k x).out = s.out := rfl
@[simp] theorem setSource_polder (k : Nat) (x : GSource) (j : Nat) : (s.setSource k x).polder j = s.polder j := rfl
@[simp] theorem setSource_port (k : Nat) (x : GSource) (j : Nat) : (s.setSource k x).port j = s.port j := rfl
@[simp] theorem setSource_drive (k : Nat) (x : GSource) (j : Nat) : (s.setSource k x).drive j = s.drive j := rfl
@[simp] theorem setSource_ring (k : Nat) (x : GSource) (j : Nat) : (s.setSource k x).ring j = s.ring j := rfl
@[simp] theorem setSource_conduit (k : Nat) (x : GSource) (j : Nat) : (s.setSource k x).conduit j = s.conduit j := rfl
@[simp] theorem setSource_chart (k : Nat) (x : GSource) (j : Nat) : (s.setSource k x).chart j = s.chart j := rfl
@[simp] theorem setSource_charge (k : Nat) (x : GSource) (j : Nat) : (s.setSource k x).charge j = s.charge j := rfl
@[simp] theorem setSource_weight (k : Nat) (x : GSource) (j : Nat) : (s.setSource k x).weight j = s.weight j := rfl
@[simp] theorem setSource_obj (k : Nat) (x : GSource) (j : Nat) : (s.setSource k x).obj j = s.obj j := rfl
@[simp] theorem setSource_steward (k : Nat) (x : GSource) (j : Nat) : (s.setSource k x).steward j = s.steward j := rfl
@[simp] theorem setSource_jobSlot (k : Nat) (x : GSource) (j : Nat) : (s.setSource k x).jobSlot j = s.jobSlot j := rfl

/-! setReq changes reqs. -/
@[simp] theorem setReq_pending (k : Nat) (x : Request) : (s.setReq k x).pending = s.pending := rfl
@[simp] theorem setReq_freeCtr (k : Nat) (x : Request) : (s.setReq k x).freeCtr = s.freeCtr := rfl
@[simp] theorem setReq_time (k : Nat) (x : Request) : (s.setReq k x).time = s.time := rfl
@[simp] theorem setReq_pkg (k : Nat) (x : Request) : (s.setReq k x).pkg = s.pkg := rfl
@[simp] theorem setReq_start (k : Nat) (x : Request) : (s.setReq k x).start = s.start := rfl
@[simp] theorem setReq_regs (k : Nat) (x : Request) : (s.setReq k x).regs = s.regs := rfl
@[simp] theorem setReq_polders (k : Nat) (x : Request) : (s.setReq k x).polders = s.polders := rfl
@[simp] theorem setReq_mem (k : Nat) (x : Request) : (s.setReq k x).mem = s.mem := rfl
@[simp] theorem setReq_sideband (k : Nat) (x : Request) : (s.setReq k x).sideband = s.sideband := rfl
@[simp] theorem setReq_frames (k : Nat) (x : Request) : (s.setReq k x).frames = s.frames := rfl
@[simp] theorem setReq_retired (k : Nat) (x : Request) : (s.setReq k x).retired = s.retired := rfl
@[simp] theorem setReq_seqs (k : Nat) (x : Request) : (s.setReq k x).seqs = s.seqs := rfl
@[simp] theorem setReq_sweep (k : Nat) (x : Request) : (s.setReq k x).sweep = s.sweep := rfl
@[simp] theorem setReq_moveFails (k : Nat) (x : Request) : (s.setReq k x).moveFails = s.moveFails := rfl
@[simp] theorem setReq_lostSeqs (k : Nat) (x : Request) : (s.setReq k x).lostSeqs = s.lostSeqs := rfl
@[simp] theorem setReq_lostHere (k : Nat) (x : Request) : (s.setReq k x).lostHere = s.lostHere := rfl
@[simp] theorem setReq_orphans (k : Nat) (x : Request) : (s.setReq k x).orphans = s.orphans := rfl
@[simp] theorem setReq_gens (k : Nat) (x : Request) : (s.setReq k x).gens = s.gens := rfl
@[simp] theorem setReq_orderCtr (k : Nat) (x : Request) : (s.setReq k x).orderCtr = s.orderCtr := rfl
@[simp] theorem setReq_kept (k : Nat) (x : Request) : (s.setReq k x).kept = s.kept := rfl
@[simp] theorem setReq_tombs (k : Nat) (x : Request) : (s.setReq k x).tombs = s.tombs := rfl
@[simp] theorem setReq_holds (k : Nat) (x : Request) : (s.setReq k x).holds = s.holds := rfl
@[simp] theorem setReq_bodies (k : Nat) (x : Request) : (s.setReq k x).bodies = s.bodies := rfl
@[simp] theorem setReq_bodyHeld (k : Nat) (x : Request) : (s.setReq k x).bodyHeld = s.bodyHeld := rfl
@[simp] theorem setReq_weights (k : Nat) (x : Request) : (s.setReq k x).weights = s.weights := rfl
@[simp] theorem setReq_charges (k : Nat) (x : Request) : (s.setReq k x).charges = s.charges := rfl
@[simp] theorem setReq_drives (k : Nat) (x : Request) : (s.setReq k x).drives = s.drives := rfl
@[simp] theorem setReq_ports (k : Nat) (x : Request) : (s.setReq k x).ports = s.ports := rfl
@[simp] theorem setReq_routes0 (k : Nat) (x : Request) : (s.setReq k x).routes0 = s.routes0 := rfl
@[simp] theorem setReq_routes1 (k : Nat) (x : Request) : (s.setReq k x).routes1 = s.routes1 := rfl
@[simp] theorem setReq_bank (k : Nat) (x : Request) : (s.setReq k x).bank = s.bank := rfl
@[simp] theorem setReq_routed (k : Nat) (x : Request) : (s.setReq k x).routed = s.routed := rfl
@[simp] theorem setReq_downMarks (k : Nat) (x : Request) : (s.setReq k x).downMarks = s.downMarks := rfl
@[simp] theorem setReq_downSent (k : Nat) (x : Request) : (s.setReq k x).downSent = s.downSent := rfl
@[simp] theorem setReq_contexts (k : Nat) (x : Request) : (s.setReq k x).contexts = s.contexts := rfl
@[simp] theorem setReq_conduits (k : Nat) (x : Request) : (s.setReq k x).conduits = s.conduits := rfl
@[simp] theorem setReq_stage (k : Nat) (x : Request) : (s.setReq k x).stage = s.stage := rfl
@[simp] theorem setReq_miss (k : Nat) (x : Request) : (s.setReq k x).miss = s.miss := rfl
@[simp] theorem setReq_charts (k : Nat) (x : Request) : (s.setReq k x).charts = s.charts := rfl
@[simp] theorem setReq_sched (k : Nat) (x : Request) : (s.setReq k x).sched = s.sched := rfl
@[simp] theorem setReq_pair (k : Nat) (x : Request) : (s.setReq k x).pair = s.pair := rfl
@[simp] theorem setReq_fence (k : Nat) (x : Request) : (s.setReq k x).fence = s.fence := rfl
@[simp] theorem setReq_log (k : Nat) (x : Request) : (s.setReq k x).log = s.log := rfl
@[simp] theorem setReq_tempo (k : Nat) (x : Request) : (s.setReq k x).tempo = s.tempo := rfl
@[simp] theorem setReq_power (k : Nat) (x : Request) : (s.setReq k x).power = s.power := rfl
@[simp] theorem setReq_tiles (k : Nat) (x : Request) : (s.setReq k x).tiles = s.tiles := rfl
@[simp] theorem setReq_thermal (k : Nat) (x : Request) : (s.setReq k x).thermal = s.thermal := rfl
@[simp] theorem setReq_ptp (k : Nat) (x : Request) : (s.setReq k x).ptp = s.ptp := rfl
@[simp] theorem setReq_sec (k : Nat) (x : Request) : (s.setReq k x).sec = s.sec := rfl
@[simp] theorem setReq_meter (k : Nat) (x : Request) : (s.setReq k x).meter = s.meter := rfl
@[simp] theorem setReq_gauge (k : Nat) (x : Request) : (s.setReq k x).gauge = s.gauge := rfl
@[simp] theorem setReq_woa (k : Nat) (x : Request) : (s.setReq k x).woa = s.woa := rfl
@[simp] theorem setReq_gath (k : Nat) (x : Request) : (s.setReq k x).gath = s.gath := rfl
@[simp] theorem setReq_rings (k : Nat) (x : Request) : (s.setReq k x).rings = s.rings := rfl
@[simp] theorem setReq_host (k : Nat) (x : Request) : (s.setReq k x).host = s.host := rfl
@[simp] theorem setReq_out (k : Nat) (x : Request) : (s.setReq k x).out = s.out := rfl
@[simp] theorem setReq_polder (k : Nat) (x : Request) (j : Nat) : (s.setReq k x).polder j = s.polder j := rfl
@[simp] theorem setReq_port (k : Nat) (x : Request) (j : Nat) : (s.setReq k x).port j = s.port j := rfl
@[simp] theorem setReq_drive (k : Nat) (x : Request) (j : Nat) : (s.setReq k x).drive j = s.drive j := rfl
@[simp] theorem setReq_ring (k : Nat) (x : Request) (j : Nat) : (s.setReq k x).ring j = s.ring j := rfl
@[simp] theorem setReq_conduit (k : Nat) (x : Request) (j : Nat) : (s.setReq k x).conduit j = s.conduit j := rfl
@[simp] theorem setReq_chart (k : Nat) (x : Request) (j : Nat) : (s.setReq k x).chart j = s.chart j := rfl
@[simp] theorem setReq_charge (k : Nat) (x : Request) (j : Nat) : (s.setReq k x).charge j = s.charge j := rfl
@[simp] theorem setReq_weight (k : Nat) (x : Request) (j : Nat) : (s.setReq k x).weight j = s.weight j := rfl
@[simp] theorem setReq_source (k : Nat) (x : Request) (j : Nat) : (s.setReq k x).source j = s.source j := rfl
@[simp] theorem setReq_obj (k : Nat) (x : Request) (j : Nat) : (s.setReq k x).obj j = s.obj j := rfl
@[simp] theorem setReq_steward (k : Nat) (x : Request) (j : Nat) : (s.setReq k x).steward j = s.steward j := rfl
@[simp] theorem setReq_jobSlot (k : Nat) (x : Request) (j : Nat) : (s.setReq k x).jobSlot j = s.jobSlot j := rfl

/-! setSeq changes seqs. -/
@[simp] theorem setSeq_pending (k : Nat) (x : Seq) : (s.setSeq k x).pending = s.pending := rfl
@[simp] theorem setSeq_freeCtr (k : Nat) (x : Seq) : (s.setSeq k x).freeCtr = s.freeCtr := rfl
@[simp] theorem setSeq_time (k : Nat) (x : Seq) : (s.setSeq k x).time = s.time := rfl
@[simp] theorem setSeq_pkg (k : Nat) (x : Seq) : (s.setSeq k x).pkg = s.pkg := rfl
@[simp] theorem setSeq_start (k : Nat) (x : Seq) : (s.setSeq k x).start = s.start := rfl
@[simp] theorem setSeq_regs (k : Nat) (x : Seq) : (s.setSeq k x).regs = s.regs := rfl
@[simp] theorem setSeq_polders (k : Nat) (x : Seq) : (s.setSeq k x).polders = s.polders := rfl
@[simp] theorem setSeq_mem (k : Nat) (x : Seq) : (s.setSeq k x).mem = s.mem := rfl
@[simp] theorem setSeq_sideband (k : Nat) (x : Seq) : (s.setSeq k x).sideband = s.sideband := rfl
@[simp] theorem setSeq_frames (k : Nat) (x : Seq) : (s.setSeq k x).frames = s.frames := rfl
@[simp] theorem setSeq_retired (k : Nat) (x : Seq) : (s.setSeq k x).retired = s.retired := rfl
@[simp] theorem setSeq_sweep (k : Nat) (x : Seq) : (s.setSeq k x).sweep = s.sweep := rfl
@[simp] theorem setSeq_moveFails (k : Nat) (x : Seq) : (s.setSeq k x).moveFails = s.moveFails := rfl
@[simp] theorem setSeq_lostSeqs (k : Nat) (x : Seq) : (s.setSeq k x).lostSeqs = s.lostSeqs := rfl
@[simp] theorem setSeq_lostHere (k : Nat) (x : Seq) : (s.setSeq k x).lostHere = s.lostHere := rfl
@[simp] theorem setSeq_orphans (k : Nat) (x : Seq) : (s.setSeq k x).orphans = s.orphans := rfl
@[simp] theorem setSeq_reqs (k : Nat) (x : Seq) : (s.setSeq k x).reqs = s.reqs := rfl
@[simp] theorem setSeq_gens (k : Nat) (x : Seq) : (s.setSeq k x).gens = s.gens := rfl
@[simp] theorem setSeq_orderCtr (k : Nat) (x : Seq) : (s.setSeq k x).orderCtr = s.orderCtr := rfl
@[simp] theorem setSeq_kept (k : Nat) (x : Seq) : (s.setSeq k x).kept = s.kept := rfl
@[simp] theorem setSeq_tombs (k : Nat) (x : Seq) : (s.setSeq k x).tombs = s.tombs := rfl
@[simp] theorem setSeq_holds (k : Nat) (x : Seq) : (s.setSeq k x).holds = s.holds := rfl
@[simp] theorem setSeq_bodies (k : Nat) (x : Seq) : (s.setSeq k x).bodies = s.bodies := rfl
@[simp] theorem setSeq_bodyHeld (k : Nat) (x : Seq) : (s.setSeq k x).bodyHeld = s.bodyHeld := rfl
@[simp] theorem setSeq_weights (k : Nat) (x : Seq) : (s.setSeq k x).weights = s.weights := rfl
@[simp] theorem setSeq_charges (k : Nat) (x : Seq) : (s.setSeq k x).charges = s.charges := rfl
@[simp] theorem setSeq_drives (k : Nat) (x : Seq) : (s.setSeq k x).drives = s.drives := rfl
@[simp] theorem setSeq_ports (k : Nat) (x : Seq) : (s.setSeq k x).ports = s.ports := rfl
@[simp] theorem setSeq_routes0 (k : Nat) (x : Seq) : (s.setSeq k x).routes0 = s.routes0 := rfl
@[simp] theorem setSeq_routes1 (k : Nat) (x : Seq) : (s.setSeq k x).routes1 = s.routes1 := rfl
@[simp] theorem setSeq_bank (k : Nat) (x : Seq) : (s.setSeq k x).bank = s.bank := rfl
@[simp] theorem setSeq_routed (k : Nat) (x : Seq) : (s.setSeq k x).routed = s.routed := rfl
@[simp] theorem setSeq_downMarks (k : Nat) (x : Seq) : (s.setSeq k x).downMarks = s.downMarks := rfl
@[simp] theorem setSeq_downSent (k : Nat) (x : Seq) : (s.setSeq k x).downSent = s.downSent := rfl
@[simp] theorem setSeq_contexts (k : Nat) (x : Seq) : (s.setSeq k x).contexts = s.contexts := rfl
@[simp] theorem setSeq_conduits (k : Nat) (x : Seq) : (s.setSeq k x).conduits = s.conduits := rfl
@[simp] theorem setSeq_stage (k : Nat) (x : Seq) : (s.setSeq k x).stage = s.stage := rfl
@[simp] theorem setSeq_miss (k : Nat) (x : Seq) : (s.setSeq k x).miss = s.miss := rfl
@[simp] theorem setSeq_charts (k : Nat) (x : Seq) : (s.setSeq k x).charts = s.charts := rfl
@[simp] theorem setSeq_sched (k : Nat) (x : Seq) : (s.setSeq k x).sched = s.sched := rfl
@[simp] theorem setSeq_pair (k : Nat) (x : Seq) : (s.setSeq k x).pair = s.pair := rfl
@[simp] theorem setSeq_fence (k : Nat) (x : Seq) : (s.setSeq k x).fence = s.fence := rfl
@[simp] theorem setSeq_log (k : Nat) (x : Seq) : (s.setSeq k x).log = s.log := rfl
@[simp] theorem setSeq_tempo (k : Nat) (x : Seq) : (s.setSeq k x).tempo = s.tempo := rfl
@[simp] theorem setSeq_power (k : Nat) (x : Seq) : (s.setSeq k x).power = s.power := rfl
@[simp] theorem setSeq_tiles (k : Nat) (x : Seq) : (s.setSeq k x).tiles = s.tiles := rfl
@[simp] theorem setSeq_thermal (k : Nat) (x : Seq) : (s.setSeq k x).thermal = s.thermal := rfl
@[simp] theorem setSeq_ptp (k : Nat) (x : Seq) : (s.setSeq k x).ptp = s.ptp := rfl
@[simp] theorem setSeq_sec (k : Nat) (x : Seq) : (s.setSeq k x).sec = s.sec := rfl
@[simp] theorem setSeq_meter (k : Nat) (x : Seq) : (s.setSeq k x).meter = s.meter := rfl
@[simp] theorem setSeq_gauge (k : Nat) (x : Seq) : (s.setSeq k x).gauge = s.gauge := rfl
@[simp] theorem setSeq_woa (k : Nat) (x : Seq) : (s.setSeq k x).woa = s.woa := rfl
@[simp] theorem setSeq_gath (k : Nat) (x : Seq) : (s.setSeq k x).gath = s.gath := rfl
@[simp] theorem setSeq_rings (k : Nat) (x : Seq) : (s.setSeq k x).rings = s.rings := rfl
@[simp] theorem setSeq_host (k : Nat) (x : Seq) : (s.setSeq k x).host = s.host := rfl
@[simp] theorem setSeq_out (k : Nat) (x : Seq) : (s.setSeq k x).out = s.out := rfl
@[simp] theorem setSeq_polder (k : Nat) (x : Seq) (j : Nat) : (s.setSeq k x).polder j = s.polder j := rfl
@[simp] theorem setSeq_port (k : Nat) (x : Seq) (j : Nat) : (s.setSeq k x).port j = s.port j := rfl
@[simp] theorem setSeq_drive (k : Nat) (x : Seq) (j : Nat) : (s.setSeq k x).drive j = s.drive j := rfl
@[simp] theorem setSeq_ring (k : Nat) (x : Seq) (j : Nat) : (s.setSeq k x).ring j = s.ring j := rfl
@[simp] theorem setSeq_conduit (k : Nat) (x : Seq) (j : Nat) : (s.setSeq k x).conduit j = s.conduit j := rfl
@[simp] theorem setSeq_chart (k : Nat) (x : Seq) (j : Nat) : (s.setSeq k x).chart j = s.chart j := rfl
@[simp] theorem setSeq_charge (k : Nat) (x : Seq) (j : Nat) : (s.setSeq k x).charge j = s.charge j := rfl
@[simp] theorem setSeq_weight (k : Nat) (x : Seq) (j : Nat) : (s.setSeq k x).weight j = s.weight j := rfl
@[simp] theorem setSeq_source (k : Nat) (x : Seq) (j : Nat) : (s.setSeq k x).source j = s.source j := rfl
@[simp] theorem setSeq_obj (k : Nat) (x : Seq) (j : Nat) : (s.setSeq k x).obj j = s.obj j := rfl
@[simp] theorem setSeq_steward (k : Nat) (x : Seq) (j : Nat) : (s.setSeq k x).steward j = s.steward j := rfl
@[simp] theorem setSeq_jobSlot (k : Nat) (x : Seq) (j : Nat) : (s.setSeq k x).jobSlot j = s.jobSlot j := rfl

/-! setXfer changes woa. -/
@[simp] theorem setXfer_pending (k : Nat) (x : Xfer) : (s.setXfer k x).pending = s.pending := rfl
@[simp] theorem setXfer_freeCtr (k : Nat) (x : Xfer) : (s.setXfer k x).freeCtr = s.freeCtr := rfl
@[simp] theorem setXfer_time (k : Nat) (x : Xfer) : (s.setXfer k x).time = s.time := rfl
@[simp] theorem setXfer_pkg (k : Nat) (x : Xfer) : (s.setXfer k x).pkg = s.pkg := rfl
@[simp] theorem setXfer_start (k : Nat) (x : Xfer) : (s.setXfer k x).start = s.start := rfl
@[simp] theorem setXfer_regs (k : Nat) (x : Xfer) : (s.setXfer k x).regs = s.regs := rfl
@[simp] theorem setXfer_polders (k : Nat) (x : Xfer) : (s.setXfer k x).polders = s.polders := rfl
@[simp] theorem setXfer_mem (k : Nat) (x : Xfer) : (s.setXfer k x).mem = s.mem := rfl
@[simp] theorem setXfer_sideband (k : Nat) (x : Xfer) : (s.setXfer k x).sideband = s.sideband := rfl
@[simp] theorem setXfer_frames (k : Nat) (x : Xfer) : (s.setXfer k x).frames = s.frames := rfl
@[simp] theorem setXfer_retired (k : Nat) (x : Xfer) : (s.setXfer k x).retired = s.retired := rfl
@[simp] theorem setXfer_seqs (k : Nat) (x : Xfer) : (s.setXfer k x).seqs = s.seqs := rfl
@[simp] theorem setXfer_sweep (k : Nat) (x : Xfer) : (s.setXfer k x).sweep = s.sweep := rfl
@[simp] theorem setXfer_moveFails (k : Nat) (x : Xfer) : (s.setXfer k x).moveFails = s.moveFails := rfl
@[simp] theorem setXfer_lostSeqs (k : Nat) (x : Xfer) : (s.setXfer k x).lostSeqs = s.lostSeqs := rfl
@[simp] theorem setXfer_lostHere (k : Nat) (x : Xfer) : (s.setXfer k x).lostHere = s.lostHere := rfl
@[simp] theorem setXfer_orphans (k : Nat) (x : Xfer) : (s.setXfer k x).orphans = s.orphans := rfl
@[simp] theorem setXfer_reqs (k : Nat) (x : Xfer) : (s.setXfer k x).reqs = s.reqs := rfl
@[simp] theorem setXfer_gens (k : Nat) (x : Xfer) : (s.setXfer k x).gens = s.gens := rfl
@[simp] theorem setXfer_orderCtr (k : Nat) (x : Xfer) : (s.setXfer k x).orderCtr = s.orderCtr := rfl
@[simp] theorem setXfer_kept (k : Nat) (x : Xfer) : (s.setXfer k x).kept = s.kept := rfl
@[simp] theorem setXfer_tombs (k : Nat) (x : Xfer) : (s.setXfer k x).tombs = s.tombs := rfl
@[simp] theorem setXfer_holds (k : Nat) (x : Xfer) : (s.setXfer k x).holds = s.holds := rfl
@[simp] theorem setXfer_bodies (k : Nat) (x : Xfer) : (s.setXfer k x).bodies = s.bodies := rfl
@[simp] theorem setXfer_bodyHeld (k : Nat) (x : Xfer) : (s.setXfer k x).bodyHeld = s.bodyHeld := rfl
@[simp] theorem setXfer_weights (k : Nat) (x : Xfer) : (s.setXfer k x).weights = s.weights := rfl
@[simp] theorem setXfer_charges (k : Nat) (x : Xfer) : (s.setXfer k x).charges = s.charges := rfl
@[simp] theorem setXfer_drives (k : Nat) (x : Xfer) : (s.setXfer k x).drives = s.drives := rfl
@[simp] theorem setXfer_ports (k : Nat) (x : Xfer) : (s.setXfer k x).ports = s.ports := rfl
@[simp] theorem setXfer_routes0 (k : Nat) (x : Xfer) : (s.setXfer k x).routes0 = s.routes0 := rfl
@[simp] theorem setXfer_routes1 (k : Nat) (x : Xfer) : (s.setXfer k x).routes1 = s.routes1 := rfl
@[simp] theorem setXfer_bank (k : Nat) (x : Xfer) : (s.setXfer k x).bank = s.bank := rfl
@[simp] theorem setXfer_routed (k : Nat) (x : Xfer) : (s.setXfer k x).routed = s.routed := rfl
@[simp] theorem setXfer_downMarks (k : Nat) (x : Xfer) : (s.setXfer k x).downMarks = s.downMarks := rfl
@[simp] theorem setXfer_downSent (k : Nat) (x : Xfer) : (s.setXfer k x).downSent = s.downSent := rfl
@[simp] theorem setXfer_contexts (k : Nat) (x : Xfer) : (s.setXfer k x).contexts = s.contexts := rfl
@[simp] theorem setXfer_conduits (k : Nat) (x : Xfer) : (s.setXfer k x).conduits = s.conduits := rfl
@[simp] theorem setXfer_stage (k : Nat) (x : Xfer) : (s.setXfer k x).stage = s.stage := rfl
@[simp] theorem setXfer_miss (k : Nat) (x : Xfer) : (s.setXfer k x).miss = s.miss := rfl
@[simp] theorem setXfer_charts (k : Nat) (x : Xfer) : (s.setXfer k x).charts = s.charts := rfl
@[simp] theorem setXfer_sched (k : Nat) (x : Xfer) : (s.setXfer k x).sched = s.sched := rfl
@[simp] theorem setXfer_pair (k : Nat) (x : Xfer) : (s.setXfer k x).pair = s.pair := rfl
@[simp] theorem setXfer_fence (k : Nat) (x : Xfer) : (s.setXfer k x).fence = s.fence := rfl
@[simp] theorem setXfer_log (k : Nat) (x : Xfer) : (s.setXfer k x).log = s.log := rfl
@[simp] theorem setXfer_tempo (k : Nat) (x : Xfer) : (s.setXfer k x).tempo = s.tempo := rfl
@[simp] theorem setXfer_power (k : Nat) (x : Xfer) : (s.setXfer k x).power = s.power := rfl
@[simp] theorem setXfer_tiles (k : Nat) (x : Xfer) : (s.setXfer k x).tiles = s.tiles := rfl
@[simp] theorem setXfer_thermal (k : Nat) (x : Xfer) : (s.setXfer k x).thermal = s.thermal := rfl
@[simp] theorem setXfer_ptp (k : Nat) (x : Xfer) : (s.setXfer k x).ptp = s.ptp := rfl
@[simp] theorem setXfer_sec (k : Nat) (x : Xfer) : (s.setXfer k x).sec = s.sec := rfl
@[simp] theorem setXfer_meter (k : Nat) (x : Xfer) : (s.setXfer k x).meter = s.meter := rfl
@[simp] theorem setXfer_gauge (k : Nat) (x : Xfer) : (s.setXfer k x).gauge = s.gauge := rfl
@[simp] theorem setXfer_gath (k : Nat) (x : Xfer) : (s.setXfer k x).gath = s.gath := rfl
@[simp] theorem setXfer_rings (k : Nat) (x : Xfer) : (s.setXfer k x).rings = s.rings := rfl
@[simp] theorem setXfer_host (k : Nat) (x : Xfer) : (s.setXfer k x).host = s.host := rfl
@[simp] theorem setXfer_out (k : Nat) (x : Xfer) : (s.setXfer k x).out = s.out := rfl
@[simp] theorem setXfer_polder (k : Nat) (x : Xfer) (j : Nat) : (s.setXfer k x).polder j = s.polder j := rfl
@[simp] theorem setXfer_port (k : Nat) (x : Xfer) (j : Nat) : (s.setXfer k x).port j = s.port j := rfl
@[simp] theorem setXfer_drive (k : Nat) (x : Xfer) (j : Nat) : (s.setXfer k x).drive j = s.drive j := rfl
@[simp] theorem setXfer_ring (k : Nat) (x : Xfer) (j : Nat) : (s.setXfer k x).ring j = s.ring j := rfl
@[simp] theorem setXfer_conduit (k : Nat) (x : Xfer) (j : Nat) : (s.setXfer k x).conduit j = s.conduit j := rfl
@[simp] theorem setXfer_chart (k : Nat) (x : Xfer) (j : Nat) : (s.setXfer k x).chart j = s.chart j := rfl
@[simp] theorem setXfer_charge (k : Nat) (x : Xfer) (j : Nat) : (s.setXfer k x).charge j = s.charge j := rfl
@[simp] theorem setXfer_weight (k : Nat) (x : Xfer) (j : Nat) : (s.setXfer k x).weight j = s.weight j := rfl
@[simp] theorem setXfer_source (k : Nat) (x : Xfer) (j : Nat) : (s.setXfer k x).source j = s.source j := rfl
@[simp] theorem setXfer_obj (k : Nat) (x : Xfer) (j : Nat) : (s.setXfer k x).obj j = s.obj j := rfl
@[simp] theorem setXfer_steward (k : Nat) (x : Xfer) (j : Nat) : (s.setXfer k x).steward j = s.steward j := rfl
@[simp] theorem setXfer_jobSlot (k : Nat) (x : Xfer) (j : Nat) : (s.setXfer k x).jobSlot j = s.jobSlot j := rfl

/-! setStage changes stage. -/
@[simp] theorem setStage_pending (c : Nat) (x : Stage) : (s.setStage c x).pending = s.pending := rfl
@[simp] theorem setStage_freeCtr (c : Nat) (x : Stage) : (s.setStage c x).freeCtr = s.freeCtr := rfl
@[simp] theorem setStage_time (c : Nat) (x : Stage) : (s.setStage c x).time = s.time := rfl
@[simp] theorem setStage_pkg (c : Nat) (x : Stage) : (s.setStage c x).pkg = s.pkg := rfl
@[simp] theorem setStage_start (c : Nat) (x : Stage) : (s.setStage c x).start = s.start := rfl
@[simp] theorem setStage_regs (c : Nat) (x : Stage) : (s.setStage c x).regs = s.regs := rfl
@[simp] theorem setStage_polders (c : Nat) (x : Stage) : (s.setStage c x).polders = s.polders := rfl
@[simp] theorem setStage_mem (c : Nat) (x : Stage) : (s.setStage c x).mem = s.mem := rfl
@[simp] theorem setStage_sideband (c : Nat) (x : Stage) : (s.setStage c x).sideband = s.sideband := rfl
@[simp] theorem setStage_frames (c : Nat) (x : Stage) : (s.setStage c x).frames = s.frames := rfl
@[simp] theorem setStage_retired (c : Nat) (x : Stage) : (s.setStage c x).retired = s.retired := rfl
@[simp] theorem setStage_seqs (c : Nat) (x : Stage) : (s.setStage c x).seqs = s.seqs := rfl
@[simp] theorem setStage_sweep (c : Nat) (x : Stage) : (s.setStage c x).sweep = s.sweep := rfl
@[simp] theorem setStage_moveFails (c : Nat) (x : Stage) : (s.setStage c x).moveFails = s.moveFails := rfl
@[simp] theorem setStage_lostSeqs (c : Nat) (x : Stage) : (s.setStage c x).lostSeqs = s.lostSeqs := rfl
@[simp] theorem setStage_lostHere (c : Nat) (x : Stage) : (s.setStage c x).lostHere = s.lostHere := rfl
@[simp] theorem setStage_orphans (c : Nat) (x : Stage) : (s.setStage c x).orphans = s.orphans := rfl
@[simp] theorem setStage_reqs (c : Nat) (x : Stage) : (s.setStage c x).reqs = s.reqs := rfl
@[simp] theorem setStage_gens (c : Nat) (x : Stage) : (s.setStage c x).gens = s.gens := rfl
@[simp] theorem setStage_orderCtr (c : Nat) (x : Stage) : (s.setStage c x).orderCtr = s.orderCtr := rfl
@[simp] theorem setStage_kept (c : Nat) (x : Stage) : (s.setStage c x).kept = s.kept := rfl
@[simp] theorem setStage_tombs (c : Nat) (x : Stage) : (s.setStage c x).tombs = s.tombs := rfl
@[simp] theorem setStage_holds (c : Nat) (x : Stage) : (s.setStage c x).holds = s.holds := rfl
@[simp] theorem setStage_bodies (c : Nat) (x : Stage) : (s.setStage c x).bodies = s.bodies := rfl
@[simp] theorem setStage_bodyHeld (c : Nat) (x : Stage) : (s.setStage c x).bodyHeld = s.bodyHeld := rfl
@[simp] theorem setStage_weights (c : Nat) (x : Stage) : (s.setStage c x).weights = s.weights := rfl
@[simp] theorem setStage_charges (c : Nat) (x : Stage) : (s.setStage c x).charges = s.charges := rfl
@[simp] theorem setStage_drives (c : Nat) (x : Stage) : (s.setStage c x).drives = s.drives := rfl
@[simp] theorem setStage_ports (c : Nat) (x : Stage) : (s.setStage c x).ports = s.ports := rfl
@[simp] theorem setStage_routes0 (c : Nat) (x : Stage) : (s.setStage c x).routes0 = s.routes0 := rfl
@[simp] theorem setStage_routes1 (c : Nat) (x : Stage) : (s.setStage c x).routes1 = s.routes1 := rfl
@[simp] theorem setStage_bank (c : Nat) (x : Stage) : (s.setStage c x).bank = s.bank := rfl
@[simp] theorem setStage_routed (c : Nat) (x : Stage) : (s.setStage c x).routed = s.routed := rfl
@[simp] theorem setStage_downMarks (c : Nat) (x : Stage) : (s.setStage c x).downMarks = s.downMarks := rfl
@[simp] theorem setStage_downSent (c : Nat) (x : Stage) : (s.setStage c x).downSent = s.downSent := rfl
@[simp] theorem setStage_contexts (c : Nat) (x : Stage) : (s.setStage c x).contexts = s.contexts := rfl
@[simp] theorem setStage_conduits (c : Nat) (x : Stage) : (s.setStage c x).conduits = s.conduits := rfl
@[simp] theorem setStage_miss (c : Nat) (x : Stage) : (s.setStage c x).miss = s.miss := rfl
@[simp] theorem setStage_charts (c : Nat) (x : Stage) : (s.setStage c x).charts = s.charts := rfl
@[simp] theorem setStage_sched (c : Nat) (x : Stage) : (s.setStage c x).sched = s.sched := rfl
@[simp] theorem setStage_pair (c : Nat) (x : Stage) : (s.setStage c x).pair = s.pair := rfl
@[simp] theorem setStage_fence (c : Nat) (x : Stage) : (s.setStage c x).fence = s.fence := rfl
@[simp] theorem setStage_log (c : Nat) (x : Stage) : (s.setStage c x).log = s.log := rfl
@[simp] theorem setStage_tempo (c : Nat) (x : Stage) : (s.setStage c x).tempo = s.tempo := rfl
@[simp] theorem setStage_power (c : Nat) (x : Stage) : (s.setStage c x).power = s.power := rfl
@[simp] theorem setStage_tiles (c : Nat) (x : Stage) : (s.setStage c x).tiles = s.tiles := rfl
@[simp] theorem setStage_thermal (c : Nat) (x : Stage) : (s.setStage c x).thermal = s.thermal := rfl
@[simp] theorem setStage_ptp (c : Nat) (x : Stage) : (s.setStage c x).ptp = s.ptp := rfl
@[simp] theorem setStage_sec (c : Nat) (x : Stage) : (s.setStage c x).sec = s.sec := rfl
@[simp] theorem setStage_meter (c : Nat) (x : Stage) : (s.setStage c x).meter = s.meter := rfl
@[simp] theorem setStage_gauge (c : Nat) (x : Stage) : (s.setStage c x).gauge = s.gauge := rfl
@[simp] theorem setStage_woa (c : Nat) (x : Stage) : (s.setStage c x).woa = s.woa := rfl
@[simp] theorem setStage_gath (c : Nat) (x : Stage) : (s.setStage c x).gath = s.gath := rfl
@[simp] theorem setStage_rings (c : Nat) (x : Stage) : (s.setStage c x).rings = s.rings := rfl
@[simp] theorem setStage_host (c : Nat) (x : Stage) : (s.setStage c x).host = s.host := rfl
@[simp] theorem setStage_out (c : Nat) (x : Stage) : (s.setStage c x).out = s.out := rfl
@[simp] theorem setStage_polder (c : Nat) (x : Stage) (j : Nat) : (s.setStage c x).polder j = s.polder j := rfl
@[simp] theorem setStage_port (c : Nat) (x : Stage) (j : Nat) : (s.setStage c x).port j = s.port j := rfl
@[simp] theorem setStage_drive (c : Nat) (x : Stage) (j : Nat) : (s.setStage c x).drive j = s.drive j := rfl
@[simp] theorem setStage_ring (c : Nat) (x : Stage) (j : Nat) : (s.setStage c x).ring j = s.ring j := rfl
@[simp] theorem setStage_conduit (c : Nat) (x : Stage) (j : Nat) : (s.setStage c x).conduit j = s.conduit j := rfl
@[simp] theorem setStage_chart (c : Nat) (x : Stage) (j : Nat) : (s.setStage c x).chart j = s.chart j := rfl
@[simp] theorem setStage_charge (c : Nat) (x : Stage) (j : Nat) : (s.setStage c x).charge j = s.charge j := rfl
@[simp] theorem setStage_weight (c : Nat) (x : Stage) (j : Nat) : (s.setStage c x).weight j = s.weight j := rfl
@[simp] theorem setStage_source (c : Nat) (x : Stage) (j : Nat) : (s.setStage c x).source j = s.source j := rfl
@[simp] theorem setStage_obj (c : Nat) (x : Stage) (j : Nat) : (s.setStage c x).obj j = s.obj j := rfl
@[simp] theorem setStage_steward (c : Nat) (x : Stage) (j : Nat) : (s.setStage c x).steward j = s.steward j := rfl
@[simp] theorem setStage_jobSlot (c : Nat) (x : Stage) (j : Nat) : (s.setStage c x).jobSlot j = s.jobSlot j := rfl

/-! setArea changes host. -/
@[simp] theorem setArea_pending (c : Bool) (x : Area) : (s.setArea c x).pending = s.pending := rfl
@[simp] theorem setArea_freeCtr (c : Bool) (x : Area) : (s.setArea c x).freeCtr = s.freeCtr := rfl
@[simp] theorem setArea_time (c : Bool) (x : Area) : (s.setArea c x).time = s.time := rfl
@[simp] theorem setArea_pkg (c : Bool) (x : Area) : (s.setArea c x).pkg = s.pkg := rfl
@[simp] theorem setArea_start (c : Bool) (x : Area) : (s.setArea c x).start = s.start := rfl
@[simp] theorem setArea_regs (c : Bool) (x : Area) : (s.setArea c x).regs = s.regs := rfl
@[simp] theorem setArea_polders (c : Bool) (x : Area) : (s.setArea c x).polders = s.polders := rfl
@[simp] theorem setArea_mem (c : Bool) (x : Area) : (s.setArea c x).mem = s.mem := rfl
@[simp] theorem setArea_sideband (c : Bool) (x : Area) : (s.setArea c x).sideband = s.sideband := rfl
@[simp] theorem setArea_frames (c : Bool) (x : Area) : (s.setArea c x).frames = s.frames := rfl
@[simp] theorem setArea_retired (c : Bool) (x : Area) : (s.setArea c x).retired = s.retired := rfl
@[simp] theorem setArea_seqs (c : Bool) (x : Area) : (s.setArea c x).seqs = s.seqs := rfl
@[simp] theorem setArea_sweep (c : Bool) (x : Area) : (s.setArea c x).sweep = s.sweep := rfl
@[simp] theorem setArea_moveFails (c : Bool) (x : Area) : (s.setArea c x).moveFails = s.moveFails := rfl
@[simp] theorem setArea_lostSeqs (c : Bool) (x : Area) : (s.setArea c x).lostSeqs = s.lostSeqs := rfl
@[simp] theorem setArea_lostHere (c : Bool) (x : Area) : (s.setArea c x).lostHere = s.lostHere := rfl
@[simp] theorem setArea_orphans (c : Bool) (x : Area) : (s.setArea c x).orphans = s.orphans := rfl
@[simp] theorem setArea_reqs (c : Bool) (x : Area) : (s.setArea c x).reqs = s.reqs := rfl
@[simp] theorem setArea_gens (c : Bool) (x : Area) : (s.setArea c x).gens = s.gens := rfl
@[simp] theorem setArea_orderCtr (c : Bool) (x : Area) : (s.setArea c x).orderCtr = s.orderCtr := rfl
@[simp] theorem setArea_kept (c : Bool) (x : Area) : (s.setArea c x).kept = s.kept := rfl
@[simp] theorem setArea_tombs (c : Bool) (x : Area) : (s.setArea c x).tombs = s.tombs := rfl
@[simp] theorem setArea_holds (c : Bool) (x : Area) : (s.setArea c x).holds = s.holds := rfl
@[simp] theorem setArea_bodies (c : Bool) (x : Area) : (s.setArea c x).bodies = s.bodies := rfl
@[simp] theorem setArea_bodyHeld (c : Bool) (x : Area) : (s.setArea c x).bodyHeld = s.bodyHeld := rfl
@[simp] theorem setArea_weights (c : Bool) (x : Area) : (s.setArea c x).weights = s.weights := rfl
@[simp] theorem setArea_charges (c : Bool) (x : Area) : (s.setArea c x).charges = s.charges := rfl
@[simp] theorem setArea_drives (c : Bool) (x : Area) : (s.setArea c x).drives = s.drives := rfl
@[simp] theorem setArea_ports (c : Bool) (x : Area) : (s.setArea c x).ports = s.ports := rfl
@[simp] theorem setArea_routes0 (c : Bool) (x : Area) : (s.setArea c x).routes0 = s.routes0 := rfl
@[simp] theorem setArea_routes1 (c : Bool) (x : Area) : (s.setArea c x).routes1 = s.routes1 := rfl
@[simp] theorem setArea_bank (c : Bool) (x : Area) : (s.setArea c x).bank = s.bank := rfl
@[simp] theorem setArea_routed (c : Bool) (x : Area) : (s.setArea c x).routed = s.routed := rfl
@[simp] theorem setArea_downMarks (c : Bool) (x : Area) : (s.setArea c x).downMarks = s.downMarks := rfl
@[simp] theorem setArea_downSent (c : Bool) (x : Area) : (s.setArea c x).downSent = s.downSent := rfl
@[simp] theorem setArea_contexts (c : Bool) (x : Area) : (s.setArea c x).contexts = s.contexts := rfl
@[simp] theorem setArea_conduits (c : Bool) (x : Area) : (s.setArea c x).conduits = s.conduits := rfl
@[simp] theorem setArea_stage (c : Bool) (x : Area) : (s.setArea c x).stage = s.stage := rfl
@[simp] theorem setArea_miss (c : Bool) (x : Area) : (s.setArea c x).miss = s.miss := rfl
@[simp] theorem setArea_charts (c : Bool) (x : Area) : (s.setArea c x).charts = s.charts := rfl
@[simp] theorem setArea_sched (c : Bool) (x : Area) : (s.setArea c x).sched = s.sched := rfl
@[simp] theorem setArea_pair (c : Bool) (x : Area) : (s.setArea c x).pair = s.pair := rfl
@[simp] theorem setArea_fence (c : Bool) (x : Area) : (s.setArea c x).fence = s.fence := rfl
@[simp] theorem setArea_log (c : Bool) (x : Area) : (s.setArea c x).log = s.log := rfl
@[simp] theorem setArea_tempo (c : Bool) (x : Area) : (s.setArea c x).tempo = s.tempo := rfl
@[simp] theorem setArea_power (c : Bool) (x : Area) : (s.setArea c x).power = s.power := rfl
@[simp] theorem setArea_tiles (c : Bool) (x : Area) : (s.setArea c x).tiles = s.tiles := rfl
@[simp] theorem setArea_thermal (c : Bool) (x : Area) : (s.setArea c x).thermal = s.thermal := rfl
@[simp] theorem setArea_ptp (c : Bool) (x : Area) : (s.setArea c x).ptp = s.ptp := rfl
@[simp] theorem setArea_sec (c : Bool) (x : Area) : (s.setArea c x).sec = s.sec := rfl
@[simp] theorem setArea_meter (c : Bool) (x : Area) : (s.setArea c x).meter = s.meter := rfl
@[simp] theorem setArea_gauge (c : Bool) (x : Area) : (s.setArea c x).gauge = s.gauge := rfl
@[simp] theorem setArea_woa (c : Bool) (x : Area) : (s.setArea c x).woa = s.woa := rfl
@[simp] theorem setArea_gath (c : Bool) (x : Area) : (s.setArea c x).gath = s.gath := rfl
@[simp] theorem setArea_rings (c : Bool) (x : Area) : (s.setArea c x).rings = s.rings := rfl
@[simp] theorem setArea_out (c : Bool) (x : Area) : (s.setArea c x).out = s.out := rfl
@[simp] theorem setArea_polder (c : Bool) (x : Area) (j : Nat) : (s.setArea c x).polder j = s.polder j := rfl
@[simp] theorem setArea_port (c : Bool) (x : Area) (j : Nat) : (s.setArea c x).port j = s.port j := rfl
@[simp] theorem setArea_drive (c : Bool) (x : Area) (j : Nat) : (s.setArea c x).drive j = s.drive j := rfl
@[simp] theorem setArea_ring (c : Bool) (x : Area) (j : Nat) : (s.setArea c x).ring j = s.ring j := rfl
@[simp] theorem setArea_conduit (c : Bool) (x : Area) (j : Nat) : (s.setArea c x).conduit j = s.conduit j := rfl
@[simp] theorem setArea_chart (c : Bool) (x : Area) (j : Nat) : (s.setArea c x).chart j = s.chart j := rfl
@[simp] theorem setArea_charge (c : Bool) (x : Area) (j : Nat) : (s.setArea c x).charge j = s.charge j := rfl
@[simp] theorem setArea_weight (c : Bool) (x : Area) (j : Nat) : (s.setArea c x).weight j = s.weight j := rfl
@[simp] theorem setArea_source (c : Bool) (x : Area) (j : Nat) : (s.setArea c x).source j = s.source j := rfl
@[simp] theorem setArea_obj (c : Bool) (x : Area) (j : Nat) : (s.setArea c x).obj j = s.obj j := rfl
@[simp] theorem setArea_steward (c : Bool) (x : Area) (j : Nat) : (s.setArea c x).steward j = s.steward j := rfl
@[simp] theorem setArea_jobSlot (c : Bool) (x : Area) (j : Nat) : (s.setArea c x).jobSlot j = s.jobSlot j := rfl

/-! setJobSlot changes sec. -/
@[simp] theorem setJobSlot_pending (k : Nat) (x : JobSlot) : (s.setJobSlot k x).pending = s.pending := rfl
@[simp] theorem setJobSlot_freeCtr (k : Nat) (x : JobSlot) : (s.setJobSlot k x).freeCtr = s.freeCtr := rfl
@[simp] theorem setJobSlot_time (k : Nat) (x : JobSlot) : (s.setJobSlot k x).time = s.time := rfl
@[simp] theorem setJobSlot_pkg (k : Nat) (x : JobSlot) : (s.setJobSlot k x).pkg = s.pkg := rfl
@[simp] theorem setJobSlot_start (k : Nat) (x : JobSlot) : (s.setJobSlot k x).start = s.start := rfl
@[simp] theorem setJobSlot_regs (k : Nat) (x : JobSlot) : (s.setJobSlot k x).regs = s.regs := rfl
@[simp] theorem setJobSlot_polders (k : Nat) (x : JobSlot) : (s.setJobSlot k x).polders = s.polders := rfl
@[simp] theorem setJobSlot_mem (k : Nat) (x : JobSlot) : (s.setJobSlot k x).mem = s.mem := rfl
@[simp] theorem setJobSlot_sideband (k : Nat) (x : JobSlot) : (s.setJobSlot k x).sideband = s.sideband := rfl
@[simp] theorem setJobSlot_frames (k : Nat) (x : JobSlot) : (s.setJobSlot k x).frames = s.frames := rfl
@[simp] theorem setJobSlot_retired (k : Nat) (x : JobSlot) : (s.setJobSlot k x).retired = s.retired := rfl
@[simp] theorem setJobSlot_seqs (k : Nat) (x : JobSlot) : (s.setJobSlot k x).seqs = s.seqs := rfl
@[simp] theorem setJobSlot_sweep (k : Nat) (x : JobSlot) : (s.setJobSlot k x).sweep = s.sweep := rfl
@[simp] theorem setJobSlot_moveFails (k : Nat) (x : JobSlot) : (s.setJobSlot k x).moveFails = s.moveFails := rfl
@[simp] theorem setJobSlot_lostSeqs (k : Nat) (x : JobSlot) : (s.setJobSlot k x).lostSeqs = s.lostSeqs := rfl
@[simp] theorem setJobSlot_lostHere (k : Nat) (x : JobSlot) : (s.setJobSlot k x).lostHere = s.lostHere := rfl
@[simp] theorem setJobSlot_orphans (k : Nat) (x : JobSlot) : (s.setJobSlot k x).orphans = s.orphans := rfl
@[simp] theorem setJobSlot_reqs (k : Nat) (x : JobSlot) : (s.setJobSlot k x).reqs = s.reqs := rfl
@[simp] theorem setJobSlot_gens (k : Nat) (x : JobSlot) : (s.setJobSlot k x).gens = s.gens := rfl
@[simp] theorem setJobSlot_orderCtr (k : Nat) (x : JobSlot) : (s.setJobSlot k x).orderCtr = s.orderCtr := rfl
@[simp] theorem setJobSlot_kept (k : Nat) (x : JobSlot) : (s.setJobSlot k x).kept = s.kept := rfl
@[simp] theorem setJobSlot_tombs (k : Nat) (x : JobSlot) : (s.setJobSlot k x).tombs = s.tombs := rfl
@[simp] theorem setJobSlot_holds (k : Nat) (x : JobSlot) : (s.setJobSlot k x).holds = s.holds := rfl
@[simp] theorem setJobSlot_bodies (k : Nat) (x : JobSlot) : (s.setJobSlot k x).bodies = s.bodies := rfl
@[simp] theorem setJobSlot_bodyHeld (k : Nat) (x : JobSlot) : (s.setJobSlot k x).bodyHeld = s.bodyHeld := rfl
@[simp] theorem setJobSlot_weights (k : Nat) (x : JobSlot) : (s.setJobSlot k x).weights = s.weights := rfl
@[simp] theorem setJobSlot_charges (k : Nat) (x : JobSlot) : (s.setJobSlot k x).charges = s.charges := rfl
@[simp] theorem setJobSlot_drives (k : Nat) (x : JobSlot) : (s.setJobSlot k x).drives = s.drives := rfl
@[simp] theorem setJobSlot_ports (k : Nat) (x : JobSlot) : (s.setJobSlot k x).ports = s.ports := rfl
@[simp] theorem setJobSlot_routes0 (k : Nat) (x : JobSlot) : (s.setJobSlot k x).routes0 = s.routes0 := rfl
@[simp] theorem setJobSlot_routes1 (k : Nat) (x : JobSlot) : (s.setJobSlot k x).routes1 = s.routes1 := rfl
@[simp] theorem setJobSlot_bank (k : Nat) (x : JobSlot) : (s.setJobSlot k x).bank = s.bank := rfl
@[simp] theorem setJobSlot_routed (k : Nat) (x : JobSlot) : (s.setJobSlot k x).routed = s.routed := rfl
@[simp] theorem setJobSlot_downMarks (k : Nat) (x : JobSlot) : (s.setJobSlot k x).downMarks = s.downMarks := rfl
@[simp] theorem setJobSlot_downSent (k : Nat) (x : JobSlot) : (s.setJobSlot k x).downSent = s.downSent := rfl
@[simp] theorem setJobSlot_contexts (k : Nat) (x : JobSlot) : (s.setJobSlot k x).contexts = s.contexts := rfl
@[simp] theorem setJobSlot_conduits (k : Nat) (x : JobSlot) : (s.setJobSlot k x).conduits = s.conduits := rfl
@[simp] theorem setJobSlot_stage (k : Nat) (x : JobSlot) : (s.setJobSlot k x).stage = s.stage := rfl
@[simp] theorem setJobSlot_miss (k : Nat) (x : JobSlot) : (s.setJobSlot k x).miss = s.miss := rfl
@[simp] theorem setJobSlot_charts (k : Nat) (x : JobSlot) : (s.setJobSlot k x).charts = s.charts := rfl
@[simp] theorem setJobSlot_sched (k : Nat) (x : JobSlot) : (s.setJobSlot k x).sched = s.sched := rfl
@[simp] theorem setJobSlot_pair (k : Nat) (x : JobSlot) : (s.setJobSlot k x).pair = s.pair := rfl
@[simp] theorem setJobSlot_fence (k : Nat) (x : JobSlot) : (s.setJobSlot k x).fence = s.fence := rfl
@[simp] theorem setJobSlot_log (k : Nat) (x : JobSlot) : (s.setJobSlot k x).log = s.log := rfl
@[simp] theorem setJobSlot_tempo (k : Nat) (x : JobSlot) : (s.setJobSlot k x).tempo = s.tempo := rfl
@[simp] theorem setJobSlot_power (k : Nat) (x : JobSlot) : (s.setJobSlot k x).power = s.power := rfl
@[simp] theorem setJobSlot_tiles (k : Nat) (x : JobSlot) : (s.setJobSlot k x).tiles = s.tiles := rfl
@[simp] theorem setJobSlot_thermal (k : Nat) (x : JobSlot) : (s.setJobSlot k x).thermal = s.thermal := rfl
@[simp] theorem setJobSlot_ptp (k : Nat) (x : JobSlot) : (s.setJobSlot k x).ptp = s.ptp := rfl
@[simp] theorem setJobSlot_meter (k : Nat) (x : JobSlot) : (s.setJobSlot k x).meter = s.meter := rfl
@[simp] theorem setJobSlot_gauge (k : Nat) (x : JobSlot) : (s.setJobSlot k x).gauge = s.gauge := rfl
@[simp] theorem setJobSlot_woa (k : Nat) (x : JobSlot) : (s.setJobSlot k x).woa = s.woa := rfl
@[simp] theorem setJobSlot_gath (k : Nat) (x : JobSlot) : (s.setJobSlot k x).gath = s.gath := rfl
@[simp] theorem setJobSlot_rings (k : Nat) (x : JobSlot) : (s.setJobSlot k x).rings = s.rings := rfl
@[simp] theorem setJobSlot_host (k : Nat) (x : JobSlot) : (s.setJobSlot k x).host = s.host := rfl
@[simp] theorem setJobSlot_out (k : Nat) (x : JobSlot) : (s.setJobSlot k x).out = s.out := rfl
@[simp] theorem setJobSlot_polder (k : Nat) (x : JobSlot) (j : Nat) : (s.setJobSlot k x).polder j = s.polder j := rfl
@[simp] theorem setJobSlot_port (k : Nat) (x : JobSlot) (j : Nat) : (s.setJobSlot k x).port j = s.port j := rfl
@[simp] theorem setJobSlot_drive (k : Nat) (x : JobSlot) (j : Nat) : (s.setJobSlot k x).drive j = s.drive j := rfl
@[simp] theorem setJobSlot_ring (k : Nat) (x : JobSlot) (j : Nat) : (s.setJobSlot k x).ring j = s.ring j := rfl
@[simp] theorem setJobSlot_conduit (k : Nat) (x : JobSlot) (j : Nat) : (s.setJobSlot k x).conduit j = s.conduit j := rfl
@[simp] theorem setJobSlot_chart (k : Nat) (x : JobSlot) (j : Nat) : (s.setJobSlot k x).chart j = s.chart j := rfl
@[simp] theorem setJobSlot_charge (k : Nat) (x : JobSlot) (j : Nat) : (s.setJobSlot k x).charge j = s.charge j := rfl
@[simp] theorem setJobSlot_weight (k : Nat) (x : JobSlot) (j : Nat) : (s.setJobSlot k x).weight j = s.weight j := rfl
@[simp] theorem setJobSlot_source (k : Nat) (x : JobSlot) (j : Nat) : (s.setJobSlot k x).source j = s.source j := rfl
@[simp] theorem setJobSlot_obj (k : Nat) (x : JobSlot) (j : Nat) : (s.setJobSlot k x).obj j = s.obj j := rfl
@[simp] theorem setJobSlot_steward (k : Nat) (x : JobSlot) (j : Nat) : (s.setJobSlot k x).steward j = s.steward j := rfl

/-! setObj changes regs. -/
@[simp] theorem setObj_pending (k v : Nat) : (s.setObj k v).pending = s.pending := rfl
@[simp] theorem setObj_freeCtr (k v : Nat) : (s.setObj k v).freeCtr = s.freeCtr := rfl
@[simp] theorem setObj_time (k v : Nat) : (s.setObj k v).time = s.time := rfl
@[simp] theorem setObj_pkg (k v : Nat) : (s.setObj k v).pkg = s.pkg := rfl
@[simp] theorem setObj_start (k v : Nat) : (s.setObj k v).start = s.start := rfl
@[simp] theorem setObj_polders (k v : Nat) : (s.setObj k v).polders = s.polders := rfl
@[simp] theorem setObj_mem (k v : Nat) : (s.setObj k v).mem = s.mem := rfl
@[simp] theorem setObj_sideband (k v : Nat) : (s.setObj k v).sideband = s.sideband := rfl
@[simp] theorem setObj_frames (k v : Nat) : (s.setObj k v).frames = s.frames := rfl
@[simp] theorem setObj_retired (k v : Nat) : (s.setObj k v).retired = s.retired := rfl
@[simp] theorem setObj_seqs (k v : Nat) : (s.setObj k v).seqs = s.seqs := rfl
@[simp] theorem setObj_sweep (k v : Nat) : (s.setObj k v).sweep = s.sweep := rfl
@[simp] theorem setObj_moveFails (k v : Nat) : (s.setObj k v).moveFails = s.moveFails := rfl
@[simp] theorem setObj_lostSeqs (k v : Nat) : (s.setObj k v).lostSeqs = s.lostSeqs := rfl
@[simp] theorem setObj_lostHere (k v : Nat) : (s.setObj k v).lostHere = s.lostHere := rfl
@[simp] theorem setObj_orphans (k v : Nat) : (s.setObj k v).orphans = s.orphans := rfl
@[simp] theorem setObj_reqs (k v : Nat) : (s.setObj k v).reqs = s.reqs := rfl
@[simp] theorem setObj_gens (k v : Nat) : (s.setObj k v).gens = s.gens := rfl
@[simp] theorem setObj_orderCtr (k v : Nat) : (s.setObj k v).orderCtr = s.orderCtr := rfl
@[simp] theorem setObj_kept (k v : Nat) : (s.setObj k v).kept = s.kept := rfl
@[simp] theorem setObj_tombs (k v : Nat) : (s.setObj k v).tombs = s.tombs := rfl
@[simp] theorem setObj_holds (k v : Nat) : (s.setObj k v).holds = s.holds := rfl
@[simp] theorem setObj_bodies (k v : Nat) : (s.setObj k v).bodies = s.bodies := rfl
@[simp] theorem setObj_bodyHeld (k v : Nat) : (s.setObj k v).bodyHeld = s.bodyHeld := rfl
@[simp] theorem setObj_weights (k v : Nat) : (s.setObj k v).weights = s.weights := rfl
@[simp] theorem setObj_charges (k v : Nat) : (s.setObj k v).charges = s.charges := rfl
@[simp] theorem setObj_drives (k v : Nat) : (s.setObj k v).drives = s.drives := rfl
@[simp] theorem setObj_ports (k v : Nat) : (s.setObj k v).ports = s.ports := rfl
@[simp] theorem setObj_routes0 (k v : Nat) : (s.setObj k v).routes0 = s.routes0 := rfl
@[simp] theorem setObj_routes1 (k v : Nat) : (s.setObj k v).routes1 = s.routes1 := rfl
@[simp] theorem setObj_bank (k v : Nat) : (s.setObj k v).bank = s.bank := rfl
@[simp] theorem setObj_routed (k v : Nat) : (s.setObj k v).routed = s.routed := rfl
@[simp] theorem setObj_downMarks (k v : Nat) : (s.setObj k v).downMarks = s.downMarks := rfl
@[simp] theorem setObj_downSent (k v : Nat) : (s.setObj k v).downSent = s.downSent := rfl
@[simp] theorem setObj_contexts (k v : Nat) : (s.setObj k v).contexts = s.contexts := rfl
@[simp] theorem setObj_conduits (k v : Nat) : (s.setObj k v).conduits = s.conduits := rfl
@[simp] theorem setObj_stage (k v : Nat) : (s.setObj k v).stage = s.stage := rfl
@[simp] theorem setObj_miss (k v : Nat) : (s.setObj k v).miss = s.miss := rfl
@[simp] theorem setObj_charts (k v : Nat) : (s.setObj k v).charts = s.charts := rfl
@[simp] theorem setObj_sched (k v : Nat) : (s.setObj k v).sched = s.sched := rfl
@[simp] theorem setObj_pair (k v : Nat) : (s.setObj k v).pair = s.pair := rfl
@[simp] theorem setObj_fence (k v : Nat) : (s.setObj k v).fence = s.fence := rfl
@[simp] theorem setObj_log (k v : Nat) : (s.setObj k v).log = s.log := rfl
@[simp] theorem setObj_tempo (k v : Nat) : (s.setObj k v).tempo = s.tempo := rfl
@[simp] theorem setObj_power (k v : Nat) : (s.setObj k v).power = s.power := rfl
@[simp] theorem setObj_tiles (k v : Nat) : (s.setObj k v).tiles = s.tiles := rfl
@[simp] theorem setObj_thermal (k v : Nat) : (s.setObj k v).thermal = s.thermal := rfl
@[simp] theorem setObj_ptp (k v : Nat) : (s.setObj k v).ptp = s.ptp := rfl
@[simp] theorem setObj_sec (k v : Nat) : (s.setObj k v).sec = s.sec := rfl
@[simp] theorem setObj_meter (k v : Nat) : (s.setObj k v).meter = s.meter := rfl
@[simp] theorem setObj_gauge (k v : Nat) : (s.setObj k v).gauge = s.gauge := rfl
@[simp] theorem setObj_woa (k v : Nat) : (s.setObj k v).woa = s.woa := rfl
@[simp] theorem setObj_gath (k v : Nat) : (s.setObj k v).gath = s.gath := rfl
@[simp] theorem setObj_rings (k v : Nat) : (s.setObj k v).rings = s.rings := rfl
@[simp] theorem setObj_host (k v : Nat) : (s.setObj k v).host = s.host := rfl
@[simp] theorem setObj_out (k v : Nat) : (s.setObj k v).out = s.out := rfl
@[simp] theorem setObj_polder (k v : Nat) (j : Nat) : (s.setObj k v).polder j = s.polder j := rfl
@[simp] theorem setObj_port (k v : Nat) (j : Nat) : (s.setObj k v).port j = s.port j := rfl
@[simp] theorem setObj_drive (k v : Nat) (j : Nat) : (s.setObj k v).drive j = s.drive j := rfl
@[simp] theorem setObj_ring (k v : Nat) (j : Nat) : (s.setObj k v).ring j = s.ring j := rfl
@[simp] theorem setObj_conduit (k v : Nat) (j : Nat) : (s.setObj k v).conduit j = s.conduit j := rfl
@[simp] theorem setObj_chart (k v : Nat) (j : Nat) : (s.setObj k v).chart j = s.chart j := rfl
@[simp] theorem setObj_charge (k v : Nat) (j : Nat) : (s.setObj k v).charge j = s.charge j := rfl
@[simp] theorem setObj_weight (k v : Nat) (j : Nat) : (s.setObj k v).weight j = s.weight j := rfl
@[simp] theorem setObj_source (k v : Nat) (j : Nat) : (s.setObj k v).source j = s.source j := rfl
@[simp] theorem setObj_steward (k v : Nat) (j : Nat) : (s.setObj k v).steward j = s.steward j := rfl
@[simp] theorem setObj_jobSlot (k v : Nat) (j : Nat) : (s.setObj k v).jobSlot j = s.jobSlot j := rfl

/-! bumpBy changes regs. -/
@[simp] theorem bumpBy_pending (k n : Nat) : (s.bumpBy k n).pending = s.pending := by simp only [State.bumpBy]; rfl
@[simp] theorem bumpBy_freeCtr (k n : Nat) : (s.bumpBy k n).freeCtr = s.freeCtr := by simp only [State.bumpBy]; rfl
@[simp] theorem bumpBy_time (k n : Nat) : (s.bumpBy k n).time = s.time := by simp only [State.bumpBy]; rfl
@[simp] theorem bumpBy_pkg (k n : Nat) : (s.bumpBy k n).pkg = s.pkg := by simp only [State.bumpBy]; rfl
@[simp] theorem bumpBy_start (k n : Nat) : (s.bumpBy k n).start = s.start := by simp only [State.bumpBy]; rfl
@[simp] theorem bumpBy_polders (k n : Nat) : (s.bumpBy k n).polders = s.polders := by simp only [State.bumpBy]; rfl
@[simp] theorem bumpBy_mem (k n : Nat) : (s.bumpBy k n).mem = s.mem := by simp only [State.bumpBy]; rfl
@[simp] theorem bumpBy_sideband (k n : Nat) : (s.bumpBy k n).sideband = s.sideband := by simp only [State.bumpBy]; rfl
@[simp] theorem bumpBy_frames (k n : Nat) : (s.bumpBy k n).frames = s.frames := by simp only [State.bumpBy]; rfl
@[simp] theorem bumpBy_retired (k n : Nat) : (s.bumpBy k n).retired = s.retired := by simp only [State.bumpBy]; rfl
@[simp] theorem bumpBy_seqs (k n : Nat) : (s.bumpBy k n).seqs = s.seqs := by simp only [State.bumpBy]; rfl
@[simp] theorem bumpBy_sweep (k n : Nat) : (s.bumpBy k n).sweep = s.sweep := by simp only [State.bumpBy]; rfl
@[simp] theorem bumpBy_moveFails (k n : Nat) : (s.bumpBy k n).moveFails = s.moveFails := by simp only [State.bumpBy]; rfl
@[simp] theorem bumpBy_lostSeqs (k n : Nat) : (s.bumpBy k n).lostSeqs = s.lostSeqs := by simp only [State.bumpBy]; rfl
@[simp] theorem bumpBy_lostHere (k n : Nat) : (s.bumpBy k n).lostHere = s.lostHere := by simp only [State.bumpBy]; rfl
@[simp] theorem bumpBy_orphans (k n : Nat) : (s.bumpBy k n).orphans = s.orphans := by simp only [State.bumpBy]; rfl
@[simp] theorem bumpBy_reqs (k n : Nat) : (s.bumpBy k n).reqs = s.reqs := by simp only [State.bumpBy]; rfl
@[simp] theorem bumpBy_gens (k n : Nat) : (s.bumpBy k n).gens = s.gens := by simp only [State.bumpBy]; rfl
@[simp] theorem bumpBy_orderCtr (k n : Nat) : (s.bumpBy k n).orderCtr = s.orderCtr := by simp only [State.bumpBy]; rfl
@[simp] theorem bumpBy_kept (k n : Nat) : (s.bumpBy k n).kept = s.kept := by simp only [State.bumpBy]; rfl
@[simp] theorem bumpBy_tombs (k n : Nat) : (s.bumpBy k n).tombs = s.tombs := by simp only [State.bumpBy]; rfl
@[simp] theorem bumpBy_holds (k n : Nat) : (s.bumpBy k n).holds = s.holds := by simp only [State.bumpBy]; rfl
@[simp] theorem bumpBy_bodies (k n : Nat) : (s.bumpBy k n).bodies = s.bodies := by simp only [State.bumpBy]; rfl
@[simp] theorem bumpBy_bodyHeld (k n : Nat) : (s.bumpBy k n).bodyHeld = s.bodyHeld := by simp only [State.bumpBy]; rfl
@[simp] theorem bumpBy_weights (k n : Nat) : (s.bumpBy k n).weights = s.weights := by simp only [State.bumpBy]; rfl
@[simp] theorem bumpBy_charges (k n : Nat) : (s.bumpBy k n).charges = s.charges := by simp only [State.bumpBy]; rfl
@[simp] theorem bumpBy_drives (k n : Nat) : (s.bumpBy k n).drives = s.drives := by simp only [State.bumpBy]; rfl
@[simp] theorem bumpBy_ports (k n : Nat) : (s.bumpBy k n).ports = s.ports := by simp only [State.bumpBy]; rfl
@[simp] theorem bumpBy_routes0 (k n : Nat) : (s.bumpBy k n).routes0 = s.routes0 := by simp only [State.bumpBy]; rfl
@[simp] theorem bumpBy_routes1 (k n : Nat) : (s.bumpBy k n).routes1 = s.routes1 := by simp only [State.bumpBy]; rfl
@[simp] theorem bumpBy_bank (k n : Nat) : (s.bumpBy k n).bank = s.bank := by simp only [State.bumpBy]; rfl
@[simp] theorem bumpBy_routed (k n : Nat) : (s.bumpBy k n).routed = s.routed := by simp only [State.bumpBy]; rfl
@[simp] theorem bumpBy_downMarks (k n : Nat) : (s.bumpBy k n).downMarks = s.downMarks := by simp only [State.bumpBy]; rfl
@[simp] theorem bumpBy_downSent (k n : Nat) : (s.bumpBy k n).downSent = s.downSent := by simp only [State.bumpBy]; rfl
@[simp] theorem bumpBy_contexts (k n : Nat) : (s.bumpBy k n).contexts = s.contexts := by simp only [State.bumpBy]; rfl
@[simp] theorem bumpBy_conduits (k n : Nat) : (s.bumpBy k n).conduits = s.conduits := by simp only [State.bumpBy]; rfl
@[simp] theorem bumpBy_stage (k n : Nat) : (s.bumpBy k n).stage = s.stage := by simp only [State.bumpBy]; rfl
@[simp] theorem bumpBy_miss (k n : Nat) : (s.bumpBy k n).miss = s.miss := by simp only [State.bumpBy]; rfl
@[simp] theorem bumpBy_charts (k n : Nat) : (s.bumpBy k n).charts = s.charts := by simp only [State.bumpBy]; rfl
@[simp] theorem bumpBy_sched (k n : Nat) : (s.bumpBy k n).sched = s.sched := by simp only [State.bumpBy]; rfl
@[simp] theorem bumpBy_pair (k n : Nat) : (s.bumpBy k n).pair = s.pair := by simp only [State.bumpBy]; rfl
@[simp] theorem bumpBy_fence (k n : Nat) : (s.bumpBy k n).fence = s.fence := by simp only [State.bumpBy]; rfl
@[simp] theorem bumpBy_log (k n : Nat) : (s.bumpBy k n).log = s.log := by simp only [State.bumpBy]; rfl
@[simp] theorem bumpBy_tempo (k n : Nat) : (s.bumpBy k n).tempo = s.tempo := by simp only [State.bumpBy]; rfl
@[simp] theorem bumpBy_power (k n : Nat) : (s.bumpBy k n).power = s.power := by simp only [State.bumpBy]; rfl
@[simp] theorem bumpBy_tiles (k n : Nat) : (s.bumpBy k n).tiles = s.tiles := by simp only [State.bumpBy]; rfl
@[simp] theorem bumpBy_thermal (k n : Nat) : (s.bumpBy k n).thermal = s.thermal := by simp only [State.bumpBy]; rfl
@[simp] theorem bumpBy_ptp (k n : Nat) : (s.bumpBy k n).ptp = s.ptp := by simp only [State.bumpBy]; rfl
@[simp] theorem bumpBy_sec (k n : Nat) : (s.bumpBy k n).sec = s.sec := by simp only [State.bumpBy]; rfl
@[simp] theorem bumpBy_meter (k n : Nat) : (s.bumpBy k n).meter = s.meter := by simp only [State.bumpBy]; rfl
@[simp] theorem bumpBy_gauge (k n : Nat) : (s.bumpBy k n).gauge = s.gauge := by simp only [State.bumpBy]; rfl
@[simp] theorem bumpBy_woa (k n : Nat) : (s.bumpBy k n).woa = s.woa := by simp only [State.bumpBy]; rfl
@[simp] theorem bumpBy_gath (k n : Nat) : (s.bumpBy k n).gath = s.gath := by simp only [State.bumpBy]; rfl
@[simp] theorem bumpBy_rings (k n : Nat) : (s.bumpBy k n).rings = s.rings := by simp only [State.bumpBy]; rfl
@[simp] theorem bumpBy_host (k n : Nat) : (s.bumpBy k n).host = s.host := by simp only [State.bumpBy]; rfl
@[simp] theorem bumpBy_out (k n : Nat) : (s.bumpBy k n).out = s.out := by simp only [State.bumpBy]; rfl
@[simp] theorem bumpBy_polder (k n : Nat) (j : Nat) : (s.bumpBy k n).polder j = s.polder j := by simp only [State.bumpBy]; rfl
@[simp] theorem bumpBy_port (k n : Nat) (j : Nat) : (s.bumpBy k n).port j = s.port j := by simp only [State.bumpBy]; rfl
@[simp] theorem bumpBy_drive (k n : Nat) (j : Nat) : (s.bumpBy k n).drive j = s.drive j := by simp only [State.bumpBy]; rfl
@[simp] theorem bumpBy_ring (k n : Nat) (j : Nat) : (s.bumpBy k n).ring j = s.ring j := by simp only [State.bumpBy]; rfl
@[simp] theorem bumpBy_conduit (k n : Nat) (j : Nat) : (s.bumpBy k n).conduit j = s.conduit j := by simp only [State.bumpBy]; rfl
@[simp] theorem bumpBy_chart (k n : Nat) (j : Nat) : (s.bumpBy k n).chart j = s.chart j := by simp only [State.bumpBy]; rfl
@[simp] theorem bumpBy_charge (k n : Nat) (j : Nat) : (s.bumpBy k n).charge j = s.charge j := by simp only [State.bumpBy]; rfl
@[simp] theorem bumpBy_weight (k n : Nat) (j : Nat) : (s.bumpBy k n).weight j = s.weight j := by simp only [State.bumpBy]; rfl
@[simp] theorem bumpBy_source (k n : Nat) (j : Nat) : (s.bumpBy k n).source j = s.source j := by simp only [State.bumpBy]; rfl
@[simp] theorem bumpBy_steward (k n : Nat) (j : Nat) : (s.bumpBy k n).steward j = s.steward j := by simp only [State.bumpBy]; rfl
@[simp] theorem bumpBy_jobSlot (k n : Nat) (j : Nat) : (s.bumpBy k n).jobSlot j = s.jobSlot j := by simp only [State.bumpBy]; rfl

/-! bump changes regs. -/
@[simp] theorem bump_pending (k : Nat) : (s.bump k).pending = s.pending := by simp only [State.bump]; simp
@[simp] theorem bump_freeCtr (k : Nat) : (s.bump k).freeCtr = s.freeCtr := by simp only [State.bump]; simp
@[simp] theorem bump_time (k : Nat) : (s.bump k).time = s.time := by simp only [State.bump]; simp
@[simp] theorem bump_pkg (k : Nat) : (s.bump k).pkg = s.pkg := by simp only [State.bump]; simp
@[simp] theorem bump_start (k : Nat) : (s.bump k).start = s.start := by simp only [State.bump]; simp
@[simp] theorem bump_polders (k : Nat) : (s.bump k).polders = s.polders := by simp only [State.bump]; simp
@[simp] theorem bump_mem (k : Nat) : (s.bump k).mem = s.mem := by simp only [State.bump]; simp
@[simp] theorem bump_sideband (k : Nat) : (s.bump k).sideband = s.sideband := by simp only [State.bump]; simp
@[simp] theorem bump_frames (k : Nat) : (s.bump k).frames = s.frames := by simp only [State.bump]; simp
@[simp] theorem bump_retired (k : Nat) : (s.bump k).retired = s.retired := by simp only [State.bump]; simp
@[simp] theorem bump_seqs (k : Nat) : (s.bump k).seqs = s.seqs := by simp only [State.bump]; simp
@[simp] theorem bump_sweep (k : Nat) : (s.bump k).sweep = s.sweep := by simp only [State.bump]; simp
@[simp] theorem bump_moveFails (k : Nat) : (s.bump k).moveFails = s.moveFails := by simp only [State.bump]; simp
@[simp] theorem bump_lostSeqs (k : Nat) : (s.bump k).lostSeqs = s.lostSeqs := by simp only [State.bump]; simp
@[simp] theorem bump_lostHere (k : Nat) : (s.bump k).lostHere = s.lostHere := by simp only [State.bump]; simp
@[simp] theorem bump_orphans (k : Nat) : (s.bump k).orphans = s.orphans := by simp only [State.bump]; simp
@[simp] theorem bump_reqs (k : Nat) : (s.bump k).reqs = s.reqs := by simp only [State.bump]; simp
@[simp] theorem bump_gens (k : Nat) : (s.bump k).gens = s.gens := by simp only [State.bump]; simp
@[simp] theorem bump_orderCtr (k : Nat) : (s.bump k).orderCtr = s.orderCtr := by simp only [State.bump]; simp
@[simp] theorem bump_kept (k : Nat) : (s.bump k).kept = s.kept := by simp only [State.bump]; simp
@[simp] theorem bump_tombs (k : Nat) : (s.bump k).tombs = s.tombs := by simp only [State.bump]; simp
@[simp] theorem bump_holds (k : Nat) : (s.bump k).holds = s.holds := by simp only [State.bump]; simp
@[simp] theorem bump_bodies (k : Nat) : (s.bump k).bodies = s.bodies := by simp only [State.bump]; simp
@[simp] theorem bump_bodyHeld (k : Nat) : (s.bump k).bodyHeld = s.bodyHeld := by simp only [State.bump]; simp
@[simp] theorem bump_weights (k : Nat) : (s.bump k).weights = s.weights := by simp only [State.bump]; simp
@[simp] theorem bump_charges (k : Nat) : (s.bump k).charges = s.charges := by simp only [State.bump]; simp
@[simp] theorem bump_drives (k : Nat) : (s.bump k).drives = s.drives := by simp only [State.bump]; simp
@[simp] theorem bump_ports (k : Nat) : (s.bump k).ports = s.ports := by simp only [State.bump]; simp
@[simp] theorem bump_routes0 (k : Nat) : (s.bump k).routes0 = s.routes0 := by simp only [State.bump]; simp
@[simp] theorem bump_routes1 (k : Nat) : (s.bump k).routes1 = s.routes1 := by simp only [State.bump]; simp
@[simp] theorem bump_bank (k : Nat) : (s.bump k).bank = s.bank := by simp only [State.bump]; simp
@[simp] theorem bump_routed (k : Nat) : (s.bump k).routed = s.routed := by simp only [State.bump]; simp
@[simp] theorem bump_downMarks (k : Nat) : (s.bump k).downMarks = s.downMarks := by simp only [State.bump]; simp
@[simp] theorem bump_downSent (k : Nat) : (s.bump k).downSent = s.downSent := by simp only [State.bump]; simp
@[simp] theorem bump_contexts (k : Nat) : (s.bump k).contexts = s.contexts := by simp only [State.bump]; simp
@[simp] theorem bump_conduits (k : Nat) : (s.bump k).conduits = s.conduits := by simp only [State.bump]; simp
@[simp] theorem bump_stage (k : Nat) : (s.bump k).stage = s.stage := by simp only [State.bump]; simp
@[simp] theorem bump_miss (k : Nat) : (s.bump k).miss = s.miss := by simp only [State.bump]; simp
@[simp] theorem bump_charts (k : Nat) : (s.bump k).charts = s.charts := by simp only [State.bump]; simp
@[simp] theorem bump_sched (k : Nat) : (s.bump k).sched = s.sched := by simp only [State.bump]; simp
@[simp] theorem bump_pair (k : Nat) : (s.bump k).pair = s.pair := by simp only [State.bump]; simp
@[simp] theorem bump_fence (k : Nat) : (s.bump k).fence = s.fence := by simp only [State.bump]; simp
@[simp] theorem bump_log (k : Nat) : (s.bump k).log = s.log := by simp only [State.bump]; simp
@[simp] theorem bump_tempo (k : Nat) : (s.bump k).tempo = s.tempo := by simp only [State.bump]; simp
@[simp] theorem bump_power (k : Nat) : (s.bump k).power = s.power := by simp only [State.bump]; simp
@[simp] theorem bump_tiles (k : Nat) : (s.bump k).tiles = s.tiles := by simp only [State.bump]; simp
@[simp] theorem bump_thermal (k : Nat) : (s.bump k).thermal = s.thermal := by simp only [State.bump]; simp
@[simp] theorem bump_ptp (k : Nat) : (s.bump k).ptp = s.ptp := by simp only [State.bump]; simp
@[simp] theorem bump_sec (k : Nat) : (s.bump k).sec = s.sec := by simp only [State.bump]; simp
@[simp] theorem bump_meter (k : Nat) : (s.bump k).meter = s.meter := by simp only [State.bump]; simp
@[simp] theorem bump_gauge (k : Nat) : (s.bump k).gauge = s.gauge := by simp only [State.bump]; simp
@[simp] theorem bump_woa (k : Nat) : (s.bump k).woa = s.woa := by simp only [State.bump]; simp
@[simp] theorem bump_gath (k : Nat) : (s.bump k).gath = s.gath := by simp only [State.bump]; simp
@[simp] theorem bump_rings (k : Nat) : (s.bump k).rings = s.rings := by simp only [State.bump]; simp
@[simp] theorem bump_host (k : Nat) : (s.bump k).host = s.host := by simp only [State.bump]; simp
@[simp] theorem bump_out (k : Nat) : (s.bump k).out = s.out := by simp only [State.bump]; simp
@[simp] theorem bump_polder (k : Nat) (j : Nat) : (s.bump k).polder j = s.polder j := by simp only [State.bump]; simp
@[simp] theorem bump_port (k : Nat) (j : Nat) : (s.bump k).port j = s.port j := by simp only [State.bump]; simp
@[simp] theorem bump_drive (k : Nat) (j : Nat) : (s.bump k).drive j = s.drive j := by simp only [State.bump]; simp
@[simp] theorem bump_ring (k : Nat) (j : Nat) : (s.bump k).ring j = s.ring j := by simp only [State.bump]; simp
@[simp] theorem bump_conduit (k : Nat) (j : Nat) : (s.bump k).conduit j = s.conduit j := by simp only [State.bump]; simp
@[simp] theorem bump_chart (k : Nat) (j : Nat) : (s.bump k).chart j = s.chart j := by simp only [State.bump]; simp
@[simp] theorem bump_charge (k : Nat) (j : Nat) : (s.bump k).charge j = s.charge j := by simp only [State.bump]; simp
@[simp] theorem bump_weight (k : Nat) (j : Nat) : (s.bump k).weight j = s.weight j := by simp only [State.bump]; simp
@[simp] theorem bump_source (k : Nat) (j : Nat) : (s.bump k).source j = s.source j := by simp only [State.bump]; simp
@[simp] theorem bump_steward (k : Nat) (j : Nat) : (s.bump k).steward j = s.steward j := by simp only [State.bump]; simp
@[simp] theorem bump_jobSlot (k : Nat) (j : Nat) : (s.bump k).jobSlot j = s.jobSlot j := by simp only [State.bump]; simp

/-! Reading back. -/
theorem getD_put {α : Type} (m : Map α) (i j : Nat) (v d : α) : Map.getD (Map.put m i v) j d = if j = i then v else Map.getD m j d := by
  simp only [Map.getD, find_put]; split <;> rfl
theorem polder_setPolder (i j : Nat) (x : Polder) : (s.setPolder i x).polder j = if j = i then x else s.polder j := getD_put _ _ _ _ _
@[simp] theorem polder_setPolder_same (i : Nat) (x : Polder) : (s.setPolder i x).polder i = x := getD_put_same _ _ _ _
theorem port_setPort (i j : Nat) (x : PortSt) : (s.setPort i x).port j = if j = i then x else s.port j := getD_put _ _ _ _ _
@[simp] theorem port_setPort_same (i : Nat) (x : PortSt) : (s.setPort i x).port i = x := getD_put_same _ _ _ _
theorem drive_setDrive (i j : Nat) (x : DriveSt) : (s.setDrive i x).drive j = if j = i then x else s.drive j := getD_put _ _ _ _ _
@[simp] theorem drive_setDrive_same (i : Nat) (x : DriveSt) : (s.setDrive i x).drive i = x := getD_put_same _ _ _ _
theorem ring_setRing (i j : Nat) (x : RingSt) : (s.setRing i x).ring j = if j = i then x else s.ring j := getD_put _ _ _ _ _
@[simp] theorem ring_setRing_same (i : Nat) (x : RingSt) : (s.setRing i x).ring i = x := getD_put_same _ _ _ _
theorem conduit_setConduit (i j : Nat) (x : Conduit) : (s.setConduit i x).conduit j = if j = i then x else s.conduit j := getD_put _ _ _ _ _
@[simp] theorem conduit_setConduit_same (i : Nat) (x : Conduit) : (s.setConduit i x).conduit i = x := getD_put_same _ _ _ _
theorem chart_setChart (i j : Nat) (x : Chart) : (s.setChart i x).chart j = if j = i then x else s.chart j := getD_put _ _ _ _ _
@[simp] theorem chart_setChart_same (i : Nat) (x : Chart) : (s.setChart i x).chart i = x := getD_put_same _ _ _ _
theorem charge_setCharge (i j : Nat) (x : Charges) : (s.setCharge i x).charge j = if j = i then x else s.charge j := getD_put _ _ _ _ _
@[simp] theorem charge_setCharge_same (i : Nat) (x : Charges) : (s.setCharge i x).charge i = x := getD_put_same _ _ _ _
theorem weight_setWeight (i j : Nat) (x : Weights) : (s.setWeight i x).weight j = if j = i then x else s.weight j := getD_put _ _ _ _ _
@[simp] theorem weight_setWeight_same (i : Nat) (x : Weights) : (s.setWeight i x).weight i = x := getD_put_same _ _ _ _
theorem source_setSource (i j : Nat) (x : GSource) : (s.setSource i x).source j = if j = i then x else s.source j := getD_put _ _ _ _ _
@[simp] theorem source_setSource_same (i : Nat) (x : GSource) : (s.setSource i x).source i = x := getD_put_same _ _ _ _
@[simp] theorem obj_setObj_same (k v : Nat) : (s.setObj k v).obj k = v := getD_putD_same _ _ _ _
theorem obj_setObj_ne {j k : Nat} (v : Nat) (h : j ≠ k) : (s.setObj k v).obj j = s.obj j := by
  simp only [State.obj, State.setObj, Map.getD, Map.putD]
  split <;> simp [find_del_ne, find_put_ne, h]
/-- A 32-bit counter saturates. -/
theorem obj_bump {k : Nat} (h : objMax k = 2 ^ 32 - 1) : (s.bump k).obj k = min (s.obj k + 1) (2 ^ 32 - 1) := by
  simp [State.bump, State.bumpBy, h]
theorem obj_bump_ne {j k : Nat} (h : j ≠ k) : (s.bump k).obj j = s.obj j := obj_setObj_ne s _ h

/-! An arrival changes only its source; an event only the log, and the log's own source. -/
@[simp] theorem arrive_pending (x : Nat) : (s.arrive x).pending = s.pending := by unfold State.arrive; split <;> rfl
@[simp] theorem arrive_freeCtr (x : Nat) : (s.arrive x).freeCtr = s.freeCtr := by unfold State.arrive; split <;> rfl
@[simp] theorem arrive_time (x : Nat) : (s.arrive x).time = s.time := by unfold State.arrive; split <;> rfl
@[simp] theorem arrive_pkg (x : Nat) : (s.arrive x).pkg = s.pkg := by unfold State.arrive; split <;> rfl
@[simp] theorem arrive_start (x : Nat) : (s.arrive x).start = s.start := by unfold State.arrive; split <;> rfl
@[simp] theorem arrive_regs (x : Nat) : (s.arrive x).regs = s.regs := by unfold State.arrive; split <;> rfl
@[simp] theorem arrive_polders (x : Nat) : (s.arrive x).polders = s.polders := by unfold State.arrive; split <;> rfl
@[simp] theorem arrive_mem (x : Nat) : (s.arrive x).mem = s.mem := by unfold State.arrive; split <;> rfl
@[simp] theorem arrive_sideband (x : Nat) : (s.arrive x).sideband = s.sideband := by unfold State.arrive; split <;> rfl
@[simp] theorem arrive_frames (x : Nat) : (s.arrive x).frames = s.frames := by unfold State.arrive; split <;> rfl
@[simp] theorem arrive_retired (x : Nat) : (s.arrive x).retired = s.retired := by unfold State.arrive; split <;> rfl
@[simp] theorem arrive_seqs (x : Nat) : (s.arrive x).seqs = s.seqs := by unfold State.arrive; split <;> rfl
@[simp] theorem arrive_sweep (x : Nat) : (s.arrive x).sweep = s.sweep := by unfold State.arrive; split <;> rfl
@[simp] theorem arrive_moveFails (x : Nat) : (s.arrive x).moveFails = s.moveFails := by unfold State.arrive; split <;> rfl
@[simp] theorem arrive_lostSeqs (x : Nat) : (s.arrive x).lostSeqs = s.lostSeqs := by unfold State.arrive; split <;> rfl
@[simp] theorem arrive_lostHere (x : Nat) : (s.arrive x).lostHere = s.lostHere := by unfold State.arrive; split <;> rfl
@[simp] theorem arrive_orphans (x : Nat) : (s.arrive x).orphans = s.orphans := by unfold State.arrive; split <;> rfl
@[simp] theorem arrive_reqs (x : Nat) : (s.arrive x).reqs = s.reqs := by unfold State.arrive; split <;> rfl
@[simp] theorem arrive_gens (x : Nat) : (s.arrive x).gens = s.gens := by unfold State.arrive; split <;> rfl
@[simp] theorem arrive_orderCtr (x : Nat) : (s.arrive x).orderCtr = s.orderCtr := by unfold State.arrive; split <;> rfl
@[simp] theorem arrive_kept (x : Nat) : (s.arrive x).kept = s.kept := by unfold State.arrive; split <;> rfl
@[simp] theorem arrive_tombs (x : Nat) : (s.arrive x).tombs = s.tombs := by unfold State.arrive; split <;> rfl
@[simp] theorem arrive_holds (x : Nat) : (s.arrive x).holds = s.holds := by unfold State.arrive; split <;> rfl
@[simp] theorem arrive_bodies (x : Nat) : (s.arrive x).bodies = s.bodies := by unfold State.arrive; split <;> rfl
@[simp] theorem arrive_bodyHeld (x : Nat) : (s.arrive x).bodyHeld = s.bodyHeld := by unfold State.arrive; split <;> rfl
@[simp] theorem arrive_weights (x : Nat) : (s.arrive x).weights = s.weights := by unfold State.arrive; split <;> rfl
@[simp] theorem arrive_charges (x : Nat) : (s.arrive x).charges = s.charges := by unfold State.arrive; split <;> rfl
@[simp] theorem arrive_drives (x : Nat) : (s.arrive x).drives = s.drives := by unfold State.arrive; split <;> rfl
@[simp] theorem arrive_ports (x : Nat) : (s.arrive x).ports = s.ports := by unfold State.arrive; split <;> rfl
@[simp] theorem arrive_routes0 (x : Nat) : (s.arrive x).routes0 = s.routes0 := by unfold State.arrive; split <;> rfl
@[simp] theorem arrive_routes1 (x : Nat) : (s.arrive x).routes1 = s.routes1 := by unfold State.arrive; split <;> rfl
@[simp] theorem arrive_bank (x : Nat) : (s.arrive x).bank = s.bank := by unfold State.arrive; split <;> rfl
@[simp] theorem arrive_routed (x : Nat) : (s.arrive x).routed = s.routed := by unfold State.arrive; split <;> rfl
@[simp] theorem arrive_downMarks (x : Nat) : (s.arrive x).downMarks = s.downMarks := by unfold State.arrive; split <;> rfl
@[simp] theorem arrive_downSent (x : Nat) : (s.arrive x).downSent = s.downSent := by unfold State.arrive; split <;> rfl
@[simp] theorem arrive_contexts (x : Nat) : (s.arrive x).contexts = s.contexts := by unfold State.arrive; split <;> rfl
@[simp] theorem arrive_conduits (x : Nat) : (s.arrive x).conduits = s.conduits := by unfold State.arrive; split <;> rfl
@[simp] theorem arrive_stage (x : Nat) : (s.arrive x).stage = s.stage := by unfold State.arrive; split <;> rfl
@[simp] theorem arrive_miss (x : Nat) : (s.arrive x).miss = s.miss := by unfold State.arrive; split <;> rfl
@[simp] theorem arrive_charts (x : Nat) : (s.arrive x).charts = s.charts := by unfold State.arrive; split <;> rfl
@[simp] theorem arrive_sched (x : Nat) : (s.arrive x).sched = s.sched := by unfold State.arrive; split <;> rfl
@[simp] theorem arrive_pair (x : Nat) : (s.arrive x).pair = s.pair := by unfold State.arrive; split <;> rfl
@[simp] theorem arrive_fence (x : Nat) : (s.arrive x).fence = s.fence := by unfold State.arrive; split <;> rfl
@[simp] theorem arrive_log (x : Nat) : (s.arrive x).log = s.log := by unfold State.arrive; split <;> rfl
@[simp] theorem arrive_tempo (x : Nat) : (s.arrive x).tempo = s.tempo := by unfold State.arrive; split <;> rfl
@[simp] theorem arrive_power (x : Nat) : (s.arrive x).power = s.power := by unfold State.arrive; split <;> rfl
@[simp] theorem arrive_tiles (x : Nat) : (s.arrive x).tiles = s.tiles := by unfold State.arrive; split <;> rfl
@[simp] theorem arrive_thermal (x : Nat) : (s.arrive x).thermal = s.thermal := by unfold State.arrive; split <;> rfl
@[simp] theorem arrive_ptp (x : Nat) : (s.arrive x).ptp = s.ptp := by unfold State.arrive; split <;> rfl
@[simp] theorem arrive_sec (x : Nat) : (s.arrive x).sec = s.sec := by unfold State.arrive; split <;> rfl
@[simp] theorem arrive_meter (x : Nat) : (s.arrive x).meter = s.meter := by unfold State.arrive; split <;> rfl
@[simp] theorem arrive_gauge (x : Nat) : (s.arrive x).gauge = s.gauge := by unfold State.arrive; split <;> rfl
@[simp] theorem arrive_woa (x : Nat) : (s.arrive x).woa = s.woa := by unfold State.arrive; split <;> rfl
@[simp] theorem arrive_rings (x : Nat) : (s.arrive x).rings = s.rings := by unfold State.arrive; split <;> rfl
@[simp] theorem arrive_host (x : Nat) : (s.arrive x).host = s.host := by unfold State.arrive; split <;> rfl
@[simp] theorem arrive_out (x : Nat) : (s.arrive x).out = s.out := by unfold State.arrive; split <;> rfl
@[simp] theorem arrive_polder (x j : Nat) : (s.arrive x).polder j = s.polder j := by unfold State.arrive; split <;> rfl
@[simp] theorem arrive_port (x j : Nat) : (s.arrive x).port j = s.port j := by unfold State.arrive; split <;> rfl
@[simp] theorem arrive_drive (x j : Nat) : (s.arrive x).drive j = s.drive j := by unfold State.arrive; split <;> rfl
@[simp] theorem arrive_ring (x j : Nat) : (s.arrive x).ring j = s.ring j := by unfold State.arrive; split <;> rfl
@[simp] theorem arrive_conduit (x j : Nat) : (s.arrive x).conduit j = s.conduit j := by unfold State.arrive; split <;> rfl
@[simp] theorem arrive_chart (x j : Nat) : (s.arrive x).chart j = s.chart j := by unfold State.arrive; split <;> rfl
@[simp] theorem arrive_charge (x j : Nat) : (s.arrive x).charge j = s.charge j := by unfold State.arrive; split <;> rfl
@[simp] theorem arrive_weight (x j : Nat) : (s.arrive x).weight j = s.weight j := by unfold State.arrive; split <;> rfl
@[simp] theorem arrive_obj (x j : Nat) : (s.arrive x).obj j = s.obj j := by unfold State.arrive; split <;> rfl
@[simp] theorem arrive_steward (x j : Nat) : (s.arrive x).steward j = s.steward j := by unfold State.arrive; split <;> rfl
@[simp] theorem arrive_jobSlot (x j : Nat) : (s.arrive x).jobSlot j = s.jobSlot j := by unfold State.arrive; split <;> rfl
/-- An arrival is taken by its source. -/
theorem source_arrive {x : Nat} (h : sourceReal x = true) (y : Nat) : (s.arrive x).source y = if y = x then (s.source x).arrive else s.source y := by
  unfold State.arrive; rw [if_pos h]; exact source_setSource s x y _
@[simp] theorem logEvent_pending (c a b d e : Nat) : (s.logEvent c a b d e).pending = s.pending := by unfold State.logEvent; dsimp only; split <;> simp
@[simp] theorem logEvent_freeCtr (c a b d e : Nat) : (s.logEvent c a b d e).freeCtr = s.freeCtr := by unfold State.logEvent; dsimp only; split <;> simp
@[simp] theorem logEvent_time (c a b d e : Nat) : (s.logEvent c a b d e).time = s.time := by unfold State.logEvent; dsimp only; split <;> simp
@[simp] theorem logEvent_pkg (c a b d e : Nat) : (s.logEvent c a b d e).pkg = s.pkg := by unfold State.logEvent; dsimp only; split <;> simp
@[simp] theorem logEvent_start (c a b d e : Nat) : (s.logEvent c a b d e).start = s.start := by unfold State.logEvent; dsimp only; split <;> simp
@[simp] theorem logEvent_regs (c a b d e : Nat) : (s.logEvent c a b d e).regs = s.regs := by unfold State.logEvent; dsimp only; split <;> simp
@[simp] theorem logEvent_polders (c a b d e : Nat) : (s.logEvent c a b d e).polders = s.polders := by unfold State.logEvent; dsimp only; split <;> simp
@[simp] theorem logEvent_mem (c a b d e : Nat) : (s.logEvent c a b d e).mem = s.mem := by unfold State.logEvent; dsimp only; split <;> simp
@[simp] theorem logEvent_sideband (c a b d e : Nat) : (s.logEvent c a b d e).sideband = s.sideband := by unfold State.logEvent; dsimp only; split <;> simp
@[simp] theorem logEvent_frames (c a b d e : Nat) : (s.logEvent c a b d e).frames = s.frames := by unfold State.logEvent; dsimp only; split <;> simp
@[simp] theorem logEvent_retired (c a b d e : Nat) : (s.logEvent c a b d e).retired = s.retired := by unfold State.logEvent; dsimp only; split <;> simp
@[simp] theorem logEvent_seqs (c a b d e : Nat) : (s.logEvent c a b d e).seqs = s.seqs := by unfold State.logEvent; dsimp only; split <;> simp
@[simp] theorem logEvent_sweep (c a b d e : Nat) : (s.logEvent c a b d e).sweep = s.sweep := by unfold State.logEvent; dsimp only; split <;> simp
@[simp] theorem logEvent_moveFails (c a b d e : Nat) : (s.logEvent c a b d e).moveFails = s.moveFails := by unfold State.logEvent; dsimp only; split <;> simp
@[simp] theorem logEvent_lostSeqs (c a b d e : Nat) : (s.logEvent c a b d e).lostSeqs = s.lostSeqs := by unfold State.logEvent; dsimp only; split <;> simp
@[simp] theorem logEvent_lostHere (c a b d e : Nat) : (s.logEvent c a b d e).lostHere = s.lostHere := by unfold State.logEvent; dsimp only; split <;> simp
@[simp] theorem logEvent_orphans (c a b d e : Nat) : (s.logEvent c a b d e).orphans = s.orphans := by unfold State.logEvent; dsimp only; split <;> simp
@[simp] theorem logEvent_reqs (c a b d e : Nat) : (s.logEvent c a b d e).reqs = s.reqs := by unfold State.logEvent; dsimp only; split <;> simp
@[simp] theorem logEvent_gens (c a b d e : Nat) : (s.logEvent c a b d e).gens = s.gens := by unfold State.logEvent; dsimp only; split <;> simp
@[simp] theorem logEvent_orderCtr (c a b d e : Nat) : (s.logEvent c a b d e).orderCtr = s.orderCtr := by unfold State.logEvent; dsimp only; split <;> simp
@[simp] theorem logEvent_kept (c a b d e : Nat) : (s.logEvent c a b d e).kept = s.kept := by unfold State.logEvent; dsimp only; split <;> simp
@[simp] theorem logEvent_tombs (c a b d e : Nat) : (s.logEvent c a b d e).tombs = s.tombs := by unfold State.logEvent; dsimp only; split <;> simp
@[simp] theorem logEvent_holds (c a b d e : Nat) : (s.logEvent c a b d e).holds = s.holds := by unfold State.logEvent; dsimp only; split <;> simp
@[simp] theorem logEvent_bodies (c a b d e : Nat) : (s.logEvent c a b d e).bodies = s.bodies := by unfold State.logEvent; dsimp only; split <;> simp
@[simp] theorem logEvent_bodyHeld (c a b d e : Nat) : (s.logEvent c a b d e).bodyHeld = s.bodyHeld := by unfold State.logEvent; dsimp only; split <;> simp
@[simp] theorem logEvent_weights (c a b d e : Nat) : (s.logEvent c a b d e).weights = s.weights := by unfold State.logEvent; dsimp only; split <;> simp
@[simp] theorem logEvent_charges (c a b d e : Nat) : (s.logEvent c a b d e).charges = s.charges := by unfold State.logEvent; dsimp only; split <;> simp
@[simp] theorem logEvent_drives (c a b d e : Nat) : (s.logEvent c a b d e).drives = s.drives := by unfold State.logEvent; dsimp only; split <;> simp
@[simp] theorem logEvent_ports (c a b d e : Nat) : (s.logEvent c a b d e).ports = s.ports := by unfold State.logEvent; dsimp only; split <;> simp
@[simp] theorem logEvent_routes0 (c a b d e : Nat) : (s.logEvent c a b d e).routes0 = s.routes0 := by unfold State.logEvent; dsimp only; split <;> simp
@[simp] theorem logEvent_routes1 (c a b d e : Nat) : (s.logEvent c a b d e).routes1 = s.routes1 := by unfold State.logEvent; dsimp only; split <;> simp
@[simp] theorem logEvent_bank (c a b d e : Nat) : (s.logEvent c a b d e).bank = s.bank := by unfold State.logEvent; dsimp only; split <;> simp
@[simp] theorem logEvent_routed (c a b d e : Nat) : (s.logEvent c a b d e).routed = s.routed := by unfold State.logEvent; dsimp only; split <;> simp
@[simp] theorem logEvent_downMarks (c a b d e : Nat) : (s.logEvent c a b d e).downMarks = s.downMarks := by unfold State.logEvent; dsimp only; split <;> simp
@[simp] theorem logEvent_downSent (c a b d e : Nat) : (s.logEvent c a b d e).downSent = s.downSent := by unfold State.logEvent; dsimp only; split <;> simp
@[simp] theorem logEvent_contexts (c a b d e : Nat) : (s.logEvent c a b d e).contexts = s.contexts := by unfold State.logEvent; dsimp only; split <;> simp
@[simp] theorem logEvent_conduits (c a b d e : Nat) : (s.logEvent c a b d e).conduits = s.conduits := by unfold State.logEvent; dsimp only; split <;> simp
@[simp] theorem logEvent_stage (c a b d e : Nat) : (s.logEvent c a b d e).stage = s.stage := by unfold State.logEvent; dsimp only; split <;> simp
@[simp] theorem logEvent_miss (c a b d e : Nat) : (s.logEvent c a b d e).miss = s.miss := by unfold State.logEvent; dsimp only; split <;> simp
@[simp] theorem logEvent_charts (c a b d e : Nat) : (s.logEvent c a b d e).charts = s.charts := by unfold State.logEvent; dsimp only; split <;> simp
@[simp] theorem logEvent_sched (c a b d e : Nat) : (s.logEvent c a b d e).sched = s.sched := by unfold State.logEvent; dsimp only; split <;> simp
@[simp] theorem logEvent_pair (c a b d e : Nat) : (s.logEvent c a b d e).pair = s.pair := by unfold State.logEvent; dsimp only; split <;> simp
@[simp] theorem logEvent_fence (c a b d e : Nat) : (s.logEvent c a b d e).fence = s.fence := by unfold State.logEvent; dsimp only; split <;> simp
@[simp] theorem logEvent_tempo (c a b d e : Nat) : (s.logEvent c a b d e).tempo = s.tempo := by unfold State.logEvent; dsimp only; split <;> simp
@[simp] theorem logEvent_power (c a b d e : Nat) : (s.logEvent c a b d e).power = s.power := by unfold State.logEvent; dsimp only; split <;> simp
@[simp] theorem logEvent_tiles (c a b d e : Nat) : (s.logEvent c a b d e).tiles = s.tiles := by unfold State.logEvent; dsimp only; split <;> simp
@[simp] theorem logEvent_thermal (c a b d e : Nat) : (s.logEvent c a b d e).thermal = s.thermal := by unfold State.logEvent; dsimp only; split <;> simp
@[simp] theorem logEvent_ptp (c a b d e : Nat) : (s.logEvent c a b d e).ptp = s.ptp := by unfold State.logEvent; dsimp only; split <;> simp
@[simp] theorem logEvent_sec (c a b d e : Nat) : (s.logEvent c a b d e).sec = s.sec := by unfold State.logEvent; dsimp only; split <;> simp
@[simp] theorem logEvent_meter (c a b d e : Nat) : (s.logEvent c a b d e).meter = s.meter := by unfold State.logEvent; dsimp only; split <;> simp
@[simp] theorem logEvent_gauge (c a b d e : Nat) : (s.logEvent c a b d e).gauge = s.gauge := by unfold State.logEvent; dsimp only; split <;> simp
@[simp] theorem logEvent_woa (c a b d e : Nat) : (s.logEvent c a b d e).woa = s.woa := by unfold State.logEvent; dsimp only; split <;> simp
@[simp] theorem logEvent_rings (c a b d e : Nat) : (s.logEvent c a b d e).rings = s.rings := by unfold State.logEvent; dsimp only; split <;> simp
@[simp] theorem logEvent_host (c a b d e : Nat) : (s.logEvent c a b d e).host = s.host := by unfold State.logEvent; dsimp only; split <;> simp
@[simp] theorem logEvent_out (c a b d e : Nat) : (s.logEvent c a b d e).out = s.out := by unfold State.logEvent; dsimp only; split <;> simp

end Sys2Proof.Laws
end

