-- ==== Sys2Proof/Machine/Pcie.lean ====
section
/-! DEFINITION. What the host reads of the two PCIe functions: configuration space (R529, R530) and the registers of BAR0 (R531, R532). -/

namespace Sys2Proof.Machine

/-- A function's identity in configuration space (R529): offset, bytes, value. The offsets are those of the PCI type 0 header.
PRESUMED, log entry 156. -/
def configIds (pf1 : Bool) : List (Nat × Nat × Nat) :=
  let dev := if pf1 then 0x0873 else 0x0872
  let cls := if pf1 then 0x088000 else 0x120000
  [(0x00, 2, 0xA7C3E1 % 2 ^ 16), (0x02, 2, dev), (0x09, 3, cls), (0x2C, 2, 0xA7C3E1 % 2 ^ 16)]

/-- A function's BARs (R530): number, size in bytes, whether prefetchable; each is a 64-bit memory BAR. -/
def barsOf (pf1 : Bool) : List (Nat × Nat × Bool) := if pf1 then [(0, 2 ^ 16, false)] else [(0, 2 ^ 20, false), (2, 2 ^ 40, true)]

/-- A ring's register (R531). -/
def RingSt.reg (g : RingSt) (off : Nat) : Nat :=
  match off with
  | 0x00 => g.sqBase
  | 0x08 => g.cqBase
  | 0x10 => g.rcfg
  | 0x18 => g.st + 256 * g.err
  | 0x20 => g.sqTail
  | 0x28 => g.sqHead
  | 0x30 => g.cqHead
  | 0x38 => g.cqTail
  | _ => 0

/-- A read of a register in BAR0 (R525, R531, R532): none where it ends with Unsupported Request (R478); a register that is written only, and a
ring's before SERVING, reads zero. -/
def State.barRead (s : State) (pf1 : Bool) (off : Nat) : Option Nat :=
  if !s.windowServed pf1 then none else some <|
  if pf1 then
    if 0x4000 ≤ off ∧ off < 0x6000 then s.functionRead pf1 (off - 0x4000)
    else if off = 0x2004 then s.woa.d2h else if off = 0x2008 then b2n s.woa.h2d.isNone + 2 * b2n (decide (s.woa.d2h ≠ 0)) else 0
  else if off = 0 then s.hstatus
  else if off = 0x110 then s.start.boot % 256 + 256 * (s.start.bytes / 4096)
  else if 0x1000 ≤ off ∧ off < 0x2000 then (if s.serving then (s.ring ((off - 0x1000) / 64)).reg (off % 64) else 0)
  else if 0x10000 ≤ off ∧ off < 0x12000 then s.functionRead pf1 (off - 0x10000)
  else 0

end Sys2Proof.Machine
end

