-- ==== Sys2Proof/WellFormed.lean ====
section
/-! DEFINITION. Well-formed commands: every operand that stands for a field of a stated width fits that width. -/

namespace Sys2Proof

/-- A slot's unit and slot number fit the slot coding (R51). -/
def Slot.wf (c : Slot) : Bool := decide (c.unit < 1024) && decide (c.idx < 65536)

/-- A bank operation's head counts and staging half fit their fields (R126). -/
def BankOp.wf (o : BankOp) : Bool := decide (o.half < 2) && decide (o.heads < 256) && decide (o.g < 256)

/-- A source's node, message identifier, slot and cookie fit their fields (R266, R536). -/
def Src.wf : Src → Bool
  | .fabric node msg keySlot sel => decide (node < 2 ^ 20) && decide (msg < 2 ^ 32) && decide (keySlot < 4096) && decide (sel < 16)
  | .ring _ slot cookie => decide (slot < 65536) && decide (cookie < 2 ^ 32)
  | .mirror _ => false

/-- A run of bytes. -/
def bytesOk (bs : List Nat) : Bool := bs.all fun b => decide (b < 256)

/-- A request's source and lengths fit their fields, and its body is bytes. -/
def Req.wf (r : Req) : Bool :=
  r.src.wf && decide (r.bodyLen < 2 ^ 32) && decide (r.replyLen < 2 ^ 32) && bytesOk r.body

/-- A conduit header's fields fit (R301). -/
def CHdr.wf (h : CHdr) : Bool :=
  decide (h.conduit < 2 ^ 20) && decide (h.peer < 2 ^ 20) && decide (h.seq < 2 ^ 32) && decide (h.ack < 2 ^ 32) &&
  decide (h.map < 2 ^ 32) && decide (h.grant < 2 ^ 32)

/-- A PUT's sequence, key and handle fit (R302). -/
def Put.wf (u : Put) : Bool := decide (u.seqId < 2 ^ 64) && decide (u.key < 2 ^ 64) && decide (u.handle < 2 ^ 64)

/-- A page header's fields fit (R186). -/
def PageHdr.wf (h : PageHdr) : Bool := decide (h.owner < 2 ^ 64) && decide (h.valid < 256) && decide (h.formats < 256)

/-- A packet's fields fit and its payload is bytes (R266). -/
def Packet.wf (k : Packet) : Bool :=
  decide (k.version < 16) && decide (k.ptype < 16) && decide (k.dst < 2 ^ 20) && decide (k.polSel < 16) && decide (k.len ≤ 4096) && decide (k.hop < 64) &&
  decide (k.src < 2 ^ 20) && decide (k.srcSel < 16) && decide (k.kind < 256) && decide (k.msg < 2 ^ 32) && decide (k.off < 2 ^ 20) &&
  decide (k.total < 2 ^ 21) && decide (k.key < 65536) && decide (k.kindWord < 2 ^ 32) && decide (k.check < 2 ^ 64) && bytesOk k.data

/-- A WOA message's bytes and source fit (R493). -/
def WoaMsg.wf (m : WoaMsg) : Bool := bytesOk m.bytes && decide (m.source < 2 ^ 128)

/-- An envelope and a bundle are bytes (R412, R468). -/
def Envelope.wf (e : Envelope) : Bool := bytesOk e.bytes && bytesOk e.secret
def Bundle.wf (b : Bundle) : Bool := bytesOk b.bytes

/-- A HELLO's node, port and credit fit (R276). -/
def Hello.wf (h : Hello) : Bool :=
  decide (h.node < 2 ^ 20) && decide (h.port < 12) && decide (h.digest < 2 ^ 128) && decide (h.seq < 65536)

/-- Whether a request's header has a kind (R112, R194), and bit `i` of its bits the value `v` that tells its row from the kind's others. -/
def Req.isKind (r : Req) (kind : Nat) : Bool := decide (r.hdr.toNat % 256 = kind)
def Req.field (r : Req) (lo n v : Nat) : Bool := decide (r.hdr.toNat / 2 ^ lo % 2 ^ n = v)

/-- Well-formed commands. -/
def Instr.wf : Instr → Bool
  | .score _ c o => c.wf && o.wf
  | .wsum _ c o => c.wf && o.wf
  | .write _ c _ _ _ _ => c.wf
  | .copy _ c _ _ _ _ _ => c.wf
  | .verify _ c _ _ _ _ => c.wf
  | .cscatter _ c _ => c.wf
  | .cbcast _ c _ => c.wf
  | .creduce _ c _ => c.wf
  | .cgather _ c _ => c.wf
  | .vop _ c _ _ _ _ _ _ => c.wf
  | .exp _ c _ _ _ => c.wf
  | .softmax _ c _ _ _ _ _ _ _ _ _ => c.wf
  | .oacc _ c _ _ _ _ _ _ => c.wf
  | .merge _ c _ _ _ => c.wf
  | .cvt _ c _ => c.wf
  | .crc64 _ c _ _ _ => c.wf
  | .msend _ c _ _ _ _ => c.wf
  | .admitSlot _ c _ _ _ _ _ => c.wf
  | .done _ c _ _ _ _ => c.wf
  | .wload _ c _ _ => c.wf
  | .mm _ c _ _ _ _ _ _ => c.wf
  | .outf _ c _ _ _ _ _ => c.wf
  | .outr _ c _ _ _ _ => c.wf
  | .bsoft _ c _ _ _ _ _ _ _ _ _ => c.wf
  | .swap _ c => c.wf
  | .xblk _ c _ _ => c.wf
  | .xtab _ c _ _ => c.wf
  | .xreq _ c _ blocks _ => c.wf && blocks.all bytesOk
  | .dcopy _ c _ _ _ _ _ _ _ => c.wf
  | .dls _ c _ _ _ _ _ _ => c.wf
  | .dmesh _ c _ _ _ _ => c.wf
  | .dfill _ c _ _ _ _ _ => c.wf
  | .nop _ _ c => c.wf
  | .waitonly _ _ c => c.wf
  | .repeatSlot _ _ c _ _ _ => c.wf
  | .endSlot _ _ c => c.wf
  | .externalGateSignal _ _ _ _ => true
  | .deadlineExpiry _ _ c => c.wf
  | .stallLimitExpiry _ _ c => c.wf
  | .passClose _ => true
  | .polderStopped _ => true
  | .tideBoundary => true
  | .imageLoad _ _ => true
  | .quiesce _ => true
  | .clearStopped _ => true
  | .resume _ => true
  | .attend r => r.isKind 1 && r.wf
  | .attendTokenLimit tag => decide (tag < 131072)
  | .epochHoldExpiry tag => decide (tag < 131072)
  | .replay tag => decide (tag < 131072)
  | .orderingFence _ slot _ => decide (slot < 65536)
  | .prefill r => r.isKind 3 && r.wf
  | .append r => r.isKind 2 && r.wf
  | .tokenBase tag => decide (tag < 131072)
  | .bodySegment key _ _ _ bytes _ => decide (key < 2 ^ 64) && bytesOk bytes
  | .bodyTimeout tag => decide (tag < 131072)
  | .weightLoad _ header segments _ _ _ _ _ => bytesOk header && segments.all bytesOk
  | .weightLoadEnd _ => true
  | .fork r => r.isKind 4 && r.field 9 1 0 && r.wf
  | .forkCreate r => r.isKind 4 && r.field 9 1 1 && r.wf
  | .release r => r.isKind 5 && r.field 9 1 0 && r.wf
  | .releaseTruncate r => r.isKind 5 && r.field 9 1 1 && r.wf
  | .pin r => r.isKind 6 && r.field 9 1 0 && r.wf
  | .unpin r => r.isKind 6 && r.field 9 1 1 && r.wf
  | .swapOut r => r.isKind 7 && r.wf
  | .swapIn r => r.isKind 8 && r.wf
  | .flush r => r.isKind 9 && r.wf
  | .abort r => r.isKind 10 && r.field 192 1 0 && r.wf
  | .abortAll r => r.isKind 10 && r.field 192 1 1 && r.wf
  | .tombstoneExpiry _ => true
  | .querySummary r => r.isKind 11 && r.field 160 8 0 && r.wf
  | .queryLayerCounts r => r.isKind 11 && r.field 160 8 1 && r.wf
  | .queryTenantUsage r => r.isKind 11 && r.field 160 8 2 && r.wf
  | .sequenceWideTurn tag => decide (tag < 131072)
  | .preEmption => true
  | .moveComplete seqId _ => decide (seqId < 2 ^ 64)
  | .moveFailed seqId => decide (seqId < 2 ^ 64)
  | .sweepCandidates => true
  | .sweepAllPinned => true
  | .sweepEnd => true
  | .bindingEnable _ => true
  | .bindingDisable _ => true
  | .bindingShapeWrite _ _ _ => true
  | .refetchResult _ _ => true
  | .demotion => true
  | .nvmeCompletion _ _ _ _ => true
  | .nvmeCommandTimeout _ _ => true
  | .driveFatalStatus _ => true
  | .driveLinkLost _ => true
  | .driveOffline _ => true
  | .driveReinitialise _ => true
  | .portEnable _ => true
  | .portDisable _ => true
  | .lanesTrained _ => true
  | .pcsLock _ => true
  | .portStateTimeout _ => true
  | .hello _ h => h.wf
  | .helloTimer _ => true
  | .lossOfLock _ _ => true
  | .fecDegrade _ _ _ => true
  | .livenessTimeout _ => true
  | .holdDownExpiry _ => true
  | .credit _ _ => true
  | .creditTimer _ => true
  | .pathDown _ _ => true
  | .pathDownHoldExpiry _ _ => true
  | .packetReceive _ _ _ k => k.wf
  | .nodeIdWrite node => decide (node < 2 ^ 20)
  | .routingCommit => true
  | .reassemblyTimeout _ _ => true
  | .missFetchDone conduit _ => decide (conduit < 2 ^ 20)
  | .openMsg h node _ => h.wf && decide (node < 2 ^ 20)
  | .openAck h node _ => h.wf && decide (node < 2 ^ 20)
  | .ack h => h.wf
  | .putPage h u hdr data => h.wf && u.wf && hdr.wf && bytesOk data
  | .putRecord h u record => h.wf && u.wf && bytesOk record
  | .putRef h u => h.wf && u.wf
  | .seal h seqId _ _ _ _ => h.wf && decide (seqId < 2 ^ 64)
  | .sealed h seqId _ => h.wf && decide (seqId < 2 ^ 64)
  | .bucketDone h _ bucket _ _ => h.wf && decide (bucket < 65536)
  | .close h => h.wf
  | .fetch h seqId key frame _ => h.wf && decide (seqId < 2 ^ 64) && decide (key < 2 ^ 64) && decide (frame < 2 ^ 24)
  | .fetched h seqId key _ hdr data => h.wf && decide (seqId < 2 ^ 64) && decide (key < 2 ^ 64) && hdr.wf && bytesOk data
  | .conduitRetry conduit _ => decide (conduit < 2 ^ 20)
  | .conduitOpenControl => true
  | .conduitCloseControl => true
  | .conduitResetControl => true
  | .transferFreeze _ seqId => decide (seqId < 2 ^ 64)
  | .freezeLimitExpiry _ seqId => decide (seqId < 2 ^ 64)
  | .chartPrepare _ node epoch _ _ => decide (node < 2 ^ 20) && decide (epoch < 2 ^ 64)
  | .prepared _ node epoch => decide (node < 2 ^ 20) && decide (epoch < 2 ^ 64)
  | .chartRefuse _ node epoch _ => decide (node < 2 ^ 20) && decide (epoch < 2 ^ 64)
  | .chartCommit _ epoch _ => decide (epoch < 2 ^ 64)
  | .committed _ node epoch => decide (node < 2 ^ 20) && decide (epoch < 2 ^ 64)
  | .chartAbort _ epoch => decide (epoch < 2 ^ 64)
  | .chartResend _ node => decide (node < 2 ^ 20)
  | .chartBoundary _ => true
  | .chartPropose _ => true
  | .chartCommitControl _ => true
  | .chartAbortControl _ => true
  | .chartInstall _ => true
  | .abandonTransfers _ => true
  | .schedulerSelect _ => true
  | .tenantPolicingWrite _ _ _ => true
  | .rereadDone frame _ _ => decide (frame < 2 ^ 24)
  | .fetchTimeout frame => decide (frame < 2 ^ 24)
  | .rewriteReadback frame _ => decide (frame < 2 ^ 24)
  | .patrolRead frame _ _ => decide (frame < 2 ^ 24)
  | .mirrorRecord _ _ r => r.wf
  | .mirrorAck _ _ => true
  | .recordHoldExpiry _ => true
  | .pairBeat _ _ => true
  | .pairBeatTimer => true
  | .beatTimeout => true
  | .rebuild => true
  | .abandonRebuild => true
  | .fence => true
  | .probation => true
  | .lift epoch => decide (epoch < 2 ^ 64)
  | .leaseExpiry => true
  | .leaseRenewal epoch => decide (epoch < 2 ^ 64)
  | .leaseWrite _ => true
  | .orphanMark _ bucket => decide (bucket < 65536)
  | .orphanClear _ bucket => decide (bucket < 65536)
  | .watchdogExpiry _ => true
  | .stewardRestarted _ => true
  | .bid node _ _ epoch => decide (node < 2 ^ 20) && decide (epoch < 2 ^ 64)
  | .bidTimer => true
  | .leaderEvaluate => true
  | .tidePrepare _ epoch _ _ => decide (epoch < 2 ^ 64)
  | .ready node _ epoch => decide (node < 2 ^ 20) && decide (epoch < 2 ^ 64)
  | .tideRefuse node _ epoch _ => decide (node < 2 ^ 20) && decide (epoch < 2 ^ 64)
  | .tideCommit _ epoch _ _ => decide (epoch < 2 ^ 64)
  | .cancel _ epoch => decide (epoch < 2 ^ 64)
  | .tideDone node _ epoch => decide (node < 2 ^ 20) && decide (epoch < 2 ^ 64)
  | .tideResend node => decide (node < 2 ^ 20)
  | .proposalCutoff => true
  | .ptpMessage _ => true
  | .powerEstimate _ _ _ _ _ _ => true
  | .powerCalibration _ _ => true
  | .throttleRelease => true
  | .powerCapWrite _ => true
  | .droop _ _ _ => true
  | .droopClear _ => true
  | .droopLong _ => true
  | .gaugeReading _ _ => true
  | .thermalTick _ _ => true
  | .thermalRecoveryTick _ _ => true
  | .dampIdleExpiry _ => true
  | .dryIdleExpiry _ => true
  | .polderWake _ => true
  | .sleepAutomatic _ => true
  | .holdWet _ => true
  | .holdDamp _ => true
  | .holdDry _ => true
  | .automaticSleepWrite _ => true
  | .nonce _ => true
  | .reportStands _ => true
  | .envelopeWeightKey e => e.wf
  | .envelopeJobKey e => e.wf
  | .envelopeSessionKeys e => e.wf
  | .switchGeneration => true
  | .eraseGeneration0 => true
  | .eraseGeneration1 => true
  | .eraseSlot => true
  | .breach _ => true
  | .signatureRecheck _ => true
  | .entropyFailure => true
  | .policyLock => true
  | .breachLevelWrite _ _ => true
  | .confidentialStart => true
  | .confidentialEnd => true
  | .meteringRecordTimer => true
  | .meteringRecord bytes => bytesOk bytes
  | .counterCheckpoint => true
  | .crystalCompare _ => true
  | .tenantReading _ _ => true
  | .logReading _ _ => true
  | .readingStands _ => true
  | .imageLoadTidegauge image => bytesOk image
  | .updatePackage bytes _ => bytesOk bytes
  | .updateEnableChange _ => true
  | .logClear _ _ _ => true
  | .gaugeTimeAdjustment _ => true
  | .tenantRetire _ => true
  | .islandPowerOn _ => true
  | .powerOn => true
  | .warmReset _ => true
  | .warmResetControl => true
  | .perst => true
  | .selfCheckComplete _ => true
  | .identityDerived record _ key => bytesOk record && bytesOk key
  | .gaugeStartRead _ => true
  | .trainingComplete _ => true
  | .bootDescriptor desc list => bytesOk desc && bytesOk list
  | .bundleWrite _ _ => true
  | .bundleReceived b => b.wf
  | .stewardReady _ => true
  | .programsLoaded => true
  | .ptpLock _ _ => true
  | .ptpWaitExpiry => true
  | .startStepTimeout _ _ => true
  | .bermControl => true
  | .woaRead m => m.wf
  | .woaWrite m => m.wf
  | .segment m => m.wf
  | .woaAck m => m.wf
  | .woaAbort m => m.wf
  | .woaRetransmit client xfer => decide (client < 2 ^ 32) && decide (xfer < 65536)
  | .woaIdleTimeout client xfer => decide (client < 2 ^ 32) && decide (xfer < 65536)
  | .h2dpost m => m.wf
  | .d2hlen _ => true
  | .sourceArrival _ => true
  | .gathererSelect => true
  | .gclaim _ => true
  | .gcomplete _ _ => true
  | .gthresh _ _ => true
  | .gpendSet _ => true
  | .gpendClear _ => true
  | .complete _ _ => true
  | .setpendSet _ _ => true
  | .setpendClear _ _ => true
  | .sourceSetPending => true
  | .sourceClearPending => true
  | .sourceConfiguration _ => true
  | .sqtail _ _ => true
  | .submissionRead _ entry body => bytesOk entry && bytesOk body
  | .cqhead _ _ => true
  | .ringEnable _ _ _ _ => true
  | .ringDisable _ => true
  | .ringDrained _ => true
  | .coalescingTimeout _ => true
  | .windowRead _ _ _ => true
  | .windowWrite _ bytes => bytesOk bytes
  | .dmaReadFailure _ => true
  | .areaRegister _ _ => true
  | .areaRelease _ => true
  | .hostLoss => true
  | .pf1Reset => true
  | .busMasterEnable _ => true
  | .pwrfail => true
  | .pwrfailRecovery => true
  | .pwrgoodDeassert => true
  | .railExcursion _ _ => true
  | .thermtrip _ _ => true
  | .regulatorPoll _ _ _ => true
  | .mirrorRetry _ => true
  | .noAnswerToOpen conduit => decide (conduit < 2 ^ 20)
  | .stackInterfaceFailure _ => true
  | .managementLinkChange _ _ => true
  | .requestBodyRead tag bytes => decide (tag < 131072) && bytesOk bytes
  | .stewardMemoryParityFailure _ => true
  | .ptpHoldover => true
  | .icmpv6Message _ _ _ => true
  | .msiXMaskWrite _ _ _ _ _ => true
  | .entropyHealthTestPass => true
  | .islandSupplyOutOfRange => true
  | .driveInitialisationTimeout _ => true

end Sys2Proof
end

