-- ==== Sys2Proof/Tests/Slice0.lean ====
section
/-! SUPPORT. Tests: ill-formed commands, worked examples of the spec, and a state that meets the hypotheses of each statement. -/

namespace Sys2Proof.Tests

set_option Elab.async false

open Sys2Proof.Machine Sys2Proof.Safety

/-! Helper states: a polder with a small image, and a device that serves one binding and one sequence. -/

/-- A request header of a kind, a sequence and further fields (byte, width in bytes, value). -/
def hdrOf (kind seq : Nat) (fs : List (Nat × Nat)) : BitVec 256 :=
  BitVec.ofNat 256 (kind + seq * 2 ^ 64 + (fs.map fun f => f.2 * 2 ^ (8 * f.1)).sum)

/-- A request of node 5 without encryption. -/
def reqOf (kind seq : Nat) (fs : List (Nat × Nat)) : Req := { src := .fabric 5 77 0, hdr := hdrOf kind seq fs }

/-- A small image: every unit used below owns the first 8 388 608 bytes of the reservoir and 65 536 bytes of core 0's local store, gate 5
is external, and class `cls` holds one slot of unit 0, whose word is laid out from `op` and `c` (R51). -/
def imgOf (cls : Nat) (op : BitVec 8) (c : Slot) : Image :=
  { rotation := [0, 0, 0, 0, 1, 1, 1, 1, 2, 2, 2, 2, 3, 3, 3, 4], regions := [(0, 8388608, [12288, 12289, 16384, 20480])], lsRegions := [(0, 0, 65536)], slots := [(unitKey cls 0, [⟨slotWord op c 0, none⟩])], gates := [(5, [.mesh 0, .tier])], deadlines := [1], rings := [(0, 1)], repeatBounds := [(unitKey cls 0, 0, 8)], lanesIn := [(1, { pages := 256, query := 512 })] }

/-- A ring entry and the lanes bound below: 1 reports, 2 is void, 3 is tainted, 4 has reported. -/
def ent : RingEntry := { tag := 9, kind := 1, pageCount := 4, lastValid := 6, lastHere := true, chunkCount := 12 }
def lanes : Map Lane := [(1, { entry := ent }), (2, { entry := ent, voided := true }), (3, { entry := ent, tainted := true, frames := [4] }), (4, { entry := ent, reported := true, freeAt := 100 })]

/-- A polder that runs the image of one slot, and a device of it. -/
def polOf (cls : Nat) (op : BitVec 8) (c : Slot) : Polder :=
  { prog := .running, image := some (imgOf cls op c), lanes := lanes, gates := [(3, 2), (6, 65535)] }
def devOf (cls : Nat) (op : BitVec 8) (c : Slot) : State := { polders := [(0, polOf cls op c)] }

/-- Slots: in lane 0, in each lane above, and with a wait that is met, one that is not, a void lane's, and a signal that overflows. -/
def slot0 : Slot := {}
def slotIn (l : Fin 32) : Slot := { lane := l }
def slotMet : Slot := { waitGate := 3, waitCount := 2, sigGate := 3, sigCount := 1 }
def slotUnmet : Slot := { waitGate := 3, waitCount := 3 }
def slotVoid : Slot := { lane := 2, waitGate := 5, waitCount := 3 }
def slotFull : Slot := { sigGate := 6, sigCount := 1 }

/-- The image, the polder and the device whose NOP of bank unit 0 is `slot0`. -/
def img : Image := imgOf 0 0x70 slot0
def pol : Polder := polOf 0 0x70 slot0
def dev : State := devOf 0 0x70 slot0

/-! Ill-formed commands: one for each check. -/

theorem test_slot_fields_are_checked :
    [Instr.nop 0 0 { unit := 1024 }, .nop 0 0 { idx := 65536 }, .score 0 {} ⟨0, 0, 0, 256, 1, 1, 0, false⟩, .wsum 0 {} ⟨0, 0, 0, 1, 256, 1, 0, false⟩,
      .wsum 0 {} ⟨0, 0, 0, 1, 1, 1, 2, false⟩, .xreq 0 {} 1 [[256]] none, .nop 0 0 {}].map Instr.wf = [false, false, false, false, false, false, true] := by decide

theorem test_request_fields_are_checked :
    [Instr.attend (reqOf 2 8 []), .attend { reqOf 1 8 [] with src := .mirror 1 }, .attend { reqOf 1 8 [] with src := .fabric (2 ^ 20) 0 0 },
      .attend { reqOf 1 8 [] with src := .fabric 0 (2 ^ 32) 0 }, .attend { reqOf 1 8 [] with src := .fabric 0 0 4096 }, .attend { reqOf 1 8 [] with src := .fabric 0 0 0 16 }, .attend { reqOf 1 8 [] with src := .ring 0 65536 0 },
      .attend { reqOf 1 8 [] with src := .ring 0 0 (2 ^ 32) }, .attend { reqOf 1 8 [] with bodyLen := 2 ^ 32 }, .attend { reqOf 1 8 [] with replyLen := 2 ^ 32 },
      .attend { reqOf 1 8 [] with body := [256] }, .fork (reqOf 4 8 [(1, 2)]), .forkCreate (reqOf 4 8 []), .releaseTruncate (reqOf 5 8 []), .unpin (reqOf 6 8 []),
      .abortAll (reqOf 10 8 []), .queryTenantUsage (reqOf 11 8 [(20, 1)]), .replay 131072, .attend (reqOf 1 8 [])].map Instr.wf =
    [false, false, false, false, false, false, false, false, false, false, false, false, false, false, false, false, false, false, true] := by decide

/-- A packet of a message to node 1, and a HELLO of node 2. -/
def pktOf (dst hop off : Nat) (data : List Nat) : Packet := { cls := 0, dst := dst, hop := hop, src := 2, kind := 1, msg := 1, off := off, total := 32, data := data }
def helloOf (node port seq : Nat) : Hello := { digest := 9, node := node, port := port, pairLink := false, ready := true, heard := true, seq := seq }
def hdrPage (formats : Nat) : PageHdr := ⟨false, 0, 0, 0, 0, 0, formats, 0, 0, 0, 0, 0⟩

theorem test_fabric_fields_are_checked :
    [Instr.hello 0 (helloOf (2 ^ 20) 0 0), .hello 0 (helloOf 0 12 0), .hello 0 (helloOf 0 0 65536), .packetReceive 0 true false (pktOf (2 ^ 20) 0 0 []),
      .packetReceive 0 true false (pktOf 0 64 0 []), .packetReceive 0 true false (pktOf 0 0 0 [256]), .packetReceive 0 true false (pktOf 0 0 (2 ^ 20) []), .ack { conduit := 2 ^ 20 },
      .ack { conduit := 0, seq := 2 ^ 32 }, .putRef { conduit := 0 } ⟨2 ^ 64, 0, 0, false⟩, .putPage { conduit := 0 } ⟨0, 0, 0, false⟩ (hdrPage 256) [], .seal { conduit := 0 } (2 ^ 64) 0 0 [] 1,
      .chartPrepare 0 (2 ^ 20) 0 [] 0, .chartCommit 0 (2 ^ 64) 0, .fetchTimeout (2 ^ 24), .orphanMark 0 65536, .bid 0 0 0 (2 ^ 64), .nodeIdWrite (2 ^ 20),
      .packetReceive 0 true false (pktOf 1 0 0 [255]), .ack { conduit := 0 }].map Instr.wf =
    [false, false, false, false, false, false, false, false, false, false, false, false, false, false, false, false, false, false, true, true] := by decide +kernel

theorem test_service_fields_are_checked :
    [Instr.woaRead { path := 0, bytes := [256] }, .woaRead { path := 0, bytes := [], source := 2 ^ 128 }, .woaRetransmit 0 65536, .woaRetransmit (2 ^ 32) 0, .meteringRecord [256],
      .orderingFence 0 65536 0, .moveFailed (2 ^ 64), .envelopeJobKey ⟨[256], []⟩, .bundleReceived ⟨[256], true, []⟩, .submissionRead 0 [256] [], .bodySegment (2 ^ 64) 0 0 0 [] false,
      .woaWrite { path := 0, bytes := [255] }].map Instr.wf =
    [false, false, false, false, false, false, false, false, false, false, false, true] := by decide +kernel

/-! The slots' hypotheses. -/

theorem test_slot_courses_have_states :
    (slotOf (.nop 0 0 slot0) = some (0, 0, 0x70, slot0, false) ∧ dev.canRun 0 0 0x70 slot0 = true) ∧ dev.canRun 0 0 0x71 slot0 = false ∧ dev.canRun 0 0 0x70 { slot0 with idx := 1 } = false ∧
    (let d := devOf 2 0x29 (slotIn 5)
     slotOf (.done 0 (slotIn 5) 0 0 0 0) = some (0, 2, 0x29, slotIn 5, true) ∧ d.canRun 0 2 0x29 (slotIn 5) = true ∧ (d.polder 0).laneAt d.time 5 = none ∧ (d.polder 0).waits = []) ∧
    (slotOf (.done 0 slot0 0 0 0 0) = some (0, 2, 0x29, slot0, true) ∧ (devOf 2 0x29 slot0).canRun 0 2 0x29 slot0 = true) ∧
    (let d := devOf 0 0x70 slotUnmet
     d.canRun 0 0 0x70 slotUnmet = true ∧ (d.polder 0).takeWait (unitKey 0 0) slotUnmet (d.voided 0 slotUnmet) = none) := by and_intros <;> decide

theorem test_output_lane_with_a_wait_has_a_state :
    let d : State := { polders := [(0, { polOf 2 0x29 (slotIn 5) with waits := [(0, ⟨3, 3, 0, 0, 5, 0, false⟩)] })] }
    d.canRun 0 2 0x29 (slotIn 5) = true ∧ (d.polder 0).laneAt d.time 5 = none ∧ ∃ w ∈ (d.polder 0).waits, w.2.lane = (slotIn 5).lane := by decide

theorem test_waits_have_states :
    (slotMet.waitCount.val ≠ 0 ∧ Map.find pol.waits 0 = none ∧ slotMet.waitCount.val ≤ Map.getD pol.gates slotMet.waitGate 0) ∧ Map.getD pol.gates slotUnmet.waitGate 0 < slotUnmet.waitCount.val ∧
    (∃ w, Map.find [(0, Wait.mk 3 3 0 7 0 0 true)] 0 = some w ∧ w.expired = true ∧ w.idx = 7) ∧
    (Map.getD pol.gates slotVoid.waitGate 0 < slotVoid.waitCount.val ∧ (devOf 0 0x70 slotVoid).voided 0 slotVoid = true ∧ pol.external slotVoid.waitGate = true) ∧ pol.external 5 = true ∧
    pol.external 3 = false ∧ slot0.waitCount.val = 0 := by decide

/-- The polder of a slot with the wait of `slotMet` taken. -/
def polMet : Polder := { polOf 0 0x70 slotMet with gates := [(6, 65535)] }

/-- What the widest of the per-slot statements asks of a state: a slot of each class and operation runs, in lane 0, or in lane 1 with its output. -/
theorem test_slots_run_somewhere :
    SlotRuns (devOf 0 0x70 slotMet) 0 0 0x70 slotMet false polMet ∧ SlotRuns (devOf 0 0x70 slotFull) 0 0 0x70 slotFull false (polOf 0 0x70 slotFull) ∧
    (∀ x ∈ [(0, 0x00#8), (0, 0x01), (0, 0x03), (0, 0x04), (1, 0x10), (1, 0x11), (1, 0x12), (1, 0x13), (2, 0x20), (2, 0x21), (2, 0x22), (2, 0x23), (2, 0x24), (2, 0x25), (2, 0x26), (2, 0x28)],
      SlotRuns (devOf x.1 x.2 slot0) 0 x.1 x.2.toNat slot0 false (polOf x.1 x.2 slot0)) ∧
    (∀ x ∈ [(3, 0x30#8), (3, 0x31), (3, 0x33), (3, 0x34), (3, 0x35), (4, 0x40), (4, 0x41), (4, 0x42), (5, 0x50), (5, 0x51), (5, 0x53), (0, 0x70), (0, 0x71), (0, 0x72), (0, 0x73)],
      SlotRuns (devOf x.1 x.2 slot0) 0 x.1 x.2.toNat slot0 false (polOf x.1 x.2 slot0)) ∧
    (∀ x ∈ [(0, 0x02#8), (2, 0x27), (2, 0x29), (3, 0x32), (5, 0x52)], ∀ l ∈ [1, 2, 3], SlotRuns (devOf x.1 x.2 (slotIn l)) 0 x.1 x.2.toNat (slotIn l) true (polOf x.1 x.2 (slotIn l))) := by
  unfold SlotRuns; and_intros <;> decide +kernel

theorem test_signal_totals_have_states :
    Map.getD polMet.gates 3 0 + (1 - Map.getD polMet.absorb 3 0) ≤ 65535 ∧ 65535 < Map.getD pol.gates 6 0 + (1 - Map.getD pol.absorb 6 0) := by decide

theorem test_repeat_counts_have_states :
    pol.image = some img ∧ (img.repeatBounds.find? fun b => decide (b.1 = unitKey 0 0) && decide (b.2.1 = 0)) = some (unitKey 0 0, 0, 8) ∧
    (∃ a, pol.laneAt dev.time 1 = some a ∧ a.entry.pageCount = 4 ∧ a.entry.lastValid = 6 ∧ a.entry.chunkCount = 12) ∧ (Map.getD pol.repeats (unitKey 0 0) []).length < 2 := by decide

/-- A word written out from R51 and R100: opcode 31h in [7:0], lane 5 in [12:8], wait gate 3 in [27:16] and count 2 in [35:28], signal gate 4 in
[47:36] and count 1 in [55:48], deadline 6 in [63:56], toward zero in [119], output code 3 in [123:120], input code 1 in [127:124]; and three words
that are reserved encodings: bit 13 set, an opcode no class has, a format that MM does not accept. -/
theorem test_slot_words_read_right :
    Slot.ofWord 0 0 0x13800000000000000601004020030531 = { lane := 5, waitGate := 3, waitCount := 2, sigGate := 4, sigCount := 1, deadline := 6, fin := 1, fout := 3, rz := true } ∧
    slotReserved 3 0x2031 = true ∧ slotReserved 3 0x36 = true ∧ slotReserved 3 0xE0000000000000000000000000000031 = true ∧ slotReserved 3 0x10000000000000000000000000000031 = false ∧
    slotReserved 0 0x35 = true ∧ slotReserved 0 0x73 = false := by decide +kernel

/-! Worked examples of the spec. Each expected value is the spec's own. -/

/-- M-60 (00_scope.md, 01_architecture.md): 60 layers, 96 query heads, 12 KV heads of dimension 96, keys TERP7, values FP8 E4M3. -/
def m60 : Shape := ⟨60, 96, 12, 96, 9216, 15, 3, 4, 3, 0⟩

/-- R345: the nine characters 123456789 give E3069283h; R132: they give 995DC9BBDF1939FAh. -/
theorem test_check_values : crc32c [0x31, 0x32, 0x33, 0x34, 0x35, 0x36, 0x37, 0x38, 0x39] = 0xE3069283 ∧
    crc64 [0x31, 0x32, 0x33, 0x34, 0x35, 0x36, 0x37, 0x38, 0x39] = 0x995DC9BBDF1939FA := by decide +kernel

/-- The worked example of TERP7 (03_number_formats.md): 5.3 and -0.71 and 0.03 in one channel, 7.96 in another. -/
theorem test_terp_codes : encodeTerpBlock 1 false [.fin false 1357 (-8), .fin true 182 (-8), .fin false 8 (-8)] = 0x81 :: leBytes 3 (0x2A + 0x46 * 2 ^ 7 + 0 * 2 ^ 14) ∧
    encodeTerpBlock 1 false [.fin false 2038 (-8)] = [0x81, 0x3F] := by decide +kernel

/-- The heads per group and the bytes of an M-60 page (01_architecture.md, steps 1 to 5). -/
theorem test_m60_pages : m60.headsPerGroup = 4 ∧ 4 * headBytes 15 24 = 5472 ∧ 4 * headBytes 3 24 = 6144 ∧ 4 * (m60.keyRegion 4 + m60.valRegion 4) = 46592 := by decide

/-- The ragged batch of 04_decode_attention.md: the buckets, the body and the reply. -/
theorem test_ragged_batch : bucketFor 6144 = 2 ∧ bucketFor 40001 = 5 ∧ bucketFor 250001 = 7 ∧ attendBody m60 12 1 1 1 = 23040 ∧ 12 * m60.g * partialBytes 96 1 = 19968 := by decide

/-- An encrypted ATTEND of 23 072 bytes (08_fabric_links.md, steps 6 and 7): six packets, the last with 2 672 data bytes, 96 units. -/
theorem test_encrypted_attend : (packetsOf (some 1) { cls := 0, dst := 1, hop := 0, src := 2, kind := 1, msg := 1, off := 0, total := 0 } (List.replicate 23072 0)).length = 6 ∧
    23072 - 5 * 4080 = 2672 ∧ 5 * needUnits 4096 + needUnits (2672 + 16) = 96 := by decide +kernel

/-- The Huffman lengths of 07_tiers_and_compression.md, step 1, and the exponent bits of step 3. -/
theorem test_huffman_lengths :
    let counts := [256, 80, 128, 208, 336, 512, 688, 848, 592, 256, 80, 48, 32, 16, 16, 0, 0]
    let lens := [4, 5, 5, 4, 4, 3, 3, 2, 3, 4, 5, 6, 7, 8, 8, 0, 0]
    packageMerge counts = lens ∧ kraftOk lens = true ∧ ((counts.zip lens).map fun x => x.1 * x.2).sum = 13504 := by decide +kernel

/-- The records and the image of 07_tiers_and_compression.md, steps 8, 9 and 15 to 18, and a drive's extents. -/
theorem test_spill_sizes : recordBlocks 44880 = 11 ∧ m60.rawRecord = 47040 ∧ recordBlocks 47040 = 12 ∧ imageBlocks 184320 2027520 = 2027883 ∧ extentsOf 2027883 = 1981 := by decide

/-- A report holds 13 003 bytes (16_object_dictionary.md), which is a segmented read. -/
theorem test_report_length : ({ sec := { report := some ⟨0, 0, 0, [], 0, 255, 0, 0⟩ } } : State).readLen 0x2E1002 = 13003 := by decide

/-- The hour of 14_metering.md, step 7: 11 515 370 400 token-head products are 11 245 478 units with remainder 928. -/
theorem test_metering_hour :
    let s : State := { gauge := { st := .running } }
    ∃ t, exec (.meteringRecord (MRecord.bytes ⟨1, 0, 0x2A7, 3, 11515370400⟩)) s = .next t ∧ Map.getD t.gauge.counters (0x2A7 * 8 + 3) 0 = 11245478 ∧ Map.getD t.gauge.residue (0x2A7 * 8 + 3) 0 = 928 :=
  ⟨_, rfl, by decide +kernel⟩

/-- The burst of 17_interrupts.md, in count mode: source 062h is routed to PF0, three more arrive, COMPLETE shows 3, and the next goes to S1. -/
def gatherer : State :=
  { start := { st := .serving, stewards := [(0, .running), (1, .running)] }, host := { master := true },
    gath := { sources := [(5, { enable := true, active := true, route := some 1, prio := 12, mask := 2, held := 12 }), (0x62, { enable := true, pending := true, prio := 6, mask := 0x12, vector := 0xA2 })],
              msix := [(0, { enable := true, unmasked := [0xA2] })] } }
def after (s : State) : List Instr → State
  | [] => s
  | c :: l => match exec c s with | .next t => after t l | _ => s

theorem test_burst_in_count_mode :
    gatherer.selected = some 0x62 ∧ gatherer.target (gatherer.source 0x62) = some 4 ∧
    (let t := after gatherer [.gathererSelect, .sourceArrival 0x62, .sourceArrival 0x62, .sourceArrival 0x62]
     (t.source 0x62).count = 3 ∧ (t.source 0x62).active = true ∧ t.out.head? = some (.msix false 0xA2)) ∧
    (let t := after gatherer [.gathererSelect, .sourceArrival 0x62, .sourceArrival 0x62, .sourceArrival 0x62, .gcomplete 1 5, .complete false 0x62, .sourceArrival 0x62]
     (t.source 0x62).last = 3 ∧ (t.source 0x62).count = 0 ∧ (t.source 0x62).pending = true ∧ t.selected = some 0x62 ∧ t.target (t.source 0x62) = some 1) := by and_intros <;> decide +kernel

/-! Slots: states that meet the hypotheses of the clauses. -/

/-- A bank operation of one head of 4 channels in row 0. -/
def bop : BankOp := ⟨0, 256, 64, 1, 1, 4, 0, false⟩

/-- The device of a SCORE in bank unit 0. -/
def scoreDev (c : Slot) : State := devOf 0 0x00 c

theorem test_bank_operations_have_states :
    (decide (bop.heads * bop.g ≤ 32 ∧ bop.heads * bop.g * bop.c * 4 ≤ 4096) = true ∧ inRow bop.row bop.off bop.bytes = true ∧ (scoreDev slot0).startHeld 0 0 slot0 = false ∧ pol.busy 0 < ((scoreDev slot0).concurrency 0).1) ∧
    inRow 0 16321 64 = false ∧ inRow 0 16320 64 = true ∧
    (let x : Polder := { polOf 0 0x00 slot0 with image := some { imgOf 0 0x00 slot0 with concurrency := 1 }, computing := [(7, 9)] }
     let d : State := { polders := [(0, x)] }
     d.startHeld 0 0 slot0 = false ∧ (d.concurrency 0).1 ≤ x.busy d.time) ∧
    (let d : State := { polders := [(0, { polOf 0 0x00 slot0 with computing := [(7, 9)] })], power := { concCeil := 1 } }
     (d.concurrency 0).2 < (d.concurrency 0).1 ∧ (d.concurrency 0).2 ≤ (d.polder 0).busy d.time ∧ d.startHeld 0 0 slot0 = true) ∧
    (let d : State := { polders := [(0, { polOf 0 0x00 slot0 with heldStarts := [7] })] }
     d.startHeld 0 0 slot0 = true) ∧
    (dev.lostFrame 0 = false ∧ dev.readOk 256 64 false = true ∧ dev.readOk 256 64 true = false) ∧
    (let d : State := { frames := [(0, { hdr := ⟨true, 0, 0, 0, 1, 0, 0, 1, 4, 0, 0, 0⟩, count := 1, health := .lost })] }; d.lostFrame 0 = true) := by and_intros <;> decide +kernel

theorem test_writes_and_copies_have_states :
    (inRow 0 256 64 = true ∧ 64 ≤ 2048 ∧ quietLane dev 0 1 = false ∧ quietLane dev 0 2 = true ∧ quietLane dev 0 3 = true) ∧
    (sectorsOf (bankAddr 0 0 0 256) 64).length = 1 ∧ pol.wordsOk 0 64 = true ∧ { pol with carried := [(0, 1)] }.wordsOk 0 64 = false ∧
    { pol with carried := [(0, crc32c (List.replicate 64 0))] }.wordsOk 0 64 = true := by and_intros <;> decide +kernel

theorem test_core_operations_have_states :
    (pol.inLocal 0 0 65536 = true ∧ pol.inLocal 0 1 65536 = false ∧ pol.inLocal 1 0 4 = false) ∧ (-(2 ^ 31 : Int) ≤ 2 ^ 31 - 1) ∧ ¬ (vopInt .add (2 ^ 31 - 1) 1 0 < 2 ^ 31) ∧
    vopInt .add (2 ^ 31 - 2) 1 0 < 2 ^ 31 := by and_intros <;> decide

theorem test_conversions_have_states :
    (pol.inLocal 0 0 (fmtBytes 0 4) = true ∧ pol.inLocal 0 64 (fmtBytes 1 4) = true) ∧ (encodeVec 12 8 false (decodeVec 0 1 8 [0, 0, 0x80, 0x7F])).2 ≠ 0 ∧ (encodeVec 1 8 false (decodeVec 0 1 8 [0, 0, 0x80, 0x3F])).2 = 0 ∧
    pol.outq + 65536 ≤ 262144 ∧ 262144 < { pol with outq := 262144 }.outq + 1 ∧ 8 + 65536 ≤ reservoirBytes := by and_intros <;> decide

/-- Deals that fill each unit's share, and ones that do not fit (R69): 131 072 bytes over 32 units are 4 096 each, and over 31 more. -/
theorem test_culverts_have_states :
    let o : CulvertOp := { first := 0, span := 32, bytes := 131072 }
    (o.bytes ≤ 131072 ∧ 1 ≤ o.span ∧ o.first + o.span ≤ 32 ∧ o.core < 150 ∧ dealMax o = 4096) ∧ dealMax { o with span := 31 } = 4229 ∧ dealMax { o with bytes := 65536 } = 2048 ∧
    pol.inLocal 0 0 65536 = true ∧ pol.inLocal 0 0 65537 = false ∧ dealAt { o with bytes := 96, span := 2, chan := 16 } 50 = (1, 18) := by decide

theorem test_arrays_have_states :
    (pol.owns (unitKey 3 0) 0 131072 = true ∧ pol.owns (unitKey 3 0) 8388608 1 = false) ∧ pol.owns (unitKey 3 0) 0 (1024 * fmtBytes 1 256) = true ∧
    outFits 2048 0 16 1 = true ∧ outFits (2 ^ 21) 0 256 0 = false ∧ 1023 + ceilDiv 2048 2048 ≤ 1024 ∧ 0 + 262144 ≤ 262144 ∧ 262144 + 2048 ≤ 2 ^ 20 ∧ 2 ^ 20 < 786433 + 262144 := by and_intros <;> decide

theorem test_expander_has_states :
    (16 ≤ 2097152 ∧ queueBytes pol.xq + 2097152 ≤ 2097152 ∧ 2097152 < queueBytes [List.replicate 16 0] + 2097137) ∧ pol.owns (unitKey 4 0) 0 160 = true ∧ pol.owns (unitKey 4 0) 8388449 160 = false ∧
    (inStack 0 (bankAddr 0 0 0 256) 64 = true ∧ dev.readOk (bankAddr 0 0 0 256) 64 false = true) ∧ (pol.xblkTarget 0 4096).isSome = true ∧ pol.xblkTarget 8388608 4096 = none := by and_intros <;> decide

theorem test_dma_engine_has_states :
    (64 ≤ 4177920 ∧ inStack 0 (bankAddr 0 0 0 256) 64 = true ∧ pol.owns (unitKey 5 0) 0 64 = true) ∧ 64 ≤ 4088 * 256 * pol.share 3 ∧ 64 ≤ 2093056 ∧ 0 + 64 ≤ reservoirBytes := by and_intros <;> decide

theorem test_admissions_have_states :
    let d : State := { polders := [(0, { polOf 2 0x28 slot0 with lanes := [(5, { entry := ent })], rings := [(2, [ent])] })] }
    (d.polder 0).admits 0 = true ∧ (d.polder 0).inLocal 0 0 (128 * 31) = true ∧ (1 ≤ 1 ∧ 1 + 31 ≤ 32 ∧ 31 ≤ 31) ∧ ((d.polder 0).laneAt 0 5).isSome = true ∧ (d.polder 0).laneAt 0 4 = none ∧
    ((d.polder 0).laneIn 1).isSome = true ∧ (d.polder 0).laneIn 2 = none := by and_intros <;> decide

/-- Lanes report: one that has not, one that has; and a running request of the lane's tag. -/
def req9 : Request := { gen := 0, src := .fabric 5 77 0, hdr := 0, kind := 1, seqId := 8, layer := 0, order := 1, phase := .running, outstanding := 1 }
theorem test_reports_have_states :
    (pol.laneAt dev.time 1 = some { entry := ent }) ∧ (∃ a, pol.laneAt dev.time 4 = some a ∧ a.reported = true) ∧
    (let d : State := { polders := [(0, pol)], reqs := [(9, req9)] }
     Map.find d.reqs ent.tag = some req9 ∧ req9.phase = .running ∧ req9.gen = ent.gen) := by and_intros <;> decide

theorem test_contract_faults_have_states :
    let d : State := { polders := [(0, { pol with waits := [(0, ⟨3, 3, 0, 0, 0, 0, false⟩)], gates := [(5, 65535)] })], reqs := [(9, req9)] }
    let x := d.polder 0
    (∃ w, Map.find x.waits (unitKey 0 0) = some w ∧ w.idx = slotUnmet.idx ∧ x.external w.gate = false) ∧ (x.awaits 5 .tier = true ∧ x.awaits 5 .hostDma = false ∧ 65535 < Map.getD x.gates 5 0 + (1 - Map.getD x.absorb 5 0)) ∧
    x.prog = .running ∧ x.recorded = false ∧ (∃ a, x.laneAt d.time 1 = some a ∧ a.voided = false ∧ Map.find d.reqs a.entry.tag = some req9 ∧ req9.gen = a.entry.gen ∧ req9.claimed = false) := by and_intros <;> decide

theorem test_deadlines_have_states :
    let d : State := { time := 10 ^ 9, polders := [(0, { pol with image := some { img with deadlines := [5] }, waits := [(0, ⟨5, 3, 0, 0, 0, 1, false⟩)], gates := [(5, 1)], absorb := [] })] }
    (∃ w, Map.find (d.polder 0).waits (unitKey 0 0) = some w ∧ w.idx = 0 ∧ w.expired = false ∧ w.deadline ≠ 0 ∧ (d.polder 0).external w.gate = true ∧ w.began + (d.polder 0).deadlineNs w.deadline ≤ d.time ∧
      ({ d with time := 0 } : State).time < w.began + (d.polder 0).deadlineNs w.deadline) ∧ (d.polder 0).prog = .running ∧
    Map.getD (d.polder 0).gates 5 0 + (65534 - Map.getD (d.polder 0).absorb 5 0) ≤ 65535 := by and_intros <;> decide +kernel

theorem test_passes_have_states :
    let x : Polder := { pol with ended := [0], lanes := [], gates := [] }
    (x.image = some img ∧ x.prog = .running ∧ x.closed = false ∧ (∀ u ∈ img.slots, u.2 ≠ [] → x.ended.contains u.1 = true) ∧ (∀ g ∈ x.gates, g.2 = 0) ∧ (∀ l ∈ Map.keys x.lanes, x.laneAt 0 l = none) ∧
      x.damping = false ∧ x.drying = false) ∧
    (let y := { x with gates := [(2, 0), (3, 1), (4, 1)] }
     (∃ n, Map.find y.gates 3 = some n ∧ 0 < n ∧ ∀ h ∈ y.gates, 0 < h.2 → 3 ≤ h.1) ∧ Map.wf y.gates) ∧
    (let y := { x with lanes := lanes }
     (y.laneAt 0 1).isSome = true ∧ Map.wf y.lanes) ∧
    ({ x with quiesceCtl := true }.quiesceCtl = true) := by and_intros <;> decide

/-- Images: one that passes the loader's checks, and one for each refusal of R48 in its order. -/
theorem test_images_have_states :
    refusalOf dev img = 0 ∧ refusalOf dev { img with edition := 2 } = 1 ∧ refusalOf dev { img with concurrency := 513 } = 2 ∧ refusalOf dev { img with slots := [(1024, [])] } = 3 ∧
    refusalOf dev { img with reservedSet := true } ≠ 0 ∧ refusalOf dev { img with slots := [(0, [⟨0x35, none⟩])] } = 7 ∧
    refusalOf dev { img with slots := [(0, [⟨0x02, some 2049⟩])] } = 8 ∧ refusalOf dev { img with slots := [(0, [⟨0x02, some 2048⟩])] } = 0 := by and_intros <;> decide +kernel

/-! The gatherer: states that meet the hypotheses. -/

theorem test_sources_have_states :
    (sourceReal 5 = true ∧ sourceReal 0x1FF = false) ∧ (bit 0x12 4 = true ∧ bit 0x12 5 = false) ∧
    ((gatherer.source 5).active = true ∧ (gatherer.source 5).route = some 1) ∧ (gatherer.source 0x62).active = false ∧
    (({ regs := [(0x2D0101, 5)] } : State).obj 0x2D0101 = 5) ∧
    (Map.wf gatherer.gath.sources ∧ gatherer.selected = some 0x62 ∧ gatherer.eligible (gatherer.source 0x62) = true ∧ gatherer.target (gatherer.source 0x62) = some 4) ∧
    State.reset.selected = none := by and_intros <;> decide

/-- Each row of R516's table has a source. -/
theorem test_source_rows_have_states :
    SourceArrives {} { pending := true } ∧ SourceArrives { pending := true, count := 65535 } { pending := true, count := 65535 } ∧ SourceClears { active := true, pending := true } { active := true } ∧
    SourceCompletes { active := true, count := 3 } { last := 3 } := by
  refine ⟨?_, ?_, ?_, ?_⟩ <;> simp [SourceArrives, SourceClears, SourceCompletes]

theorem test_selection_targets_have_states :
    (let d := after gatherer [.gcomplete 1 5, .gthresh 1 0]
     d.selected = some 0x62 ∧ d.target (d.source 0x62) = some 1 ∧ (1 < 4)) ∧
    (let d : State := { gatherer with host := { master := false } }
     d.selected = some 0x62 ∧ d.target (d.source 0x62) = some 4 ∧ d.host.master = false) ∧
    (let d : State := { gath := { sources := [(0x181, { enable := true, pending := true, mask := 32 })], msix := [(1, { enable := true, unmasked := [0] })] } }
     d.selected = some 0x181 ∧ d.target (d.source 0x181) = some 5) ∧
    (let d := after gatherer [.gcomplete 1 5, .gathererSelect]
     Map.getD d.gath.claim 1 [] ≠ [] ∧ Map.getD d.gath.claim 2 [] = []) := by and_intros <;> decide +kernel

theorem test_configurations_have_values :
    (bit 0x06001000 12 = true ∧ 0x06001000 / 2 ^ 16 % 2 ^ 11 = 1536) ∧ (bit 0x02002000 13 = true ∧ 0x02002000 / 2 ^ 16 % 2 ^ 11 = 512) ∧
    ¬ ((bit 0x05FF1000 12 = true ∧ 1536 ≤ 0x05FF1000 / 2 ^ 16 % 2 ^ 11) ∨ (bit 0x05FF1000 13 = true ∧ 512 ≤ 0x05FF1000 / 2 ^ 16 % 2 ^ 11)) ∧ State.reset.obj 0x2D0101 < 512 := by and_intros <;> decide

theorem test_msix_disable_has_a_state :
    let d := after gatherer [.gathererSelect]
    (Map.getD d.gath.msix 0 {}).enable = true ∧ (d.source 0x62).active = true ∧ (d.source 0x62).route = some (4 + 0) ∧ d.time * d.tempo.cur ≤ (d.source 0x62).selected * d.tempo.cur + 3000 ∧ (d.source 0x62).held < 15 := by and_intros <;> decide +kernel

/-! A device in service: binding 0 has two layers, two KV heads of dimension 4 in BF16 and one group; sequence 8 has 64 tokens in frames 4 and 5. -/

def seq8 : Seq := { binding := 0, base := 0, counts := [64, 64], leaves := [(0, ⟨4, 1⟩), (16384, ⟨5, 1⟩)] }
def hdr8 : PageHdr := ⟨false, 8, 0, 0, 64, 0, 0x11, 2, 4, 1280, 0, 0⟩
def bindingRegs : Map Nat := [(0x2B8001, 2), (0x2B8002, 2), (0x2B8003, 2), (0x2B8004, 4), (0x2B8005, 32), (0x2B8006, 0x11), (0x2B8007, 2), (0x2B8008, 1), (0x2B8009, 1)]
def srv : State :=
  { start := { st := .serving, portsUp := true, stewards := [(0, .running), (1, .running), (2, .running), (3, .running)] }, regs := bindingRegs,
    seqs := [(8, seq8)], frames := [(4, { hdr := hdr8, count := 1 }), (5, { hdr := hdr8, count := 1 })], sec := { storageKeys := true, identityKey := true, transportKey := true } }

/-- Requests on sequence 8: an ATTEND of both heads without an attachment, and one on layer 2, which does not exist. -/
def attend8 : Req := { reqOf 1 8 [(25, 2), (26, 1)] with bodyLen := 16 }
def attendBad8 : Req := { reqOf 1 8 [(2, 2), (25, 2), (26, 1)] with bodyLen := 16 }

theorem test_admission_has_states :
    ((checksOf srv (.attend attend8)).isSome = true ∧ srv.start.st = .serving ∧ srv.tombOf attend8 = none ∧ Map.has srv.seqs attend8.seqId = true) ∧
    (∀ b ∈ (8, 0x14, false) :: (61, 1, attend8.reserved) :: srv.attendBad attend8, b.2.2 = false) ∧
    ((2, 5, true) ∈ srv.attendBad attendBad8 ∧ ∀ b ∈ srv.attendBad attendBad8, b.2.2 = true → b.1 = 2 ∧ b.2.1 = 5) ∧
    ({ srv with fence := { st := .fenced } } : State).checks23 attend8 false false 0 = .stop ⟨.fenced, 0, [0, 0, 0, 0]⟩ ∧
    ({ srv with fence := { st := .probation } } : State).checks23 attend8 true false 0 = .stop (.busy 0x0E) ∧
    srv.checks23 attend8 false false 0 = .go ∧
    (let d : State := { srv with regs := [(0x244001, 1), (0x30000B, 1)] }
     d.compOf 0 = some 0 ∧ d.checks23 { attend8 with hdr := hdrOf 1 8 [(4, 1), (25, 2)] } false false 0 = .wait 0 false ∧ d.holds.length < 4096) := by and_intros <;> decide +kernel

/-! Requests: states that meet the hypotheses of the clauses. -/

def append8 : Req := { reqOf 2 8 [(20, 1), (23, 2), (24, 1)] with bodyLen := 32 }
def prefill8 : Req := { reqOf 3 8 [(20, 8), (23, 2)] with bodyLen := 9999 }

theorem test_layer_requests_have_states :
    (Passes srv attend8 false false true 0 (srv.attendBad attend8) ∧ srv.freeTag = some 0 ∧ Map.find srv.seqs attend8.seqId = some seq8) ∧
    (let q := { admitted srv attend8 0 .held with isWrite := false, tokens := 0, firstHead := 0, heads := 2 }
     (taken srv attend8 0 q).heldBack q = false ∧ ∃ v, (taken srv attend8 0 q).resourceChecks q seq8 = .ok v) := by
  unfold Passes
  refine ⟨by decide +kernel, by decide +kernel, ⟨_, rfl⟩⟩

theorem test_resource_answers_have_states :
    let q : Request := { admitted srv attend8 0 .held with isWrite := true, tokens := 1, firstHead := 0, heads := 2 }
    (seq8.resident (srv.shape 0) 0 = true ∧ srv.dutyGone 1 = false ∧ srv.quotaFor 0 1 1 = true ∧ q.kind = 1) ∧ { seq8 with st := .spilled }.resident (srv.shape 0) 0 = false ∧
    (({ srv with regs := bindingRegs ++ [(0x300001, 1)], charges := [(0, { t1 := 1 })] } : State).quotaFor 0 1 1 = false) ∧ ({ srv with weights := [(0, { polders := [3] })] } : State).canProject 0 = false ∧
    (touched 64 1 0 1).length = 1 ∧ (∀ p, p < 8 → touchedOn (touched 64 1 0 1) 0 p false ≤ srv.freeFrames p ∧ touchedOn (touched 64 1 0 1) 0 p true ≤ srv.freeTails p) := by and_intros <;> decide +kernel

/-- A request that waits, one that runs with taints, one that awaits its body, and one held at the chart. -/
def held8 : Request := { gen := 1, src := .fabric 5 77 0, hdr := attend8.hdr, kind := 1, seqId := 8, layer := 0, order := 1, phase := .held, checked := true, heads := 2 }
theorem test_holds_have_states :
    (let d : State := { srv with reqs := [(3, held8)], orderCtr := 1 }
     Map.find d.reqs 3 = some held8 ∧ d.heldBack held8 = false ∧ Map.find d.seqs 8 = some seq8 ∧ lostPages (d.shape 0) seq8 0 0 1 = [] ∧ seq8.tokens 0 + held8.tokens = 64 ∧
       (d.takeFrames (d.shape 0) 8 0 64 seq8 (touched 64 0 0 1)).isSome = true) ∧
    (let e := { seq8 with counts := [0, 0], leaves := [] }
     e.tokens 0 + held8.tokens = 0) ∧
    (let e := { seq8 with leaves := [(0, ⟨4, 3⟩)] }
     lostPages (srv.shape 0) e 0 0 1 ≠ []) ∧
    (let d : State := { srv with reqs := [(2, { held8 with kind := 2, isWrite := true, order := 1 }), (3, { held8 with order := 2 })] }
     d.heldBack { held8 with order := 2 } = true) ∧
    (let q := { held8 with phase := .recover, tainted := [4], reports := [(0x0B, 0)] }
     let d : State := { srv with reqs := [(3, q)] }
     (∀ f ∈ q.tainted, ∀ x, Map.find d.frames f = some x → x.health = .good) ∧ ∀ x ∈ q.reports, x.1 ≠ 0x10) ∧
    (let d : State := { srv with frames := [(4, { hdr := hdr8, count := 1, health := .lost })] }
     (∃ x, Map.find d.frames 4 = some x ∧ x.health = .lost)) ∧
    (let d : State := { srv with frames := [(4, { hdr := hdr8, count := 1, health := .reread })] }
     (∃ x, Map.find d.frames 4 = some x ∧ x.health ≠ .lost ∧ x.health ≠ .good)) ∧
    (let d : State := { srv with holds := [(1, ⟨attend8, 0, true, 0⟩)] }
     ∃ h, Map.find d.holds 1 = some h ∧ h.req.src.isMirror = false) := by
  refine ⟨by and_intros <;> decide +kernel, by decide, by decide +kernel, by decide +kernel, ⟨?_, by decide⟩, by decide, by decide, ⟨_, rfl, rfl⟩⟩
  intro f hf x hx
  simp [srv] at hf hx
  subst hf
  simp [Map.find] at hx
  simp [← hx]

theorem test_bodies_have_states :
    let q := { held8 with kind := 3, phase := .body, bodyKey := 9, bodyLen := 100 }
    let b : Body := { tag := 3, len := 100, source := 5, frames := [0] }
    let d : State := { srv with reqs := [(3, q)], bodies := [(3, b)] }
    (d.bodies.find? (fun x => decide (x.2.source = 5) && (match Map.find d.reqs x.1 with
      | some q => decide (q.bodyKey = 9) && decide (q.phase = .body)
      | none => false)) = some (3, b)) ∧ b.len < 50 + 51 ∧ (50 + 49 ≤ b.len ∧ rangeTotal (addRange b.ranges 50 49) < b.len ∧ b.len ≤ 65536 * b.frames.length ∧ b.frames.Nodup) ∧
    (∀ x ∈ d.bodies, x.2.source ≠ 6) := by and_intros <;> decide +kernel

theorem test_ring_bodies_have_states :
    let q := { held8 with kind := 3, phase := .body, src := .ring 0 1 2, bodyLen := prefillBody (srv.shape 0) 0, hdr := 0 }
    let d : State := { srv with reqs := [(2, { held8 with kind := 3, isWrite := true, order := 0 }), (3, q)], bodies := [(3, { tag := 3, len := q.bodyLen })] }
    Map.find d.reqs 3 = some q ∧ d.sec.conf = false ∧ Map.find d.seqs q.seqId = some seq8 ∧ d.heldBack { q with phase := .held } = true ∧ ({ srv with sec := { srv.sec with conf := true } } : State).sec.conf = true := by
  and_intros <;> decide +kernel

/-- A request comes to its turn in `srv`. -/
theorem at_turn_of (i : Instr) (r : Req) (c : Bool × Bool × Bool × Nat × List (Nat × Nat × Bool))
    (h : checksOf srv i = some (r, c.1, c.2.1, c.2.2.1, c.2.2.2.1, c.2.2.2.2)) (p : Passes srv r c.1 c.2.1 c.2.2.1 c.2.2.2.1 c.2.2.2.2)
    (k : (taken srv r 0 (admitted srv r 0 .held)).heldBack (admitted srv r 0 .held) = false ∧ srv.wideHeld r.kind = false ∧ srv.exhausted r.src.keySlot = false ∧
      srv.mirrored (admitted srv r 0 .held) = false) : AtTurn srv i r 0 :=
  ⟨⟨_, _, _, _, _, h, p⟩, by decide +kernel, k.1, k.2.1, fun d => by simp [State.dutyGone, srv], k.2.2.1, k.2.2.2⟩

def create9 : Req := reqOf 4 9 [(1, 2), (22, 8)]
def fork8 : Req := reqOf 4 8 [(20, 7), (28, 64)]
def release8 : Req := reqOf 5 8 []
def truncate8 : Req := reqOf 5 8 [(1, 2), (20, 0)]
def pin8 : Req := reqOf 6 8 [(20, 64)]
def unpin8 : Req := reqOf 6 8 [(1, 2), (20, 64)]

theorem test_forks_releases_and_pins_have_states :
    AtTurn srv (.forkCreate create9) create9 0 ∧ AtTurn srv (.fork fork8) fork8 0 ∧ AtTurn srv (.release release8) release8 0 ∧ AtTurn srv (.releaseTruncate truncate8) truncate8 0 ∧
    AtTurn srv (.pin pin8) pin8 0 ∧ AtTurn srv (.unpin unpin8) unpin8 0 := by
  refine ⟨at_turn_of _ _ (_, _, _, _, _) rfl ?_ ?_, at_turn_of _ _ (_, _, _, _, _) rfl ?_ ?_, at_turn_of _ _ (_, _, _, _, _) rfl ?_ ?_, at_turn_of _ _ (_, _, _, _, _) rfl ?_ ?_,
    at_turn_of _ _ (_, _, _, _, _) rfl ?_ ?_, at_turn_of _ _ (_, _, _, _, _) rfl ?_ ?_⟩ <;> first | (unfold Passes; decide +kernel) | decide +kernel

theorem test_forks_and_truncations_have_room :
    (srv.lostSeqs.contains create9.seqId = false ∧ hdrField create9.hdr 22 1 = 8 ∧ srv.tableRoom (emptySeq 0 (srv.createBase create9.hdr) (srv.shape 0).layers 0) = true) ∧
    (Map.find srv.seqs 8 = some seq8 ∧ seq8.st = .active ∧ forkPos fork8.hdr ≤ seq8.lowest ∧ (∀ l ∈ seq8.leavesBelow 64, l.2.loc = 1) ∧ seq8.copied (srv.shape 0) 64 false = [] ∧
      srv.copyRoom 8 seq8 (srv.shape 0) [] = none ∧ srv.tableRoom (childOf seq8 8 0 64 []) = true ∧ forkChild fork8.hdr 8 = 7) ∧
    (∃ v, (taken srv fork8 0 (admitted srv fork8 0 .held)).takeCopies seq8 (srv.shape 0) [] = some v) ∧
    (widePos truncate8.hdr ≤ seq8.lowest ∧ seq8.copied (srv.shape 0) (widePos truncate8.hdr) true = []) ∧ widePos pin8.hdr ≤ seq8.lowest ∧ (4 ∈ seq8.pinRange 64 ∧ 5 ∈ seq8.pinRange 64) := by
  refine ⟨?_, ?_, ⟨_, rfl⟩, ?_, ?_, ?_⟩ <;> and_intros <;> decide +kernel

/-- The same device with a spill area, a drive that is ready, and sequences in every tier. -/
def store8 : Stored := { hdr := hdr8, data := List.replicate 64 0 }
def tier : State :=
  { srv with host := { spill := { st := 1, bytes := 2 ^ 24 }, spillMap := [(0, (0, 1)), (1, (1, 1))] }, drives := [(0, { st := .ready, images := [11], total := 1000, used := [1] })], polders := [(0, { image := some { img with tierRing := some 3 } })], regs := bindingRegs ++ [(0x291005, 100), (0x300001, 1000), (0x300003, 1000), (0x300004, 10000)],
             seqs := [(8, seq8), (10, { seq8 with st := .spilled, leaves := [(0, ⟨0, 2⟩), (16384, ⟨1, 2⟩)], stored := [(0, store8), (16384, store8)], t2 := 2 }), (11, { seq8 with st := .flushed, leaves := [], stored := [(0, store8)], t3 := 5 })] }

theorem test_moves_have_states :
    (tier.privatePages seq8).length = 2 ∧ (tier.quotaFor 0 2 (2 * recordBlocks (tier.shape 0).rawRecord) = true ∧ 0 < tier.spillBlocks ∧ 2 * recordBlocks (tier.shape 0).rawRecord ≤ tier.spillFree ∧ tier.suspectIn seq8.leaves = false) ∧
    (tier.quotaFor 0 3 100 = true ∧ tier.driveFor (extentsOf 10) = some 0 ∧ tier.mapRoom 2 = true) ∧ (tier.startRestore 10 none).isOk = true ∧ (tier.startRestore 11 none).isOk = true ∧
    (srv.quotaFor 0 2 2 = true ∧ srv.spillBlocks = 0) ∧ ({ tier with regs := [(0x300003, 1)] } : State).quotaFor 0 2 100 = false ∧
    ({ tier with frames := [(4, { hdr := hdr8, count := 1, health := .suspect })] } : State).suspectIn seq8.leaves = true := by
  and_intros <;> decide +kernel

/-- Moves under way. -/
theorem test_moves_under_way_have_states :
    let e1 : Seq := { seq8 with st := .spilling, reserved := 4, moving := [(0, 4), (16384, 5)] }
    let e2 : Seq := { seq8 with st := .flushing, reserved := 4, written := 2, extents := [2] }
    let e3 : Seq := { seq8 with st := .restoring, prior := .spilled, reserved := 2, moving := [(0, 6), (16384, 7)], leaves := [(0, ⟨0, 2⟩), (16384, ⟨1, 2⟩)], stored := [(0, store8), (16384, store8)], t2 := 2 }
    (e1.mover = none ∧ tier.sec.storageKeys = true ∧ (({ tier with seqs := [(8, { e1 with moving := [] })] } : State).commitSpill 8 { e1 with moving := [] }).isSome = true ∧ tier.unread (tier.shape 0) (tier.moveReads e1) = [] ∧ tier.suspectIn (tier.moveReads e1) = false) ∧
    (e2.st = .flushing ∧ e2.written = 2 ∧ { e2 with written := 0 }.written ≠ 2 ∧ tier.unread (tier.shape 0) (tier.moveReads e2) = []) ∧
    (({ tier with seqs := [(8, e3)] } : State).goneKeys e3 = [] ∧ ({ tier with seqs := [(8, e3)] } : State).lostTaken e3 = [] ∧ Map.wf e3.moving ∧ e3.taken = []) ∧
    (({ tier with sec := {} } : State).sec.storageKeys = false) ∧ (∃ q, Map.find ({ tier with reqs := [(0, { held8 with kind := 7, phase := .move })] } : State).reqs 0 = some q ∧ q.seqId = 8 ∧ q.src.isMirror = false) := by
  refine ⟨?_, ?_, ?_, rfl, ⟨_, rfl, rfl, rfl⟩⟩ <;> and_intros <;> decide +kernel

theorem test_passes_and_sweeps_have_states :
    (Map.wf srv.seqs ∧ srv.obj 0x2B4101 ≠ 0 ∧ srv.dutyHeld 2 = false) ∧ (∃ p, p < 8 ∧ (({ srv with regs := [(0x2B4102, 2 ^ 21)] } : State).polder p).down = false ∧ ({ srv with regs := [(0x2B4102, 2 ^ 21)] } : State).freeFrames p < 2 ^ 21) ∧
    (∀ p, p < 8 → srv.obj 0x2B4102 ≤ srv.freeFrames p) ∧ (({ srv with regs := [(0x290004, 5)] } : State).obj 0x290004 ≠ 0) ∧
    (let d : State := { srv with frames := [(4, { hdr := hdr8, count := pinned, candidate := true }), (5, { hdr := hdr8, count := 1 }), (6, { hdr := hdr8, count := pinned, candidate := true })], sweep := { running := true } }
     Map.wf d.frames ∧ d.refsTo 4 ≠ 0 ∧ d.refsTo 6 = 0) := by
  refine ⟨?_, ⟨0, ?_⟩, ?_, ?_, ?_⟩ <;> and_intros <;> decide +kernel

def abort8 : Req := reqOf 10 8 [(20, 77)]
def query8 : Req := reqOf 11 8 []
def usage8 : Req := reqOf 11 0 [(20, 2)]
theorem test_aborts_and_queries_have_states :
    (Passes srv abort8 false false false 0 (abortBad abort8) ∧ bit (abort8.byte 24) 0 = false ∧ abortTarget abort8 = some (.fabric 5 77 0)) ∧
    (let d : State := { srv with reqs := [(3, { held8 with claimed := true }), (4, { held8 with src := .fabric 5 78 0 })] }
     d.reqs.find? (fun x => (abortable x.2.kind && decide (x.2.seqId = 8)) && x.2.src.same (.fabric 5 77 0)) = some (3, { held8 with claimed := true })) ∧
    srv.reqs.find? (fun x => (abortable x.2.kind && decide (x.2.seqId = 8)) && x.2.src.same (.fabric 5 77 0)) = none ∧
    (({ srv with kept := [⟨3, 1, .fabric 5 77 0, 8, 0⟩] } : State).kept.find? (fun k => decide (k.seqId = 8) && k.src.same (.fabric 5 77 0) && decide (srv.since k.time ≤ srv.obj 0x2B4301))).isSome = true ∧ srv.tombs.length < 4096 ∧
    (Passes srv query8 false false true 0 (srv.queryBad query8) ∧ Passes srv usage8 false false false 0 (srv.queryBad usage8) ∧ srv.dutyHeld 1 = false) ∧
    ({ srv with start := { srv.start with stewards := [(0, .running), (1, .halted)] } } : State).dutyHeld 1 = true := by
  unfold Passes
  and_intros <;> decide +kernel

theorem test_bindings_and_weights_have_states :
    (srv.obj 0x2B8009 % 16 = 1 ∧ srv.bindingUsed 0 = true ∧ srv.bindingUsed 1 = false) ∧
    (let d : State := { regs := [(0x2B8001, 2), (0x2B8002, 2), (0x2B8003, 2), (0x2B8004, 4), (0x2B8005, 32), (0x2B8006, 0x11)] }
     d.obj 0x2B8009 % 16 ≠ 1 ∧ (d.shape 0).legal = true ∧ 0 < (d.shape 0).headsPerGroup ∧ (d.shape 0).layers * (((d.shape 0).kvHeads + (d.shape 0).headsPerGroup - 1) / (d.shape 0).headsPerGroup) ≤ 1024) ∧
    (State.reset.shape 0).legal = false ∧
    (let d : State := { regs := [(0x2B8001, 2), (0x2B8002, 2), (0x2B8003, 2), (0x2B8004, 256), (0x2B8005, 32), (0x2B8006, 0x11)] }
     (d.shape 0).legal = true ∧ (d.shape 0).headsPerGroup = 0) ∧
    ((srv.weight 0).loading = false ∧ (srv.weight 0).key = none ∧ ({ srv with weights := [(0, { key := some 3 })] } : State).weight 0 = { key := some 3 } ∧ srv.spillFree < 1 ∧ 0 ≤ srv.spillFree) ∧
    (∃ e x, Map.find tier.seqs 10 = some e ∧ Map.find e.stored 0 = some x) := by
  refine ⟨?_, ?_, ?_, ?_, ?_, ⟨_, _, rfl, rfl⟩⟩ <;> and_intros <;> decide +kernel

theorem test_drives_have_states :
    ((State.reset.drive 0).st = .absent ∧ (tier.drive 0).st = .ready ∧ tier.movesOn 8 0 = false ∧ (tier.drive 0).timeouts + 1 < tier.obj 0x292002) ∧
    (let d : State := { tier with seqs := [(8, { seq8 with st := .flushing, drive := 0 })] }
     d.movesOn 8 0 = true) ∧
    (let d : State := { tier with drives := [(0, { st := .ready, timeouts := 2 })], regs := [(0x292002, 3)] }
     d.obj 0x292002 ≤ (d.drive 0).timeouts + 1) ∧ tier.dutyDown 2 = false ∧ (({ tier with drives := [(0, { st := .withdrawn })] } : State).drive 0).st = .withdrawn := by and_intros <;> decide +kernel

/-- A weight key, a set that is loading, a share that is resident and one that no tier can hold. -/
theorem test_weight_loads_have_states :
    let d : State := { srv with weights := [(0, { key := some 3 }), (1, { loading := true, intact := true }), (2, { loading := true })], regs := bindingRegs ++ [(0x290008, 2)] }
    (d.weight 0).key = some 3 ∧ d.dutyGone 2 = false ∧ d.dutyHeld 2 = false ∧ ((d.weight 1).loading = true ∧ (d.weight 1).intact = true ∧ (d.weight 2).intact = false) ∧
    (d.placeShares 0 [(0, 0, [1, 2])]).isSome = true ∧ ({ d with regs := [(0x290008, 0)] } : State).placeShares 0 [(0, 0, [1, 2])] = none ∧
    (d.setWeight 0 { d.weight 0 with loading := true }).placeShares 0 [] ≠ none := by and_intros <;> decide +kernel

/-- A drive that answers as it must, and one for each of the refusals of R234; Writes that end on a drive with a cache and without. -/
theorem test_nvme_replies_have_states :
    ({ blocks := 2 ^ 20 } : NvmeReply).refusal = 0 ∧ ({ controller := false } : NvmeReply).refusal = 1 ∧ ({ nsid := false } : NvmeReply).refusal = 3 ∧ ({ data := 512 } : NvmeReply).refusal = 2 ∧
    ({ meta_ := 8 } : NvmeReply).refusal = 2 ∧ ({ blocks := 2 ^ 34 } : NvmeReply).refusal = 4 ∧
    (let d : State := { tier with seqs := [(8, { seq8 with st := .flushing, drive := 0 })], drives := [(0, { st := .ready, cache := true })] }
     ∃ e, Map.find d.seqs 8 = some e ∧ e.st = .flushing ∧ e.drive = 0 ∧ e.written = 0 ∧ (d.drive 0).cache = true) ∧ tier.movesOn 99 0 = false ∧ Map.find tier.seqs 99 = none := by
  refine ⟨?_, ?_, ?_, ?_, ?_, ?_, ⟨_, rfl, rfl, rfl, rfl, rfl⟩, ?_, ?_⟩ <;> decide +kernel

/-! The fabric: states that meet the hypotheses of the clauses. -/

/-- A device with node 5 of domain 0, port 0 ACTIVE to node 6 with units in class 0, port 1 in HELLO, ports 2 to 5 in the other states, and a route to node 7. -/
def nbr6 : Hello := { digest := 99, node := 6, port := 0, pairLink := false, ready := true, heard := true }
def net : State :=
  { srv with regs := bindingRegs ++ [(0x260001, 5)], routed := true,
             ports := [(0, { st := .active, nbr := some nbr6, rxGranted := [20, 256], rxConsumed := [0, 0], granted := [20, 256], consumed := [0, 0] }), (1, { st := .hello, nbr := some nbr6, hellos := 1, heard := true }),
                       (2, { st := .training }), (3, { st := .pcsUp }), (4, { st := .hold }), (5, { st := .active, nbr := some nbr6, granted := [256, 256], consumed := [0, 0] })],
             routes0 := [(7, 0xFFFFFFF5), (8, 0xFFFFFFFF)] }

def pkt : Packet := ({ cls := 0, dst := 5, hop := 3, src := 6, kind := 1, msg := 9, off := 0, total := 200, data := List.replicate 100 0 } : Packet).checked

theorem test_ports_have_states :
    ((net.port 6).st = .disabled ∧ net.start.portsUp = true ∧ decide (net.obj 0x250001 = 1) = net.pair.mode) ∧ ((net.port 2).st = .training ∧ (net.port 3).st = .pcsUp ∧ (net.port 4).st = .hold ∧ (net.port 0).st = .active) ∧
    (net.port 4).lastHold = none ∧ (({ net with regs := [(0x251402, 1)] } : State).obj (recKey 0x2510 4 2) = 1) ∧
    ((net.port 0).nbr = some nbr6 ∧ nbr6.digest ≠ ({ nbr6 with digest := 98 } : Hello).digest) ∧
    (1 ≤ (net.port 1).hellos ∧ nbr6.ready = true ∧ nbr6.heard = true ∧ net.ownReady = true ∧ domainOf nbr6.node = domainOf net.me ∧ net.pairLink 1 = false ∧ net.sched.waiting = []) ∧
    (({ net with time := 10 ^ 9 } : State).obj 0x250003 ≤ ({ net with time := 10 ^ 9 } : State).since (net.port 0).lastRx ∧ net.since (net.port 0).lastRx < net.obj 0x250003) ∧
    (1000 * (net.port 4).holdMs ≤ net.since 0 ∧ net.since 0 < 1000 * ({ st := .hold, holdMs := 1 } : PortSt).holdMs) ∧ (net.port 5).ctlSent = false := by and_intros <;> decide +kernel

theorem test_pair_links_have_states :
    let d : State := { net with pair := { mode := true }, ports := [(10, { st := .hello, nbr := some { nbr6 with pairLink := true, port := 10 }, hellos := 1, heard := true })] }
    d.pairLink 10 = true ∧ d.ownReady = true ∧ d.pairRules 10 { nbr6 with pairLink := true, port := 10 } = true ∧ d.pairRules 10 nbr6 = false ∧ d.pair.st = .off := by and_intros <;> decide +kernel

theorem test_packets_have_states :
    (pkt.ok = true ∧ { pkt with check := 0 }.ok = false ∧ (net.port 0).rxLost = false) ∧ ((net.port 0).st = .active ∧ net.me = 5 ∧ (40 + pkt.len + 255) / 256 ≤ gap (nth (net.port 0).rxGranted pkt.cls) (nth (net.port 0).rxConsumed pkt.cls)) ∧
    gap 20 0 < (40 + 4096 + 255) / 256 + 4 ∧ domainOf (2 ^ 14) ≠ domainOf net.me ∧ (net.routeEntry 7 % 16 = 5 ∧ net.routeEntry 8 % 16 = 15) ∧
    net.chooseHop { pkt with dst := 7, hop := 2 } (some 0) = .go 5 ∧ (net.contexts = [] ∧ pkt.off + pkt.len < pkt.total ∧ 0 < pkt.len ∧ pkt.total ≤ 1048576) := by and_intros <;> decide +kernel

theorem test_routes_and_contexts_have_states :
    (State.reset.me = 0 ∧ ∀ e ∈ State.reset.ports, e.2.st = .disabled) ∧ (net.me ≠ 0 ∧ 6 ≠ net.me ∧ ∃ e ∈ net.ports, e.2.st ≠ .disabled) ∧
    (∃ e ∈ [(7, 0xFFFFFFFC)], ∃ h ∈ hopsAt e.2 0 ++ hopsAt e.2 16, 12 ≤ h ∧ h ≤ 14) ∧ ¬ (∃ e ∈ net.routes1, ∃ h ∈ hopsAt e.2 0 ++ hopsAt e.2 16, 12 ≤ h ∧ h ≤ 14) ∧
    (∃ c ∈ [({ source := 6, msg := 9, total := 200, kind := 1, kindWord := 0, opened := 0 } : Context)], c.source = 6 ∧ c.msg = 9) ∧ ∀ e ∈ net.ports, e.2.held = [] := by
  refine ⟨by decide, ?_, by decide, by decide, by decide, by decide⟩
  exact ⟨by decide, by decide, ⟨_, List.mem_cons_self, by decide⟩⟩

/-- A conduit in each state, end 0 ready and bound with node 6's end 1. -/
def link : Conduit := { st := .ready, node := 6, peer := 1, gen := 7, next := 2, granted := 512, unplaced := [(1, { op := 4, body := List.replicate 100 0, tries := 1 })] }
def con : State :=
  { net with conduits := [(0, link), (1, { st := .opening, node := 6, gen := 3 }), (2, { st := .error, node := 6 }), (3, { node := 6 }), (4, { st := .ready, node := 6, peer := 4, gen := 1 }), (5, { st := .ready, node := 6, peer := 5, onDie := false })] }
def chdr : CHdr := { conduit := 0, seq := 1, ack := 1, map := 0, grant := 600, peer := 1, gen := 7 }

theorem test_conduits_have_states :
    (con.freeConduit = some 3 ∧ con.conduitRoom = true ∧ ∀ e ∈ con.conduits, ¬ (e.2.st = .ready ∧ e.2.node = 6 ∧ e.2.peer = 9 ∧ e.2.gen = 9)) ∧
    ((con.conduit 1).st = .opening ∧ (con.conduit 1).gen = 3) ∧ (con.heard chdr = true ∧ con.heard { chdr with gen := 8 } = false) ∧
    (∃ m, Map.find (con.conduit 0).unplaced 1 = some m ∧ m.tries ≠ 0 ∧ m.tries < 9 ∧ covers chdr 1 = true ∧ m.op ≠ 9 ∧ con.waited m.last m.tries = false ∧ ({ con with time := 10 ^ 9 } : State).waited m.last m.tries = true) ∧ (con.conduit 0).judge 1 = .fresh ∧
    (con.heard { chdr with conduit := 4, peer := 4, gen := 1 } = true ∧ (con.conduit 4).unplaced = [] ∧ (con.conduit 4).closing = false ∧ (con.conduit 4).judge 1 = .fresh) ∧
    ((con.conduit 3).st = .closed ∧ (con.conduit 3).node ≠ 0 ∧ con.onDieRecords < 16384) ∧ ((con.conduit 2).st = .error) ∧ ((con.conduit 0).next < 2 ^ 32 ∧ Map.find (con.conduit 0).unplaced 2 = none) ∧
    (con.conduit 5).onDie = false ∧ con.pair.st ≠ .rebuilding ∧ (con.conduit 1).tries < 9 := by
  and_intros <;> decide +kernel

/-- With nothing to move, nothing waits for a conduit. -/
theorem test_nothing_waits_somewhere : NothingWaits con 6 := by
  refine ⟨by decide, ?_⟩
  intro r hr hp
  simp [State.routes, con, net, srv] at hr
  exact absurd hr hp

def put9 : Put := ⟨9, 0, 2 ^ 21 + 4, false⟩
theorem test_numbered_messages_have_states :
    (con.heard chdr = true ∧ (((con.hear chdr).conduit 0).judge 1 = .fresh) ∧ ((con.hear chdr).conduit 0).judge 0 = .again ∧ ((con.hear chdr).conduit 0).judge 40 = .discard) ∧
    ((con.hear chdr).freeFrames (framePolder put9.handle % 8) ≠ 0 ∧ ((con.hear chdr).pickFrame 1).isSome = true) ∧
    (let d : State := { con with host := { spill := { st := 1, bytes := 2 ^ 20 } } }
     recordBlocks ([] : List Nat).length ≤ (d.hear chdr).spillFree ∧ ((d.hear chdr).takeSpill (reshare [] 0)).isSome = true) ∧ (con.hear chdr).spillFree < recordBlocks 4096 ∧ recordBlocks 4096 = 1 ∧
    (let d : State := { con with stage := [(0, { handles := [(put9.handle, 4)] })] }
     Map.find ((d.hear chdr).staged 0).handles put9.handle = some 4) ∧ Map.find ((con.hear chdr).staged 0).handles put9.handle = none := by and_intros <;> decide +kernel

/-- Composition 0 of one span, in which bucket 0 arrives from node 6 or leaves to it. -/
def inb : State := { con with regs := bindingRegs ++ [(0x244001, 1), (0x244005, 1), (0x260001, 5), (0x30000B, 1)], seqs := [], frames := [], charts := [(0, { epoch := 1, st := .transferring, transit := [(0, { inbound := true, peer := 6 })] })] }
def outb : State := { con with regs := bindingRegs ++ [(0x244001, 1), (0x244005, 1), (0x260001, 5), (0x30000B, 1)],
                               charts := [(0, { epoch := 1, st := .transferring, transit := [(0, { inbound := false, peer := 6, move := { todo := [8], copied := true, sealing := true, freeze := some 0 } })] })] }
theorem test_seals_have_states :
    (let s' := (inb.hear chdr).placeMessage 0 1 (160 + 4 * 2)
     (s'.conduit 0).st = .ready ∧ (s'.conduit 0).closing = false ∧ (s'.inboundOf 9 6).isSome = true ∧ (s'.linkSealed 0 9 0 0 [0, 0] 1).isSome = true) ∧
    (let s' := (con.hear chdr).placeMessage 0 1 (160 + 4 * 2)
     (s'.inboundOf 9 6).isSome = false ∧ s'.pair.receiving = false) ∧
    (let s' := (outb.hear chdr).placeMessage 0 1 41
     s'.routeOf 8 = some (.chart 0 0) ∧ (s'.moveOf (.chart 0 0)).sealing = true ∧ (s'.moveOf (.chart 0 0)).conduit = none ∧ s'.spans 0 ≤ 1) ∧
    (let s' := (inb.hear chdr).placeMessage 0 1 32
     ∃ x, Map.find (s'.chart 0).transit (0 * max 1 (s'.spans 0) + 0) = some x ∧ x.inbound = true ∧ s'.holds = []) := by
  refine ⟨?_, ?_, ?_, ⟨_, rfl, rfl, rfl⟩⟩ <;> and_intros <;> decide +kernel

/-- Contexts and marks whose bounds have passed, and ones whose bounds have not (2600h.05, 2700h.06). -/
theorem test_bounds_have_states :
    let d : State := { net with time := 10 ^ 9, downMarks := [(downKey 0 7, 0), (downKey 0 8, 10 ^ 9)] }
    d.obj 0x270006 ≤ d.since 0 ∧ d.since (10 ^ 9) < d.obj 0x270006 ∧ (Map.find d.downMarks (downKey 0 7) = some 0 ∧ d.obj 0x260005 ≤ d.since 0) ∧
    (Map.find d.downMarks (downKey 0 8) = some (10 ^ 9) ∧ d.since (10 ^ 9) < d.obj 0x260005) ∧ d.sched.waiting = [] := by and_intros <;> decide +kernel

/-! Charts, schedulers, recovery and the pair: states that meet the hypotheses of the clauses. -/

/-- Composition 0 with ID 1 and one span, its pending chart full and naming this device and node 6. -/
def comp : State :=
  { net with regs := bindingRegs ++ [(0x242001, 1), (0x244001, 1), (0x244005, 1), (0x260001, 5), (0x30000B, 1)], charts := [(0, { chart := [(0, 6)], pend := [(0, 5)], pendLen := 65536 })] }
theorem test_charts_have_states :
    ((comp.chart 0).st = .idle ∧ comp.obj (recKey 0x2440 0 1) ≠ 0 ∧ (comp.chart 0).pendLen = 65536 * comp.obj (recKey 0x2440 0 5) ∧ comp.sliceBad 0 (comp.chart 0).pend = false ∧
      (changedEntries (comp.chart 0).chart (comp.chart 0).pend).length ≤ 131062 ∧ comp.holds = [] ∧ comp.dutyDown 3 = false) ∧
    (comp.nodesOf (comp.chart 0).chart ++ comp.nodesOf (comp.chart 0).pend).dedup ≠ [] ∧
    (let d : State := { comp with charts := [(0, { pend := [(0, 5)], pendLen := 65536 })] }
     (d.nodesOf (d.chart 0).chart ++ d.nodesOf (d.chart 0).pend).dedup = []) ∧
    comp.sliceBad 0 [(0, 5 + 63 * 2 ^ 20)] = true ∧
    (let d : State := { comp with start := { comp.start with stewards := [(0, .running), (3, .halted)] } }
     d.dutyDown 3 = true) ∧
    (let c : Chart := { st := .proposing, pendEpoch := 1, proposer := 5, members := [6, 7], answered := [6] }
     7 ∈ c.members ∧ (∀ n ∈ c.members, n = 7 ∨ n ∈ c.answered) ∧ (∃ n ∈ c.members, n ≠ 6 ∨ n ∉ c.answered) ∧ c.proposer = comp.me ∧ 7 ∉ c.committed) ∧
    (let c : Chart := { st := .prepared, prep := [(0, 5)], pendEpoch := 1, proposer := 6, boundary := some 70000 }
     c.st = .prepared ∧ c.boundary.isSome = true ∧ applyChanges [(0, 6)] [(0, 5)] = c.prep ∧ c.proposer ≠ comp.me ∧ c.proposer ≠ 0 ∧ c.stranded = []) ∧
    applyChanges (comp.chart 0).chart [] = [(0, 6)] := by and_intros <;> decide +kernel

theorem test_freezes_have_states :
    let d : State := { outb with charts := [(0, { epoch := 1, st := .transferring, transit := [(0, { inbound := false, peer := 6, move := { todo := [8], copied := true, conduit := some 0 } })] })] }
    State.reset.freezeRoute 0 8 = none ∧ (d.freezeRoute 0 8).isSome = true ∧ d.freezeRoute 0 8 = some (.chart 0 0) ∧ (d.moveOf (.chart 0 0)).freeze = none ∧ d.freezeReady 8 0 = true ∧ Map.find d.seqs 8 = some seq8 ∧
    d.suspectOn (.chart 0 0) seq8 = false ∧ (d.conduit 0).st = .ready ∧ (d.conduit 0).closing = false ∧
    ({ d with frames := [(4, { hdr := hdr8, count := 1, health := .suspect })] } : State).suspectOn (.chart 0 0) seq8 = true ∧
    (outb.freezeRoute 0 8 = some (.chart 0 0) ∧ (outb.moveOf (.chart 0 0)).freeze = some 0 ∧ (outb.moveOf (.chart 0 0)).sealing = true) ∧
    ({ d with reqs := [(3, { held8 with order := 0 })] } : State).freezeReady 8 0 = false := by and_intros <;> decide +kernel

/-- A port with one packet in class 0 and one in class 5, and a port of another unit with one. -/
def full : State :=
  { net with sched := { queues := [(0, [{ len := 140, pkt := some { pkt with dst := 7 } }]), (5, [{ len := 140 }]), (15 * 8 + 3, [{ len := 256 }])] },
             ports := [(0, { st := .active, nbr := some nbr6, granted := [256, 0, 0, 0, 0, 256], consumed := [] })] }
theorem test_schedulers_have_states :
    (let u := ((List.range 5).foldl (fun s i => s.takeColours 0 (3 + i)) full).countHolds 0
     (u.readyHead 0 0).isSome = true ∧ (u.port 0).st = .active) ∧
    (let d : State := { full with sched := { queues := [(5, [{ len := 140 }])] } }
     let u := ((List.range 5).foldl (fun s i => s.takeColours 0 (3 + i)) d).countHolds 0
     (u.readyHead 0 5).isSome = true ∧ (∀ c, c < 3 → u.readyHead 0 c = none) ∧ (∀ c, 3 ≤ c → c < 8 → 1 ≤ d.classWeight 0 c)) ∧
    (net.port 1).st ≠ .active ∧ (∀ c, c < 8 → (net.countHolds 15).readyHead 15 c = none) ∧
    (let v (i : Nat) : Nat := if i = 0xC then 2 else net.obj (tenantKey 1 i)
     ¬ (0xC < 0xC ∨ 0x10 < 0xC ∨ objMax (tenantKey 1 0xC) < 2 ∨ v 0xC = 0 ∨ v 0xF < v 0xD ∨ v 0x10 < v 0xE ∨ v 0xE < 4136 ∨ v 0x10 < 4136)) := by and_intros <;> decide +kernel

/-- Frames on the ladder. -/
def onLadder (h : Health) : Frame := { hdr := hdr8, count := 1, health := h, ladderSeq := 8 }
theorem test_ladder_has_states :
    (let d : State := { srv with frames := [(4, onLadder .reread)] }
     Map.find d.frames 4 = some (onLadder .reread) ∧ (onLadder .reread).hdr.lost = false ∧ d.names 8 4 = true ∧ d.names 8 6 = false ∧ d.pair.st ≠ .paired) ∧
    (let d : State := { con with pair := { st := .paired, conduit := 0, partner := 6 }, frames := [(4, onLadder .reread)] }
     d.pair.st = .paired ∧ d.pairReady = true ∧ (d.conduit d.pair.conduit).closing = false) ∧
    ({ onLadder .reread with hdr := { hdr8 with lost := true } }.hdr.lost = true) ∧ Map.find srv.frames 6 = none ∧ (Map.has srv.seqs 8 = true ∧ srv.lostSeqs.length + 1 ≤ 16384) ∧
    (srv.readOk (6 * 65536) 64 false = true ∧ srv.readOk (4 * 65536) 65536 true = false ∧ ∃ x, Map.find srv.frames 4 = some x ∧ x.health = .good) := by
  refine ⟨?_, ?_, ?_, ?_, ?_, ?_, ?_, ⟨_, rfl, rfl⟩⟩ <;> decide +kernel

theorem test_fetches_have_states :
    let s' := (con.hear chdr).placeMessage 0 1 96
    ((con.hear chdr).conduit 0).judge 1 = .fresh ∧ (s'.conduit 0).st = .ready ∧ (s'.conduit 0).closing = false ∧ Map.find s'.seqs 7 = none ∧ Map.find s'.seqs 8 = some seq8 ∧ Map.find seq8.leaves 1 = none ∧
    Map.find seq8.leaves 0 = some ⟨4, 1⟩ ∧ (∃ x, Map.find s'.frames 4 = some x ∧ x.hdr.lost = false ∧ x.health ≠ .fetching) ∧ s'.pageReads 4 (s'.shape 0) = true ∧
    (∃ x, Map.find ({ con with frames := [(4, onLadder .fetching)] } : State).frames 4 = some x ∧ x.health = .fetching) ∧
    (hdr8.layer = keyLayer (con.shape 0) 0 ∧ hdr8.group = keyGroup (con.shape 0) 0 ∧ hdr8.first = keyPage 0 * 64 ∧ crc64 (byUnit 1280 []) = crc64 []) := by
  refine ⟨?_, ?_, ?_, ?_, ?_, ?_, ?_, ⟨_, rfl, rfl, by decide⟩, ?_, ⟨_, rfl, rfl⟩, ?_⟩ <;> decide +kernel

/-- A pair in each of its states. -/
def beat : Beat := ⟨1, 0, false, false, false, false, false, 0, 0, false⟩
def duo (st : PairState) : State :=
  { con with pair := { mode := true, st := st, partner := 6, conduit := 0, sent := 3, next := 4, unplaced := [(1, { body := [], what := 3, tries := 1 })], lastBeat := some { beat with detached := true } },
             ports := [(10, { st := .active, nbr := some nbr6 })], regs := bindingRegs ++ [(0x250001, 1), (0x260001, 5)] }
theorem test_pair_has_states :
    ((duo .forming).pairLink 10 = true ∧ ((duo .forming).port 10).st = .active ∧ beat.placed = (duo .forming).pair.placed % 2 ^ 32 ∧ (duo .forming).seqs ≠ [] ∧ ({ duo .forming with seqs := [] } : State).seqs = []) ∧
    ((duo .paired).pair.placed < 1 ∧ 1 ≤ (duo .paired).pair.sent ∧ 1 = 1 % 2 ^ 32) ∧ (∃ m, Map.find (duo .paired).pair.unplaced 1 = some m ∧ m.tries ≠ 0 ∧ m.tries < 9 ∧ (duo .paired).waited m.last m.tries = false ∧ ({ duo .paired with time := 10 ^ 9 } : State).waited m.last m.tries = true) ∧
    (let d : State := { duo .paired with reqs := [(3, { held8 with kind := 2, phase := .mirror, lastRecord := 1 })] }
     ∃ q, d.reqs = [(3, q)] ∧ q.phase = .mirror ∧ q.kind ≤ 3 ∧ q.src.isMirror = false ∧ d.pair.placed < q.lastRecord ∧ q.lastRecord < d.pair.next) ∧
    ((duo .paired).applies = true ∧ (duo .soleOwner).applies = false ∧ Map.find (duo .paired).pair.heldRecs 1 = none ∧ 0 + 1 < 2 ∧ 2 ≤ 0 + 64) ∧
    ((duo .soleOwner).pairReady = true ∧ ({ duo .soleOwner with conduits := [] } : State).pairReady = false ∧ ({ duo .soleOwner with conduits := [] } : State).freeConduit.isSome = true) ∧
    (let d : State := { duo .paired with pair := { (duo .paired).pair with heldRecs := [(1, attend8)] } }
     Map.has d.pair.heldRecs 1 = true ∧ ∀ e ∈ d.reqs, e.2.src ≠ .mirror 1) ∧
    (let d : State := { con with pair := { mode := true, st := .off }, ports := [] }
     d.pair.mode = true ∧ d.obj 0x250001 ≠ 1 ∧ (d.port 10).st ≠ .active ∧ (d.port 11).st = .disabled) ∧
    (({ duo .paired with time := 2000 } : State).pair.lastAt + 2000 ≤ 2000 ∧ 10 ≤ ({ duo .paired with time := 10000 } : State).since 0 ∧ (duo .paired).since 0 < 10) := by
  refine ⟨?_, ?_, ⟨_, rfl, by decide, by decide, by decide, by decide⟩, ⟨_, rfl, rfl, by decide, rfl, by decide, by decide⟩, ?_, ?_, ?_, ?_, ?_⟩ <;> and_intros <;> decide +kernel

/-- With every conduit in use none can be opened. -/
theorem test_no_conduit_is_free :
    let d : State := { duo .soleOwner with conduits := (List.range' 0 16384).map fun c => (c, { st := .opening }) }
    d.pairReady = false ∧ d.openTo 6 = none := by
  refine ⟨by decide +kernel, ?_⟩
  simp [State.openTo, State.conduitRoom, State.openConduits, List.filter_map, Function.comp_def, duo, con, net, srv]

/-- WOA messages that begin a transfer on the management port and on the mailbox. -/
def run8 : State := { srv with pkg := { srv.pkg with pwr := .running } }
def msgOf (path : Fin 3) (cmd key total off len value : Nat) : WoaMsg := { path := path, bytes := woaBytes 1 1 cmd 0 key total off len value }
def msg : WoaMsg := msgOf 0 2 0x2C2004 8 0 8 1
theorem test_fences_have_states :
    (WoaBegins run8 msg ∧ run8.servesAll = true) ∧ ({ srv with fence := { st := .fenced, epoch := 4 } } : State).fence.st = .fenced ∧ (4 ≤ ({ epoch := 4, st := .fenced } : Fence).epoch ∧ ({ epoch := 4, st := .fenced } : Fence).epoch < 5) ∧
    (0 < ({ lease := 9 } : Fence).lease) ∧ srv.orphans.length < 4096 ∧ (srv.steward 1 = .running ∧ State.reset.steward 1 ≠ .running ∧ ((Map.getD srv.start.restarts 1 []).filter fun t => decide (srv.time - t < 60 * 10 ^ 9)).length < 3) ∧
    (let d : State := { srv with start := { srv.start with restarts := [(1, [0, 0, 0])], stewards := [(0, .running), (1, .running)] }, reqs := [(3, { held8 with kind := 5, seqId := 77 })] }
     3 ≤ ((Map.getD d.start.restarts 1 []).filter fun t => decide (d.time - t < 60 * 10 ^ 9)).length ∧ Map.find d.seqs 77 = none ∧ nth d.start.duty 1 = 1 ∧ ∀ m ∈ d.transfers, m.before { held8 with kind := 5, seqId := 77 } = false) ∧
    (({ srv with start := { srv.start with stewards := [(1, .halted)] } } : State).steward 1 = .halted) := by
  unfold WoaBegins WoaTaken
  refine ⟨⟨⟨?_, ?_, ?_, ?_⟩, ?_⟩, ?_, ?_, ?_, ?_, ?_, ?_, ?_⟩ <;> decide +kernel

/-! Tempo, governors and sleep: states that meet the hypotheses of the clauses. -/

/-- A tide group of this node 5, which leads, and node 6; a proposal waits for both. -/
def tideP : Tide := ⟨3, 900, 50000⟩
def tide : State :=
  { run8 with regs := bindingRegs ++ [(0x260001, 5), (0x221001, 9), (0x221002, 5)], tempo := { members := [(0, 5), (1, 6)], proposal := some tideP, ready := [5], epoch := 2, commit := some ⟨2, 800, 10⟩, pend := some ⟨4, 700, 60000⟩ } }
def tideAfter : State := { tide with tempo := { tide.tempo with proposal := none, last := some tideP, done := [5], commit := none } }
theorem test_tide_has_states :
    (tide.dutyDown 3 = false ∧ tide.tideLeader = tide.me ∧ tide.tideMembers = [5, 6] ∧ tide.me ∈ tide.tideMembers ∧ 1 ≠ tide.obj 0x221001 ∧ 7 ∉ tide.tideMembers) ∧
    (∃ x, tide.tempo.proposal = some x ∧ tide.time + 10000 < x.boundary ∧ (∃ k ∈ tide.tideMembers, k ≠ 5 ∧ k ∉ tide.tempo.ready) ∧ (∀ k ∈ tide.tideMembers, k = 6 ∨ k ∈ tide.tempo.ready) ∧ tide.tempo.epoch < x.epoch ∧ 6 ∉ tide.tempo.ready) ∧
    (∃ x, tideAfter.tempo.last = some x ∧ x.epoch = 3 ∧ 6 ∉ tideAfter.tempo.done ∧ 5 ∈ tideAfter.tempo.done ∧ 1 < tideAfter.tempo.epoch) ∧
    (∃ x, tide.tempo.commit = some x ∧ x.boundary ≤ ({ tide with time := 10 } : State).time ∧ tide.time < x.boundary) ∧ (∃ x, tide.tempo.pend = some x ∧ x.epoch = 4) ∧
    ({ tide with start := { tide.start with stewards := [(3, .halted)] } } : State).dutyDown 3 = true ∧ ({ tide with regs := [(0x221001, 9), (0x221002, 6)] } : State).tideLeader ≠ 0 := by
  refine ⟨by decide +kernel, ⟨tideP, rfl, ?_⟩, ⟨tideP, rfl, ?_⟩, ⟨_, rfl, ?_⟩, ⟨_, rfl, ?_⟩, ?_, ?_⟩ <;> decide +kernel

/-- The rule of the leader, with a group tempo below, at and above the one committed. -/
theorem test_leader_rule_has_states :
    let d (cur bid : Nat) (above : Option Nat) : State := { tideAfter with time := 2000000, tempo := { tideAfter.tempo with last := none, cur := cur, bids := [(6, bid)], above := above } }
    (d 1000 900 none).groupTempo < 1000 ∧ (d 900 900 none).groupTempo = 900 ∧ (900 < (d 900 950 none).groupTempo ∧ (d 900 950 (some 1500000)).time - 1500000 < 1000000 ∧ 1000000 ≤ (d 900 950 (some 0)).time - 0) ∧
    (let o : State := { tideAfter with tempo := { tideAfter.tempo with members := [(0, 5)] }, regs := [(0x260001, 5), (0x221001, 9), (0x221002, 5), (0x22000A, 100)] }
     o.tideMembers = [o.me] ∧ o.time + 10000 < (o.time + 1000 * o.obj 0x22000A + 9999) / 10000 * 10000) ∧
    (({ tide with ptp := { st := 1 } } : State).ptp.st ≠ 0 ∧ tide.obj 0x222005 < (5000 : Int).natAbs) := by and_intros <;> decide +kernel

/-- Estimates below and above the cap, and each throttle in force. -/
def pow : State := { run8 with power := { recent := [300, 300], paused := [7], concCeil := 256, capCeil := some 800, tempoFit := 900, overSince := some 0 }, time := 200000, tempo := { cur := 1100 } }
theorem test_power_has_states :
    (300 + 300 + 100 ≤ pow.obj 0x220101 ∧ pow.obj 0x220101 < 600 + 400 + 100 ∧ pow.obj 0x220102 = 6 ∧ pow.obj 0x220102 / 16 % 4 = 0) ∧ pow.power.capCeil.getD (pow.obj 0x220001) < pow.tempo.cur ∧
    (let o (v : Nat) : State := { pow with regs := [(0x220102, v)] }
     (o 0x18).obj 0x220102 / 16 % 4 = 1 ∧ (o 0x24).obj 0x220102 / 16 % 4 = 2) ∧
    (∃ x, pow.power.overSince = some x ∧ x + 110000 ≤ pow.time) ∧ (∀ d ∈ List.range 8, 6 < d → d ∈ pow.power.paused) ∧ 6 ∉ pow.power.paused ∧
    ((pow.power.recent.take 1000).sum / max 1 (pow.power.recent.take 1000).length + pow.obj 0x22010B < pow.obj 0x220101 ∧ (∀ d ∈ List.range 7, d ∉ pow.power.paused)) ∧
    (let q : State := { pow with power := { pow.power with paused := [] } }
     7 ∉ q.power.paused ∧ q.power.paused = [] ∧ q.power.concCeil < 512 ∧ pow.power.capCeil = some 800) := by
  refine ⟨?_, ?_, ?_, ⟨_, rfl, ?_⟩, ?_⟩ <;> decide +kernel

/-- A tile in droop, long enough to be logged; gauge readings and temperatures at their limits. -/
def droopy : State := { run8 with tiles := [(2, { droop := true, low := [3], tempo := 1000 })], thermal := { trim := 20, gaugeCeil := 1000, ceiling := 1000, stackCeil := [(0, 256)] } }
theorem test_margins_and_heat_have_states :
    ((Map.getD droopy.tiles 2 {}).droop = true ∧ (Map.getD droopy.tiles 3 {}).droop = false ∧ (Map.getD droopy.tiles 2 {}).logged = false ∧ (∃ e ∈ droopy.tiles, e.2.droop = true) ∧ ∀ e ∈ srv.tiles, e.2.droop = false) ∧
    ((29 : Int) ∈ [31, 29] ∧ (∀ x ∈ [(31 : Int), 29], 29 ≤ x) ∧ droopy.thermal.trim < droopy.obj 0x232003 ∧ ({ droopy with regs := [(0x232003, 20)] } : State).obj 0x232003 ≤ droopy.thermal.trim) ∧
    ((∃ x ∈ [(1051 : Int)], (droopy.obj 0x230004 : Int) < x) ∧ ∀ x ∈ [(900 : Int)], x ≤ (droopy.obj 0x230004 : Int)) := by decide +kernel

theorem test_sleep_has_states :
    let q (x : Polder) : State := { run8 with polders := [(0, { x with lanes := [], rings := [] })], regs := [(0x240401, 1)] }
    let w : Polder := { image := some img, prog := .running }
    (((q w).polder 0).sleep = .wet ∧ (q w).obj 0x240401 = 1 ∧ ((q w).polder 0).sleepHold = .automatic ∧ Map.keys ((q w).polder 0).lanes = [] ∧ ((q w).polder 0).rings = []) ∧
    (((q { w with sleep := .damp }).polder 0).sleep = .damp ∧ ((q { w with sleep := .damp, prog := .loaded }).polder 0).prog ≠ .running) ∧
    ((q { w with sleepHold := .damp }).polder 0).sleepHold = .damp ∧ ((q { w with sleep := .dry }).polder 0).sleep = .dry ∧ run8.obj 0x240401 ≠ 0 ∧ ({ run8 with regs := [(0x240401, 0)] } : State).obj 0x240401 = 0 := by and_intros <;> decide +kernel


/-- Times at and before the bounds of the gauge's interval, a droop's clear hold and its millisecond; the supply below and at the threshold. -/
theorem test_due_times_have_states :
    let d (time_ : Nat) : State := { droopy with time := time_, tiles := [(2, { droop := true, low := [3], tempo := 1000, began := 5, last := 7 })] }
    ((d (10 ^ 9 * 3600)).obj 0x232006 + 10 ^ 9 * (d 0).obj 0x232005 ≤ (d (10 ^ 9 * 3600)).time ∧ ¬ ((d 0).obj 0x232006 + 10 ^ 9 * (d 0).obj 0x232005 ≤ (d 0).time)) ∧
    (7 + (d 0).obj 0x231003 ≤ (d (7 + (d 0).obj 0x231003)).time ∧ (d 7).time < 7 + (d 0).obj 0x231003) ∧ (5 + 1000000 ≤ (d 1000005).time ∧ (d 1000004).time < 5 + 1000000) ∧
    (700 + droopy.obj 0x231001 < droopy.obj 0x232001 + droopy.thermal.trim ∧ droopy.obj 0x232001 + droopy.thermal.trim ≤ 770 + droopy.obj 0x231001) ∧ ¬ (0 < droopy.thermal.rampUntil) := by decide +kernel

/-- A message is sent again from 20 microseconds on, and the cutoff is the last ten microseconds before the boundary. -/
theorem test_tide_times_have_states :
    let d (time_ : Nat) : State := { tide with time := time_, tempo := { tide.tempo with sentAt := [(6, 1000)] } }
    (Map.getD (d 21000).tempo.sentAt 6 0 + 20000 ≤ (d 21000).time ∧ ¬ (Map.getD (d 20999).tempo.sentAt 6 0 + 20000 ≤ (d 20999).time)) ∧
    (tideP.boundary ≤ (d 40000).time + 10000 ∧ (d 39999).time + 10000 < tideP.boundary) ∧ 6 ∈ ((d 0).tideMembers.filter fun n => decide (n ≠ (d 0).me)) := by decide +kernel

/-! Security, metering, starts and resets: states that meet the hypotheses of the clauses. -/

/-- Keys held, slot 1 with both generations, a report asked for, and confidential operation possible. -/
def safe : State :=
  { run8 with regs := bindingRegs ++ [(0x2E1301, 1), (0x2E2003, 2), (0x2E2004, 0), (0x2E2007, 3)],
              sec := { identityKey := true, transportKey := true, storageKeys := true, session := some (1, 2), slots := [(1, { gen0 := some (3, 4), gen1 := some (5, 6) })], pending := some { nonce := 1, time := 0, count := 0, meas := [] } } }
/-- An envelope's header of a kind and a target, for this count and the first `n` bytes of an identity digest, and its whole length. -/
def envelopeOf (kind target : Nat) (id : List Nat) : Envelope := ⟨[1, kind] ++ leBytes 2 target ++ leBytes 4 0 ++ leBytes 8 0 ++ id ++ List.replicate (1712 - id.length) 0, [7, 8]⟩
def envelope0 : Envelope := envelopeOf 1 5 (List.replicate 64 0)
theorem test_security_has_states :
    (safe.sec.identityKey = true ∧ safe.sec.transportKey = true ∧ safe.start.latch = false ∧ safe.sec.pending.isSome = true) ∧
    ((safe.jobSlot 1).gen0.isSome = true ∧ (safe.jobSlot 1).sending = false ∧ (if (safe.jobSlot 1).sending then (safe.jobSlot 1).gen0 else (safe.jobSlot 1).gen1) ≠ none) ∧
    ((safe.jobSlot 0).gen0 = none ∧ (if (safe.jobSlot 0).sending then (safe.jobSlot 0).gen0 else (safe.jobSlot 0).gen1) = none) ∧
    ((safe.sec.session.isSome = true ∧ ∀ r ∈ safe.rings, r.2.st = 0) ∧ srv.sec.session.isSome = false) ∧
    (envelope0.bytes.length = 1728 ∧ nth envelope0.bytes 0 = 1 ∧ nth envelope0.bytes 1 = 1 ∧ fieldAt envelope0.bytes 2 2 = 5 ∧ fieldAt envelope0.bytes 4 4 = 0 ∧ fieldAt envelope0.bytes 8 8 = safe.sec.count ∧
      (safe.weight 5).loading = false ∧ safe.start.st ≠ .berm ∧ nth (envelopeOf 2 1 []).bytes 1 = 2 ∧ bit (fieldAt (envelopeOf 2 0x1001 []).bytes 2 2) 12 = true ∧ fieldAt (envelopeOf 3 0 []).bytes 2 2 = 0 ∧
      ({ safe with start := { safe.start with st := .berm } } : State).start.st = .berm) ∧
    ((∀ a, safe.sec.acted = some a → a < safe.obj 0x2E2003) ∧ safe.obj 0x2E2004 = 0 ∧ safe.obj 0x2E2007 = 3 ∧ ∃ a, ({ safe with sec := { safe.sec with acted := some 2 } } : State).sec.acted = some a ∧ safe.obj 0x2E2003 ≤ a) := by
  refine ⟨?_, ?_, ?_, ?_, ?_, ?_, ?_, ?_, ⟨2, rfl, ?_⟩⟩ <;> decide +kernel

/-- What is sealed opens: the keys of an envelope whose tag is that of its header and its ciphertext. -/
theorem gcm_opens (key iv aad c : List Nat) : gcmOpen key iv aad (c ++ gcmTag key iv aad c) = some (gcmText key iv c) := by
  have h : (gcmTag key iv aad c).length = 16 := by simp [gcmTag, xorBytes, beBytes, leBytes]
  simp [gcmOpen, h]
theorem envelope_opens (h secret : List Nat) (hl : h.length = 1648) : ∃ e : Envelope, e.bytes.length = 1728 ∧ (∀ o n, o + n ≤ 80 → fieldAt e.bytes o n = fieldAt h o n) ∧
    gcmOpen ((sha3 (e.secret.take 32 ++ e.bytes.take 80)).take 32) (List.replicate 12 0) (e.bytes.take 80) (e.bytes.drop 1648) ≠ none := by
  refine ⟨⟨h ++ (List.replicate 64 0 ++ gcmTag ((sha3 (secret.take 32 ++ h.take 80)).take 32) (List.replicate 12 0) (h.take 80) (List.replicate 64 0)), secret⟩, ?_, fun o n hn => ?_, ?_⟩
  · simp [hl, gcmTag, xorBytes, beBytes, leBytes]
  · rw [fieldAt, fieldAt, List.drop_append_of_le_length (by omega), List.take_append_of_le_length (by rw [List.length_drop]; omega)]
  · dsimp only
    rw [List.drop_left' hl, List.take_append_of_le_length (by omega), gcm_opens]
    exact nofun
theorem test_an_envelope_opens : ∃ e : Envelope, e.bytes.length = 1728 ∧ (∀ o n, o + n ≤ 80 → fieldAt e.bytes o n = fieldAt (envelope0.bytes.take 1648) o n) ∧
    gcmOpen ((sha3 (e.secret.take 32 ++ e.bytes.take 80)).take 32) (List.replicate 12 0) (e.bytes.take 80) (e.bytes.drop 1648) ≠ none :=
  envelope_opens (envelope0.bytes.take 1648) [7, 8] (by decide +kernel)

/-- Tidegauge running, with a charge, two records of which something is due, a log of two entries, one of them read under seal. -/
def reading0 : Reading := { kind := 2, tenant := 0, nonce := 1, time := 0, device := 0, lastRec := 0 }
def gaugeS : State :=
  { run8 with charges := [(1, { t1 := 2 })], meter := { sums := [(9, 100)], seq := 4 }, pkg := { pwr := .running, updEn := true },
              gauge := { st := .running, lastRec := 4, charge := [(12, 16)], time := 10, log := [⟨1, 0, 0x18, 0⟩, ⟨2, 0, 0x10, 0⟩], next := 3, exported := [(1, 2, 77)], asked := some { kind := 2, tenant := 0, nonce := 1, time := 0, device := 0, lastRec := 0 } } }
theorem test_metering_has_states :
    (gaugeS.gauge.st = .running ∧ gaugeS.dueAmount 9 = some 100 ∧ (gaugeS.dueAmount 12).isSome = true ∧ gaugeS.gauge.keyOk = true ∧ gaugeS.gauge.asked.isSome = true) ∧
    (∀ m ∈ [MRecord.mk 5 0 1 3 2048, ⟨7, 0, 1, 1, 1⟩, ⟨4, 0, 1, 4, 1⟩], m.bytes.length = 32 ∧ fieldAt m.bytes 28 4 = crc32c (m.bytes.take 28) ∧ fieldAt m.bytes 0 8 = m.seq ∧ nth m.bytes 18 = m.kind ∧ fieldAt m.bytes 20 8 = m.amount) ∧
    ((5 = gaugeS.gauge.lastRec + 1 ∧ gaugeS.gauge.lastRec < 7 ∧ 7 ≠ gaugeS.gauge.lastRec + 1 ∧ 4 ≤ gaugeS.gauge.lastRec) ∧ [1, 2].length ≠ 32 ∧ (1 ≤ 256 ∧ reading0.kind = 2)) ∧
    (Map.has gaugeS.gauge.charge 12 = true ∧ Map.has gaugeS.gauge.charge 13 = false) ∧ (8192 - gaugeS.gauge.log.length - (if gaugeS.gauge.pendVersion = 0 then 0 else 1) = 8190 ∧ gaugeS.gauge.log.length + 4 ≤ 8192) ∧
    (gaugeS.start.st ≠ .berm ∧ (∃ e, gaugeS.gauge.log.head? = some e ∧ e.seq = 1) ∧ (1, 2, 77) ∈ gaugeS.gauge.exported ∧ 2 ≤ gaugeS.gauge.log.length) ∧
    State.reset.gauge.st = .awaiting ∧ (200 < (-201 : Int).natAbs ∧ (10 ^ 9 : Int).natAbs ≤ 10 ^ 9) ∧ InStep gaugeS := by
  refine ⟨?_, ?_, ?_, ?_, ?_, ⟨?_, ⟨_, rfl, ?_⟩, ?_, ?_⟩, ?_, ?_, Or.inr ⟨?_, ?_, ?_⟩⟩ <;> first | decide +kernel | simp [gaugeS, run8, srv]

/-- An update package: its length, its first bytes and its version. -/
def packageOf (first version : Nat) : List Nat := [first, 0, 0, 0] ++ leBytes 4 version ++ List.replicate 4691 0
theorem test_update_packages_have_states :
    ((packageOf 1 5).length = 4699 ∧ nth (packageOf 1 5) 0 = 1 ∧ fieldAt (packageOf 1 5) 1 3 = 0 ∧ fieldAt (packageOf 1 5) 4 4 = 5 ∧ ¬ (5 ≤ gaugeS.gauge.approvedVersion ∨ 5 ≤ gaugeS.gauge.pendVersion)) ∧
    nth (packageOf 2 5) 0 ≠ 1 ∧ fieldAt (packageOf 1 0) 4 4 ≤ gaugeS.gauge.approvedVersion ∧ ({ gaugeS with pkg := { gaugeS.pkg with updEn := false } } : State).pkg.updEn = false ∧ ({ gaugeS with start := { st := .berm } } : State).start.st = .berm := by decide +kernel

/-- The log is full for the sealed island. -/
theorem test_full_seal_log_has_a_state :
    ∃ l : List GEntry, 8192 - l.length - (if (0 : Nat) = 0 then 0 else 1) = 0 := ⟨List.replicate 8192 ⟨1, 0, 5, 0⟩, by rw [List.length_replicate]; decide⟩

/-- A start in each of its states. -/
def startAt (x : StartState) : State := { pkg := { pwr := .running }, start := { st := x }, host := { master := true }, thermal := { trim := 40 } }
/-- The bytes of a bundle of eight sections, the first for S0: the header, a public key, the section table of empty sections, a section, its signature. -/
def headOf (edition : Nat) (key : List Nat) : List Nat := [1, 0] ++ leBytes 2 8 ++ leBytes 4 7 ++ leBytes 4 0 ++ [edition, 0, 0, 0] ++ leBytes 8 8723 ++ List.replicate 104 0 ++ key
def tableOf (digest : List Nat) : List Nat := [1, 2, 2, 2, 2, 2, 2, 2].flatMap fun k => [k, 0, 0, 0, k % 2, 0, 0, 0] ++ leBytes 8 4096 ++ leBytes 8 0 ++ leBytes 8 0 ++ digest
def bundleOf (edition : Nat) (key digest : List Nat) : Bundle := ⟨headOf edition key ++ (tableOf digest ++ List.replicate 5235 0), true, [img]⟩
/-- A bundle whose second section holds an image for polder 0. -/
def bundle1 : Bundle :=
  ⟨[1, 0] ++ leBytes 2 2 ++ leBytes 4 7 ++ leBytes 4 0 ++ [3, 0, 0, 0] ++ List.replicate 2704 0 ++ [1, 0, 0, 0, 3] ++ List.replicate 91 0 ++ [3, 0, 0, 0, 1] ++ List.replicate 91 0, true, [img]⟩
/-- The bundle whose key is the one the part carries, and whose digests are those of its sections. -/
def bundle0 : Bundle := bundleOf 3 (publicRun 9 2592) (sha3 [])
theorem bundle0_head : (headOf 3 (publicRun 9 2592)).length = 2720 := by rw [headOf, List.length_append, publicRun, List.length_map, List.length_range]; decide +kernel
theorem bundle0_bytes : bundle0.bytes = headOf 3 (publicRun 9 2592) ++ (tableOf (sha3 []) ++ List.replicate 5235 0) := rfl
theorem nth_past {h : List Nat} {n : Nat} (t : List Nat) (hn : h.length = n) (i : Nat) : nth (h ++ t) (n + i) = nth t i := by
  subst hn; rw [nth, nth, List.getD_eq_getElem?_getD, List.getD_eq_getElem?_getD, List.getElem?_append_right (Nat.le_add_right _ _), Nat.add_sub_cancel_left]
theorem fieldAt_past {h : List Nat} {n : Nat} (t : List Nat) (hn : h.length = n) (o k : Nat) : fieldAt (h ++ t) (n + o) k = fieldAt t o k := by subst hn; simp [fieldAt]
theorem firstSet_past {h : List Nat} {n : Nat} (t : List Nat) (hn : h.length = n) (o k : Nat) : firstSet (h ++ t) (n + o) k = (firstSet t o k).map (n + ·) := by
  simp only [firstSet, Nat.add_assoc, nth_past t hn]; cases (List.range k).find? fun i => decide (nth t (o + i) % 256 ≠ 0) <;> rfl
theorem test_a_bundle_is_formed : bundle0.malformedAt 8723 = none ∧ (bundle0.bytes.drop 128).take 2592 = publicRun 9 2592 := by
  have e : ∀ i < 8, bundle0.badEntry i = [] := by
    simp only [Bundle.badEntry, Bundle.kind, Bundle.targets, Bundle.offset, Bundle.len, Bundle.entryAt, bundle0_bytes, Nat.add_assoc, nth_past _ bundle0_head, fieldAt_past _ bundle0_head,
      firstSet_past _ bundle0_head, List.length_append, bundle0_head, List.length_replicate]
    decide +kernel
  have c : bundle0.badCount = false ∧ bit bundle0.stewards 0 = true := by
    simp only [Bundle.badCount, Bundle.stewards, Bundle.ofKind, Bundle.kind, Bundle.targets, Bundle.entryAt, bundle0_bytes, Nat.add_assoc, nth_past _ bundle0_head, fieldAt_past _ bundle0_head, firstSet_past _ bundle0_head]
    decide +kernel
  have f : nth bundle0.bytes 0 = 1 ∧ firstSet bundle0.bytes 1 1 = [] ∧ firstSet bundle0.bytes 13 3 = [] ∧ fieldAt bundle0.bytes 16 8 = 8723 ∧ firstSet bundle0.bytes 24 104 = [] ∧ bundle0.sections = 8 := by decide +kernel
  constructor
  · rw [Bundle.malformedAt, if_pos f.1, f.2.1, c.1, f.2.2.1, if_pos f.2.2.2.1, f.2.2.2.2.1, if_pos c.2, f.2.2.2.2.2]
    simp only [List.nil_append, ite_eq_left_iff]
    have : (List.range (min 8 8)).flatMap bundle0.badEntry = [] := by rw [List.flatMap_eq_nil_iff]; exact fun i hi => e i (by simpa using hi)
    rw [this]; exact fun h => absurd rfl h
  · rw [bundle0_bytes, headOf, List.append_assoc, List.drop_left' (by decide +kernel)]
    exact List.take_left' (by rw [publicRun, List.length_map, List.length_range])
theorem test_bundles_have_states :
    let d : State := { startAt .awaitBundle with start := { st := .awaitBundle, path := 1, pulling := true, total := 8723 } }
    d.start.pulling = true ∧ d.host.master = true ∧ fieldAt (bundleOf 3 [] []).bytes 8 4 ≤ d.obj 0x101803 ∧ nth (bundleOf 3 [] []).bytes 12 = 3 ∧ nth (bundleOf 4 [] []).bytes 12 ≠ 3 := by
  decide +kernel
theorem rows_drop (f : Nat → List Nat) (h : ∀ k, (f k).length = 96) : ∀ (l : List Nat) (i : Nat), (l.flatMap f).drop (96 * i) = (l.drop i).flatMap f
  | [], i => by simp
  | k :: l, 0 => rfl
  | k :: l, i + 1 => by
    rw [List.flatMap_cons, Nat.mul_succ, Nat.add_comm, ← List.drop_drop, List.drop_left' (h k), rows_drop f h l i, List.drop_succ_cons]
theorem sha3_length (bs : List Nat) : (sha3 bs).length = 64 := by simp [sha3, leBytes, List.length_flatMap]
theorem test_section_digests_have_states : ∀ i, i < 8 → (bundle0.bytes.drop (Bundle.entryAt i + 32)).take 64 = sha3 ((bundle0.bytes.drop (bundle0.offset i)).take (bundle0.len i)) := by
  have z : ∀ i < 8, bundle0.len i = 0 := by
    simp only [Bundle.len, Bundle.entryAt, bundle0_bytes, Nat.add_assoc, fieldAt_past _ bundle0_head]; decide +kernel
  intro i hi
  have r : ∀ k, ([k, 0, 0, 0, k % 2, 0, 0, 0] ++ leBytes 8 4096 ++ leBytes 8 0 ++ leBytes 8 0 ++ sha3 []).length = 96 := fun k => by simp [sha3_length, leBytes]
  rw [z i hi, List.take_zero, Bundle.entryAt, bundle0_bytes, Nat.add_assoc, ← List.drop_drop, List.drop_left' bundle0_head, ← List.drop_drop, List.drop_append_of_le_length, tableOf, rows_drop _ r]
  · obtain ⟨k, l, h⟩ : ∃ k l, [1, 2, 2, 2, 2, 2, 2, 2].drop i = k :: l := List.exists_cons_of_length_pos (by simp; exact hi)
    rw [h, List.flatMap_cons, List.append_assoc, List.append_assoc, List.drop_left' (by simp [leBytes])]
    exact List.take_left' (sha3_length [])
  · rw [tableOf, List.length_flatMap]; simp only [r]; simp; omega
/-- An image and a descriptor list of two entries. -/
def descOf (at_ n : Nat) : List Nat := leBytes 8 at_ ++ leBytes 4 n ++ leBytes 4 0
def listOf : List Nat := leBytes 8 4096 ++ leBytes 4 4096 ++ leBytes 4 0 ++ leBytes 8 8192 ++ leBytes 4 100 ++ leBytes 4 0
theorem test_starts_have_states :
    ((startAt .rom).start.latch = false ∧ (startAt .rom).start.bermCause ≠ 1 ∧ (startAt .identity).start.entropyOk = true) ∧
    ([(75 : Int), 31][1]? = some 31 ∧ (∀ m ∈ [(75 : Int), 31], 31 ≤ m) ∧ (∀ j, j < 1 → [(75 : Int), 31][j]? ≠ some 31) ∧ (startAt .margin).thermal.trim ≠ 0 ∧ (startAt .margin).thermal.trim < (startAt .margin).obj 0x232003) ∧
    (({ startAt .margin with thermal := { trim := 200, gaugeCeil := 250 } } : State).obj 0x232003 ≤ 200 ∧ 0x0F % 256 ≠ 0 ∧ 0x100 % 256 = 0) ∧
    (fieldAt (descOf 64 2) 0 8 % 16 = 0 ∧ fieldAt (descOf 64 2) 8 4 = 2 ∧ fieldAt (descOf 64 2) 12 4 = 0 ∧ listOf.length = 32 ∧ (∀ i, i < 2 → fieldAt listOf (16 * i + 12) 4 = 0 ∧ fieldAt listOf (16 * i) 8 % 4096 = 0) ∧
      fieldAt listOf 8 4 % 4096 = 0 ∧ ((List.range 2).map fun i => fieldAt listOf (16 * i + 8) 4).sum ≤ 67108864 ∧ fieldAt (descOf 72 2) 0 8 % 16 ≠ 0) ∧
    (let d : State := { startAt .stewards with start := { st := .stewards, bundle := some bundle1 } }
     bit bundle1.stewards 0 = true ∧ bit bundle1.stewards 1 = true ∧ d.start.st = .stewards ∧ d.steward 1 = .off) ∧
    (let d : State := { startAt .programs with start := { st := .programs, bundle := some bundle1 } }
     (∀ p, p < 8 → (d.polder p).prog = .empty ∧ (bundle1.programs.filter fun i => bit i.1 p).length ≤ 1) ∧ (1, img) ∈ bundle1.programs ∧ bit 1 0 = true ∧ refusalOf d img = 0 ∧ refusalOf d { img with edition := 2 } = 1) ∧
    ((startAt .joining).start.timeSet = false ∧ ({ startAt .serving with start := { st := .serving, timeSet := true } } : State).start.portsUp = false ∧ (startAt .serving).obj 0x251002 = 1) ∧
    (let d (x : StartState) (at_ : Nat) : State := { startAt x with time := 1000000000000, start := { st := x, entered := at_ } }
     0 + 5000000 ≤ (d .rom 0).time ∧ ¬ (999999999999 + 5000000 ≤ (d .rom 999999999999).time) ∧ 0 + 10 ^ 9 * (d .joining 0).obj 0x200008 ≤ (d .joining 0).time ∧ (d .joining 999999999999).time < 999999999999 + 10 ^ 9 * (d .joining 0).obj 0x200008 ∧
     0 + 10 ^ 9 * (d .awaitBundle 0).obj 0x200007 ≤ (d .awaitBundle 0).time) := by
  and_intros <;> decide +kernel

theorem test_resets_have_states :
    (startAt .serving).start.st = .serving ∧ ((startAt .joining).start.st, 10) ∈ [(StartState.rom, 1), (.joining, 10)] ∧ (startAt .berm).start.st = .berm ∧ (startAt .berm).start.latch = false ∧
    ((startAt .rom).pkg.pwr = .running ∧ State.reset.pkg.pwr = .ready ∧ ({ startAt .rom with pkg := { pwr := .failing } } : State).pkg.pwr = .failing) ∧
    (((List.range 13).filter fun i => !bit 0x1FFE i).length = 1 ∧ bit 0x1FFE 0 = false ∧ ((List.range 13).filter fun i => !bit 0x1FFF i).length = 0) ∧
    ((railOf 1).map fun r => decide (r.most < 1101 ∧ r.low ≤ 10 * 750 ∧ 10 * 750 ≤ r.high ∧ 1050 ≤ r.most ∧ ¬ 10 * 1050 ≤ r.high)) = some true ∧ railOf 17 = none ∧ (∃ x ∈ [(1200 : Int)], 1200 ≤ x) ∧ (∃ x ∈ [(1100 : Int)], 1100 ≤ x) ∧ (¬ ∃ x ∈ [(1199 : Int)], 1200 ≤ x) ∧
    3 ≤ ((([(1, 1, 0), (1, 1, 0)] : List (Nat × Nat × Nat)) ++ [(0xF, 2, 0)]).take 3).length := by and_intros <;> decide +kernel

/-! WOA, the mailbox and the host interface: states that meet the hypotheses of the clauses. -/

def msgFl (path : Fin 3) (cmd flags key total off len value : Nat) : WoaMsg := { path := path, bytes := woaBytes 1 1 cmd flags key total off len value }
def put1 (x : Xfer) (links : Map Nat) : State := { run8 with woa := { xfers := [(65537, x)], links := links } }
def wx : Xfer := { write := true, key := 0x2E1201, total := 1728, path := 0, ranges := [(0, 100)], value := 5, placed := 3 }
def rx : Xfer := { write := false, key := 0x2460, total := 262144, path := 0, sent := 44800, acked := 1400 }
theorem test_woa_messages_have_states :
    (WoaTaken run8 msg ∧ Map.find run8.woa.xfers (msg.client * 65536 + msg.xfer) = none ∧ run8.woa.kept = []) ∧ State.reset.powered = false ∧
    ((run8.readCheck 0x200004).isOk = true ∧ run8.readLen 0x200004 ≤ 1400 ∧ (run8.readCheck 0x2C2004).isOk = false ∧ (run8.readCheck 0x246000).isOk = true ∧ run8.woa.xfers.length < 64) ∧
    ((run8.writeCheck 0 0x220001 2).isOk = true ∧ ((run8.writeCheck 0 0x220001 2).toOption.map fun r => ((run8.applyWrite r 0x220001 2 1000).isOk, (run8.applyWrite r 0x220001 2 3).isOk)) = some (true, false) ∧
      (run8.writeCheck 0 0x220001 3).isOk = false ∧ (run8.writeCheck 0 0x2E1201 1728).isOk = true) ∧
    (({ run8 with woa := { kept := [(65537, 0x220001, 0)] } } : State).time < 0 + 2 * 10 ^ 9 ∧ (msgOf 0 1 0x200004 0 1 0 0).off ≠ 0 ∧ (msgFl 0 2 0 0x2E1201 1728 0 0 0).total ≠ 0) := by
  unfold WoaTaken; and_intros <;> decide +kernel

/-- An expedited WRITE, one that opens a transfer, the wrong ones, a SEGMENT, an ACK and an ABORT; and messages that are dropped or refused. -/
theorem test_woa_fields_have_messages :
    (∀ x ∈ [(msgFl 0 2 6 0x220001 2 0 2 1000, 2), (msgFl 0 2 0 0x2E1201 1728 0 0 0, 2), (msgFl 0 3 4 0x2E1201 1728 100 50 7, 3), (msgFl 0 4 0 0x2460 262144 2800 0 0, 4), (msgFl 0 5 0 0x2460 262144 0 0 0, 5), (msgFl 2 1 0 0x200004 0 0 0 0, 1)], x.1.cmd = x.2 ∧ WoaTaken run8 x.1) ∧
    ((msgFl 0 2 6 0x220001 2 0 2 1000).expedited = true ∧ (msgFl 0 2 6 0x220001 2 0 2 1000).last = true ∧ (msgFl 0 2 6 0x220001 2 0 2 1000).value = 1000 ∧ (msgFl 0 2 0 0x2E1201 1728 0 0 0).expedited = false ∧ (msgFl 0 2 0 0x2E1201 1728 0 0 0).len = 0) ∧
    ((msgFl 0 2 2 0x220001 2 0 2 1000).last = false ∧ (msgFl 0 2 2 0x220001 2 0 2 1000).expedited = true) ∧ ((msgFl 0 1 1 0x200004 0 0 0 0).response = true ∧ (msgFl 0 1 8 0x200004 0 0 0 0).reservedSet = true) ∧
    ((WoaMsg.mk 0 (msg.bytes.set 3 1) 0).crcOk = false ∧ (WoaMsg.mk 0 (2 :: msg.bytes.drop 1) 0).version ≠ 1 ∧ (msgOf 0 9 0x2C2004 8 0 0 0).cmd = 9) := by
  unfold WoaTaken; and_intros <;> decide +kernel

theorem test_woa_transfers_have_states :
    (Map.find (put1 wx []).woa.xfers 65537 = some wx ∧ wx.ranges = [(0, 100)] ∧ 100 ≠ 0 ∧ 100 + 200 ≤ min wx.total (wx.acked + 32 * 1400) ∧ 100 + 200 < wx.total ∧ wx.placed < 7 ∧ rangeTotal wx.ranges < wx.total ∧ 100 + 1628 = wx.total) ∧
    ((put1 wx []).lookup wx.key).isOk = true ∧ (rx.acked < rx.sent ∧ rx.sent ≤ rx.total ∧ rx.rounds < 8 ∧ rx.acked + min 1400 (rx.total - rx.acked) ≤ rx.sent) ∧
    (rx.acked < 2800 ∧ 2800 ≤ rx.sent) ∧ (({ rx with sent := 262144 } : Xfer).total ≤ ({ rx with sent := 262144 } : Xfer).sent) ∧ ({ wx with broken := true } : Xfer).broken = true ∧ (put1 rx [(0, 0)]).sends 0 = false ∧ (put1 rx []).sends 0 = true ∧
    (let d (time_ : Nat) : State := { put1 { rx with heard := 5, since := 7 } [] with time := time_ }
     (5 + 10 ^ 6 * (d 0).obj 0x1E0002 ≤ (d (5 + 10 ^ 6 * (d 0).obj 0x1E0002)).time ∧ (d 5).time < 5 + 10 ^ 6 * (d 0).obj 0x1E0002) ∧ (7 + 10 ^ 6 * (d 0).obj 0x1E0003 ≤ (d (7 + 10 ^ 6 * (d 0).obj 0x1E0003)).time ∧ ¬ (7 + 10 ^ 6 * (d 0).obj 0x1E0003 ≤ (d 7).time))) := by
  and_intros <;> decide +kernel

theorem test_objects_have_each_access :
    (objRow 0x2200FE = none ∧ objIndex 0x2200 = true) ∧ ((objRow 0x2C2004).map fun r => decide (r.access = .wo)) = some true ∧ ((objRow 0x200004).map fun r => decide (r.access = .ro)) = some true ∧
    ((objRow 0x220001).map fun r => decide (r.access = .rw) && !r.var && decide (r.size = 2)) = some true ∧ (objTable.any fun r => decide (r.access = .sealed_)) = true ∧ objIndex 0x0FFF = false := by and_intros <;> decide +kernel

theorem test_mailbox_has_states :
    (run8.woa.h2d = none ∧ run8.powered = true ∧ run8.steward 0 ≠ .halted ∧ WoaTaken run8 { msg with path := 2 }) ∧ (({ run8 with woa := { d2h := 40, waiting := [(.unsupported 0, 36)] } } : State).woa.d2h ≠ 0) ∧
    Map.find run8.woa.links 0 ≠ some 1 ∧ (exec (.woaRead { msg with path := 2 }) run8 matches .next _) = true := by
  unfold WoaTaken; and_intros <;> decide +kernel

/-- Ring 0 with an entry that waits. -/
def ringed : State := { run8 with rings := [(0, { st := 1, rcfg := 0x00010100, sqTail := 1 }), (1, { st := 3 }), (2, { st := 2 }), (3, { st := 1, rcfg := 0x05010100, unsig := 1 })], host := { master := true }, regs := bindingRegs ++ [(0x2F0006, 1)] }
theorem test_rings_have_states :
    (ringed.start.st = .serving ∧ ringed.host.master = true ∧ (ringed.ring 0).st = 1 ∧ (ringed.ring 0).sqHead ≠ (ringed.ring 0).sqTail ∧ (ringed.ring 0).unread + (ringed.ring 0).reserved < 64 ∧ 2 ^ (6 + (ringed.ring 0).rcfg % 16) = 64) ∧
    ((hdrField (hdrOf 0 0 []) 0 1 = 0) ∧ hdrField (hdrOf 0 0 [(5, 1)]) 5 1 ≠ 0 ∧ ∀ j, j < 5 → hdrField (hdrOf 0 0 [(5, 1)]) j 1 = 0) ∧ ((ringed.ring 1).st = 3 ∧ (ringed.ring 2).st = 2 ∧ (ringed.ring 2).reserved = 0 ∧ (ringed.ring 4).st = 0) ∧
    ((ringed.ring 3).unsig ≠ 0 ∧ (ringed.ring 3).rcfg / 2 ^ 24 % 256 ≠ 0) ∧ ({ ringed with sec := { conf := true } } : State).sec.conf = true ∧
    (let c := 0x00010021; c % 16 ≤ 10 ∧ c / 16 % 16 ≤ 10 ∧ c % 16 ≤ c / 16 % 16 ∧ 1 ≤ c / 65536 % 256) := by and_intros <;> decide +kernel

theorem test_window_and_areas_have_states :
    (ringed.start.st = .serving ∧ ringed.sec.conf = false ∧ 0 + 64 ≤ 2 ^ 40 ∧ (∀ a, a < 64 → a / 65536 % 2 ^ 21 / 256 ≤ 4290) ∧ (ringed.polder 0).down = false ∧ ringed.obj 0x2F0006 = 1) ∧
    ((sectorsOf 0 64).filter fun k => [0].contains k || !ringed.sectorOk k) = [0] ∧
    (Map.find ({ ringed with reqs := [(3, { held8 with phase := .body, src := .ring 0 0 0 })] } : State).reqs 3 = some { held8 with phase := .body, src := .ring 0 0 0 } ∧ (startAt .awaitBundle).start.pulling = false) ∧
    ((ringed.host.spill.st ≠ 1 ∧ ∀ e ∈ [(0, 4096)], e.1 % 4096 = 0 ∧ e.2 % 4096 = 0) ∧ tier.host.spill.st = 1 ∧ tier.host.spillMap ≠ [] ∧ con.conduits.any (fun e => !e.2.onDie && decide (e.2.st ≠ .closed)) = true) ∧
    (ringed.reqs = [] ∧ Map.wf ringed.seqs ∧ (∀ e ∈ ringed.conduits, e.2.onDie = true)) ∧ (∀ r ∈ ringed.routes, (ringed.moveOf r).conduit = none) := by and_intros <;> decide +kernel

/-- Submission entries: of a request with a body, of a fence, of a fence with a byte set, of a wrong type; tails at and beyond a ring's size; a counter that rises and one that does not. -/
def entryOf (kind b5 ty body : Nat) (counter : Nat) : List Nat := [kind, 0, 0, 0, 0, b5] ++ List.replicate 34 0 ++ leBytes 4 body ++ List.replicate 16 0 ++ [ty, 0, 0, 0] ++ List.replicate 16 0 ++ leBytes 8 counter
theorem test_submissions_have_states :
    (nth (entryOf 1 0 1 64 0) 60 = 1 ∧ fieldAt (entryOf 1 0 1 64 0) 40 4 = 64 ∧ nth (entryOf 3 0 1 64 0) 0 = 3 ∧ nth (entryOf 0 0 2 0 0) 60 = 2 ∧ fieldAt (entryOf 0 0 2 0 0) 0 32 = 0 ∧ nth (entryOf 0 0 3 0 0) 60 = 3 ∧
      fieldAt (entryOf 0 0 2 0 0) 61 3 = 0) ∧ (hdrField (BitVec.ofNat 256 (fieldAt (entryOf 0 9 2 0 0) 0 32)) 5 1 ≠ 0) ∧
    (fieldAt (entryOf 1 0 1 64 7) 80 8 = 7 ∧ (ringed.ring 0).counter < 7 ∧ fieldAt (entryOf 1 0 1 64 0) 80 8 ≤ (ringed.ring 0).counter) ∧
    (64 ≤ 64 % 65536 ∧ 63 % 65536 < 64 ∧ 65536 % 65536 < 64) := by decide +kernel

/-- The lists of areas: a formed one, one misplaced, one too large for each area; and the counts that their registers give. -/
theorem test_area_lists_have_states :
    let d (n : Nat) : State := { ringed with regs := bindingRegs ++ [(0x2F1002, n), (0x2F1102, n)] }
    let l (at_ len : Nat) : List Nat := leBytes 8 at_ ++ leBytes 4 len ++ leBytes 4 0
    ((d 1).obj 0x2F1002 = 1 ∧ fieldAt (l 4096 4096) 0 8 % 4096 = 0 ∧ fieldAt (l 4096 4096) 8 4 % 4096 = 0 ∧ fieldAt (l 4096 4096) 12 4 = 0) ∧ (d 0).obj 0x2F1002 = 0 ∧ fieldAt (l 4097 4096) 0 8 % 4096 ≠ 0 ∧
    (268435456 < fieldAt (l 4096 268439552) 8 4 ∧ fieldAt (l 4096 268435456) 8 4 ≤ 268435456) ∧ ({ ringed with host := { ringed.host with spill := ⟨1, 0, 4096, [(0, 4096)]⟩ } } : State).host.spill.st = 1 ∧
    (ringed.spillRuns = [] ∧ ∀ e ∈ ringed.seqs, e.2.st ≠ .spilling) ∧ (∃ e ∈ ({ ringed with seqs := [(8, { seq8 with st := .spilling })] } : State).seqs, e.2.st = .spilling) := by and_intros <;> decide +kernel

/-- A device with a command that waits, and a step of it. -/
theorem test_a_step_runs :
    ({ run8 with pending := [.thermtrip [1200] []] } : State).pending = [.thermtrip [1200] []] ∧ (match step { run8 with pending := [.thermtrip [1200] []] } with | .next t => decide (t.pkg.thermtrip = true ∧ t.pending = [] ∧ MemWf t) | _ => false) = true ∧
    (match step run8 with | .next t => decide (t.time = 1) | _ => false) = true := by unfold MemWf; and_intros <;> decide +kernel

/-- States at and before the bounds of the waits that State times: a body, a fetch, a record, a drive's commands, a port's training and lock, an epoch's
boundary and messages, a freeze, idle polders, coalesced completions, a droop's readings. -/
theorem test_waits_end_at_their_bounds :
    let late : Nat := 10 ^ 12
    (let q : Request := { held8 with phase := .body }
     let d (time_ : Nat) : State := { srv with time := time_, reqs := [(3, q)] }
     Map.find (d late).reqs 3 = some q ∧ (d late).obj 0x2B3203 ≤ (d late).since q.since ∧ (d 9999).since q.since < (d 9999).obj 0x2B3203) ∧
    (srv.obj 0x2C1005 ≤ ({ srv with time := late } : State).since (onLadder .fetching).since ∧ srv.since (onLadder .fetching).since < srv.obj 0x2C1005) ∧
    (let d (time_ : Nat) : State := { duo .paired with time := time_, pair := { (duo .paired).pair with heldRecs := [(1, attend8)], lacking := some (1, 5000) } }
     (d late).obj 0x2C1006 ≤ (d late).since 5000 ∧ (d 5000).since 5000 < (d 5000).obj 0x2C1006) ∧
    (let d (time_ : Nat) : State := { tier with time := time_, seqs := [(8, { seq8 with st := .flushing })] }
     (d 7).movesOn 8 0 = true ∧ (d 7).since 0 < (d 7).obj 0x292001 ∧ (d late).obj 0x292001 ≤ (d late).since 0) ∧
    (let d (time_ : Nat) (st : PortState) : State := { net with time := time_, ports := [(2, { st := st, since := 10 })] }
     2000000 ≤ (d late .training).since ((d late .training).port 2).since ∧ (d 11 .pcsUp).since ((d 11 .pcsUp).port 2).since < 1000 ∧ net.obj 0x250004 < 9 ∧ 8 ≤ net.obj 0x250004) ∧
    ((con.conduit 0).st ≠ .closed ∧ (con.conduit 0).st ≠ .opening ∧ (con.conduit 0).gen = chdr.gen ∧ (State.reset.conduit 0).st = .closed) ∧
    (let c : Chart := { st := .prepared, boundary := some 70000, sentTo := [(6, 5000)], resend := [(6, 40)] }
     (∃ b, c.boundary = some b ∧ b ≤ 70000) ∧ (∀ b, c.boundary = some b → 69999 < b) ∧
     40 ≤ ({ comp with time := 45000 } : State).since (Map.getD c.sentTo 6 0) ∧ ({ comp with time := 44999 } : State).since (Map.getD c.sentTo 6 0) < Map.getD c.resend 6 20) ∧
    (outb.since 0 < outb.obj (recKey 0x2440 0 9) ∧ ({ outb with time := late } : State).obj (recKey 0x2440 0 9) ≤ ({ outb with time := late } : State).since (outb.moveOf (.chart 0 0)).frozenAt) ∧
    (let x : Polder := { lanes := [(1, { entry := ent, reported := true, freeAt := 100 })], busyAt := 7 }
     (Map.vals x.lanes).foldl (fun b a => max b a.freeAt) x.busyAt = 100 ∧ run8.obj 0x240402 ≤ ({ run8 with time := late } : State).since 100 ∧ run8.since 100 < run8.obj 0x240403) ∧
    ((ringed.ring 3).rcfg / 2 ^ 24 % 256 ≤ ({ ringed with time := late } : State).since (ringed.ring 3).unsigAt ∧ ringed.since (ringed.ring 3).unsigAt < (ringed.ring 3).rcfg / 2 ^ 24 % 256) ∧
    (let f := droopy.obj 0x232001 + droopy.thermal.trim
     f ≤ f + 10 - droopy.obj 0x231001 + droopy.obj 0x231001 ∧ f + 10 - droopy.obj 0x231001 + droopy.obj 0x231001 ≤ f + 10 ∧ f + 10 < 1200 + droopy.obj 0x231001) := by
  intro late; and_intros <;> decide +kernel

/-- The first two blocks of a data unit under AES-256-XTS: vector 10 of IEEE 1619, whose tweak is the LBA FFh of drive 0. -/
theorem test_xts_vector :
    let hex (n k : Nat) : List Nat := (leBytes k n).reverse
    xtsUnit (hex 0x2718281828459045235360287471352662497757247093699959574966967627 32 ++ hex 0x3141592653589793238462643383279502884197169399375105820974944592 32) 0 0xFF
      (List.range 32) = hex 0x1C3B3A102F770386E4836C99E370CF9BEA00803F5E482357A4AE12D414A3E63B 32 := by decide +kernel

end Sys2Proof.Tests
end

/-! PROOFS. Bodies and fences (O28). First the layer that every answer needs: what an answer's way out changes (OnlyAnswered), and
what the end of a request leaves (Ended). Then a body's bytes in its frames, and the commands that bring a body. -/

namespace Sys2Proof.Safety
open Sys2Proof.Machine

/-! ### OnlyAnswered composes -/

theorem OnlyAnswered.refl (s : State) : OnlyAnswered s s := ⟨fun _ _ => rfl, rfl⟩

theorem OnlyAnswered.trans {s t u : State} (h : OnlyAnswered s t) (g : OnlyAnswered t u) : OnlyAnswered s u :=
  ⟨fun n hn => (g.1 n hn).trans (h.1 n hn), g.2.trans (by rw [h.2])⟩

theorem OnlyAnswered.foldl {α : Type} {f : State → α → State} (h : ∀ s x, OnlyAnswered s (f s x)) (l : List α) (s : State) :
    OnlyAnswered s (l.foldl f s) := by
  induction l generalizing s with
  | nil => exact .refl s
  | cons x l ih => exact (h s x).trans (ih _)

theorem OnlyAnswered.ite {s a b : State} {c : Prop} [Decidable c] (h : OnlyAnswered s a) (g : OnlyAnswered s b) :
    OnlyAnswered s (if c then a else b) := by
  split <;> assumption

theorem OnlyAnswered.setSched {s t : State} (h : OnlyAnswered s t) (x : Sched) : OnlyAnswered s { t with sched := x } :=
  h.trans ⟨fun _ _ => rfl, rfl⟩

theorem OnlyAnswered.reqs_eq {s t : State} (h : OnlyAnswered s t) : t.reqs = s.reqs := by rw [h.2]
theorem OnlyAnswered.time_eq {s t : State} (h : OnlyAnswered s t) : t.time = s.time := by rw [h.2]

end Sys2Proof.Safety

namespace Sys2Proof.Proofs
open Sys2Proof.Machine Sys2Proof.Safety Sys2Proof.Laws

/-! ### What leaves the device changes nothing else (R269, R285, R295, R335) -/

theorem bump_onlyAnswered (s : State) (k : Nat) : OnlyAnswered s (s.bump k) := ⟨fun _ _ => rfl, rfl⟩
theorem enqueue_onlyAnswered (s : State) (res c : Nat) (w : Work) : OnlyAnswered s (s.enqueue res c w) := ⟨fun _ _ => rfl, rfl⟩
theorem work_onlyAnswered (s : State) (res c len : Nat) : OnlyAnswered s (s.work res c len) := enqueue_onlyAnswered s res c _
theorem arrive_onlyAnswered (s : State) (x : Nat) : OnlyAnswered s (s.arrive x) := by
  unfold State.arrive
  split
  · exact ⟨fun _ _ => rfl, rfl⟩
  · exact .refl s

theorem handOver_onlyAnswered (s : State) (c : Context) : OnlyAnswered s (s.handOver c) := by
  unfold State.handOver
  exact .ite (.ite (bump_onlyAnswered s _) (.refl s)) ⟨fun _ _ => rfl, rfl⟩

/-- A packet that reassembly takes is counted as bad, completes its message, or waits in its context. -/
theorem reassemble_onlyAnswered {s t : State} {k : Packet} (h : s.reassemble k = some t) : OnlyAnswered s t := by
  have hput (bad done : Prop) [Decidable bad] [Decidable done] (c : Context) (closed opened : List Context)
      (h : (if bad then some (s.bump 0x270008) else if done then some (State.handOver { s with contexts := closed } c)
        else some { s with contexts := opened }) = some t) : OnlyAnswered s t := by
    split_ifs at h <;> cases h
    · exact bump_onlyAnswered s _
    · exact .trans ⟨fun _ _ => rfl, rfl⟩ (handOver_onlyAnswered _ c)
    · exact ⟨fun _ _ => rfl, rfl⟩
  simp only [State.reassemble] at h
  split at h
  · cases h; exact bump_onlyAnswered s _
  · split at h
    · split at h
      · cases h; exact bump_onlyAnswered s _
      · exact hput _ _ _ _ _ h
    · split at h
      · cases h
      · exact hput _ _ _ _ _ h

theorem fetchRecord_onlyAnswered (s : State) (c : Nat) : OnlyAnswered s (s.fetchRecord c) := by
  unfold State.fetchRecord
  split
  · exact .refl s
  · exact (bump_onlyAnswered s _).trans (work_onlyAnswered _ _ _ _)

theorem acceptClear_onlyAnswered {s t : State} {k : Packet} (h : s.acceptClear k = some t) : OnlyAnswered s t := by
  simp only [State.acceptClear] at h
  split at h
  · cases h; exact bump_onlyAnswered s _
  · split at h
    · split at h
      · cases h
      · cases h
        refine .trans (t := { s with miss := s.miss ++ [k] }) ⟨fun _ _ => rfl, rfl⟩ ?_
        split
        · exact fetchRecord_onlyAnswered _ _
        · exact .refl _
    · exact reassemble_onlyAnswered h

theorem accept_onlyAnswered {s t : State} {k : Packet} (h : s.accept k = some t) : OnlyAnswered s t := by
  unfold State.accept at h
  split at h
  · exact acceptClear_onlyAnswered h
  · split at h
    · cases h; exact bump_onlyAnswered s _
    · split at h
      · cases h; exact bump_onlyAnswered s _
      · obtain ⟨u, hu, rfl⟩ := Option.map_eq_some_iff.mp h
        exact (acceptClear_onlyAnswered hu).trans (bump_onlyAnswered u _)

theorem deliverOwn_onlyAnswered (s : State) (k : Packet) : OnlyAnswered s (s.deliverOwn k) := by
  unfold State.deliverOwn
  split
  · exact bump_onlyAnswered s _
  · split
    case h_1 t h => exact accept_onlyAnswered h
    case h_2 => exact ⟨fun n hn => by simp [port_setPort, hn], rfl⟩

/-- A packet that came in by no port leaves no ingress buffer and answers no neighbour. -/
theorem discardNoRoute_onlyAnswered (s : State) (k : Packet) (w : Work) (answer : Bool) (h : w.inPort = none) :
    OnlyAnswered s (s.discardNoRoute k w answer) := by
  simp only [State.discardNoRoute, State.leaveIngress, h]
  exact (bump_onlyAnswered s _).trans (arrive_onlyAnswered _ _)

theorem spray_onlyAnswered (s : State) (w : Work) (k : Packet) (h : w.inPort = none) : OnlyAnswered s (s.spray w k) := by
  unfold State.spray
  split
  · exact enqueue_onlyAnswered s _ _ _
  · exact ⟨fun _ _ => rfl, rfl⟩
  · exact discardNoRoute_onlyAnswered s k w true h

theorem sourcePacket_onlyAnswered (s : State) (tenant : Option Nat) (flow : Nat) (k : Packet) :
    OnlyAnswered s (s.sourcePacket tenant flow k) := by
  unfold State.sourcePacket
  refine .ite (deliverOwn_onlyAnswered s k) (.ite (bump_onlyAnswered s _) (.ite (discardNoRoute_onlyAnswered s k _ false rfl)
    (.ite (spray_onlyAnswered s _ k rfl) ?_)))
  exact .setSched (.ite (.ite (bump_onlyAnswered s _) (.refl s)) (.setSched (.ite (bump_onlyAnswered s _) (.refl s)) _)) _

theorem sourceMessage_onlyAnswered (s : State) (kind c dst pol slot msg : Nat) (data : List Nat) (tenant : Option Nat) (flow kindWord : Nat) :
    OnlyAnswered s (s.sourceMessage kind c dst pol slot msg data tenant flow kindWord) := by
  unfold State.sourceMessage
  exact .ite (.refl s) (.foldl (fun s k => sourcePacket_onlyAnswered s tenant flow k) _ s)

theorem ringEntry_onlyAnswered (s : State) (r : Nat) : OnlyAnswered s (s.ringEntry r) := by
  unfold State.ringEntry
  have h (g : RingSt) : OnlyAnswered s (s.setRing r g) := ⟨fun _ _ => rfl, rfl⟩
  exact .ite ((h _).trans (arrive_onlyAnswered _ _)) (h _)

theorem emit_onlyAnswered (s : State) (o : Out) : OnlyAnswered s (s.emit o) := by
  unfold State.emit
  split
  · split
    · exact (ringEntry_onlyAnswered s _).trans ⟨fun _ _ => rfl, rfl⟩
    · exact ⟨fun _ _ => rfl, rfl⟩
  · exact ⟨fun _ _ => rfl, rfl⟩

/-! ### A completion comes out, and a request ends -/

theorem countStatus_onlyAnswered (s : State) (kind seqId : Nat) (a : Answer) : OnlyAnswered s (s.countStatus kind seqId a) := by
  have hkind : OnlyAnswered s (if 1 ≤ kind ∧ kind ≤ 11 then s.bump (statusCounter kind a.status.code) else s) :=
    .ite (bump_onlyAnswered s _) (.refl s)
  simp only [State.countStatus]
  generalize (if 1 ≤ kind ∧ kind ≤ 11 then _ else _ : State) = u at hkind ⊢
  refine hkind.trans ?_
  split
  · exact bump_onlyAnswered u _
  · exact bump_onlyAnswered u _
  · exact .ite (bump_onlyAnswered u _) (.ite (bump_onlyAnswered u _) (.ite (bump_onlyAnswered u _)
      (.ite (bump_onlyAnswered u _) (.ite (bump_onlyAnswered u _) (.refl u)))))
  · exact .refl u

/-- A completion that is put out stands where R15 and R549 want it. -/
theorem emit_completion_answered (s : State) {src : Src} (tag gen replyAt : Nat) (data : List Nat) (a : Answer) :
    Answered (s.emit (.completion src tag gen a.status.code a.detail a.statusBody s.time replyAt data)) src tag gen a := by
  refine ⟨replyAt, data, ?_⟩
  dsimp only
  rw [(emit_onlyAnswered s _).time_eq]
  cases src with
  | ring r slot cookie =>
    by_cases h : s.host.master
    · exact .inl ⟨by simp [State.emit, h], fun _ _ _ _ => ⟨_, _, by simp [State.emit, h, State.hostWrites]; exact ⟨rfl, rfl⟩⟩⟩
    · exact .inr (by simp [State.emit, h])
  | fabric | mirror => exact .inl ⟨rfl, fun _ _ _ e => nomatch e⟩

theorem reply_onlyAnswered (s : State) {src : Src} (tag gen tenant replyAt : Nat) (data : List Nat) (a : Answer) (h : src.isMirror = false) :
    OnlyAnswered s (s.reply src tag gen tenant replyAt data a) := by
  cases src with
  | fabric => exact (sourceMessage_onlyAnswered s _ _ _ _ _ _ _ _ _ _).trans (emit_onlyAnswered _ _)
  | ring => exact (work_onlyAnswered s _ _ _).trans (emit_onlyAnswered _ _)
  | mirror => cases h

theorem reply_answered (s : State) {src : Src} (tag gen tenant replyAt : Nat) (data : List Nat) (a : Answer) (h : src.isMirror = false) :
    Answered (s.reply src tag gen tenant replyAt data a) src tag gen a := by
  cases src with
  | fabric => exact emit_completion_answered _ tag gen replyAt [] a
  | ring => exact emit_completion_answered _ tag gen replyAt _ a
  | mirror => cases h

/-- The end of a request is its one reply, from a state in which its tag is free again (R15, R23). -/
theorem complete_eq_reply (s : State) (tag : Nat) (q : Request) (a : Answer) (data : List Nat) (h : q.src.isMirror = false) :
    ∃ u : State, u.reqs = Map.del s.reqs tag ∧
      s.complete tag q a data = u.reply q.src tag q.gen (tenantOf q.seqId) q.replyAt data a := by
  have hreqs : (if q.kind = 10 then (s.countStatus q.kind q.seqId a).stopWaiting tag else s.countStatus q.kind q.seqId a).reqs = s.reqs := by
    have hc := (countStatus_onlyAnswered s q.kind q.seqId a).reqs_eq
    split <;> exact hc
  simp only [State.complete, h, Bool.false_and, Bool.false_eq_true, if_false]
  generalize (if q.kind = 10 then _ else _ : State) = u at hreqs ⊢
  refine ⟨_, ?_, rfl⟩
  rw [← hreqs]
  cases Map.find u.seqs q.seqId <;> dsimp only <;> split_ifs <;> rfl

/-- A fold whose step keeps a projection keeps it. -/
theorem foldl_proj_eq {α β : Type} {f : State → α → State} {p : State → β} (h : ∀ s x, p (f s x) = p s) (l : List α) (s : State) :
    p (l.foldl f s) = p s := by
  induction l generalizing s with
  | nil => rfl
  | cons x l ih => exact (ih _).trans (h s x)

theorem releaseHeld_reqs (s : State) (tag : Nat) (q : Request) : (s.releaseHeld tag q).reqs = s.reqs := by
  unfold State.releaseHeld
  refine foldl_proj_eq (p := State.reqs) (fun u w => ?_) q.writes _
  dsimp only
  split <;> rfl

theorem ended_of_complete (s s' : State) (tag : Nat) (q : Request) (a : Answer) (data : List Nat) (h : q.src.isMirror = false)
    (hreqs : ∀ k, k ≠ tag → Map.find s'.reqs k = Map.find s.reqs k) : Ended s (s'.complete tag q a data) tag q a := by
  obtain ⟨u, hu, he⟩ := complete_eq_reply s' tag q a data h
  have hr : (s'.complete tag q a data).reqs = Map.del s'.reqs tag := by
    rw [he, (reply_onlyAnswered u _ _ _ _ _ _ h).reqs_eq, hu]
  refine ⟨?_, fun k hk => ?_, ?_⟩
  · rw [hr, find_del_same]
  · rw [hr, find_del_ne _ hk, hreqs k hk]
  · rw [he]
    exact reply_answered u _ _ _ _ _ _ h

/-- A request that ends without effect has ended, from any state that holds the same requests. -/
theorem ended_of_fail (s s' : State) (tag : Nat) (q : Request) (a : Answer) (h : q.src.isMirror = false)
    (hreqs : s'.reqs = s.reqs) : Ended s (s'.fail tag q a) tag q a :=
  ended_of_complete s _ tag q a [] h fun k _ => by rw [releaseHeld_reqs, hreqs]

/-! ### A body's bytes in its frames -/

/-- The address, in polder `p`'s stack, of byte `o` of a body that lies in these frames (R159). -/
def bodyAddr (frames : List Nat) (p o : Nat) : Nat := (p * 2 ^ 21 + nth frames (o / 65536)) * 65536 + o % 65536

/-- The single-byte writes that put `bs` at offset `off` of a body in each of the eight stacks. -/
def bodyWrites (frames : List Nat) (off : Nat) (bs : List Nat) : List (Nat × Nat) :=
  (List.range 8).flatMap fun p => bs.zipIdx.map fun b => (bodyAddr frames p (off + b.2), b.1)

theorem writeBody_eq_foldl (s : State) (frames : List Nat) (off : Nat) (bs : List Nat) :
    s.writeBody frames off bs = (bodyWrites frames off bs).foldl (fun s w => s.writeStack w.1 [w.2]) s := by
  simp only [bodyWrites, List.foldl_flatMap, List.foldl_map]
  rfl

theorem mem_bodyWrites {frames : List Nat} {off a v : Nat} {bs : List Nat} :
    (a, v) ∈ bodyWrites frames off bs ↔ ∃ p k, p < 8 ∧ k < bs.length ∧ a = bodyAddr frames p (off + k) ∧ v = nth bs k := by
  simp only [bodyWrites, List.mem_flatMap, List.mem_range, List.mem_map, Prod.exists, List.mem_zipIdx_iff_getElem?, Prod.mk.injEq]
  constructor
  · rintro ⟨p, hp, w, k, hk, rfl, rfl⟩
    exact ⟨p, k, hp, (List.getElem?_eq_some_iff.mp hk).1, rfl, by simp [nth, hk]⟩
  · rintro ⟨p, k, hp, hk, rfl, rfl⟩
    exact ⟨p, hp, nth bs k, k, by simp [nth, hk], rfl, rfl⟩

/-- Two bytes of a body have one address only if they are one byte of one stack. -/
theorem bodyAddr_inj {frames : List Nat} (hnd : frames.Nodup) (hlt : ∀ f ∈ frames, f < 2 ^ 21) {p p' o o' : Nat}
    (ho : o < 65536 * frames.length) (ho' : o' < 65536 * frames.length) (h : bodyAddr frames p o = bodyAddr frames p' o') : p = p' ∧ o = o' := by
  have hi : o / 65536 < frames.length := by omega
  have hi' : o' / 65536 < frames.length := by omega
  have hf : nth frames (o / 65536) = frames[o / 65536] := by simp [nth, hi]
  have hf' : nth frames (o' / 65536) = frames[o' / 65536] := by simp [nth, hi']
  have hb := hlt _ (List.getElem_mem hi)
  have hb' := hlt _ (List.getElem_mem hi')
  unfold bodyAddr at h
  rw [hf, hf'] at h
  have heq : frames[o / 65536] = frames[o' / 65536] := by omega
  have := (List.Nodup.getElem_inj_iff hnd).mp heq
  omega

/-- After byte writes that agree on address `a`, and that write it or find it written, `a` reads as written. -/
theorem read_foldl_writeStack (l : List (Nat × Nat)) (s : State) {a v : Nat} (hv : ∀ w ∈ l, w.1 = a → w.2 = v)
    (h : (a, v) ∈ l ∨ Memory.read s.mem a = BitVec.ofNat 8 v) :
    Memory.read (l.foldl (fun s w => s.writeStack w.1 [w.2]) s).mem a = BitVec.ofNat 8 v := by
  induction l generalizing s with
  | nil => simpa using h
  | cons w l ih =>
    refine ih _ (fun w' hw' => hv w' (List.mem_cons_of_mem _ hw')) ?_
    have hread : Memory.read (s.writeStack w.1 [w.2]).mem a = if a = w.1 then BitVec.ofNat 8 w.2 else Memory.read s.mem a := read_write _ _ _ _
    rw [hread]
    by_cases hw : a = w.1
    · right; simp [← hw, hv w List.mem_cons_self hw.symm]
    · simp only [List.mem_cons, if_neg hw] at h ⊢
      rcases h with (rfl | h) | h
      · exact absurd rfl hw
      · exact .inl h
      · exact .inr h

/-- Bytes written into a body read back from each of the eight stacks (R159). -/
theorem read_writeBody (s : State) {frames : List Nat} (off : Nat) (bs : List Nat) (hnd : frames.Nodup) (hlt : ∀ f ∈ frames, f < 2 ^ 21)
    (hlen : off + bs.length ≤ 65536 * frames.length) {p k : Nat} (hp : p < 8) (hk : k < bs.length) :
    Memory.read (s.writeBody frames off bs).mem (bodyAddr frames p (off + k)) = BitVec.ofNat 8 (nth bs k) := by
  rw [writeBody_eq_foldl]
  refine read_foldl_writeStack _ s ?_ (.inl (mem_bodyWrites.mpr ⟨p, k, hp, hk, rfl, rfl⟩))
  rintro ⟨a, v⟩ hw rfl
  obtain ⟨p', k', -, hk', ha, rfl⟩ := mem_bodyWrites.mp hw
  obtain ⟨-, ho⟩ := bodyAddr_inj hnd hlt (by omega) (by omega) ha
  rw [show k = k' by omega]

/-- A body's bytes change stacks and check words only. -/
theorem writeBody_eq_update (s : State) (frames : List Nat) (off : Nat) (bs : List Nat) :
    s.writeBody frames off bs = { s with mem := (s.writeBody frames off bs).mem, sideband := (s.writeBody frames off bs).sideband } := by
  rw [writeBody_eq_foldl]
  induction bodyWrites frames off bs generalizing s with
  | nil => rfl
  | cons w l ih => exact ih _

/-! ### A whole body -/

/-- A stored key replaces its own value only. -/
theorem mem_put_of_mem {α : Type} {m : Map α} {i : Nat} (v : α) {e : Nat × α} (h : e ∈ m) : e ∈ Map.put m i v ∨ Map.find m i = some e.2 := by
  induction m with
  | nil => cases h
  | cons x m ih =>
    obtain ⟨k, w⟩ := x
    simp only [Map.put, Map.find]
    by_cases hlt : i < k
    · simp [hlt, h]
    by_cases hik : i = k
    · subst hik
      rcases List.mem_cons.mp h with rfl | h
      · simp
      · simp [h]
    · rcases List.mem_cons.mp h with rfl | h
      · simp [hlt, hik]
      · simpa [hlt, hik, Ne.symm hik] using (ih h).imp_left .inr

/-- A request stays held when its own record is rewritten in its place: it never held itself. -/
theorem heldBack_setReq_self {s : State} {tag : Nat} {q r : Request} (hq : Map.find s.reqs tag = some q) (ho : r.order = q.order)
    (h : s.heldBack r = true) : (s.setReq tag r).heldBack r = true := by
  simp only [State.heldBack, Bool.or_eq_true] at h ⊢
  refine h.imp_left (Or.imp_left fun h => ?_)
  obtain ⟨e, he, hb⟩ := List.any_eq_true.mp h
  refine List.any_eq_true.mpr ⟨e, (mem_put_of_mem r he).resolve_right fun hf => ?_, hb⟩
  have : e.2 = q := by simpa [hq, eq_comm] using hf
  simp [Request.blocks, this, ho] at hb

/-- A whole body whose length is not the request's ends the request (R160 check 6). -/
theorem bodyPresent_of_length_ne {s s' : State} {tag : Nat} {q : Request} {e : Seq} {len : Nat} (hm : q.src.isMirror = false) (hr : s'.reqs = s.reqs)
    (hs : Map.find s'.seqs q.seqId = some e) (hl : len ≠ prefillBody (s'.shape e.binding) q.hdr ∨ len ≠ q.bodyLen) :
    Ended s (s'.bodyPresent tag q len) tag q (.malformed 2 (lengthOffset q.src)) := by
  simp only [State.bodyPresent, hs, if_pos hl]
  exact ended_of_fail s s' tag q _ hm hr

/-- A whole body lets its request go on to its hold (R162). -/
theorem bodyPresent_of_heldBack {s : State} {tag : Nat} {q : Request} {e : Seq} {len : Nat} (hq : Map.find s.reqs tag = some q)
    (hs : Map.find s.seqs q.seqId = some e) (hl : len = prefillBody (s.shape e.binding) q.hdr) (hl' : len = q.bodyLen)
    (hh : s.heldBack { q with phase := .held } = true) : s.bodyPresent tag q len = s.setReq tag { q with phase := .held } := by
  have hne : ¬ (len ≠ prefillBody (s.shape e.binding) q.hdr ∨ len ≠ q.bodyLen) := by simp [← hl, ← hl']
  simp only [State.bodyPresent, hs, if_neg hne]
  exact if_pos (heldBack_setReq_self (r := { q with phase := .held }) hq rfl hh)

/-! ### BODY_SEGMENT and REQUEST_BODY_READ -/

/-- Bytes of a body enter its frames at an offset, and the ranges present are these. -/
def storeBody (s : State) (tag : Nat) (b : Body) (ranges : List (Nat × Nat)) (off : Nat) (bs : List Nat) : State :=
  { s with bodies := Map.put s.bodies tag { b with ranges := ranges } }.writeBody b.frames off bs

section
variable (s : State) (tag : Nat) (b : Body) (ranges : List (Nat × Nat)) (off : Nat) (bs : List Nat)

theorem storeBody_eq_update : storeBody s tag b ranges off bs =
    { s with bodies := Map.put s.bodies tag { b with ranges := ranges }, mem := (storeBody s tag b ranges off bs).mem,
             sideband := (storeBody s tag b ranges off bs).sideband } := writeBody_eq_update _ _ _ _

@[simp] theorem storeBody_bodies : (storeBody s tag b ranges off bs).bodies = Map.put s.bodies tag { b with ranges := ranges } := by
  rw [storeBody_eq_update]
@[simp] theorem storeBody_reqs : (storeBody s tag b ranges off bs).reqs = s.reqs := by rw [storeBody_eq_update]
@[simp] theorem storeBody_seqs : (storeBody s tag b ranges off bs).seqs = s.seqs := by rw [storeBody_eq_update]
@[simp] theorem storeBody_shape (i : Nat) : (storeBody s tag b ranges off bs).shape i = s.shape i := by rw [storeBody_eq_update]; rfl
@[simp] theorem storeBody_heldBack (q : Request) : (storeBody s tag b ranges off bs).heldBack q = s.heldBack q := by
  rw [storeBody_eq_update]; rfl

theorem read_storeBody (hnd : b.frames.Nodup) (hlt : ∀ f ∈ b.frames, f < 2 ^ 21) (hlen : off + bs.length ≤ 65536 * b.frames.length)
    {p k : Nat} (hp : p < 8) (hk : k < bs.length) :
    Memory.read (storeBody s tag b ranges off bs).mem (bodyAddr b.frames p (off + k)) = BitVec.ofNat 8 (nth bs k) :=
  read_writeBody _ off bs hnd hlt hlen hp hk

end

/-- The open body that a segment of this key and source is for (R159, R221). -/
def openBody (s : State) (key source : Nat) : Option (Nat × Body) :=
  s.bodies.find? fun x => decide (x.2.source = source) && (match Map.find s.reqs x.1 with
    | some q => decide (q.bodyKey = key) && decide (q.phase = .body)
    | none => false)

theorem openBody_eq_none {s : State} {key source : Nat} (h : ∀ b ∈ s.bodies, b.2.source ≠ source) : openBody s key source = none :=
  List.find?_eq_none.mpr fun b hb => by simp [h b hb]

/-- A segment of no open body, or longer than a message, changes nothing (R221). -/
theorem bodySegment_of_none {s : State} {key source : Nat} (off len : Nat) (bytes : List Nat) (reserved : Bool)
    (h : openBody s key source = none ∨ 1048560 < len) : s.bodySegment key source off len bytes reserved = s := by
  unfold State.bodySegment
  split
  · rfl
  · split
    case h_1 => rfl
    case h_2 heq =>
      exact absurd (heq.symm.trans (h.resolve_right ‹_›)) nofun

theorem bodySegment_of_some {s : State} {key source tag : Nat} {b : Body} {q : Request} {off len : Nat} (bytes : List Nat) (reserved : Bool)
    (hlen : len ≤ 1048560) (hb : openBody s key source = some (tag, b)) (hq : Map.find s.reqs tag = some q) :
    s.bodySegment key source off len bytes reserved =
      if reserved then s.fail tag q (.malformed 1 4)
      else if b.len < off + len then s.fail tag q (.malformed 2 (lengthOffset q.src))
      else if rangeTotal (addRange b.ranges off len) = b.len then
        (storeBody s tag b (addRange b.ranges off len) off (bytes.take len)).bodyPresent tag q b.len
      else storeBody s tag b (addRange b.ranges off len) off (bytes.take len) := by
  unfold State.bodySegment
  rw [if_neg (by omega)]
  split
  case h_1 heq => exact absurd (heq.symm.trans hb) nofun
  case h_2 heq =>
    obtain ⟨rfl, rfl⟩ : _ = tag ∧ _ = b := by simpa using heq.symm.trans hb
    rw [hq]
    rfl

/-- What a body read brought in: in confidential operation the body that the session key opens (R430, R545). -/
def bodyArrived (s : State) (r : Nat) (q : Request) (b : Body) (bytes : List Nat) : Option (List Nat) :=
  if s.sec.conf then s.fromHost 2 r q.entryCtr (bytes.take (b.len + s.tagSize)) else some (bytes.take (b.len + s.tagSize))

section
variable {s : State} {tag : Nat} {q : Request} {b : Body} {r : Ring} {slot cookie : Nat} {bytes bs : List Nat}
  (hq : Map.find s.reqs tag = some q) (hb : Map.find s.bodies tag = some b) (hp : q.phase = .body) (hsrc : q.src = .ring r slot cookie)
include hq hb hp hsrc

theorem bodyRead_of_none (h : bodyArrived s r q b bytes = none) :
    s.bodyRead tag bytes = (s.work hostLink 3 (b.len + s.tagSize)).fail tag q ⟨.checkFail, 4, []⟩ := by
  simp only [State.bodyRead, hq, hb, hp, hsrc, ne_eq, not_true_eq_false, if_false]
  split
  case h_1 => rfl
  case h_2 heq => exact absurd (heq.symm.trans h) nofun

theorem bodyRead_of_some (h : bodyArrived s r q b bytes = some bs) :
    s.bodyRead tag bytes =
      (storeBody (s.work hostLink 3 (b.len + s.tagSize)) tag b [(0, bs.length)] 0 bs).bodyPresent tag q bs.length := by
  simp only [State.bodyRead, hq, hb, hp, hsrc, ne_eq, not_true_eq_false, if_false]
  split
  case h_1 heq => exact absurd (heq.symm.trans h) nofun
  case h_2 heq =>
    cases heq.symm.trans h
    rfl

end

section
variable {s : State} {tag : Nat} {q : Request} {b : Body} {key source off len : Nat} {bytes : List Nat}
  (hb : openBody s key source = some (tag, b)) (hq : Map.find s.reqs tag = some q) (hlen : len ≤ 1048560)
include hb hq hlen

/-- A segment whose header sets a reserved byte ends the PREFILL (R7). -/
theorem bodySegment_reserved_ended (hm : q.src.isMirror = false) :
    Ended s (s.bodySegment key source off len bytes true) tag q (.malformed 1 4) := by
  rw [bodySegment_of_some bytes true hlen hb hq]
  exact ended_of_fail s s tag q _ hm rfl

/-- A segment beyond the body ends the PREFILL (R159). -/
theorem bodySegment_beyond_ended (hm : q.src.isMirror = false) (h : b.len < off + len) :
    Ended s (s.bodySegment key source off len bytes false) tag q (.malformed 2 (lengthOffset q.src)) := by
  rw [bodySegment_of_some bytes false hlen hb hq, if_neg Bool.false_ne_true, if_pos h]
  exact ended_of_fail s s tag q _ hm rfl

/-- A segment that leaves the body in part only stores its bytes (R158, R159). -/
theorem bodySegment_part_eq_storeBody (hin : off + len ≤ b.len) (hpart : rangeTotal (addRange b.ranges off len) < b.len) (hbytes : bytes.length = len) :
    s.bodySegment key source off len bytes false = storeBody s tag b (addRange b.ranges off len) off bytes := by
  rw [bodySegment_of_some bytes false hlen hb hq, if_neg Bool.false_ne_true, if_neg (by omega), if_neg (by omega),
    List.take_of_length_le (by omega)]

end

section
variable {s : State} {tag : Nat} {q : Request} {b : Body} {r : Ring} {slot cookie : Nat} {bytes bs : List Nat}
  (hq : Map.find s.reqs tag = some q) (hb : Map.find s.bodies tag = some b) (hp : q.phase = .body) (hsrc : q.src = .ring r slot cookie)
include hq hb hp hsrc

/-- A session tag that fails ends the request (R430). -/
theorem bodyRead_badTag_ended (h : bodyArrived s r q b bytes = none) : Ended s (s.bodyRead tag bytes) tag q ⟨.checkFail, 4, []⟩ := by
  rw [bodyRead_of_none hq hb hp hsrc h]
  exact ended_of_fail s _ tag q _ (by rw [hsrc]; rfl) rfl

variable {e : Seq} (h : bodyArrived s r q b bytes = some bs) (hs : Map.find s.seqs q.seqId = some e)
include h hs

/-- A body of another length than the request's ends it (R160 check 6); the length stands at byte 40 of a ring's entry (R536). -/
theorem bodyRead_length_ended (hne : bs.length ≠ prefillBody (s.shape e.binding) q.hdr ∨ bs.length ≠ q.bodyLen) :
    Ended s (s.bodyRead tag bytes) tag q (.malformed 2 40) := by
  have hoff : lengthOffset q.src = 40 := by rw [hsrc]; rfl
  rw [bodyRead_of_some hq hb hp hsrc h, ← hoff]
  refine bodyPresent_of_length_ne (by rw [hsrc]; rfl) (storeBody_reqs ..) ((congrArg (Map.find · q.seqId) (storeBody_seqs ..)).trans hs) ?_
  rw [storeBody_shape]
  exact hne

/-- A body of the request's length goes to its frames, and a request that is held back waits for its turn (R158, R160, R162). -/
theorem bodyRead_heldBack_eq (hl : bs.length = prefillBody (s.shape e.binding) q.hdr) (hl' : bs.length = q.bodyLen)
    (hh : s.heldBack { q with phase := .held } = true) :
    s.bodyRead tag bytes =
      (storeBody (s.work hostLink 3 (b.len + s.tagSize)) tag b [(0, bs.length)] 0 bs).setReq tag { q with phase := .held } := by
  rw [bodyRead_of_some hq hb hp hsrc h]
  refine bodyPresent_of_heldBack (e := e) ?_ ?_ ?_ hl' ?_
  · rw [storeBody_reqs]; exact hq
  · rw [storeBody_seqs]; exact hs
  · rw [storeBody_shape]; exact hl
  · rw [storeBody_heldBack]; exact hh

end

/-! ### BODY_TIMEOUT -/

/-- A body that is late ends its request (R160 check 6). -/
theorem bodyTimeout_late_ended {s : State} {tag : Nat} {q : Request} (hq : Map.find s.reqs tag = some q) (hp : q.phase = .body)
    (hlate : s.obj 0x2B3203 ≤ s.since q.since) (hm : q.src.isMirror = false) : Ended s (s.bodyTimeout tag) tag q (.busy 6) := by
  simp only [State.bodyTimeout, hq, hp, hlate, and_self, if_true]
  exact ended_of_fail s s tag q _ hm rfl

/-- Where no body is late, nothing changes. -/
theorem bodyTimeout_early_eq {s : State} {tag : Nat}
    (h : ∀ q, Map.find s.reqs tag = some q → q.phase ≠ .body ∨ s.since q.since < s.obj 0x2B3203) : s.bodyTimeout tag = s := by
  unfold State.bodyTimeout
  split
  case h_1 q hq => exact if_neg fun hdue => (h q hq).elim (· hdue.1) (Nat.not_lt_of_le hdue.2)
  case h_2 => rfl

/-! ### ORDERING_FENCE -/

theorem objMax_fenceCount : objMax 0x2B1104 = 2 ^ 32 - 1 := by decide

/-- A ring's completion changes what comes out, its ring, the host's queue and the gatherer. -/
theorem emit_ring_eq_update (s : State) (r : Ring) (slot cookie tag gen status detail : Nat) (body : List Nat) (at_ replyAt : Nat) (data : List Nat) :
    let u := s.emit (.completion (.ring r slot cookie) tag gen status detail body at_ replyAt data)
    u = { s with out := u.out, host := u.host, rings := u.rings, gath := u.gath } := by
  have hentry : s.ringEntry r = { s with rings := (s.ringEntry r).rings, gath := (s.ringEntry r).gath } := by
    unfold State.ringEntry State.arrive
    dsimp only
    split_ifs <;> rfl
  unfold State.emit
  dsimp only
  split
  · rw [hentry]
  · rfl

/-- An ordering fence completes OK under tag 0 and is counted (R142, R540). -/
theorem orderingFence_runs (s : State) (r : Ring) (slot cookie : Nat) : Runs (.orderingFence r slot cookie) s fun t =>
    Answered t (.ring r slot cookie) 0 0 (.ok) ∧ t.obj 0x2B1104 = min (s.obj 0x2B1104 + 1) (objMax 0x2B1104) ∧
    t = { s with out := t.out, host := t.host, rings := t.rings, regs := t.regs, gath := t.gath } := by
  refine ⟨_, rfl, emit_completion_answered s 0 0 0 [] .ok, ?_, ?_⟩
  · rw [obj_bump _ objMax_fenceCount, objMax_fenceCount, emit_ring_eq_update]
    rfl
  · rw [emit_ring_eq_update]
    rfl

/-! ### The obligation -/

/-- Settles O28: the clauses of a segment, of a segment that finds no open body, of a ring's body read, of the body timeout and of the
fence. The status of a reserved byte and the bound on a message's bytes are the choice of log entry 151. -/
theorem bodiesArriveAndFencesAnswer : Obligations.BodiesArriveAndFencesAnswer := by
  unfold Obligations.BodiesArriveAndFencesAnswer
  refine ⟨?_, ?_, ?_, ?_, ?_, orderingFence_runs⟩
  · intro s tag q b key source off len bytes hopen hq hm hlen
    have hb : openBody s key source = some (tag, b) := hopen
    refine ⟨⟨_, rfl, bodySegment_reserved_ended hb hq hlen hm⟩, fun h => ⟨_, rfl, bodySegment_beyond_ended hb hq hlen hm h⟩,
      fun hin hpart hbytes hcap hnd hlt => ⟨_, rfl, ?_⟩⟩
    rw [bodySegment_part_eq_storeBody hb hq hlen hin hpart hbytes]
    refine ⟨by simp, fun p k hp hk => ?_, by rw [storeBody_eq_update]⟩
    exact read_storeBody s tag b _ off bytes hnd hlt (by omega) hp (by omega)
  · intro s key source off len bytes reserved h
    exact ⟨_, rfl, bodySegment_of_none off len bytes reserved (h.imp_left openBody_eq_none)⟩
  · intro s tag q r slot cookie hq hp hsrc b bytes hb
    refine ⟨fun hc hf => ⟨_, rfl, bodyRead_badTag_ended hq hb hp hsrc (by simpa [bodyArrived, State.tagSize, hc] using hf)⟩,
      fun e body hbody hs => ?_⟩
    have harr : bodyArrived s r q b bytes = some body := by
      rcases hbody with ⟨hc, rfl⟩ | ⟨hc, hf⟩
      · simp [bodyArrived, State.tagSize, hc]
      · simpa [bodyArrived, State.tagSize, hc] using hf
    refine ⟨fun hne => ⟨_, rfl, bodyRead_length_ended hq hb hp hsrc harr hs hne⟩, fun hl hl' hh => ⟨_, rfl, ?_⟩⟩
    rw [bodyRead_heldBack_eq hq hb hp hsrc harr hs hl hl' hh]
    refine ⟨find_put_same _ _ _, ?_, fun hcap hnd hlt p k hp hk => ?_⟩
    · exact (congrArg (Map.find · tag) (storeBody_bodies ..)).trans (find_put_same _ _ _)
    · have hread := read_storeBody (s.work hostLink 3 (b.len + s.tagSize)) tag b [(0, body.length)] 0 body hnd hlt (by omega) hp hk
      rw [Nat.zero_add] at hread
      exact hread
  · intro s tag q hq hp hlate hm
    exact ⟨_, rfl, bodyTimeout_late_ended hq hp hlate hm⟩
  · intro s tag h
    exact ⟨_, rfl, bodyTimeout_early_eq h⟩

end Sys2Proof.Proofs

/-! PROOFS. ATTEND, APPEND and PREFILL at admission (O26). First what every request of the fabric or of a ring meets: the gate of checks
1 to 3, its tag, and an answer without a tag. Then the courses of ATTEND and APPEND, of PREFILL, and the resource checks in order. -/

namespace Sys2Proof.Proofs
open Sys2Proof.Machine Sys2Proof.Safety Sys2Proof.Laws

/-! ### A request that passes checks 1 to 3, and its tag -/

theorem firstBad_eq_none {l : List (Nat × Nat × Bool)} (h : ∀ b ∈ l, b.2.2 = false) : firstBad l = none := by
  unfold firstBad
  induction l with
  | nil => rfl
  | cons b l ih =>
    rw [List.foldl_cons, h b List.mem_cons_self]
    exact ih fun c hc => h c (List.mem_cons_of_mem _ hc)

theorem passes_not_mirror {s : State} {r : Req} {write create needs : Bool} {span : Nat} {bad : List (Nat × Nat × Bool)}
    (h : Passes s r write create needs span bad) : r.src.isMirror = false := h.2.1

/-- What stands behind the gate is met where nothing turns the request away. -/
theorem gate_of_passes {s : State} {r : Req} {write create needs : Bool} {span : Nat} {bad : List (Nat × Nat × Bool)} (next : State → State)
    (h : Passes s r write create needs span bad) : s.gate r write create needs span bad next = next s := by
  obtain ⟨hserving, hmirror, htomb, hbad, hreserved, hseq, hslot, hgo⟩ := h
  have hslot' : (decide (s.obj (tenantKey r.tenant 0x14) ≠ 0) && decide (r.src.keySlot ≠ s.obj (tenantKey r.tenant 0x14))) = false := by
    rcases hslot with h | h <;> simp [h]
  have hmissing (d : Bool) : (needs && !Map.has s.seqs r.seqId && d) = false := by
    cases needs with
    | false => rfl
    | true => simp [(hseq rfl).1]
  have hlost : ¬ (s.lostSeqs.contains r.seqId = true ∧ needs = true) := fun ⟨hl, hn⟩ => by
    rw [(hseq hn).2] at hl
    exact absurd hl Bool.false_ne_true
  unfold State.gate
  rw [if_neg (not_not_intro hserving), htomb]
  dsimp only
  rw [firstBad_eq_none (List.forall_mem_cons.mpr ⟨hmissing _, List.forall_mem_cons.mpr ⟨by rw [hslot', Bool.false_and],
    List.forall_mem_cons.mpr ⟨hreserved, hbad⟩⟩⟩)]
  simp only [hmirror, Bool.false_eq_true, if_false, hgo]
  exact if_neg hlost

/-- The record of a tag's request is its latest. -/
theorem taken_setReq (s : State) (r : Req) (tag : Nat) {q q' : Request} (h : q'.gen = q.gen) :
    (taken s r tag q).setReq tag q' = taken s r tag q' := by
  simp only [taken, State.setReq, put_put, h]

/-- A request of the fabric or of a ring takes the lowest free tag (R23). -/
theorem take_eq_taken {s : State} {r : Req} {tag : Nat} (phase : Phase) (hm : r.src.isMirror = false) (ht : s.freeTag = some tag) :
    s.take r phase = some (tag, admitted s r tag phase, taken s r tag (admitted s r tag phase)) := by
  unfold State.take taken admitted
  simp only [hm, Bool.false_eq_true, if_false, ht]
  cases r.src <;> rfl

/-! ### An answer without a tag -/

theorem refuse_onlyAnswered (s : State) (r : Req) (a : Answer) (hm : r.src.isMirror = false) : OnlyAnswered s (s.refuse r a) := by
  unfold State.refuse
  rw [hm, if_neg Bool.false_ne_true]
  have hkeep (k : Kept) : OnlyAnswered s (s.keep k) := ⟨fun _ _ => rfl, rfl⟩
  exact ((OnlyAnswered.ite (hkeep _) (.refl s)).trans (countStatus_onlyAnswered _ r.kind r.seqId a)).trans (reply_onlyAnswered _ _ _ _ _ _ _ hm)

theorem refuse_answered (s : State) (r : Req) (a : Answer) (hm : r.src.isMirror = false) : Answered (s.refuse r a) r.src 0 0 a := by
  unfold State.refuse
  rw [hm, if_neg Bool.false_ne_true]
  exact reply_answered _ _ _ _ _ _ _ hm

/-! ### ATTEND and APPEND take their tag (R118, R160, R192) -/

section
variable {s : State} {r : Req} {tag : Nat} {set : Request → Request} {q : Request} {e : Seq}
  (hm : r.src.isMirror = false) (ht : s.freeTag = some tag) (hset : set (admitted s r tag .held) = q) (hgen : q.gen = (admitted s r tag .held).gen)
include hm ht hset hgen

/-- A request that an earlier one holds takes its tag and reserves nothing (R119, R191, R192). -/
theorem enter_of_heldBack (h : (taken s r tag q).heldBack q = true) : s.enter r set = taken s r tag q := by
  unfold State.enter
  rw [take_eq_taken .held hm ht]
  dsimp only
  rw [hset, taken_setReq _ _ _ hgen, if_pos h]

variable (h : (taken s r tag q).heldBack q = false) (hs : Map.find s.seqs q.seqId = some e)
include h hs

/-- A request that nothing holds meets its resource checks: what they reserved is kept where they pass, and where one stops the request
its tag stays free (R118, R160, R209). -/
theorem enter_of_not_heldBack :
    (∀ t q', (taken s r tag q).resourceChecks q e = .ok (t, q') → s.enter r set = t.setReq tag q') ∧
    (∀ t a, a ≠ residentAnswer true → (taken s r tag q).resourceChecks q e = .error (t, a) → s.enter r set = s.refuse r a) := by
  have hs' : Map.find (taken s r tag q).seqs q.seqId = some e := hs
  unfold State.enter
  rw [take_eq_taken .held hm ht]
  dsimp only
  rw [hset, taken_setReq _ _ _ hgen, if_neg (by simp [h]), hs']
  dsimp only
  refine ⟨fun t q' hok => by rw [hok], fun t a ha herr => ?_⟩
  rw [herr]
  dsimp only
  rw [if_neg ha]
  rfl

end

/-- How ATTEND and APPEND say what they read or write: whether they write, their tokens and their KV heads. -/
def asked (write : Bool) (tokens first heads : Nat) (q : Request) : Request :=
  { q with isWrite := write, tokens := tokens, firstHead := first, heads := heads }

theorem attend_eq_enter {s : State} {r : Req} {write : Bool} {span : Nat} {bad : List (Nat × Nat × Bool)}
    (hc : checksOf s (.attend r) = some (r, write, false, true, span, bad)) (hp : Passes s r write false true span bad) :
    s.attend r = s.enter r (asked write (if r.byte 27 % 4 = 0 then 0 else 1) (r.byte 24) (r.byte 25)) := by
  obtain ⟨rfl, rfl, rfl⟩ : decide (r.byte 27 % 4 ≠ 0) = write ∧ s.rangeSpan r (r.byte 24) = span ∧ s.attendBad r = bad := by
    simpa [checksOf] using hc
  exact gate_of_passes (fun s => s.enter r (asked (decide (r.byte 27 % 4 ≠ 0)) (if r.byte 27 % 4 = 0 then 0 else 1) (r.byte 24) (r.byte 25))) hp

theorem append_eq_enter {s : State} {r : Req} {write : Bool} {span : Nat} {bad : List (Nat × Nat × Bool)}
    (hc : checksOf s (.append r) = some (r, write, false, true, span, bad)) (hp : Passes s r write false true span bad) :
    s.append r = s.enter r (asked write (r.byte 20) (r.byte 22) (r.byte 23)) := by
  obtain ⟨rfl, rfl, rfl⟩ : true = write ∧ s.rangeSpan r (r.byte 22) = span ∧ s.appendBad r = bad := by
    simpa [checksOf] using hc
  exact gate_of_passes _ hp

/-! ### PREFILL waits for its body (R158 to R160) -/

/-- The record of a PREFILL that awaits its body, whose segments bear this key. -/
def bodyAwaited (s : State) (r : Req) (tag key : Nat) : Request :=
  { admitted s r tag .body with
    isWrite := true, tokens := hdrField r.hdr 20 2, firstHead := r.byte 22, heads := r.byte 23, attn := r.byte 25 % 4,
    respan := hdrField r.hdr 26 2, bodyKey := key, bodyLen := prefillDeclared r, body := [] }

section
variable {s : State} {r : Req} {tag span : Nat} {bad : List (Nat × Nat × Bool)}
  (hc : checksOf s (.prefill r) = some (r, true, false, true, span, bad)) (hp : Passes s r true false true span bad) (ht : s.freeTag = some tag)
include hc hp ht

/-- A PREFILL that finds too few body-buffer frames ends (R159, R160 check 5). -/
theorem prefill_of_few_frames (hn : s.bodyFree.length < (prefillDeclared r + 65535) / 65536) : s.prefill r = s.refuse r (.busy 5) := by
  obtain ⟨rfl, rfl⟩ : s.rangeSpan r (r.byte 22) = span ∧ s.prefillBad r = bad := by simpa [checksOf] using hc
  unfold State.prefill
  rw [gate_of_passes _ hp, take_eq_taken .body (passes_not_mirror hp) ht]
  exact if_pos hn

/-- A PREFILL takes the first free body-buffer frames, and its tag awaits the body (R159). -/
theorem prefill_of_frames (hn : (prefillDeclared r + 65535) / 65536 ≤ s.bodyFree.length) : ∃ key source, s.prefill r =
    { taken s r tag (bodyAwaited s r tag key) with
      bodyHeld := if s.bodies = [] then none else s.bodyHeld,
      bodies := Map.put s.bodies tag
        { tag := tag, len := prefillDeclared r, source := source, frames := s.bodyFree.take ((prefillDeclared r + 65535) / 65536) } } := by
  obtain ⟨rfl, rfl⟩ : s.rangeSpan r (r.byte 22) = span ∧ s.prefillBad r = bad := by simpa [checksOf] using hc
  unfold State.prefill
  rw [gate_of_passes _ hp, take_eq_taken .body (passes_not_mirror hp) ht]
  dsimp only
  rw [if_neg (Nat.not_lt.mpr hn)]
  simp only [State.setReq, taken, put_put]
  exact ⟨_, _, rfl⟩

end

/-! ### The checks of frames, quota and weights (R118 checks 5 to 7, R160 checks 7 to 10) -/

/-- The fresh frames among the pages that a write touches: those that are no tail page (R165). -/
def freshPages (l : List Touch) : Nat := (l.filter fun t => !t.tail).length

/-- Every polder has the frames free that a write touches there: of its page pool, or of its tail reserve (R183). -/
def framesFit (s : State) (base : Nat) (l : List Touch) (tail : Bool) : Prop :=
  ∀ p, p < 8 → touchedOn l base p tail ≤ (if tail then s.freeTails p else s.freeFrames p)

section
variable {s : State} {tenant base grow : Nat} {l : List Touch}

theorem pool_short_iff : ((List.range 8).any fun p => decide (s.freeFrames p < touchedOn l base p false)) = true ↔ ¬ framesFit s base l false := by
  simp [framesFit]

theorem tails_short_iff : ((List.range 8).any fun p => decide (s.freeTails p < touchedOn l base p true)) = true ↔ ¬ framesFit s base l true := by
  simp [framesFit]

variable (hduty : s.dutyGone 1 = false)
include hduty

theorem frameChecks_of_no_quota (h : s.quotaFor tenant 1 (freshPages l) = false) :
    s.frameChecks tenant base grow l = some (quotaAnswer 1 tenant) := by
  unfold State.frameChecks
  rw [if_neg (by simp [hduty]), if_pos (by simpa [freshPages] using h)]

variable (hquota : s.quotaFor tenant 1 (freshPages l) = true)
include hquota

/-- Behind the quota stand the page pools, the table pool and the tail reserve, in this order (R118, R183). -/
theorem frameChecks_of_quota : s.frameChecks tenant base grow l =
    if (List.range 8).any fun p => decide (s.freeFrames p < touchedOn l base p false) then some (.busy 7)
    else if grow ≠ 0 ∧ s.freeGranules base < grow then some (.busy 8)
    else if (List.range 8).any fun p => decide (s.freeTails p < touchedOn l base p true) then some (.busy 4) else none := by
  unfold State.frameChecks
  rw [if_neg (by simp [hduty]), if_neg (by simpa [freshPages] using hquota)]

theorem frameChecks_of_short_pool (h : ¬ framesFit s base l false) : s.frameChecks tenant base grow l = some (.busy 7) := by
  rw [frameChecks_of_quota hduty hquota, if_pos (pool_short_iff.mpr h)]

variable (hpool : framesFit s base l false)
include hpool

theorem frameChecks_of_short_tables (h : ¬ (grow = 0 ∨ grow ≤ s.freeGranules base)) : s.frameChecks tenant base grow l = some (.busy 8) := by
  rw [frameChecks_of_quota hduty hquota, if_neg (mt pool_short_iff.mp (not_not_intro hpool)), if_pos (by omega)]

variable (htables : grow = 0 ∨ grow ≤ s.freeGranules base)
include htables

theorem frameChecks_of_short_tails (h : ¬ framesFit s base l true) : s.frameChecks tenant base grow l = some (.busy 4) := by
  rw [frameChecks_of_quota hduty hquota, if_neg (mt pool_short_iff.mp (not_not_intro hpool)), if_neg (by omega), if_pos (tails_short_iff.mpr h)]

theorem frameChecks_of_room (htails : framesFit s base l true) : s.frameChecks tenant base grow l = none := by
  rw [frameChecks_of_quota hduty hquota, if_neg (mt pool_short_iff.mp (not_not_intro hpool)), if_neg (by omega),
    if_neg (mt tails_short_iff.mp (not_not_intro htails))]

end

/-- The pages that a request's write will touch, after the writes admitted before it (R160, R165). -/
def plannedTouches (s : State) (q : Request) (e : Seq) : List Touch :=
  touched (s.plannedTokens q.seqId q.layer q.order) q.tokens (q.groupSpan (s.shape e.binding)).1 (q.groupSpan (s.shape e.binding)).2

section
variable {s : State} {q : Request} {e : Seq} (hk : q.kind = 1)
include hk

theorem resourceChecks_of_not_resident (h : e.resident (s.shape e.binding) q.layer = false) (hflag : bit (hdrField q.hdr 1 1) 0 = false) :
    s.resourceChecks q e = .error (s, .busy 2) := by
  simp [State.resourceChecks, hk, h, State.busyAway, hflag, residentAnswer]

variable (hres : e.resident (s.shape e.binding) q.layer = true)
include hres

theorem resourceChecks_of_frameChecks {a : Answer}
    (h : s.frameChecks (tenantOf q.seqId) e.base (e.growth (s.shape e.binding) q.layer (plannedTouches s q e)) (plannedTouches s q e) = some a) :
    s.resourceChecks q e = .error (s, a) := by
  simp only [State.resourceChecks, hk, true_or, if_true, hres, Bool.not_true, Bool.false_eq_true, if_false]
  unfold plannedTouches at h
  rw [h]

theorem resourceChecks_of_room
    (h : s.frameChecks (tenantOf q.seqId) e.base (e.growth (s.shape e.binding) q.layer (plannedTouches s q e)) (plannedTouches s q e) = none) :
    s.resourceChecks q e = if q.projects && !s.canProject e.binding then .error (s, .busy 0x12) else
      .ok (s.chargeBy (tenantOf q.seqId) (fun c => { c with r1 := c.r1 + freshPages (plannedTouches s q e) }),
        { q with checked := true, t1 := freshPages (plannedTouches s q e),
                 plan := (plannedTouches s q e).map fun t => (pagePolder e.base t.group t.page, t.tail) }) := by
  simp only [State.resourceChecks, hk, true_or, if_true, hres, Bool.not_true, Bool.false_eq_true, if_false]
  unfold plannedTouches at h
  rw [h]
  rfl

end

/-- An ATTEND of weights that do not run: one of write kind 2 or 3 whose binding cannot project (R145). -/
theorem cannot_project_iff (s : State) {q : Request} (b : Nat) (hk : q.kind = 1) :
    (q.projects && !s.canProject b) = true ↔ ¬ (hdrField q.hdr 27 1 % 4 < 2 ∨ s.canProject b = true) := by
  rw [not_or, Nat.not_lt]
  simp [Request.projects, hk]

/-! ### The obligation -/

/-- Settles O26: the course of an ATTEND or APPEND, of a PREFILL, and the resource checks of an ATTEND in order. The lowest free tag is
the choice of log entry 19. -/
theorem writesAndReadsOfALayerReserveAndWait : Obligations.WritesAndReadsOfALayerReserveAndWait := by
  unfold Obligations.WritesAndReadsOfALayerReserveAndWait
  refine ⟨?_, ?_, ?_⟩
  · intro s i r write span bad tag tokens first heads e hc hp ht hs hi q s'
    have hm : r.src.isMirror = false := passes_not_mirror hp
    have henter : exec i s = .next (s.enter r (asked write tokens first heads)) := by
      rcases hi with ⟨rfl, rfl, rfl, rfl⟩ | ⟨rfl, rfl, rfl, rfl⟩
      · exact congrArg _ (attend_eq_enter hc hp)
      · exact congrArg _ (append_eq_enter hc hp)
    refine ⟨fun hheld => ⟨_, henter, enter_of_heldBack hm ht rfl rfl hheld⟩,
      fun s'' q' hfree hok => ⟨_, henter, (enter_of_not_heldBack hm ht rfl rfl hfree hs).1 s'' q' hok⟩,
      fun s'' a hfree herr ha => ⟨_, henter, ?_⟩⟩
    rw [(enter_of_not_heldBack hm ht rfl rfl hfree hs).2 s'' a ha herr]
    exact ⟨refuse_onlyAnswered s r a hm, refuse_answered s r a hm⟩
  · intro s r span bad tag hc hp ht len n
    refine ⟨fun hn => ⟨_, rfl, prefill_of_few_frames hc hp ht hn⟩, fun hn => ⟨_, rfl, ?_⟩⟩
    obtain ⟨key, source, heq⟩ := prefill_of_frames hc hp ht hn
    rw [heq]
    exact ⟨bodyAwaited s r tag key, find_put_same _ _ _, rfl, rfl, rfl, rfl, rfl, rfl, rfl, rfl,
      ⟨_, find_put_same _ _ _, rfl, rfl, rfl⟩, rfl, fun k hk => find_put_ne _ _ hk⟩
  · intro s q e hk sh g0 g1 l fresh fits quota tables runs
    refine ⟨resourceChecks_of_not_resident hk, fun hres hduty => ⟨fun hq => ?_, fun hq hp => ?_, fun hq hp ht => ?_, fun hq hp ht hl => ?_,
      fun hq hp ht hl hr => ?_, fun hq hp ht hl hr => ?_⟩⟩
    · exact resourceChecks_of_frameChecks hk hres (frameChecks_of_no_quota hduty hq)
    · exact resourceChecks_of_frameChecks hk hres (frameChecks_of_short_pool hduty hq hp)
    · exact resourceChecks_of_frameChecks hk hres (frameChecks_of_short_tables hduty hq hp ht)
    · exact resourceChecks_of_frameChecks hk hres (frameChecks_of_short_tails hduty hq hp ht hl)
    · exact (resourceChecks_of_room hk hres (frameChecks_of_room hduty hq hp ht hl)).trans (if_pos ((cannot_project_iff s e.binding hk).mpr hr))
    · exact (resourceChecks_of_room hk hres (frameChecks_of_room hduty hq hp ht hl)).trans
        (if_neg (mt (cannot_project_iff s e.binding hk).mp (not_not_intro hr)))

end Sys2Proof.Proofs

/-! PROOFS. ADMIT delivers a restore entry's body where the image declares header sectors (O14). First what an arrival stores and what
the end of a slot leaves of the buffers, then a device that runs one such ADMIT. -/

namespace Sys2Proof.Proofs
open Sys2Proof.Machine Sys2Proof.Safety Sys2Proof.Laws

/-! ### Arrivals and the end of a slot -/

/-- Where the image has no external gate, bytes that arrive are stored, and no more. -/
theorem arrivesAt_of_no_gates {s : State} {p : Nat} {im : Image} (region : Nat) (bs : List Nat) (himage : (s.polder p).image = some im)
    (hgates : im.gates = []) (hbs : bs ≠ []) : s.arrivesAt p region bs = s.save p region bs := by
  unfold State.arrivesAt
  rw [if_neg hbs, himage]
  dsimp only
  rw [hgates]
  rfl

/-- A slot that signals no gate leaves the buffers as its operation left them. -/
theorem slotAfter_buf (p cls n : Nat) {c : Slot} (u : State) (hsig : c.sigCount.val = 0) :
    ((slotAfter p cls c n u).polder p).buf = (u.polder p).buf := by
  unfold slotAfter State.signalEnd State.leave
  rw [if_pos (.inl hsig), polder_setPolder_same]

/-! ### One restore entry -/

/-- A restore entry (R254) with one byte of a header sector. -/
def restoreEntry : RingEntry := { tag := 9, kind := 0xE1, body := [7] }

/-- An image of one ADMIT slot of core 0, whose lane 1 takes a restore's header sectors at 1024 and a write's body at 2048. -/
def restoreImage : Image :=
  { lsRegions := [(0, 0, 65536)], slots := [(unitKey 2 0, [⟨slotWord 0x28 {} 0, none⟩])], lanesIn := [(1, { header := 1024, body := 2048 })] }

/-- Polder 0 runs the image, and its ring 0 holds the entry. -/
def restorePolder : Polder := { prog := .running, image := some restoreImage, rings := [(0, [restoreEntry])] }
def restoreDevice : State := { polders := [(0, restorePolder)] }

/-- One ADMIT of one entry to lane 1. -/
def restoreAdmit : Instr := .admitSlot 0 {} 0 1 1 1 0

theorem restoreDevice_slotRuns : SlotRuns restoreDevice 0 2 0x28 {} false restorePolder := by
  unfold SlotRuns
  decide

/-- The model delivers the byte where the header sectors arrive (R123, R254). -/
theorem restoreAdmit_fills_header : ∃ t, exec restoreAdmit restoreDevice = .next t ∧ Map.getD (t.polder 0).buf 1024 0 = 7 :=
  ⟨_, rfl, by decide +kernel⟩

/-! ### The obligation -/

/-- Refutes O14: an ADMIT does not deliver every entry's body where the image declares bodies for the lane. A restore entry's goes where
the image declares header sectors (R254), so that the byte of `restoreEntry` arrives at 1024 and not at 2048. -/
theorem not_admitBindsAndDoneReports : ¬ Obligations.AdmitBindsAndDoneReports := by
  unfold Obligations.AdmitBindsAndDoneReports
  rintro ⟨hadmit, -, -⟩
  obtain ⟨-, hfits⟩ := hadmit restoreDevice 0 {} 0 1 1 1 0 restorePolder restoreDevice_slotRuns
  obtain ⟨-, hfree⟩ := hfits (by decide) (by decide) (by decide) (by decide)
  obtain ⟨t, ht, y, us, es, hlen, hes, -, -, -, -, hbuf, hy, hfirst, hnext, hlast⟩ := hfree fun _ _ _ => rfl
  have hone : es.length = 1 := hlen
  have hentry : es[0]? = some { restoreEntry with at_ := { header := 1024, body := 2048 } } := hes 0 restoreEntry rfl (by omega)
  have himage : ((us 0).polder 0).image = some restoreImage := by
    rw [hfirst, hy]
    rfl
  have hus : us 1 = (us 0).save 0 2048 [7] := by
    rw [← arrivesAt_of_no_gates 2048 [7] himage rfl (by decide)]
    exact hnext 0 _ hentry
  have hclaimed : Map.getD (t.polder 0).buf 1024 0 = 0 := calc
    _ = Map.getD ((us 1).polder 0).buf 1024 0 := by
      rw [hlast, hone]
      exact congrArg (Map.getD · 1024 0) (slotAfter_buf 0 2 _ (us 1) rfl)
    _ = Map.getD (Map.putD y.buf 2048 7 0) 1024 0 := by
      rw [hus, hfirst]
      rfl
    _ = Map.getD y.buf 1024 0 := getD_putD_ne _ _ _ (by decide)
    _ = 0 := by
      rw [hbuf, if_neg (by simp [lsAddr])]
      rfl
  obtain ⟨t', ht', hfilled⟩ := restoreAdmit_fills_header
  obtain rfl : t' = t := by simpa using ht'.symm.trans ht
  omega

end Sys2Proof.Proofs

/-! PROOFS. The course of a slot. -/

namespace Sys2Proof.Proofs
open Sys2Proof.Machine Sys2Proof.Safety Sys2Proof.Laws

/-! ### What an update of one polder leaves -/

@[simp] theorem setPolder_setPolder (s : State) (p : Nat) (x y : Polder) : (s.setPolder p x).setPolder p y = s.setPolder p y :=
  congrArg (fun m => { s with polders := m }) (put_put s.polders p x y)

@[simp] theorem rate_setPolder (s : State) (p q : Nat) (x : Polder) : (s.setPolder p x).rate q = s.rate q := rfl
@[simp] theorem lostFrame_setPolder (s : State) (p f : Nat) (x : Polder) : (s.setPolder p x).lostFrame f = s.lostFrame f := rfl
@[simp] theorem readOk_setPolder (s : State) (p a n : Nat) (upset : Bool) (x : Polder) : (s.setPolder p x).readOk a n upset = s.readOk a n upset := rfl

/-! ### A wait that is met -/

section
variable {x y : Polder} {key : Nat} {c : Slot} {v : Bool}

theorem takeWait_of_no_count (h : c.waitCount.val = 0) : x.takeWait key c v = some x := by
  simp [Polder.takeWait, h]

/-- A wait whose deadline expired is met, and leaves its gate as it is (R56). -/
theorem takeWait_of_expired {w : Wait} (hn : c.waitCount.val ≠ 0) (hw : Map.find x.waits key = some w) (he : w.expired = true) (hi : w.idx = c.idx) :
    x.takeWait key c v = some { x with waits := Map.del x.waits key } := by
  simp [Polder.takeWait, hn, hw, he, hi]

/-- A wait that did not expire depends on its gate (R52), or, in a void lane, on the void signal (R62). -/
theorem takeWait_of_not_expired (hn : c.waitCount.val ≠ 0) (hw : ∀ w, Map.find x.waits key = some w → w.expired = false ∨ w.idx ≠ c.idx) :
    x.takeWait key c v =
      if c.waitCount.val ≤ Map.getD x.gates c.waitGate 0 then
        some { x with waits := Map.del x.waits key, gates := Map.putD x.gates c.waitGate (Map.getD x.gates c.waitGate 0 - c.waitCount.val) 0 }
      else if v && x.external c.waitGate then
        some { x with waits := Map.del x.waits key, gates := Map.putD x.gates c.waitGate 0 0,
                      absorb := Map.putD x.absorb c.waitGate (Map.getD x.absorb c.waitGate 0 + (c.waitCount.val - Map.getD x.gates c.waitGate 0)) 0 }
      else none := by
  unfold Polder.takeWait
  rw [if_neg hn]
  cases hf : Map.find x.waits key with
  | none => rfl
  | some w =>
    have hlive : (w.expired && decide (w.idx = c.idx)) = false := by
      rcases hw w hf with h | h <;> simp [h]
    simp only [hlive]
    rfl

/-- A wait that is met changes gates and waits only. -/
theorem takeWait_eq_update (h : x.takeWait key c v = some y) : y = { x with gates := y.gates, absorb := y.absorb, waits := y.waits } := by
  simp only [Polder.takeWait] at h
  split_ifs at h <;> cases h <;> rfl

end

/-! ### A slot that runs (R50, R51, R62) -/

/-- What comes of an operation that a slot runs, `x` being its polder once the wait is taken: the course goes on, or a contract fault. -/
def slotEnd (s : State) (p cls : Nat) (c : Slot) (x : Polder) (steps : Nat) : Except Nat State → State
  | .error code => (s.setPolder p x).contractFault p code (slotLoc cls c)
  | .ok u => slotAfter p cls c steps u

@[simp] theorem slotEnd_error (s : State) (p cls : Nat) (c : Slot) (x : Polder) (steps code : Nat) :
    slotEnd s p cls c x steps (.error code) = (s.setPolder p x).contractFault p code (slotLoc cls c) := rfl
@[simp] theorem slotEnd_ok (s : State) (p cls : Nat) (c : Slot) (x : Polder) (steps : Nat) (u : State) :
    slotEnd s p cls c x steps (.ok u) = slotAfter p cls c steps u := rfl

section
variable {s : State} {p cls op : Nat} {c : Slot} {output : Bool} {x : Polder}

/-- The course of a slot that runs is that of its operation's outcome. -/
theorem slot_of_runs (h : SlotRuns s p cls op c output x) (occ : Polder → Nat) (run : Bool → State → Except Nat State) :
    s.slot p cls op c output occ run = slotEnd s p cls c x (occ (s.polder p)) (run (quietLane s p c.lane) (s.setPolder p x)) := by
  obtain ⟨hcan, hzero, hbound, hwait⟩ := h
  have hlane : ¬ (c.lane ≠ 0 ∧ (s.polder p).laneAt s.time c.lane = none) := fun ⟨h0, hn⟩ => by simpa [hn] using hbound h0
  have hout : ¬ (output = true ∧ c.lane = 0) := fun ⟨ho, h0⟩ => by simpa [ho] using hzero h0
  simp only [State.slot, hcan, Bool.not_true, Bool.false_eq_true, if_false, hlane, hout, hwait]
  change _ = slotEnd s p cls c x _ (run (match (s.polder p).laneAt s.time c.lane with | some a => a.quiet | none => false) _)
  cases run _ (s.setPolder p x) <;> rfl

/-- A command whose slot runs completes in the state that its operation's outcome leaves. -/
theorem runs_of_slot {i : Instr} {occ : Polder → Nat} {run : Bool → State → Except Nat State} {P : State → Prop}
    (hi : exec i s = .next (s.slot p cls op c output occ run)) (h : SlotRuns s p cls op c output x)
    (hP : P (slotEnd s p cls c x (occ (s.polder p)) (run (quietLane s p c.lane) (s.setPolder p x)))) : Runs i s P :=
  ⟨_, hi, by rwa [slot_of_runs h]⟩

/-- A slot whose operation's conditions do not all hold is a contract fault (R78). -/
theorem runs_fault {i : Instr} {occ : Polder → Nat} {run : Bool → State → Except Nat State} {code : Nat}
    (hi : exec i s = .next (s.slot p cls op c output occ run)) (h : SlotRuns s p cls op c output x)
    (hrun : run (quietLane s p c.lane) (s.setPolder p x) = .error code) :
    Runs i s fun t => t = (s.setPolder p x).contractFault p code (slotLoc cls c) :=
  runs_of_slot hi h (by rw [hrun]; rfl)

/-! ### A slot that does not run (R50, R51, R59, R83) -/

theorem slot_of_cannot_run (h : s.canRun p cls op c = false) (occ : Polder → Nat) (run : Bool → State → Except Nat State) :
    s.slot p cls op c output occ run = s := by
  simp [State.slot, h]

theorem slot_of_unbound (hcan : s.canRun p cls op c = true) (h0 : c.lane ≠ 0) (hn : (s.polder p).laneAt s.time c.lane = none)
    (occ : Polder → Nat) (run : Bool → State → Except Nat State) :
    s.slot p cls op c output occ run =
      if output ∧ (s.polder p).waits.any (fun w => decide (w.2.lane = c.lane)) then s.contractFault p 9 (slotLoc cls c)
      else s.leave p cls c.unit c.idx 1 := by
  simp [State.slot, hcan, h0, hn]

theorem slot_of_output_in_lane_zero (hcan : s.canRun p cls op c = true) (h0 : c.lane = 0) (ho : output = true)
    (occ : Polder → Nat) (run : Bool → State → Except Nat State) :
    s.slot p cls op c output occ run = s.contractFault p 0x0B (slotLoc cls c) := by
  simp [State.slot, hcan, h0, ho]

theorem slot_of_unmet (hcan : s.canRun p cls op c = true) (hzero : c.lane = 0 → output = false)
    (hbound : c.lane ≠ 0 → ((s.polder p).laneAt s.time c.lane).isSome = true)
    (hwait : (s.polder p).takeWait (unitKey cls c.unit) c (s.voided p c) = none)
    (occ : Polder → Nat) (run : Bool → State → Except Nat State) :
    s.slot p cls op c output occ run = s.setPolder p ((s.polder p).beginWait s.time (unitKey cls c.unit) c) := by
  have hlane : ¬ (c.lane ≠ 0 ∧ (s.polder p).laneAt s.time c.lane = none) := fun ⟨h0, hn⟩ => by simpa [hn] using hbound h0
  have hout : ¬ (output = true ∧ c.lane = 0) := fun ⟨ho, h0⟩ => by simpa [ho] using hzero h0
  simp only [State.slot, hcan, Bool.not_true, Bool.false_eq_true, if_false, hlane, hout, hwait]

end

/-! ### The conditions of an operation (R78) -/

theorem guards_of_all {l : List (Nat × Bool)} (f : Unit → State) (h : ∀ g ∈ l, g.2 = true) : guards l f = .ok (f ()) := by
  induction l with
  | nil => rfl
  | cons g l ih =>
    rw [guards, if_pos (h g (by simp))]
    exact ih fun g' hg' => h g' (by simp [hg'])

/-- Where the conditions that do not hold fault with one code, and one does not hold, that is the fault. -/
theorem guards_of_not_all {l : List (Nat × Bool)} {code : Nat} (f : Unit → State) (hcode : ∀ g ∈ l, g.2 = false → g.1 = code)
    (h : ∃ g ∈ l, g.2 = false) : guards l f = .error code := by
  induction l with
  | nil => simp at h
  | cons g l ih =>
    obtain ⟨k, ok⟩ := g
    cases ok with
    | false => exact congrArg Except.error (hcode (k, false) (by simp) rfl)
    | true => exact ih (fun g' hg' => hcode g' (by simp [hg'])) (by simpa using h)

/-! ### Bytes stored in a polder's buffers (R76) -/

/-- After stores that agree on a key, and that store it or find it stored, the key reads as stored. -/
theorem getD_foldl_putD {β : Type} (l : List β) (key val : β → Nat) (m : Map Nat) {b v : Nat} (hv : ∀ e ∈ l, key e = b → val e = v)
    (h : Map.getD m b 0 = v ∨ ∃ e ∈ l, key e = b) : Map.getD (l.foldl (fun m e => Map.putD m (key e) (val e) 0) m) b 0 = v := by
  induction l generalizing m with
  | nil => simpa using h
  | cons e l ih =>
    refine ih _ (fun e' he' => hv e' (by simp [he'])) ?_
    by_cases hb : key e = b
    · exact .inl (by rw [← hb, getD_putD_same, hv e (by simp) hb])
    · rw [getD_putD_ne _ _ _ (Ne.symm hb)]
      simpa [hb] using h

/-- A run of bytes stored from an address on. -/
theorem stored_save (x : Polder) (a : Nat) (bs : List Nat) : Stored x (x.save a bs) a bs := by
  refine ⟨rfl, fun b => ?_⟩
  have hplace {e : Nat × Nat} (he : e ∈ bs.zipIdx) : bs[e.2]? = some e.1 := List.mem_zipIdx_iff_getElem?.mp he
  refine getD_foldl_putD bs.zipIdx (fun e => a + e.2) (fun e => e.1 % 256) x.buf ?_ ?_
  · rintro e he rfl
    have hlt := (List.getElem?_eq_some_iff.mp (hplace he)).1
    rw [if_pos (by omega), Nat.add_sub_cancel_left, nth, List.getD_eq_getElem?_getD, hplace he, Option.getD_some]
  · by_cases hin : a ≤ b ∧ b < a + bs.length
    · exact .inr ⟨(bs[b - a], b - a), List.mem_zipIdx_iff_getElem?.mpr (by simp), by simp only []; omega⟩
    · exact .inl (if_neg hin).symm

@[simp] theorem length_load (x : Polder) (a n : Nat) : (x.load a n).length = n := by simp [Polder.load]

theorem save_setPolder (s : State) (p a : Nat) (x : Polder) (bs : List Nat) : (s.setPolder p x).save p a bs = s.setPolder p (x.save a bs) := by
  simp [State.save]

end Sys2Proof.Proofs

namespace Sys2Proof.Safety
open Sys2Proof.Machine

section
variable {s : State} {p cls op : Nat} {c : Slot} {output : Bool} {x : Polder} (h : SlotRuns s p cls op c output x)
include h

/-- The wait that a slot takes changes its polder's gates and waits only. -/
theorem SlotRuns.eq_update : x = { s.polder p with gates := x.gates, absorb := x.absorb, waits := x.waits } :=
  Proofs.takeWait_eq_update h.2.2.2

theorem SlotRuns.image_eq : x.image = (s.polder p).image := (congrArg Polder.image h.eq_update :)
theorem SlotRuns.share_eq (port : Nat) : x.share port = (s.polder p).share port := (congrArg (Polder.share · port) h.eq_update :)
theorem SlotRuns.activeFmt_eq (a : Nat) : x.activeFmt a = (s.polder p).activeFmt a := (congrArg (Polder.activeFmt · a) h.eq_update :)
theorem SlotRuns.laneAt_eq (now l : Nat) : x.laneAt now l = (s.polder p).laneAt now l := (congrArg (Polder.laneAt · now l) h.eq_update :)

end

end Sys2Proof.Safety

/-! PROOFS. The words of slots (O2): the layout as a number, from which each field is a quotient and a remainder; then the reserved encodings. -/

namespace Sys2Proof.Proofs
open Sys2Proof.Machine Sys2Proof.Safety Sys2Proof.Laws

/-! ### The fields of a slot's word (R51, R100) -/

theorem toNat_append_eq_add {v w : Nat} (x : BitVec v) (y : BitVec w) : (x ++ y).toNat = y.toNat + 2 ^ w * x.toNat := by
  rw [BitVec.toNat_append, Nat.add_comm, Nat.mul_comm, ← Nat.shiftLeft_eq, Nat.shiftLeft_add_eq_or_of_lt y.isLt]

theorem slotField_eq_div_mod (w : BitVec 128) (lo n : Nat) : slotField w lo n = w.toNat / 2 ^ lo % 2 ^ n := by
  rw [slotField, BitVec.extractLsb'_toNat, Nat.shiftRight_eq_div_pow]

section
variable (op : BitVec 8) (c : Slot) (rest : BitVec 55)

/-- The layout of a slot's word, from the opcode up to the format byte. -/
theorem toNat_slotWord : (slotWord op c rest).toNat = op.toNat + 2 ^ 8 * (c.lane.val + 2 ^ 5 * (2 ^ 3 * (c.waitGate.val + 2 ^ 12 * (c.waitCount.val +
    2 ^ 8 * (c.sigGate.val + 2 ^ 12 * (c.sigCount.val + 2 ^ 8 * (c.deadline.val + 2 ^ 8 * (rest.toNat + 2 ^ 55 * (c.rz.toNat +
    2 ^ 1 * (c.fout.val + 2 ^ 4 * c.fin.val)))))))))) := by
  unfold slotWord
  have hzero : (0 : BitVec 3).toNat = 0 := rfl
  simp only [toNat_append_eq_add, BitVec.toNat_ofFin, BitVec.toNat_ofBool, hzero, Nat.zero_add]

theorem slotField_op : slotField (slotWord op c rest) 0 8 = op.toNat := by
  rw [slotField_eq_div_mod, toNat_slotWord]; omega
theorem slotField_lane : slotField (slotWord op c rest) 8 5 = c.lane.val := by
  rw [slotField_eq_div_mod, toNat_slotWord]; omega
theorem slotField_reserved : slotField (slotWord op c rest) 13 3 = 0 := by
  rw [slotField_eq_div_mod, toNat_slotWord]; omega
theorem slotField_waitGate : slotField (slotWord op c rest) 16 12 = c.waitGate.val := by
  rw [slotField_eq_div_mod, toNat_slotWord]; omega
theorem slotField_waitCount : slotField (slotWord op c rest) 28 8 = c.waitCount.val := by
  rw [slotField_eq_div_mod, toNat_slotWord]; omega
theorem slotField_sigGate : slotField (slotWord op c rest) 36 12 = c.sigGate.val := by
  rw [slotField_eq_div_mod, toNat_slotWord]; omega
theorem slotField_sigCount : slotField (slotWord op c rest) 48 8 = c.sigCount.val := by
  rw [slotField_eq_div_mod, toNat_slotWord]; omega
theorem slotField_deadline : slotField (slotWord op c rest) 56 8 = c.deadline.val := by
  rw [slotField_eq_div_mod, toNat_slotWord]; omega
theorem slotField_fout : slotField (slotWord op c rest) 120 4 = c.fout.val := by
  have hrz := c.rz.toNat_lt
  rw [slotField_eq_div_mod, toNat_slotWord]; omega
theorem slotField_fin : slotField (slotWord op c rest) 124 4 = c.fin.val := by
  have hrz := c.rz.toNat_lt
  rw [slotField_eq_div_mod, toNat_slotWord]; omega
theorem slotWord_rounding : (slotWord op c rest).getLsbD 119 = c.rz := by
  have hbit : (slotWord op c rest).toNat / 2 ^ 119 % 2 = c.rz.toNat := by
    have hrz := c.rz.toNat_lt
    rw [toNat_slotWord]; omega
  rw [BitVec.getLsbD, Nat.testBit_eq_decide_div_mod_eq, hbit]
  cases c.rz <;> rfl

/-- A field that holds a number is that number. -/
theorem toFin_of_slotField {w : BitVec 128} {lo n : Nat} {f : Fin (2 ^ n)} (h : slotField w lo n = f.val) : (w.extractLsb' lo n).toFin = f :=
  Fin.ext h

/-- A slot's word reads back as the slot, but for the format fields of an operation that has none (R51, R100). -/
theorem ofWord_slotWord : Slot.ofWord c.unit c.idx (slotWord op c rest) =
    { c with fin := if (formatsOf op.toNat).isSome then c.fin else 0, fout := if (formatsOf op.toNat).isSome then c.fout else 0,
             rz := (formatsOf op.toNat).isSome && c.rz } := by
  unfold Slot.ofWord
  rw [slotField_op, slotWord_rounding]
  dsimp only
  congr 1
  · exact toFin_of_slotField (slotField_lane op c rest)
  · exact toFin_of_slotField (slotField_waitGate op c rest)
  · exact toFin_of_slotField (slotField_waitCount op c rest)
  · exact toFin_of_slotField (slotField_sigGate op c rest)
  · exact toFin_of_slotField (slotField_sigCount op c rest)
  · exact toFin_of_slotField (slotField_deadline op c rest)
  · exact congrArg (ite _ · 0) (toFin_of_slotField (slotField_fin op c rest))
  · exact congrArg (ite _ · 0) (toFin_of_slotField (slotField_fout op c rest))

end

/-! ### Reserved encodings (R48, R96, R99) -/

/-- An operation that has a format byte refuses a pair of codes where one is not among those that it accepts. -/
theorem formatsOk_eq_false_iff (op fin fout : Nat) : formatsOk op fin fout = false ↔
    ∃ i o, formatsOf op = some (i, o) ∧ (fin ∉ i ∨ (∃ l, o = some l ∧ fout ∉ l) ∨ (o = none ∧ fout ≠ fin)) := by
  unfold formatsOk
  cases formatsOf op with
  | none => simp
  | some f =>
    obtain ⟨i, o⟩ := f
    cases o with
    | none => simp [imp_iff_not_or]
    | some l => simp [imp_iff_not_or]

theorem opOf_eq_true_iff (cls op : Nat) : opOf cls op = true ↔ (op / 16 = cls ∨ op / 16 = 7) ∧ op % 16 < opsOf (op / 16) := by
  simp [opOf]

/-! ### The obligation -/

/-- Settles O2: each field of a word is a quotient and a remainder of its layout's number, and a reserved encoding fails one of three tests.
The operand bits between the placed fields are the operation's own (log entry 35). -/
theorem slotWordsReadAsTheyAreWritten : Obligations.SlotWordsReadAsTheyAreWritten := by
  unfold Obligations.SlotWordsReadAsTheyAreWritten
  refine ⟨fun op c rest => ⟨slotField_op op c rest, slotField_reserved op c rest, ofWord_slotWord op c rest, fun hf => ?_⟩, fun cls w => ?_⟩
  · refine ⟨slotField_fin op c rest, slotField_fout op c rest, ?_⟩
    simp [spells, slotField_op, ofWord_slotWord, hf]
  · rw [← opOf_eq_true_iff, ← formatsOk_eq_false_iff]
    simp [slotReserved, or_assoc]

end Sys2Proof.Proofs

/-! PROOFS. The course of every slot (O1), and the control slots (O3, O4): waits, signals, and the bodies of REPEATs. -/

namespace Sys2Proof.Proofs
open Sys2Proof.Machine Sys2Proof.Safety Sys2Proof.Laws

/-! ### Every slot command runs the course of a slot -/

/-- A command that executes a slot runs its course, but for a SCORE or WSUM whose start is held (R43). -/
theorem exec_of_slotOf {s : State} {i : Instr} {p cls op : Nat} {c : Slot} {output : Bool} (h : slotOf i = some (p, cls, op, c, output))
    (hstart : cls = 0 → output = false → s.startHeld p op c = false) :
    ∃ occ run, exec i s = .next (s.slot p cls op c output occ run) := by
  cases i <;> simp only [slotOf, Option.some.injEq, Prod.mk.injEq, reduceCtorEq] at h <;> obtain ⟨rfl, rfl, rfl, rfl, rfl⟩ := h
  case score p c o => exact ⟨_, _, congrArg Host.Outcome.next (if_neg (by simp [hstart rfl rfl]))⟩
  case wsum p c o => exact ⟨_, _, congrArg Host.Outcome.next (if_neg (by simp [hstart rfl rfl]))⟩
  all_goals exact ⟨_, _, rfl⟩

/-- A start is held only of a slot that would run: its unit can, its lane is bound and its wait is met. -/
theorem startHeld_eq_false {s : State} {p op : Nat} {c : Slot}
    (h : s.canRun p 0 op c = true → (c.lane = 0 ∨ ((s.polder p).laneAt s.time c.lane).isSome = true) →
      (s.polder p).takeWait (unitKey 0 c.unit) c (s.voided p c) = none) : s.startHeld p op c = false := by
  by_contra hheld
  simp only [State.startHeld, Bool.not_eq_false, Bool.and_eq_true, decide_eq_true_eq] at hheld
  obtain ⟨⟨⟨hcan, hlane⟩, hwait⟩, -⟩ := hheld
  simp [h hcan hlane] at hwait

theorem slotAt_eq_some_iff (x : Polder) (key idx : Nat) (w : ImgSlot) : x.slotAt key idx = some w ↔
    ∃ im u, x.image = some im ∧ (im.slots.find? fun u => decide (u.1 = key)) = some u ∧ u.2[idx]? = some w := by
  unfold Polder.slotAt
  cases x.image with
  | none => simp
  | some im =>
    cases hu : im.slots.find? fun u => decide (u.1 = key) with
    | none => simp [hu]
    | some u =>
      obtain ⟨k, l⟩ := u
      simp [hu]

/-- The image holds a command's slot where it holds a word there that spells it (R50, R51). -/
theorem holds_iff (x : Polder) (cls op : Nat) (c : Slot) : x.holds cls op c = true ↔
    ∃ im u w, x.image = some im ∧ (im.slots.find? fun u => decide (u.1 = unitKey cls c.unit)) = some u ∧ u.2[c.idx]? = some w ∧
      slotField w.word 0 8 = op ∧ Slot.ofWord c.unit c.idx w.word = c := by
  have hword : x.holds cls op c = true ↔ ∃ w, x.slotAt (unitKey cls c.unit) c.idx = some w ∧ spells w.word op c = true := by
    unfold Polder.holds
    cases x.slotAt (unitKey cls c.unit) c.idx <;> simp
  simp only [hword, slotAt_eq_some_iff, spells, Bool.and_eq_true, decide_eq_true_eq]
  exact ⟨fun ⟨w, ⟨im, u, him, hu, hw⟩, hop, hc⟩ => ⟨im, u, w, him, hu, hw, hop, hc⟩,
    fun ⟨im, u, w, him, hu, hw, hop, hc⟩ => ⟨w, ⟨im, u, him, hu, hw⟩, hop, hc⟩⟩

/-! ### Where a unit goes after a slot (R61) -/

theorem afterSlot_outside (idx : Nat) : afterSlot [] idx = (idx + 1, [], 0) := rfl

section
variable (stack : List (Nat × Nat × Nat)) (first last left idx : Nat)

theorem afterSlot_inside (hleft : left ≠ 0) (hidx : idx ≠ last) :
    afterSlot ((first, last, left) :: stack) idx = (idx + 1, (first, last, left) :: stack, 0) := by
  simp [afterSlot, hleft, hidx]

theorem afterSlot_next_run (hleft : 2 ≤ left) :
    afterSlot ((first, last, left) :: stack) last = (first, (first, last, left - 1) :: stack, 2) := by
  simp [afterSlot, hleft, show left ≠ 0 by omega]

theorem afterSlot_last_run (hleft : left ≤ 1) : afterSlot ((first, last, left) :: stack) last = afterSlot stack last := by
  simp [afterSlot, show ¬ 2 ≤ left by omega]

theorem afterSlot_no_run : afterSlot ((first, last, 0) :: stack) idx = afterSlot stack last := by
  simp [afterSlot]

end

/-! ### The obligation of the course -/

/-- Settles O1: the course of `State.slot`, the conjunction that `State.canRun` is, the branches of `afterSlot`, and the update that a unit's
leaving makes. The unmet wait that only begins is log entry 24. -/
theorem everySlotTakesTheCourseOfASlot : Obligations.EverySlotTakesTheCourseOfASlot := by
  unfold Obligations.EverySlotTakesTheCourseOfASlot
  refine ⟨fun s i p cls op c output h => ⟨fun hcan => ?_, fun hcan h0 hn => ?_, fun hcan h0 hout => ?_, fun hcan hzero hbound hwait => ?_⟩,
    fun s p cls op c => ?_, fun stack first last left idx => ?_, fun s p cls unit idx n => ?_⟩
  · obtain ⟨occ, run, hi⟩ := exec_of_slotOf (s := s) h fun hcls _ => startHeld_eq_false fun hcan' => by subst hcls; simp [hcan] at hcan'
    exact ⟨_, hi, slot_of_cannot_run hcan occ run⟩
  · obtain ⟨occ, run, hi⟩ := exec_of_slotOf (s := s) h fun _ _ => startHeld_eq_false fun _ hlane => by simp [h0, hn] at hlane
    rw [slot_of_unbound hcan h0 hn] at hi
    refine ⟨fun hfree => ⟨_, hi, if_neg ?_⟩, fun hout hwaits => ⟨_, hi, if_pos ?_⟩⟩
    · rcases hfree with hout | hfree
      · simp [hout]
      · rintro ⟨-, hwaits⟩
        obtain ⟨w, hw, hlane⟩ := List.any_eq_true.mp hwaits
        exact hfree w hw (of_decide_eq_true hlane)
    · obtain ⟨w, hw, hlane⟩ := hwaits
      exact ⟨hout, List.any_eq_true.mpr ⟨w, hw, decide_eq_true hlane⟩⟩
  · obtain ⟨occ, run, hi⟩ := exec_of_slotOf (s := s) h fun _ hout' => by simp [hout] at hout'
    exact ⟨_, hi, slot_of_output_in_lane_zero hcan h0 hout occ run⟩
  · obtain ⟨occ, run, hi⟩ := exec_of_slotOf (s := s) h fun hcls _ => startHeld_eq_false fun _ _ => by subst hcls; exact hwait
    exact ⟨_, hi, slot_of_unmet hcan hzero hbound hwait occ run⟩
  · simp only [State.canRun, Bool.and_eq_true, decide_eq_true_eq, Bool.not_eq_true', holds_iff, and_assoc]
  · exact ⟨afterSlot_outside idx, afterSlot_inside stack first last left idx, afterSlot_next_run stack first last left,
      afterSlot_last_run stack first last left, afterSlot_no_run stack first last idx⟩
  · simp only [State.leave, State.stepNs, polder_setPolder_same, getD_put_same, true_and, and_true]
    exact fun k hk => ⟨getD_put_ne _ _ _ hk, getD_put_ne _ _ _ hk, getD_put_ne _ _ _ hk, getD_put_ne _ _ _ hk⟩

/-! ### Signals (R51, R52, R54, R56) -/

section
variable {x : Polder} {g n : Nat}

/-- A signal adds to its gate what the gate does not absorb. -/
theorem signal_of_le (h : Map.getD x.gates g 0 + (n - Map.getD x.absorb g 0) ≤ 65535) : x.signal g n =
    some { x with absorb := Map.putD x.absorb g (Map.getD x.absorb g 0 - n) 0, gates := Map.putD x.gates g (Map.getD x.gates g 0 + (n - Map.getD x.absorb g 0)) 0 } := by
  have hleft : Map.getD x.absorb g 0 - min (Map.getD x.absorb g 0) n = Map.getD x.absorb g 0 - n := by omega
  have hadd : n - min (Map.getD x.absorb g 0) n = n - Map.getD x.absorb g 0 := by omega
  simp only [Polder.signal, hleft, hadd]
  exact if_neg (by omega)

theorem signal_of_gt (h : 65535 < Map.getD x.gates g 0 + (n - Map.getD x.absorb g 0)) : x.signal g n = none := by
  have hadd : n - min (Map.getD x.absorb g 0) n = n - Map.getD x.absorb g 0 := by omega
  simp only [Polder.signal, hadd]
  exact if_pos h

end

section
variable {s : State} {p cls : Nat} {c : Slot}

/-- A slot that counts no signal, or names an external gate, signals none (R54). -/
theorem signalEnd_of_none (h : c.sigCount.val = 0 ∨ (s.polder p).external c.sigGate = true) : s.signalEnd p cls c = s := if_pos h

theorem signalEnd_of_le (h0 : c.sigCount.val ≠ 0) (hin : (s.polder p).external c.sigGate = false)
    (h : Map.getD (s.polder p).gates c.sigGate 0 + (c.sigCount.val - Map.getD (s.polder p).absorb c.sigGate 0) ≤ 65535) : s.signalEnd p cls c =
      s.setPolder p { s.polder p with
        absorb := Map.putD (s.polder p).absorb c.sigGate (Map.getD (s.polder p).absorb c.sigGate 0 - c.sigCount.val) 0
        gates := Map.putD (s.polder p).gates c.sigGate (Map.getD (s.polder p).gates c.sigGate 0 + (c.sigCount.val - Map.getD (s.polder p).absorb c.sigGate 0)) 0 } := by
  unfold State.signalEnd
  rw [if_neg (by simp [h0, hin]), signal_of_le h]

theorem signalEnd_of_gt (h0 : c.sigCount.val ≠ 0) (hin : (s.polder p).external c.sigGate = false)
    (h : 65535 < Map.getD (s.polder p).gates c.sigGate 0 + (c.sigCount.val - Map.getD (s.polder p).absorb c.sigGate 0)) :
    s.signalEnd p cls c = s.contractFault p 2 (slotLoc cls c) := by
  unfold State.signalEnd
  rw [if_neg (by simp [h0, hin]), signal_of_gt h]

/-- A unit's leaving changes no gate and no image. -/
theorem leave_gates (unit idx n : Nat) : ((s.leave p cls unit idx n).polder p).gates = (s.polder p).gates := by simp [State.leave]
theorem leave_absorb (unit idx n : Nat) : ((s.leave p cls unit idx n).polder p).absorb = (s.polder p).absorb := by simp [State.leave]
theorem leave_external (unit idx n g : Nat) : ((s.leave p cls unit idx n).polder p).external g = (s.polder p).external g := by
  simp [State.leave, Polder.external]
theorem leave_setPolder (unit idx n : Nat) (x : Polder) :
    (s.leave p cls unit idx n).setPolder p x = s.setPolder p x := by simp [State.leave]

end

/-! ### The obligation of the control slots -/

/-- Settles O3: a wait is met by its count, its expiry, or the void signal (log entry 132), and a slot ends with its signal, which an external
gate does not take (log entry 133). -/
theorem waitsTakeAndSignalsAdd : Obligations.WaitsTakeAndSignalsAdd := by
  unfold Obligations.WaitsTakeAndSignalsAdd
  refine ⟨fun x key c v => ⟨takeWait_of_no_count, fun hn ⟨w, hw, he, hi⟩ => takeWait_of_expired hn hw he hi, fun hn hw => ?_⟩,
    fun s p cls c x i n op ended hi h => ?_⟩
  · rw [takeWait_of_not_expired hn hw]
    refine ⟨fun hle => ?_, fun hlt hv hext => ?_, fun hlt hnot => ?_⟩
    · rw [if_pos hle]
      exact ⟨_, rfl, getD_putD_same _ _ _ _, fun g hg => getD_putD_ne _ _ _ hg, rfl⟩
    · rw [if_neg (by omega), if_pos (by simp [hv, hext])]
      exact ⟨_, rfl, getD_putD_same x.gates _ 0 0, getD_putD_same _ _ _ _, fun g hg => ⟨getD_putD_ne x.gates 0 0 hg, getD_putD_ne _ _ _ hg⟩, rfl⟩
    · rw [if_neg (by omega), if_neg (by rcases hnot with h | h <;> simp [h])]
  · intro left total u
    have hrun (P : State → Prop) (hP : P (u.signalEnd p cls c)) : Runs i s P := by
      rcases hi with ⟨rfl, rfl, rfl, rfl⟩ | ⟨rfl, rfl, rfl, rfl⟩ | ⟨rfl, rfl, rfl, rfl⟩
      · exact runs_of_slot rfl h hP
      · exact runs_of_slot rfl h hP
      · refine runs_of_slot rfl h ?_
        simp only [polder_setPolder_same, setPolder_setPolder]
        exact hP
    have hgates : (u.polder p).gates = x.gates := by simp [u, leave_gates]
    have habsorb : (u.polder p).absorb = x.absorb := by simp [u, leave_absorb]
    have hext : (u.polder p).external c.sigGate = x.external c.sigGate := by
      rw [leave_external, polder_setPolder_same]
      rfl
    refine ⟨fun hnone => hrun _ (signalEnd_of_none (by rwa [hext])), fun h0 hin hle => hrun _ ?_, fun h0 hin hgt => hrun _ ?_⟩
    · rw [signalEnd_of_le h0 (by rwa [hext]) (by rwa [hgates, habsorb]), hgates, habsorb, leave_setPolder, setPolder_setPolder]
      simp only [polder_setPolder_same]
      exact ⟨getD_putD_same _ _ _ _, getD_putD_same _ _ _ _, fun g hg => ⟨getD_putD_ne _ _ _ hg, getD_putD_ne _ _ _ hg⟩, trivial, trivial⟩
    · exact signalEnd_of_gt h0 (by rwa [hext]) (by rwa [hgates, habsorb])

/-! ### The obligation of REPEAT -/

theorem repeatBound_of_find {x : Polder} {im : Image} {key idx bound : Nat} (him : x.image = some im)
    (hb : (im.repeatBounds.find? fun b => decide (b.1 = key) && decide (b.2.1 = idx)) = some (key, idx, bound)) :
    x.repeatBound key idx = bound := by
  simp [Polder.repeatBound, him, hb]

/-- The count of a REPEAT is its immediate, or a field of its lane's ring entry (R61, R125). -/
theorem repeatCount_eq {s : State} {p : Nat} {c : Slot} {count n : Nat} {fromEntry : Bool}
    (h : fromEntry = false ∧ n = count ∨ fromEntry = true ∧ ∃ a, (s.polder p).laneAt s.time c.lane = some a ∧
      (count = 32 ∧ n = a.entry.pageCount ∨ count = 36 ∧ n = a.entry.lastValid ∨ count = 30 ∧ n = a.entry.chunkCount)) :
    repeatCount s p c count fromEntry = n := by
  rcases h with ⟨rfl, rfl⟩ | ⟨rfl, a, ha, hfield⟩
  · rfl
  · rcases hfield with ⟨rfl, rfl⟩ | ⟨rfl, rfl⟩ | ⟨rfl, rfl⟩ <;> simp [repeatCount, ha]

/-- Settles O4: the two conditions of a REPEAT, its declared bound and the depth and length of its body (log entry 33). -/
theorem repeatRunsItsBodyAndIsBounded : Obligations.RepeatRunsItsBodyAndIsBounded := by
  unfold Obligations.RepeatRunsItsBodyAndIsBounded
  intro s p cls c len count fromEntry x im n bound h him hcount key inside hb
  have hn := repeatCount_eq hcount
  have hbound : x.repeatBound (unitKey cls c.unit) c.idx = bound := repeatBound_of_find him hb
  refine ⟨fun hle hlen hlen' hdepth => runs_of_slot rfl h ?_, fun hbad => runs_fault rfl h ?_⟩
  · simp only [polder_setPolder_same, setPolder_setPolder, hbound, hn]
    rw [guards_of_all _ (by simpa [hle, hlen, hlen'] using hdepth)]
    rfl
  · simp only [polder_setPolder_same, setPolder_setPolder, hbound, hn]
    refine guards_of_not_all _ (by simp) ?_
    rcases hbad with hgt | hbody
    · exact ⟨_, .head _, decide_eq_false (by omega)⟩
    · refine ⟨_, .tail _ (.head _), ?_⟩
      simp only [Bool.and_eq_false_iff, decide_eq_false_iff_not]
      simp only [inside, key] at hbody
      omega

end Sys2Proof.Proofs

/-! PROOFS. The bank units (O5, O6): what a checked read leaves, the course of a SCORE or WSUM, and bytes written to a stack. -/

namespace Sys2Proof.Proofs
open Sys2Proof.Machine Sys2Proof.Safety Sys2Proof.Laws

/-! ### The ladder and a taint leave the rest (R138, R352) -/

theorem onLadder_polder (s : State) (f : Nat) (x : Frame) (h : Health) (q : Nat) (e : Bool) (j : Nat) : (s.onLadder f x h q e).polder j = s.polder j := by
  simp [State.onLadder, State.polder, State.bump, State.bumpBy, State.setObj]

theorem onLadder_mem (s : State) (f : Nat) (x : Frame) (h : Health) (q : Nat) (e : Bool) : (s.onLadder f x h q e).mem = s.mem := by
  simp [State.onLadder]

/-- The ladder beside a read starts on the read's frame, or nothing happens. -/
theorem besideLadder_cases (s : State) (f : Nat) (q : Option Nat) (e : Bool) :
    s.besideLadder f q e = s ∨ ∃ x i, s.besideLadder f q e = s.onLadder f x .reread i e := by
  unfold State.besideLadder
  split
  · split
    · exact .inr ⟨_, _, rfl⟩
    · exact .inl rfl
  · exact .inl rfl

@[simp] theorem besideLadder_polder (s : State) (f : Nat) (q : Option Nat) (e : Bool) (j : Nat) : (s.besideLadder f q e).polder j = s.polder j := by
  rcases besideLadder_cases s f q e with h | ⟨x, i, h⟩ <;> simp [h, onLadder_polder]

@[simp] theorem besideLadder_mem (s : State) (f : Nat) (q : Option Nat) (e : Bool) : (s.besideLadder f q e).mem = s.mem := by
  rcases besideLadder_cases s f q e with h | ⟨x, i, h⟩ <;> simp [h, onLadder_mem]

/-! ### A checked read by a unit (R347) -/

section
variable {s : State} {p l a n : Nat} {upset tainting : Bool}

theorem unitRead_of_lost (h : s.lostFrame (frameOf a) = true) :
    s.unitRead p l a n upset tainting = ((if tainting then s.taint p l [frameOf a] 0 else s), false) := by
  simp [State.unitRead, h]

theorem unitRead_of_ok (hl : s.lostFrame (frameOf a) = false) (h : s.readOk a n upset = true) :
    s.unitRead p l a n upset tainting = (s.besideLadder (frameOf a) (s.laneSeq p l) false, true) := by
  simp [State.unitRead, hl, h]

theorem unitRead_of_failed (hl : s.lostFrame (frameOf a) = false) (h : s.readOk a n upset = false) :
    s.unitRead p l a n upset tainting = ((if tainting then (s.checkFailed (frameOf a) (s.laneSeq p l) false).taint p l [frameOf a] 0
      else s.checkFailed (frameOf a) (s.laneSeq p l) false), false) := by
  simp [State.unitRead, hl, h]

end

/-- The sequence of a lane is that of the binding, whatever else of the polder changed. -/
theorem laneSeq_setPolder (s : State) (p l : Nat) {x : Polder} (h : x.laneAt s.time l = (s.polder p).laneAt s.time l) :
    (s.setPolder p x).laneSeq p l = s.laneSeq p l := by
  simp [State.laneSeq, h]

/-! ### Starts of SCORE and WSUM (R43, R68) -/

/-- A lower ceiling holds a start, or an earlier held start does (R43). -/
def StartWaits (s : State) (p : Nat) (c : Slot) : Prop :=
  ((s.concurrency p).2 < (s.concurrency p).1 ∧ (s.concurrency p).2 ≤ (s.polder p).busy s.time) ∨
    ((s.polder p).heldStarts ≠ [] ∧ (s.polder p).heldStarts.head? ≠ some c.unit)

section
variable {s : State} {p op : Nat} {c : Slot} {x : Polder} (h : SlotRuns s p 0 op c false x)
include h

theorem startHeld_iff_of_runs : s.startHeld p op c = true ↔ StartWaits s p c := by
  obtain ⟨hcan, -, hbound, hwait⟩ := h
  have hlane : c.lane = 0 ∨ ((s.polder p).laneAt s.time c.lane).isSome = true := or_iff_not_imp_left.mpr hbound
  have hfirst : (match (s.polder p).heldStarts with | u :: _ => decide (u ≠ c.unit) | [] => false) = true ↔
      (s.polder p).heldStarts ≠ [] ∧ (s.polder p).heldStarts.head? ≠ some c.unit := by
    cases (s.polder p).heldStarts <;> simp
  simp only [State.startHeld, hcan, hwait, hlane, decide_true, Option.isSome_some, Bool.and_true, Bool.true_and, Bool.or_eq_true, Bool.and_eq_true, decide_eq_true_eq, StartWaits]
  exact or_congr Iff.rfl hfirst

/-- The declared concurrency and the ceilings do not change while a slot runs. -/
theorem concurrency_setPolder_of_runs : (s.setPolder p x).concurrency p = s.concurrency p := by
  simp only [State.concurrency, polder_setPolder_same, h.image_eq]
  rfl

end

/-- A unit's computing is noted for a number of steps (R68). -/
def computingIn (s : State) (x : Polder) (p unit n : Nat) : Polder :=
  { x with computing := Map.put x.computing unit (s.time + n * 1000 / s.rate p) }

theorem computing_setPolder (s : State) (p unit n : Nat) (x : Polder) : (s.setPolder p x).computing p unit n =
    s.setPolder p (computingIn s x p unit n) := by
  simp [State.computing, State.stepNs, computingIn]

/-! ### The course of a SCORE or WSUM (R67, R126, R127) -/

section
variable {s : State} {p op dst : Nat} {c : Slot} {o : BankOp} {fits : Bool} {x : Polder} {i : Instr} {result : Polder → List Nat → List Nat}
  (hi : exec i s = .next (s.bankOp p op c o fits dst result)) (h : SlotRuns s p 0 op c false x)
include hi h

/-- A start that waits takes its place behind the held starts. -/
theorem runs_bankOp_waiting (hw : StartWaits s p c) : Runs i s fun t => t = s.holdStart p c :=
  ⟨_, hi, if_pos ((startHeld_iff_of_runs h).mpr hw)⟩

/-- What a SCORE or WSUM does once nothing holds its start. -/
theorem runs_bankOp {P : State → Prop} (hw : ¬ StartWaits s p c)
    (hP : P (slotEnd s p 0 c x (ceilDiv o.bytes 16)
      (guards [(7, decide (o.heads * o.g ≤ 32)), (1, inRow o.row o.off o.bytes), (1, fits), (5, decide (x.busy s.time < (s.concurrency p).1))] fun _ =>
        let v := s.setPolder p (computingIn s x p c.unit (ceilDiv o.bytes 16))
        let r := v.unitRead p c.lane (bankAddr p c.unit o.row o.off) o.bytes o.upset true
        if r.2 then r.1.save p dst (wordBytes (result x (Memory.bytes s.mem (bankAddr p c.unit o.row o.off) o.bytes))) else r.1))) :
    Runs i s P := by
  refine runs_of_slot (hi.trans (congrArg Host.Outcome.next (if_neg (mt (startHeld_iff_of_runs h).mp hw)))) h ?_
  simp only [polder_setPolder_same, concurrency_setPolder_of_runs h, computing_setPolder]
  exact hP

theorem runs_bankOp_fault {code : Nat} (hw : ¬ StartWaits s p c)
    (hg : ∀ f, guards [(7, decide (o.heads * o.g ≤ 32)), (1, inRow o.row o.off o.bytes), (1, fits), (5, decide (x.busy s.time < (s.concurrency p).1))] f = .error code) :
    Runs i s fun t => t = (s.setPolder p x).contractFault p code (slotLoc 0 c) :=
  runs_bankOp hi h hw (by rw [hg]; rfl)

end

/-- Settles O5: a held start, the four conditions in order, and the three outcomes of the checked read. A failing or lost frame leaves the
unit's buffers (log entry 32). -/
theorem scoresAndValueSums : Obligations.ScoresAndValueSums := by
  unfold Obligations.ScoresAndValueSums
  intro s p c o x i op dst fits result hi h a n v k held waits
  obtain ⟨result', hi, hresult⟩ : ∃ result', exec i s = .next (s.bankOp p op c o fits dst result') ∧ ∀ bs, result' x bs = result bs := by
    rcases hi with ⟨rfl, rfl, rfl, rfl, hr⟩ | ⟨rfl, rfl, rfl, rfl, hr⟩
    · exact ⟨fun x bs => scoresOf c.fin o (x.load (queryBuf c.unit o.half) (o.heads * o.g * o.c * 2)) bs, rfl, fun bs => (hr bs).symm⟩
    · exact ⟨fun x bs => sumsOf c.fin o (x.load (probBuf c.unit o.half) (o.heads * o.g * 64 * 2)) bs, rfl, fun bs => (hr bs).symm⟩
  have hlane : v.laneSeq p c.lane = s.laneSeq p c.lane := laneSeq_setPolder s p c.lane (h.laneAt_eq s.time c.lane)
  refine ⟨fun hw => ?_, fun hw hheads => ?_, fun hw hheads hbad => ?_, fun hw hheads hrow hfits hbusy => ?_, fun hw hheads hrow hfits hbusy => ?_⟩
  · obtain ⟨t, ht, rfl⟩ := runs_bankOp_waiting hi h hw
    refine ⟨_, ht, fun hmem => ?_, fun hmem => ?_⟩ <;> simp only [held] at hmem <;> simp [State.holdStart, hmem, held]
  · exact runs_bankOp_fault hi h hw fun f => by simp [guards, show ¬ o.heads * o.g ≤ 32 by omega]
  · exact runs_bankOp_fault hi h hw fun f => by rcases hbad with hbad | hbad <;> simp [guards, hheads, hbad]
  · exact runs_bankOp_fault hi h hw fun f => by simp [guards, hheads, hrow, hfits, show ¬ x.busy s.time < (s.concurrency p).1 from not_lt.mpr hbusy]
  · refine runs_bankOp hi h hw ?_
    rw [guards_of_all _ (by simp [hheads, hrow, hfits]; exact hbusy)]
    rw [slotEnd_ok]
    refine ⟨fun hl hok => ⟨_, stored_save _ dst _, ?_⟩, fun hl => ?_, fun hl hbad => ?_⟩
    · rw [← hlane]
      simp only [unitRead_of_ok (s := s.setPolder p (computingIn s x p c.unit _)) (a := bankAddr p c.unit o.row o.off) hl hok, if_true, State.save, besideLadder_polder, polder_setPolder_same, hresult]
      rfl
    · simp only [unitRead_of_lost (s := s.setPolder p (computingIn s x p c.unit _)) (a := bankAddr p c.unit o.row o.off) hl, if_true]
      rfl
    · rw [← hlane]
      simp only [unitRead_of_failed (s := s.setPolder p (computingIn s x p c.unit _)) (a := bankAddr p c.unit o.row o.off) hl hbad, if_true]
      rfl

/-! ### Bytes written to a stack (R345, R346) -/

/-- After each key of a list is stored with its own value, a listed key reads as stored and every other key as before. -/
theorem find_foldl_put {α : Type} (l : List Nat) (f : Nat → α) (m : Map α) (k : Nat) :
    Map.find (l.foldl (fun m j => Map.put m j (f j)) m) k = if k ∈ l then some (f k) else Map.find m k := by
  induction l generalizing m with
  | nil => simp
  | cons j l ih =>
    rw [List.foldl_cons, ih, find_put]
    by_cases hl : k ∈ l <;> by_cases hj : k = j <;> simp [hl, hj]

theorem writeStack_read (s : State) (d : Nat) (bs : List Nat) (a : Nat) : Memory.read (s.writeStack d bs).mem a =
    if d ≤ a ∧ a < d + bs.length then BitVec.ofNat 8 (nth bs (a - d)) else Memory.read s.mem a := read_store _ _ _ _

/-- Every sector that a write touches has the check word of its bytes. -/
theorem writeStack_sideband (s : State) (d : Nat) (bs : List Nat) (sec : Nat) : Map.find (s.writeStack d bs).sideband sec =
    if sec ∈ sectorsOf d bs.length then some (wordOf (s.writeStack d bs).mem sec) else Map.find s.sideband sec := find_foldl_put _ _ _ _

@[simp] theorem writeStack_polder (s : State) (d : Nat) (bs : List Nat) (j : Nat) : (s.writeStack d bs).polder j = s.polder j := rfl

@[simp] theorem length_bytes (m : List Host.Cell) (a n : Nat) : (Memory.bytes m a n).length = n := by simp [Memory.bytes]

/-! ### The obligation of WRITE, COPY and VERIFY -/

/-- An output slot that runs has a lane, which the wait it took left as it was (R59). -/
theorem exists_laneAt_of_runs {s : State} {p cls op : Nat} {c : Slot} {x : Polder} (h : SlotRuns s p cls op c true x) :
    ∃ a, x.laneAt s.time c.lane = some a := by
  rw [h.laneAt_eq]
  obtain ⟨-, hzero, hbound, -⟩ := h
  exact Option.isSome_iff_exists.mp (hbound fun h0 => by simpa using hzero h0)

section
variable {s : State} {p : Pol} {c : Slot} {x : Polder} {P : State → Prop}

theorem runs_write {row off bytes : Nat} {upset : Bool} (h : SlotRuns s p 0 0x02 c true x) (hlen : bytes ≤ 2048) (hrow : inRow row off bytes = true) :
    (quietLane s p c.lane = true → Runs (.write p c row off bytes upset) s fun t => SlotDone s p 0 c (ceilDiv bytes 16 + 2) x t) ∧
    (quietLane s p c.lane = false → let u := (s.setPolder p x).writeStack (bankAddr p c.unit row off) (x.load (writeBuf c.unit) bytes)
      ((upset || !x.wordsOk c.unit bytes) = true → Runs (.write p c row off bytes upset) s fun t =>
        t = slotAfter p 0 c (ceilDiv bytes 16 + 2) (u.taint p c.lane [] 3)) ∧
      ((upset || !x.wordsOk c.unit bytes) = false → Runs (.write p c row off bytes upset) s fun t => ∃ a, x.laneAt s.time c.lane = some a ∧
        t = slotAfter p 0 c (ceilDiv bytes 16 + 2) (u.setPolder p { x with lanes := Map.put x.lanes c.lane { a with wrote := true } }))) := by
  have hguards : ∀ g ∈ [(7, decide (bytes ≤ 2048)), (1, inRow row off bytes)], g.2 = true := by simp [hlen, hrow]
  obtain ⟨a, ha⟩ := exists_laneAt_of_runs h
  refine ⟨fun hq => runs_of_slot rfl h ?_, fun hq => ⟨fun hbad => runs_of_slot rfl h ?_, fun hbad => runs_of_slot rfl h ⟨a, ha, ?_⟩⟩⟩ <;>
    rw [guards_of_all _ hguards, slotEnd_ok]
  · simp [hq, SlotDone]
  · simp [hq, hbad]
  · simp only [hq, Bool.false_eq_true, if_false, polder_setPolder_same, hbad]
    rw [show (((s.setPolder p x).writeStack _ _).time) = s.time from rfl, ha]

theorem runs_copy {row off row' off' bytes : Nat} (h : SlotRuns s p 0 0x03 c false x) (hlen : bytes ≤ 12544) (hrow : inRow row off bytes = true)
    (hrow' : inRow row' off' bytes = true) :
    Runs (.copy p c row off row' off' bytes) s fun t => t = slotAfter p 0 c (2 * ceilDiv bytes 16)
      (if quietLane s p c.lane then s.setPolder p x
        else (s.setPolder p x).writeStack (bankAddr p c.unit row' off') (Memory.bytes s.mem (bankAddr p c.unit row off) bytes)) := by
  refine runs_of_slot rfl h ?_
  rw [guards_of_all _ (by simp [hlen, hrow, hrow'])]
  rfl

/-- A VERIFY starts the ladder beside it, or on a failure, and leaves a lost frame (R67). -/
theorem runs_verify {row off bytes : Nat} {upset : Bool} (h : SlotRuns s p 0 0x04 c false x) (hlen : bytes ≤ 16384) (hrow : inRow row off bytes = true) :
    Runs (.verify p c row off bytes upset) s fun t => t = slotAfter p 0 c (ceilDiv bytes 16)
      ((s.setPolder p x).unitRead p c.lane (bankAddr p c.unit row off) bytes upset false).1 := by
  refine runs_of_slot rfl h ?_
  rw [guards_of_all _ (by simp [hlen, hrow])]
  rfl

end

/-- Settles O6: the operations within their limits, then their faults. A VERIFY is a checked read that taints nothing. -/
theorem bankWritesCopiesAndVerifies : Obligations.BankWritesCopiesAndVerifies := by
  unfold Obligations.BankWritesCopiesAndVerifies
  refine ⟨fun s p c x i op dst steps bs write bad hi h => ?_, fun s p c row off bytes upset x h hrow hlen => ?_,
    fun s p c x row off row' off' bytes upset => ⟨fun h hlen => ?_, fun h hlen hrow => ?_, fun h hlen => ?_, fun h hlen hrow => ?_, fun h hlen => ?_, fun h hlen hrow => ?_⟩⟩
  · rcases hi with ⟨row, off, bytes, upset, rfl, rfl, rfl, hrow, hlen, rfl, rfl, rfl, rfl⟩ | ⟨row, off, row', off', bytes, rfl, rfl, rfl, rfl, hrow, hrow', hlen, rfl, rfl, rfl⟩
    · obtain ⟨hquiet, hloud⟩ := runs_write (upset := upset) h hlen hrow
      refine ⟨hquiet, fun hq => ⟨_, writeStack_read (s.setPolder p x) _ _, writeStack_sideband (s.setPolder p x) _ _, rfl, by simp, fun _ => (hloud hq).1, fun _ => (hloud hq).2⟩⟩
    · obtain ⟨t, ht, rfl⟩ := runs_copy h hlen hrow hrow'
      refine ⟨fun hq => ⟨_, ht, by simp [hq, SlotDone]⟩, fun hq => ⟨_, writeStack_read (s.setPolder p x) _ _, writeStack_sideband (s.setPolder p x) _ _, rfl,
        fun _ => ⟨_, ht, by simp [hq]⟩, by simp, by simp⟩⟩
  · obtain ⟨t, ht, rfl⟩ := runs_verify (upset := upset) h hlen hrow
    have hlane : (s.setPolder p x).laneSeq p c.lane = s.laneSeq p c.lane := laneSeq_setPolder s p c.lane (h.laneAt_eq s.time c.lane)
    refine ⟨_, ht, fun hl => ?_, fun hl => ?_⟩
    · rw [unitRead_of_lost (s := s.setPolder p x) hl]
      rfl
    · cases hok : s.readOk (bankAddr p c.unit row off) bytes upset with
      | true => rw [unitRead_of_ok (s := s.setPolder p x) hl hok, hlane]; rfl
      | false => rw [unitRead_of_failed (s := s.setPolder p x) hl hok, hlane]; rfl
  · exact runs_fault rfl h (by simp [guards, hlen])
  · exact runs_fault rfl h (by simp [guards, hlen, hrow])
  · exact runs_fault rfl h (by simp [guards, hlen])
  · exact runs_fault rfl h (by simp [guards, hlen, hrow])
  · exact runs_fault rfl h (by simp [guards, hlen])
  · exact runs_fault rfl h (by rcases hrow with hrow | hrow <;> simp [guards, hlen, hrow])

end Sys2Proof.Proofs

/-! PROOFS. The sequence cores (O7, O8): an operation whose runs lie in the core's regions stores the function of what it read. -/

namespace Sys2Proof.Proofs
open Sys2Proof.Machine Sys2Proof.Safety Sys2Proof.Laws

/-! ### Words of a local store (R76) -/

theorem nth_map_range (f : Nat → Nat) {n i : Nat} (h : i < n) : nth ((List.range n).map f) i = f i := by
  simp [nth, h]

theorem nth_words (x : Polder) (a : Nat) {n i : Nat} (h : i < n) : nth (x.words a n) i = x.word (a + 4 * i) := nth_map_range _ h

theorem lsPut_setPolder (s : State) (p core off : Nat) (x : Polder) (ws : List Nat) :
    (s.setPolder p x).lsPut p core off ws = s.setPolder p (x.save (lsAddr core off) (wordBytes ws)) := save_setPolder s p _ x _

theorem lsWords_setPolder (s : State) (p core off n : Nat) (x : Polder) : (s.setPolder p x).lsWords p core off n = x.words (lsAddr core off) n := by
  simp [State.lsWords]

/-! ### An operation of a sequence core (R70, R78) -/

section
variable {s : State} {p op occ : Nat} {c : Slot} {x : Polder} {i : Instr} {limits : List (Nat × Bool)} {runs : List (Nat × Nat)} {f : State → State}
  (hi : exec i s = .next (s.coreOp p op c occ limits runs f)) (h : SlotRuns s p 2 op c false x)
include hi h

/-- A core's operation within its limits and regions. -/
theorem runs_of_coreOp {P : State → Prop} (hlimits : ∀ g ∈ limits, g.2 = true) (hruns : (runs.all fun r => x.inLocal c.unit r.1 r.2) = true)
    (hP : P (slotAfter p 2 c occ (f (s.setPolder p x)))) : Runs i s P := by
  refine runs_of_slot hi h ?_
  rw [guards_of_all]
  · exact hP
  · simp only [polder_setPolder_same, List.mem_append, List.mem_map]
    rintro g (hg | ⟨r, hr, rfl⟩)
    · exact hlimits g hg
    · exact List.all_eq_true.mp hruns r hr

/-- A run of bytes outside every region of the core's local store is fault 01h (R78). -/
theorem coreOp_fault_of_run (hlimits : limits = []) (hruns : (runs.all fun r => x.inLocal c.unit r.1 r.2) = false) :
    Runs i s fun t => t = (s.setPolder p x).contractFault p 1 (slotLoc 2 c) := by
  refine runs_fault hi h (guards_of_not_all _ ?_ ?_)
  · simp only [hlimits, List.nil_append, List.mem_map]
    rintro g ⟨r, -, rfl⟩ -
    rfl
  · obtain ⟨r, hr, hout⟩ := List.all_eq_false.mp hruns
    exact ⟨_, List.mem_append_right _ (List.mem_map_of_mem hr), by simpa using hout⟩

/-- The first limit of a core's operation faults with its own code. -/
theorem coreOp_fault_of_limit {code : Nat} {rest : List (Nat × Bool)} (hlimits : limits = (code, false) :: rest) :
    Runs i s fun t => t = (s.setPolder p x).contractFault p code (slotLoc 2 c) :=
  runs_fault hi h (by rw [hlimits]; rfl)

end

/-! ### VOP (R70, R96) -/

/-- The results of a VOP over what its polder's local store holds. -/
def vopOut (x : Polder) (c : Slot) (ctr : Nat) (k : VopKind) (n a b d : Nat) : List Nat :=
  (List.range n).map fun i =>
    let vb := x.words (lsAddr c.unit b) (if k = .scale then 1 else n)
    let b' := if k = .scale then nth vb 0 else nth vb i
    let d' := nth (if k = .fma then x.words (lsAddr c.unit d) n else []) i
    if c.fin = 14 then vopI32 (ctr + i) k (nth (x.words (lsAddr c.unit a) n) i) b' d' else vopF32 k (nth (x.words (lsAddr c.unit a) n) i) b' d'

theorem nth_vopOut (x : Polder) (c : Slot) (ctr : Nat) (k : VopKind) {n i : Nat} (a b d : Nat) (hi : i < n) :
    nth (vopOut x c ctr k n a b d) i =
      let va := nth (x.words (lsAddr c.unit a) n) i
      let b' := nth (x.words (lsAddr c.unit b) n) (if k = .scale then 0 else i)
      let d' := if k = .fma then nth (x.words (lsAddr c.unit d) n) i else 0
      if c.fin = 14 then vopI32 (ctr + i) k va b' d' else vopF32 k va b' d' := by
  have hb : (if k = .scale then nth (x.words (lsAddr c.unit b) (if k = .scale then 1 else n)) 0
      else nth (x.words (lsAddr c.unit b) (if k = .scale then 1 else n)) i) = nth (x.words (lsAddr c.unit b) n) (if k = .scale then 0 else i) := by
    split
    · rw [nth_words _ _ (by omega), nth_words _ _ (by omega)]
    · rfl
  have hd : nth (if k = .fma then x.words (lsAddr c.unit d) n else []) i = if k = .fma then nth (x.words (lsAddr c.unit d) n) i else 0 := by
    split <;> rfl
  rw [vopOut, nth_map_range _ hi]
  simp only [hb, hd]

section
variable {s : State} {p : Pol} {c : Slot} {x : Polder}

theorem runs_vop {k : VopKind} {n a b d dst : Nat} (h : SlotRuns s p 2 0x20 c false x)
    (hruns : (([(a, 4 * n), (b, if k = .scale then 4 else 4 * n), (dst, 4 * n)] ++ if k = .fma then [(d, 4 * n)] else []).all
      fun r => x.inLocal c.unit r.1 r.2) = true) :
    Runs (.vop p c k n a b d dst) s fun t => t = slotAfter p 2 c (ceilDiv n 64 + 4)
      { s.setPolder p (x.save (lsAddr c.unit dst) (wordBytes (vopOut x c s.freeCtr k n a b d))) with freeCtr := s.freeCtr + if c.fin = 14 then n else 0 } := by
  refine runs_of_coreOp rfl h (by simp) (by simpa using hruns) ?_
  have hctr : (if c.fin = 14 then s.freeCtr + n else s.freeCtr) = s.freeCtr + if c.fin = 14 then n else 0 := by split <;> rfl
  simp only [lsWords_setPolder, lsPut_setPolder, setPolder_freeCtr, hctr, decide_eq_true_eq]
  rfl

/-! ### MERGE and SOFTMAX (R108, R129, R130, R134) -/

/-- The runs of a MERGE: its destination, and each partial with its check word where it has one. -/
def mergeRuns (d : Nat) (parts : List (Nat × Bool)) (dst : Nat) : List (Nat × Nat) :=
  (dst, 4 * (d + 2)) :: parts.map fun a => (a.1, if a.2 then 4 * (d + 2) + 8 else 4 * (d + 2))

/-- A partial whose CRC-64 does not agree with its bytes (R130, R132). -/
def BadPartial (x : Polder) (c : Slot) (d : Nat) (parts : List (Nat × Bool)) : Prop :=
  ∃ a ∈ parts, a.2 = true ∧ leNat (x.load (lsAddr c.unit (a.1 + 4 * (d + 2))) 8) ≠ crc64 (x.load (lsAddr c.unit a.1) (4 * (d + 2)))

theorem runs_merge {d dst : Nat} {parts : List (Nat × Bool)} (h : SlotRuns s p 2 0x24 c false x)
    (hruns : ((mergeRuns d parts dst).all fun r => x.inLocal c.unit r.1 r.2) = true) (hfits : parts.length * (4 * (d + 2)) ≤ 262144)
    (h2 : 2 ≤ parts.length) (h64 : parts.length ≤ 64) :
    Runs (.merge p c d parts dst) s fun t => ∃ v, (BadPartial x c d parts → v = (s.setPolder p x).partialFailed p c) ∧
      (¬ BadPartial x c d parts → v = s.setPolder p x) ∧ t = slotAfter p 2 c (parts.length * (ceilDiv d 64 + 6))
        (v.setPolder p ((v.polder p).save (lsAddr c.unit dst) (wordBytes (mergeAll d (parts.map fun a => x.words (lsAddr c.unit a.1) (d + 2)))))) := by
  have hbad : (parts.any fun a => a.2 && decide (leNat (x.load (lsAddr c.unit (a.1 + 4 * (d + 2))) 8) ≠ crc64 (x.load (lsAddr c.unit a.1) (4 * (d + 2))))) = true ↔
      BadPartial x c d parts := by
    simp only [List.any_eq_true, Bool.and_eq_true, decide_eq_true_eq, BadPartial]
  refine runs_of_coreOp rfl h (by simp [h2, h64, hfits]) hruns ?_
  rw [polder_setPolder_same]
  exact ⟨_, fun h => if_pos (hbad.mpr h), fun h => if_neg (mt hbad.mp h), rfl⟩

/-- The online softmax step of one head, from what its polder's local store holds; positions from `valid` on read as minus infinity (R108, R129). -/
def headStep (x : Polder) (c : Slot) (n heads scores st valid : Nat) (scale : W32) (first : Bool) (h : Nat) : Nat × Nat × Nat × List Nat :=
  softStep bf16Round (if first then negInf else nth (x.words (lsAddr c.unit st) (2 * heads)) (2 * h))
    (if first then 0 else nth (x.words (lsAddr c.unit st) (2 * heads)) (2 * h + 1))
    ((List.range (n / heads)).map fun t =>
      if t < valid then fmul (nth (x.words (lsAddr c.unit scores) n) (h * (n / heads) + t)) scale.toNat else negInf)

theorem runs_softmax {n heads scores st probs al page : Nat} {scale : W32} {first : Bool} (h : SlotRuns s p 2 0x22 c false x) (h1 : 1 ≤ heads) (h32 : heads ≤ 32)
    (hruns : ([(scores, 4 * n), (st, 8 * heads), (probs, 4 * n), (al, 4 * heads)].all fun r => x.inLocal c.unit r.1 r.2) = true) :
    Runs (.softmax p c n heads scores st probs al scale page first) s fun t =>
      let r := headStep x c n heads scores st ((s.setPolder p x).validAt p c page) scale first
      t = slotAfter p 2 c (ceilDiv n 32 + 8) (s.setPolder p
        (((x.save (lsAddr c.unit st) (wordBytes ((List.range heads).flatMap fun h => [(r h).1, (r h).2.1]))).save
          (lsAddr c.unit al) (wordBytes ((List.range heads).map fun h => (r h).2.2.1))).save
          (lsAddr c.unit probs) (wordBytes ((List.range heads).flatMap fun h => (r h).2.2.2)))) := by
  refine runs_of_coreOp rfl h (by simp [h1, h32]) hruns ?_
  simp only [lsWords_setPolder, lsPut_setPolder, List.flatMap_map, List.map_map]
  rfl

/-- The valid positions at a page of the lane's group, as the ring entry gives them (R129). -/
theorem validAt_setPolder {page valid : Nat}
    (hbound : ∀ a, x.laneAt s.time c.lane = some a → valid = if a.entry.lastHere = true ∧ page + 1 = a.entry.pageCount then a.entry.lastValid else 64)
    (hfree : x.laneAt s.time c.lane = none → valid = 64) : (s.setPolder p x).validAt p c page = valid := by
  simp only [State.validAt, polder_setPolder_same, setPolder_time]
  cases ha : x.laneAt s.time c.lane with
  | none => exact (hfree ha).symm
  | some a => exact (hbound a ha).symm

end

/-! ### The obligation of the vector operations -/

/-- Settles O7: each operation stores its results' words, in order, over what stood before. Readings of log entries 28 (OACC), 142 (VOP's
rounding), 143 (the first step of a sweep) and 144 (MERGE's partials). -/
theorem vectorOperationsWriteTheirResults : Obligations.VectorOperationsWriteTheirResults := by
  unfold Obligations.VectorOperationsWriteTheirResults
  intro s p c x at_ W within
  refine ⟨fun k n a b d dst h hruns => ?_, fun n src dst h hruns => ?_, fun n o d w al first h hd hruns => ?_, fun d parts dst h hruns hfits => ?_,
    fun n heads scores st probs al scale page first valid h h1 h32 hruns hbound hfree => ?_, fun n src dst h hruns => ?_, fun k n a b d dst h hruns => ?_⟩
  · obtain ⟨t, ht, rfl⟩ := runs_vop h hruns
    refine ⟨_, ht, _, _, stored_save x _ _, by simp [vopOut], fun i hi => ?_, rfl⟩
    rw [nth_vopOut x c s.freeCtr k a b d hi]
    refine ⟨fun hf => if_neg hf, fun hf hr => (if_pos hf).trans (if_pos hr), fun hf hr => (if_pos hf).trans (if_neg hr)⟩
  · exact runs_of_coreOp rfl h (by simp) hruns ⟨_, stored_save x _ _, by rw [lsWords_setPolder, lsPut_setPolder]; rfl⟩
  · refine runs_of_coreOp rfl h (by simpa using hd) hruns ⟨_, stored_save x _ _, ?_⟩
    simp only [lsWords_setPolder, lsPut_setPolder]
    rfl
  · refine ⟨fun h2 h64 => ?_, fun hcount => ?_⟩
    · obtain ⟨t, ht, v, hbad, hgood, rfl⟩ := runs_merge h hruns hfits h2 h64
      exact ⟨_, ht, _, v, hbad, hgood, stored_save _ _ _, rfl⟩
    · exact coreOp_fault_of_limit rfl h (congrArg (fun b => (7, b) :: _) (by simp; omega))
  · obtain ⟨t, ht, rfl⟩ := runs_softmax (page := page) (scale := scale) (first := first) h h1 h32 hruns
    rw [validAt_setPolder hbound hfree] at ht
    exact ⟨_, ht, _, _, _, stored_save _ _ _, stored_save _ _ _, stored_save _ _ _, rfl⟩
  · exact coreOp_fault_of_run rfl h rfl hruns
  · refine coreOp_fault_of_run rfl h rfl ?_
    obtain ⟨r, hr, hout⟩ := List.all_eq_false.mp hruns
    refine List.all_eq_false.mpr ⟨r, List.mem_append_left _ ?_, hout⟩
    simp only [List.mem_cons, List.not_mem_nil, or_false] at hr ⊢
    tauto

/-! ### Conversions, check words and mesh messages (R70, R105, R107, R132) -/

/-- Bytes sent over the mesh fill the outbound queue and stand in the target's reservoir (R74, R76). -/
theorem meshSend_setPolder (s : State) (p now d off : Nat) (x : Polder) (bs : List Nat) : (s.setPolder p x).meshSend p bs now d off =
    let u := s.setPolder p { x with outq := x.outq + now, meshIn := x.meshIn + (bs.length - now) }
    u.setPolder d ((u.polder d).save off bs) := by
  simp [State.meshSend, State.save]

section
variable {s : State} {p : Pol} {c : Slot} {x : Polder}

theorem runs_msend {bytes src off : Nat} {d : Pol} (h : SlotRuns s p 2 0x27 c true x) (hlen : bytes ≤ 65536) (hin : x.inLocal c.unit src bytes = true)
    (hoff : off + bytes ≤ reservoirBytes) (hroom : quietLane s p c.lane = true ∨ x.outq + bytes ≤ 262144) :
    Runs (.msend p c bytes src d off) s fun t => t = slotAfter p 2 c (ceilDiv bytes 256 + 4) (if quietLane s p c.lane then s.setPolder p x
      else (s.setPolder p x).meshSend p (x.load (lsAddr c.unit src) bytes) bytes d off) := by
  refine runs_of_slot rfl h ?_
  simp only [polder_setPolder_same]
  rw [guards_of_all _ (by rcases hroom with hroom | hroom <;> simp [hlen, hin, hoff, meshQueue, hroom])]
  rfl

end

/-- Settles O8: the stored bytes and the raised exceptions of a CVT, a CRC64's check word, and the three outcomes of an MSEND. -/
theorem conversionsChecksAndMeshMessages : Obligations.ConversionsChecksAndMeshMessages := by
  unfold Obligations.ConversionsChecksAndMeshMessages
  refine fun s p c x => ⟨fun o h hsrc hdst => ⟨fun hlen => ?_, fun hlen => ?_⟩, fun bytes src dst h hsrc hdst => ⟨fun hlen => ?_, fun hlen => ?_⟩,
    fun bytes src d off h => ⟨fun hlen => ?_, fun hlen hout => ?_, fun hlen hin hoff => ⟨fun hq => ?_, fun hq hfull => ?_, fun hq hroom => ?_⟩⟩⟩
  · refine runs_of_coreOp rfl h (by simp [hlen]) (by simp [hsrc, hdst]) ⟨_, stored_save x _ _, fun hexc => ?_, fun hexc => ?_⟩ <;>
      simp only [polder_setPolder_same, save_setPolder, State.exceptions]
    · rw [if_pos hexc]
      rfl
    · rw [if_neg hexc]
  · exact coreOp_fault_of_limit rfl h (congrArg (fun b => (7, b) :: _) (by simp; omega))
  · refine runs_of_coreOp rfl h (by simp [hlen]) (by simp [hsrc, hdst]) ⟨_, stored_save x _ _, ?_⟩
    simp only [polder_setPolder_same, save_setPolder]
    rfl
  · exact coreOp_fault_of_limit rfl h (congrArg (fun b => (7, b) :: _) (by simp; omega))
  · exact runs_fault rfl h (by simp [guards, hlen])
  · exact runs_fault rfl h (by rcases hout with hout | hout <;> simp [guards, hlen, hout])
  · obtain ⟨t, ht, rfl⟩ := runs_msend h hlen hin hoff (.inl hq)
    exact ⟨_, ht, by simp [hq, SlotDone]⟩
  · exact runs_fault rfl h (by simp [guards, hlen, hin, hoff, hq, meshQueue, hfull])
  · obtain ⟨t, ht, rfl⟩ := runs_msend (d := d) h hlen hin hoff (.inr hroom)
    refine ⟨_, ht, _, stored_save _ _ _, ?_⟩
    simp [hq, meshSend_setPolder]

end Sys2Proof.Proofs

/-! PROOFS. The culvert chains (O9) and the projection arrays (O10): deals over the units of a span, and rows stored one after another. -/

namespace Sys2Proof.Proofs
open Sys2Proof.Machine Sys2Proof.Safety Sys2Proof.Laws

/-! ### Runs of bytes stored one after another -/

/-- A polder's buffers once the first `k` of a sequence of runs are stored. -/
def savedRuns (x : Polder) (at_ : Nat → Nat) (bytes : Nat → List Nat) (k : Nat) : Polder :=
  (List.range k).foldl (fun y i => y.save (at_ i) (bytes i)) x

theorem stored_savedRuns (x : Polder) (at_ : Nat → Nat) (bytes : Nat → List Nat) (k : Nat) :
    Stored (savedRuns x at_ bytes k) (savedRuns x at_ bytes (k + 1)) (at_ k) (bytes k) := by
  rw [savedRuns, savedRuns, List.range_succ, List.foldl_concat]
  exact stored_save _ _ _

theorem foldl_save_setPolder (l : List Nat) (s : State) (p : Nat) (x : Polder) (at_ : Nat → Nat) (bytes : Nat → List Nat) :
    l.foldl (fun u i => u.save p (at_ i) (bytes i)) (s.setPolder p x) = s.setPolder p (l.foldl (fun y i => y.save (at_ i) (bytes i)) x) := by
  induction l generalizing x with
  | nil => rfl
  | cons i l ih => rw [List.foldl_cons, save_setPolder, ih, List.foldl_cons]

/-! ### The deal of a scatter or gather (R69, R128) -/

section
variable {o : CulvertOp} {j j' : Nat}

theorem runOf_pos (hspan : 1 ≤ o.span) (hj : j < o.bytes) : 1 ≤ runOf o := by
  unfold runOf
  split
  · exact Nat.div_pos (by omega) hspan
  · omega

/-- Each byte of a deal lies within its unit's share. -/
theorem dealAt_lt_dealMax (hspan : 1 ≤ o.span) (hj : j < o.bytes) : (dealAt o j).2 < dealMax o := by
  have hrun := runOf_pos hspan hj
  have hround : 0 < runOf o * o.span := Nat.mul_pos hrun hspan
  have hlt : j / (runOf o * o.span) + 1 ≤ ceilDiv o.bytes (o.span * runOf o) := by
    rw [← Nat.add_div_right j hround, ceilDiv, Nat.mul_comm o.span]
    exact Nat.div_le_div_right (by omega)
  calc (dealAt o j).2 < (j / (runOf o * o.span) + 1) * runOf o := by
        rw [Nat.add_one_mul]
        exact Nat.add_lt_add_left (Nat.mod_lt j hrun) _
    _ ≤ dealMax o := Nat.mul_le_mul_right _ hlt

/-- A deal gives each byte a place of its own. -/
theorem dealAt_inj (hspan : 1 ≤ o.span) (hj : j < o.bytes) (h : dealAt o j = dealAt o j') : j = j' := by
  have hrun := runOf_pos hspan hj
  obtain ⟨hunit, hoff⟩ := Prod.mk.inj h
  have hround : j / (runOf o * o.span) = j' / (runOf o * o.span) := by
    have := congrArg (· / runOf o) hoff
    simpa [Nat.add_div_of_dvd_right, Nat.mul_div_cancel _ hrun, Nat.div_eq_of_lt (Nat.mod_lt _ hrun)] using this
  have hrest : j % runOf o = j' % runOf o := by rw [hround] at hoff; omega
  have hturn : j / runOf o = j' / runOf o := by
    rw [← Nat.div_add_mod (j / runOf o) o.span, ← Nat.div_add_mod (j' / runOf o) o.span, Nat.div_div_eq_div_mul, Nat.div_div_eq_div_mul, hround, hunit]
  rw [← Nat.div_add_mod j (runOf o), ← Nat.div_add_mod j' (runOf o), hturn, hrest]

end

/-- Two bytes of bank units' buffers of one kind are one only if they are one byte of one unit. -/
theorem bankBuf_add_inj {u u' base off off' : Nat} (hoff : off < 4096) (hoff' : off' < 4096)
    (h : bankBuf u base + off = bankBuf u' base + off') : u = u' ∧ off = off' := by
  unfold bankBuf at h
  omega

/-- Keeping entries by their key keeps what a kept key reads. -/
theorem find_keep_key {α : Type} (m : Map α) (f : Nat → Bool) (k : Nat) : Map.find (Map.keep m fun j _ => f j) k = if f k then Map.find m k else none := by
  induction m with
  | nil => simp [Map.keep, Map.find]
  | cons e m ih =>
    obtain ⟨j, v⟩ := e
    simp only [Map.keep, List.filter_cons] at ih ⊢
    by_cases hj : j = k
    · subst hj
      cases hf : f j <;> simp [hf, Map.find, ih]
    · cases hf : f j <;> simp [Map.find, hj, ih]

/-! ### An operation of a culvert chain (R69) -/

section
variable {s : State} {p op : Nat} {c : Slot} {o : CulvertOp} {x : Polder} {i : Instr} {unitBytes unitRoom : Nat} {f : State → State}
  (hi : exec i s = .next (s.culvertOp p op c o o.bytes unitBytes unitRoom f)) (h : SlotRuns s p 1 op c false x)
include hi h

/-- A culvert operation whose span, tap and shares fit. -/
theorem runs_of_culvertOp {P : State → Prop}
    (hfit : o.bytes ≤ 131072 ∧ 1 ≤ o.span ∧ o.first + o.span ≤ 32 ∧ o.core < 150 ∧ x.inLocal o.core o.at_ o.bytes = true)
    (hshare : unitBytes ≤ unitRoom) (hP : P (slotAfter p 1 c (culvertSteps o) (f (s.setPolder p x)))) : Runs i s P := by
  obtain ⟨hlen, hspan, hchain, hcore, hin⟩ := hfit
  refine runs_of_slot hi h ?_
  rw [guards_of_all _ (by simp [hlen, hspan, hchain, hcore, hin, hshare, linkBuffer])]
  exact hP

/-- Too many bytes are fault 07h; what does not fit the chain, the tap or a unit's buffer is 01h. -/
theorem culvertOp_faults :
    (131072 < o.bytes → Runs i s fun t => t = (s.setPolder p x).contractFault p 7 (slotLoc 1 c)) ∧
    (o.bytes ≤ 131072 → (o.span = 0 ∨ 32 < o.first + o.span ∨ 150 ≤ o.core ∨ x.inLocal o.core o.at_ o.bytes = false ∨ unitRoom < unitBytes) →
      Runs i s fun t => t = (s.setPolder p x).contractFault p 1 (slotLoc 1 c)) := by
  refine ⟨fun hlen => runs_fault hi h ?_, fun hlen hbad => runs_fault hi h (guards_of_not_all _ (by simp [hlen, linkBuffer]) ?_)⟩
  · simp [guards, hlen]
  · simp only [polder_setPolder_same, List.mem_cons, List.not_mem_nil, or_false, exists_eq_or_imp, exists_eq_left, Bool.and_eq_false_iff, decide_eq_false_iff_not]
    rcases hbad with hbad | hbad | hbad | hbad | hbad
    · exact .inr (.inl (.inl (by omega)))
    · exact .inr (.inl (.inr (by omega)))
    · exact .inr (.inr (.inl (by omega)))
    · exact .inr (.inr (.inr (.inl hbad)))
    · exact .inr (.inr (.inr (.inr (.inl (by omega)))))

end

/-! ### CSCATTER -/

/-- Where a scatter puts byte `j` of its bytes: in the write staging or the query staging of its unit. -/
def scatterAt (c : Slot) (o : CulvertOp) (j : Nat) : Nat :=
  (if o.toWrite then writeBuf (chainUnit c o (dealAt o j).1) else queryBuf (chainUnit c o (dealAt o j).1) o.half) + (dealAt o j).2

theorem scatterAt_inj {c : Slot} {o : CulvertOp} {j j' : Nat} (hspan : 1 ≤ o.span) (hshare : dealMax o ≤ if o.toWrite then 2048 else 4096)
    (hj : j < o.bytes) (hj' : j' < o.bytes) (h : scatterAt c o j = scatterAt c o j') : j = j' := by
  have hoff := dealAt_lt_dealMax hspan hj
  have hoff' := dealAt_lt_dealMax hspan hj'
  have hroom : dealMax o ≤ 4096 := hshare.trans (by split <;> omega)
  have hplace : chainUnit c o (dealAt o j).1 = chainUnit c o (dealAt o j').1 ∧ (dealAt o j).2 = (dealAt o j').2 := by
    unfold scatterAt writeBuf queryBuf at h
    split at h <;> exact bankBuf_add_inj (by omega) (by omega) h
  obtain ⟨hunit, hoff⟩ := hplace
  exact dealAt_inj hspan hj (Prod.ext (by unfold chainUnit at hunit; omega) hoff)

/-- A polder's buffers and staged words once a scatter's bytes are dealt. -/
def scattered (x : Polder) (c : Slot) (o : CulvertOp) (bs : List Nat) : Polder :=
  { x with buf := bs.zipIdx.foldl (fun m b => Map.putD m (scatterAt c o b.2) (b.1 % 256) 0) x.buf
           carried := Map.keep x.carried fun k _ => !(o.toWrite && (List.range o.span).any fun i => decide (k / 32 = chainUnit c o i)) }

section
variable (x : Polder) {c : Slot} {o : CulvertOp} {bs : List Nat}

theorem scattered_dealt (hspan : 1 ≤ o.span) (hshare : dealMax o ≤ if o.toWrite then 2048 else 4096) (hlen : bs.length = o.bytes) {j : Nat} (hj : j < o.bytes) :
    Map.getD (scattered x c o bs).buf (scatterAt c o j) 0 = nth bs j % 256 := by
  have hbyte : bs[j]? = some (nth bs j) := by simp [nth, hlen, hj]
  refine getD_foldl_putD bs.zipIdx (fun b => scatterAt c o b.2) (fun b => b.1 % 256) x.buf ?_ (.inr ⟨(nth bs j, j), List.mem_zipIdx_iff_getElem?.mpr hbyte, rfl⟩)
  rintro ⟨b, j'⟩ hb hplace
  have hb' : bs[j']? = some b := List.mem_zipIdx_iff_getElem?.mp hb
  have hj' : j' < o.bytes := hlen ▸ (List.getElem?_eq_some_iff.mp hb').1
  obtain rfl := scatterAt_inj hspan hshare hj' hj hplace
  simp [nth, hb']

theorem scattered_frame (hlen : bs.length = o.bytes) {b : Nat} (hb : ∀ j, j < o.bytes → b ≠ scatterAt c o j) :
    Map.getD (scattered x c o bs).buf b 0 = Map.getD x.buf b 0 := by
  refine getD_foldl_putD bs.zipIdx (fun b => scatterAt c o b.2) (fun b => b.1 % 256) x.buf ?_ (.inl rfl)
  rintro ⟨v, j⟩ hv hplace
  have hj : j < o.bytes := hlen ▸ (List.getElem?_eq_some_iff.mp (List.mem_zipIdx_iff_getElem?.mp hv)).1
  exact absurd hplace.symm (hb j hj)

/-- A sector that a scatter stages for a WRITE bears no check word (log entry 140). -/
theorem scattered_carried (k : Nat) : Map.find (scattered x c o bs).carried k =
    if o.toWrite = true ∧ chainUnit c o 0 ≤ k / 32 ∧ k / 32 < chainUnit c o o.span then none else Map.find x.carried k := by
  have hmine : ((List.range o.span).any fun i => decide (k / 32 = chainUnit c o i)) = true ↔ chainUnit c o 0 ≤ k / 32 ∧ k / 32 < chainUnit c o o.span := by
    simp only [List.any_eq_true, List.mem_range, decide_eq_true_eq]
    unfold chainUnit
    exact ⟨fun ⟨i, hi, hk⟩ => by omega, fun ⟨hlo, hhi⟩ => ⟨k / 32 - (c.unit * 32 + o.first), by omega, by omega⟩⟩
  have hkeep : (!(o.toWrite && (List.range o.span).any fun i => decide (k / 32 = chainUnit c o i))) = true ↔
      ¬ (o.toWrite = true ∧ chainUnit c o 0 ≤ k / 32 ∧ k / 32 < chainUnit c o o.span) := by
    rw [← hmine, ← Bool.and_eq_true, Bool.not_eq_true', Bool.not_eq_true]
  rw [scattered, find_keep_key]
  by_cases hin : o.toWrite = true ∧ chainUnit c o 0 ≤ k / 32 ∧ k / 32 < chainUnit c o o.span
  · rw [if_neg (mt hkeep.mp (not_not.mpr hin)), if_pos hin]
  · rw [if_pos (hkeep.mpr hin), if_neg hin]

end

/-! ### The obligation of the culvert operations -/

/-- The units of a span from the one farthest from the tap toward it. -/
theorem map_reverse_range (g : Nat → Nat) {n : Nat} (hn : 1 ≤ n) :
    (List.range n).reverse.map g = g (n - 1) :: (List.range (n - 1)).map fun j => g (n - 2 - j) := by
  refine List.ext_getElem (by simp; omega) fun i h _ => ?_
  cases i with
  | zero => simp
  | succ i => simp [show n - 1 - (i + 1) = n - 2 - i by omega]

/-- Settles O9: a scatter and a gather by the places of the deal, a broadcast unit by unit, a reduction from the far end. The tap at place 0 and
the runs of `chan` bytes are log entry 25, write staging log entry 140. -/
theorem culvertsDealBroadcastAddAndGather : Obligations.CulvertsDealBroadcastAddAndGather := by
  unfold Obligations.CulvertsDealBroadcastAddAndGather
  intro s p c o x tap unit fit run share place off bs steps
  refine ⟨fun h hfit hshare => ?_, fun h hfit hroom => ?_, fun h hfit hroom => ?_, fun h hfit hshare => ?_, fun i op n hi h => ?_⟩
  · have hspan := hfit.2.1
    have hlen : bs.length = o.bytes := length_load x tap o.bytes
    refine runs_of_culvertOp rfl h hfit hshare ⟨scattered x c o bs, fun j hj => scattered_dealt x hspan hshare hlen hj, fun b hb => scattered_frame x hlen hb,
      fun hto k => ?_, fun hto k => ?_, rfl, ?_⟩
    · rw [scattered_carried, if_neg (by simp [hto])]
    · simp only [scattered_carried, hto, true_and]
      rfl
    · simp only [polder_setPolder_same, setPolder_setPolder]
      rfl
  · refine runs_of_culvertOp rfl h hfit hroom ⟨savedRuns x (fun k => probBuf (unit k) o.half) fun _ => bs, rfl,
      fun k _ => stored_savedRuns x (fun k => probBuf (unit k) o.half) (fun _ => bs) k, ?_⟩
    simp only [polder_setPolder_same]
    rw [foldl_save_setPolder]
    rfl
  · refine runs_of_culvertOp rfl h hfit hroom ⟨_, stored_save x tap _, ?_⟩
    simp only [polder_setPolder_same, save_setPolder, map_reverse_range _ hfit.2.1, List.foldl_map]
    rfl
  · refine runs_of_culvertOp rfl h hfit hshare ⟨_, stored_save x tap _, ?_⟩
    simp only [polder_setPolder_same, save_setPolder]
    rfl
  · have hfull (a b : Nat) (hn : n = if a ≤ b then 0 else 1) : n = 1 ↔ b < a := by split at hn <;> omega
    rcases hi with ⟨rfl, rfl, hn⟩ | ⟨rfl, rfl, hn⟩ | ⟨rfl, rfl, hn⟩ | ⟨rfl, rfl, hn⟩ <;> rw [hfull _ _ hn] <;> exact culvertOp_faults rfl h

/-! ### The projection arrays (R71, R98, R146) -/

/-- The sums that an MM leaves in row `i` of its rows: the tree of products of the row's inputs and each column of the active tile. -/
def mmRow (x : Polder) (c : Slot) (src acc ins cols : Nat) (add : Bool) (i : Nat) : List Nat :=
  let fa := c.fin.val
  let fw := x.activeFmt c.unit
  (List.range cols).map fun j =>
    let v := productTree ((List.range ins).map fun k =>
      ((decodeVec fa ins 8 (x.load (src + i * fmtBytes fa ins) (fmtBytes fa ins))).getD k .nan).mul
        ((decodeVec fw cols 8 (x.load (tileBuf c.unit (x.activeTile c.unit) + k * fmtBytes fw cols) (fmtBytes fw cols))).getD j .nan))
    if add then fadd (x.word (accBuf c.unit + (acc + i) * 1024 + 4 * j)) v else v

section
variable {s : State} {p : Pol} {c : Slot} {x : Polder}

theorem runs_mm {r src acc ins cols : Nat} {add : Bool} (h : SlotRuns s p 3 0x31 c false x) (hr : r ≤ 1024) (hacc : acc + r ≤ 1024) (hins : ins ≤ 256)
    (hcols : cols ≤ 256) (howns : x.owns (unitKey 3 c.unit) src (r * fmtBytes c.fin ins) = true) :
    Runs (.mm p c r src acc ins cols add) s fun t => SlotDone s p 3 c (mmSteps r c.fin (x.activeFmt c.unit))
      (savedRuns x (fun i => accBuf c.unit + (acc + i) * 1024) (fun i => wordBytes (mmRow x c src acc ins cols add i)) r) t := by
  have hword (i j : Nat) : accWord c.unit (acc + i) j = accBuf c.unit + (acc + i) * 1024 + 4 * j := by unfold accWord; omega
  have htile {β : Type} (g : Nat → β) (d : β) {k : Nat} (hk : k ∈ List.range ins) : ((List.range ins).map g).getD k d = g k := by
    simp [List.mem_range.mp hk]
  refine runs_of_slot rfl h ?_
  simp only [polder_setPolder_same, hword]
  rw [guards_of_all _ (by simp [hr, hacc, hins, hcols, howns]), slotEnd_ok, ← h.activeFmt_eq]
  refine congrArg (slotAfter p 3 c _) ?_
  rw [savedRuns, ← foldl_save_setPolder]
  congr 1
  funext u i
  refine congrArg (fun ws => u.save p _ (wordBytes ws)) (List.map_congr_left fun j _ => ?_)
  refine congrArg (fun v => if add then fadd _ v else v) (congrArg productTree (List.map_congr_left fun k hk => ?_))
  rw [htile _ _ hk]

end

/-- Settles O10: a SWAP, a WLOAD, and an MM row by row. The tile's layout, a tile that keeps its format and the add operand are log entry 26. -/
theorem arraysLoadMultiplyAndSwap : Obligations.ArraysLoadMultiplyAndSwap := by
  unfold Obligations.ArraysLoadMultiplyAndSwap
  intro s p c x act idle fw fa
  refine ⟨fun h => runs_of_slot rfl h ?_, fun bytes src h hlen howns => runs_of_slot rfl h ?_, fun bytes src h hlen => ?_, fun bytes src h hlen howns => ?_,
    fun r src acc ins cols add h hr hacc hins hcols howns => ?_, fun r src acc ins cols add h hr => ?_⟩
  · simp only [polder_setPolder_same, setPolder_setPolder]
    rfl
  · simp only [polder_setPolder_same]
    rw [guards_of_all _ (by simp [hlen, howns]), slotEnd_ok, setPolder_setPolder, save_setPolder, h.share_eq]
    exact ⟨_, stored_save _ _ _, rfl⟩
  · exact runs_fault rfl h (by simp [guards, hlen])
  · exact runs_fault rfl h (by simp [guards, hlen, howns])
  · obtain ⟨t, ht, hdone⟩ := runs_mm (add := add) h hr hacc hins hcols howns
    exact ⟨t, ht, savedRuns x _ _, rfl, fun i _ => stored_savedRuns x _ _ i, hdone⟩
  · exact runs_fault rfl h (by simp [guards, hr])

end Sys2Proof.Proofs

/-! PROOFS. The exponent expander (O12) and the DMA engine (O13): fills of the expander's queue, blocks decoded one after another, and bytes
moved between HBM, reservoirs and local stores. -/

namespace Sys2Proof.Proofs
open Sys2Proof.Machine Sys2Proof.Safety Sys2Proof.Laws

/-! ### The expander's queue (R72, R76) -/

/-- A fill takes every block that its bytes hold. -/
theorem fillOf_eq_self {n : Nat} {blocks : List (List Nat)} (h : queueBytes blocks ≤ n) : fillOf n blocks = blocks := by
  induction blocks generalizing n with
  | nil => rfl
  | cons b l ih =>
    simp only [queueBytes, List.map_cons, List.sum_cons] at h
    rw [fillOf, if_pos (by omega), ih (by simp only [queueBytes]; omega)]

/-- A fill puts its blocks at the queue's end, and the high-water mark follows (2A00h.07). -/
theorem fillQueue_setPolder (s : State) (p : Nat) (x : Polder) (blocks : List (List Nat)) : (s.setPolder p x).fillQueue p blocks =
    (s.setPolder p { x with xq := x.xq ++ blocks }).setObj 0x2A0007 (max (s.obj 0x2A0007) (queueBytes (x.xq ++ blocks))) := by
  simp [State.fillQueue]

theorem fillQueue_polder (s : State) (p : Nat) (blocks : List (List Nat)) :
    (s.fillQueue p blocks).polder p = { s.polder p with xq := (s.polder p).xq ++ blocks } := polder_setPolder_same s p _

theorem fillQueue_mark (s : State) (p : Nat) (blocks : List (List Nat)) :
    (s.fillQueue p blocks).obj 0x2A0007 = max (s.obj 0x2A0007) (queueBytes ((s.polder p).xq ++ blocks)) := obj_setObj_same _ _ _

/-- The ladder beside a request's read counts in the CRC failures of a stack only (2C00h.01). -/
theorem besideLadder_obj (s : State) (f : Nat) (q : Option Nat) {k : Nat} (hk : k % 256 ≠ 1) : (s.besideLadder f q false).obj k = s.obj k := by
  rcases besideLadder_cases s f q false with h | ⟨x, i, h⟩
  · rw [h]
  · have hne : k ≠ recKey 0x2C00 (framePolder f) 1 := by unfold recKey; omega
    rw [h]
    unfold State.onLadder
    simp only [State.obj, logEvent_regs, arrive_regs]
    exact obj_bump_ne _ hne

section
variable {s : State} {p : Pol} {c : Slot} {x : Polder}

theorem runs_xreq {bytes : Nat} {blocks : List (List Nat)} {d : Option Drive} (h : SlotRuns s p 4 0x42 c false x) (hlen : bytes ≤ 2097152)
    (hroom : queueBytes x.xq + bytes ≤ 2097152) (hblocks : queueBytes blocks = bytes) :
    Runs (.xreq p c bytes blocks d) s fun t => t = slotAfter p 4 c 4
      (((s.work (d.elim 12 fun d => 13 + d.val / 2) 2 bytes).setPolder p x).fillQueue p blocks) := by
  refine runs_of_slot rfl h ?_
  simp only [polder_setPolder_same]
  rw [guards_of_all _ (by simp only [expanderQueue]; simp [hlen, hroom]), fillOf_eq_self hblocks.le]
  cases d <;> rfl

end

/-! ### Blocks decoded one after another (R251 to R253) -/

/-- The bytes that a block decodes to, as its header says. -/
def blockSize (b : List Nat) : Nat := leNat ((b.drop 4).take 2)

/-- One block of an XBLK: what it decodes to is stored at the offset reached, a malformed one is marked, and the offset moves on either way. -/
def blockStep (p lane : Nat) (tables : Map Nat) (acc : State × Nat) (b : List Nat) : State × Nat :=
  match decodeBlock tables b with
  | some out => (acc.1.save p acc.2 out, acc.2 + blockSize b)
  | none => (acc.1.malformedBlock p lane, acc.2 + blockSize b)

theorem blockStep_of_decoded (p lane : Nat) {tables : Map Nat} (acc : State × Nat) {b out : List Nat} (h : decodeBlock tables b = some out) :
    blockStep p lane tables acc b = (acc.1.save p acc.2 out, acc.2 + blockSize b) := by
  unfold blockStep
  generalize decodeBlock tables b = r at h ⊢
  rw [h]

theorem blockStep_of_malformed (p lane : Nat) {tables : Map Nat} (acc : State × Nat) {b : List Nat} (h : decodeBlock tables b = none) :
    blockStep p lane tables acc b = (acc.1.malformedBlock p lane, acc.2 + blockSize b) := by
  unfold blockStep
  generalize decodeBlock tables b = r at h ⊢
  rw [h]

theorem blockStep_snd (p lane : Nat) (tables : Map Nat) (acc : State × Nat) (b : List Nat) : (blockStep p lane tables acc b).2 = acc.2 + blockSize b := by
  unfold blockStep
  split <;> rfl

section
variable (p lane : Nat) (tables : Map Nat) (bl : List (List Nat)) (s : State) (a : Nat)

/-- The state once the first `k` blocks are through. -/
def blocksDone (k : Nat) : State := ((bl.take k).foldl (blockStep p lane tables) (s, a)).1

theorem blockStep_offset : (bl.foldl (blockStep p lane tables) (s, a)).2 = a + (bl.map blockSize).sum := by
  induction bl generalizing s a with
  | nil => rfl
  | cons b l ih => rw [List.foldl_cons, ← Prod.mk.eta (p := blockStep p lane tables (s, a) b), ih, blockStep_snd, List.map_cons, List.sum_cons, Nat.add_assoc]

variable {bl} {k : Nat} {b : List Nat} (hb : bl[k]? = some b)
include hb

theorem blocksDone_succ : blocksDone p lane tables bl s a (k + 1) =
    (blockStep p lane tables (blocksDone p lane tables bl s a k, a + ((bl.map blockSize).take k).sum) b).1 := by
  rw [blocksDone, List.take_add_one, hb, Option.toList_some, List.foldl_concat, ← List.map_take, ← blockStep_offset p lane tables _ s a]
  rfl

theorem blocksDone_of_decoded {out : List Nat} (hout : decodeBlock tables b = some out) : blocksDone p lane tables bl s a (k + 1) =
    (blocksDone p lane tables bl s a k).save p (a + ((bl.map blockSize).take k).sum) out := by
  rw [blocksDone_succ p lane tables s a hb, blockStep_of_decoded p lane _ hout]

theorem blocksDone_of_malformed (hbad : decodeBlock tables b = none) : blocksDone p lane tables bl s a (k + 1) =
    (blocksDone p lane tables bl s a k).malformedBlock p lane := by
  rw [blocksDone_succ p lane tables s a hb, blockStep_of_malformed p lane _ hbad]

end

section
variable {s : State} {p : Pol} {c : Slot} {x : Polder}

/-- The polder of an XBLK once its blocks are off the queue: a tile register has taken the first block's format (R98). -/
def xblkPolder (x : Polder) (m dst : Nat) : Polder :=
  { x with xq := x.xq.drop m
           tileFmt := if dst < 2 ^ 31 then x.tileFmt else
             Map.put x.tileFmt ((dst - 2 ^ 31) % 2 * 2 + (1 - Map.getD x.active ((dst - 2 ^ 31) % 2) 0 % 2) % 2) (nth ((x.xq.take m).headD []) 2 % 16) }

theorem runs_xblk {m dst a : Nat} (h : SlotRuns s p 4 0x40 c false x) (hm : m ≤ 102) (ha : x.xblkTarget dst ((x.xq.take m).map blockSize).sum = some a) :
    Runs (.xblk p c m dst) s fun t => t = slotAfter p 4 c ((((s.polder p).xq.take m).map blockSteps).sum)
      (blocksDone p c.lane x.xtab (x.xq.take m) (s.setPolder p (xblkPolder x m dst)) a (x.xq.take m).length) := by
  refine runs_of_slot rfl h ?_
  have ha' : x.xblkTarget dst ((x.xq.take m).map fun b => leNat ((b.drop 4).take 2)).sum = some a := ha
  simp only [polder_setPolder_same, setPolder_setPolder, ha']
  rw [guards_of_all _ (by simp [hm]), blocksDone, List.take_length]
  rfl

theorem runs_dfill {bytes row unit off : Nat} {upset : Bool} (h : SlotRuns s p 5 0x53 c false x) (hlen : bytes ≤ 4177920)
    (hin : inStack p (bankAddr p unit row off) bytes = true) (hroom : queueBytes x.xq + bytes ≤ 2097152)
    (hl : s.lostFrame (frameOf (bankAddr p unit row off)) = false) (hok : s.readOk (bankAddr p unit row off) bytes upset = true) :
    Runs (.dfill p c bytes row unit off upset) s fun t => ∃ q, t = slotAfter p 5 c (ceilDiv bytes 1024 + 16)
      (((s.setPolder p x).besideLadder (frameOf (bankAddr p unit row off)) q false).fillQueue p
        (splitBlocks (bytes + 1) (Memory.bytes s.mem (bankAddr p unit row off) bytes))) := by
  have hin' : inStack p (dmaAddr p row unit off) bytes = true := hin
  have hroom' : queueBytes x.xq + bytes ≤ expanderQueue := hroom
  refine runs_of_slot rfl h ⟨(s.setPolder p x).laneSeq p c.lane, ?_⟩
  simp only [polder_setPolder_same]
  rw [guards_of_all _ (by simp [hlen, hin', hroom'])]
  simp only [dmaAddr, unitRead_of_ok (s := s.setPolder p x) (a := bankAddr p unit row off) hl hok, slotEnd_ok, if_true, setPolder_mem]

end

/-- Settles O12: the queue's fills, a table, and an XBLK block by block. Blocks that come whole and the target of an XBLK of fewer blocks are log
entry 31. -/
theorem theExpanderDecodesItsQueue : Obligations.TheExpanderDecodesItsQueue := by
  unfold Obligations.TheExpanderDecodesItsQueue
  refine fun s p c x => ⟨⟨fun bytes blocks d h hlen hroom hblocks => ?_, fun bytes blocks d h hlen hfull => ?_, fun bytes blocks d h hlen => ?_,
    fun src slot h howns => ?_, fun src slot h howns => ?_, fun m dst h hm => ?_, fun m dst h hm => ?_⟩, fun bytes row unit off upset h hlen hin => ?_⟩
  · obtain ⟨t, ht, rfl⟩ := runs_xreq (d := d) h hlen hroom hblocks
    refine ⟨_, ht, _, fillQueue_setPolder .. ▸ polder_setPolder_same _ _ _, fillQueue_setPolder .. ▸ obj_setObj_same _ _ _, ?_, rfl⟩
    rw [fillQueue_polder, polder_setPolder_same, fillQueue_setPolder]
    cases d <;> rfl
  · have hlen' : bytes ≤ expanderQueue := hlen
    have hfull' : expanderQueue < queueBytes x.xq + bytes := hfull
    exact runs_fault rfl h (by simp [guards, hlen', hfull'])
  · have hlen' : expanderQueue < bytes := hlen
    exact runs_fault rfl h (by simp [guards, hlen'])
  · refine runs_of_slot rfl h ?_
    simp only [polder_setPolder_same, setPolder_setPolder]
    rw [guards_of_all _ (by simp [howns])]
    rfl
  · exact runs_fault rfl h (by simp [guards, howns])
  · refine ⟨fun a ha => ?_, fun hnone => ?_⟩
    · obtain ⟨t, ht, rfl⟩ := runs_xblk h hm ha
      refine ⟨_, ht, blocksDone p c.lane x.xtab (x.xq.take m) (s.setPolder p (xblkPolder x m dst)) a, rfl, fun k b hb => ⟨fun out hout => ?_, fun hbad => ?_⟩, rfl⟩
      · exact ⟨_, stored_save _ _ _, blocksDone_of_decoded p c.lane x.xtab _ a hb hout⟩
      · exact blocksDone_of_malformed p c.lane x.xtab _ a hb hbad
    · exact runs_fault rfl h (by simp only [polder_setPolder_same, hnone, hm, if_true])
  · refine runs_fault rfl h ?_
    simp only [polder_setPolder_same, show ¬ m ≤ 102 by omega, if_false]
    split
    · rfl
    · simp [guards]
  · refine ⟨fun hfull => ?_, fun hroom hl hok => ?_⟩
    · have hin' : inStack p (dmaAddr p row unit off) bytes = true := hin
      have hfull' : expanderQueue < queueBytes x.xq + bytes := hfull
      exact runs_fault rfl h (by simp [guards, hlen, hin', hfull'])
    · obtain ⟨t, ht, q, rfl⟩ := runs_dfill h hlen hin hroom hl hok
      refine ⟨_, ht, _, ?_, ?_, ?_, rfl⟩
      · rw [fillQueue_polder, besideLadder_polder, polder_setPolder_same]
      · exact besideLadder_mem (s.setPolder p x) _ _ _
      · rw [fillQueue_mark, fillQueue_polder, besideLadder_obj _ _ _ (by decide), setPolder_obj]

/-! ### The DMA engine (R73, R171) -/

/-- Blocks of one length each, one after another: a place is a block and a place in it. -/
theorem nth_flatMap_range (f : Nat → List Nat) {m n i j : Nat} (hf : ∀ i, (f i).length = m) (hi : i < n) (hj : j < m) :
    nth ((List.range n).flatMap f) (i * m + j) = nth (f i) j := by
  have hlen (k : Nat) : ((List.range k).flatMap f).length = k * m := by simp [List.length_flatMap, hf]
  induction n with
  | zero => omega
  | succ n ih =>
    rw [List.range_succ, List.flatMap_append, List.flatMap_singleton]
    rcases Nat.lt_succ_iff_lt_or_eq.mp hi with hlt | rfl
    · have := Nat.mul_le_mul_right m (Nat.succ_le_of_lt hlt)
      rw [Nat.succ_mul] at this
      rw [← ih hlt, nth, nth, List.getD_append _ _ _ _ (by rw [hlen]; omega)]
    · rw [nth, List.getD_append_right _ _ _ _ (by rw [hlen]; omega), hlen, Nat.add_sub_cancel_left, nth]

theorem length_transposed (ch : Nat) (bs : List Nat) : (transposed ch bs).length = ch * 64 := by simp [transposed, List.length_flatMap]

theorem nth_transposed (bs : List Nat) {turn ch tok : Nat} (hch : ch < turn) (htok : tok < 64) :
    nth (transposed turn bs) (ch * 64 + tok) = nth bs (tok * turn + ch) := by
  rw [transposed, nth_flatMap_range _ (by simp) hch htok, nth_map_range _ htok]

/-- A list no longer than a run is one run. -/
theorem chunks_of_length_le {bs : List Nat} {n : Nat} (k : Nat) (h0 : bs ≠ []) (hle : bs.length ≤ n) : chunks n (k + 1) bs = [bs] := by
  have hnil : chunks n k ([] : List Nat) = [] := by cases k <;> rfl
  rw [chunks, if_neg (by simpa using h0), List.take_of_length_le hle, List.drop_of_length_le hle, hnil]

/-- What a DLS stores: the bytes read, or their blocks of 64 tokens turned (R171). -/
def dlsBytes (turn bytes : Nat) (bs : List Nat) : List Nat :=
  if turn = 0 then bs else (chunks (64 * turn) (bytes + 1) bs).flatMap (transposed turn)

theorem dlsBytes_of_block {turn bytes : Nat} {bs : List Nat} (h0 : turn ≠ 0) (hb : bytes = 64 * turn) (hl : bs.length = bytes) :
    dlsBytes turn bytes bs = transposed turn bs := by
  have hne : bs ≠ [] := List.ne_nil_of_length_pos (by omega)
  rw [dlsBytes, if_neg h0, chunks_of_length_le _ hne (by omega), List.flatMap_singleton]

section
variable {s : State} {p : Pol} {c : Slot} {x : Polder}

section
variable {bytes row unit off res : Nat} {upset : Bool} (h : SlotRuns s p 5 0x50 c false x) (hlen : bytes ≤ 4177920)
  (hin : inStack p (bankAddr p unit row off) bytes = true) (howns : x.owns (unitKey 5 c.unit) res bytes = true)
include h hlen hin howns

theorem runs_dcopy_to_hbm : Runs (.dcopy p c bytes row unit off res true upset) s fun t => t = slotAfter p 5 c (ceilDiv bytes 1024 + 16)
    (if quietLane s p c.lane then s.setPolder p x else (s.setPolder p x).writeStack (bankAddr p unit row off) (x.load res bytes)) := by
  refine runs_of_slot rfl h ?_
  simp only [polder_setPolder_same, dmaAddr]
  rw [guards_of_all _ (by simp [hlen, hin, howns])]
  rfl

theorem runs_dcopy_from_hbm : Runs (.dcopy p c bytes row unit off res false upset) s fun t => t = slotAfter p 5 c (ceilDiv bytes 1024 + 16)
    (let r := (s.setPolder p x).unitRead p c.lane (bankAddr p unit row off) bytes upset true
     if r.2 then r.1.save p res (Memory.bytes s.mem (bankAddr p unit row off) bytes) else r.1) := by
  refine runs_of_slot rfl h ?_
  simp only [polder_setPolder_same, dmaAddr]
  rw [guards_of_all _ (by simp [hlen, hin, howns])]
  rfl

end

theorem runs_dls {bytes res core at_ turn : Nat} {toCore : Bool} (h : SlotRuns s p 5 0x51 c false x) (hlen : bytes ≤ 4088 * 256 * x.share 3)
    (howns : x.owns (unitKey 5 c.unit) res bytes = true) (hin : x.inLocal core at_ bytes = true) :
    Runs (.dls p c bytes res core at_ toCore turn) s fun t => SlotDone s p 5 c (ceilDiv bytes (256 * x.share 3) + 8)
      (x.save (if toCore then lsAddr core at_ else res) (dlsBytes turn bytes (x.load (if toCore then res else lsAddr core at_) bytes))) t := by
  refine runs_of_slot rfl h ?_
  simp only [polder_setPolder_same, save_setPolder]
  rw [guards_of_all _ (by simp [hlen, hin, howns]), ← h.share_eq]
  rfl

theorem runs_dmesh {bytes res off : Nat} {d : Pol} (h : SlotRuns s p 5 0x52 c true x) (hlen : bytes ≤ 2093056) (howns : x.owns (unitKey 5 c.unit) res bytes = true)
    (hoff : off + bytes ≤ reservoirBytes) (hroom : quietLane s p c.lane = true ∨ x.outq + min bytes 512 ≤ 262144) :
    Runs (.dmesh p c bytes res d off) s fun t => t = slotAfter p 5 c (ceilDiv bytes 512 + 8) (if quietLane s p c.lane then s.setPolder p x
      else (s.setPolder p x).meshSend p (x.load res bytes) (min bytes 512) d off) := by
  have hroom' : quietLane s p c.lane = true ∨ x.outq + min bytes 512 ≤ meshQueue := hroom
  refine runs_of_slot rfl h ?_
  simp only [polder_setPolder_same]
  rw [guards_of_all _ (by rcases hroom' with hroom | hroom <;> simp [hlen, howns, hoff, hroom])]
  rfl

end

/-- Settles O13: DCOPY by direction and by what the read gives, DLS, and the outcomes of a DMESH. What enters the outbound queue at once is log entry
148. -/
theorem theDmaEngineMovesBytes : Obligations.TheDmaEngineMovesBytes := by
  unfold Obligations.TheDmaEngineMovesBytes
  refine fun s p c x => ⟨fun bytes row unit off res toHbm upset h hlen hin howns => ?_, fun bytes res core at_ toCore turn h hlen howns hin => ?_,
    fun bytes res d off h hlen howns hoff => ⟨fun hq => ?_, fun hq hfull => ?_, fun hq hroom => ?_⟩⟩
  · have hlane : (s.setPolder p x).laneSeq p c.lane = s.laneSeq p c.lane := laneSeq_setPolder s p c.lane (h.laneAt_eq s.time c.lane)
    obtain ⟨t, ht, rfl⟩ := runs_dcopy_to_hbm (upset := upset) h hlen hin howns
    obtain ⟨t', ht', rfl⟩ := runs_dcopy_from_hbm (upset := upset) h hlen hin howns
    refine ⟨?_, ?_, ?_, ?_, ?_⟩
    · rintro rfl hq
      exact ⟨_, ht, by simp [hq, SlotDone]⟩
    · rintro rfl hq
      refine ⟨_, ht, (s.setPolder p x).writeStack (bankAddr p unit row off) (x.load res bytes), fun b => ?_, fun sec => ?_, rfl, by simp [hq]⟩
      · rw [writeStack_read, length_load, setPolder_mem]
      · rw [writeStack_sideband, length_load]
        rfl
    · rintro rfl hl hok
      refine ⟨_, ht', _, stored_save x _ _, ?_⟩
      rw [unitRead_of_ok (s := s.setPolder p x) hl hok, hlane, if_pos rfl, State.save, besideLadder_polder, polder_setPolder_same]
    · rintro rfl hl
      exact ⟨_, ht', by rw [unitRead_of_lost (s := s.setPolder p x) hl]; rfl⟩
    · rintro rfl hl hok
      exact ⟨_, ht', by rw [unitRead_of_failed (s := s.setPolder p x) hl hok, hlane]; rfl⟩
  · obtain ⟨t, ht, hdone⟩ := runs_dls (toCore := toCore) (turn := turn) h hlen howns hin
    refine ⟨t, ht, _, dlsBytes turn bytes _, fun h0 => if_pos h0, fun h0 hb => ?_, stored_save x _ _, hdone⟩
    rw [dlsBytes_of_block h0 hb (length_load ..)]
    exact ⟨by rw [length_transposed]; omega, fun ch tok => nth_transposed _⟩
  · obtain ⟨t, ht, rfl⟩ := runs_dmesh (d := d) h hlen howns hoff (.inl hq)
    exact ⟨_, ht, by simp [hq, SlotDone]⟩
  · have hfull' : meshQueue < x.outq + min bytes 512 := hfull
    exact runs_fault rfl h (by simp only [polder_setPolder_same]; simp [guards, hlen, howns, hoff, hq, hfull'])
  · obtain ⟨t, ht, rfl⟩ := runs_dmesh (d := d) h hlen howns hoff (.inr hroom)
    refine ⟨_, ht, _, stored_save _ _ _, ?_⟩
    simp [hq, meshSend_setPolder]

end Sys2Proof.Proofs

/-! PROOFS. External signals and deadlines (O16): what LATE lanes and void lanes leave of their polder. -/

namespace Sys2Proof.Proofs
open Sys2Proof.Machine Sys2Proof.Safety Sys2Proof.Laws

theorem find_each {α : Type} (m : Map α) (f : Nat → α → α) (k : Nat) : Map.find (Map.each m f) k = (Map.find m k).map (f k) := by
  induction m with
  | nil => rfl
  | cons e m ih =>
    obtain ⟨j, v⟩ := e
    by_cases h : j = k
    · subst h
      simp [Map.each, Map.find]
    · simpa [Map.each, Map.find, h] using ih

theorem mem_of_find {α : Type} {m : Map α} {k : Nat} {v : α} (h : Map.find m k = some v) : (k, v) ∈ m := by
  induction m with
  | nil => simp [Map.find] at h
  | cons e m ih =>
    obtain ⟨j, w⟩ := e
    rw [Map.find] at h
    split at h
    · cases h
      simp [*]
    · exact List.mem_cons_of_mem _ (ih h)

/-! ### Lanes that go LATE and lanes that are void (R56, R137) -/

/-- From `s` to `t` polder `p` changes in what its lanes and rings say of lateness and voidness only, the lanes of `late` being LATE after, and
memory and frames stay. -/
structure LateStep (p : Nat) (late : Nat → Prop) (s t : State) : Prop where
  time : t.time = s.time
  mem : t.mem = s.mem
  frames : t.frames = s.frames
  prog : (t.polder p).prog = (s.polder p).prog
  waits : (t.polder p).waits = (s.polder p).waits
  gates : (t.polder p).gates = (s.polder p).gates
  absorb : (t.polder p).absorb = (s.polder p).absorb
  lanes : ∀ l a, Map.find (s.polder p).lanes l = some a → ∃ b, Map.find (t.polder p).lanes l = some b ∧ b = { a with late := b.late, voided := b.voided } ∧
    (late l → b.late = true) ∧ (¬ late l → b.late = a.late)

namespace LateStep
variable {p : Nat} {late late' : Nat → Prop} {s t u : State}

theorem refl (p : Nat) (s : State) : LateStep p (fun _ => False) s s :=
  ⟨rfl, rfl, rfl, rfl, rfl, rfl, rfl, fun _ a ha => ⟨a, ha, rfl, False.elim, fun _ => rfl⟩⟩

theorem trans (h : LateStep p late s t) (h' : LateStep p late' t u) : LateStep p (fun l => late l ∨ late' l) s u where
  time := h'.time.trans h.time
  mem := h'.mem.trans h.mem
  frames := h'.frames.trans h.frames
  prog := h'.prog.trans h.prog
  waits := h'.waits.trans h.waits
  gates := h'.gates.trans h.gates
  absorb := h'.absorb.trans h.absorb
  lanes l a ha := by
    obtain ⟨b, hb, heq, hlate, hkeep⟩ := h.lanes l a ha
    obtain ⟨d, hd, heq', hlate', hkeep'⟩ := h'.lanes l b hb
    refine ⟨d, hd, by rw [heq', heq], fun hl => ?_, fun hl => ?_⟩
    · by_cases hl' : late' l
      · exact hlate' hl'
      · exact (hkeep' hl').trans (hlate (hl.resolve_right hl'))
    · exact (hkeep' fun h => hl (.inr h)).trans (hkeep fun h => hl (.inl h))

/-- Which lanes are said to go LATE matters where the polder has a lane only. -/
theorem congr (h : LateStep p late s t) (hl : ∀ l a, Map.find (s.polder p).lanes l = some a → (late' l ↔ late l)) : LateStep p late' s t :=
  { h with lanes := fun l a ha => by simpa only [hl l a ha] using h.lanes l a ha }

/-- Such a step binds and frees no lane. -/
theorem laneAt_isSome (h : LateStep p late s t) {l : Nat} {a : Lane} (ha : Map.find (s.polder p).lanes l = some a) :
    ((t.polder p).laneAt t.time l).isSome = ((s.polder p).laneAt s.time l).isSome := by
  obtain ⟨b, hb, heq, -⟩ := h.lanes l a ha
  have hrep : b.reported = a.reported := (congrArg Lane.reported heq :)
  have hfree : b.freeAt = a.freeAt := (congrArg Lane.freeAt heq :)
  simp only [Polder.laneAt, ha, hb, hrep, hfree, h.time]
  split <;> rfl

end LateStep

theorem laneAt_eq_some {x : Polder} {now l : Nat} {a : Lane} (h : x.laneAt now l = some a) : Map.find x.lanes l = some a := by
  unfold Polder.laneAt at h
  cases hf : Map.find x.lanes l with
  | none => simp [hf] at h
  | some b =>
    simp only [hf] at h
    split at h <;> simp_all

theorem mem_bound {x : Polder} {now l : Nat} : l ∈ x.bound now ↔ (x.laneAt now l).isSome = true := by
  refine List.mem_filter.trans ⟨And.right, fun h => ⟨?_, h⟩⟩
  obtain ⟨a, ha⟩ := Option.isSome_iff_exists.mp h
  exact List.mem_map.mpr ⟨_, mem_of_find (laneAt_eq_some ha), rfl⟩

theorem markLate_of_free {s : State} {p l : Nat} (h : (s.polder p).laneAt s.time l = none) : s.markLate p l = s := by
  simp only [State.markLate, h]

theorem markLate_of_bound {s : State} {p l : Nat} {a : Lane} (h : (s.polder p).laneAt s.time l = some a) : s.markLate p l =
    ((s.setPolder p { s.polder p with lanes := Map.put (s.polder p).lanes l { a with late := true } }).bump 0x2B3403).arrive (polderSource p 7) := by
  simp only [State.markLate, h]

theorem markLate_lateStep (s : State) (p l : Nat) :
    LateStep p (fun k => k = l ∧ ((s.polder p).laneAt s.time k).isSome = true) s (s.markLate p l) := by
  cases ha : (s.polder p).laneAt s.time l with
  | none =>
    rw [markLate_of_free ha]
    refine (LateStep.refl p s).congr fun k _ _ => iff_of_false (fun h => ?_) id
    obtain ⟨rfl, h⟩ := h
    simp [ha] at h
  | some a =>
    rw [markLate_of_bound ha]
    refine ⟨by simp, by simp, by simp, by simp, by simp, by simp, by simp, fun k b hb => ?_⟩
    simp only [arrive_polder, bump_polder, polder_setPolder_same, find_put]
    by_cases hk : k = l
    · subst hk
      cases hb.symm.trans (laneAt_eq_some ha)
      exact ⟨_, if_pos rfl, rfl, fun _ => rfl, fun h => absurd ⟨rfl, by simp [ha]⟩ h⟩
    · exact ⟨b, by rw [if_neg hk, hb], rfl, fun h => absurd h.1 hk, fun _ => rfl⟩

theorem foldl_markLate_lateStep (p : Nat) (ls : List Nat) (s : State) :
    LateStep p (fun k => k ∈ ls ∧ ((s.polder p).laneAt s.time k).isSome = true) s (ls.foldl (fun s l => s.markLate p l) s) := by
  induction ls generalizing s with
  | nil => exact (LateStep.refl p s).congr (by simp)
  | cons l ls ih =>
    have h := markLate_lateStep s p l
    refine (h.trans (ih _)).congr fun k a ha => ?_
    simp only [h.laneAt_isSome ha, List.mem_cons, or_and_right]

/-- A polder once the lanes and ring entries of a request are void in it. -/
def voidIn (now tag : Nat) (x : Polder) : Polder :=
  { x with lanes := Map.each x.lanes fun _ a => if a.entry.tag = tag ∧ !a.late then { a with voided := true } else a,
           rings := Map.each x.rings fun _ es => es.filter fun e => e.tag != tag,
           busyAt := if x.rings.any fun r => r.2.any fun e => e.tag == tag then now else x.busyAt }

theorem voidRest_polder (s : State) (tag p : Nat) : (s.voidRest tag).polder p = voidIn s.time tag (s.polder p) := by
  have hps : (s.voidRest tag).polders = Map.each s.polders fun _ => voidIn s.time tag := by
    unfold State.voidRest
    dsimp only
    split <;> rfl
  rw [State.polder, State.polder, hps, Map.getD, Map.getD, find_each]
  cases Map.find s.polders p <;> rfl

theorem voidRest_lateStep (s : State) (p tag : Nat) : LateStep p (fun _ => False) s (s.voidRest tag) := by
  have hrest : (s.voidRest tag).time = s.time ∧ (s.voidRest tag).mem = s.mem ∧ (s.voidRest tag).frames = s.frames := by
    unfold State.voidRest
    dsimp only
    split <;> exact ⟨rfl, rfl, rfl⟩
  obtain ⟨htime, hmem, hframes⟩ := hrest
  refine ⟨htime, hmem, hframes, ?_, ?_, ?_, ?_, fun l a ha => ?_⟩ <;> rw [voidRest_polder]
  any_goals rfl
  refine ⟨_, by rw [voidIn, find_each, ha]; rfl, ?_⟩
  dsimp only
  split <;> simp

theorem foldl_voidRest_lateStep (p : Nat) (tags : List Nat) (s : State) : LateStep p (fun _ => False) s (tags.foldl State.voidRest s) := by
  induction tags generalizing s with
  | nil => exact LateStep.refl p s
  | cons tag tags ih => exact ((voidRest_lateStep s p tag).trans (ih _)).congr (by simp)

/-! ### A deadline that expires (R55, R56) -/

/-- A polder whose wait `w` on an external gate is met by its deadline. -/
def expireWait (x : Polder) (key : Nat) (w : Wait) : Polder :=
  { x with waits := Map.put x.waits key { w with expired := true }, gates := Map.putD x.gates w.gate (Map.getD x.gates w.gate 0 - w.count) 0,
           absorb := Map.putD x.absorb w.gate (Map.getD x.absorb w.gate 0 + (w.count - Map.getD x.gates w.gate 0)) 0 }

/-- The lanes that a wait's deadline makes LATE. -/
def lateLanes (x : Polder) (now : Nat) (w : Wait) : List Nat := if w.lane = 0 then x.bound now else [w.lane]

section
variable {s : State} {p : Pol} {cls : Fin 6} {c : Slot} {w : Wait} (hw : Map.find (s.polder p).waits (unitKey cls c.unit) = some w)
include hw

theorem deadlineExpiry_lateStep (hidx : w.idx = c.idx) (hlive : w.expired = false) (hd : w.deadline ≠ 0) (hext : (s.polder p).external w.gate = true)
    (hrun : (s.polder p).prog = .running) (hdue : w.began + (s.polder p).deadlineNs w.deadline ≤ s.time) :
    LateStep p (fun l => l ∈ lateLanes (s.polder p) s.time w ∧ ((s.polder p).laneAt s.time l).isSome = true)
      (s.setPolder p (expireWait (s.polder p) (unitKey cls c.unit) w)) (s.deadlineExpiry p cls c) := by
  unfold State.deadlineExpiry
  simp only [hw]
  rw [if_neg (by simp [hidx, hlive, hd, hext, hrun, hdue])]
  refine ((foldl_markLate_lateStep p (lateLanes (s.polder p) s.time w) _).trans (foldl_voidRest_lateStep p _ _)).congr fun l a _ => ?_
  rw [polder_setPolder_same, or_false]
  rfl

theorem deadlineExpiry_of_not_due (h : w.deadline = 0 ∨ s.time < w.began + (s.polder p).deadlineNs w.deadline ∨ (s.polder p).prog ≠ .running) :
    s.deadlineExpiry p cls c = s := by
  unfold State.deadlineExpiry
  simp only [hw]
  exact if_pos (by tauto)

end

/-- Settles O16: a signal is `Polder.signal` within its limit; an expiry changes the wait and its gate, and the lanes as `LateStep` says. An event
named for the gate is an operand of the signal (log entry 30). -/
theorem externalSignalsAndDeadlines : Obligations.ExternalSignalsAndDeadlines := by
  unfold Obligations.ExternalSignalsAndDeadlines
  refine ⟨fun s p g n e => ⟨fun hprog ⟨im, b, him, hb, hbg, he⟩ hle => ?_, fun hno => ?_⟩, fun s p cls c => ⟨fun w hw hidx hlive hd hext hrun hdue => ?_, fun hno => ?_⟩⟩
  · have hawaits : (s.polder p).awaits g e = true := by
      simp only [Polder.awaits, him, List.any_eq_true]
      exact ⟨b, hb, by simp [hbg, he]⟩
    refine ⟨_, congrArg Host.Outcome.next (if_pos ⟨hprog, hawaits⟩), ?_⟩
    rw [signal_of_le hle]
    simp only [polder_setPolder_same, getD_putD_same, true_and, and_true]
    exact fun k hk => ⟨getD_putD_ne _ _ _ hk, getD_putD_ne _ _ _ hk⟩
  · exact ⟨_, congrArg Host.Outcome.next (if_neg (by rcases hno with hno | hno <;> simp [hno])), rfl⟩
  · have h := deadlineExpiry_lateStep hw hidx hlive hd hext hrun hdue
    have hx := polder_setPolder_same s p (expireWait (s.polder p) (unitKey cls c.unit) w)
    refine ⟨_, rfl, ?_, ?_, ?_, fun l a ha hl => ?_, fun l a h0 hl ha => ?_, ?_, h.mem, h.frames⟩
    · rw [h.waits, hx, expireWait, find_put_same]
    · rw [h.gates, hx, expireWait, getD_putD_same]
    · rw [h.absorb, hx, expireWait, getD_putD_same]
    · obtain ⟨b, hb, heq, hlate, -⟩ := h.lanes l a (by rw [hx]; exact laneAt_eq_some ha)
      refine ⟨b, hb, hlate ⟨?_, by simp [ha]⟩, by rw [heq]⟩
      unfold lateLanes
      split
      next h0 => exact mem_bound.mpr (by simp [ha])
      next h0 => exact List.mem_singleton.mpr (hl.resolve_left h0).symm
    · obtain ⟨b, hb, heq, -, hkeep⟩ := h.lanes l a (by rw [hx]; exact ha)
      exact ⟨b, hb, hkeep fun hin => hl (by simpa [lateLanes, h0, eq_comm] using hin.1), by rw [heq]⟩
    · rw [h.prog, hx, expireWait]
  · refine ⟨_, rfl, ?_⟩
    cases hw : Map.find (s.polder p).waits (unitKey cls c.unit) with
    | none => simp [State.deadlineExpiry, hw]
    | some w =>
      refine deadlineExpiry_of_not_due hw ?_
      rcases hno with hnone | hlate | hrun
      · simp [hw] at hnone
      · exact (hlate w hw).imp_right .inl
      · exact .inr (.inr hrun)

end Sys2Proof.Proofs

/-! PROOFS. Passes close and programs change state (O17): what a barrier, a tide boundary and a stop leave. -/

namespace Sys2Proof.Proofs
open Sys2Proof.Machine Sys2Proof.Safety Sys2Proof.Laws

/-! ### Changes of one polder, with its interrupts -/

/-- From `s` to `t` nothing changed but polder `p` and the gatherer. -/
structure OnlyAt (p : Nat) (s t : State) : Prop where
  eq : t = { s with polders := t.polders, gath := t.gath }
  others : ∀ k, k ≠ p → t.polder k = s.polder k

namespace OnlyAt
variable {p : Nat} {s t u : State}

theorem refl (p : Nat) (s : State) : OnlyAt p s s := ⟨rfl, fun _ _ => rfl⟩

theorem trans (h : OnlyAt p s t) (h' : OnlyAt p t u) : OnlyAt p s u :=
  ⟨h'.eq.trans (congrArg (fun t : State => { t with polders := u.polders, gath := u.gath }) h.eq), fun k hk => (h'.others k hk).trans (h.others k hk)⟩

theorem setPolder (s : State) (p : Nat) (x : Polder) : OnlyAt p s (s.setPolder p x) := ⟨rfl, fun j hj => (polder_setPolder s p j x).trans (if_neg hj)⟩

theorem arrive (p : Nat) (s : State) (k : Nat) : OnlyAt p s (s.arrive k) := by
  refine ⟨?_, fun j _ => arrive_polder ..⟩
  unfold State.arrive
  split <;> rfl

theorem sleepTo (s : State) (p : Nat) (x : Polder) (st : SleepState) : OnlyAt p s (s.sleepTo p x st) := (setPolder s p _).trans (arrive p _ _)

theorem goDry (s : State) (p : Nat) : OnlyAt p s (s.goDry p) := sleepTo s p _ _

end OnlyAt

/-- From `s` to `t` nothing changed but polder `p`, the measurements and the gatherer. -/
structure OnlyProgram (p : Nat) (s t : State) : Prop where
  eq : t = { s with polders := t.polders, sec := t.sec, gath := t.gath }
  others : ∀ k, k ≠ p → t.polder k = s.polder k

theorem OnlyAt.program {p : Nat} {s t : State} (h : OnlyAt p s t) : OnlyProgram p s t := by
  have hsec : t.sec = s.sec := (congrArg State.sec h.eq :)
  exact ⟨by rw [hsec]; exact h.eq, h.others⟩

theorem OnlyProgram.trans {p : Nat} {s t u : State} (h : OnlyProgram p s t) (h' : OnlyProgram p t u) : OnlyProgram p s u :=
  ⟨h'.eq.trans (congrArg (fun t : State => { t with polders := u.polders, sec := u.sec, gath := u.gath }) h.eq),
    fun k hk => (h'.others k hk).trans (h.others k hk)⟩

/-! ### A pass barrier (R50, R400, R401) -/

/-- What waits for a barrier to go damp goes damp at it. -/
def dampAt (s : State) (p : Nat) : State := if (s.polder p).damping then s.sleepTo p { s.polder p with damping := false } .damp else s

/-- A damp polder that is to be dry goes dry, or is quiesced where it runs. -/
def dryAt (s : State) (p : Nat) : State :=
  if !(s.polder p).drying ∨ (s.polder p).sleep ≠ .damp then s
  else if (s.polder p).prog = .running then s.setPolder p { s.polder p with closed := true, closeSleep := true }
  else s.goDry p

theorem barrier_eq (s : State) (p : Nat) : s.barrier p = dryAt (dampAt s p) p := rfl

theorem dampAt_onlyAt (s : State) (p : Nat) : OnlyAt p s (dampAt s p) := by
  unfold dampAt
  split
  · exact OnlyAt.sleepTo s p _ _
  · exact OnlyAt.refl p s

theorem dryAt_onlyAt (s : State) (p : Nat) : OnlyAt p s (dryAt s p) := by
  unfold dryAt
  split
  · exact OnlyAt.refl p s
  · split
    · exact OnlyAt.setPolder s p _
    · exact OnlyAt.goDry s p

theorem barrier_onlyAt (s : State) (p : Nat) : OnlyAt p s (s.barrier p) := (dampAt_onlyAt s p).trans (dryAt_onlyAt _ p)

theorem dampAt_of_not_damping {s : State} {p : Nat} (h : (s.polder p).damping = false) : dampAt s p = s := if_neg (by simp [h])
theorem dryAt_of_not_drying {s : State} {p : Nat} (h : (s.polder p).drying = false) : dryAt s p = s := if_pos (by simp [h])

/-- At a barrier a polder that nothing sends to sleep stays as it is. -/
theorem barrier_of_awake {s : State} {p : Nat} (hdamp : (s.polder p).damping = false) (hdry : (s.polder p).drying = false) : s.barrier p = s := by
  rw [barrier_eq, dampAt_of_not_damping hdamp, dryAt_of_not_drying hdry]

/-- A new pass and released lanes leave what waits for a barrier. -/
@[simp] theorem startPass_damping (x : Polder) (b : Nat) : (x.startPass b).damping = x.damping := rfl
@[simp] theorem startPass_drying (x : Polder) (b : Nat) : (x.startPass b).drying = x.drying := rfl
@[simp] theorem unbind_damping (x : Polder) (now : Nat) : (x.unbind now).damping = x.damping := rfl
@[simp] theorem unbind_drying (x : Polder) (now : Nat) : (x.unbind now).drying = x.drying := rfl

/-! ### PASS_CLOSE (R50, R78, R84) -/

/-- In a list that rises a member that none is below stands first. -/
theorem headD_eq_of_lowest {l : List Nat} {g : Nat} (hl : l.Pairwise (· < ·)) (hg : g ∈ l) (hlow : ∀ k ∈ l, g ≤ k) : l.headD 0 = g := by
  cases l with
  | nil => simp at hg
  | cons a l =>
    have hga := hlow a (by simp)
    rcases List.mem_cons.mp hg with rfl | hmem
    · rfl
    · exact absurd ((List.pairwise_cons.mp hl).1 g hmem) (by omega)

/-- The gates above zero, in order (R78). -/
def openGates (x : Polder) : List Nat := (x.gates.filter fun g => decide (0 < g.2)).map Prod.fst

theorem openGates_eq_nil {x : Polder} (h : ∀ g ∈ x.gates, g.2 = 0) : openGates x = [] := by
  rw [openGates, List.map_eq_nil_iff, List.filter_eq_nil_iff]
  exact fun g hg => by simp [h g hg]

theorem headD_openGates {x : Polder} {g n : Nat} (hg : Map.find x.gates g = some n) (hn : 0 < n) (hlow : ∀ k ∈ x.gates, 0 < k.2 → g ≤ k.1)
    (hwf : Map.wf x.gates) : openGates x ≠ [] ∧ (openGates x).headD 0 = g := by
  have hmem : g ∈ openGates x := List.mem_map.mpr ⟨(g, n), List.mem_filter.mpr ⟨mem_of_find hg, by simpa using hn⟩, rfl⟩
  refine ⟨List.ne_nil_of_mem hmem, headD_eq_of_lowest ((hwf.sublist List.filter_sublist).map Prod.fst fun _ _ h => h) hmem fun k hk => ?_⟩
  obtain ⟨e, he, rfl⟩ := List.mem_map.mp hk
  obtain ⟨hin, hpos⟩ := List.mem_filter.mp he
  exact hlow e hin (by simpa using hpos)

theorem bound_eq_nil {x : Polder} {now : Nat} (h : ∀ l ∈ Map.keys x.lanes, x.laneAt now l = none) : x.bound now = [] := by
  rw [Polder.bound, List.filter_eq_nil_iff]
  exact fun l hl => by simp [h l hl]

theorem headD_bound {x : Polder} {now l : Nat} (hl : (x.laneAt now l).isSome = true) (hlow : ∀ k, (x.laneAt now k).isSome = true → l ≤ k)
    (hwf : Map.wf x.lanes) : x.bound now ≠ [] ∧ (x.bound now).headD 0 = l := by
  have hmem : l ∈ x.bound now := mem_bound.mpr hl
  have hsorted : (Map.keys x.lanes).Pairwise (· < ·) := hwf.map Prod.fst fun _ _ h => h
  exact ⟨List.ne_nil_of_mem hmem, headD_eq_of_lowest (hsorted.sublist List.filter_sublist) hmem fun k hk => hlow k (mem_bound.mp hk)⟩

/-- Whether every unit of an image that has slots has ended its pass. -/
def allEnded (x : Polder) (im : Image) : Prop := ∀ u ∈ im.slots, u.2 ≠ [] → x.ended.contains u.1 = true

theorem allEnded_iff (x : Polder) (im : Image) :
    (((im.slots.filter fun u => !u.2.isEmpty).map Prod.fst).all x.ended.contains) = true ↔ allEnded x im := by
  simp [allEnded, List.all_eq_true, or_iff_not_imp_left]

section
variable {s : State} {p : Pol} {im : Image} (him : (s.polder p).image = some im)
include him

theorem passClose_of_not_done (h : (s.polder p).prog ≠ .running ∨ (s.polder p).closed = true ∨ ¬ allEnded (s.polder p) im) : s.passClose p = s := by
  simp only [State.passClose, him]
  exact if_pos (by simpa only [Bool.not_eq_true', ← Bool.not_eq_true, allEnded_iff] using h)

section
variable (hrun : (s.polder p).prog = .running) (hopen : (s.polder p).closed = false) (hdone : allEnded (s.polder p) im)
include hrun hopen hdone

/-- What a close does once every unit has ended, by what the checks find. -/
theorem passClose_of_done : s.passClose p =
    if openGates (s.polder p) ≠ [] ∨ (s.polder p).bound s.time ≠ [] then
      let u := if openGates (s.polder p) = [] then s else s.contractFault p 3 ((openGates (s.polder p)).headD 0)
      if (s.polder p).bound s.time = [] then u else u.contractFault p 0x0D (((s.polder p).bound s.time).headD 0)
    else if (s.polder p).pendingImage.isSome || (s.polder p).quiesceCtl || (s.polder p).quiesceSleep then
      (s.setPolder p { (s.polder p).startPass 0 with
        closed := true, closeCtl := (s.polder p).quiesceCtl, closeSleep := (s.polder p).quiesceSleep, quiesceCtl := false, quiesceSleep := false }).barrier p
    else (s.setPolder p ((s.polder p).startPass (s.barrierEnd p))).barrier p := by
  simp only [State.passClose, him]
  exact if_neg (by rw [(allEnded_iff _ _).mpr hdone, hopen]; simp [hrun])

end
end

/-! ### Tide boundaries (R49, R84, R382) -/

theorem install_of_none {s : State} {p : Nat} (h : (s.polder p).pendingImage = none) : s.install p = s := by
  simp only [State.install, h]

theorem install_of_some {s : State} {p : Nat} {im : Image} (h : (s.polder p).pendingImage = some im) : s.install p =
    { s.setPolder p { s.polder p with image := some im, pendingImage := none } with sec := (s.install p).sec } := by
  simp only [State.install, h]
  rfl

/-- Installing changes the polder's images only, and measurements. -/
theorem install_polder (s : State) (p : Nat) :
    (s.install p).polder p = { s.polder p with image := (s.polder p).pendingImage.or (s.polder p).image, pendingImage := none } := by
  cases h : (s.polder p).pendingImage with
  | none => rw [install_of_none h, Option.none_or, ← h]
  | some im =>
    rw [install_of_some h]
    exact polder_setPolder_same ..

theorem install_onlyProgram (s : State) (p : Nat) : OnlyProgram p s (s.install p) := by
  cases h : (s.polder p).pendingImage with
  | none =>
    rw [install_of_none h]
    exact (OnlyAt.refl p s).program
  | some im =>
    rw [install_of_some h]
    exact ⟨rfl, fun k hk => (polder_setPolder s p k _).trans (if_neg hk)⟩

section
variable {s : State} {p : Nat}

theorem boundaryAt_of_loaded (h : (s.polder p).prog = .loaded) : s.boundaryAt p =
    if (s.polder p).sleep = .wet ∧ !(s.polder p).hold ∧ !(s.polder p).down then
      (s.setPolder p { ((s.polder p).unbind s.time).startPass (s.barrierEnd p) with prog := .running }).arrive (polderSource p 1)
    else s := by
  simp only [State.boundaryAt, h]

theorem boundaryAt_of_open (h : (s.polder p).prog = .running) (hopen : (s.polder p).closed = false) : s.boundaryAt p = s := by
  simp [State.boundaryAt, h, hopen]

theorem boundaryAt_of_idling (h : (s.polder p).prog = .running) (hclosed : (s.polder p).closed = true) : s.boundaryAt p =
    if ((s.install p).polder p).closeCtl ∨ ((s.install p).polder p).closeSleep then
      (((s.install p).setPolder p { (s.install p).polder p with
        prog := .loaded, hold := ((s.install p).polder p).hold || ((s.install p).polder p).closeCtl, closeCtl := false, closeSleep := false,
        closed := false }).arrive (polderSource p 1)).barrier p
    else (s.install p).setPolder p ((((s.install p).polder p).unbind (s.install p).time).startPass ((s.install p).barrierEnd p)) := by
  simp [State.boundaryAt, h, hclosed]

theorem boundaryAt_of_other (h : (s.polder p).prog ≠ .loaded) (h' : (s.polder p).prog ≠ .running) : s.boundaryAt p = s := by
  cases hp : (s.polder p).prog with
  | loaded => exact absurd hp h
  | running => exact absurd hp h'
  | empty | stopping | stopped => simp only [State.boundaryAt, hp]

end

theorem boundaryAt_onlyProgram (s : State) (p : Nat) : OnlyProgram p s (s.boundaryAt p) := by
  by_cases hl : (s.polder p).prog = .loaded
  · rw [boundaryAt_of_loaded hl]
    split
    · exact ((OnlyAt.setPolder s p _).trans (OnlyAt.arrive p _ _)).program
    · exact (OnlyAt.refl p s).program
  · by_cases hr : (s.polder p).prog = .running
    · cases hc : (s.polder p).closed with
      | false =>
        rw [boundaryAt_of_open hr hc]
        exact (OnlyAt.refl p s).program
      | true =>
        rw [boundaryAt_of_idling hr hc]
        split
        · exact (install_onlyProgram s p).trans (((OnlyAt.setPolder _ p _).trans (OnlyAt.arrive p _ _)).trans (barrier_onlyAt _ p)).program
        · exact (install_onlyProgram s p).trans (OnlyAt.setPolder _ p _).program
    · rw [boundaryAt_of_other hl hr]
      exact (OnlyAt.refl p s).program

/-- Where each step of a fold changes its own polder only, a polder changes at its own step only. -/
theorem foldl_polder {f : State → Nat → State} (hf : ∀ s q k, k ≠ q → (f s q).polder k = s.polder k) (htime : ∀ s q, (f s q).time = s.time)
    {p : Nat} (l : List Nat) (s : State) :
    (p ∉ l → (l.foldl f s).polder p = s.polder p) ∧
    (p ∈ l → l.Nodup → ∃ u, u.polder p = s.polder p ∧ u.time = s.time ∧ (l.foldl f s).polder p = (f u p).polder p) := by
  induction l generalizing s with
  | nil => simp
  | cons q l ih =>
    obtain ⟨hout, hin⟩ := ih (f s q)
    refine ⟨fun hp => ?_, fun hp hnd => ?_⟩
    · rw [List.foldl_cons, hout (by simp_all), hf s q p (by simp_all)]
    · obtain ⟨hq, hnd⟩ := List.nodup_cons.mp hnd
      by_cases hpq : p = q
      · subst hpq
        exact ⟨s, rfl, rfl, hout hq⟩
      · obtain ⟨u, hu, hut, heq⟩ := hin (by simp_all) hnd
        exact ⟨u, hu.trans (hf s q p hpq), hut.trans (htime s q), heq⟩

theorem boundaryAt_time (s : State) (p : Nat) : (s.boundaryAt p).time = s.time := (congrArg State.time (boundaryAt_onlyProgram s p).eq :)

theorem boundaries_polder (s : State) (p : Pol) :
    ∃ u : State, u.polder p = s.polder p ∧ u.time = s.time ∧ s.boundaries.polder p = (u.boundaryAt p).polder p :=
  (foldl_polder (fun s q => (boundaryAt_onlyProgram s q).others) boundaryAt_time (List.range 8) s).2 (by simp) List.nodup_range

theorem boundaries_eq_update (s : State) :
    s.boundaries = { s with polders := s.boundaries.polders, sec := s.boundaries.sec, gath := s.boundaries.gath } := by
  unfold State.boundaries
  generalize List.range 8 = l
  induction l generalizing s with
  | nil => rfl
  | cons q l ih => exact (ih _).trans (congrArg (fun u : State => { u with
      polders := (l.foldl State.boundaryAt (s.boundaryAt q)).polders, sec := (l.foldl State.boundaryAt (s.boundaryAt q)).sec,
      gath := (l.foldl State.boundaryAt (s.boundaryAt q)).gath }) (boundaryAt_onlyProgram s q).eq)

/-! ### The committed tempo at a boundary (R382, R388, R392) -/

section
variable {s : State}

theorem tempoBoundary_of_none (h : s.tempo.commit = none) : s.tempoBoundary = s := by
  simp only [State.tempoBoundary, h]

theorem tempoBoundary_of_due {d : Tide} (h : s.tempo.commit = some d) (hdue : d.boundary ≤ s.time) : s.tempoBoundary =
    (({ s with tempo := { s.tempo with cur := d.tempo, epoch := d.epoch, commit := none, highest := max s.tempo.highest d.epoch },
               power := { s.power with absorb := none } }).bump 0x220008).arrive 0x00A := by
  simp only [State.tempoBoundary, h]
  exact if_neg (by omega)

theorem tempoBoundary_of_early {d : Tide} (h : s.tempo.commit = some d) (hearly : s.time < d.boundary) : s.tempoBoundary = s := by
  simp only [State.tempoBoundary, h]
  exact if_pos hearly

end

theorem tempoBoundary_cases (s : State) : s.tempoBoundary = s ∨ ∃ tempo power, s.tempoBoundary = ({ s with tempo, power }.bump 0x220008).arrive 0x00A := by
  cases h : s.tempo.commit with
  | none => exact .inl (tempoBoundary_of_none h)
  | some d =>
    rcases Nat.lt_or_ge s.time d.boundary with hearly | hdue
    · exact .inl (tempoBoundary_of_early h hearly)
    · exact .inr ⟨_, _, tempoBoundary_of_due h hdue⟩

/-- The tempo's boundary touches no polder and nothing of memory, sequences and requests. -/
theorem tempoBoundary_keeps_rest (s : State) : (∀ k, s.tempoBoundary.polder k = s.polder k) ∧ s.tempoBoundary.time = s.time ∧ s.tempoBoundary.mem = s.mem ∧
    s.tempoBoundary.seqs = s.seqs ∧ s.tempoBoundary.reqs = s.reqs := by
  rcases tempoBoundary_cases s with h | ⟨tempo, power, h⟩
  · simp [h]
  · rw [h]
    exact ⟨fun k => by rw [arrive_polder, bump_polder]; rfl, by simp, by simp, by simp, by simp⟩

/-- What a tide boundary makes of an idling polder that nothing sends to sleep. -/
theorem boundaryAt_polder_of_idling {s : State} {p : Nat} (hrun : (s.polder p).prog = .running) (hclosed : (s.polder p).closed = true)
    (hdamp : (s.polder p).damping = false) (hdry : (s.polder p).drying = false) :
    let y := { s.polder p with image := (s.polder p).pendingImage.or (s.polder p).image, pendingImage := none }
    (s.boundaryAt p).polder p = if y.closeCtl ∨ y.closeSleep then
      { y with prog := .loaded, hold := y.hold || y.closeCtl, closeCtl := false, closeSleep := false, closed := false }
    else (y.unbind s.time).startPass ((s.install p).barrierEnd p) := by
  have htime : (s.install p).time = s.time := (congrArg State.time (install_onlyProgram s p).eq :)
  rw [boundaryAt_of_idling hrun hclosed, install_polder, htime]
  dsimp only
  split
  · rw [barrier_of_awake (by simpa using hdamp) (by simpa using hdry), arrive_polder, polder_setPolder_same]
  · exact polder_setPolder_same ..

/-- Settles O17: PASS_CLOSE by what its checks find, POLDER_STOPPED, and a tide boundary's step at one polder, which no other polder's step touches.
Which gate and which lane a fault names is log entry 30. -/
theorem passesCloseAndProgramsChangeState : Obligations.PassesCloseAndProgramsChangeState := by
  unfold Obligations.PassesCloseAndProgramsChangeState
  refine ⟨fun s p im him hdamp hdry => ⟨fun hno => ?_, fun hrun hopen hdone => ⟨fun g n hg hn hlow hfree hwf => ?_, fun hzero l hl hlow hwf => ?_,
    fun hzero hfree => ⟨fun hnone => ?_, fun hpend => ?_⟩⟩⟩, fun s p => ⟨fun hstop hdamp hdry => ?_, fun hno => ?_⟩, fun s p hdamp hdry => ?_⟩
  · exact ⟨_, rfl, passClose_of_not_done him hno⟩
  · obtain ⟨hopenGates, hhead⟩ := headD_openGates hg hn hlow hwf
    refine ⟨_, rfl, ?_⟩
    rw [passClose_of_done him hrun hopen hdone, bound_eq_nil hfree, if_pos (.inl hopenGates), if_pos rfl, if_neg hopenGates, hhead]
  · obtain ⟨hbound, hhead⟩ := headD_bound hl hlow hwf
    refine ⟨_, rfl, ?_⟩
    rw [passClose_of_done him hrun hopen hdone, openGates_eq_nil hzero, if_pos (.inr hbound), if_pos rfl, if_neg hbound, hhead]
  · obtain ⟨himage, hctl, hsleep⟩ := hnone
    refine ⟨_, rfl, ?_⟩
    rw [passClose_of_done him hrun hopen hdone, openGates_eq_nil hzero, bound_eq_nil hfree, if_neg (by simp), if_neg (by simp [himage, hctl, hsleep]),
      barrier_of_awake (by simpa using hdamp) (by simpa using hdry)]
    rfl
  · refine ⟨_, rfl, ?_⟩
    rw [passClose_of_done him hrun hopen hdone, openGates_eq_nil hzero, bound_eq_nil hfree, if_neg (by simp),
      if_pos (by simpa [Option.isSome_iff_ne_none, or_assoc] using hpend), barrier_of_awake (by simpa using hdamp) (by simpa using hdry)]
    rfl
  · refine ⟨_, congrArg Host.Outcome.next (if_neg (by simp [hstop])), ?_⟩
    rw [barrier_of_awake (by simpa using hdamp) (by simpa using hdry)]
    have honly := (OnlyAt.setPolder s p { ((s.polder p).unbind s.time).startPass 0 with prog := .stopped }).trans (OnlyAt.arrive p _ (polderSource p 1))
    refine ⟨?_, ?_, ?_, ?_, honly.eq, honly.others⟩ <;> rw [arrive_polder, polder_setPolder_same] <;> rfl
  · exact ⟨_, congrArg Host.Outcome.next (if_pos hno), rfl⟩
  · obtain ⟨hpolder, htime, hmem, hseqs, hreqs⟩ := tempoBoundary_keeps_rest s
    obtain ⟨u, hu, hut, ht⟩ := boundaries_polder s.tempoBoundary p
    rw [hpolder] at hu
    rw [htime] at hut
    have hframe := boundaries_eq_update s.tempoBoundary
    have htempo : s.tempoBoundary.boundaries.tempo = s.tempoBoundary.tempo := (congrArg State.tempo hframe :)
    have hpower : s.tempoBoundary.boundaries.power = s.tempoBoundary.power := (congrArg State.power hframe :)
    refine ⟨_, rfl, fun hl hwet hhold hdown => ?_, fun hl hasleep => ?_, fun hrun hclosed => ?_, fun hother => ?_, fun d hd hdue => ?_, fun hnone => ?_,
      (congrArg State.mem hframe :).trans hmem, (congrArg State.seqs hframe :).trans hseqs, (congrArg State.reqs hframe :).trans hreqs⟩
    · rw [ht, boundaryAt_of_loaded (hu ▸ hl), hu, if_pos (by simp [hwet, hhold, hdown]), arrive_polder, polder_setPolder_same]
      exact ⟨rfl, rfl, rfl, rfl, hut ▸ Nat.le_add_right _ _⟩
    · rw [ht, boundaryAt_of_loaded (hu ▸ hl), hu, if_neg (by rcases hasleep with h | h | h <;> simp [h]), hu, hl]
    · rw [ht, boundaryAt_polder_of_idling (hu ▸ hrun) (hu ▸ hclosed) (hu ▸ hdamp) (hu ▸ hdry), hu]
      refine ⟨?_, ?_, fun hctl hsleep => ?_, fun hctl => ?_⟩
      · split <;> rfl
      · split <;> rfl
      · rw [if_neg (by simp [hctl, hsleep])]
        exact ⟨hrun, rfl, rfl⟩
      · rw [if_pos (.inl hctl)]
        exact ⟨rfl, by simp [hctl]⟩
    · rw [ht, boundaryAt_of_other (by rw [hu]; rcases hother with h | h | h <;> simp [h]) (by rw [hu]; rcases hother with h | h | h <;> simp [h]), hu]
    · rw [htempo, hpower, tempoBoundary_of_due hd hdue]
      simp
    · rw [htempo, tempoBoundary_of_none hnone]

end Sys2Proof.Proofs

/-! PROOFS. Images load and controls hold (O18): the loader's checks one by one, and what each control leaves. -/

namespace Sys2Proof.Proofs
open Sys2Proof.Machine Sys2Proof.Safety Sys2Proof.Laws

/-! ### The loader's checks (R48) -/

/-- What an image that no check refuses satisfies. -/
structure Passes (s : State) (im : Image) : Prop where
  edition : im.edition = 3
  concurrency : im.concurrency ≤ s.obj 0x2B0100
  lists : ∀ u ∈ im.slots, u.2.length ≤ slotMemory (u.1 / 4096)
  regions : ∀ r ∈ im.regions, r.1 + r.2.1 ≤ reservoirBytes
  rotation : im.rotation.length = 16
  ports : ∀ k, k < 5 → k ∈ im.rotation
  deadlines : ∀ u ∈ im.slots, ∀ x ∈ u.2, slotDeadlineBad im x.word = false
  reservedSet : im.reservedSet = false
  encodings : ∀ u ∈ im.slots, ∀ x ∈ u.2, slotReserved (u.1 / 4096) x.word = false
  operands : ∀ u ∈ im.slots, ∀ x ∈ u.2, slotOver im (u.1 % 4096) x = false

/-- A check over every slot of an image that finds none. -/
theorem all_slots_of_not_any {im : Image} {f : Nat × List ImgSlot → ImgSlot → Bool} (h : ¬ (im.slots.any fun u => u.2.any fun x => f u x) = true) :
    ∀ u ∈ im.slots, ∀ x ∈ u.2, f u x = false := by
  simpa only [List.any_eq_true, not_exists, not_and, Bool.not_eq_true] using h

variable {s : State} {im : Image}

theorem refusalOf_le (s : State) (im : Image) : refusalOf s im ≤ 8 := by
  simp only [refusalOf]
  split_ifs <;> omega

theorem passes_of_refusalOf (h : refusalOf s im = 0) : Passes s im := by
  simp only [refusalOf] at h
  split_ifs at h with hed hconc hlists hregions hrotation hdeadlines henc hover
  have hlists' : ∀ u ∈ im.slots, u.2.length ≤ slotMemory (u.1 / 4096) := by
    intro u hu
    simp only [List.any_eq_true, not_exists, not_and, Bool.or_eq_true, decide_eq_true_eq, not_or, not_lt, gt_iff_lt] at hlists
    exact (hlists u hu).1
  have hregions' : ∀ r ∈ im.regions, r.1 + r.2.1 ≤ reservoirBytes := by
    intro r hr
    simp only [Bool.or_eq_true, not_or, List.any_eq_true, not_exists, not_and, decide_eq_true_eq, gt_iff_lt, not_lt] at hregions
    obtain ⟨⟨⟨⟨hfit, -⟩, -⟩, -⟩, -⟩ := hregions
    exact (hfit r hr).1.1
  simp only [Bool.or_eq_true, not_or, decide_eq_true_eq, not_not, Bool.not_eq_true, Bool.not_eq_false', List.all_eq_true] at hrotation
  obtain ⟨⟨hlen, -⟩, hports⟩ := hrotation
  simp only [Bool.or_eq_true, not_or, Bool.not_eq_true] at henc
  obtain ⟨hset, henc⟩ := henc
  exact ⟨not_not.mp hed, not_lt.mp hconc, hlists', hregions', hlen, fun k hk => by have := hports k (by simp; omega); simpa using this,
    all_slots_of_not_any hdeadlines, hset, all_slots_of_not_any (by simpa using henc), all_slots_of_not_any hover⟩

/-- A deadline that passes stands on an external gate (R54, R55). -/
theorem external_of_deadline {w : BitVec 128} (h : slotDeadlineBad im w = false) (hd : slotField w 56 8 ≠ 0) (hn : slotField w 28 8 ≠ 0) :
    ∃ b ∈ im.gates, b.1 = slotField w 16 12 := by
  simpa [slotDeadlineBad, hd, hn, Image.external] using h

theorem held_le_operandLimit {unit n k : Nat} {x : ImgSlot} (h : slotOver im unit x = false) (hn : x.held = some n)
    (hk : operandLimit im unit (slotField x.word 0 8) = some k) : n ≤ k := by
  simpa [slotOver, hn, hk] using h

/-- The first three checks, in order. -/
theorem refusalOf_of_edition (h : im.edition ≠ 3) : refusalOf s im = 1 := if_pos h

theorem refusalOf_of_concurrency (hed : im.edition = 3) (h : s.obj 0x2B0100 < im.concurrency) : refusalOf s im = 2 :=
  (if_neg (not_not.mpr hed)).trans (if_pos h)

theorem refusalOf_of_lists (hed : im.edition = 3) (hconc : im.concurrency ≤ s.obj 0x2B0100)
    (h : (im.slots.any fun u => decide (slotMemory (u.1 / 4096) < u.2.length) || decide (unitCount (u.1 / 4096) ≤ u.1 % 4096)) = true) :
    refusalOf s im = 3 :=
  (if_neg (not_not.mpr hed)).trans ((if_neg (not_lt.mpr hconc)).trans (if_pos h))

/-! ### Measurements (R409) -/

@[simp] theorem measure_polder (s : State) (place k : Nat) (e : Option Meas) : (s.measure place e).polder k = s.polder k := rfl
@[simp] theorem measure_count (s : State) (place : Nat) (e : Option Meas) : (s.measure place e).sec.count = s.sec.count + 1 := rfl
@[simp] theorem find_measure_same (s : State) (place : Nat) (e : Meas) : Map.find (s.measure place (some e)).sec.meas place = some e :=
  find_put_same _ _ _

theorem measure_onlyProgram (s : State) (p place : Nat) (e : Option Meas) : OnlyProgram p s (s.measure place e) := ⟨rfl, fun _ _ => rfl⟩

/-! ### IMAGE_LOAD by the state of the program (R84) -/

section
variable {p : Nat}

theorem imageLoad_of_refused (h : refusalOf s im ≠ 0) : s.imageLoad p im = s.setPolder p { s.polder p with refusal := refusalOf s im } := if_pos h

section
variable (h : refusalOf s im = 0)
include h

theorem imageLoad_of_empty (hp : (s.polder p).prog = .empty) : s.imageLoad p im =
    (((s.setPolder p { s.polder p with prog := .loaded, image := some im }).measure (measRunning p) (some (programMeas s 4 p im))).arrive (polderSource p 1)) := by
  simp [State.imageLoad, h, hp]

theorem imageLoad_of_loaded (hp : (s.polder p).prog = .loaded) : s.imageLoad p im =
    (s.setPolder p { s.polder p with image := some im, hold := false }).measure (measRunning p) (some (programMeas s 4 p im)) := by
  simp [State.imageLoad, h, hp]

theorem imageLoad_of_running (hp : (s.polder p).prog = .running) : s.imageLoad p im =
    (s.setPolder p { s.polder p with pendingImage := some im }).measure (measPending p) (some (programMeas s 5 p im)) := by
  simp [State.imageLoad, h, hp]

end

/-! ### The controls (R84) -/

/-- A polder that CLEAR_STOPPED has cleared, before its pending image is installed. -/
def cleared (x : Polder) : Polder :=
  { x with hold := false, recorded := false, quiesceCtl := false, quiesceSleep := false, closeCtl := false, closeSleep := false, closed := false,
           prog := if x.pendingImage.isSome then .loaded else .empty, image := if x.pendingImage.isSome then x.image else none }

theorem clearStopped_of_stopped (h : (s.polder p).prog = .stopped) : s.clearStopped p = some
    ((if (s.polder p).pendingImage.isSome then (s.setPolder p (cleared (s.polder p))).install p
      else (s.setPolder p (cleared (s.polder p))).measure (measRunning p) none).arrive (polderSource p 1)) := if_neg (not_not.mpr h)

end

/-- Settles O18: the first checks in order, what a passing image satisfies, and each control by the state of the program. Which images the loader
accepts beyond R48's words is log entries 34 and 35. -/
theorem imagesLoadAndControlsHold : Obligations.ImagesLoadAndControlsHold := by
  unfold Obligations.ImagesLoadAndControlsHold
  refine ⟨fun s p im => ⟨fun k hk hbad hbefore => ?_, fun r hr h0 => ?_, fun h => ⟨?_, fun hp => ?_, fun hp => ?_⟩⟩, fun s p => ⟨fun hp => ?_, fun hp => ?_, fun hr hl => ?_,
    fun hp hh => ?_, fun hno => ?_, fun hp => ?_, fun hp => ?_⟩⟩
  · have hcode : refusalOf s im = k + 1 := by
      have hk3 : k = 0 ∨ k = 1 ∨ k = 2 := by omega
      rcases hk3 with rfl | rfl | rfl
      · exact refusalOf_of_edition (by simpa using hbad)
      · exact refusalOf_of_concurrency (by simpa using hbefore 0 (by omega)) (by simpa using hbad)
      · exact refusalOf_of_lists (by simpa using hbefore 0 (by omega)) (by simpa using hbefore 1 (by omega)) hbad
    exact ⟨_, rfl, by rw [imageLoad_of_refused (by omega), hcode]⟩
  · subst hr
    exact ⟨refusalOf_le s im, _, rfl, imageLoad_of_refused h0⟩
  · have hpass := passes_of_refusalOf h
    exact ⟨hpass.edition, hpass.concurrency, hpass.reservedSet, hpass.rotation, hpass.ports, hpass.regions, fun u hu => ⟨hpass.lists u hu, fun x hx =>
      ⟨hpass.encodings u hu x hx, external_of_deadline (hpass.deadlines u hu x hx), fun n k => held_le_operandLimit (hpass.operands u hu x hx)⟩⟩⟩
  · rcases hp with hp | hp
    · refine ⟨_, rfl, ?_⟩
      rw [imageLoad_of_empty h hp]
      have honly := (((OnlyAt.setPolder s p { s.polder p with prog := .loaded, image := some im }).program.trans
        (measure_onlyProgram _ p (measRunning p) (some (programMeas s 4 p im)))).trans (OnlyAt.arrive p _ (polderSource p 1)).program)
      refine ⟨?_, ?_, fun hl => absurd (hp.symm.trans hl) (by decide), ?_, ?_, honly.others⟩
      all_goals simp
    · refine ⟨_, rfl, ?_⟩
      rw [imageLoad_of_loaded h hp]
      have honly := (OnlyAt.setPolder s p { s.polder p with image := some im, hold := false }).program.trans
        (measure_onlyProgram _ p (measRunning p) (some (programMeas s 4 p im)))
      refine ⟨?_, ?_, fun _ => ?_, ?_, ?_, honly.others⟩
      all_goals simp [hp]
  · refine ⟨_, rfl, ?_⟩
    rw [imageLoad_of_running h hp]
    simp
  · exact ⟨_, rfl, by simp [State.quiesce, hp]⟩
  · exact ⟨_, rfl, by simp [State.quiesce, hp]⟩
  · refine ⟨_, rfl, ?_⟩
    cases hp : (s.polder p).prog with
    | running => exact absurd hp hr
    | loaded => exact absurd hp hl
    | empty | stopping | stopped => simp [State.quiesce, hp]
  · exact ⟨_, rfl, by simp [State.resume, hp, hh]⟩
  · exact ⟨_, rfl, by rcases hno with h | h <;> simp [State.resume, h]⟩
  · refine ⟨_, rfl, ?_⟩
    rw [clearStopped_of_stopped hp, Option.getD_some]
    have hset := (OnlyAt.setPolder s p (cleared (s.polder p))).program
    cases hpend : (s.polder p).pendingImage with
    | none =>
      have honly := (hset.trans (measure_onlyProgram _ p (measRunning p) none)).trans (OnlyAt.arrive p _ (polderSource p 1)).program
      refine ⟨?_, ?_, ?_, ?_, ?_, honly.eq⟩
      all_goals simp [cleared, hpend]
    | some im =>
      have honly := (hset.trans (install_onlyProgram _ p)).trans (OnlyAt.arrive p _ (polderSource p 1)).program
      refine ⟨?_, ?_, ?_, ?_, ?_, honly.eq⟩
      all_goals simp [install_polder, cleared, hpend]
  · exact ⟨_, rfl, by simp [State.clearStopped, hp]⟩

end Sys2Proof.Proofs

/-! PROOFS. Polders sleep and wake (O50): each row of the table once, by the state of the program, and the controls from them. -/

namespace Sys2Proof.Proofs
open Sys2Proof.Machine Sys2Proof.Safety Sys2Proof.Laws

/-! ### Idle polders (R401) -/

theorem bound_eq_nil_iff {x : Polder} {now : Nat} : x.bound now = [] ↔ ∀ l ∈ Map.keys x.lanes, x.laneAt now l = none := by
  rw [Polder.bound, List.filter_eq_nil_iff]
  simp

theorem idleFor_iff (s : State) (p key : Nat) : s.idleFor p key = true ↔
    ((∀ l ∈ Map.keys (s.polder p).lanes, (s.polder p).laneAt s.time l = none) ∧ ∀ r ∈ (s.polder p).rings, r.2 = []) ∧
      s.obj key ≤ s.since ((Map.vals (s.polder p).lanes).foldl (fun b a => max b a.freeAt) (s.polder p).busyAt) := by
  simp only [State.idleFor, Polder.idle, Bool.and_eq_true, decide_eq_true_eq, bound_eq_nil_iff, List.all_eq_true, List.isEmpty_iff]
  rfl

theorem sleepAuto_iff (s : State) (p : Nat) : s.sleepAuto p = true ↔ s.obj 0x240401 = 1 ∧ (s.polder p).sleepHold = .automatic := by
  simp [State.sleepAuto]

/-! ### A change of sleep state (R401, R514) -/

section
variable (s : State) (p : Nat) (x : Polder) (st : SleepState)

@[simp] theorem sleepTo_polder : (s.sleepTo p x st).polder p = { x with sleep := st } :=
  (arrive_polder ..).trans (polder_setPolder_same ..)

/-- A change of sleep state raises the polder's source of kind 9. -/
theorem sleepTo_source (hp : p < 8) : (s.sleepTo p x st).source (0x49 + 16 * p) = (s.source (0x49 + 16 * p)).arrive := by
  have hsrc : polderSource p 9 = 0x49 + 16 * p := by
    unfold polderSource
    omega
  have hreal : sourceReal (polderSource p 9) = true := by
    rw [hsrc]
    unfold sourceReal
    rw [if_neg (by omega), if_pos (by omega)]
    simp only [decide_eq_true_eq]
    omega
  rw [State.sleepTo, source_arrive _ hreal, if_pos hsrc.symm, hsrc]
  rfl

theorem sleepTo_setPolder (y : Polder) : (s.setPolder p y).sleepTo p x st = s.sleepTo p x st := by
  rw [State.sleepTo, State.sleepTo, setPolder_setPolder]

end

/-! ### The rows of the table: to damp, to dry, to wet (R401) -/

/-- What a polder that is sent damp goes through: at its barrier where a program runs, else at once. -/
structure GoesDamp (p : Nat) (h : SleepHold) (s t : State) : Prop where
  only : OnlyAt p s t
  hold : (t.polder p).sleepHold = h
  waits : (s.polder p).prog = .running ∨ (s.polder p).prog = .stopping →
    (t.polder p).sleep = .wet ∧ (t.polder p).damping = true ∧ (t.polder p).prog = (s.polder p).prog
  goes : (s.polder p).prog ≠ .running → (s.polder p).prog ≠ .stopping → (t.polder p).sleep = .damp ∧ (t.polder p).damping = false ∧
    (t.polder p).buf = (s.polder p).buf ∧ (t.polder p).image = (s.polder p).image ∧ t.source (0x49 + 16 * p) = (s.source (0x49 + 16 * p)).arrive

/-- What a polder that is sent dry goes through: a quiesce where its program runs, else it is dry at once, with its rings, image and record. -/
structure GoesDry (p : Nat) (h : SleepHold) (s t : State) : Prop where
  only : OnlyAt p s t
  hold : (t.polder p).sleepHold = h
  waits : (s.polder p).prog = .running → (t.polder p).sleep = .damp ∧ (t.polder p).closed = true ∧ (t.polder p).closeSleep = true ∧ (t.polder p).drying = true
  goes : (s.polder p).prog ≠ .running → (t.polder p).sleep = .dry ∧ (t.polder p).buf = [] ∧ (t.polder p).lanes = [] ∧ (t.polder p).waits = [] ∧
    (t.polder p).gates = [] ∧ (t.polder p).image = (s.polder p).image ∧ (t.polder p).prog = (s.polder p).prog ∧ (t.polder p).rings = (s.polder p).rings ∧
    (t.polder p).faultCode = (s.polder p).faultCode ∧ t.source (0x49 + 16 * p) = (s.source (0x49 + 16 * p)).arrive

section
variable {s : State} {p : Nat}

theorem toDamp_of_busy (hwet : (s.polder p).sleep = .wet) (h : (s.polder p).prog = .running ∨ (s.polder p).prog = .stopping) :
    s.toDamp p = s.setPolder p { s.polder p with damping := true } := by
  unfold State.toDamp
  rw [if_neg (not_not.mpr hwet)]
  exact if_pos h

theorem toDamp_of_idle (hwet : (s.polder p).sleep = .wet) (hrun : (s.polder p).prog ≠ .running) (hstop : (s.polder p).prog ≠ .stopping) :
    s.toDamp p = dryAt (s.sleepTo p { s.polder p with damping := false } .damp) p := by
  unfold State.toDamp
  rw [if_neg (not_not.mpr hwet)]
  refine (if_neg (not_or.mpr ⟨hrun, hstop⟩)).trans ?_
  rw [barrier_eq, dampAt, polder_setPolder_same, if_pos rfl, sleepTo_setPolder]

theorem goesDamp_toDamp (hp : p < 8) (hwet : (s.polder p).sleep = .wet) (hdry : (s.polder p).drying = false) : GoesDamp p (s.polder p).sleepHold s (s.toDamp p) := by
  by_cases h : (s.polder p).prog = .running ∨ (s.polder p).prog = .stopping
  · rw [toDamp_of_busy hwet h]
    exact ⟨OnlyAt.setPolder .., by simp, fun _ => by simp [hwet], fun hr hs => absurd h (not_or.mpr ⟨hr, hs⟩)⟩
  · obtain ⟨hr, hs⟩ := not_or.mp h
    rw [toDamp_of_idle hwet hr hs, dryAt_of_not_drying (by simpa using hdry)]
    exact ⟨OnlyAt.sleepTo .., by simp, fun h' => absurd h' h, fun _ _ => ⟨by simp, by simp, by simp, by simp, sleepTo_source _ _ _ _ hp⟩⟩

theorem toDry_of_damp (hdamp : (s.polder p).sleep = .damp) (hnot : (s.polder p).damping = false) :
    s.toDry p = dryAt (s.setPolder p { s.polder p with drying := true }) p := by
  unfold State.toDry
  rw [if_neg (by simp [hdamp])]
  refine (if_neg (by simp [hdamp])).trans ?_
  rw [barrier_eq, dampAt_of_not_damping (by simpa using hnot)]

theorem toDry_of_wet (hwet : (s.polder p).sleep = .wet) : s.toDry p = (s.setPolder p { s.polder p with drying := true }).toDamp p := by
  unfold State.toDry
  rw [if_neg (by simp [hwet])]
  exact if_pos hwet

theorem toDry_of_dry (hdry : (s.polder p).sleep = .dry) : s.toDry p = s := if_pos hdry

theorem dryAt_of_running (hdry : (s.polder p).drying = true) (hdamp : (s.polder p).sleep = .damp) (hrun : (s.polder p).prog = .running) :
    dryAt s p = s.setPolder p { s.polder p with closed := true, closeSleep := true } := by
  rw [dryAt, if_neg (by simp [hdry, hdamp]), if_pos hrun]

theorem dryAt_of_idle (hdry : (s.polder p).drying = true) (hdamp : (s.polder p).sleep = .damp) (hrun : (s.polder p).prog ≠ .running) :
    dryAt s p = s.goDry p := by
  rw [dryAt, if_neg (by simp [hdry, hdamp]), if_neg hrun]

/-- A polder without power has lost its buffers, lanes, waits and gates, and keeps its image, its record and its rings (log entry 90). -/
theorem goDry_polder (s : State) (p : Nat) : ((s.goDry p).polder p).sleep = .dry ∧ ((s.goDry p).polder p).buf = [] ∧ ((s.goDry p).polder p).lanes = [] ∧
    ((s.goDry p).polder p).waits = [] ∧ ((s.goDry p).polder p).gates = [] ∧ ((s.goDry p).polder p).image = (s.polder p).image ∧
    ((s.goDry p).polder p).prog = (s.polder p).prog ∧ ((s.goDry p).polder p).rings = (s.polder p).rings ∧
    ((s.goDry p).polder p).faultCode = (s.polder p).faultCode ∧ ((s.goDry p).polder p).sleepHold = (s.polder p).sleepHold := by
  rw [State.goDry, sleepTo_polder]
  exact ⟨rfl, rfl, rfl, rfl, rfl, rfl, rfl, rfl, rfl, rfl⟩

theorem goDry_source (s : State) (hp : p < 8) : (s.goDry p).source (0x49 + 16 * p) = (s.source (0x49 + 16 * p)).arrive := sleepTo_source s p _ _ hp

theorem goesDry_toDry (hp : p < 8) (hdamp : (s.polder p).sleep = .damp) (hnot : (s.polder p).damping = false) : GoesDry p (s.polder p).sleepHold s (s.toDry p) := by
  rw [toDry_of_damp hdamp hnot]
  have hset := OnlyAt.setPolder s p { s.polder p with drying := true }
  by_cases hr : (s.polder p).prog = .running
  · rw [dryAt_of_running (by simp) (by simpa using hdamp) (by simpa using hr), setPolder_setPolder]
    exact ⟨OnlyAt.setPolder .., by simp, fun _ => by simp [hdamp], fun h => absurd hr h⟩
  · rw [dryAt_of_idle (by simp) (by simpa using hdamp) (by simpa using hr)]
    obtain ⟨hsleep, hbuf, hlanes, hwaits, hgates, himage, hprog, hrings, hcode, hhold⟩ := goDry_polder (s.setPolder p { s.polder p with drying := true }) p
    rw [polder_setPolder_same] at himage hprog hrings hcode hhold
    exact ⟨hset.trans (OnlyAt.goDry _ p), hhold, fun h => absurd h hr, fun _ => ⟨hsleep, hbuf, hlanes, hwaits, hgates, himage, hprog, hrings, hcode, goDry_source _ hp⟩⟩

/-- A polder once nothing sends it to sleep: it idles on only for a pending image or a quiesce (R84). -/
def awake (x : Polder) : Polder :=
  { x with damping := false, drying := false, quiesceSleep := false, closeSleep := false, closed := x.closed && (x.pendingImage.isSome || x.closeCtl) }

theorem toWet_of_wet (h : (s.polder p).sleep = .wet) : s.toWet p = s.setPolder p (awake (s.polder p)) := if_pos h

theorem toWet_of_damp (h : (s.polder p).sleep = .damp) : s.toWet p = s.sleepTo p (awake (s.polder p)) .wet := by
  unfold State.toWet
  refine (if_neg (by simp [h])).trans ?_
  rw [if_neg (by simp [h])]
  rfl

theorem toWet_of_dry (h : (s.polder p).sleep = .dry) : s.toWet p = (s.bump 0x240406).sleepTo p (awake (s.polder p)) .wet := by
  unfold State.toWet
  refine (if_neg (by simp [h])).trans ?_
  rw [if_pos h]
  rfl

theorem toWet_polder (s : State) (p : Nat) : (s.toWet p).polder p = { awake (s.polder p) with sleep := .wet } := by
  cases h : (s.polder p).sleep with
  | wet =>
    rw [toWet_of_wet h, polder_setPolder_same, awake, ← h]
  | damp => rw [toWet_of_damp h, sleepTo_polder]
  | dry => rw [toWet_of_dry h, sleepTo_polder]

end

/-- From `s` to `t` nothing changed but polder `p`, the objects' values and the gatherer. -/
def OnlySleep (p : Nat) (s t : State) : Prop :=
  t = { s with polders := t.polders, regs := t.regs, gath := t.gath } ∧ ∀ k, k ≠ p → t.polder k = s.polder k

theorem OnlyAt.sleep {p : Nat} {s t : State} (h : OnlyAt p s t) : OnlySleep p s t := by
  have hregs : t.regs = s.regs := (congrArg State.regs h.eq :)
  exact ⟨by rw [hregs]; exact h.eq, h.others⟩

theorem OnlySleep.trans {p : Nat} {s t u : State} (h : OnlySleep p s t) (h' : OnlySleep p t u) : OnlySleep p s u :=
  ⟨h'.1.trans (congrArg (fun t : State => { t with polders := u.polders, regs := u.regs, gath := u.gath }) h.1), fun k hk => (h'.2 k hk).trans (h.2 k hk)⟩

theorem bump_onlySleep (s : State) (p k : Nat) : OnlySleep p s (s.bump k) := ⟨rfl, fun _ _ => bump_polder ..⟩

theorem toWet_onlySleep (s : State) (p : Nat) : OnlySleep p s (s.toWet p) := by
  cases h : (s.polder p).sleep with
  | wet => exact toWet_of_wet h ▸ (OnlyAt.setPolder s p _).sleep
  | damp => exact toWet_of_damp h ▸ (OnlyAt.sleepTo s p _ _).sleep
  | dry => exact toWet_of_dry h ▸ (bump_onlySleep s p _).trans (OnlyAt.sleepTo _ p _ _).sleep

theorem OnlyAt.obj {p : Nat} {s t : State} (h : OnlyAt p s t) (k : Nat) : t.obj k = s.obj k :=
  congrArg (fun r => State.obj { s with regs := r } k) (congrArg State.regs h.eq :)

/-- A wake counts in 2404h.06 only. -/
theorem toWet_obj (s : State) (p : Nat) {k : Nat} (hk : k ≠ 0x240406) : (s.toWet p).obj k = s.obj k := by
  cases h : (s.polder p).sleep with
  | wet => exact toWet_of_wet h ▸ (OnlyAt.setPolder s p _).obj k
  | damp => exact toWet_of_damp h ▸ (OnlyAt.sleepTo s p _ _).obj k
  | dry => exact toWet_of_dry h ▸ ((OnlyAt.sleepTo _ p _ _).obj k).trans (obj_bump_ne s hk)

/-- What a polder that is woken goes through: it is wet, a dry one's start is counted, and a change is raised. -/
structure Wakes (p : Nat) (h : SleepHold) (s t : State) : Prop where
  only : OnlySleep p s t
  hold : (t.polder p).sleepHold = h
  sleep : (t.polder p).sleep = .wet
  damping : (t.polder p).damping = false
  drying : (t.polder p).drying = false
  prog : (t.polder p).prog = (s.polder p).prog
  image : (t.polder p).image = (s.polder p).image
  count : (s.polder p).sleep = .dry → t.obj 0x240406 = min (s.obj 0x240406 + 1) (2 ^ 32 - 1)
  raised : (s.polder p).sleep ≠ .wet → t.source (0x49 + 16 * p) = (s.source (0x49 + 16 * p)).arrive

theorem objMax_wakeCount : objMax 0x240406 = 2 ^ 32 - 1 := by decide

theorem wakes_toWet (s : State) {p : Nat} (hp : p < 8) : Wakes p (s.polder p).sleepHold s (s.toWet p) := by
  have hx := toWet_polder s p
  refine ⟨toWet_onlySleep s p, by rw [hx]; rfl, by rw [hx], by rw [hx]; rfl, by rw [hx]; rfl, by rw [hx]; rfl, by rw [hx]; rfl, fun h => ?_, fun h => ?_⟩
  · rw [toWet_of_dry h, ← obj_bump s objMax_wakeCount]
    exact (OnlyAt.sleepTo (s.bump 0x240406) p _ .wet).obj 0x240406
  · cases hs : (s.polder p).sleep with
    | wet => exact absurd hs h
    | damp => rw [toWet_of_damp hs, sleepTo_source _ _ _ _ hp]
    | dry => rw [toWet_of_dry hs, sleepTo_source _ _ _ _ hp, bump_source]

/-! ### The controls (2404h.05) -/

/-- A polder whose hold is recorded. -/
def recordHold (s : State) (p : Nat) (h : SleepHold) : State := s.setPolder p { s.polder p with sleepHold := h }

section
variable {s t : State} {p : Nat} {h : SleepHold}

@[simp] theorem recordHold_polder (s : State) (p : Nat) (h : SleepHold) : (recordHold s p h).polder p = { s.polder p with sleepHold := h } :=
  polder_setPolder_same ..

theorem recordHold_onlyAt (s : State) (p : Nat) (h : SleepHold) : OnlyAt p s (recordHold s p h) := OnlyAt.setPolder s p _

theorem GoesDamp.of_recordHold (ht : GoesDamp p h (recordHold s p h) t) : GoesDamp p h s t := by
  obtain ⟨honly, hhold, hwaits, hgoes⟩ := ht
  rw [recordHold_polder] at hwaits hgoes
  exact ⟨(recordHold_onlyAt s p h).trans honly, hhold, hwaits, hgoes⟩

theorem GoesDry.of_recordHold (ht : GoesDry p h (recordHold s p h) t) : GoesDry p h s t := by
  obtain ⟨honly, hhold, hwaits, hgoes⟩ := ht
  rw [recordHold_polder] at hwaits hgoes
  exact ⟨(recordHold_onlyAt s p h).trans honly, hhold, hwaits, hgoes⟩

theorem Wakes.of_recordHold (ht : Wakes p h (recordHold s p h) t) : Wakes p h s t := by
  obtain ⟨honly, hhold, hsleep, hdamping, hdrying, hprog, himage, hcount, hraised⟩ := ht
  rw [recordHold_polder] at hprog himage hcount hraised
  exact ⟨(recordHold_onlyAt s p h).sleep.trans honly, hhold, hsleep, hdamping, hdrying, hprog, himage, hcount, hraised⟩

theorem wakes_recordHold (s : State) (hp : p < 8) (h : SleepHold) : Wakes p h s ((recordHold s p h).toWet p) := by
  have hwakes := wakes_toWet (recordHold s p h) hp
  rw [recordHold_polder] at hwakes
  exact hwakes.of_recordHold

theorem goesDamp_recordHold (hp : p < 8) (hwet : (s.polder p).sleep = .wet) (hdry : (s.polder p).drying = false) (h : SleepHold) :
    GoesDamp p h s ((recordHold s p h).toDamp p) := by
  have hgoes := goesDamp_toDamp (s := recordHold s p h) hp (by simpa using hwet) (by simpa using hdry)
  rw [recordHold_polder] at hgoes
  exact hgoes.of_recordHold

theorem goesDry_recordHold (hp : p < 8) (hdamp : (s.polder p).sleep = .damp) (hnot : (s.polder p).damping = false) (h : SleepHold) :
    GoesDry p h s ((recordHold s p h).toDry p) := by
  have hgoes := goesDry_toDry (s := recordHold s p h) hp (by simpa using hdamp) (by simpa using hnot)
  rw [recordHold_polder] at hgoes
  exact hgoes.of_recordHold

/-- A damp polder that is to stay so no longer waits to go dry. -/
theorem sleepControl_damp_of_damp (hs : (s.polder p).sleep = .damp) : s.sleepControl p .damp = (recordHold s p .damp).setPolder p
    { s.polder p with sleepHold := .damp, drying := false, quiesceSleep := false, closeSleep := false,
                      closed := (s.polder p).closed && ((s.polder p).pendingImage.isSome || (s.polder p).closeCtl) } := by
  simp [State.sleepControl, recordHold, hs]

theorem sleepControl_damp_of_wet (hs : (s.polder p).sleep = .wet) : s.sleepControl p .damp = (recordHold s p .damp).toDamp p := by
  simp [State.sleepControl, recordHold, hs]

theorem sleepControl_damp_of_dry (hs : (s.polder p).sleep = .dry) : s.sleepControl p .damp = ((recordHold s p .damp).toWet p).toDamp p := by
  simp [State.sleepControl, recordHold, hs]

/-- A dry polder held damp wakes first, and goes damp at once where no program runs. -/
theorem holdDamp_of_dry (hp : p < 8) (hs : (s.polder p).sleep = .dry) (hrun : (s.polder p).prog ≠ .running) (hstop : (s.polder p).prog ≠ .stopping) :
    OnlySleep p s (s.sleepControl p .damp) ∧ ((s.sleepControl p .damp).polder p).sleep = .damp ∧ ((s.sleepControl p .damp).polder p).sleepHold = .damp := by
  have hwakes := wakes_recordHold s hp .damp
  have hgoes := goesDamp_toDamp hp hwakes.sleep hwakes.drying
  rw [sleepControl_damp_of_dry hs]
  obtain ⟨hsleep, -⟩ := hgoes.goes (by rwa [hwakes.prog]) (by rwa [hwakes.prog])
  exact ⟨hwakes.only.trans hgoes.only.sleep, hsleep, hgoes.hold.trans hwakes.hold⟩

/-- A wet polder held dry goes damp and on to dry where no program runs. -/
theorem holdDry_of_wet_idle (hs : (s.polder p).sleep = .wet) (hrun : (s.polder p).prog ≠ .running) (hstop : (s.polder p).prog ≠ .stopping) :
    ((s.sleepControl p .dry).polder p).sleep = .dry ∧ ((s.sleepControl p .dry).polder p).sleepHold = .dry ∧ ((s.sleepControl p .dry).polder p).buf = [] := by
  change (((recordHold s p .dry).toDry p).polder p).sleep = .dry ∧ (((recordHold s p .dry).toDry p).polder p).sleepHold = .dry ∧
    (((recordHold s p .dry).toDry p).polder p).buf = []
  rw [toDry_of_wet (by simpa using hs), toDamp_of_idle (by simpa using hs) (by simpa using hrun) (by simpa using hstop),
    dryAt_of_idle (by simp) (by simp) (by simpa using hrun)]
  obtain ⟨hsleep, hbuf, -, -, -, -, -, -, -, hhold⟩ := goDry_polder (((recordHold s p .dry).setPolder p
    { (recordHold s p .dry).polder p with drying := true }).sleepTo p
      { ((recordHold s p .dry).setPolder p { (recordHold s p .dry).polder p with drying := true }).polder p with damping := false } .damp) p
  exact ⟨hsleep, hhold.trans (by simp), hbuf⟩

/-- Where a program runs it stays wet until its barrier. -/
theorem holdDry_of_wet_running (hs : (s.polder p).sleep = .wet) (hrun : (s.polder p).prog = .running) :
    s.sleepControl p .dry = s.setPolder p { s.polder p with sleepHold := .dry, drying := true, damping := true } := by
  change (recordHold s p .dry).toDry p = _
  rw [toDry_of_wet (by simpa using hs), toDamp_of_busy (by simpa using hs) (.inl (by simpa using hrun))]
  simp [recordHold]

end

/-! ### Automatic sleep (2404h.01) -/

/-- What switching automatic sleep off does to one polder. -/
def wakeUnheld (s : State) (p : Nat) : State := if (s.polder p).sleepHold = .automatic then s.toWet p else s

theorem wakeUnheld_onlySleep (s : State) (p : Nat) : OnlySleep p s (wakeUnheld s p) := by
  unfold wakeUnheld
  split
  · exact toWet_onlySleep s p
  · exact (OnlyAt.refl p s).sleep

theorem foldl_wakeUnheld_obj (l : List Nat) (s : State) : (l.foldl wakeUnheld s).obj 0x240401 = s.obj 0x240401 := by
  induction l generalizing s with
  | nil => rfl
  | cons p l ih =>
    rw [List.foldl_cons, ih, wakeUnheld]
    split
    · exact toWet_obj s p (by decide)
    · rfl

/-- Each polder is woken by its own step, unless it is held. -/
theorem foldl_wakeUnheld_polder (s : State) {p : Nat} (hp : p < 8) : ∃ u : State, u.polder p = s.polder p ∧
    ((List.range 8).foldl wakeUnheld s).polder p = (wakeUnheld u p).polder p := by
  obtain ⟨u, hu, -, heq⟩ := (foldl_polder (fun s q => (wakeUnheld_onlySleep s q).2) (fun s q => (congrArg State.time (wakeUnheld_onlySleep s q).1 :))
    (p := p) (List.range 8) s).2 (by simpa using hp) List.nodup_range
  exact ⟨u, hu, heq⟩

/-- Settles O50: the expiries, wakes and controls, each by the row of the table that it moves the polder along. That a dry polder keeps its rings is
log entry 90, where R400 has them lost. -/
theorem poldersSleepAndWakeByTheTable : Obligations.PoldersSleepAndWakeByTheTable := by
  unfold Obligations.PoldersSleepAndWakeByTheTable
  refine ⟨fun s p => ⟨fun hs hfree hauto hstop hdamp hdry => ?_, fun hno => ?_, fun hs hfree hauto hdamp => ?_, fun hno => ?_, fun hheld => ?_, fun hd hr => ?_, ?_, fun hoff => ?_,
    fun hon => ?_, fun hs hdry => ?_, fun hs => ?_, fun hs hrun hstop => ?_, fun hs hdamp => ?_, fun hs hrun hstop => ?_, fun hs hrun => ?_, fun hs => ?_⟩, fun s => ⟨?_, ?_⟩⟩
  · refine ⟨_, congrArg Host.Outcome.next (if_pos ?_), ?_⟩
    · simp only [hs, (idleFor_iff s p _).mpr hfree, (sleepAuto_iff s p).mpr hauto, decide_true, Bool.and_self, decide_eq_true hstop]
    · have hgoes := goesDamp_toDamp p.isLt hs hdry
      exact ⟨hgoes.only.sleep, hgoes.hold, hgoes.waits, hgoes.goes⟩
  · refine ⟨_, congrArg Host.Outcome.next (if_neg fun hgo => ?_), rfl⟩
    simp only [Bool.and_eq_true, decide_eq_true_eq, idleFor_iff, sleepAuto_iff] at hgo
    tauto
  · refine ⟨_, congrArg Host.Outcome.next (if_pos ?_), ?_⟩
    · simp only [hs, (idleFor_iff s p _).mpr hfree, (sleepAuto_iff s p).mpr hauto, decide_true, Bool.and_self]
    · have hgoes := goesDry_toDry p.isLt hs hdamp
      exact ⟨hgoes.only.sleep, hgoes.hold, hgoes.waits, hgoes.goes⟩
  · refine ⟨_, congrArg Host.Outcome.next (if_neg fun hgo => ?_), rfl⟩
    simp only [Bool.and_eq_true, decide_eq_true_eq, idleFor_iff, sleepAuto_iff] at hgo
    tauto
  · exact ⟨_, congrArg Host.Outcome.next (if_pos (by simpa [Polder.heldDown] using hheld)), rfl⟩
  · obtain ⟨honly, hhold, hsleep, hdamping, hdrying, hprog, himage, hcount, hraised⟩ := wakes_toWet s p.isLt
    exact ⟨_, congrArg Host.Outcome.next (if_neg (by simp [Polder.heldDown, hd, hr])), honly, hsleep, hhold, hdamping, hdrying, hprog, himage, hcount, hraised⟩
  · obtain ⟨honly, hhold, hsleep, hdamping, hdrying, hprog, himage, hcount, hraised⟩ := wakes_recordHold s p.isLt .wet
    exact ⟨_, rfl, honly, hsleep, hhold, hdamping, hdrying, hprog, himage, hcount, hraised⟩
  · obtain ⟨honly, hhold, hsleep, hdamping, hdrying, hprog, himage, hcount, hraised⟩ := wakes_recordHold s p.isLt .automatic
    exact ⟨_, congrArg Host.Outcome.next (if_pos hoff), honly, hsleep, hhold, hdamping, hdrying, hprog, himage, hcount, hraised⟩
  · exact ⟨_, congrArg Host.Outcome.next (if_neg hon), rfl⟩
  · have hgoes := goesDamp_recordHold p.isLt hs hdry .damp
    exact ⟨_, congrArg Host.Outcome.next (sleepControl_damp_of_wet hs), hgoes.only.sleep, hgoes.hold, hgoes.waits, hgoes.goes⟩
  · refine ⟨_, congrArg Host.Outcome.next (sleepControl_damp_of_damp hs), ((recordHold_onlyAt s p .damp).trans (OnlyAt.setPolder _ p _)).sleep, ?_, ?_, ?_⟩
    all_goals simp [hs]
  · exact ⟨_, rfl, holdDamp_of_dry p.isLt hs hrun hstop⟩
  · have hgoes := goesDry_recordHold p.isLt hs hdamp .dry
    exact ⟨_, rfl, hgoes.only.sleep, hgoes.hold, hgoes.waits, hgoes.goes⟩
  · exact ⟨_, rfl, holdDry_of_wet_idle hs hrun hstop⟩
  · exact ⟨_, congrArg Host.Outcome.next (holdDry_of_wet_running hs hrun), by simp [hs]⟩
  · exact ⟨_, rfl, toDry_of_dry (by simpa using hs)⟩
  · exact ⟨_, rfl, obj_setObj_same _ _ _, rfl⟩
  · have hoff : (s.automaticSleep false) = (List.range 8).foldl wakeUnheld (s.setObj 0x240401 0) := rfl
    refine ⟨_, congrArg Host.Outcome.next hoff, (foldl_wakeUnheld_obj _ _).trans (obj_setObj_same _ _ _), fun p hp => ?_⟩
    obtain ⟨u, hu, heq⟩ := foldl_wakeUnheld_polder (s.setObj 0x240401 0) hp
    have hu' : u.polder p = s.polder p := hu
    refine ⟨fun hfree => ?_, fun hheld => ?_⟩
    · rw [heq, wakeUnheld, if_pos (by rw [hu', hfree]), toWet_polder, hu']
      exact ⟨rfl, rfl⟩
    · rw [heq, wakeUnheld, if_neg (by rw [hu']; exact hheld), hu']

end Sys2Proof.Proofs

/-! PROOFS. The first checks of a request (O25): the gate that every request command passes through, the least of its failing fields, and
what each answer of checks 2 and 3 does. -/

namespace Sys2Proof.Proofs
open Sys2Proof.Machine Sys2Proof.Safety Sys2Proof.Laws

/-! ### Every request command is its gate (R117, R118, R160, R194) -/

theorem decide_div_ne_zero (n : Nat) : decide (n / 2 ^ 21 ≠ 0) = decide (2 ^ 21 ≤ n) := by
  simp [Nat.div_eq_zero_iff]

theorem pin_eq_gate (s : State) (r : Req) : ∃ next, s.pin r = s.gate r true false true 0 (wideBad r 3 [(24, 8)] ++
    [(20, 1, decide (2 ^ 21 ≤ hdrField r.hdr 20 4)), (20, 0x0E, Map.has s.seqs r.seqId && decide (s.plannedLowest r.seqId < widePos r.hdr))]) next := by
  rw [← decide_div_ne_zero]
  exact ⟨fun s => s.enterWide r, rfl⟩

theorem release_eq_gate (s : State) (r : Req) : ∃ next, s.release r = s.gate r true false (!s.lostSeqs.contains r.seqId) 0
    (wideBad r 2 (if bit r.flags 1 then [(24, 8)] else [(20, 12)]) ++
      [(20, 1, bit r.flags 1 && decide (2 ^ 21 ≤ hdrField r.hdr 20 4)),
       (20, 0x0E, bit r.flags 1 && Map.has s.seqs r.seqId && decide (s.plannedLowest r.seqId < widePos r.hdr))]) next := by
  rw [← decide_div_ne_zero]
  exact ⟨fun s => s.enterWide r, rfl⟩

theorem fork_eq_gate (s : State) (r : Req) : ∃ next, s.fork r = s.gate r true true true 0 (wideBad r 3 [] ++
    [(20, 1, decide (hdrField r.hdr 26 2 / 16 ≠ 0)), (28, 1, decide (2 ^ 21 ≤ hdrField r.hdr 28 4)),
     (20, 0x0D, Map.has s.seqs (forkChild r.hdr r.seqId)), (20, 0x12, decide (bucketOf (forkChild r.hdr r.seqId) ≠ bucketOf r.seqId)),
     (28, 0x0E, Map.has s.seqs r.seqId && decide (s.plannedLowest r.seqId < forkPos r.hdr))]) next := by
  rw [← decide_div_ne_zero]
  exact ⟨fun s => s.enterWide r, rfl⟩

/-- A FORK of either form: the create flag says which. -/
theorem forks_eq_gate {s : State} {r r' : Req} {write create needs : Bool} {span : Nat} {bad : List (Nat × Nat × Bool)}
    (h : checksOf s (.fork r') = some (r, write, create, needs, span, bad)) :
    ∃ next, (if bit r'.flags 1 then s.forkCreate r' else s.fork r') = s.gate r write create needs span bad next := by
  simp only [checksOf] at h
  split at h <;> cases h
  · exact ⟨_, if_pos ‹_›⟩
  · obtain ⟨next, heq⟩ := fork_eq_gate s r
    exact ⟨next, (if_neg ‹_›).trans heq⟩

/-- A request command is the gate of its checks, whatever stands behind it. -/
theorem exec_eq_gate {s : State} {i : Instr} {r : Req} {write create needs : Bool} {span : Nat} {bad : List (Nat × Nat × Bool)}
    (h : checksOf s i = some (r, write, create, needs, span, bad)) :
    ∃ next, exec i s = .next (s.gate r write create needs span bad next) := by
  cases i
  case fork | forkCreate =>
    obtain ⟨next, heq⟩ := forks_eq_gate h
    exact ⟨next, congrArg _ heq⟩
  case pin | unpin =>
    cases h
    obtain ⟨next, heq⟩ := pin_eq_gate s r
    exact ⟨next, congrArg _ heq⟩
  case release | releaseTruncate =>
    cases h
    obtain ⟨next, heq⟩ := release_eq_gate s r
    exact ⟨next, congrArg _ heq⟩
  case attend =>
    cases h
    exact ⟨fun s => s.enter r (asked (decide (r.byte 27 % 4 ≠ 0)) (if r.byte 27 % 4 = 0 then 0 else 1) (r.byte 24) (r.byte 25)), rfl⟩
  case append | prefill | swapOut | swapIn | flush | abort | abortAll | querySummary | queryLayerCounts | queryTenantUsage =>
    cases h
    exact ⟨_, rfl⟩
  all_goals exact nomatch h

/-! ### The least failing field (R117) -/

/-- One step of the search for the first failing field: a failing one replaces a later one. -/
def sooner (acc : Option (Nat × Nat)) (x : Nat × Nat × Bool) : Option (Nat × Nat) :=
  if x.2.2 then
    match acc with
    | none => some (x.1, x.2.1)
    | some a => if x.1 < a.1 ∨ (x.1 = a.1 ∧ x.2.1 < a.2) then some (x.1, x.2.1) else some a
  else acc

theorem firstBad_eq_foldl (l : List (Nat × Nat × Bool)) : firstBad l = l.foldl sooner none := rfl

/-- A field and detail that no other precedes. -/
def Precedes (off d : Nat) (a : Nat × Nat) : Prop := off < a.1 ∨ (off = a.1 ∧ d ≤ a.2)

/-- What stands after a step stood before it, or is the failing field. -/
theorem sooner_cases {acc : Option (Nat × Nat)} {x : Nat × Nat × Bool} {a : Nat × Nat} (h : sooner acc x = some a) :
    acc = some a ∨ x = (a.1, a.2, true) := by
  obtain ⟨o, e, _ | _⟩ := x
  · exact .inl h
  · cases acc with
    | none => cases h; exact .inr rfl
    | some c =>
      by_cases hlt : o < c.1 ∨ (o = c.1 ∧ e < c.2)
      · cases (if_pos hlt).symm.trans h; exact .inr rfl
      · exact .inl ((if_neg hlt).symm.trans h)

section
variable {off d : Nat}

/-- The least failing field takes the place of any other. -/
theorem sooner_least {acc : Option (Nat × Nat)} (h : ∀ a, acc = some a → Precedes off d a) : sooner acc (off, d, true) = some (off, d) := by
  cases acc with
  | none => rfl
  | some a =>
    by_cases hlt : off < a.1 ∨ (off = a.1 ∧ d < a.2)
    · exact if_pos hlt
    · have hoff : off = a.1 ∧ d = a.2 := by
        have := h a rfl
        unfold Precedes at this
        omega
      obtain ⟨rfl, rfl⟩ := hoff
      exact if_neg hlt

/-- The least failing field keeps its place. -/
theorem sooner_of_least {x : Nat × Nat × Bool} (h : x.2.2 = true → Precedes off d (x.1, x.2.1)) : sooner (some (off, d)) x = some (off, d) := by
  obtain ⟨o, e, _ | _⟩ := x
  · rfl
  · have hle : off < o ∨ (off = o ∧ d ≤ e) := h rfl
    exact if_neg (show ¬ (o < off ∨ (o = off ∧ e < d)) by omega)

theorem foldl_sooner_least {l : List (Nat × Nat × Bool)} {acc : Option (Nat × Nat)} (hacc : ∀ a, acc = some a → Precedes off d a)
    (hl : ∀ o e, (o, e, true) ∈ l → Precedes off d (o, e)) (hmem : acc = some (off, d) ∨ (off, d, true) ∈ l) :
    l.foldl sooner acc = some (off, d) := by
  induction l generalizing acc with
  | nil => exact hmem.resolve_right List.not_mem_nil
  | cons x l ih =>
    refine ih (fun a ha => ?_) (fun o e ho => hl o e (List.mem_cons_of_mem x ho)) ?_
    · rcases sooner_cases ha with h | rfl
      · exact hacc a h
      · exact hl _ _ List.mem_cons_self
    · rcases hmem with rfl | hmem
      · exact .inl (sooner_of_least fun hx => hl x.1 x.2.1 (by rw [← hx]; exact List.mem_cons_self))
      · rcases List.mem_cons.mp hmem with rfl | hmem
        · exact .inl (sooner_least hacc)
        · exact .inr hmem

/-- The first failing field has the least byte offset, and the least detail there (R117). -/
theorem firstBad_eq_some {l : List (Nat × Nat × Bool)} (hmem : (off, d, true) ∈ l) (hl : ∀ o e, (o, e, true) ∈ l → Precedes off d (o, e)) :
    firstBad l = some (off, d) := foldl_sooner_least nofun hl (.inr hmem)

end

/-! ### The gate, check by check (R117, R118, R316, R370) -/

/-- The fields that check 1 judges of a request whose descriptor stands: the key slot that it came under, the reserved bytes of a ring's
entry, and those of its kind. -/
def fieldsOf (s : State) (r : Req) (bad : List (Nat × Nat × Bool)) : List (Nat × Nat × Bool) :=
  (8, 0x14, decide (s.obj (tenantKey r.tenant 0x14) ≠ 0) && decide (r.src.keySlot ≠ s.obj (tenantKey r.tenant 0x14))) :: (61, 1, r.reserved) :: bad

theorem gate_of_not_serving {s : State} {r : Req} {write create needs : Bool} {span : Nat} {bad : List (Nat × Nat × Bool)} {next : State → State}
    (h : s.start.st ≠ .serving) : s.gate r write create needs span bad next = s := if_pos h

section
variable {s : State} {r : Req} {write create needs : Bool} {span : Nat} {bad : List (Nat × Nat × Bool)} {next : State → State}
  (hm : r.src.isMirror = false) (hserving : s.start.st = .serving) (htomb : s.tombOf r = none) (hseq : needs = true → Map.has s.seqs r.seqId = true)
include hm hserving htomb hseq

theorem gate_eq_firstBad : s.gate r write create needs span bad next = match firstBad (fieldsOf s r bad) with
    | some (off, d) =>
      if off = 8 ∧ d = 4 ∧ (s.lostSeqs.contains r.seqId || s.orphan r.seqId) then s.refuse r (lostAnswer r.seqId 0)
      else s.refuse r (.malformed d off)
    | none => match s.checks23 r write create span with
      | .go => if s.lostSeqs.contains r.seqId ∧ needs then s.refuse r (lostAnswer r.seqId 0) else next s
      | .stop a => s.refuse r a
      | .wait i o => s.holdReq r i o := by
  have hmissing (d : Bool) : (needs && !Map.has s.seqs r.seqId && d) = false := by
    cases needs with
    | false => rfl
    | true => simp [hseq rfl]
  have hskip (l : List (Nat × Nat × Bool)) : firstBad ((8, 4, false) :: l) = firstBad l := rfl
  unfold State.gate
  rw [if_neg (not_not_intro hserving), htomb]
  simp only [hmissing, hskip, hm, Bool.not_false, Bool.and_true, Bool.false_eq_true, if_false]
  rfl

/-- A failing field ends a request MALFORMED (R117). -/
theorem gate_of_firstBad {off d : Nat} (h : firstBad (fieldsOf s r bad) = some (off, d)) (hne : ¬ (off = 8 ∧ d = 4)) :
    s.gate r write create needs span bad next = s.refuse r (.malformed d off) := by
  rw [gate_eq_firstBad hm hserving htomb hseq, h]
  exact if_neg fun ⟨ho, hd, _⟩ => hne ⟨ho, hd⟩

variable (hbad : ∀ b ∈ fieldsOf s r bad, b.2.2 = false)
include hbad

theorem gate_of_stop {a : Answer} (h : s.checks23 r write create span = .stop a) : s.gate r write create needs span bad next = s.refuse r a := by
  rw [gate_eq_firstBad hm hserving htomb hseq, firstBad_eq_none hbad, h]

theorem gate_of_wait {c : Nat} {o : Bool} (h : s.checks23 r write create span = .wait c o) :
    s.gate r write create needs span bad next = s.holdReq r c o := by
  rw [gate_eq_firstBad hm hserving htomb hseq, firstBad_eq_none hbad, h]

end

/-! ### Checks 2 and 3 (R316, R359, R370) -/

section
variable {s : State} {r : Req} (write create : Bool) (span : Nat)

theorem checks23_of_fenced (h : s.fence.st = .fenced ∨ r.fence ≠ s.fence.epoch) :
    s.checks23 r write create span = .stop ⟨.fenced, 0, leBytes 4 s.fence.epoch⟩ := by
  unfold State.checks23 State.fenceCheck
  rw [if_pos h]

theorem checks23_of_probation (hst : s.fence.st = .probation) (hfence : r.fence = s.fence.epoch) (hpair : s.pair.st ≠ .paired) :
    s.checks23 r true create span = .stop (.busy 0x0E) := by
  unfold State.checks23 State.fenceCheck
  rw [if_neg (by simp [hst, hfence]), if_pos ⟨hst, hpair, rfl⟩]

variable (hst : s.fence.st = .live) (hfence : r.fence = s.fence.epoch)
include hst hfence

theorem fenceCheck_of_live : s.fenceCheck r.fence write = .go := by
  unfold State.fenceCheck
  rw [if_neg (by simp [hst, hfence]), if_neg (by simp [hst])]

variable {c : Nat} (hc : s.compOf r.tenant = some c)
include hc

/-- A request of a later epoch waits for it (R316). -/
theorem checks23_of_later (h : (s.chart c).epoch < r.epoch) : s.checks23 r write create span = .wait c false := by
  have hchart : s.chartCheck r.seqId r.epoch span create = .wait c false := by
    have hc' : s.compOf (tenantOf r.seqId) = some c := hc
    unfold State.chartCheck
    rw [hc']
    exact if_pos h
  unfold State.checks23
  rw [fenceCheck_of_live write hst hfence, hchart]

/-- A request of an epoch before the last is sent on to the holder (R316). -/
theorem checks23_of_earlier (h : r.epoch + 1 < (s.chart c).epoch) : s.checks23 r write create span =
    .stop (movedAnswer (s.holderNode c r.seqId span) (s.chart c).epoch) := by
  have hchart : s.chartCheck r.seqId r.epoch span create = .stop (movedAnswer (s.holderNode c r.seqId span) (s.chart c).epoch) := by
    have hc' : s.compOf (tenantOf r.seqId) = some c := hc
    unfold State.chartCheck
    rw [hc']
    exact (if_neg (by omega)).trans (if_pos (.inl h))
  unfold State.checks23
  rw [fenceCheck_of_live write hst hfence, hchart]

end

/-! ### The obligation -/

/-- Settles O25: the gate's answers, and the clauses of checks 2 and 3. That nothing is admitted outside SERVING is log entry 94, and an end
under tag 0 log entry 51. -/
theorem admissionAnswersByTheFirstFailingCheck : Obligations.AdmissionAnswersByTheFirstFailingCheck := by
  unfold Obligations.AdmissionAnswersByTheFirstFailingCheck
  refine ⟨?_, fun s r a hm => ⟨refuse_onlyAnswered s r a hm, refuse_answered s r a hm⟩, ?_⟩
  · intro s i r write create needs span bad hc hm
    obtain ⟨next, hexec⟩ := exec_eq_gate hc
    refine ⟨fun h => ⟨_, hexec, gate_of_not_serving h⟩, fun hserving htomb hseq => ⟨fun off d hmem hleast hne => ⟨_, hexec, ?_⟩, fun hbad =>
      ⟨fun a ha => ⟨_, hexec, gate_of_stop hm hserving htomb hseq hbad ha⟩, fun c o hw hroom => ⟨_, hexec, ?_⟩, fun c o hw hfull => ⟨_, hexec, ?_⟩⟩⟩⟩
    · exact gate_of_firstBad hm hserving htomb hseq (firstBad_eq_some hmem hleast) hne
    · rw [gate_of_wait hm hserving htomb hseq hbad hw]
      exact if_neg (Nat.not_le.mpr hroom)
    · rw [gate_of_wait hm hserving htomb hseq hbad hw]
      exact if_pos hfull
  · intro s r write create span
    refine ⟨checks23_of_fenced write create span, fun hst hfence hpair hwrite => ?_, fun hst hfence c hc => ⟨?_, fun h => ?_⟩⟩
    · rw [hwrite]
      exact checks23_of_probation create span hst hfence hpair
    · exact checks23_of_later write create span hst hfence hc
    · exact ⟨_, checks23_of_earlier write create span hst hfence hc h⟩

end Sys2Proof.Proofs

/-! PROOFS. Outputs accumulate, and what the end of a request leaves: the layer that O27 and O33 share. -/

namespace Sys2Proof.Safety
open Sys2Proof.Machine

/-- What came out before a step still stands, behind what the step put out. -/
def OutGrows (s t : State) : Prop := s.out <:+ t.out

theorem OutGrows.of_eq {s t : State} (h : t.out = s.out) : OutGrows s t := ⟨[], h.symm⟩

theorem OutGrows.refl (s : State) : OutGrows s s := .of_eq rfl

theorem OutGrows.trans {s t u : State} (h : OutGrows s t) (g : OutGrows t u) : OutGrows s u := List.IsSuffix.trans h g

theorem OutGrows.ite {s a b : State} {c : Prop} [Decidable c] (h : OutGrows s a) (g : OutGrows s b) : OutGrows s (if c then a else b) := by
  split <;> assumption

theorem OutGrows.foldl {α : Type} {f : State → α → State} (h : ∀ s x, OutGrows s (f s x)) (l : List α) (s : State) : OutGrows s (l.foldl f s) := by
  induction l generalizing s with
  | nil => exact .refl s
  | cons x l ih => exact (h s x).trans (ih _)

theorem OutGrows.mem {s t : State} (h : OutGrows s t) {o : Out} (ho : o ∈ s.out) : o ∈ t.out := h.subset ho

/-- An output that stands first in a state which a step goes through came out in the step. -/
theorem Sent.of_outGrows {s u t : State} {o : Out} (h : OutGrows u t) (ho : u.out = o :: s.out) : Sent s t o := by
  obtain ⟨l, hl⟩ := h
  exact ⟨l, [], by rw [← hl, ho, List.nil_append]⟩

section
variable {s t : State} (h : OnlyAnswered s t)
include h

theorem OnlyAnswered.holds_eq : t.holds = s.holds := by rw [h.2]
theorem OnlyAnswered.seqs_eq : t.seqs = s.seqs := by rw [h.2]
theorem OnlyAnswered.tombs_eq : t.tombs = s.tombs := by rw [h.2]
theorem OnlyAnswered.frames_eq : t.frames = s.frames := by rw [h.2]
theorem OnlyAnswered.charges_eq : t.charges = s.charges := by rw [h.2]
theorem OnlyAnswered.master_eq : t.host.master = s.host.master := by rw [h.2]

end

end Sys2Proof.Safety

namespace Sys2Proof.Proofs
open Sys2Proof.Machine Sys2Proof.Safety Sys2Proof.Laws

/-! ### Outputs of what leaves the device (R269, R285, R295, R335) -/

theorem arrive_outGrows (s : State) (x : Nat) : OutGrows s (s.arrive x) := .of_eq (arrive_out s x)

theorem handOver_outGrows (s : State) (c : Context) : OutGrows s (s.handOver c) := by
  unfold State.handOver
  exact .ite (.ite (.of_eq rfl) (.refl s)) (List.suffix_cons _ _)

theorem reassemble_outGrows {s t : State} {k : Packet} (h : s.reassemble k = some t) : OutGrows s t := by
  have hput (bad done : Prop) [Decidable bad] [Decidable done] (c : Context) (closed opened : List Context)
      (h : (if bad then some (s.bump 0x270008) else if done then some (State.handOver { s with contexts := closed } c)
        else some { s with contexts := opened }) = some t) : OutGrows s t := by
    split_ifs at h <;> cases h
    · exact .of_eq rfl
    · exact handOver_outGrows { s with contexts := closed } c
    · exact .of_eq rfl
  simp only [State.reassemble] at h
  split at h
  · cases h; exact .of_eq rfl
  · split at h
    · split at h
      · cases h; exact .of_eq rfl
      · exact hput _ _ _ _ _ h
    · split at h
      · cases h
      · exact hput _ _ _ _ _ h

theorem fetchRecord_out (s : State) (c : Nat) : (s.fetchRecord c).out = s.out := by
  unfold State.fetchRecord
  split <;> rfl

theorem acceptClear_outGrows {s t : State} {k : Packet} (h : s.acceptClear k = some t) : OutGrows s t := by
  simp only [State.acceptClear] at h
  split at h
  · cases h; exact .of_eq rfl
  · split at h
    · split at h <;> cases h
      exact .ite (.of_eq (fetchRecord_out _ _)) (.of_eq rfl)
    · exact reassemble_outGrows h

theorem accept_outGrows {s t : State} {k : Packet} (h : s.accept k = some t) : OutGrows s t := by
  unfold State.accept at h
  split at h
  · exact acceptClear_outGrows h
  · split at h
    · cases h; exact .of_eq rfl
    · split at h
      · cases h; exact .of_eq rfl
      · obtain ⟨u, hu, rfl⟩ := Option.map_eq_some_iff.mp h
        exact acceptClear_outGrows (t := u) hu

theorem deliverOwn_outGrows (s : State) (k : Packet) : OutGrows s (s.deliverOwn k) := by
  unfold State.deliverOwn
  refine .ite (.of_eq rfl) ?_
  split
  case h_1 t h => exact accept_outGrows h
  case h_2 => exact .of_eq rfl

/-- A packet that came in by no port is discarded without an output. -/
theorem discardNoRoute_out (s : State) (k : Packet) (w : Work) (answer : Bool) (h : w.inPort = none) : (s.discardNoRoute k w answer).out = s.out := by
  simp only [State.discardNoRoute, State.leaveIngress, h]
  exact arrive_out _ _

theorem spray_out (s : State) (w : Work) (k : Packet) (h : w.inPort = none) : (s.spray w k).out = s.out := by
  unfold State.spray
  split
  · rfl
  · rfl
  · exact discardNoRoute_out s k w true h

theorem sourcePacket_outGrows (s : State) (tenant : Option Nat) (flow : Nat) (k : Packet) : OutGrows s (s.sourcePacket tenant flow k) := by
  unfold State.sourcePacket
  refine .ite (deliverOwn_outGrows s k) (.ite (.of_eq rfl) (.ite (.of_eq (discardNoRoute_out s k _ false rfl)) (.ite (.of_eq (spray_out s _ k rfl)) ?_)))
  dsimp only
  split_ifs <;> exact .of_eq rfl

theorem sourceMessage_outGrows (s : State) (kind c dst pol slot msg : Nat) (data : List Nat) (tenant : Option Nat) (flow kindWord : Nat) :
    OutGrows s (s.sourceMessage kind c dst pol slot msg data tenant flow kindWord) := by
  unfold State.sourceMessage
  exact .ite (.refl s) (.foldl (fun s k => sourcePacket_outGrows s tenant flow k) _ s)

theorem sendMirror_onlyAnswered (s : State) (op msg seq refused : Nat) (body : List Nat) : OnlyAnswered s (s.sendMirror op msg seq refused body) :=
  sourceMessage_onlyAnswered s _ _ _ _ _ _ _ _ _ _

/-! ### Outputs of a request's answer (R15, R538, R549) -/

theorem ringEntry_out (s : State) (r : Nat) : (s.ringEntry r).out = s.out := by
  unfold State.ringEntry
  dsimp only
  split
  · exact arrive_out _ _
  · rfl

theorem emit_outGrows (s : State) (o : Out) : OutGrows s (s.emit o) := by
  unfold State.emit
  split
  · split
    · exact ⟨_, (congrArg (_ ++ ·) (ringEntry_out s _)).symm⟩
    · exact .of_eq rfl
  · exact List.suffix_cons _ _

/-- A completion comes out at once to the fabric, and on a ring under Bus Master Enable (R549). -/
theorem mem_emit_completion (s : State) (src : Src) (tag gen status detail : Nat) (body : List Nat) (at_ replyAt : Nat) (data : List Nat)
    (h : s.host.master = true) :
    .completion src tag gen status detail body at_ replyAt data ∈ (s.emit (.completion src tag gen status detail body at_ replyAt data)).out := by
  cases src <;> simp [State.emit, h]

section
variable (s : State) {src : Src} (tag gen tenant replyAt : Nat) (data : List Nat) (a : Answer)

theorem recordDone_reqs (n : Nat) (placed : Bool) : (s.recordDone n placed).reqs = s.reqs := by
  unfold State.recordDone
  split
  · rfl
  · exact (sendMirror_onlyAnswered _ _ _ _ _ _).reqs_eq

theorem recordDone_holds (n : Nat) (placed : Bool) : (s.recordDone n placed).holds = s.holds := by
  unfold State.recordDone
  split
  · rfl
  · exact (sendMirror_onlyAnswered _ _ _ _ _ _).holds_eq

/-- An answer changes no request, whoever sent the one that it answers. -/
theorem reply_reqs : (s.reply src tag gen tenant replyAt data a).reqs = s.reqs := by
  cases src with
  | mirror n => exact recordDone_reqs s n _
  | fabric | ring => exact (reply_onlyAnswered s tag gen tenant replyAt data a rfl).reqs_eq

/-- An answer changes no hold, whoever sent the request that it answers. -/
theorem reply_holds : (s.reply src tag gen tenant replyAt data a).holds = s.holds := by
  cases src with
  | mirror n => exact recordDone_holds s n _
  | fabric | ring => exact (reply_onlyAnswered s tag gen tenant replyAt data a rfl).holds_eq

variable (h : src.isMirror = false)
include h

theorem reply_outGrows : OutGrows s (s.reply src tag gen tenant replyAt data a) := by
  cases src with
  | fabric => exact (sourceMessage_outGrows s _ _ _ _ _ _ _ _ _ _).trans (emit_outGrows _ _)
  | ring => exact (OutGrows.of_eq rfl).trans (emit_outGrows (s.work hostLink 0 _) _)
  | mirror => cases h

/-- A request's completion record is among the outputs where the host may be written (R15, R549). -/
theorem mem_reply_completion (hmaster : s.host.master = true) :
    ∃ data', .completion src tag gen a.status.code a.detail a.statusBody s.time replyAt data' ∈ (s.reply src tag gen tenant replyAt data a).out := by
  cases src with
  | fabric node msg slot sel =>
    have hsent := sourceMessage_onlyAnswered s 2 (s.obj 0x280102) node sel slot msg (if data = [] then a.statusBody else data) (some tenant) tag a.status.code
    refine ⟨[], ?_⟩
    rw [← hsent.time_eq]
    exact mem_emit_completion _ _ _ _ _ _ _ _ _ _ (hsent.master_eq.trans hmaster)
  | ring => exact ⟨_, mem_emit_completion _ _ _ _ _ _ _ _ _ _ hmaster⟩
  | mirror => cases h

end

/-! ### The end of a request, field by field (R15, R187, R220) -/

theorem countStatus_eq_update (s : State) (kind seqId : Nat) (a : Answer) :
    s.countStatus kind seqId a = { s with regs := (s.countStatus kind seqId a).regs } := by
  have hbump (c : Prop) [Decidable c] (k : Nat) : (if c then s.bump k else s) = { s with regs := (if c then s.bump k else s).regs } := by
    split <;> rfl
  unfold State.countStatus
  dsimp only
  rw [hbump]
  split
  · rfl
  · rfl
  · split_ifs <;> rfl
  · rfl

/-- The sequences after a request has ended: its own was last used now, but a QUERY of a tenant names none (R187). -/
def seqsUsed (s : State) (q : Request) : Map Seq :=
  match Map.find s.seqs q.seqId with
  | some e => if decide (q.kind = 11) && decide (hdrField q.hdr 20 1 = 2) then s.seqs else Map.put s.seqs q.seqId { e with lastUse := s.time }
  | none => s.seqs

/-- The state in which a request's completion is written: it is counted and kept, waits on no tombstone, and its tag is free. -/
def closed (s : State) (tag : Nat) (q : Request) (a : Answer) : State :=
  { s with
    regs := if q.src.isMirror then s.regs else (s.countStatus q.kind q.seqId a).regs,
    tombs := if q.kind = 10 then (s.stopWaiting tag).tombs else s.tombs,
    reqs := Map.del s.reqs tag,
    seqs := seqsUsed s q,
    kept := if q.kind = 10 || q.kind = 11 || q.src.isMirror then s.kept else (s.keep ⟨tag, q.gen, q.src, q.seqId, s.time⟩).kept }

theorem complete_eq_closed (s : State) (tag : Nat) (q : Request) (a : Answer) (data : List Nat) :
    s.complete tag q a data = (closed s tag q a).reply q.src tag q.gen (tenantOf q.seqId) q.replyAt data
      (if q.src.isMirror && decide (7 ≤ q.kind) && decide (q.kind ≤ 9) then .ok else a) := by
  have hregs : (if q.src.isMirror then s else s.countStatus q.kind q.seqId a) =
      { s with regs := if q.src.isMirror then s.regs else (s.countStatus q.kind q.seqId a).regs } := by
    split
    · rfl
    · exact countStatus_eq_update s _ _ a
  have htombs (u : State) : (if q.kind = 10 then u.stopWaiting tag else u) =
      { u with tombs := if q.kind = 10 then (u.stopWaiting tag).tombs else u.tombs } := by
    split <;> rfl
  unfold State.complete closed seqsUsed
  rw [hregs]
  dsimp only
  rw [htombs]
  cases Map.find s.seqs q.seqId <;> dsimp only <;> split_ifs <;> rfl

section
variable (s : State) (tag : Nat) (q : Request) (a : Answer) (data : List Nat)

/-- The end of a request frees its tag, whoever sent it. -/
theorem complete_reqs : (s.complete tag q a data).reqs = Map.del s.reqs tag := by
  rw [complete_eq_closed]
  exact reply_reqs (closed s tag q a) tag q.gen (tenantOf q.seqId) q.replyAt data _

theorem complete_holds : (s.complete tag q a data).holds = s.holds := by
  rw [complete_eq_closed]
  exact reply_holds (closed s tag q a) tag q.gen (tenantOf q.seqId) q.replyAt data _

theorem find_complete (k : Nat) : Map.find (s.complete tag q a data).reqs k = if k = tag then none else Map.find s.reqs k := by
  rw [complete_reqs]
  by_cases hk : k = tag
  · rw [if_pos hk, hk, find_del_same]
  · rw [if_neg hk, find_del_ne _ hk]

variable (h : q.src.isMirror = false)
include h

theorem complete_onlyAnswered : OnlyAnswered (closed s tag q a) (s.complete tag q a data) := by
  rw [complete_eq_closed]
  exact reply_onlyAnswered _ _ _ _ _ _ _ h

theorem complete_outGrows : OutGrows s (s.complete tag q a data) := by
  rw [complete_eq_closed]
  exact reply_outGrows (closed s tag q a) _ _ _ _ _ _ h

theorem complete_answered : Answered (s.complete tag q a data) q.src tag q.gen a := by
  rw [complete_eq_closed, h]
  exact reply_answered _ _ _ _ _ _ _ h

theorem mem_complete_completion (hmaster : s.host.master = true) :
    ∃ data', .completion q.src tag q.gen a.status.code a.detail a.statusBody s.time q.replyAt data' ∈ (s.complete tag q a data).out := by
  rw [complete_eq_closed, h]
  exact mem_reply_completion (closed s tag q a) tag q.gen (tenantOf q.seqId) q.replyAt data a h hmaster

end

end Sys2Proof.Proofs

/-! PROOFS. Holds that lift (O27): fresh frames taken page by page, entries placed on the rings, the three ends of a request whose base is
fixed, replays, and holds whose bound passes. -/

namespace Sys2Proof.Proofs
open Sys2Proof.Machine Sys2Proof.Safety Sys2Proof.Laws

/-! ### Fresh frames (R122, R165, R166, R182) -/

theorem read_clear (m : List Host.Cell) (a n x : Nat) : Memory.read (Memory.clear m a n) x = if a ≤ x ∧ x < a + n then 0 else Memory.read m x := by
  have hkeep : Map.find (Memory.clear m a n) x = if !(decide (a ≤ x) && decide (x < a + n)) then Map.find m x else none :=
    find_keep_key m (fun j => !(decide (a ≤ j) && decide (j < a + n))) x
  unfold Memory.read Map.getD
  rw [hkeep]
  by_cases h : a ≤ x ∧ x < a + n
  · simp [h]
  · have hout : (!(decide (a ≤ x) && decide (x < a + n))) = true := by
      simp only [Bool.not_eq_true', Bool.and_eq_false_iff, decide_eq_false_iff_not]
      omega
    rw [if_neg h, if_pos hout]

/-- A frame that is picked lies in the stack that was asked (R182). -/
theorem pickBeside_go_lt {s : State} {p : Nat} {l : List Nat} {n f k : Nat} (h : State.pickBeside.go s p l f n = some k) :
    ∃ i, k = p * 2 ^ 21 + i ∧ i < f + n := by
  induction n generalizing f with
  | zero => exact nomatch h
  | succ n ih =>
    unfold State.pickBeside.go at h
    dsimp only at h
    split at h
    · obtain ⟨i, hk, hi⟩ := ih h
      exact ⟨i, hk, by omega⟩
    · cases h
      exact ⟨f, rfl, by omega⟩

theorem framePolder_of_pickFrame {s : State} {p k : Nat} (h : s.pickFrame p = some k) : framePolder k = p := by
  obtain ⟨i, rfl, hi⟩ := pickBeside_go_lt h
  have htop : Config.framesPerStack - 16 * s.bodyMiB - s.obj 0x2B4002 ≤ 0x10C300 := by
    unfold Config.framesPerStack
    omega
  unfold framePolder
  omega

/-- Frames `ks` were taken: they hold zero, no byte of another frame changed, and no ring and no image. -/
def TookFrames (ks : List Nat) (s t : State) : Prop :=
  (∀ a, Memory.read t.mem a = if a / 65536 ∈ ks then 0 else Memory.read s.mem a) ∧
  (∀ p, (t.polder p).rings = (s.polder p).rings ∧ (t.polder p).image = (s.polder p).image) ∧
  t = { s with frames := t.frames, mem := t.mem, sideband := t.sideband, polders := t.polders }

theorem TookFrames.refl (s : State) : TookFrames [] s s := ⟨fun _ => rfl, fun _ => ⟨rfl, rfl⟩, rfl⟩

section
variable {ks : List Nat} {s t : State} (h : TookFrames ks s t)
include h

theorem TookFrames.seqs_eq : t.seqs = s.seqs := by rw [h.2.2]

theorem TookFrames.read_of_mem {k o : Nat} (hk : k ∈ ks) (ho : o < 65536) : Memory.read t.mem (k * 65536 + o) = 0 := by
  rw [h.1, if_pos (by rwa [show (k * 65536 + o) / 65536 = k by omega])]

theorem TookFrames.read_of_not_mem {a : Nat} (ha : a / 65536 ∉ ks) : Memory.read t.mem a = Memory.read s.mem a := by
  rw [h.1, if_neg ha]

end

theorem TookFrames.trans {ks ls : List Nat} {s t u : State} (h : TookFrames ks s t) (g : TookFrames ls t u) : TookFrames (ks ++ ls) s u := by
  obtain ⟨hmem, hpolder, heq⟩ := h
  obtain ⟨gmem, gpolder, geq⟩ := g
  refine ⟨fun a => ?_, fun p => ⟨(gpolder p).1.trans (hpolder p).1, (gpolder p).2.trans (hpolder p).2⟩, geq.trans (by rw [heq])⟩
  rw [gmem, hmem]
  by_cases hl : a / 65536 ∈ ls <;> by_cases hk : a / 65536 ∈ ks <;> simp [hl, hk]

section
variable {u : State} {sh : Shape} {seqId layer top : Nat} {q : Seq}

/-- One page's frame is of the polder where the page is placed (R122). -/
theorem takeFrame_some {s : State} {t : Touch} {w : Nat × Nat × Nat} (h : s.takeFrame sh seqId layer top q t = some (u, w)) :
    framePolder w.2.1 = pagePolder q.base t.group t.page ∧ TookFrames [w.2.1] s u := by
  unfold State.takeFrame at h
  dsimp only at h
  split at h
  case h_1 => exact nomatch h
  case h_2 k hk =>
    obtain ⟨rfl, rfl⟩ := Prod.mk.inj (Option.some.inj h)
    refine ⟨framePolder_of_pickFrame hk, fun a => ?_, fun p => ?_, ?_⟩
    · have hmem (c : Prop) [Decidable c] (v : State) (p : Nat) (x : Polder) : (if c then v.setPolder p x else v).mem = v.mem := by split <;> rfl
      rw [hmem]
      have hin : (k * 65536 ≤ a ∧ a < k * 65536 + 65536) ↔ a / 65536 ∈ [k] := by
        rw [List.mem_singleton]
        omega
      exact (read_clear s.mem (k * 65536) 65536 a).trans (if_congr hin rfl rfl)
    · split
      · simp only [polder_setPolder]
        split
        · subst p; exact ⟨rfl, rfl⟩
        · exact ⟨rfl, rfl⟩
      · exact ⟨rfl, rfl⟩
    · split <;> rfl

theorem takeFrames_some {s : State} {l : List Touch} {ws : List (Nat × Nat × Nat)} (h : s.takeFrames sh seqId layer top q l = some (u, ws)) :
    ws.map (fun w => framePolder w.2.1) = l.map (fun t => pagePolder q.base t.group t.page) ∧ TookFrames (ws.map fun w => w.2.1) s u := by
  induction l generalizing s ws with
  | nil =>
    cases h
    exact ⟨rfl, .refl _⟩
  | cons t l ih =>
    unfold State.takeFrames at h
    split at h
    case h_1 => exact nomatch h
    case h_2 v w hw =>
      split at h
      case h_1 => exact nomatch h
      case h_2 v' ws' hws =>
        cases h
        obtain ⟨hp, htook⟩ := takeFrame_some hw
        obtain ⟨hps, htooks⟩ := ih hws
        exact ⟨by rw [List.map_cons, List.map_cons, hp, hps], htook.trans htooks⟩

end

/-! ### Entries on the rings (R58, R120, R123) -/

/-- The entries, of those to be placed, that go to a ring of a polder. -/
def entriesOn (im : Option Image) (p r : Nat) (es : List (Nat × RingEntry)) : List RingEntry :=
  (es.filter fun x => decide (x.1 = p) && decide (ringOf im x.2.kind x.2.bucket = r)).map Prod.snd

theorem enring_rings (s : State) (p k r : Nat) (e : RingEntry) : Map.getD ((s.enring k e).polder p).rings r [] =
    Map.getD (s.polder p).rings r [] ++ entriesOn (s.polder p).image p r [(k, e)] := by
  unfold State.enring entriesOn
  dsimp only
  rw [polder_setPolder]
  by_cases hp : p = k
  · subst hp
    rw [if_pos rfl, getD_put]
    by_cases hr : r = ringOf (s.polder p).image e.kind e.bucket
    · simp [← hr]
    · simp [hr, Ne.symm hr]
  · simp [hp, Ne.symm hp]

theorem enring_image (s : State) (p k : Nat) (e : RingEntry) : ((s.enring k e).polder p).image = (s.polder p).image := by
  unfold State.enring
  dsimp only
  rw [polder_setPolder]
  split
  · subst p; rfl
  · rfl

/-- Put entries on their polders' rings in turn. -/
def enringAll (s : State) (es : List (Nat × RingEntry)) : State := es.foldl (fun s x => s.enring x.1 x.2) s

theorem enringAll_eq_update (s : State) (es : List (Nat × RingEntry)) : enringAll s es = { s with polders := (enringAll s es).polders } := by
  unfold enringAll
  induction es generalizing s with
  | nil => rfl
  | cons x es ih => exact ih (s.enring x.1 x.2)

/-- Each ring gains its entries, in their order, behind those that it held. -/
theorem enringAll_rings (es : List (Nat × RingEntry)) (s : State) (p r : Nat) : Map.getD ((enringAll s es).polder p).rings r [] =
    Map.getD (s.polder p).rings r [] ++ entriesOn (s.polder p).image p r es := by
  unfold enringAll
  induction es generalizing s with
  | nil => simp [entriesOn]
  | cons x es ih =>
    rw [List.foldl_cons, ih, enring_rings, enring_image, List.append_assoc]
    simp only [entriesOn, ← List.map_append, ← List.filter_append, List.singleton_append]

/-- The record of a request that awaits a report for each of `n` entries. -/
def awaiting (q : Request) (n : Nat) : Request := { q with phase := .running, outstanding := n, reports := [], tainted := [] }

theorem place_eq_enringAll (s : State) (tag : Nat) (q : Request) (e : Seq) (sh : Shape) (project : Bool) :
    s.place tag q e sh project = (enringAll s (entriesOf s tag q e sh project)).setReq tag
      (awaiting q (entriesOf s tag q e sh project).length) := rfl

/-- Placing a request changes its polders' rings and its own record. -/
theorem place_eq_update (s : State) (tag : Nat) (q : Request) (e : Seq) (sh : Shape) (project : Bool) :
    s.place tag q e sh project = { s with
      polders := (s.place tag q e sh project).polders,
      reqs := Map.put s.reqs tag (awaiting q (entriesOf s tag q e sh project).length) } := by
  rw [place_eq_enringAll, enringAll_eq_update]
  rfl

section
variable (s : State) (tag : Nat) (q : Request) (e : Seq) (sh : Shape) (project : Bool)

theorem place_frames : (s.place tag q e sh project).frames = s.frames := by rw [place_eq_update]
theorem place_seqs : (s.place tag q e sh project).seqs = s.seqs := by rw [place_eq_update]
theorem place_mem : (s.place tag q e sh project).mem = s.mem := by rw [place_eq_update]

theorem find_place : Map.find (s.place tag q e sh project).reqs tag = some (awaiting q (entriesOf s tag q e sh project).length) := by
  rw [place_eq_update]
  exact find_put_same _ _ _

theorem place_rings (p r : Nat) : Map.getD ((s.place tag q e sh project).polder p).rings r [] =
    Map.getD (s.polder p).rings r [] ++ entriesOn (s.polder p).image p r (entriesOf s tag q e sh project) :=
  enringAll_rings (entriesOf s tag q e sh project) s p r

end

theorem entriesOf_request {s : State} {tag : Nat} {q : Request} {e : Seq} {sh : Shape} {project : Bool} {x : Nat × RingEntry}
    (h : x ∈ entriesOf s tag q e sh project) : x.2.tag = tag ∧ x.2.seqId = q.seqId ∧ x.2.limit = q.limit := by
  rcases List.mem_append.mp h with h | h
  · obtain ⟨g, -, h⟩ := List.mem_flatMap.mp h
    obtain ⟨p, -, rfl⟩ := List.mem_map.mp h
    exact ⟨rfl, rfl, rfl⟩
  · split at h
    · obtain ⟨p, -, rfl⟩ := List.mem_map.mp h
      exact ⟨rfl, rfl, rfl⟩
    · exact absurd h List.not_mem_nil

theorem bucketFor_le {limit k : Nat} (hk : k < 10) (h : limit ≤ 2 ^ (11 + k)) : bucketFor limit ≤ k := by
  unfold bucketFor
  cases hf : (List.range 10).find? fun k => decide (limit ≤ 2 ^ (11 + k)) with
  | none => exact absurd h (by simpa using List.find?_eq_none.mp hf k (List.mem_range.mpr hk))
  | some b =>
    obtain ⟨-, -, hleast⟩ := List.find?_range_eq_some.mp hf
    exact Nat.le_of_not_lt fun hlt => by simpa [h] using hleast k hlt

/-! ### A base is fixed (R119, R124, R162, R207) -/

/-- A request whose base and limit are fixed. -/
def fixed (q : Request) (base : Nat) : Request := { q with base := base, limit := base + q.tokens, bucket := bucketFor (base + q.tokens) }

/-- The pages that a request's tokens touch from a base on (R165). -/
def touches (q : Request) (sh : Shape) (base : Nat) : List Touch :=
  touched base q.tokens (q.firstHead / sh.n) ((q.firstHead + q.heads + sh.n - 1) / sh.n)

section
variable {s : State} {tag : Nat} {q : Request} {e : Seq}

theorem bind_of_empty (h0 : e.tokens q.layer + q.tokens = 0) (hk : q.kind = 1) : s.bind tag q e =
    s.finishOk tag { fixed q (e.tokens q.layer) with results := [(0, emptyPartials q (s.shape e.binding))] } := if_pos ⟨h0, hk⟩

theorem bind_of_lost (h0 : e.tokens q.layer + q.tokens ≠ 0) (hk : q.kind = 1) (hlost : q.lostPages (s.shape e.binding) e ≠ []) :
    s.bind tag q e = s.fail tag (fixed q (e.tokens q.layer)) (lostPagesAnswer q.layer (q.lostPages (s.shape e.binding) e)) :=
  (if_neg fun h => h0 h.1).trans (if_pos ⟨hlost, .inl hk⟩)

theorem bind_of_frames (h0 : e.tokens q.layer + q.tokens ≠ 0 ∨ q.kind ≠ 1) (hlost : q.lostPages (s.shape e.binding) e = []) {u : State}
    {ws : List (Nat × Nat × Nat)} (hws : s.takeFrames (s.shape e.binding) q.seqId q.layer (e.tokens q.layer + q.tokens) e
      (touches q (s.shape e.binding) (e.tokens q.layer)) = some (u, ws)) :
    s.bind tag q e = (u.chargeBy (tenantOf q.seqId) fun c =>
      { c with r1 := c.r1 + freshPages (touches q (s.shape e.binding) (e.tokens q.layer)) - q.t1 }).place tag
      { fixed q (e.tokens q.layer) with t1 := freshPages (touches q (s.shape e.binding) (e.tokens q.layer)), plan := [], writes := ws } e
      (s.shape e.binding) q.projects := by
  have hempty : ¬ (e.tokens q.layer + q.tokens = 0 ∧ q.kind = 1) := fun h => h0.elim (· h.1) (· h.2)
  have hnot : ¬ ((fixed q (e.tokens q.layer)).lostPages (s.shape e.binding) e ≠ [] ∧ (q.kind = 1 ∨ q.attn ≠ 0)) := fun h => h.1 hlost
  unfold touches at hws
  unfold fixed at hnot
  unfold State.bind
  dsimp only [Request.groupSpan]
  rw [if_neg hempty, if_neg hnot, hws]
  rfl

/-- An ATTEND that reads only ends OK with its PARTIALs, before its completion (R131, R168). -/
theorem finishOk_of_results (hm : q.src.isMirror = false) (hk : q.kind = 1) (hw : q.isWrite = false) (hexh : s.exhausted q.src.keySlot = false)
    {bs : List Nat} (hbs : bs ≠ []) (hres : q.results = [(0, bs)]) : ∃ u : State, u.reqs = s.reqs ∧ u.out = .partials tag bs :: s.out ∧
      s.finishOk tag q = u.complete tag q .ok bs := by
  have hmirrored : s.mirrored q = false := by simp [State.mirrored, hw, hk, wideKind]
  have hparts : (Map.vals q.results).flatten = bs := by simp [hres, Map.vals]
  have hmeter : s.meterRequest q = s.meterAdd (tenantOf q.seqId) 3 (q.limit * q.heads) := by simp [State.meterRequest, hk, hw]
  refine ⟨{ s.meterRequest q with bodies := Map.keep s.bodies fun _ b => decide (b.tag ≠ tag), out := .partials tag bs :: s.out }, ?_, rfl, ?_⟩
  · rw [hmeter]; rfl
  · unfold State.finishOk
    rw [if_neg (by simp [hexh]), if_neg (by simp [hmirrored])]
    unfold State.commit
    simp [hw, hm, hk, hparts, hbs, hmeter, State.meterAdd]

end

theorem emptyPartials_ne_nil {q : Request} {sh : Shape} (h : 0 < q.heads * sh.g) : emptyPartials q sh ≠ [] := by
  intro hnil
  unfold emptyPartials at hnil
  have h0 := List.flatMap_eq_nil_iff.mp hnil 0 (List.mem_range.mpr h)
  simp [leBytes] at h0

/-! ### ATTEND_TOKEN_LIMIT and TOKEN_BASE (R119, R162, R192) -/

/-- The command that fixes the base of a request of this kind. -/
def FixesBase (i : Instr) (tag : Nat) (q : Request) : Prop := i = .attendTokenLimit tag ∧ q.kind = 1 ∨ i = .tokenBase tag ∧ (q.kind = 2 ∨ q.kind = 3)

section
variable {s : State} {tag : Nat} {q : Request} {i : Instr} (hq : Map.find s.reqs tag = some q) (hi : FixesBase i tag q)
include hq hi

theorem exec_fixesBase : exec i s = .next (if q.phase = .held then s.lift tag q else s) := by
  rcases hi with ⟨rfl, hk⟩ | ⟨rfl, hk⟩
  · change Host.Outcome.next (s.tokenLimit tag) = _
    simp [State.tokenLimit, hq, hk]
  · change Host.Outcome.next (s.tokenBase tag) = _
    simp [State.tokenBase, hq, hk]

/-- A request that is held, or past its hold, stays as it is. -/
theorem fixesBase_idle (h : q.phase ≠ .held ∨ s.heldBack q = true) : Runs i s fun t => t = s := by
  refine ⟨_, exec_fixesBase hq hi, ?_⟩
  by_cases hp : q.phase = .held
  · rw [if_pos hp]
    exact if_pos (h.resolve_left (not_not_intro hp))
  · exact if_neg hp

variable {e : Seq} (hp : q.phase = .held) (hh : s.heldBack q = false) (hc : q.checked = true) (hs : Map.find s.seqs q.seqId = some e)
include hp hh hc hs

/-- A request that nothing holds, and whose checks are made, is bound. -/
theorem exec_bind : exec i s = .next (s.bind tag q e) := by
  rw [exec_fixesBase hq hi, if_pos hp]
  simp [State.lift, hh, hs, hc]

/-- Any other request takes its fresh frames, and its entries stand on the rings (R122, R123, R165). -/
theorem fixesBase_bound (h0 : e.tokens q.layer + q.tokens ≠ 0 ∨ q.kind ≠ 1) (hlost : q.lostPages (s.shape e.binding) e = []) {u : State}
    {ws : List (Nat × Nat × Nat)} (hws : s.takeFrames (s.shape e.binding) q.seqId q.layer (e.tokens q.layer + q.tokens) e
      (touches q (s.shape e.binding) (e.tokens q.layer)) = some (u, ws)) : Runs i s fun t => ∃ q',
    Map.find t.reqs tag = some q' ∧ q'.phase = .running ∧ q'.base = e.tokens q.layer ∧ q'.limit = e.tokens q.layer + q.tokens ∧
    q'.writes = ws ∧ q'.reports = [] ∧ (∀ k, k < 10 → e.tokens q.layer + q.tokens ≤ 2 ^ (11 + k) → q'.bucket ≤ k) ∧
    t.frames = u.frames ∧ t.seqs = s.seqs ∧
    (∀ w ∈ ws, ∀ o, o < 65536 → Memory.read t.mem (w.2.1 * 65536 + o) = 0) ∧
    (∀ a, (∀ w ∈ ws, a / 65536 ≠ w.2.1) → Memory.read t.mem a = Memory.read s.mem a) ∧
    ∃ es : List (Nat × RingEntry), q'.outstanding = es.length ∧
      (∀ x ∈ es, x.2.tag = tag ∧ x.2.seqId = q.seqId ∧ x.2.limit = e.tokens q.layer + q.tokens) ∧
      ∀ p r, Map.getD (t.polder p).rings r [] = Map.getD (s.polder p).rings r [] ++ entriesOn (s.polder p).image p r es := by
  have htook := (takeFrames_some hws).2
  refine ⟨_, exec_bind hq hi hp hh hc hs, ?_⟩
  rw [bind_of_frames h0 hlost hws]
  refine ⟨_, find_place _ _ _ _ _ _, rfl, rfl, rfl, rfl, rfl, fun k hk hle => bucketFor_le hk hle, place_frames _ _ _ _ _ _,
    (place_seqs _ _ _ _ _ _).trans htook.seqs_eq, fun w hw o ho => ?_, fun a ha => ?_, _, rfl, fun x hx => entriesOf_request hx, fun p r => ?_⟩
  · rw [place_mem]
    exact htook.read_of_mem (List.mem_map_of_mem hw) ho
  · rw [place_mem]
    refine htook.read_of_not_mem fun hmem => ?_
    obtain ⟨w, hw, heq⟩ := List.mem_map.mp hmem
    exact ha w hw heq.symm
  · obtain ⟨hrings, himage⟩ := htook.2.1 p
    rw [place_rings, ← hrings, ← himage]
    rfl

variable (hm : q.src.isMirror = false)
include hm

theorem fixesBase_empty (h0 : e.tokens q.layer + q.tokens = 0) (hk : q.kind = 1) (hw : q.isWrite = false) (hexh : s.exhausted q.src.keySlot = false)
    (hheads : 0 < q.heads * (s.shape e.binding).g) :
    Runs i s fun t => Ended s t tag q .ok ∧ Sent s t (.partials tag (emptyPartials q (s.shape e.binding))) := by
  refine ⟨_, exec_bind hq hi hp hh hc hs, ?_⟩
  obtain ⟨u, hreqs, hout, heq⟩ := finishOk_of_results (s := s) (tag := tag)
    (q := { fixed q (e.tokens q.layer) with results := [(0, emptyPartials q (s.shape e.binding))] }) hm hk hw hexh (emptyPartials_ne_nil hheads) rfl
  rw [bind_of_empty h0 hk, heq]
  exact ⟨ended_of_complete s u tag _ _ _ hm fun _ _ => by rw [hreqs], .of_outGrows (complete_outGrows u tag _ _ _ hm) hout⟩

theorem fixesBase_lost (hlost : q.lostPages (s.shape e.binding) e ≠ []) (h0 : e.tokens q.layer + q.tokens ≠ 0) (hk : q.kind = 1) :
    Runs i s fun t => Ended s t tag q (lostPagesAnswer q.layer (q.lostPages (s.shape e.binding) e)) := by
  refine ⟨_, exec_bind hq hi hp hh hc hs, ?_⟩
  rw [bind_of_lost h0 hk hlost]
  exact ended_of_fail s s tag (fixed q (e.tokens q.layer)) _ hm rfl

end

/-! ### REPLAY (R138) -/

/-- The health of a frame; one that holds no page is good. -/
def healthOf (s : State) (f : Nat) : Health := match Map.find s.frames f with | some x => x.health | none => .good

theorem healthOf_ne_good {s : State} {f : Nat} : healthOf s f ≠ .good ↔ ∃ x, Map.find s.frames f = some x ∧ x.health ≠ .good := by
  unfold healthOf
  cases Map.find s.frames f <;> simp

theorem healthOf_eq_lost {s : State} {f : Nat} : healthOf s f = .lost ↔ ∃ x, Map.find s.frames f = some x ∧ x.health = .lost := by
  unfold healthOf
  cases Map.find s.frames f <;> simp

section
variable {s : State} {tag : Nat} {q : Request} {e : Seq} (hq : Map.find s.reqs tag = some q) (hp : q.phase = .recover)
  (hs : Map.find s.seqs q.seqId = some e) (hweights : ∀ x ∈ q.reports, x.1 ≠ 0x10)
include hq hp hs hweights

/-- A request whose lanes have reported goes by its tainted frames: one that is lost, one that is on the ladder, or every one good. -/
theorem replay_eq : s.replay tag =
    if q.tainted.any fun f => decide (healthOf s f = .lost) then
      s.fail tag q (lostPagesAnswer q.layer (q.lostPages (s.shape e.binding) e))
    else if q.tainted.any fun f => decide (healthOf s f ≠ .good) then s
    else (s.place tag { q with replayed := true, results := [] } e (s.shape e.binding)
      (q.projects && (decide (q.kind ≠ 1) || q.writes.any fun w => !q.written.contains w.2.1))).bump 0x2B1101 := by
  have hno : q.reports.any (fun x => decide (x.1 = 0x10)) = false := by simpa using hweights
  unfold State.replay
  rw [hq]
  dsimp only
  rw [if_neg (by simp [hp, hno]), hs]
  rfl

theorem replay_of_good (h : ∀ f ∈ q.tainted, healthOf s f = .good) : ∃ (n : Nat) (v : State), s.replay tag = v.bump 0x2B1101 ∧
    Map.find v.reqs tag = some (awaiting { q with replayed := true, results := [] } n) ∧ v.frames = s.frames ∧ v.seqs = s.seqs := by
  rw [replay_eq hq hp hs hweights, if_neg (by simpa using fun f hf => by simp [h f hf]), if_neg (by simpa using h)]
  exact ⟨_, _, rfl, find_place _ _ _ _ _ _, place_frames _ _ _ _ _ _, place_seqs _ _ _ _ _ _⟩

theorem replay_of_lost (h : ∃ f ∈ q.tainted, healthOf s f = .lost) :
    s.replay tag = s.fail tag q (lostPagesAnswer q.layer (q.lostPages (s.shape e.binding) e)) := by
  rw [replay_eq hq hp hs hweights, if_pos (by simpa using h)]

theorem replay_of_waiting (hno : ∀ f ∈ q.tainted, healthOf s f ≠ .lost) (h : ∃ f ∈ q.tainted, healthOf s f ≠ .good) : s.replay tag = s := by
  rw [replay_eq hq hp hs hweights, if_neg (by simpa using hno), if_pos (by simpa using h)]

end

/-! ### EPOCH_HOLD_EXPIRY (R316) -/

/-- A held request whose bound has passed ends. -/
theorem epochHoldExpiry_of_past {s : State} {k : Nat} {h : ChartHold} (hk : Map.find s.holds k = some h)
    (hpast : s.obj (recKey 0x2440 h.comp 8) ≤ s.since h.since) :
    s.epochHoldExpiry k = { s with holds := Map.del s.holds k }.refuse h.req (holdAnswer h.order4) := by
  unfold State.epochHoldExpiry
  rw [hk]
  exact if_neg (Nat.not_lt.mpr hpast)

theorem epochHoldExpiry_of_early {s : State} {k : Nat} (h : ∀ x, Map.find s.holds k = some x → s.since x.since < s.obj (recKey 0x2440 x.comp 8)) :
    s.epochHoldExpiry k = s := by
  unfold State.epochHoldExpiry
  split
  · rfl
  · exact if_pos (h _ ‹_›)

/-! ### The obligation -/

/-- Settles O27: the clauses of ATTEND_TOKEN_LIMIT and TOKEN_BASE, of REPLAY and of EPOCH_HOLD_EXPIRY. That a fresh frame holds zero is log entry
140, and the rings' keys log entry 20. -/
theorem holdsLiftAndLanesAreBound : Obligations.HoldsLiftAndLanesAreBound := by
  unfold Obligations.HoldsLiftAndLanesAreBound
  refine ⟨?_, ?_, ?_⟩
  · intro s tag q i hq hi
    refine ⟨fixesBase_idle hq hi, fun e hp hh hc hs hm => ?_⟩
    exact ⟨fixesBase_empty hq hi hp hh hc hs hm, fixesBase_lost hq hi hp hh hc hs hm, fun h0 hlost u ws hws =>
      ⟨(takeFrames_some hws).1, fixesBase_bound hq hi hp hh hc hs h0 hlost hws⟩⟩
  · intro s tag q e hq hp hs hweights
    refine ⟨fun hgood => ⟨_, rfl, ?_⟩, fun hlost hm => ⟨_, rfl, ?_⟩, fun hno hbad => ⟨_, rfl, ?_⟩⟩
    · obtain ⟨n, v, heq, hfind, hframes, hseqs⟩ := replay_of_good hq hp hs hweights fun f hf =>
        of_not_not fun hne => (healthOf_ne_good.mp hne).elim fun x hx => hx.2 (hgood f hf x hx.1)
      rw [heq]
      exact ⟨_, hfind, rfl, rfl, rfl, rfl, rfl, hframes, hseqs⟩
    · obtain ⟨f, hf, hx⟩ := hlost
      rw [replay_of_lost hq hp hs hweights ⟨f, hf, healthOf_eq_lost.mpr hx⟩]
      exact ⟨_, rfl, ended_of_fail s s tag q _ hm rfl⟩
    · obtain ⟨f, hf, hx⟩ := hbad
      exact replay_of_waiting hq hp hs hweights (fun f hf hlost => (healthOf_eq_lost.mp hlost).elim fun x hx => hno f hf x hx.1 hx.2)
        ⟨f, hf, healthOf_ne_good.mpr hx⟩
  · intro s k
    refine ⟨fun h hk hm hpast => ⟨_, rfl, ?_⟩, fun h => ⟨_, rfl, epochHoldExpiry_of_early h⟩⟩
    rw [epochHoldExpiry_of_past hk hpast]
    have hanswered := refuse_onlyAnswered { s with holds := Map.del s.holds k } h.req (holdAnswer h.order4) hm
    have hholds : ({ s with holds := Map.del s.holds k }.refuse h.req (holdAnswer h.order4)).holds = Map.del s.holds k := hanswered.holds_eq
    refine ⟨?_, fun j hj => ?_, refuse_answered _ _ _ hm, ?_⟩
    · rw [hholds, find_del_same]
    · rw [hholds, find_del_ne _ hj]
    · rw [hholds]
      exact hanswered

end Sys2Proof.Proofs

/-! PROOFS. ABORT, its tombstones, and QUERY (O33): requests ended one after another, what an ABORT finds, and what a QUERY reads. -/

namespace Sys2Proof.Proofs
open Sys2Proof.Machine Sys2Proof.Safety Sys2Proof.Laws

/-! ### A request that is ended from outside (R137, R193) -/

/-- What the undoing of a move and the voiding of lanes leave: the requests, the outputs, the time, and the host's access. -/
def SameRequests (s t : State) : Prop :=
  t.reqs = s.reqs ∧ t.holds = s.holds ∧ t.out = s.out ∧ t.time = s.time ∧ t.host = s.host

theorem SameRequests.refl (s : State) : SameRequests s s := ⟨rfl, rfl, rfl, rfl, rfl⟩

theorem SameRequests.reqs_eq {s t : State} (h : SameRequests s t) : t.reqs = s.reqs := h.1

theorem SameRequests.trans {s t u : State} (h : SameRequests s t) (g : SameRequests t u) : SameRequests s u := by
  obtain ⟨hr, hh, ho, ht, hm⟩ := h
  obtain ⟨gr, gh, go, gt, gm⟩ := g
  exact ⟨gr.trans hr, gh.trans hh, go.trans ho, gt.trans ht, gm.trans hm⟩

theorem SameRequests.foldl {α : Type} {f : State → α → State} (h : ∀ s x, SameRequests s (f s x)) (l : List α) (s : State) :
    SameRequests s (l.foldl f s) := by
  induction l generalizing s with
  | nil => exact .refl s
  | cons x l ih => exact (h s x).trans (ih _)

theorem chargeBy_sameRequests (s : State) (t : Nat) (f : Charges → Charges) : SameRequests s (s.chargeBy t f) := ⟨rfl, rfl, rfl, rfl, rfl⟩
theorem writeStack_sameRequests (s : State) (a : Nat) (bs : List Nat) : SameRequests s (s.writeStack a bs) := ⟨rfl, rfl, rfl, rfl, rfl⟩
theorem work_sameRequests (s : State) (res c len : Nat) : SameRequests s (s.work res c len) := ⟨rfl, rfl, rfl, rfl, rfl⟩
theorem setFrames_sameRequests (s : State) (m : Map Frame) : SameRequests s { s with frames := m } := ⟨rfl, rfl, rfl, rfl, rfl⟩

theorem releaseHeld_sameRequests (s : State) (tag : Nat) (q : Request) : SameRequests s (s.releaseHeld tag q) := by
  unfold State.releaseHeld
  refine (chargeBy_sameRequests s _ _).trans (SameRequests.foldl (fun u w => ?_) q.writes _)
  dsimp only
  split <;> exact ⟨rfl, rfl, rfl, rfl, rfl⟩

theorem bankHolds_sameRequests (s : State) (rows : List Nat) : SameRequests s (s.bankHolds rows) := by
  unfold State.bankHolds
  refine .foldl (fun u row => ?_) rows s
  dsimp only
  split <;> exact ⟨rfl, rfl, rfl, rfl, rfl⟩

theorem stackAccess_sameRequests (s : State) (c off len : Nat) : SameRequests s (s.stackAccess c off len) :=
  (SameRequests.foldl (fun u row => work_sameRequests u (stackRes (row / 2 ^ 23)) c (min len 16384)) (rowsOf off len) s).trans
    (bankHolds_sameRequests _ _)

theorem freeFrame_sameRequests (s : State) (k : Nat) : SameRequests s (s.freeFrame k) := by
  unfold State.freeFrame
  split
  · exact .refl s
  · exact ((writeStack_sameRequests s _ _).trans (setFrames_sameRequests _ _)).trans (chargeBy_sameRequests _ _ _)

theorem recount_sameRequests (s : State) (k : Nat) (f : Frame) (n : Nat) : SameRequests s (s.recount k f n) :=
  ((stackAccess_sameRequests s 4 (k * 65536) 64).trans (setFrames_sameRequests _ _)).trans (writeStack_sameRequests _ _ _)

theorem journal_sameRequests (s : State) (k : Nat) (d : Int) : SameRequests s (s.journal k d) := by
  unfold State.journal
  split <;> exact ⟨rfl, rfl, rfl, rfl, rfl⟩

theorem dropRef_sameRequests (s : State) (k : Nat) : SameRequests s (s.dropRef k) := by
  unfold State.dropRef
  split
  · exact .refl s
  · refine .trans ?_ (journal_sameRequests _ _ _)
    split_ifs
    · exact .refl s
    · exact freeFrame_sameRequests s k
    · exact recount_sameRequests s k _ _

theorem undoMove_sameRequests (s : State) (seqId : Nat) : SameRequests s (s.undoMove seqId) := by
  unfold State.undoMove
  split
  · exact .refl s
  · dsimp only
    split
    · exact ⟨rfl, rfl, rfl, rfl, rfl⟩
    · exact ⟨rfl, rfl, rfl, rfl, rfl⟩
    · refine .trans ?_ (SameRequests.foldl dropRef_sameRequests _ _)
      exact ⟨rfl, rfl, rfl, rfl, rfl⟩
    · exact .refl s

/-- What stands when a request that is ended from outside is completed: its move undone, what it held released, its lanes void. -/
def cutOff (s : State) (tag : Nat) (q : Request) : State :=
  ((if q.phase = .move then s.undoMove q.seqId else s).releaseHeld tag q).voidLanes tag

theorem cutOff_sameRequests (s : State) (tag : Nat) (q : Request) : SameRequests s (cutOff s tag q) := by
  have hmove : SameRequests s (if q.phase = .move then s.undoMove q.seqId else s) := by
    split
    · exact undoMove_sameRequests s _
    · exact .refl s
  exact (hmove.trans (releaseHeld_sameRequests _ tag q)).trans ⟨rfl, rfl, rfl, rfl, rfl⟩

theorem endAny_eq_complete {s : State} {tag : Nat} {q : Request} (a : Answer) (h : Map.find s.reqs tag = some q) :
    s.endAny tag a = (cutOff s tag q).complete tag q a := by
  have hmove : (if q.phase = .move then s.undoMove q.seqId else s).reqs = s.reqs := by
    split
    · exact (undoMove_sameRequests s _).reqs_eq
    · rfl
  unfold State.endAny State.endRequest
  rw [h]
  dsimp only
  rw [hmove, h]
  rfl

/-- Ending a request, or a tag that none holds, frees the tag and changes no other. -/
theorem find_endAny (s : State) (tag k : Nat) (a : Answer) :
    Map.find (s.endAny tag a).reqs k = if k = tag then none else Map.find s.reqs k := by
  cases h : Map.find s.reqs tag with
  | none =>
    unfold State.endAny
    rw [h]
    by_cases hk : k = tag
    · rw [if_pos hk, hk]; exact h
    · rw [if_neg hk]
  | some q =>
    rw [endAny_eq_complete a h, find_complete, (cutOff_sameRequests s tag q).reqs_eq]

theorem find_foldl_endAny (l : List Nat) (s : State) (k : Nat) (a : Answer) :
    Map.find (l.foldl (fun s t => s.endAny t a) s).reqs k = if k ∈ l then none else Map.find s.reqs k := by
  induction l generalizing s with
  | nil => rfl
  | cons t l ih =>
    rw [List.foldl_cons, ih, find_endAny]
    by_cases hl : k ∈ l <;> by_cases ht : k = t <;> simp [hl, ht]

/-- Every request that meets a test, and whose completion is unclaimed, has ended (R195). -/
theorem find_endEvery_of_test {s : State} {test : Nat → Request → Bool} {k : Nat} {q : Request} (a : Answer) (hk : Map.find s.reqs k = some q)
    (ht : test k q = true) (hc : q.claimed = false) : Map.find (s.endEvery test a).reqs k = none := by
  unfold State.endEvery
  rw [find_foldl_endAny]
  exact if_pos (List.mem_map_of_mem (List.mem_filter.mpr ⟨mem_of_find hk, by simp [ht, hc]⟩))

/-! ### Holds that are ended (R218, R316) -/

section
variable (s : State) (a : Answer)

theorem refuse_reqs (r : Req) : (s.refuse r a).reqs = s.reqs := by
  by_cases hm : r.src.isMirror = true
  · rw [State.refuse, if_pos hm]
    exact reply_reqs s 0 0 r.tenant 0 [] _
  · exact (refuse_onlyAnswered s r a (by simpa using hm)).reqs_eq

theorem refuse_holds (r : Req) : (s.refuse r a).holds = s.holds := by
  by_cases hm : r.src.isMirror = true
  · rw [State.refuse, if_pos hm]
    exact reply_holds s 0 0 r.tenant 0 [] _
  · exact (refuse_onlyAnswered s r a (by simpa using hm)).holds_eq

theorem endHolds_reqs (test : Req → Bool) : (s.endHolds test a).reqs = s.reqs :=
  foldl_proj_eq (p := State.reqs) (fun u r => refuse_reqs u a r) _ _

theorem endHolds_holds (test : Req → Bool) : (s.endHolds test a).holds = Map.keep s.holds fun _ h => !test h.req :=
  foldl_proj_eq (p := State.holds) (fun u r => refuse_holds u a r) _ _

end

/-! ### A tag that is taken and ends at once (R15, R23) -/

theorem find_free {α : Type} {m : Map α} {n lo k : Nat} (h : Map.free m lo n = some k) : Map.find m k = none := by
  induction n generalizing lo with
  | zero => exact nomatch h
  | succ n ih =>
    unfold Map.free at h
    split at h
    · exact ih h
    · cases h
      exact Option.not_isSome_iff_eq_none.mp ‹_›

/-- An entry that fails a test is not what a search by the test finds. -/
theorem find?_put {α : Type} {m : Map α} {i : Nat} {v : α} {p : Nat × α → Bool} (hi : Map.find m i = none) (hp : p (i, v) = false) :
    (Map.put m i v).find? p = m.find? p := by
  induction m with
  | nil => simp [Map.put, hp]
  | cons e m ih =>
    obtain ⟨k, w⟩ := e
    by_cases hik : k = i
    · simp [Map.find, hik] at hi
    · have hrest : Map.find m i = none := by simpa [Map.find, hik] using hi
      by_cases hlt : i < k
      · simp [Map.put, hlt, List.find?_cons, hp]
      · simp only [Map.put, if_neg hlt, if_neg (Ne.symm hik), List.find?_cons, ih hrest]

/-- The state in which a request holds its tag. -/
def begun (s : State) (r : Req) (tag : Nat) (phase : Phase) : State := taken s r tag (admitted s r tag phase)

section
variable {s : State} {r : Req} {tag : Nat} (phase : Phase)

theorem begun_obj {k : Nat} (hk : k ≠ 0x2F0008) : (begun s r tag phase).obj k = s.obj k := by
  cases hsrc : r.src with
  | ring =>
    have hregs : (begun s r tag phase).obj k = (s.bump 0x2F0008).obj k := by simp only [begun, taken, hsrc, State.obj]
    exact hregs.trans (obj_bump_ne s hk)
  | fabric | mirror => simp only [begun, taken, hsrc, State.obj]

theorem find_begun_ne {k : Nat} (hk : k ≠ tag) : Map.find (begun s r tag phase).reqs k = Map.find s.reqs k := find_put_ne _ _ hk

/-- A request that took its tag and is completed has ended at once. -/
theorem complete_endedAtOnce (hm : r.src.isMirror = false) (a : Answer) :
    EndedAtOnce s ((begun s r tag phase).complete tag (admitted s r tag phase) a) r tag a := by
  refine ⟨fun k => ?_, complete_answered _ tag (admitted s r tag phase) a [] hm⟩
  rw [find_complete]
  by_cases hk : k = tag
  · rw [if_pos hk, if_pos hk]
  · rw [if_neg hk, if_neg hk, find_begun_ne _ hk]

end

/-! ### ABORT with selector 0 (R218 to R220) -/

/-- Whether a request is the one that an ABORT names. -/
def isTarget (seqId : Nat) (src : Src) (e : Request) : Bool := abortable e.kind && decide (e.seqId = seqId) && e.src.same src

section
variable {s : State} {tag k : Nat} {q e : Request} {src : Src}

theorem abortOne_of_target (h : s.reqs.find? (fun x => isTarget q.seqId src x.2) = some (k, e)) : s.abortOne tag q src =
    if e.claimed then s.complete tag q (alreadyDone k e.gen) else (s.endAny k (abortedBy tag q.gen)).complete tag q .ok := by
  unfold isTarget at h
  unfold State.abortOne
  dsimp only
  rw [h]

/-- What of a request kept for the abort window an ABORT matches (R220). -/
def isKept (s : State) (seqId : Nat) (src : Src) (k : Kept) : Bool :=
  decide (k.seqId = seqId) && k.src.same src && decide (s.since k.time ≤ s.obj 0x2B4301)

variable (h : s.reqs.find? (fun x => isTarget q.seqId src x.2) = none) (hholds : ∀ x ∈ s.holds, x.2.req.seqId ≠ q.seqId)
include h hholds

/-- An ABORT without a target goes by what completed within the window (R220). -/
theorem abortOne_of_no_target : s.abortOne tag q src = (s.kept.find? (isKept s q.seqId src)).elim (s.awaitTarget tag q.seqId src)
    fun x => s.complete tag q (alreadyDone x.tag x.gen) := by
  have hnone : ¬ (s.holds.any fun x => abortable x.2.req.kind && decide (x.2.req.seqId = q.seqId) && x.2.req.src.same src) = true := by
    rw [List.any_eq_true]
    rintro ⟨x, hx, htest⟩
    simp [hholds x hx] at htest
  unfold isTarget at h
  unfold State.abortOne isKept
  dsimp only
  rw [h]
  dsimp only
  rw [if_neg hnone]
  split <;> rename_i heq <;> rw [heq] <;> rfl

end

/-- An ABORT that matches nothing leaves a tombstone of its own (R220). -/
theorem awaitTarget_of_new {s : State} {tag seqId : Nat} {src : Src} (hnew : ∀ x ∈ s.tombs, x.src.same src = false) (hroom : s.tombs.length < 4096) :
    s.awaitTarget tag seqId src = { s with tombs := s.tombs ++ [⟨src, seqId, [tag], s.time⟩] } := by
  have hnone : (s.tombs.any fun x => x.src.same src) = false := List.any_eq_false.mpr fun x hx => by simp [hnew x hx]
  unfold State.awaitTarget
  rw [if_neg (by simp [hnone]), if_neg (Nat.not_le.mpr hroom)]

/-! ### ABORT at admission (R118, R194) -/

theorem exec_abort {s : State} {r : Req} {i : Instr} (hi : i = .abort r ∨ i = .abortAll r) : exec i s = .next (s.abort r) := by rcases hi with rfl | rfl <;> rfl

/-- The ABORT's own record is no target, so that its tag does not change what it finds. -/
theorem find?_begun_target {s : State} {r : Req} {tag : Nat} {src : Src} (ht : s.freeTag = some tag) (hk : r.kind = 10) :
    (begun s r tag .running).reqs.find? (fun x => isTarget r.seqId src x.2) =
    s.reqs.find? (fun x => isTarget r.seqId src x.2) := by
  have hself : abortable (admitted s r tag .running).kind = false := by
    change abortable r.kind = false
    rw [hk]
    rfl
  exact find?_put (find_free ht) (by simp [isTarget, hself])

theorem isKept_begun (s : State) (r : Req) (tag : Nat) (src : Src) : isKept (begun s r tag .running) r.seqId src = isKept s r.seqId src := by
  unfold isKept
  rw [begun_obj .running (by decide)]
  rfl

section
variable {s : State} {r : Req} {tag : Nat} {i : Instr} (hi : i = .abort r ∨ i = .abortAll r)
  (hp : Safety.Passes s r false false false 0 (abortBad r)) (ht : s.freeTag = some tag)
include hi hp ht

theorem exec_abortAll (hbit : bit (r.byte 24) 0 = true) :
    exec i s = .next ((begun s r tag .running).abortAll tag (admitted s r tag .running)) := by
  rw [exec_abort hi]
  unfold State.abort
  rw [show wideSpan = 0 from rfl, gate_of_passes _ hp, take_eq_taken .running (passes_not_mirror hp) ht]
  exact congrArg _ (if_pos hbit)

variable {src : Src} (hbit : bit (r.byte 24) 0 = false) (hsrc : abortTarget r = some src)
include hbit hsrc

theorem exec_abortOne : exec i s = .next ((begun s r tag .running).abortOne tag (admitted s r tag .running) src) := by
  rw [exec_abort hi]
  unfold State.abort
  rw [show wideSpan = 0 from rfl, gate_of_passes _ hp, take_eq_taken .running (passes_not_mirror hp) ht]
  dsimp only
  rw [if_neg (by simp [hbit]), hsrc]
  rfl

variable (hk : r.kind = 10)
include hk

section
variable {k : Nat} {e : Request} (hfind : s.reqs.find? (fun x => isTarget r.seqId src x.2) = some (k, e))
include hfind

theorem exec_abortOne_target : exec i s = .next (if e.claimed
    then (begun s r tag .running).complete tag (admitted s r tag .running) (alreadyDone k e.gen)
    else ((begun s r tag .running).endAny k (abortedBy tag (admitted s r tag .running).gen)).complete tag (admitted s r tag .running) .ok) := by
  rw [exec_abortOne hi hp ht hbit hsrc]
  exact congrArg _ (abortOne_of_target ((find?_begun_target ht hk).trans hfind))

/-- A target whose completion is claimed has won (R219). -/
theorem abort_of_claimed (hc : e.claimed = true) : Runs i s fun t => EndedAtOnce s t r tag ⟨.alreadyDone, 0, leBytes 4 (tagWord k e.gen)⟩ := by
  refine ⟨_, exec_abortOne_target hi hp ht hbit hsrc hk hfind, ?_⟩
  rw [if_pos hc]
  exact complete_endedAtOnce .running (passes_not_mirror hp) _

/-- A target that is unclaimed ends ABORTED, and the ABORT ends OK (R219). -/
theorem abort_of_unclaimed (hc : e.claimed = false) (hfound : Map.find s.reqs k = some e) (hm : e.src.isMirror = false) : Runs i s fun t =>
    Map.find t.reqs k = none ∧ Map.find t.reqs tag = none ∧ Answered t r.src tag ((Map.getD s.gens tag 0 + 1) % 32768) .ok ∧
    (s.host.master = true → ∃ data, Out.completion e.src k e.gen 8 0
      (⟨.aborted, 0, leBytes 4 (tagWord tag ((Map.getD s.gens tag 0 + 1) % 32768))⟩ : Answer).statusBody s.time e.replyAt data ∈ t.out) := by
  have hne : k ≠ tag := fun heq => by
    rw [heq, find_free ht] at hfound
    exact nomatch hfound
  have hmine : (admitted s r tag .running).src.isMirror = false := passes_not_mirror hp
  have hstill : Map.find (begun s r tag .running).reqs k = some e := (find_begun_ne _ hne).trans hfound
  refine ⟨_, exec_abortOne_target hi hp ht hbit hsrc hk hfind, ?_⟩
  rw [if_neg (by simp [hc])]
  refine ⟨?_, ?_, complete_answered _ _ _ _ _ hmine, fun hmaster => ?_⟩
  · rw [find_complete, if_neg hne, find_endAny, if_pos rfl]
  · rw [find_complete, if_pos rfl]
  · obtain ⟨-, -, -, htime, hhost⟩ := cutOff_sameRequests (begun s r tag .running) k e
    obtain ⟨data, hmem⟩ := mem_complete_completion (cutOff (begun s r tag .running) k e) k e
      (abortedBy tag (admitted s r tag .running).gen) [] hm ((congrArg (·.master) hhost).trans hmaster)
    rw [htime] at hmem
    refine ⟨data, (complete_outGrows _ _ _ _ _ hmine).mem ?_⟩
    rw [endAny_eq_complete _ hstill]
    exact hmem

end

section
variable (hnone : s.reqs.find? (fun x => isTarget r.seqId src x.2) = none) (hholds : ∀ h ∈ s.holds, h.2.req.seqId ≠ r.seqId)
include hnone hholds

theorem exec_abortOne_no_target : exec i s = .next ((s.kept.find? (isKept s r.seqId src)).elim
    ((begun s r tag .running).awaitTarget tag r.seqId src)
    fun x => (begun s r tag .running).complete tag (admitted s r tag .running) (alreadyDone x.tag x.gen)) := by
  rw [exec_abortOne hi hp ht hbit hsrc, ← isKept_begun s r tag]
  exact congrArg _ (abortOne_of_no_target (q := admitted s r tag .running) ((find?_begun_target ht hk).trans hnone) hholds)

/-- A target that completed within the window has won (R219, R220). -/
theorem abort_of_kept {x : Kept} (hkept : s.kept.find? (isKept s r.seqId src) = some x) :
    Runs i s fun t => EndedAtOnce s t r tag ⟨.alreadyDone, 0, leBytes 4 (tagWord x.tag x.gen)⟩ := by
  refine ⟨_, exec_abortOne_no_target hi hp ht hbit hsrc hk hnone hholds, ?_⟩
  rw [hkept]
  exact complete_endedAtOnce .running (passes_not_mirror hp) _

/-- An ABORT whose target has not come waits on a tombstone (R220). -/
theorem abort_of_nothing (hkept : s.kept.find? (isKept s r.seqId src) = none) (hnew : ∀ x ∈ s.tombs, x.src.same src = false)
    (hroom : s.tombs.length < 4096) : Runs i s fun t => t = { begun s r tag .running with tombs := s.tombs ++ [⟨src, r.seqId, [tag], s.time⟩] } := by
  refine ⟨_, exec_abortOne_no_target hi hp ht hbit hsrc hk hnone hholds, ?_⟩
  rw [hkept]
  exact awaitTarget_of_new (s := begun s r tag .running) hnew hroom

end

end

/-! ### ABORT with selector 1 (R195, R218) -/

/-- The requests on a sequence that were admitted before an ABORT. -/
def admittedBefore (tag : Nat) (q : Request) (t : Nat) (e : Request) : Bool :=
  abortable e.kind && decide (e.seqId = q.seqId) && decide (e.order < q.order) && decide (t ≠ tag)

/-- The requests of a sequence that an ABORT of them all ends. -/
def heldOn (seqId : Nat) (r : Req) : Bool := abortable r.kind && decide (r.seqId = seqId)

/-- How many requests an ABORT of them all ends. -/
def abortCount (s : State) (tag : Nat) (q : Request) : Nat :=
  (Map.keep s.reqs fun t e => admittedBefore tag q t e && !e.claimed).length + (s.holds.filter fun h => heldOn q.seqId h.2.req).length

theorem abortAll_eq_complete (s : State) (tag : Nat) (q : Request) : s.abortAll tag q =
    ((s.endEvery (admittedBefore tag q) (abortedBy tag q.gen)).endHolds (heldOn q.seqId) (abortedBy tag q.gen)).complete tag q
      (.ok (leBytes 4 (abortCount s tag q))) := rfl

section
variable {s : State} {tag : Nat} {q : Request}

/-- Every unclaimed request on the sequence that was admitted before the ABORT has ended. -/
theorem find_abortAll {k : Nat} {e : Request} (hk : Map.find s.reqs k = some e) (htest : admittedBefore tag q k e = true) (hc : e.claimed = false) :
    Map.find (s.abortAll tag q).reqs k = none := by
  have hne : k ≠ tag := by
    simp only [admittedBefore, Bool.and_eq_true, decide_eq_true_eq] at htest
    exact htest.2
  rw [abortAll_eq_complete, find_complete, if_neg hne, endHolds_reqs]
  exact find_endEvery_of_test _ hk htest hc

theorem holds_abortAll {h : Nat × ChartHold} (hh : h ∈ (s.abortAll tag q).holds) : heldOn q.seqId h.2.req = false := by
  rw [abortAll_eq_complete, complete_holds, endHolds_holds] at hh
  simpa using (List.mem_filter.mp hh).2

theorem find_abortAll_self : Map.find (s.abortAll tag q).reqs tag = none := by
  rw [abortAll_eq_complete, find_complete, if_pos rfl]

theorem abortAll_answered (hm : q.src.isMirror = false) : Answered (s.abortAll tag q) q.src tag q.gen (.ok (leBytes 4 (abortCount s tag q))) := by
  rw [abortAll_eq_complete]
  exact complete_answered _ _ _ _ _ hm

end

/-! ### TOMBSTONE_EXPIRY (R220) -/

/-- A tombstone on which an ABORT does not wait. -/
def withoutWaiter (w : Nat) (t : Tombstone) : Tombstone := { t with waiters := t.waiters.filter fun y => y != w }

theorem stopWaiting_tombs (s : State) (w : Nat) : (s.stopWaiting w).tombs = (s.tombs.map (withoutWaiter w)).filter fun t => !t.waiters.isEmpty := rfl

theorem withoutWaiter_withoutWaiter (w : Nat) (t : Tombstone) : withoutWaiter w (withoutWaiter w t) = withoutWaiter w t := by
  simp [withoutWaiter, List.filter_filter]

/-- An ABORT that waits no more stays so. -/
theorem stopWaiting_again {s u : State} {w : Nat} (h : u.tombs = (s.stopWaiting w).tombs) : (u.stopWaiting w).tombs = (s.stopWaiting w).tombs := by
  have hid (t : Tombstone) (ht : t ∈ (s.stopWaiting w).tombs) : withoutWaiter w t = t := by
    obtain ⟨x, -, rfl⟩ := List.mem_map.mp (List.mem_of_mem_filter ht)
    exact withoutWaiter_withoutWaiter w x
  rw [stopWaiting_tombs u, h, List.map_congr_left (g := id) hid, List.map_id, stopWaiting_tombs, List.filter_filter]
  simp only [Bool.and_self]

theorem closed_tombs_of_stopWaiting {s u : State} {w : Nat} (q : Request) (a : Answer) (h : u.tombs = (s.stopWaiting w).tombs) :
    (closed u w q a).tombs = (s.stopWaiting w).tombs := by
  unfold closed
  dsimp only
  split
  · exact stopWaiting_again h
  · exact h

section
variable {s : State} {w : Nat}

/-- Some ABORT's window has run out on a tombstone that it waits on. -/
def WindowOver (s : State) (w : Nat) : Prop := ∃ x ∈ s.tombs, w ∈ x.waiters ∧ s.obj 0x2B4301 ≤ s.since x.since

theorem windowOver_iff : (s.tombs.any fun t => t.waiters.contains w && decide (s.since t.since ≥ s.obj 0x2B4301)) = true ↔ WindowOver s w := by
  simp [WindowOver]

theorem tombstoneExpiry_of_early (h : ¬ WindowOver s w) : s.tombstoneExpiry w = s := by
  unfold State.tombstoneExpiry
  exact if_pos (by simpa using mt windowOver_iff.mp h)

theorem tombstoneExpiry_of_over {q : Request} (h : WindowOver s w) (hq : Map.find s.reqs w = some q) :
    ∃ n, s.tombstoneExpiry w = ((s.stopWaiting w).bumpBy 0x2B4303 n).complete w q neverCame := by
  have hreqs (n : Nat) : Map.find ((s.stopWaiting w).bumpBy 0x2B4303 n).reqs w = some q := hq
  refine ⟨s.tombs.length - (s.stopWaiting w).tombs.length, ?_⟩
  unfold State.tombstoneExpiry
  rw [if_neg (by simpa using windowOver_iff.mpr h)]
  dsimp only
  rw [hreqs]

end

/-! ### QUERY (R191, R217, R377) -/

theorem seqsUsed_of_tenant {s : State} {q : Request} (hk : q.kind = 11) (hsel : hdrField q.hdr 20 1 = 2) : seqsUsed s q = s.seqs := by
  unfold seqsUsed
  cases Map.find s.seqs q.seqId
  · rfl
  · simp [hk, hsel]

theorem seqsUsed_of_seq {s : State} {q : Request} {e : Seq} (hs : Map.find s.seqs q.seqId = some e) (hsel : hdrField q.hdr 20 1 ≠ 2) :
    seqsUsed s q = Map.put s.seqs q.seqId { e with lastUse := s.time } := by
  unfold seqsUsed
  simp [hs, hsel]

/-- What a QUERY of a tenant answers (R217). -/
def tenantUsage (s : State) (t : Nat) : List Nat :=
  leBytes 4 ((s.charge t).t1 + (s.charge t).r1) ++ leBytes 4 (s.obj (tenantKey t 1)) ++ leBytes 4 ((s.charge t).t2 + (s.charge t).r2) ++
    leBytes 4 (s.obj (tenantKey t 3)) ++ leBytes 4 ((s.charge t).t3 + (s.charge t).r3) ++ leBytes 4 (s.obj (tenantKey t 4)) ++
    leBytes 4 (s.tenantSeqs t)

/-- What a QUERY of a sequence answers: its layer counts, or its summary (R217). -/
def seqAnswer (s : State) (e : Seq) (sel : Nat) : List Nat :=
  if sel = 1 then List.replicate 28 0 ++ e.counts.flatMap (leBytes 4)
  else [e.st.code, e.base] ++ leBytes 2 e.binding ++ leBytes 4 e.lowest ++ leBytes 4 e.highest ++ leBytes 4 (s.privateFrames e) ++
    leBytes 4 (s.sharedFrames e) ++ leBytes 4 e.t2 ++ leBytes 4 e.t3

section
variable {s : State} {q : Request}

theorem queryAnswer_of_tenant (hsel : hdrField q.hdr 20 1 = 2) : s.queryAnswer q = .ok (tenantUsage s (tenantOf q.seqId)) := if_pos hsel

theorem queryAnswer_of_seq {e : Seq} (hsel : hdrField q.hdr 20 1 ≠ 2) (hs : Map.find s.seqs q.seqId = some e) :
    s.queryAnswer q = .ok (seqAnswer s e (hdrField q.hdr 20 1)) := by
  unfold State.queryAnswer seqAnswer
  dsimp only
  rw [if_neg hsel, hs]
  dsimp only
  split <;> rfl

end

theorem tenantKey_ne (t sub : Nat) : tenantKey t sub ≠ 0x2F0008 := by
  unfold tenantKey recKey
  omega

theorem tenantUsage_begun (s : State) (r : Req) (tag : Nat) (phase : Phase) (t : Nat) : tenantUsage (begun s r tag phase) t = tenantUsage s t := by
  unfold tenantUsage
  simp only [begun_obj phase (tenantKey_ne t _)]
  rfl

section
variable {s : State} {r : Req} {tag : Nat} {i : Instr} (hi : i = .querySummary r ∨ i = .queryLayerCounts r ∨ i = .queryTenantUsage r)
  (hp : Safety.Passes s r false false (decide (r.byte 20 ≠ 2)) 0 (s.queryBad r)) (ht : s.freeTag = some tag) (hgone : s.dutyGone 1 = false)
include hi hp ht hgone

theorem exec_query : exec i s = .next (if s.dutyHeld 1 then begun s r tag .held
    else (begun s r tag .held).complete tag (admitted s r tag .held) ((begun s r tag .held).queryAnswer (admitted s r tag .held))) := by
  have hexec : exec i s = .next (s.query r) := by rcases hi with rfl | rfl | rfl <;> rfl
  rw [hexec]
  unfold State.query
  rw [show wideSpan = 0 from rfl, gate_of_passes _ hp, take_eq_taken .held (passes_not_mirror hp) ht]
  exact congrArg _ (if_neg (by simp [hgone]))

variable (hheld : s.dutyHeld 1 = false)
include hheld

/-- A QUERY of a tenant reads its usage and its quotas, and touches no sequence. -/
theorem query_of_tenant (hk : r.kind = 11) (hsel : r.byte 20 = 2) : Runs i s fun t => t.seqs = s.seqs ∧ t.charges = s.charges ∧
    EndedAtOnce s t r tag (.ok (tenantUsage s r.tenant)) := by
  have hm := passes_not_mirror hp
  refine ⟨_, exec_query hi hp ht hgone, ?_⟩
  rw [if_neg (by simp [hheld]), queryAnswer_of_tenant (q := admitted s r tag .held) hsel, tenantUsage_begun]
  have hafter := complete_onlyAnswered (begun s r tag .held) tag (admitted s r tag .held) (.ok (tenantUsage s r.tenant)) [] hm
  exact ⟨hafter.seqs_eq.trans (seqsUsed_of_tenant (s := begun s r tag .held) (q := admitted s r tag .held) hk hsel), hafter.charges_eq,
    complete_endedAtOnce .held hm _⟩

/-- A QUERY of a sequence reads what its descriptor holds, and is its last use. -/
theorem query_of_seq {e : Seq} (hsel : r.byte 20 ≠ 2) (hs : Map.find s.seqs r.seqId = some e) : Runs i s fun t =>
    Map.find t.seqs r.seqId = some { e with lastUse := s.time } ∧ t.frames = s.frames ∧ t.charges = s.charges ∧
    EndedAtOnce s t r tag (.ok (seqAnswer s e (r.byte 20))) := by
  have hm := passes_not_mirror hp
  have hs' : Map.find (begun s r tag .held).seqs (admitted s r tag .held).seqId = some e := hs
  refine ⟨_, exec_query hi hp ht hgone, ?_⟩
  rw [if_neg (by simp [hheld]), queryAnswer_of_seq (q := admitted s r tag .held) hsel hs']
  have hafter := complete_onlyAnswered (begun s r tag .held) tag (admitted s r tag .held) (.ok (seqAnswer s e (r.byte 20))) [] hm
  refine ⟨?_, hafter.frames_eq, hafter.charges_eq, complete_endedAtOnce .held hm _⟩
  have hseqs := hafter.seqs_eq.trans (seqsUsed_of_seq hs' hsel)
  exact (congrArg (Map.find · r.seqId) hseqs).trans (find_put_same _ _ _)

end

/-! ### The obligation -/

/-- Settles O33: the clauses of an ABORT by what it finds, of ABORT with selector 1, of a window that runs out, and of a QUERY. -/
theorem abortsWinLoseOrWaitAndQueriesAnswer : Obligations.AbortsWinLoseOrWaitAndQueriesAnswer := by
  unfold Obligations.AbortsWinLoseOrWaitAndQueriesAnswer
  refine ⟨?_, ?_, ?_, ?_⟩
  · intro s r tag i src hi hk hp ht mine g
    refine ⟨fun hbit hsrc => ⟨fun k e hfind _ hfound hm => ?_, fun hnone hholds => ?_⟩, fun hbit => ?_⟩
    · exact ⟨abort_of_claimed hi hp ht hbit hsrc hk hfind, fun hc => abort_of_unclaimed hi hp ht hbit hsrc hk hfind hc hfound hm⟩
    · refine ⟨fun x hkept => abort_of_kept hi hp ht hbit hsrc hk hnone hholds hkept, fun hkept hnew hroom => ?_⟩
      obtain ⟨t, hexec, rfl⟩ := abort_of_nothing hi hp ht hbit hsrc hk hnone hholds hkept hnew hroom
      exact ⟨_, hexec, rfl, rfl⟩
    · refine ⟨_, exec_abortAll hi hp ht hbit, fun k e hfound hmine hc hne horder => ?_, fun h hh hseq => ?_, find_abortAll_self, _,
        abortAll_answered (passes_not_mirror hp)⟩
      · refine find_abortAll ((find_begun_ne _ hne).trans hfound) ?_ hc
        simp only [mine, admittedBefore, Bool.and_eq_true, decide_eq_true_eq] at hmine ⊢
        exact ⟨⟨hmine, Nat.lt_succ_of_le horder⟩, hne⟩
      · have hnot : (abortable h.2.req.kind && decide (h.2.req.seqId = r.seqId)) = false := holds_abortAll hh
        simpa [hseq] using hnot
  · intro s w q hover hq hm
    obtain ⟨n, heq⟩ := tombstoneExpiry_of_over hover hq
    refine ⟨_, rfl, ?_⟩
    rw [heq]
    exact ⟨ended_of_complete s _ w q _ _ hm fun _ _ => rfl,
      (complete_onlyAnswered _ w q _ _ hm).tombs_eq.trans (closed_tombs_of_stopWaiting q neverCame rfl)⟩
  · intro s w hearly
    refine ⟨_, rfl, tombstoneExpiry_of_early ?_⟩
    rintro ⟨x, hx, hw, hdue⟩
    exact (hearly x hx).elim (· hw) (Nat.not_lt_of_le hdue)
  · intro s r tag i hi hk hp ht hgone sel c
    refine ⟨fun hheld => ⟨_, exec_query hi hp ht hgone, if_pos hheld⟩, fun hheld => query_of_tenant hi hp ht hgone hheld hk, fun e hheld hsel hs => ?_⟩
    obtain ⟨t, hexec, hseqs, hframes, hcharges, hended⟩ := query_of_seq hi hp ht hgone hheld hsel hs
    refine ⟨t, hexec, hseqs, hframes, hcharges, fun h1 => ?_, fun h0 => ?_⟩
    · rw [show r.byte 20 = 1 from h1] at hended
      exact hended
    · rw [show r.byte 20 = 0 from h0] at hended
      exact hended

end Sys2Proof.Proofs

/-! PROOFS. Bindings and weight sets (O34): the greatest group of heads, the shares that a load places and an unloading frees, and what the
end of a request leaves of the weight sets and of their counters. -/

namespace Sys2Proof.Safety
open Sys2Proof.Machine

/-- The objects of the expander and of weight loading (2A00h, 2B34h). -/
def weightObject (k : Nat) : Bool := decide (k / 256 = 0x2A00) || decide (k / 256 = 0x2B34)

/-- The weight sets stand as before, and so do the objects of the expander and of weight loading. -/
def SameLoads (s t : State) : Prop := t.weights = s.weights ∧ ∀ k, weightObject k = true → t.obj k = s.obj k

theorem SameLoads.of_eq {s t : State} (hw : t.weights = s.weights) (hr : t.regs = s.regs) : SameLoads s t :=
  ⟨hw, fun k _ => congrArg (Map.getD · k (objDefault k)) hr⟩

theorem SameLoads.refl (s : State) : SameLoads s s := .of_eq rfl rfl

theorem SameLoads.trans {s t u : State} (h : SameLoads s t) (g : SameLoads t u) : SameLoads s u :=
  ⟨g.1.trans h.1, fun k hk => (g.2 k hk).trans (h.2 k hk)⟩

theorem SameLoads.ite {s a b : State} {c : Prop} [Decidable c] (h : SameLoads s a) (g : SameLoads s b) : SameLoads s (if c then a else b) := by
  split <;> assumption

theorem SameLoads.foldl {α : Type} {f : State → α → State} (h : ∀ s x, SameLoads s (f s x)) (l : List α) (s : State) :
    SameLoads s (l.foldl f s) := by
  induction l generalizing s with
  | nil => exact .refl s
  | cons x l ih => exact (h s x).trans (ih _)

theorem SameLoads.setSched {s t : State} (h : SameLoads s t) (x : Sched) : SameLoads s { t with sched := x } := h.trans (.of_eq rfl rfl)
theorem SameLoads.setBodies {s t : State} (h : SameLoads s t) (x : Map Body) : SameLoads s { t with bodies := x } := h.trans (.of_eq rfl rfl)

/-- Only objects changed. -/
def OnlyObjects (s t : State) : Prop := t = { s with regs := t.regs }

theorem OnlyObjects.refl (s : State) : OnlyObjects s s := rfl

theorem OnlyObjects.trans {s t u : State} (h : OnlyObjects s t) (g : OnlyObjects t u) : OnlyObjects s u := Eq.trans g (by rw [h])

theorem OnlyObjects.setObj {s t : State} (h : OnlyObjects s t) (k v : Nat) : OnlyObjects s (t.setObj k v) := h.trans rfl

/-- Weight shares were freed: polders, drives, weight sets and measurements changed, and no polder holds more weight frames. -/
def SharesFreed (s t : State) : Prop :=
  t = { s with polders := t.polders, drives := t.drives, weights := t.weights, sec := t.sec } ∧
    ∀ p, (t.polder p).weightFrames ≤ (s.polder p).weightFrames

theorem SharesFreed.refl (s : State) : SharesFreed s s := ⟨rfl, fun _ => le_rfl⟩

theorem SharesFreed.trans {s t u : State} (h : SharesFreed s t) (g : SharesFreed t u) : SharesFreed s u :=
  ⟨g.1.trans (by rw [h.1]), fun p => (g.2 p).trans (h.2 p)⟩

theorem SharesFreed.ite {s a b : State} {c : Prop} [Decidable c] (h : SharesFreed s a) (g : SharesFreed s b) : SharesFreed s (if c then a else b) := by
  split <;> assumption

theorem SharesFreed.foldl {α : Type} {f : State → α → State} (h : ∀ s x, SharesFreed s (f s x)) (l : List α) (s : State) :
    SharesFreed s (l.foldl f s) := by
  induction l generalizing s with
  | nil => exact .refl s
  | cons x l ih => exact (h s x).trans (ih _)

section
variable {s t : State} (h : SharesFreed s t)
include h

theorem SharesFreed.seqs_eq : t.seqs = s.seqs := by rw [h.1]
theorem SharesFreed.frames_eq : t.frames = s.frames := by rw [h.1]
theorem SharesFreed.reqs_eq : t.reqs = s.reqs := by rw [h.1]
theorem SharesFreed.obj_eq (k : Nat) : t.obj k = s.obj k := by rw [h.1]; rfl

end

/-- No weight set, object or polder changed: bytes went into a tier at most. -/
def SameSets (s t : State) : Prop := t.weights = s.weights ∧ t.regs = s.regs ∧ t.polders = s.polders

theorem SameSets.refl (s : State) : SameSets s s := ⟨rfl, rfl, rfl⟩

theorem SameSets.trans {s t u : State} (h : SameSets s t) (g : SameSets t u) : SameSets s u :=
  ⟨g.1.trans h.1, g.2.1.trans h.2.1, g.2.2.trans h.2.2⟩

theorem SameSets.foldl {α : Type} {f : State → α → State} (h : ∀ s x, SameSets s (f s x)) (l : List α) (s : State) :
    SameSets s (l.foldl f s) := by
  induction l generalizing s with
  | nil => exact .refl s
  | cons x l ih => exact (h s x).trans (ih _)

section
variable {s t : State} (h : SameSets s t)
include h

theorem SameSets.weight_eq (b : Nat) : t.weight b = s.weight b := by unfold State.weight; rw [h.1]
theorem SameSets.obj_eq (k : Nat) : t.obj k = s.obj k := by unfold State.obj; rw [h.2.1]
theorem SameSets.polder_eq (p : Nat) : t.polder p = s.polder p := by unfold State.polder; rw [h.2.2]

end

/-- Shares were added to a binding's set: the objects stand, and a polder's weight frames rose to the budget at most (R152). -/
def Placed (b : Nat) (l : List Share) (s t : State) : Prop :=
  t.weight b = { s.weight b with shares := (s.weight b).shares ++ l } ∧ t.regs = s.regs ∧
    ∀ p, (t.polder p).weightFrames ≤ max (s.obj 0x290008) (s.polder p).weightFrames

theorem SameSets.placed {s t : State} (h : SameSets s t) (b : Nat) : Placed b [] s t :=
  ⟨by rw [List.append_nil, h.weight_eq], h.2.1, fun p => by rw [h.polder_eq]; exact le_max_right _ _⟩

theorem Placed.trans {b : Nat} {l m : List Share} {s t u : State} (h : Placed b l s t) (g : Placed b m t u) : Placed b (l ++ m) s u := by
  obtain ⟨hw, hr, hp⟩ := h
  obtain ⟨gw, gr, gp⟩ := g
  have hobj : t.obj 0x290008 = s.obj 0x290008 := by unfold State.obj; rw [hr]
  refine ⟨by rw [gw, hw, List.append_assoc], gr.trans hr, fun p => ?_⟩
  calc (u.polder p).weightFrames ≤ max (t.obj 0x290008) (t.polder p).weightFrames := gp p
    _ ≤ max (s.obj 0x290008) (s.polder p).weightFrames := max_le (hobj ▸ le_max_left _ _) (hp p)

end Sys2Proof.Safety

namespace Sys2Proof.Proofs
open Sys2Proof.Machine Sys2Proof.Safety Sys2Proof.Laws

/-! ### What leaves the device leaves the weight sets (R269, R285, R295, R335) -/

theorem setObj_sameLoads (s : State) {k : Nat} (v : Nat) (h : weightObject k = false) : SameLoads s (s.setObj k v) :=
  ⟨rfl, fun j hj => obj_setObj_ne s v fun e => by rw [e, h] at hj; cases hj⟩

theorem bump_sameLoads (s : State) {k : Nat} (h : weightObject k = false) : SameLoads s (s.bump k) := setObj_sameLoads s _ h

theorem arrive_sameLoads (s : State) (x : Nat) : SameLoads s (s.arrive x) := ⟨arrive_weights s x, fun k _ => arrive_obj s x k⟩

theorem handOver_sameLoads (s : State) (c : Context) : SameLoads s (s.handOver c) := by
  unfold State.handOver
  exact .ite (.ite (bump_sameLoads s (by decide)) (.refl s)) (.of_eq rfl rfl)

theorem reassemble_sameLoads {s t : State} {k : Packet} (h : s.reassemble k = some t) : SameLoads s t := by
  have hput (bad done : Prop) [Decidable bad] [Decidable done] (c : Context) (closed opened : List Context)
      (h : (if bad then some (s.bump 0x270008) else if done then some (State.handOver { s with contexts := closed } c)
        else some { s with contexts := opened }) = some t) : SameLoads s t := by
    split_ifs at h <;> cases h
    · exact bump_sameLoads s (by decide)
    · exact .trans (.of_eq rfl rfl) (handOver_sameLoads { s with contexts := closed } c)
    · exact .of_eq rfl rfl
  simp only [State.reassemble] at h
  split at h
  · cases h; exact bump_sameLoads s (by decide)
  · split at h
    · split at h
      · cases h; exact bump_sameLoads s (by decide)
      · exact hput _ _ _ _ _ h
    · split at h
      · cases h
      · exact hput _ _ _ _ _ h

theorem fetchRecord_sameLoads (s : State) (c : Nat) : SameLoads s (s.fetchRecord c) := by
  unfold State.fetchRecord
  exact .ite (.refl s) ((bump_sameLoads s (by decide)).trans (.of_eq rfl rfl))

theorem acceptClear_sameLoads {s t : State} {k : Packet} (h : s.acceptClear k = some t) : SameLoads s t := by
  simp only [State.acceptClear] at h
  split at h
  · cases h; exact bump_sameLoads s (by decide)
  · split at h
    · split at h <;> cases h
      exact .trans (t := { s with miss := s.miss ++ [k] }) (.of_eq rfl rfl) (.ite (fetchRecord_sameLoads _ _) (.refl _))
    · exact reassemble_sameLoads h

theorem accept_sameLoads {s t : State} {k : Packet} (h : s.accept k = some t) : SameLoads s t := by
  unfold State.accept at h
  split at h
  · exact acceptClear_sameLoads h
  · split at h
    · cases h; exact bump_sameLoads s (by decide)
    · split at h
      · cases h; exact bump_sameLoads s (by decide)
      · obtain ⟨u, hu, rfl⟩ := Option.map_eq_some_iff.mp h
        exact (acceptClear_sameLoads hu).trans (bump_sameLoads u (by decide))

theorem deliverOwn_sameLoads (s : State) (k : Packet) : SameLoads s (s.deliverOwn k) := by
  unfold State.deliverOwn
  refine .ite (bump_sameLoads s (by decide)) ?_
  split
  case h_1 t h => exact accept_sameLoads h
  case h_2 => exact .of_eq rfl rfl

theorem discardNoRoute_sameLoads (s : State) (k : Packet) (w : Work) (answer : Bool) (h : w.inPort = none) :
    SameLoads s (s.discardNoRoute k w answer) := by
  simp only [State.discardNoRoute, State.leaveIngress, h]
  exact (bump_sameLoads s (by decide)).trans (arrive_sameLoads _ _)

theorem spray_sameLoads (s : State) (w : Work) (k : Packet) (h : w.inPort = none) : SameLoads s (s.spray w k) := by
  unfold State.spray
  split
  · exact .of_eq rfl rfl
  · exact .of_eq rfl rfl
  · exact discardNoRoute_sameLoads s k w true h

theorem sourcePacket_sameLoads (s : State) (tenant : Option Nat) (flow : Nat) (k : Packet) : SameLoads s (s.sourcePacket tenant flow k) := by
  unfold State.sourcePacket
  refine .ite (deliverOwn_sameLoads s k) (.ite (bump_sameLoads s (by decide)) (.ite (discardNoRoute_sameLoads s k _ false rfl)
    (.ite (spray_sameLoads s _ k rfl) ?_)))
  have hflow (c : Prop) [Decidable c] : SameLoads s (if c then s.bump 0x280003 else s) := .ite (bump_sameLoads s (by decide)) (.refl s)
  exact .setSched (.ite (hflow _) (.setSched (hflow _) _)) _

theorem sourceMessage_sameLoads (s : State) (kind c dst pol slot msg : Nat) (data : List Nat) (tenant : Option Nat) (flow kindWord : Nat) :
    SameLoads s (s.sourceMessage kind c dst pol slot msg data tenant flow kindWord) := by
  unfold State.sourceMessage
  exact .ite (.refl s) (.foldl (fun s k => sourcePacket_sameLoads s tenant flow k) _ s)

/-! ### A request's answer leaves the weight sets (R15, R143, R179, R222, R363) -/

theorem ringEntry_sameLoads (s : State) (r : Nat) : SameLoads s (s.ringEntry r) := by
  unfold State.ringEntry
  have h (g : RingSt) : SameLoads s (s.setRing r g) := .of_eq rfl rfl
  exact .ite ((h _).trans (arrive_sameLoads _ _)) (h _)

theorem emit_sameLoads (s : State) (o : Out) : SameLoads s (s.emit o) := by
  unfold State.emit
  split
  · exact .ite ((ringEntry_sameLoads s _).trans (.of_eq rfl rfl)) (.of_eq rfl rfl)
  · exact .of_eq rfl rfl

theorem recordDone_sameLoads (s : State) (n : Nat) (placed : Bool) : SameLoads s (s.recordDone n placed) := by
  unfold State.recordDone
  exact .ite (.refl s) (.trans (.of_eq rfl rfl) (sourceMessage_sameLoads _ _ _ _ _ _ _ _ _ _ _))

theorem reply_sameLoads (s : State) (src : Src) (tag gen tenant replyAt : Nat) (data : List Nat) (a : Answer) :
    SameLoads s (s.reply src tag gen tenant replyAt data a) := by
  cases src with
  | fabric => exact (sourceMessage_sameLoads s _ _ _ _ _ _ _ _ _ _).trans (emit_sameLoads _ _)
  | ring => exact .trans (.of_eq rfl rfl) (emit_sameLoads (s.work hostLink 0 _) _)
  | mirror n => exact recordDone_sameLoads s n _

theorem weightObject_statusCounter (kind : Nat) (x : Status) : weightObject (statusCounter kind x.code) = false := by
  unfold statusCounter
  split_ifs <;> cases x <;> rfl

theorem weightObject_tenantKey (t sub : Nat) : weightObject (tenantKey t sub) = false := by
  have hlow : 0x3000 ≤ tenantKey t sub / 256 := by unfold tenantKey recKey; omega
  simp only [weightObject, Bool.or_eq_false_iff, decide_eq_false_iff_not]
  exact ⟨fun h => by omega, fun h => by omega⟩

theorem countStatus_sameLoads (s : State) (kind seqId : Nat) (a : Answer) : SameLoads s (s.countStatus kind seqId a) := by
  have hkind : SameLoads s (if 1 ≤ kind ∧ kind ≤ 11 then s.bump (statusCounter kind a.status.code) else s) :=
    .ite (bump_sameLoads s (weightObject_statusCounter kind a.status)) (.refl s)
  have hbusy {u : State} (c : Prop) [Decidable c] {v : State} {k : Nat} (hk : weightObject k = false) (hv : SameLoads u v) :
      SameLoads u (if c then u.bump k else v) := .ite (bump_sameLoads u hk) hv
  simp only [State.countStatus]
  generalize (if 1 ≤ kind ∧ kind ≤ 11 then _ else _ : State) = u at hkind ⊢
  refine hkind.trans ?_
  split
  · exact bump_sameLoads _ (weightObject_tenantKey _ _)
  · exact bump_sameLoads _ (by decide)
  · exact hbusy _ rfl (hbusy _ rfl (hbusy _ rfl (hbusy _ rfl (hbusy _ rfl (.refl u)))))
  · exact .refl _

theorem closed_sameLoads (s : State) (tag : Nat) (q : Request) (a : Answer) : SameLoads s (closed s tag q a) := by
  refine ⟨rfl, fun k hk => ?_⟩
  have hcount := (countStatus_sameLoads s q.kind q.seqId a).2 k hk
  unfold closed
  by_cases hm : q.src.isMirror = true
  · simp only [State.obj, hm, if_true]
  · simp only [State.obj, hm]
    exact hcount

theorem complete_sameLoads (s : State) (tag : Nat) (q : Request) (a : Answer) (data : List Nat) : SameLoads s (s.complete tag q a data) := by
  rw [complete_eq_closed]
  exact (closed_sameLoads s tag q a).trans (reply_sameLoads _ _ _ _ _ _ _ _)

/-! ### A request that is ended from outside leaves the weight sets (R137, R193, R200) -/

theorem releaseHeld_sameLoads (s : State) (tag : Nat) (q : Request) : SameLoads s (s.releaseHeld tag q) := by
  unfold State.releaseHeld
  refine .setBodies (.trans (.of_eq rfl rfl) (SameLoads.foldl (fun u w => ?_) q.writes (s.chargeBy _ _))) _
  exact .ite (.of_eq rfl rfl) (.of_eq rfl rfl)

theorem bankHolds_sameLoads (s : State) (rows : List Nat) : SameLoads s (s.bankHolds rows) := by
  unfold State.bankHolds
  exact .foldl (fun u row => .ite (.refl u) ((bump_sameLoads u (by decide)).trans (setObj_sameLoads _ _ (by decide)))) rows s

theorem stackAccess_sameLoads (s : State) (c off len : Nat) : SameLoads s (s.stackAccess c off len) :=
  (SameLoads.foldl (fun u row => .of_eq (t := u.work (stackRes (row / 2 ^ 23)) c (min len 16384)) rfl rfl) (rowsOf off len) s).trans
    (bankHolds_sameLoads _ _)

theorem writeStack_sameLoads (s : State) (a : Nat) (bs : List Nat) : SameLoads s (s.writeStack a bs) := .of_eq rfl rfl

theorem setFrames_sameLoads (s : State) (m : Map Frame) : SameLoads s { s with frames := m } := .of_eq rfl rfl
theorem chargeBy_sameLoads (s : State) (t : Nat) (f : Charges → Charges) : SameLoads s (s.chargeBy t f) := .of_eq rfl rfl

theorem dropRef_sameLoads (s : State) (k : Nat) : SameLoads s (s.dropRef k) := by
  have hfree : SameLoads s (s.freeFrame k) := by
    unfold State.freeFrame
    split
    · exact .refl s
    · exact ((writeStack_sameLoads s _ _).trans (setFrames_sameLoads _ _)).trans (chargeBy_sameLoads _ _ _)
  have hcount (f : Frame) (n : Nat) : SameLoads s (s.recount k f n) := 
    ((stackAccess_sameLoads s 4 (k * 65536) 64).trans (setFrames_sameLoads _ _)).trans (writeStack_sameLoads _ _ _)
  have hjournal (u : State) : SameLoads u (u.journal k (-1)) := .ite (.of_eq rfl rfl) (.refl u)
  unfold State.dropRef
  split
  · exact .refl s
  · exact .trans (.ite (.refl s) (.ite hfree (hcount _ _))) (hjournal _)

theorem undoMove_sameLoads (s : State) (seqId : Nat) : SameLoads s (s.undoMove seqId) := by
  unfold State.undoMove
  split
  · exact .refl s
  · dsimp only
    split
    · exact .of_eq rfl rfl
    · exact .of_eq rfl rfl
    · exact .trans (.of_eq rfl rfl) (SameLoads.foldl dropRef_sameLoads _ _)
    · exact .refl s

theorem cutOff_sameLoads (s : State) (tag : Nat) (q : Request) : SameLoads s (cutOff s tag q) := by
  have hmove : SameLoads s (if q.phase = .move then s.undoMove q.seqId else s) := .ite (undoMove_sameLoads s _) (.refl s)
  exact (hmove.trans (releaseHeld_sameLoads _ tag q)).trans (.of_eq rfl rfl)

theorem endAny_sameLoads (s : State) (tag : Nat) (a : Answer) : SameLoads s (s.endAny tag a) := by
  cases h : Map.find s.reqs tag with
  | none =>
    unfold State.endAny
    rw [h]
    exact .refl s
  | some q =>
    rw [endAny_eq_complete a h]
    exact (cutOff_sameLoads s tag q).trans (complete_sameLoads _ tag q a [])

/-! ### Bindings (R180, R181, R222) -/

/-- No heads need no room. -/
theorem regions_zero (sh : Shape) : sh.keyRegion 0 + sh.valRegion 0 ≤ 12288 := by
  simp [Shape.keyRegion, Shape.valRegion, roundUp64]

/-- The heads per group are the greatest number up to 16 whose two regions fit (R181). -/
theorem headsPerGroup_fits (sh : Shape) :
    sh.headsPerGroup ≤ 16 ∧ sh.keyRegion sh.headsPerGroup + sh.valRegion sh.headsPerGroup ≤ 12288 := by
  unfold Shape.headsPerGroup
  refine List.foldlRecOn (motive := fun n => n ≤ 16 ∧ sh.keyRegion n + sh.valRegion n ≤ 12288) _ _ ⟨Nat.zero_le _, regions_zero sh⟩
    fun n hn m hm => ?_
  simp only [List.mem_filter, List.mem_range, decide_eq_true_eq] at hm
  obtain h | h := max_choice n m
  · rw [h]; exact hn
  · rw [h]; exact ⟨Nat.le_of_lt_succ hm.1, hm.2⟩

theorem le_headsPerGroup (sh : Shape) {m : Nat} (hm : m ≤ 16) (hfit : sh.keyRegion m + sh.valRegion m ≤ 12288) : m ≤ sh.headsPerGroup := by
  unfold Shape.headsPerGroup
  rw [List.foldl_eq_foldr]
  exact List.le_max_of_le (List.mem_filter.mpr ⟨List.mem_range.mpr (Nat.lt_succ_of_le hm), decide_eq_true hfit⟩) le_rfl

theorem bindKey_inj {b j k : Nat} : bindKey b j = bindKey b k ↔ j = k := by simp [bindKey, recKey]

/-- A binding's fields: the one that was written, and the others. -/
theorem obj_setObj_bindKey (s : State) (b j k v : Nat) : (s.setObj (bindKey b k) v).obj (bindKey b j) = if j = k then v else s.obj (bindKey b j) := by
  by_cases h : j = k
  · rw [if_pos h, h, obj_setObj_same]
  · rw [if_neg h, obj_setObj_ne s v (mt bindKey_inj.mp h)]

section
variable {s : State} {b : Nat}

theorem enableBinding_of_enabled (h : s.obj (bindKey b 9) % 16 = 1) : s.enableBinding b = s := if_pos h

section
variable (off : s.obj (bindKey b 9) % 16 ≠ 1)
include off

/-- A shape that R180 does not allow is refused for reason 1. -/
theorem enableBinding_of_illegal (h : (s.shape b).legal = false ∨ 0 < (s.shape b).headsPerGroup ∧
    1024 < (s.shape b).layers * (s.shape b).groupsFor (s.shape b).headsPerGroup) : s.enableBinding b = s.setObj (bindKey b 9) 16 := by
  unfold State.enableBinding
  obtain h | ⟨hn, hg⟩ := h
  · simp [off, h]
  · by_cases hl : (s.shape b).legal = true
    · simp [off, hl, hn.ne', hg]
    · simp [off, hl]

/-- A shape of which not one head fits is refused for reason 2. -/
theorem enableBinding_of_noHeads (hl : (s.shape b).legal = true) (h : (s.shape b).headsPerGroup = 0) :
    s.enableBinding b = s.setObj (bindKey b 9) 32 := by
  simp [State.enableBinding, off, hl, h]

theorem enableBinding_of_legal (hl : (s.shape b).legal = true) (hn : 0 < (s.shape b).headsPerGroup)
    (hg : (s.shape b).layers * (s.shape b).groupsFor (s.shape b).headsPerGroup ≤ 1024) :
    s.enableBinding b = ((s.setObj (bindKey b 7) (s.shape b).headsPerGroup).setObj (bindKey b 8)
      ((s.shape b).groupsFor (s.shape b).headsPerGroup)).setObj (bindKey b 9) 1 := by
  simp [State.enableBinding, off, hl, hn.ne', hg]

/-- A binding that is enabled reads its heads per group, its groups and its state as set. -/
theorem enableBinding_fields (hl : (s.shape b).legal = true) (hn : 0 < (s.shape b).headsPerGroup)
    (hg : (s.shape b).layers * (s.shape b).groupsFor (s.shape b).headsPerGroup ≤ 1024) :
    (s.enableBinding b).obj (bindKey b 7) = (s.shape b).headsPerGroup ∧
      (s.enableBinding b).obj (bindKey b 8) = (s.shape b).groupsFor (s.shape b).headsPerGroup ∧
      (s.enableBinding b).obj (bindKey b 9) = 1 ∧ OnlyObjects s (s.enableBinding b) := by
  rw [enableBinding_of_legal off hl hn hg]
  exact ⟨by simp [obj_setObj_bindKey], by simp [obj_setObj_bindKey], obj_setObj_same _ _ _,
    (((OnlyObjects.refl s).setObj _ _).setObj _ _).setObj _ _⟩

end

/-- A disabled binding's n, groups and state read 0. -/
theorem obj_unbindShape {sub : Nat} (h : sub ∈ [7, 8, 9]) : (s.unbindShape b).obj (bindKey b sub) = 0 := by
  simp only [List.mem_cons, List.not_mem_nil, or_false] at h
  obtain rfl | rfl | rfl := h <;> simp [State.unbindShape, obj_setObj_bindKey]

theorem unbindShape_onlyObjects : OnlyObjects s (s.unbindShape b) := (((OnlyObjects.refl s).setObj _ _).setObj _ _).setObj _ _

theorem disableBinding_of_unused (h : s.bindingUsed b = false) : (s.disableBinding b).getD s = s.unbindShape b := by
  simp [State.disableBinding, h]

theorem disableBinding_of_used (h : s.bindingUsed b = true) : (s.disableBinding b).getD s = s := by
  simp [State.disableBinding, h]

theorem writeShape_of_used (h : s.bindingUsed b = true) (sub v : Nat) : (s.writeShape b sub v).getD s = s := by
  simp [State.writeShape, h]

theorem writeShape_of_unused (h : s.bindingUsed b = false) {sub v : Nat} (hsub : sub ∈ [1, 2, 3, 4, 5, 6, 0xB])
    (hv : v ≤ objMax (bindKey b sub)) (hB : sub = 0xB → v ≤ 1) :
    (s.writeShape b sub v).getD s = (if s.obj (bindKey b 9) % 16 = 1 then s.unbindShape b else s).setObj (bindKey b sub) v := by
  have hok : ¬ (s.bindingUsed b = true ∨ (!([1, 2, 3, 4, 5, 6, 0xB].contains sub)) = true ∨ v > objMax (bindKey b sub) ∨ (sub = 0xB ∧ 1 < v)) := by
    rw [h, List.contains_iff_mem.mpr hsub]
    simpa [hv] using hB
  unfold State.writeShape
  rw [if_neg hok]
  rfl

/-- A shape field that is written reads as written, and a binding that was enabled is disabled. -/
theorem writeShape_fields (h : s.bindingUsed b = false) {sub v : Nat} (hsub : sub ∈ [1, 2, 3, 4, 5, 6, 0xB])
    (hv : v ≤ objMax (bindKey b sub)) (hB : sub = 0xB → v ≤ 1) :
    ((s.writeShape b sub v).getD s).obj (bindKey b sub) = v ∧
      (s.obj (bindKey b 9) % 16 = 1 → ((s.writeShape b sub v).getD s).obj (bindKey b 9) = 0) ∧
      OnlyObjects s ((s.writeShape b sub v).getD s) := by
  have hne : (9 : Nat) ≠ sub := by rintro rfl; simp at hsub
  rw [writeShape_of_unused h hsub hv hB]
  refine ⟨obj_setObj_same _ _ _, fun hon => ?_, ?_⟩
  · rw [if_pos hon, obj_setObj_bindKey, if_neg hne, obj_unbindShape (by decide)]
  · split
    · exact unbindShape_onlyObjects.setObj _ _
    · exact (OnlyObjects.refl s).setObj _ _

end

/-! ### Weight sets that are unloaded (R253, R257, R409) -/

theorem setPolder_sharesFreed (s : State) {p : Nat} {x : Polder} (h : x.weightFrames ≤ (s.polder p).weightFrames) : SharesFreed s (s.setPolder p x) := by
  refine ⟨rfl, fun q => ?_⟩
  rw [polder_setPolder]
  split
  case isTrue hq => rw [hq]; exact h
  case isFalse => exact le_rfl

theorem dropWeights_sharesFreed (s : State) (b : Nat) : SharesFreed s (s.dropWeights b) := by
  unfold State.dropWeights
  refine .trans (.foldl (fun u x => ?_) _ s) ⟨rfl, fun _ => le_rfl⟩
  exact .ite (setPolder_sharesFreed u (Nat.sub_le _ _)) (.ite ⟨rfl, fun _ => le_rfl⟩ (.refl u))

theorem unloadWeights_sharesFreed (s : State) (b : Nat) : SharesFreed s (s.unloadWeights b) := by
  have hmeasure (u : State) (place : Nat) (e : Option Meas) : SharesFreed u (u.measure place e) := ⟨rfl, fun _ => le_rfl⟩
  have hset (u : State) (w : Weights) : SharesFreed u (u.setWeight b w) := ⟨rfl, fun _ => le_rfl⟩
  unfold State.unloadWeights
  exact .trans (.trans (.ite (dropWeights_sharesFreed s b) (.refl s)) (hset _ _)) (.ite (hmeasure _ _ _) (.refl _))

@[simp] theorem measure_weight (s : State) (place b : Nat) (e : Option Meas) : (s.measure place e).weight b = s.weight b := rfl

/-- Nothing but its key is left of a set that is unloaded. -/
theorem unloadWeights_weight (s : State) (b : Nat) : (s.unloadWeights b).weight b = { key := (s.weight b).key } := by
  unfold State.unloadWeights
  dsimp only
  by_cases h : (s.weight b).loaded = true
  · rw [if_pos h, measure_weight, weight_setWeight_same]
  · rw [if_neg h, weight_setWeight_same]

theorem unloadWeights_of_empty {s : State} {b : Nat} (hed : (s.weight b).loaded = false) (hing : (s.weight b).loading = false) :
    s.unloadWeights b = s.setWeight b { key := (s.weight b).key } := by
  simp [State.unloadWeights, hed, hing]

theorem unloadWeights_key (s : State) (b : Nat) : ((s.unloadWeights b).weight b).key = (s.weight b).key := by rw [unloadWeights_weight]

theorem unloadWeights_onlyWeights {s : State} {b : Nat} (hed : (s.weight b).loaded = false) (hing : (s.weight b).loading = false) :
    s.unloadWeights b = { s with weights := (s.unloadWeights b).weights } := by
  rw [unloadWeights_of_empty hed hing]
  rfl

/-! ### Shares that are placed (R152, R257, R425, R427) -/

theorem writeStack_sameSets (s : State) (a : Nat) (bs : List Nat) : SameSets s (s.writeStack a bs) := ⟨rfl, rfl, rfl⟩

theorem sealRun_sameSets (s : State) (n block : Nat) (bs : List Nat) : SameSets s (s.sealRun n block bs).1 := by
  unfold State.sealRun State.toHostMemory
  dsimp only
  split <;> exact ⟨rfl, rfl, rfl⟩

theorem sealShare_sameSets (s : State) (block : Nat) (bs : List Nat) : SameSets s (s.sealShare block bs).1 := by
  unfold State.sealShare
  refine List.foldlRecOn (motive := fun acc : State × List (Nat × Nat) => SameSets s acc.1) _ _ (.refl s) fun acc h i _ => ?_
  exact h.trans (sealRun_sameSets _ _ _ _)

theorem takeExtents_sameSets (s : State) (d n : Nat) : SameSets s (s.takeExtents d n).1 := by
  have hwork (u : State) (x : Nat) : SameSets u (u.work (flashRoot d) 5 4194304) := ⟨rfl, rfl, rfl⟩
  unfold State.takeExtents
  exact .trans (.trans ⟨rfl, rfl, rfl⟩ (.foldl hwork _ (s.setDrive d _))) ⟨rfl, rfl, rfl⟩

theorem setDrive_sameSets (s : State) (d : Nat) (x : DriveSt) : SameSets s (s.setDrive d x) := ⟨rfl, rfl, rfl⟩
theorem toFlash_sameSets (s : State) (d : Nat) (extents bs : List Nat) : SameSets s (s.toFlash d extents bs) := ⟨rfl, rfl, rfl⟩

theorem addShare_placed (s : State) (b : Nat) (x : Share) : Placed b [x] s (s.addShare b x) :=
  ⟨weight_setWeight_same s b _, rfl, fun _ => le_max_right _ _⟩

/-- A share that stays within the budget may be counted among its polder's weight frames. -/
theorem setPolder_placed {s : State} {p n : Nat} (b : Nat) (h : (s.polder p).weightFrames + n ≤ s.obj 0x290008) :
    Placed b [] s (s.setPolder p { s.polder p with weightFrames := (s.polder p).weightFrames + n }) := by
  refine ⟨by rw [List.append_nil]; rfl, rfl, fun q => ?_⟩
  rw [polder_setPolder]
  split
  · exact h.trans (le_max_left _ _)
  · exact le_max_right _ _

/-- A share that is placed stands in the set with its layer, its array and its bytes, in whatever tier (R152). -/
theorem placeShare_placed {s t : State} {b layer array : Nat} {bytes : List Nat} (h : s.placeShare b layer array bytes = some t) :
    ∃ x : Share, (x.layer, x.array, x.coded) = (layer, array, bytes.length) ∧ Placed b [x] s t := by
  rw [State.placeShare] at h
  split at h
  case h_1 frames hframes =>
    split_ifs at hframes with hroom
    cases h
    have hfill := SameSets.foldl (fun u (f : Nat × Nat) => writeStack_sameSets u (f.1 * 65536) ((bytes.drop (f.2 * 65536)).take 65536))
      frames.zipIdx (s.addShare b ⟨layer, array, bytes.length, 1, frames, 0, []⟩)
    refine ⟨_, rfl, ((addShare_placed s b _).trans (hfill.placed b)).trans (setPolder_placed b ?_)⟩
    rw [hfill.polder_eq, hfill.obj_eq]
    exact hroom.1
  case h_2 =>
    dsimp only at h
    split at h
    case h_1 a _ =>
      cases h
      exact ⟨_, rfl, ((sealShare_sameSets s a bytes).placed b).trans (addShare_placed _ b _)⟩
    case h_2 =>
      split at h
      case h_1 d _ =>
        cases h
        exact ⟨_, rfl, ((((takeExtents_sameSets s d _).trans (setDrive_sameSets _ _ _)).trans (toFlash_sameSets _ _ _ _)).placed b).trans
          (addShare_placed _ b _)⟩
      case h_2 => cases h

theorem placeShares_cons (s : State) (b layer array : Nat) (bytes : List Nat) (l : List (Nat × Nat × List Nat)) :
    s.placeShares b ((layer, array, bytes) :: l) = (s.placeShare b layer array bytes).bind fun u => u.placeShares b l := by
  rw [State.placeShares]
  cases s.placeShare b layer array bytes <;> rfl

/-- The shares of a set are placed in order, each with its layer, its array and its bytes (R150, R257). -/
theorem placeShares_placed {s t : State} {b : Nat} {l : List (Nat × Nat × List Nat)} (h : s.placeShares b l = some t) :
    ∃ xs : List Share, xs.map (fun x => (x.layer, x.array, x.coded)) = l.map (fun x => (x.1, x.2.1, x.2.2.length)) ∧ Placed b xs s t := by
  induction l generalizing s with
  | nil =>
    cases h
    exact ⟨[], rfl, (SameSets.refl _).placed b⟩
  | cons x l ih =>
    obtain ⟨layer, array, bytes⟩ := x
    rw [placeShares_cons, Option.bind_eq_some_iff] at h
    obtain ⟨u, hu, hrest⟩ := h
    obtain ⟨y, hy, hplaced⟩ := placeShare_placed hu
    obtain ⟨ys, hys, hafter⟩ := ih hrest
    exact ⟨y :: ys, by rw [List.map_cons, List.map_cons, hy, hys], hplaced.trans hafter⟩

/-! ### WEIGHT_LOAD (R148, R151, R415 to R417) -/

section
variable (u : State) (b : Nat) (header : List Nat) (sizes : List (List Nat)) (hasQ : Bool) (wFmt aFmt tables : Nat)

/-- The set that a load opens, before its shares are placed. -/
def openedSet (opened : List (Option (List Nat))) : Weights :=
  { u.weight b with loading := true, serial := fieldAt header 4 4, hasQ := hasQ, wFmt := wFmt, aFmt := aFmt, tables := tables,
                    polders := u.sharePolders b hasQ, shares := [], intact := setIntact header opened,
                    digest := leNat (sha3 (opened.flatMap fun x => x.getD [])) }

/-- The shares of a plaintext with their layers and arrays, in the order in which they are placed. -/
def dealtShares (plain : List Nat) : List (Nat × Nat × List Nat) :=
  let arrays := (u.shareQuarters b hasQ).map fun x => x.1
  let cut := sizes.map fun l => l.take arrays.length
  ((cut.zipIdx.flatMap fun l => (arrays.zip l.1).map fun x => (l.2, x.1, x.2)).zip (cutRuns plain cut.flatten)).map fun x => (x.1.1, x.1.2.1, x.2)

end

section
variable {s : State} {b : Nat} (header : List Nat) (segments sizes : List (List Nat)) (hasQ : Bool) (wFmt aFmt tables : Nat)
  (hgone : s.dutyGone 2 = false) (hheld : s.dutyHeld 2 = false) (hload : (s.weight b).loading = false)
include hgone hheld hload

theorem startLoad_of_noKey (hkey : (s.weight b).key = none) :
    s.startLoad b header segments sizes hasQ wFmt aFmt tables = (s.unloadWeights b).setObj 0x2B3404 3 := by
  unfold State.startLoad
  rw [if_neg (by simp [hgone, hheld, hload])]
  dsimp only
  rw [unloadWeights_key, hkey]

theorem startLoad_of_key {k : Nat} (hkey : (s.weight b).key = some k) :
    s.startLoad b header segments sizes hasQ wFmt aFmt tables =
      (((s.unloadWeights b).setWeight b (openedSet (s.unloadWeights b) b header hasQ wFmt aFmt tables (openSegments k header segments))).placeShares b
        (dealtShares (s.unloadWeights b) b sizes hasQ ((openSegments k header segments).flatMap fun x => x.getD []))).getD
        (((s.unloadWeights b).setWeight b {}).setObj 0x2B3404 4) := by
  unfold State.startLoad openedSet dealtShares
  rw [if_neg (by simp [hgone, hheld, hload])]
  dsimp only
  rw [unloadWeights_key, hkey]
  dsimp only
  cases State.placeShares _ b _ <;> rfl

end

/-! ### WEIGHT_LOAD_END (R409, R416, R417) -/

section
variable {s : State} {b : Nat}

theorem finishLoad_of_idle (h : (s.weight b).loading = false) : s.finishLoad b = s := by
  simp [State.finishLoad, State.endLoad, h]

section
variable (h : (s.weight b).loading = true)
include h

theorem finishLoad_of_intact (hok : (s.weight b).intact = true) : s.finishLoad b =
    ((s.setWeight b { s.weight b with loading := false, loaded := true, key := none, intact := false, digest := 0 }).measure (measWeights b)
      (some ⟨6, b, (s.weight b).serial, s.time, (s.weight b).digest⟩)).setObj 0x2B3404 0 := by
  simp [State.finishLoad, State.endLoad, h, hok]

theorem finishLoad_of_broken (hbad : (s.weight b).intact = false) :
    s.finishLoad b = ((s.dropWeights b).setWeight b {}).setObj 0x2B3404 2 := by
  simp [State.finishLoad, State.endLoad, h, hbad]

end

end

/-! ### REFETCH_RESULT (R240, R253) -/

/-- The counter of a refetch by its result (2A00h.05, 2A00h.06). -/
def refetchCounter (good : Bool) : Nat := if good then 0x2A0005 else 0x2A0006

theorem obj_bump_refetchCounter (s : State) (good : Bool) :
    (s.bump (refetchCounter good)).obj (refetchCounter good) = min (s.obj (refetchCounter good) + 1) (2 ^ 32 - 1) :=
  obj_bump s (by cases good <;> decide)

/-- The requests that wait on a set's block have ended, both counters counted (R253). -/
def refetched (s : State) (tags : List Nat) (good : Bool) : State :=
  tags.foldl (fun s t => s.endAny t ⟨.malformed, if good then 0x10 else 0x11, leBytes 4 0⟩) ((s.bump (refetchCounter good)).bump 0x2B3405)

theorem refetch_weight (s : State) (b : Binding) (tags : List Nat) (good : Bool) : s.refetch (.weight b tags) good =
    if good then refetched s tags good else ((refetched s tags good).unloadWeights b).setObj 0x2B3404 1 := rfl

section
variable (s : State) (tags : List Nat) (good : Bool)

theorem refetched_sameLoads : SameLoads ((s.bump (refetchCounter good)).bump 0x2B3405) (refetched s tags good) :=
  .foldl (fun u t => endAny_sameLoads u t _) tags _

theorem refetched_weights : (refetched s tags good).weights = s.weights := (refetched_sameLoads s tags good).1

theorem refetched_counts : (refetched s tags good).obj (refetchCounter good) = min (s.obj (refetchCounter good) + 1) (2 ^ 32 - 1) := by
  rw [(refetched_sameLoads s tags good).2 _ (by cases good <;> decide), obj_bump_ne _ (by cases good <;> decide), obj_bump_refetchCounter]

theorem refetched_counts_weights : (refetched s tags good).obj 0x2B3405 = min (s.obj 0x2B3405 + 1) (2 ^ 32 - 1) := by
  rw [(refetched_sameLoads s tags good).2 _ (by decide), obj_bump _ (by decide), obj_bump_ne _ (by cases good <;> decide)]

theorem find_refetched {k : Nat} (hk : k ∈ tags) : Map.find (refetched s tags good).reqs k = none := by
  unfold refetched
  rw [find_foldl_endAny, if_pos hk]

end

theorem requeue_eq (s : State) (i key : Nat) : s.requeue i key = { s with polders := (s.requeue i key).polders } := by
  unfold State.requeue
  split
  · rfl
  · split
    · dsimp only
      split <;> rfl
    · rfl

/-- A good block of a stored page changes rings at most, beside the counter. -/
theorem refetch_of_good {s : State} {m : Malformed} {i key : Nat} (hm : m = .copy i key ∨ m = .restore i key) :
    s.refetch m true = { s.bump (refetchCounter true) with polders := (s.refetch m true).polders } := by
  obtain rfl | rfl := hm
  · rfl
  · exact requeue_eq _ i key

theorem refetch_of_bad {s : State} {m : Malformed} {i key : Nat} (hm : m = .copy i key ∨ m = .restore i key) :
    s.refetch m false = (s.bump (refetchCounter false)).loseStored i key := by
  obtain rfl | rfl := hm <;> rfl

theorem loseStored_obj (s : State) (i key k : Nat) : (s.loseStored i key).obj k = s.obj k := by
  unfold State.loseStored
  split <;> rfl

theorem find_loseStored {s : State} {i key : Nat} {e : Seq} {x : Stored} (he : Map.find s.seqs i = some e) (hx : Map.find e.stored key = some x) :
    ∃ e', Map.find (s.loseStored i key).seqs i = some e' ∧ Map.find e'.stored key = some { x with lost := true } := by
  refine ⟨{ e with stored := Map.adjust e.stored key fun x => { x with lost := true } }, ?_, ?_⟩
  · simp [State.loseStored, he, State.setSeq]
  · simp [Map.adjust, hx]

/-! ### The obligation -/

/-- Settles O34: BINDING_ENABLE by what the shape allows and the other controls by whether the binding is in use; WEIGHT_LOAD by its key and the
room for its shares, placed one after another within the budget; WEIGHT_LOAD_END by what was delivered; and a refetch's counters, which no end of
a request touches. -/
theorem bindingsAndWeightSets : Obligations.BindingsAndWeightSets := by
  unfold Obligations.BindingsAndWeightSets
  refine ⟨?_, ?_, ?_, ?_⟩
  · intro s b sh n off
    refine ⟨fun hon => ⟨_, rfl, enableBinding_of_enabled (not_not.mp hon)⟩, fun hoff hl hn hg => ⟨_, rfl, ?_⟩, fun hoff hbad => ⟨_, rfl, ?_⟩,
      fun hoff hl hn => ⟨_, rfl, ?_⟩, fun hused => ⟨⟨_, rfl, disableBinding_of_used hused⟩, fun sub v => ⟨_, rfl, writeShape_of_used hused sub v⟩⟩,
      fun hfree => ⟨⟨_, rfl, ?_⟩, fun sub v hsub hv hB => ⟨_, rfl, ?_⟩⟩⟩
    · obtain ⟨hheads, hgroups, hstate, honly⟩ := enableBinding_fields hoff hl hn hg
      obtain ⟨h16, hfit⟩ := headsPerGroup_fits sh
      exact ⟨hheads, hgroups, hstate, honly, h16, hfit, fun m hm hfits => le_headsPerGroup sh hm hfits⟩
    · rw [enableBinding_of_illegal hoff hbad]
      exact ⟨obj_setObj_same s _ _, rfl⟩
    · rw [enableBinding_of_noHeads hoff hl hn]
      exact ⟨obj_setObj_same s _ _, rfl⟩
    · rw [disableBinding_of_unused hfree]
      exact ⟨obj_unbindShape (by decide), obj_unbindShape (by decide), obj_unbindShape (by decide), unbindShape_onlyObjects⟩
    · obtain ⟨hfield, hstate, honly⟩ := writeShape_fields hfree hsub hv hB
      exact ⟨hfield, fun hon => hstate (not_not.mp hon), honly⟩
  · intro s b header segments sizes hasQ wFmt aFmt tables hgone hheld hload c u
    have hfreed : SharesFreed s u := unloadWeights_sharesFreed s b
    refine ⟨fun hed => unloadWeights_onlyWeights hed hload, unloadWeights_key s b, fun hkey => ⟨_, rfl, ?_⟩, fun k hkey => ?_⟩
    · rw [startLoad_of_noKey header segments sizes hasQ wFmt aFmt tables hgone hheld hload hkey]
      exact ⟨obj_setObj_same _ _ _, hfreed.seqs_eq, hfreed.frames_eq, congrArg Weights.loading (unloadWeights_weight s b)⟩
    · intro opened plain w arrays cut dealt
      have hstart := startLoad_of_key header segments sizes hasQ wFmt aFmt tables hgone hheld hload hkey
      refine ⟨fun hnone => ⟨_, rfl, ?_⟩, fun s' hs' => ⟨_, rfl, ?_⟩⟩
      · rw [hstart.trans (congrArg (Option.getD · _) hnone)]
        have hw := weight_setWeight_same u b {}
        exact ⟨obj_setObj_same _ _ _, congrArg Weights.loading hw, congrArg Weights.shares hw⟩
      · obtain ⟨xs, hxs, hw, -, hframes⟩ := placeShares_placed hs'
        rw [weight_setWeight_same] at hw
        rw [hstart.trans (congrArg (Option.getD · _) hs')]
        refine ⟨rfl, ?_, ?_, fun p _ => ?_⟩
        · rw [Option.getD_some, hw]
        · rw [Option.getD_some, hw]
          exact hxs
        · exact (hframes p).trans (max_le_max (hfreed.obj_eq _).le le_rfl)
  · intro s b
    refine ⟨fun h => ⟨_, rfl, finishLoad_of_idle h⟩, fun h hok => ⟨_, rfl, ?_⟩, fun h hbad => ⟨_, rfl, ?_⟩⟩
    · rw [finishLoad_of_intact h hok]
      exact ⟨weight_setWeight_same s b _, obj_setObj_same _ _ _, rfl, find_put_same _ _ _, rfl⟩
    · have hfreed := dropWeights_sharesFreed s b
      rw [finishLoad_of_broken h hbad]
      exact ⟨weight_setWeight_same _ b _, obj_setObj_same _ _ _, hfreed.seqs_eq, hfreed.frames_eq, hfreed.2⟩
  · intro s b i key good counted
    refine ⟨fun tags => ⟨_, rfl, ?_⟩, fun m hm => ⟨_, rfl, ?_⟩⟩
    · have hmark := refetched_counts_weights s tags good
      rw [refetch_weight]
      cases good with
      | true => exact ⟨refetched_counts s tags true, hmark, fun k hk => find_refetched s tags true hk, fun _ => refetched_weights s tags true, nofun⟩
      | false =>
        have hfreed := unloadWeights_sharesFreed (refetched s tags false) b
        exact ⟨(obj_setObj_ne _ _ (by decide)).trans ((hfreed.obj_eq _).trans (refetched_counts s tags false)),
          (obj_setObj_ne _ _ (by decide)).trans ((hfreed.obj_eq _).trans hmark),
          fun k hk => (congrArg (Map.find · k) hfreed.reqs_eq).trans (find_refetched s tags false hk), nofun,
          fun _ => ⟨obj_setObj_same _ _ _, congrArg Weights.loaded (unloadWeights_weight _ b)⟩⟩
    · cases good with
      | true =>
        rw [refetch_of_good hm]
        exact ⟨obj_bump_refetchCounter s true, fun _ => rfl, fun _ _ hbad => nomatch hbad⟩
      | false =>
        rw [refetch_of_bad hm]
        refine ⟨(loseStored_obj _ i key _).trans (obj_bump_refetchCounter s false), nofun, fun e x _ he hx => ?_⟩
        obtain ⟨e', he', hx'⟩ := find_loseStored (s := s.bump (refetchCounter false)) he hx
        exact ⟨e', _, he', hx', rfl⟩

end Sys2Proof.Proofs

/-! PROOFS. A truncating RELEASE on a ring (O29): a device whose one sequence names a binding past the 64 records of 2B80h, so that its groups
are the count of the rings' requests (2F00h.08), which the RELEASE itself raises. -/

namespace Sys2Proof.Proofs
open Sys2Proof.Machine Sys2Proof.Safety Sys2Proof.Laws

/-- A sequence of binding 896, of one page, that of key 16384: layer 1 of one group, which holds 64 tokens, or group 1 of two in layer 0, which
holds none. -/
def aliasedSeq : Seq := { binding := 896, base := 0, counts := [0, 64], leaves := [(16384, ⟨5, 1⟩)] }

/-- It is served by a device whose rings have submitted one request. -/
def aliasedDevice : State := { start := { st := .serving }, regs := [(0x2F0008, 1)], seqs := [(8, aliasedSeq)] }

/-- A RELEASE of ring 0 that truncates sequence 8 to position 0. -/
def cutRequest : Req := { src := .ring 0 0 0, hdr := 5 + 2 * 2 ^ 8 + 8 * 2 ^ 64 }

theorem cutRequest_passes : ∃ write create needs span bad, checksOf aliasedDevice (.releaseTruncate cutRequest) =
    some (cutRequest, write, create, needs, span, bad) ∧ Safety.Passes aliasedDevice cutRequest write create needs span bad := by
  refine ⟨_, _, _, _, _, rfl, ?_⟩
  unfold Safety.Passes
  decide +kernel

theorem cutRequest_atTurn : AtTurn aliasedDevice (.releaseTruncate cutRequest) cutRequest 0 := by
  refine ⟨cutRequest_passes, ?_, ?_, ?_, fun _ => rfl, ?_, ?_⟩ <;> decide +kernel

/-- The model leaves the page named: in layer 0 there is nothing to cut. -/
theorem cutRequest_leaves_page : ∃ t, exec (.releaseTruncate cutRequest) aliasedDevice = .next t ∧
    ∃ e, Map.find t.seqs 8 = some e ∧ Map.find e.leaves 16384 = some ⟨5, 1⟩ := by
  have h : ((Map.find (aliasedDevice.release cutRequest).seqs 8).bind fun (e : Seq) => Map.find e.leaves 16384) = some ⟨5, 1⟩ := by decide +kernel
  exact ⟨_, rfl, Option.bind_eq_some_iff.mp h⟩

/-! ### The obligation -/

/-- Refutes O29: nothing bounds the binding that a descriptor names, and the groups of binding 896 are the object 2F00h.08 (R379), which counts
the RELEASE as its tag is taken. The statement reads the shape before that and the model after it: the page of key 16384 is of layer 1,
which holds more than 0 tokens, in the one and of layer 0 in the other, and the truncation to 0 leaves it. -/
theorem not_forksReleasesAndPinsCommit : ¬ Obligations.ForksReleasesAndPinsCommit := by
  unfold Obligations.ForksReleasesAndPinsCommit
  intro h
  obtain ⟨-, -, -, htruncate, -⟩ := h aliasedDevice cutRequest 0
  obtain ⟨t, ht, e', he', -, hcut, -⟩ := htruncate (.releaseTruncate cutRequest) aliasedSeq (.inr rfl) (by decide +kernel) (by decide +kernel)
    cutRequest_atTurn (by decide +kernel) rfl (by decide +kernel) (by decide +kernel)
  have hgone : Map.find e'.leaves 16384 = none := hcut 16384 (by decide +kernel) (by decide +kernel)
  obtain ⟨u, hu, e, he, hstays⟩ := cutRequest_leaves_page
  obtain rfl : u = t := by simpa using hu.symm.trans ht
  obtain rfl : e = e' := by
    have hseq : cutRequest.seqId = 8 := by decide +kernel
    rw [hseq, he] at he'
    exact Option.some.inj he'
  rw [hgone] at hstays
  cases hstays

end Sys2Proof.Proofs

/-! PROOFS. The recovery ladder (O43): keyed lists folded over, what an end of the ladder leaves of a frame, a fetch on its conduit, sequences lost with
a table-pool sector, and the patrol. -/

namespace Sys2Proof.Safety
open Sys2Proof.Machine

/-- A page is lost (R207): its frame says so, the loss is counted, no request changed, and no sequence names the frame as readable. -/
def PageLost (s t : State) (f : Nat) : Prop :=
  (∃ y, Map.find t.frames f = some y ∧ y.health = .lost ∧ y.hdr.lost = true) ∧ t.obj 0x2B4008 = min (s.obj 0x2B4008 + 1) (2 ^ 32 - 1) ∧
    t.reqs = s.reqs ∧ ∀ i e, Map.find t.seqs i = some e → ∀ k v, (k, v) ∈ e.leaves → v.val = f → v.loc ≠ 1

/-- A frame ended the ladder GOOD: no byte, sequence or request changed. -/
def EndedGood (s t : State) (f : Nat) (x : Frame) : Prop :=
  Map.find t.frames f = some { x with health := .good, ladderSeq := 0, noFetch := false } ∧ t.mem = s.mem ∧ t.seqs = s.seqs ∧ t.reqs = s.reqs

/-- A message is what it was, whatever its transmissions changed (R308). -/
def SameMessage (m w : SentMsg) : Prop := w.op = m.op ∧ w.what = m.what ∧ w.word = m.word ∧ w.body = m.body

/-- No frame changed, and the messages that a conduit had not placed still wait on it. -/
def StillQueued (c : Nat) (s t : State) : Prop :=
  t.frames = s.frames ∧ ∀ k m, Map.find (s.conduit c).unplaced k = some m → ∃ w, Map.find (t.conduit c).unplaced k = some w ∧ SameMessage m w

theorem SameMessage.refl (m : SentMsg) : SameMessage m m := ⟨rfl, rfl, rfl, rfl⟩

theorem StillQueued.of_eq {c : Nat} {s t : State} (hf : t.frames = s.frames) (hc : t.conduits = s.conduits) : StillQueued c s t :=
  ⟨hf, fun _ m hm => ⟨m, by unfold State.conduit; rw [hc]; exact hm, .refl m⟩⟩

theorem StillQueued.refl (c : Nat) (s : State) : StillQueued c s s := .of_eq rfl rfl

theorem StillQueued.trans {c : Nat} {s t u : State} (h : StillQueued c s t) (g : StillQueued c t u) : StillQueued c s u := by
  refine ⟨g.1.trans h.1, fun k m hm => ?_⟩
  obtain ⟨v, hv, hop, hwhat, hword, hbody⟩ := h.2 k m hm
  obtain ⟨w, hw, gop, gwhat, gword, gbody⟩ := g.2 k v hv
  exact ⟨w, hw, gop.trans hop, gwhat.trans hwhat, gword.trans hword, gbody.trans hbody⟩

theorem OnlyAnswered.stillQueued {s t : State} (h : OnlyAnswered s t) (c : Nat) : StillQueued c s t := .of_eq h.frames_eq (by rw [h.2])

/-- Only the recount sweep's journal changed. -/
def OnlySweep (s t : State) : Prop := t = { s with sweep := t.sweep }

theorem OnlySweep.refl (s : State) : OnlySweep s s := rfl

theorem OnlySweep.trans {s t u : State} (h : OnlySweep s t) (g : OnlySweep t u) : OnlySweep s u := Eq.trans g (by rw [h])

theorem OnlySweep.foldl {α : Type} {f : State → α → State} (h : ∀ s x, OnlySweep s (f s x)) (l : List α) (s : State) : OnlySweep s (l.foldl f s) := by
  induction l generalizing s with
  | nil => exact .refl s
  | cons x l ih => exact (h s x).trans (ih _)

end Sys2Proof.Safety

namespace Sys2Proof.Proofs
open Sys2Proof.Machine Sys2Proof.Safety Sys2Proof.Laws

/-! ### Lists that are folded over -/

theorem find_foldl_del {α : Type} (l : List Nat) (m : Map α) (k : Nat) : Map.find (l.foldl Map.del m) k = if k ∈ l then none else Map.find m k := by
  induction l generalizing m with
  | nil => rfl
  | cons i l ih =>
    rw [List.foldl_cons, ih]
    by_cases hl : k ∈ l
    · simp [hl]
    · by_cases hi : k = i
      · simp [hi]
      · simp [hl, hi, find_del_ne]

theorem mem_insertNat {l : List Nat} {n k : Nat} : k ∈ insertNat l n ↔ k ∈ l ∨ k = n := by
  unfold insertNat
  split
  · rename_i h
    simp only [List.contains_iff_mem] at h
    exact ⟨.inl, fun hk => hk.elim id (· ▸ h)⟩
  · simp

theorem length_insertNat_le (l : List Nat) (n : Nat) : (insertNat l n).length ≤ l.length + 1 := by
  unfold insertNat
  split <;> simp

theorem mem_foldl_insertNat {l m : List Nat} {k : Nat} : k ∈ l.foldl insertNat m ↔ k ∈ m ∨ k ∈ l := by
  induction l generalizing m with
  | nil => simp
  | cons n l ih => rw [List.foldl_cons, ih, mem_insertNat, List.mem_cons, or_assoc]

/-- Insertions up to a bound take every entry where the bound leaves room for them all. -/
theorem mem_foldl_insertNat_below {l m : List Nat} {bound k : Nat} (hroom : m.length + l.length ≤ bound) (hk : k ∈ m ∨ k ∈ l) :
    k ∈ l.foldl (fun m i => if m.length < bound then insertNat m i else m) m := by
  induction l generalizing m with
  | nil => simpa using hk
  | cons n l ih =>
    rw [List.length_cons] at hroom
    rw [List.foldl_cons, if_pos (by omega)]
    refine ih (by have := length_insertNat_le m n; omega) ?_
    rw [mem_insertNat]
    rcases hk with hk | hk
    · exact .inl (.inl hk)
    · exact (List.mem_cons.mp hk).elim (fun h => .inl (.inr h)) .inr

/-! ### Counters of the ladder (R379) -/

theorem framePolder_lt {f : Nat} (hf : f < 2 ^ 24) : framePolder f < 8 := by
  unfold framePolder
  omega

/-- A polder's counters of external failures, transients and repairs have 32 bits. -/
theorem objMax_ladderCounter {p sub : Nat} (hp : p < 8) (hsub : sub ∈ [2, 3, 4]) : objMax (recKey 0x2C00 p sub) = 2 ^ 32 - 1 := by
  have h : ∀ p < 8, ∀ sub ∈ [2, 3, 4], objMax (recKey 0x2C00 p sub) = 2 ^ 32 - 1 := by decide +kernel
  exact h p hp sub hsub

theorem objMax_lostPages : objMax 0x2B4008 = 2 ^ 32 - 1 := by decide
theorem objMax_retiredRows : objMax 0x2C0805 = 2 ^ 32 - 1 := by decide

/-! ### A page that is lost (R207) -/

section
variable {s : State} {f : Nat} {x : Frame} (hx : Map.find s.frames f = some x)
include hx

/-- What stands of a page that is marked lost, before its source is raised and the event logged. -/
theorem loseFrame_eq : ∃ u : State, s.loseFrame f = (u.arrive (polderSource (framePolder f) 3)).logEvent 2 1 (framePolder f) 1 f ∧
    u.frames = Map.put s.frames f { x with hdr := { x.hdr with lost := true }, health := .lost } ∧ u.regs = (s.bump 0x2B4008).regs ∧
    u.reqs = s.reqs ∧ u.retired = s.retired ∧ u.seqs = Map.each s.seqs fun _ (q : Seq) =>
      { q with leaves := Map.each q.leaves fun _ l => if l.val = f ∧ l.loc = 1 then { l with loc := 3 } else l } := by
  unfold State.loseFrame
  rw [hx]
  dsimp only
  refine ⟨_, rfl, ?_, ?_, ?_, ?_, ?_⟩
  · rw [bump_frames]; rfl
  · rfl
  · rw [bump_reqs]; rfl
  · rw [bump_retired]; rfl
  · rw [bump_seqs]; rfl

theorem loseFrame_retired : (s.loseFrame f).retired = s.retired := by
  obtain ⟨u, heq, -, -, -, hretired, -⟩ := loseFrame_eq hx
  rw [heq]
  simpa using hretired

theorem loseFrame_obj (k : Nat) : (s.loseFrame f).obj k = (s.bump 0x2B4008).obj k := by
  obtain ⟨u, heq, -, hregs, -⟩ := loseFrame_eq hx
  unfold State.obj
  rw [heq, ← hregs]
  simp

theorem loseFrame_pageLost : PageLost s (s.loseFrame f) f := by
  refine ⟨?_, (loseFrame_obj hx _).trans (obj_bump s objMax_lostPages), ?_⟩
  all_goals obtain ⟨u, heq, hframes, -, hreqs, -, hseqs⟩ := loseFrame_eq hx
  · refine ⟨{ x with hdr := { x.hdr with lost := true }, health := .lost }, ?_, rfl, rfl⟩
    simp [heq, hframes]
  · refine ⟨by simp [heq, hreqs], fun i e he k v hv hval => ?_⟩
    have hfind : Map.find u.seqs i = some e := by simpa [heq] using he
    rw [hseqs, find_each] at hfind
    obtain ⟨q, -, rfl⟩ := Option.map_eq_some_iff.mp hfind
    obtain ⟨⟨j, l⟩, -, hl⟩ := List.mem_map.mp hv
    obtain ⟨rfl, rfl⟩ := Prod.mk.inj hl
    dsimp only at hval ⊢
    split at hval
    · rename_i h
      rw [if_pos h]
      exact (by decide : 3 ≠ 1)
    · rename_i h
      rw [if_neg h]
      exact fun h1 => h ⟨hval, h1⟩

end

/-! ### A frame that is good again (R352) -/

section
variable {s : State} {f : Nat} {x : Frame}

theorem goodFrame_endedGood : EndedGood s (s.goodFrame f x) f x := ⟨find_put_same _ _ _, rfl, rfl, rfl⟩

theorem recovered_endedGood (sub : Nat) : EndedGood s (s.recovered f sub x) f x := by
  unfold EndedGood State.recovered State.goodFrame
  simp

theorem recovered_counted {sub : Nat} (hf : f < 2 ^ 24) (hsub : sub ∈ [2, 3, 4]) :
    (s.recovered f sub x).obj (recKey 0x2C00 (framePolder f) sub) = min (s.obj (recKey 0x2C00 (framePolder f) sub) + 1) (2 ^ 32 - 1) := by
  unfold State.recovered
  rw [arrive_obj, obj_bump _ (objMax_ladderCounter (framePolder_lt hf) hsub)]
  rfl

end

/-! ### A fetch goes out on its conduit (R305 to R308, R357) -/

theorem drawId_frames (s : State) (slot : Nat) : (s.drawId slot).1.frames = s.frames := by
  unfold State.drawId
  dsimp only
  split_ifs
  · rfl
  · exact arrive_frames _ _
  · rfl

theorem drawId_conduits (s : State) (slot : Nat) : (s.drawId slot).1.conduits = s.conduits := by
  unfold State.drawId
  dsimp only
  split_ifs
  · rfl
  · exact arrive_conduits _ _
  · rfl

theorem sendConduit_stillQueued (s : State) (c d op msg : Nat) (body : List Nat) (what seq word : Nat) :
    StillQueued c s (s.sendConduit d op msg body what seq word) :=
  .trans (.of_eq rfl rfl) ((sourceMessage_onlyAnswered { s with out := .conduit d op seq word :: s.out } _ _ _ _ _ _ _ _ _ _).stillQueued c)

section
variable {s : State} {c : Nat}

/-- A conduit whose messages are the same ones. -/
theorem setConduit_stillQueued {y : Conduit} (h : ∀ k m, Map.find (s.conduit c).unplaced k = some m → ∃ w, Map.find y.unplaced k = some w ∧ SameMessage m w) :
    StillQueued c s (s.setConduit c y) :=
  ⟨rfl, fun k m hm => by rw [conduit_setConduit_same]; exact h k m hm⟩

/-- A transmission leaves the message what it is. -/
theorem transmit_stillQueued (seq : Nat) (retry : Bool) : StillQueued c s (s.transmit c seq retry) := by
  unfold State.transmit
  dsimp only
  split
  · exact .refl c s
  · rename_i m hm
    have hdrawn (p : Prop) [Decidable p] : StillQueued c s (if p then s.drawId (s.conduit c).slot else (s, m.msg)).1 ∧
        (if p then s.drawId (s.conduit c).slot else (s, m.msg)).1.conduit c = s.conduit c := by
      split
      · exact ⟨.of_eq (drawId_frames s _) (drawId_conduits s _), by unfold State.conduit; rw [drawId_conduits]⟩
      · exact ⟨.refl c s, rfl⟩
    obtain ⟨hqueue, hsame⟩ := hdrawn (m.tries = 0)
    refine hqueue.trans (.trans (setConduit_stillQueued fun k v hv => ?_) (sendConduit_stillQueued _ _ _ _ _ _ _ _ _))
    rw [hsame] at hv
    by_cases hk : k = seq
    · subst hk
      obtain rfl : m = v := Option.some.inj (hm.symm.trans hv)
      exact ⟨_, find_put_same _ _ _, rfl, rfl, rfl, rfl⟩
    · exact ⟨v, (find_put_ne _ _ hk).trans hv, .refl v⟩

/-- What the window lets out of a conduit's queue stays in it until it is placed (R306). -/
theorem pump_stillQueued : StillQueued c s (s.pump c) := by
  unfold State.pump
  dsimp only
  split
  · exact .refl c s
  · refine List.foldlRecOn (motive := fun (a : State × Bool) => StillQueued c s a.1) _ _ (.refl c s) fun a ha i _ => ?_
    split
    · exact ha
    · split_ifs
      · exact ha
      · exact ha
      · dsimp only
        refine ha.trans (.trans (setConduit_stillQueued ?_) (transmit_stillQueued _ _))
        exact fun k m hm => ⟨m, hm, .refl m⟩

variable (op : Nat) (body : List Nat) (what word : Nat)

theorem convey_frames : (s.convey c op body what word).frames = s.frames := by
  unfold State.convey
  dsimp only
  split
  · rfl
  · rw [pump_stillQueued.1, (fetchRecord_onlyAnswered _ c).frames_eq]
    rfl

/-- A message to a READY conduit that is not closing waits on it under its next number (R305). -/
theorem convey_queues (hready : (s.conduit c).st = .ready) (hopen : (s.conduit c).closing = false) :
    ∃ w, Map.find ((s.convey c op body what word).conduit c).unplaced (s.conduit c).next = some w ∧
      SameMessage { op := op, body := body, what := what, word := word } w := by
  unfold State.convey
  dsimp only
  rw [if_neg (by simp [hready, hopen])]
  refine (((fetchRecord_onlyAnswered _ c).stillQueued c).trans pump_stillQueued).2 _ _ ?_
  rw [conduit_setConduit_same]
  exact find_put_same _ _ _

end

/-! ### REREAD_DONE (R352, R573) -/

section
variable {s : State} {f : Nat} {x : Frame} (hx : Map.find s.frames f = some x)
include hx

theorem exec_rereadDone (pass : Bool) (l : List Nat) : exec (.rereadDone f pass l) s = .next (s.reread f pass) :=
  congrArg _ (if_pos (by simp [Map.has, hx]))

theorem reread_of_other (pass : Bool) (h : x.health ≠ .reread) : s.reread f pass = s := by
  unfold State.reread
  rw [hx]
  exact if_pos h

variable (h : x.health = .reread)
include h

theorem reread_of_lost (pass : Bool) (hlost : x.hdr.lost = true) : s.reread f pass = { s with frames := Map.put s.frames f { x with health := .lost } } := by
  simp [State.reread, hx, h, hlost]

variable (hlost : x.hdr.lost = false)
include hlost

theorem reread_of_unnamed (pass : Bool) (hname : s.names x.ladderSeq f = false) : s.reread f pass = s.goodFrame f x := by
  simp [State.reread, hx, h, hlost, hname]

variable (hname : s.names x.ladderSeq f = true)
include hname

theorem reread_of_pass (hread : s.readOk (f * 65536) 65536 false = true) : s.reread f true = s.recovered f 3 x := by
  simp [State.reread, hx, h, hlost, hname, hread]

variable {pass : Bool} (hfail : pass = false ∨ s.readOk (f * 65536) 65536 false = false)
include hfail

/-- A re-read that fails goes to the partner while PAIRED, where it may, and else loses the page. -/
theorem reread_of_fail : s.reread f pass =
    if s.pair.st = .paired ∧ x.noFetch = false then
      let u := { s with frames := Map.put s.frames f { x with health := .fetching, since := s.time } }
      if s.pairReady then u.convey s.pair.conduit 0x0B (s.fetchBody x.ladderSeq f x) x.ladderSeq f else u
    else s.loseFrame f := by
  have hnot : (pass && s.readOk (f * 65536) 65536 false) = false := by rcases hfail with h | h <;> simp [h]
  simp only [State.reread, hx, h, hlost, hname, hnot, ne_eq, not_true_eq_false, if_false, Bool.false_eq_true, Bool.not_true, Bool.not_eq_true']
  rfl

theorem reread_fetches (hpair : s.pair.st = .paired) (hmay : x.noFetch = false) :
    Map.find (s.reread f pass).frames f = some { x with health := .fetching, since := s.time } ∧
    (s.pairReady = true → (s.conduit s.pair.conduit).closing = false → ∃ w,
      Map.find ((s.reread f pass).conduit s.pair.conduit).unplaced (s.conduit s.pair.conduit).next = some w ∧
      SameMessage { op := 0x0B, body := s.fetchBody x.ladderSeq f x, what := x.ladderSeq, word := f } w) := by
  rw [reread_of_fail hx h hlost hname hfail, if_pos ⟨hpair, hmay⟩]
  refine ⟨?_, fun hready hopen => ?_⟩
  · dsimp only
    split
    · rw [convey_frames]
      exact find_put_same _ _ _
    · exact find_put_same _ _ _
  · dsimp only
    rw [if_pos hready]
    have hst : (s.conduit s.pair.conduit).st = .ready := by
      simp only [State.pairReady, Bool.and_eq_true, decide_eq_true_eq] at hready
      exact hready.1
    exact convey_queues (s := { s with frames := Map.put s.frames f { x with health := .fetching, since := s.time } }) _ _ _ _ hst hopen

theorem reread_loses (hpair : s.pair.st ≠ .paired ∨ x.noFetch = true) : PageLost s (s.reread f pass) f := by
  rw [reread_of_fail hx h hlost hname hfail, if_neg (by rintro ⟨hp, hn⟩; simp [hp, hn] at hpair)]
  exact loseFrame_pageLost hx

end

/-! ### FETCH_TIMEOUT and REWRITE_READBACK (R352, R355) -/

section
variable {s : State} {f : Nat} {x : Frame} (hx : Map.find s.frames f = some x)
include hx

theorem exec_fetchTimeout : exec (.fetchTimeout f) s = .next (if x.health = .fetching ∧ s.obj 0x2C1005 ≤ s.since x.since then s.loseFrame f else s) := by
  change execFetchTimeout f s = _
  unfold execFetchTimeout
  rw [hx]

theorem exec_rewriteReadback (pass : Bool) : exec (.rewriteReadback f pass) s = .next (if x.health ≠ .rewriting then s
    else if pass && s.readOk (f * 65536) 65536 false then s.recovered f 4 x else (s.retireRow f).loseFrame f) := by
  change execRewriteReadback f pass s = _
  unfold execRewriteReadback
  rw [hx]

/-- A read-back that fails costs the row and the page. -/
theorem retireRow_loseFrame : PageLost s ((s.retireRow f).loseFrame f) f ∧
    ((s.retireRow f).loseFrame f).obj 0x2C0805 = min (s.obj 0x2C0805 + 1) (2 ^ 32 - 1) ∧
    ∀ k, k / 4 = f / 4 → k ∈ ((s.retireRow f).loseFrame f).retired := by
  have hframe : Map.find (s.retireRow f).frames f = some x := by simp [State.retireRow, hx]
  have hobj (k : Nat) : (s.retireRow f).obj k = (s.bump 0x2C0805).obj k := by
    unfold State.obj State.retireRow
    simp only [logEvent_regs]
    rfl
  refine ⟨?_, ?_, fun k hk => ?_⟩
  · obtain ⟨hlost, hcount, hreqs, hnames⟩ := loseFrame_pageLost hframe
    refine ⟨hlost, ?_, hreqs.trans (by simp [State.retireRow]), hnames⟩
    rw [hcount, hobj, obj_bump_ne _ (by decide)]
  · rw [loseFrame_obj hframe, obj_bump_ne _ (by decide), hobj, obj_bump _ objMax_retiredRows]
  · rw [loseFrame_retired hframe]
    simp only [State.retireRow, logEvent_retired, bump_retired]
    rw [← List.foldl_map, mem_foldl_insertNat]
    exact .inr (List.mem_map.mpr ⟨k % 4, List.mem_range.mpr (by omega), by omega⟩)

end

section
variable {s : State} {f : Nat} (hnone : Map.find s.frames f = none)
include hnone

theorem exec_fetchTimeout_of_none : exec (.fetchTimeout f) s = .next s := by
  change execFetchTimeout f s = _
  unfold execFetchTimeout
  rw [hnone]

theorem exec_rewriteReadback_of_none (pass : Bool) : exec (.rewriteReadback f pass) s = .next s := by
  change execRewriteReadback f pass s = _
  unfold execRewriteReadback
  rw [hnone]

theorem exec_rereadDone_of_none (pass : Bool) (l : List Nat) : exec (.rereadDone f pass l) s = .next (if pass then s else s.loseSequences l) :=
  congrArg _ (if_neg (by simp [Map.has, hnone]))

end

/-! ### Sequences lost with a table-pool sector (R372) -/

theorem journal_onlySweep (s : State) (k : Nat) (d : Int) : OnlySweep s (s.journal k d) := by
  unfold State.journal
  split
  · rfl
  · exact .refl s

section
variable (s : State) (l : List Nat)

/-- The sequences of a list that stand. -/
def standing : List Nat := l.filter fun i => Map.has s.seqs i

theorem mem_standing {i : Nat} : i ∈ standing s l ↔ i ∈ l ∧ Map.has s.seqs i = true := List.mem_filter

/-- Every frame that a standing sequence of the list named counts one fewer in the recount sweep's journal. -/
def journalled : State :=
  (standing s l).foldl (fun s i => match Map.find s.seqs i with | some e => e.frameList.foldl (fun s k => s.journal k (-1)) s | none => s) s

theorem journalled_onlySweep : OnlySweep s (journalled s l) := by
  refine .foldl (fun u i => ?_) _ s
  split
  · exact .foldl (fun u k => journal_onlySweep u k _) _ u
  · exact .refl u

theorem loseSequences_eq : s.loseSequences l = { s with
    seqs := (standing s l).foldl Map.del s.seqs
    lostHere := if s.pair.st = .paired then (standing s l).foldl insertNat s.lostHere else s.lostHere
    lostSeqs := if s.pair.st = .paired then s.lostSeqs
      else (standing s l).foldl (fun m i => if m.length < 16384 then insertNat m i else m) s.lostSeqs
    sweep := (journalled s l).sweep } := by
  have heq : s.loseSequences l =
      (let u : State := { journalled s l with seqs := (standing s l).foldl Map.del (journalled s l).seqs }
      if u.pair.st = .paired then { u with lostHere := (standing s l).foldl insertNat u.lostHere }
      else { u with lostSeqs := (standing s l).foldl (fun m i => if m.length < 16384 then insertNat m i else m) u.lostSeqs }) := rfl
  rw [heq, journalled_onlySweep s l]
  dsimp only
  split <;> rfl

theorem loseSequences_seqs : (s.loseSequences l).seqs = (standing s l).foldl Map.del s.seqs := by
  rw [loseSequences_eq]

theorem loseSequences_frame : s.loseSequences l = { s with
    seqs := (s.loseSequences l).seqs
    lostHere := (s.loseSequences l).lostHere
    lostSeqs := (s.loseSequences l).lostSeqs
    sweep := (s.loseSequences l).sweep } := by
  rw [loseSequences_eq]

theorem find_loseSequences (i : Nat) : Map.find (s.loseSequences l).seqs i = if i ∈ l then none else Map.find s.seqs i := by
  rw [loseSequences_seqs, find_foldl_del]
  by_cases hl : i ∈ l
  · rw [if_pos hl]
    split
    · rfl
    · rename_i h
      simpa [mem_standing, hl, Map.has] using h
  · rw [if_neg hl, if_neg fun h => hl ((mem_standing s l).mp h).1]

/-- A sequence that stood is lost here while PAIRED, and a lost sequence otherwise. -/
theorem loseSequences_lost {i : Nat} (hi : i ∈ l) (hs : Map.has s.seqs i = true) : (s.pair.st = .paired → i ∈ (s.loseSequences l).lostHere) ∧
    (s.pair.st ≠ .paired → s.lostSeqs.length + l.length ≤ 16384 → i ∈ (s.loseSequences l).lostSeqs) := by
  have hmem : i ∈ standing s l := (mem_standing s l).mpr ⟨hi, hs⟩
  rw [loseSequences_eq]
  refine ⟨fun hp => ?_, fun hp hroom => ?_⟩
  · dsimp only
    rw [if_pos hp]
    exact mem_foldl_insertNat.mpr (.inr hmem)
  · have hle : (standing s l).length ≤ l.length := List.length_filter_le _ _
    dsimp only
    rw [if_neg hp]
    exact mem_foldl_insertNat_below (by omega) (.inr hmem)

end

/-! ### PATROL_READ (R226, R356) -/

section
variable (s : State) (f corrections : Nat) (upset : Bool)

/-- A patrol read's count of what on-die ECC corrected. -/
def corrected : State := s.bumpBy (recKey 0x2C00 (framePolder f % 8) 8) corrections

/-- The last frame of the last stack ends a pass (log entry 67). -/
def passEnded (s : State) (f : Nat) : State := if f = lastFrame then s.bump 0x2C0802 else s

theorem exec_patrolRead : exec (.patrolRead f upset corrections) s = .next (passEnded
    (if s.readOk (f * 65536) 65536 upset then corrected s f corrections else (corrected s f corrections).checkFailed f none true) f) := rfl

variable {s f} {x : Frame} (hx : Map.find s.frames f = some x) (hgood : x.health = .good)
include hx hgood

/-- A good frame whose patrol read fails goes on the ladder as SUSPECT, for no sequence. -/
theorem checkFailed_good : s.checkFailed f none true = s.onLadder f x .suspect 0 true := by
  simp [State.checkFailed, hx, hgood]

end

section
variable {s : State} {f : Nat} {x : Frame} (h : Health) (i : Nat)

theorem find_onLadder (external : Bool) : Map.find (s.onLadder f x h i external).frames f = some { x with health := h, ladderSeq := i } := by
  simp [State.onLadder]

theorem onLadder_others (external : Bool) : (s.onLadder f x h i external).seqs = s.seqs ∧ (s.onLadder f x h i external).reqs = s.reqs ∧
    (s.onLadder f x h i external).mem = s.mem := by
  simp [State.onLadder]

/-- A failure of the external check is counted in its polder. -/
theorem onLadder_counted (hf : f < 2 ^ 24) : (s.onLadder f x h i true).obj (recKey 0x2C00 (framePolder f) 2) =
    min (s.obj (recKey 0x2C00 (framePolder f) 2) + 1) (2 ^ 32 - 1) := by
  have hregs : (s.onLadder f x h i true).regs = (s.bump (recKey 0x2C00 (framePolder f) 2)).regs := by
    unfold State.onLadder
    rw [logEvent_regs, arrive_regs]
    rfl
  rw [State.obj, hregs]
  exact obj_bump s (objMax_ladderCounter (framePolder_lt hf) (by simp))

theorem passEnded_others : (passEnded s f).frames = s.frames ∧ (passEnded s f).seqs = s.seqs ∧ (passEnded s f).reqs = s.reqs ∧ (passEnded s f).mem = s.mem := by
  unfold passEnded
  split <;> simp

theorem passEnded_obj {k : Nat} (hk : k ≠ 0x2C0802) : (passEnded s f).obj k = s.obj k := by
  unfold passEnded
  split
  · exact obj_bump_ne _ hk
  · rfl

/-- Polder by polder, the counter of external failures is not the patrol's count of passes or of corrections. -/
theorem externalCounter_ne {p : Nat} (hp : p < 8) : recKey 0x2C00 p 2 ≠ 0x2C0802 ∧ recKey 0x2C00 p 2 ≠ recKey 0x2C00 p 8 := by
  unfold recKey
  omega

end

/-- Settles O43: each row of R352 by the lemma about its step. A row of four frames is log entry 66; the pass that ends with the last frame of
stack 7, and the corrections that PATROL_READ carries, are log entry 67. -/
theorem theLadderRecoversOrLosesAFrame : Obligations.TheLadderRecoversOrLosesAFrame := by
  unfold Obligations.TheLadderRecoversOrLosesAFrame
  refine ⟨fun s f x pass l hf hx => ?_, fun s f pass hnone => ?_, fun s f l hnone => ?_, fun s f upset corrections hf => ?_⟩
  · dsimp only
    refine ⟨fun h => ?_, fun h hlost => ?_, fun h hlost => ⟨fun hname => ?_, fun hname hpass hread => ?_, fun hname hfail => ⟨fun hpair => ?_, fun hpair hmay => ?_⟩⟩,
      fun h hlate => ?_, fun h => ?_, fun h => ?_, fun h => ⟨fun hpass hread => ?_, fun hfail => ?_⟩⟩
    · exact ⟨_, exec_rereadDone hx pass l, reread_of_other hx pass h⟩
    · exact ⟨_, exec_rereadDone hx pass l, reread_of_lost hx h pass hlost⟩
    · exact ⟨_, exec_rereadDone hx pass l, by rw [reread_of_unnamed hx h hlost pass hname]; exact ⟨goodFrame_endedGood, rfl⟩⟩
    · subst hpass
      exact ⟨_, exec_rereadDone hx true l, by
        rw [reread_of_pass hx h hlost hname hread]; exact ⟨recovered_endedGood 3, recovered_counted hf (by simp)⟩⟩
    · exact ⟨_, exec_rereadDone hx pass l, reread_loses hx h hlost hname hfail hpair⟩
    · obtain ⟨hfetching, hqueued⟩ := reread_fetches hx h hlost hname hfail hpair hmay
      refine ⟨_, exec_rereadDone hx pass l, hfetching, fun hready hopen => ?_⟩
      obtain ⟨w, hw, hop, hwhat, hword, hbody⟩ := hqueued hready hopen
      exact ⟨w, hw, hop, hwhat, hword, hbody⟩
    · exact ⟨_, exec_fetchTimeout hx, by rw [if_pos ⟨h, hlate⟩]; exact loseFrame_pageLost hx⟩
    · exact ⟨_, exec_fetchTimeout hx, if_neg fun hboth => h.elim (· hboth.1) (absurd hboth.2 <| Nat.not_le.mpr ·)⟩
    · exact ⟨_, exec_rewriteReadback hx pass, if_pos h⟩
    · refine ⟨_, exec_rewriteReadback hx pass, ?_⟩
      rw [if_neg (not_not_intro h), if_pos (by simp [hpass, hread])]
      exact ⟨recovered_endedGood 4, recovered_counted hf (by simp)⟩
    · refine ⟨_, exec_rewriteReadback hx pass, ?_⟩
      rw [if_neg (not_not_intro h), if_neg (by rcases hfail with h | h <;> simp [h])]
      exact retireRow_loseFrame hx
  · exact ⟨⟨s, by simp [exec_fetchTimeout_of_none hnone], rfl⟩, ⟨s, by simp [exec_rewriteReadback_of_none hnone], rfl⟩⟩
  · refine ⟨⟨s, exec_rereadDone_of_none hnone true l, rfl⟩, ⟨_, exec_rereadDone_of_none hnone false l, fun i hi => ?_, fun i hi => ?_,
      fun i => loseSequences_lost s l, loseSequences_frame s l⟩⟩
    · exact (find_loseSequences s l i).trans (if_pos hi)
    · exact (find_loseSequences s l i).trans (if_neg hi)
  · dsimp only
    refine ⟨fun hread hlast => ⟨_, exec_patrolRead s f corrections upset, ?_⟩, fun hread hlast => ⟨_, exec_patrolRead s f corrections upset, ?_⟩,
      fun x hread hx hgood => ⟨_, exec_patrolRead s f corrections upset, ?_⟩⟩
    · rw [if_pos hread]
      exact if_neg hlast
    · rw [if_pos hread]
      exact if_pos hlast
    · have hframe : Map.find (corrected s f corrections).frames f = some x := by simpa [corrected] using hx
      have hobj : (corrected s f corrections).obj (recKey 0x2C00 (framePolder f) 2) = s.obj (recKey 0x2C00 (framePolder f) 2) := by
        unfold corrected
        rw [Nat.mod_eq_of_lt (framePolder_lt hf)]
        exact obj_setObj_ne s _ (externalCounter_ne (framePolder_lt hf)).2
      rw [if_neg (by simp [hread]), checkFailed_good hframe hgood]
      obtain ⟨hframes, hseqs, hreqs, hmem⟩ := passEnded_others (s := (corrected s f corrections).onLadder f x .suspect 0 true) (f := f)
      obtain ⟨lseqs, lreqs, lmem⟩ := onLadder_others (s := corrected s f corrections) (f := f) (x := x) .suspect 0 true
      refine ⟨by rw [hframes, find_onLadder], ?_, hseqs.trans lseqs, hreqs.trans lreqs, hmem.trans lmem⟩
      rw [passEnded_obj (externalCounter_ne (framePolder_lt hf)).1, onLadder_counted _ _ hf, hobj]

end Sys2Proof.Proofs

/-! PROOFS. Moves between tiers (O32): what reading and writing pages leaves alone, the start of a spill and of a flush, the passes that choose the
oldest idle sequences, and the recount sweep. -/

namespace Sys2Proof.Safety
open Sys2Proof.Machine

/-- Only the loads of the chip's resources changed, and the counts of accesses that met a held bank (R140, R227). -/
def OnlyWorked (s t : State) : Prop := (∀ k, k ≠ 0x2B1102 → k ≠ 0x2B1103 → t.obj k = s.obj k) ∧ t = { s with regs := t.regs, sched := t.sched }

theorem OnlyWorked.refl (s : State) : OnlyWorked s s := ⟨fun _ _ _ => rfl, rfl⟩

theorem OnlyWorked.trans {s t u : State} (h : OnlyWorked s t) (g : OnlyWorked t u) : OnlyWorked s u :=
  ⟨fun k h2 h3 => (g.1 k h2 h3).trans (h.1 k h2 h3), Eq.trans g.2 (by rw [h.2])⟩

theorem OnlyWorked.foldl {α : Type} {f : State → α → State} (h : ∀ s x, OnlyWorked s (f s x)) (l : List α) (s : State) : OnlyWorked s (l.foldl f s) :=
  List.foldlRecOn (motive := OnlyWorked s) l f (.refl s) fun u hu x _ => hu.trans (h u x)

theorem OnlyWorked.of_sched {s t : State} (h : t = { s with sched := t.sched }) : OnlyWorked s t := ⟨fun k _ _ => by rw [h]; rfl, by rw [h]⟩

section
variable {s t : State} (h : OnlyWorked s t)
include h

theorem OnlyWorked.seqs_eq : t.seqs = s.seqs := by rw [h.2]
theorem OnlyWorked.frames_eq : t.frames = s.frames := by rw [h.2]
theorem OnlyWorked.charges_eq : t.charges = s.charges := by rw [h.2]
theorem OnlyWorked.sweep_eq : t.sweep = s.sweep := by rw [h.2]
theorem OnlyWorked.drives_eq : t.drives = s.drives := by rw [h.2]
theorem OnlyWorked.time_eq : t.time = s.time := by rw [h.2]
theorem OnlyWorked.mem_eq : t.mem = s.mem := by rw [h.2]

end

/-- A move that starts changes its sequence, its tenant's charge, a drive and what goes out, and counts. -/
def OnlyMoving (s t : State) : Prop := (∀ k, k ≠ 0x2B1102 → k ≠ 0x2B1103 → k ≠ 0x2B4106 → t.obj k = s.obj k) ∧
  t = { s with regs := t.regs, sched := t.sched, charges := t.charges, drives := t.drives, out := t.out, seqs := t.seqs }

theorem OnlyMoving.refl (s : State) : OnlyMoving s s := ⟨fun _ _ _ _ => rfl, rfl⟩

theorem OnlyMoving.trans {s t u : State} (h : OnlyMoving s t) (g : OnlyMoving t u) : OnlyMoving s u :=
  ⟨fun k h2 h3 h4 => (g.1 k h2 h3 h4).trans (h.1 k h2 h3 h4), Eq.trans g.2 (by rw [h.2])⟩

section
variable {s t : State} (h : OnlyMoving s t)
include h

theorem OnlyMoving.time_eq : t.time = s.time := by rw [h.2]
theorem OnlyMoving.frames_eq : t.frames = s.frames := by rw [h.2]
theorem OnlyMoving.mem_eq : t.mem = s.mem := by rw [h.2]

end

theorem OnlyWorked.onlyMoving {s t : State} (h : OnlyWorked s t) : OnlyMoving s t := ⟨fun k h2 h3 _ => h.1 k h2 h3, Eq.trans h.2 (by rw [h.2])⟩

end Sys2Proof.Safety

namespace Sys2Proof.Proofs
open Sys2Proof.Machine Sys2Proof.Safety Sys2Proof.Laws

/-! ### Entries of a map with increasing keys -/

section
variable {α : Type} {m : Map α}

theorem find_of_mem (h : Map.wf m) {k : Nat} {v : α} (hm : (k, v) ∈ m) : Map.find m k = some v := by
  induction m with
  | nil => simp at hm
  | cons e m ih =>
    obtain ⟨j, w⟩ := e
    simp only [Map.wf, List.pairwise_cons] at h
    rw [Map.find]
    rcases List.mem_cons.mp hm with heq | hm
    · obtain ⟨rfl, rfl⟩ := Prod.mk.inj heq
      exact if_pos rfl
    · rw [if_neg (by have := h.1 _ hm; simp at this; omega)]
      exact ih h.2 hm

theorem keys_nodup (h : Map.wf m) : (m.map Prod.fst).Nodup :=
  (List.pairwise_map.mpr h).imp Nat.ne_of_lt

theorem wf_keep (h : Map.wf m) (f : Nat → α → Bool) : Map.wf (Map.keep m f) := h.filter _

theorem mem_keys_keep (h : Map.wf m) (f : Nat → α → Bool) {k : Nat} : k ∈ (Map.keep m f).map Prod.fst ↔ ∃ v, Map.find m k = some v ∧ f k v = true := by
  unfold Map.keep
  simp only [List.mem_map, List.mem_filter, Prod.exists]
  constructor
  · rintro ⟨j, v, ⟨hm, hf⟩, rfl⟩
    exact ⟨v, find_of_mem h hm, hf⟩
  · rintro ⟨v, hv, hf⟩
    exact ⟨k, v, ⟨mem_of_find hv, hf⟩, rfl⟩

end

/-! ### Reads and writes of pages load the chip's resources (R140, R227, R330) -/

section
variable (s : State)

theorem work_onlyWorked (res c len : Nat) : OnlyWorked s (s.work res c len) := .of_sched rfl

theorem bankHolds_onlyWorked (rows : List Nat) : OnlyWorked s (s.bankHolds rows) := by
  refine .foldl (fun u row => ?_) rows s
  dsimp only
  split
  · exact .refl u
  · exact ⟨fun k h2 h3 => (obj_setObj_ne _ _ h3).trans (obj_bump_ne _ h2), rfl⟩

theorem stackAccess_onlyWorked (c off len : Nat) : OnlyWorked s (s.stackAccess c off len) :=
  .trans (.foldl (fun u _ => work_onlyWorked u _ _ _) _ s) (bankHolds_onlyWorked _ _)

theorem pageAccess_onlyWorked (c k : Nat) (sh : Shape) : OnlyWorked s (s.pageAccess c k sh) :=
  .trans (.foldl (fun u _ => work_onlyWorked u _ _ _) _ s) (bankHolds_onlyWorked _ _)

theorem flushPage_onlyWorked (d : Nat) (e : Seq) (sh : Shape) (l : Nat × Leaf) : OnlyWorked s (s.flushPage d e sh l) := by
  unfold State.flushPage
  split
  · exact (pageAccess_onlyWorked s _ _ _).trans (work_onlyWorked _ _ _ _)
  · split
    · exact (work_onlyWorked s _ _ _).trans (work_onlyWorked _ _ _ _)
    · exact .refl s

end

theorem onlyMoving_shape {s t : State} (h : OnlyMoving s t) (b : Nat) : t.shape b = s.shape b := by
  have hkey (sub : Nat) : t.obj (recKey 0x2B80 b sub) = s.obj (recKey 0x2B80 b sub) := by
    refine h.1 _ ?_ ?_ ?_ <;> unfold recKey <;> omega
  unfold State.shape
  simp only [hkey]

/-! ### The start of a spill (R193, R213, R260) -/

section
variable (s : State) (i : Nat) (e : Seq) (mover : Option Nat)

/-- The raw records that a spill reserves in T2. -/
def spillRaw : Nat := (s.privatePages e).length * recordBlocks (s.shape e.binding).rawRecord

/-- A sequence while it spills. -/
def spilling : Seq :=
  { e with st := .spilling, prior := e.st, reserved := spillRaw s e, mover := mover, moving := (s.privatePages e).map fun l => (l.1, l.2.val) }

/-- The records of a spill on their way, its reservation charged. -/
def spillRead : State :=
  (s.privatePages e).foldl (fun u l => (u.pageAccess 5 l.2.val (s.shape e.binding)).work hostLink 5 (u.recordBytes l.2.val (s.shape e.binding)))
    (s.chargeBy (tenantOf i) fun c => { c with r2 := c.r2 + spillRaw s e })

/-- The tests of a spill's start in their order (R193), and what stands once it has started. -/
theorem startSpill_eq : s.startSpill i e mover =
    if s.dutyGone 2 then .error (.busy 0x11)
    else if !s.quotaFor (tenantOf i) 2 (spillRaw s e) then .error (quotaAnswer 2 (tenantOf i))
    else if s.spillBlocks = 0 ∨ s.spillFree < spillRaw s e ∨ s.host.spillMap.length + (s.privatePages e).length > 16777215 then .error (.busy 9)
    else if !s.mapRoom (s.privatePages e).length then .error (.busy 8)
    else if s.suspectIn (s.privatePages e) then .error (.busy 0x0B)
    else .ok ((spillRead s i e).setSeq i (spilling s e mover)) := rfl

theorem startSpill_ok {t : State} (h : s.startSpill i e mover = .ok t) : t = (spillRead s i e).setSeq i (spilling s e mover) := by
  rw [startSpill_eq] at h
  split_ifs at h
  exact (Except.ok.inj h).symm

theorem spillRead_onlyWorked : OnlyWorked (s.chargeBy (tenantOf i) fun c => { c with r2 := c.r2 + spillRaw s e }) (spillRead s i e) :=
  .foldl (fun u _ => (pageAccess_onlyWorked u _ _ _).trans (work_onlyWorked _ _ _ _)) _ _

theorem spillRead_seqs : (spillRead s i e).seqs = s.seqs := (spillRead_onlyWorked s i e).seqs_eq

theorem startSpill_onlyMoving {t : State} (h : s.startSpill i e mover = .ok t) : OnlyMoving s t := by
  have hcharge : OnlyMoving s (s.chargeBy (tenantOf i) fun c => { c with r2 := c.r2 + spillRaw s e }) := ⟨fun _ _ _ _ => rfl, rfl⟩
  rw [startSpill_ok s i e mover h]
  exact (hcharge.trans (spillRead_onlyWorked s i e).onlyMoving).trans ⟨fun _ _ _ _ => rfl, rfl⟩

end

/-! ### The start of a flush (R193, R214, R260) -/

section
variable (s : State) (i : Nat) (e : Seq) (mover : Option Nat)

/-- The blocks of an image of raw records. -/
def flushRaw : Nat := imageBlocks e.leaves.length ((e.leaves.filter fun l => decide (l.2.loc ≠ 3)).length * recordBlocks (s.shape e.binding).rawRecord)

/-- A flush's reservation and its extents of drive `d`. -/
def flushTaken (d : Nat) : State × List Nat :=
  (s.chargeBy (tenantOf i) fun c => { c with r3 := c.r3 + flushRaw s e }).takeExtents d (extentsOf (flushRaw s e))

/-- The records of a flush on their way to drive `d`. -/
def flushRead (d : Nat) : State := e.leaves.foldl (fun u l => u.flushPage d e (s.shape e.binding) l) (flushTaken s i e d).1

/-- A sequence while it is flushed. -/
def flushing (d : Nat) : Seq :=
  { e with st := .flushing, prior := e.st, reserved := flushRaw s e, mover := mover, drive := d, extents := (flushTaken s i e d).2, written := 0, since := (flushRead s i e d).time }

/-- What stands once a flush to drive `d` has started. -/
def flushStarted (d : Nat) : State :=
  { flushRead s i e d with out := .nvme d 1 :: (flushRead s i e d).out }.setSeq i (flushing s i e mover d)

/-- Extents that were not written since the start are deallocated. -/
theorem deallocate_onlyWorked (d : Nat) (l : List Nat) : OnlyWorked s (l.foldl (fun s _ => s.work (flashRoot d) 5 4194304) s) :=
  .foldl (fun u _ => work_onlyWorked u _ _ _) l s

theorem takeExtents_onlyMoving (d n : Nat) : OnlyMoving s (s.takeExtents d n).1 := by
  have hdrive (x : DriveSt) : OnlyMoving s (s.setDrive d x) := ⟨fun _ _ _ _ => rfl, rfl⟩
  have hout (u : State) (l : List Out) : OnlyMoving u { u with out := l ++ u.out } := ⟨fun _ _ _ _ => rfl, rfl⟩
  exact ((hdrive _).trans (deallocate_onlyWorked _ d _).onlyMoving).trans (hout _ _)

theorem takeExtents_seqs (d n : Nat) : (s.takeExtents d n).1.seqs = s.seqs := by
  have hseqs (x : DriveSt) (l : List Nat) : (l.foldl (fun s _ => s.work (flashRoot d) 5 4194304) (s.setDrive d x)).seqs = s.seqs := by
    rw [(deallocate_onlyWorked _ d l).seqs_eq]
    rfl
  exact hseqs _ _

theorem flushTaken_onlyMoving (d : Nat) : OnlyMoving s (flushTaken s i e d).1 :=
  .trans ⟨fun _ _ _ _ => rfl, rfl⟩ (takeExtents_onlyMoving _ d _)

theorem flushTaken_seqs (d : Nat) : (flushTaken s i e d).1.seqs = s.seqs := takeExtents_seqs _ d _

theorem flushRead_onlyWorked (d : Nat) : OnlyWorked (flushTaken s i e d).1 (flushRead s i e d) :=
  .foldl (fun u l => flushPage_onlyWorked u d e _ l) _ _

theorem flushRead_seqs (d : Nat) : (flushRead s i e d).seqs = s.seqs :=
  (flushRead_onlyWorked s i e d).seqs_eq.trans (flushTaken_seqs s i e d)

end

section
variable (s : State) (i : Nat) (e : Seq) (mover : Option Nat)

/-- The tests of a flush's start in their order (R193). -/
theorem startFlush_eq : s.startFlush i e mover =
    if s.dutyGone 2 then .error (.busy 0x11)
    else if !s.quotaFor (tenantOf i) 3 (flushRaw s e) then .error (quotaAnswer 3 (tenantOf i))
    else match s.driveFor (extentsOf (flushRaw s e)) with
      | none => .error (.busy 9)
      | some d => if s.suspectIn e.leaves then .error (.busy 0x0B) else .ok (flushStarted s i e mover d) := rfl

theorem startFlush_ok {t : State} (h : s.startFlush i e mover = .ok t) : ∃ d, t = flushStarted s i e mover d := by
  rw [startFlush_eq] at h
  split at h
  · cases h
  · split at h
    · cases h
    · split at h
      · cases h
      · split at h
        · cases h
        · exact ⟨_, (Except.ok.inj h).symm⟩

theorem flushStarted_onlyMoving (d : Nat) : OnlyMoving s (flushStarted s i e mover d) :=
  ((flushTaken_onlyMoving s i e d).trans (flushRead_onlyWorked s i e d).onlyMoving).trans ⟨fun _ _ _ _ => rfl, rfl⟩

end

/-! ### The passes (R212, R257) -/

section
variable {s : State} {test : Nat → Seq → Bool}

theorem mem_ins {x y : Nat × Seq} {l : List (Nat × Seq)} : y ∈ State.oldestFirst.ins x l ↔ y = x ∨ y ∈ l := by
  induction l with
  | nil => simp [State.oldestFirst.ins]
  | cons z l ih =>
    unfold State.oldestFirst.ins
    split
    · exact List.mem_cons
    · rw [List.mem_cons, ih, List.mem_cons]
      tauto

/-- The candidates of a pass are the sequences that pass its test. -/
theorem mem_oldestFirst (h : Map.wf s.seqs) {x : Nat × Seq} (hx : x ∈ s.oldestFirst test) : Map.find s.seqs x.1 = some x.2 ∧ test x.1 x.2 = true := by
  have hins (l m : List (Nat × Seq)) (y : Nat × Seq) : y ∈ l.foldl (fun l x => State.oldestFirst.ins x l) m → y ∈ m ∨ y ∈ l := by
    induction l generalizing m with
    | nil => exact .inl
    | cons z l ih =>
      intro hy
      rcases ih _ hy with hy | hy
      · exact (mem_ins.mp hy).elim (fun h => .inr (h ▸ List.mem_cons_self)) .inl
      · exact .inr (List.mem_cons_of_mem _ hy)
  rcases hins _ _ x hx with hnil | hmem
  · cases hnil
  · obtain ⟨hm, ht⟩ := List.mem_filter.mp hmem
    exact ⟨find_of_mem h hm, ht⟩

end

/-- What a pass over candidates has come to: every sequence is what it was, or one of the candidates on its move. -/
def Passing (s : State) (started : Nat → Seq → Seq → Prop) (t : State) : Prop :=
  OnlyMoving s t ∧ ∀ i e', Map.find t.seqs i = some e' → Map.find s.seqs i = some e' ∨ ∃ e, Map.find s.seqs i = some e ∧ started i e e'

section
variable {s : State} {started : Nat → Seq → Seq → Prop}

theorem Passing.refl : Passing s started s := ⟨.refl s, fun _ _ h => .inl h⟩

/-- A step of a pass: it starts the move of one candidate. -/
theorem Passing.start {t u : State} (h : Passing s started t) (hmoving : OnlyMoving t u) {i : Nat} {e e' : Seq} (he : Map.find s.seqs i = some e)
    (hseqs : u.seqs = Map.put t.seqs i e') (hstarted : started i e e') : Passing s started u := by
  refine ⟨h.1.trans hmoving, fun j f hf => ?_⟩
  rw [hseqs, find_put] at hf
  split at hf
  · rename_i hj
    subst hj
    exact .inr ⟨e, he, Option.some.inj hf ▸ hstarted⟩
  · exact h.2 j f hf

/-- A pass that has ended raises its event and changes nothing else. -/
theorem Passing.arrive {t : State} (h : Passing s started t) : (t.arrive 0x017).source 0x017 = (s.source 0x017).arrive ∧
    (t.arrive 0x017).frames = s.frames ∧ (t.arrive 0x017).mem = s.mem ∧ (t.arrive 0x017).reqs = s.reqs ∧
    ∀ i e', Map.find (t.arrive 0x017).seqs i = some e' → Map.find s.seqs i = some e' ∨ ∃ e, Map.find s.seqs i = some e ∧ started i e e' := by
  have hsame := h.1.2
  refine ⟨?_, ?_, ?_, ?_, fun i e' he => h.2 i e' (by simpa using he)⟩
  · rw [source_arrive t (by decide), if_pos rfl]
    unfold State.source
    rw [congrArg State.gath hsame]
  · rw [arrive_frames, congrArg State.frames hsame]
  · rw [arrive_mem, congrArg State.mem hsame]
  · rw [arrive_reqs, congrArg State.reqs hsame]

end

section
variable {s t : State} (h : OnlyMoving s t)
include h

theorem onlyMoving_privatePages (e : Seq) : t.privatePages e = s.privatePages e := by
  unfold State.privatePages
  rw [h.2]

theorem onlyMoving_spilling (e : Seq) (mover : Option Nat) : spilling t e mover = spilling s e mover := by
  unfold spilling spillRaw
  rw [onlyMoving_privatePages h, onlyMoving_shape h]

end

section
variable {s : State}

/-- A sequence that pre-emption may choose (R212). -/
def preemptible (s : State) (i : Nat) (e : Seq) : Prop :=
  e.st = .active ∧ s.inFlight i = 0 ∧ s.obj 0x2B4104 < s.since e.lastUse ∧ s.obj (tenantKey (tenantOf i) 2) < (s.charge (tenantOf i)).usage 1

/-- A pass of PRE_EMPTION starts spills of sequences that it may choose, each with no request. -/
theorem preEmption_passing {step : State → Nat × Seq → State} (hstep : ∀ u x, step u x = u ∨ step u x = u.bump 0x2B4106 ∨
      u.startSpill x.1 x.2 none = .ok (step u x)) {l : List (Nat × Seq)} (hl : ∀ x ∈ l, Map.find s.seqs x.1 = some x.2 ∧ preemptible s x.1 x.2) :
    Passing s (fun i e e' => preemptible s i e ∧ e' = spilling s e none) (l.foldl step s) := by
  refine List.foldlRecOn (motive := Passing s _) l step .refl fun u hu x hx => ?_
  rcases hstep u x with heq | heq | hok
  · rw [heq]
    exact hu
  · rw [heq]
    exact ⟨hu.1.trans ⟨fun k _ _ h => obj_bump_ne u h, rfl⟩, hu.2⟩
  · obtain ⟨hfind, htest⟩ := hl x hx
    refine hu.start (startSpill_onlyMoving u _ _ _ hok) hfind ?_ ⟨htest, rfl⟩
    rw [startSpill_ok u _ _ _ hok, ← onlyMoving_spilling hu.1]
    exact congrArg (Map.put · x.1 _) (spillRead_seqs u x.1 x.2)

/-- A sequence that a demotion has started to flush. -/
def Demoted (s : State) (i : Nat) (e e' : Seq) : Prop :=
  e.st = .spilled ∧ s.inFlight i = 0 ∧ e'.st = .flushing ∧ e'.prior = .spilled ∧ e'.mover = none

/-- A pass of DEMOTION starts flushes of spilled sequences without a request in flight, each with no request. -/
theorem demotion_passing {step : State → Nat × Seq → State} (hstep : ∀ u x, step u x = u ∨ u.startFlush x.1 x.2 none = .ok (step u x))
    {l : List (Nat × Seq)} (hl : ∀ x ∈ l, Map.find s.seqs x.1 = some x.2 ∧ x.2.st = .spilled ∧ s.inFlight x.1 = 0) :
    Passing s (Demoted s) (l.foldl step s) := by
  refine List.foldlRecOn (motive := Passing s _) l step .refl fun u hu x hx => ?_
  rcases hstep u x with heq | hok
  · rw [heq]
    exact hu
  · obtain ⟨hfind, hst, hidle⟩ := hl x hx
    obtain ⟨d, heq⟩ := startFlush_ok u _ _ _ hok
    rw [heq]
    exact hu.start (flushStarted_onlyMoving u _ _ _ d) hfind (congrArg (Map.put · x.1 _) (flushRead_seqs u x.1 x.2 d)) ⟨hst, hidle, rfl, hst, rfl⟩

/-- PRE_EMPTION where it is switched on and a polder is short. -/
theorem preEmption_of_short (hwf : Map.wf s.seqs) (hon : s.obj 0x2B4101 ≠ 0) (hgone : s.dutyGone 2 = false) (hheld : s.dutyHeld 2 = false)
    (hshort : ∃ p, p < 8 ∧ (s.polder p).down = false ∧ s.freeFrames p < s.obj 0x2B4102) :
    ∃ t, s.preEmption = t.arrive 0x017 ∧ Passing s (fun i e e' => preemptible s i e ∧ e' = spilling s e none) t := by
  have hlow : ((List.range 8).any fun p => !(s.polder p).down && decide (s.freeFrames p < s.obj 0x2B4102)) = true := by
    obtain ⟨p, hp, hdown, hfree⟩ := hshort
    exact List.any_eq_true.mpr ⟨p, List.mem_range.mpr hp, by simp [hdown, hfree]⟩
  unfold State.preEmption
  dsimp only
  rw [if_neg (by simp [hlow, hon, hgone, hheld])]
  refine ⟨_, rfl, preEmption_passing (fun u x => ?_) fun x hx => ?_⟩
  · split
    · exact .inl rfl
    · split
      · rename_i hok
        exact .inr (.inr hok)
      · split
        · exact .inr (.inl rfl)
        · exact .inl rfl
  · obtain ⟨hfind, htest⟩ := mem_oldestFirst hwf hx
    simp only [Bool.and_eq_true, decide_eq_true_eq] at htest
    obtain ⟨⟨⟨hst, hidle⟩, hold⟩, hover⟩ := htest
    exact ⟨hfind, hst, hidle, hold, hover⟩

/-- PRE_EMPTION where it is switched off, the duty is not held or no polder is short. -/
theorem preEmption_of_off (h : s.obj 0x2B4101 = 0 ∨ s.dutyGone 2 = true ∨ s.dutyHeld 2 = true ∨
    ∀ p, p < 8 → (s.polder p).down = true ∨ s.obj 0x2B4102 ≤ s.freeFrames p) : s.preEmption = s := by
  refine if_pos ?_
  rcases h with h | h | h | h
  · exact .inr (.inl h)
  · exact .inr (.inr (.inl h))
  · exact .inr (.inr (.inr h))
  · left
    simp only [Bool.not_eq_true', List.any_eq_false, List.mem_range]
    intro p hp
    simpa [imp_iff_not_or] using h p hp

/-- DEMOTION where it is switched on. -/
theorem demotion_of_on (hwf : Map.wf s.seqs) (hon : s.obj 0x290004 ≠ 0) (hgone : s.dutyGone 2 = false) (hheld : s.dutyHeld 2 = false) :
    ∃ t, s.demotion = t.arrive 0x017 ∧ Passing s (Demoted s) t := by
  unfold State.demotion
  rw [if_neg (by simp [hon, hgone, hheld])]
  refine ⟨_, rfl, demotion_passing (fun u x => ?_) fun x hx => ?_⟩
  · dsimp only
    split
    · split
      · rename_i hok
        exact .inr hok
      · exact .inl rfl
    · exact .inl rfl
  · obtain ⟨hfind, htest⟩ := mem_oldestFirst hwf hx
    simp only [Bool.and_eq_true, decide_eq_true_eq] at htest
    exact ⟨hfind, htest⟩

end

/-! ### The recount sweep (R200, R202) -/

section
variable {s : State}

theorem refsTo_congr {t : State} (h : t.seqs = s.seqs) (k : Nat) : t.refsTo k = s.refsTo k := by
  unfold State.refsTo
  rw [h]

/-- What a swept frame becomes: it counts exactly the references to it, and is free where there is none. -/
def recounted (s : State) (k : Nat) (f : Frame) : Option Frame := if s.refsTo k = 0 then none else some { f with count := s.refsTo k, candidate := false }

/-- A step of the sweep at frame `k`. -/
def sweepStep (s : State) (k : Nat) : State :=
  match Map.find s.frames k with
  | none => s
  | some f => if s.refsTo k = 0 then { s with frames := Map.put s.frames k { f with candidate := false } }.freeFrame k
    else ({ s with frames := Map.put s.frames k { f with candidate := false } }.stackAccess 4 (k * 65536) 64).putFrame k
      { f with count := s.refsTo k, candidate := false }

theorem freeFrame_frames {k : Nat} {f : Frame} (h : Map.find s.frames k = some f) : (s.freeFrame k).frames = Map.del s.frames k := by
  unfold State.freeFrame
  rw [h]
  rfl

theorem freeFrame_seqs (k : Nat) : (s.freeFrame k).seqs = s.seqs ∧ (s.freeFrame k).sweep = s.sweep := by
  unfold State.freeFrame
  split
  · exact ⟨rfl, rfl⟩
  · simp only [State.chargeBy, State.setCharge, State.writeStack, and_self]

theorem find_sweepStep {k : Nat} {f : Frame} (h : Map.find s.frames k = some f) (j : Nat) :
    Map.find (sweepStep s k).frames j = if j = k then recounted s k f else Map.find s.frames j := by
  unfold sweepStep recounted
  rw [h]
  dsimp only
  split
  · rw [freeFrame_frames (find_put_same _ _ _)]
    split
    · rename_i hj
      rw [hj, find_del_same]
    · rename_i hj
      rw [find_del_ne _ hj, find_put_ne _ _ hj]
  · have hframes (u : State) (g : Frame) : (u.putFrame k g).frames = Map.put u.frames k g := rfl
    rw [hframes, (stackAccess_onlyWorked _ _ _ _).frames_eq, put_put, find_put]

theorem sweepStep_of_none {k : Nat} (h : Map.find s.frames k = none) : sweepStep s k = s := by
  unfold sweepStep
  rw [h]

theorem sweepStep_others (k : Nat) : (sweepStep s k).seqs = s.seqs ∧ (sweepStep s k).sweep = s.sweep := by
  unfold sweepStep
  split
  · exact ⟨rfl, rfl⟩
  · split
    · exact freeFrame_seqs (s := { s with frames := _ }) k
    · have hput (u : State) (g : Frame) : (u.putFrame k g).seqs = u.seqs ∧ (u.putFrame k g).sweep = u.sweep := ⟨rfl, rfl⟩
      obtain ⟨hseqs, hsweep⟩ := hput (({ s with frames := Map.put s.frames k _ } : State).stackAccess 4 (k * 65536) 64) _
      exact ⟨hseqs.trans (stackAccess_onlyWorked _ _ _ _).seqs_eq, hsweep.trans (stackAccess_onlyWorked _ _ _ _).sweep_eq⟩

/-- A walk over frames leaves those outside it alone and recounts each of its own, which no other step touches. -/
theorem foldl_sweepStep {l : List Nat} (hl : l.Nodup) (s : State) : (l.foldl sweepStep s).seqs = s.seqs ∧ (l.foldl sweepStep s).sweep = s.sweep ∧
    (∀ k, k ∉ l → Map.find (l.foldl sweepStep s).frames k = Map.find s.frames k) ∧
    ∀ k ∈ l, ∀ f, Map.find s.frames k = some f → Map.find (l.foldl sweepStep s).frames k = recounted s k f := by
  induction l generalizing s with
  | nil => exact ⟨rfl, rfl, fun _ _ => rfl, fun _ h => absurd h List.not_mem_nil⟩
  | cons i l ih =>
    obtain ⟨hi, hl⟩ := List.nodup_cons.mp hl
    obtain ⟨hseqs, hsweep, hout, hin⟩ := ih hl (sweepStep s i)
    obtain ⟨iseqs, isweep⟩ := sweepStep_others (s := s) i
    have hsame {k : Nat} (hk : k ≠ i) : Map.find (sweepStep s i).frames k = Map.find s.frames k := by
      cases hfind : Map.find s.frames i with
      | none => rw [sweepStep_of_none hfind]
      | some g => rw [find_sweepStep hfind, if_neg hk]
    refine ⟨hseqs.trans iseqs, hsweep.trans isweep, fun k hk => ?_, fun k hk f hf => ?_⟩
    · rw [List.mem_cons, not_or] at hk
      exact (hout k hk.2).trans (hsame hk.1)
    · rcases List.mem_cons.mp hk with rfl | hmem
      · exact (hout k hi).trans ((find_sweepStep hf k).trans (if_pos rfl))
      · have hne : k ≠ i := fun h => hi (h ▸ hmem)
        exact (hin k hmem f ((hsame hne).trans hf)).trans (by unfold recounted; rw [refsTo_congr iseqs])

theorem sweepEnd_eq : s.sweepEnd = if !s.sweep.running then s else
    let u : State := { s with sweep := {} }
    let t := ((Map.keep s.frames fun _ f => decide (f.count = pinned) && (s.sweep.all || f.candidate)).map Prod.fst).foldl sweepStep u
    (t.setObj 0x2B4203 (s.frames.length - t.frames.length)).bump 0x2B4205 := rfl

/-- The frames that a sweep takes (R202). -/
def Swept (s : State) (f : Frame) : Prop := f.count = pinned ∧ (s.sweep.all = true ∨ f.candidate = true)

theorem sweepEnd_of_running (hrun : s.sweep.running = true) (hwf : Map.wf s.frames) : s.sweepEnd.sweep = {} ∧ s.sweepEnd.seqs = s.seqs ∧
    (∀ k f, Map.find s.frames k = some f → ¬ Swept s f → Map.find s.sweepEnd.frames k = some f) ∧
    ∀ k f, Map.find s.frames k = some f → Swept s f → Map.find s.sweepEnd.frames k = recounted s k f := by
  rw [sweepEnd_eq, if_neg (by simp [hrun])]
  obtain ⟨hseqs, hsweep, hout, hin⟩ := foldl_sweepStep (keys_nodup (wf_keep hwf fun _ f => decide (f.count = pinned) && (s.sweep.all || f.candidate)))
    { s with sweep := {} }
  have hmem {k : Nat} {f : Frame} (hf : Map.find s.frames k = some f) :
      k ∈ (Map.keep s.frames fun _ f => decide (f.count = pinned) && (s.sweep.all || f.candidate)).map Prod.fst ↔ Swept s f := by
    rw [mem_keys_keep hwf]
    simp [hf, Swept]
  dsimp only
  rw [bump_sweep, bump_seqs, bump_frames]
  exact ⟨hsweep, hseqs, fun k f hf h => (hout k (h ∘ (hmem hf).mp)).trans hf, fun k f hf h => hin k ((hmem hf).mpr h) f hf⟩

end

/-- Settles O32: the passes by what the start of one move does; the sweep by its walk over the swept frames. A sweep that runs when another is asked for
takes both (log entry 136). -/
theorem passesChooseAndSweepsRecount : Obligations.PassesChooseAndSweepsRecount := by
  unfold Obligations.PassesChooseAndSweepsRecount
  refine ⟨fun s hwf => ⟨fun hoff => ?_, fun hon hgone hheld hshort => ?_, fun hoff => ?_, fun hon hgone hheld => ?_⟩,
    fun s i all hi => ⟨fun hrun => ?_, fun hrun => ?_⟩, fun s => ⟨fun hrun => ?_, fun hrun hwf => ?_⟩⟩
  · exact ⟨_, rfl, preEmption_of_off hoff⟩
  · obtain ⟨t, heq, hpass⟩ := preEmption_of_short hwf hon hgone hheld hshort
    obtain ⟨hsource, hframes, hmem, hreqs, hseqs⟩ := hpass.arrive
    refine ⟨_, rfl, ?_⟩
    rw [heq]
    refine ⟨hsource, hframes, hmem, hreqs, fun i e' he => (hseqs i e' he).imp_right ?_⟩
    rintro ⟨e, hfind, ⟨hst, hidle, hold, hover⟩, rfl⟩
    exact ⟨e, hfind, hst, hidle, hold, hover, by rw [← hst]; rfl⟩
  · exact ⟨_, rfl, if_pos (by simpa using hoff)⟩
  · obtain ⟨t, heq, hpass⟩ := demotion_of_on hwf hon hgone hheld
    refine ⟨_, rfl, ?_⟩
    rw [heq]
    exact hpass.arrive
  · rcases hi with ⟨rfl, rfl⟩ | ⟨rfl, rfl⟩ <;> exact ⟨_, rfl, congrArg (fun w => { s with sweep := w }) (if_pos hrun)⟩
  · rcases hi with ⟨rfl, rfl⟩ | ⟨rfl, rfl⟩ <;> exact ⟨_, rfl, congrArg (fun w => { s with sweep := w }) (if_neg (by simp [hrun]))⟩
  · exact ⟨_, rfl, if_pos (by simp [hrun])⟩
  · obtain ⟨hsweep, hseqs, hkept, hswept⟩ := sweepEnd_of_running hrun hwf
    exact ⟨_, rfl, hsweep, hseqs, fun k f hf => ⟨fun h h0 => (hswept k f hf h).trans (if_pos h0), fun h h0 => (hswept k f hf h).trans (if_neg h0), hkept k f hf⟩⟩

end Sys2Proof.Proofs

/-! PROOFS. Moves that end (O31): frames that are given up, the commit of a spill, of a flush and of a restore, and a move that is undone. -/

namespace Sys2Proof.Safety
open Sys2Proof.Machine

/-- Only counters changed, what seals records, what the host holds of them, and what goes out. -/
def OnlySealed (s t : State) : Prop := t = { s with regs := t.regs, host := t.host, sec := t.sec, out := t.out }

theorem OnlySealed.refl (s : State) : OnlySealed s s := rfl

theorem OnlySealed.trans {s t u : State} (h : OnlySealed s t) (g : OnlySealed t u) : OnlySealed s u := Eq.trans g (by rw [h])

theorem OnlySealed.foldl {α : Type} {f : State → α → State} (h : ∀ s x, OnlySealed s (f s x)) (l : List α) (s : State) : OnlySealed s (l.foldl f s) :=
  List.foldlRecOn (motive := OnlySealed s) l f (.refl s) fun u hu x _ => hu.trans (h u x)

/-- Only references to frames changed, and with them frames, their bytes and T1 charges (R200). -/
def OnlyDropped (s t : State) : Prop := (∀ j, t.charge j = { s.charge j with t1 := (t.charge j).t1 }) ∧
  t = { s with regs := t.regs, sched := t.sched, mem := t.mem, sideband := t.sideband, frames := t.frames, sweep := t.sweep, charges := t.charges }

theorem OnlyDropped.refl (s : State) : OnlyDropped s s := ⟨fun _ => rfl, rfl⟩

theorem OnlyDropped.trans {s t u : State} (h : OnlyDropped s t) (g : OnlyDropped t u) : OnlyDropped s u :=
  ⟨fun j => by rw [g.1 j, h.1 j], Eq.trans g.2 (by rw [h.2])⟩

theorem OnlyDropped.foldl {α : Type} {f : State → α → State} (h : ∀ s x, OnlyDropped s (f s x)) (l : List α) (s : State) : OnlyDropped s (l.foldl f s) :=
  List.foldlRecOn (motive := OnlyDropped s) l f (.refl s) fun u hu x _ => hu.trans (h u x)

theorem OnlyDropped.of_charges {s t : State} (hc : t.charges = s.charges)
    (h : t = { s with regs := t.regs, sched := t.sched, mem := t.mem, sideband := t.sideband, frames := t.frames, sweep := t.sweep }) : OnlyDropped s t :=
  ⟨fun j => by unfold State.charge; rw [hc], by rw [h]⟩

theorem OnlyWorked.onlyDropped {s t : State} (h : OnlyWorked s t) : OnlyDropped s t := .of_charges h.charges_eq (by rw [h.2])

theorem OnlyAnswered.mem_eq {s t : State} (h : OnlyAnswered s t) : t.mem = s.mem := by rw [h.2]

section
variable {s t : State} (h : OnlySealed s t)
include h

theorem OnlySealed.seqs_eq : t.seqs = s.seqs := by rw [h]
theorem OnlySealed.charges_eq : t.charges = s.charges := by rw [h]
theorem OnlySealed.drives_eq : t.drives = s.drives := by rw [h]

end

section
variable {s t : State} (h : OnlyDropped s t)
include h

theorem OnlyDropped.seqs_eq : t.seqs = s.seqs := by rw [h.2]
theorem OnlyDropped.drives_eq : t.drives = s.drives := by rw [h.2]

end

end Sys2Proof.Safety

namespace Sys2Proof.Proofs
open Sys2Proof.Machine Sys2Proof.Safety Sys2Proof.Laws

/-! ### References given up (R200) -/

section
variable (s : State) (k : Nat)

theorem writeStack_onlyDropped (bs : List Nat) : OnlyDropped s (s.writeStack k bs) := .of_charges rfl rfl

theorem putFrame_onlyDropped (f : Frame) : OnlyDropped s (s.putFrame k f) := .of_charges rfl rfl

theorem recount_onlyDropped (f : Frame) (n : Nat) : OnlyDropped s (s.recount k f n) :=
  (stackAccess_onlyWorked s _ _ _).onlyDropped.trans (putFrame_onlyDropped _ _ _)

theorem journal_onlyDropped (d : Int) : OnlyDropped s (s.journal k d) := by
  unfold State.journal
  split
  · exact .of_charges rfl rfl
  · exact .refl s

theorem freeFrame_onlyDropped : OnlyDropped s (s.freeFrame k) := by
  unfold State.freeFrame
  split
  · exact .refl s
  · rename_i f _
    have hcharge (u : State) (t : Nat) : OnlyDropped u (u.chargeBy t fun c => { c with t1 := c.t1 - 1 }) := by
      refine ⟨fun j => ?_, rfl⟩
      unfold State.chargeBy
      rw [charge_setCharge]
      split
      · rename_i hj
        rw [hj]
      · rfl
    have hdel (u : State) : OnlyDropped u { u with frames := Map.del u.frames k } := .of_charges rfl rfl
    exact ((writeStack_onlyDropped s _ _).trans (hdel _)).trans (hcharge _ _)

theorem dropRef_onlyDropped : OnlyDropped s (s.dropRef k) := by
  unfold State.dropRef
  split
  · exact .refl s
  · refine OnlyDropped.trans ?_ (journal_onlyDropped _ k _)
    split
    · exact .refl s
    · split
      · exact freeFrame_onlyDropped s k
      · exact recount_onlyDropped s k _ _

theorem dropRefs_onlyDropped (l : List Nat) : OnlyDropped s (s.dropRefs l) := .foldl dropRef_onlyDropped l s

end

/-! ### The commit of a spill (R193, R213, R230) -/

theorem bumpBy_onlySealed (s : State) (k n : Nat) : OnlySealed s (s.bumpBy k n) := rfl

theorem countCoded_onlySealed (s : State) (k : Nat) (sh : Shape) : OnlySealed s (s.countCoded k sh) := by
  unfold State.countCoded
  exact (((bumpBy_onlySealed s _ _).trans (bumpBy_onlySealed _ _ _)).trans (bumpBy_onlySealed _ _ _)).trans (bumpBy_onlySealed _ _ _)

theorem toHostMemory_onlySealed (s : State) (l : List Out) : OnlySealed s (s.toHostMemory l) := by
  unfold State.toHostMemory
  split <;> rfl

theorem takeSpill_onlySealed {s u : State} {r : List Nat} {i : Nat} (h : s.takeSpill r = some (u, i)) : OnlySealed s u := by
  unfold State.takeSpill at h
  split at h
  · rename_i a _ _ _
    have hseal : OnlySealed s (s.sealRun i a r).1 := by
      have hserial (n : Nat) : OnlySealed s { s with sec := { s.sec with writeSerial := n } } := rfl
      exact (hserial _).trans (toHostMemory_onlySealed _ _)
    obtain ⟨rfl, rfl⟩ := Prod.mk.inj (Option.some.inj h)
    exact hseal.trans rfl
  · cases h

/-- A page key whose leaf names a T2 record. -/
def Stowed (e : Seq) (k : Nat) : Prop := ∃ l, Map.find e.leaves k = some l ∧ l.loc = 2

theorem bump_onlySealed (s : State) (k : Nat) : OnlySealed s (s.bump k) := bumpBy_onlySealed s k 1

theorem spillPage_some {sh : Shape} {s u : State} {e f : Seq} {b n : Nat} {m : Nat × Nat} {hdr : PageHdr} {r : List Nat}
    (h : s.spillPage sh e b m hdr r = some (u, f, n)) : OnlySealed s u ∧ ∃ i, f.leaves = Map.put e.leaves m.1 ⟨i, 2⟩ := by
  unfold State.spillPage at h
  split at h
  · cases h
  · rename_i v i hv
    have heq := Prod.mk.inj (Option.some.inj h)
    have hleaves := congrArg (fun x : Seq × Nat => x.1.leaves) heq.2
    rw [← heq.1]
    exact ⟨((takeSpill_onlySealed hv).trans (countCoded_onlySealed v _ _)).trans (bump_onlySealed _ _), i, hleaves.symm⟩

/-- One page's move: its leaf names a record of T2, and every leaf that did so still does. -/
theorem spillOne_some {sh : Shape} {s u : State} {e f : Seq} {b n : Nat} {m : Nat × Nat} (h : spillOne sh (some (s, e, b)) m = some (u, f, n)) :
    OnlySealed s u ∧ ∀ k, k = m.1 ∨ Stowed e k → Stowed f k := by
  unfold spillOne at h
  dsimp only at h
  split at h
  · cases h
  · obtain ⟨hu, i, hleaves⟩ := spillPage_some h
    refine ⟨hu, fun k hk => ?_⟩
    unfold Stowed
    rw [hleaves]
    by_cases hkm : k = m.1
    · subst hkm
      exact ⟨_, find_put_same _ _ _, rfl⟩
    · obtain ⟨l, hl, hloc⟩ := hk.resolve_left hkm
      exact ⟨l, (find_put_ne _ _ hkm).trans hl, hloc⟩

theorem foldl_spillOne_none (sh : Shape) (l : List (Nat × Nat)) : l.foldl (spillOne sh) none = none := by
  induction l with
  | nil => rfl
  | cons m l ih => exact ih

/-- The pages of a spill that finds room for all of them lie in T2. -/
theorem foldl_spillOne_some {sh : Shape} {l : List (Nat × Nat)} {s u : State} {e f : Seq} {b n : Nat} (h : l.foldl (spillOne sh) (some (s, e, b)) = some (u, f, n)) :
    OnlySealed s u ∧ ∀ k, k ∈ l.map Prod.fst ∨ Stowed e k → Stowed f k := by
  induction l generalizing s e b with
  | nil =>
    obtain ⟨rfl, hrest⟩ := Prod.mk.inj (Option.some.inj h)
    obtain ⟨rfl, rfl⟩ := Prod.mk.inj hrest
    exact ⟨.refl s, fun k hk => hk.resolve_left (by simp)⟩
  | cons m l ih =>
    rw [List.foldl_cons] at h
    cases hone : spillOne sh (some (s, e, b)) m with
    | none => rw [hone, foldl_spillOne_none] at h; cases h
    | some x =>
      obtain ⟨v, g, c⟩ := x
      rw [hone] at h
      obtain ⟨hu, hf⟩ := ih h
      obtain ⟨hv, hg⟩ := spillOne_some hone
      refine ⟨hv.trans hu, fun k hk => hf k ?_⟩
      rw [List.map_cons, List.mem_cons, or_right_comm] at hk
      exact hk.symm.imp_right (hg k)

section
variable {s : State} {i : Nat} {e : Seq}

/-- A spill that commits: its sequence is SPILLED at the records taken, no other sequence changed, and its charge is theirs. -/
theorem commitSpill_some {t : State} {body : List Nat} (h : s.commitSpill i e = some (t, body)) : ∃ e', Map.find t.seqs i = some e' ∧ e'.st = .spilled ∧
    e'.reserved = 0 ∧ (t.charge (tenantOf i)).r2 = (s.charge (tenantOf i)).r2 - e.reserved ∧ (t.charge (tenantOf i)).t2 = (s.charge (tenantOf i)).t2 + e'.t2 ∧
    (∀ m ∈ e.moving, ∀ l, Map.find e.leaves m.1 = some l → l.loc = 1 → ∃ l', Map.find e'.leaves m.1 = some l' ∧ l'.loc = 2) ∧
    ∀ k, k ≠ i → Map.find t.seqs k = Map.find s.seqs k := by
  unfold State.commitSpill at h
  dsimp only at h
  split at h
  · cases h
  · rename_i u f n hfold
    obtain ⟨rfl, -⟩ := Prod.mk.inj (Option.some.inj h)
    obtain ⟨hu, hf⟩ := foldl_spillOne_some hfold
    have hdrop (v : State) := dropRefs_onlyDropped v
    refine ⟨_, (congrArg (Map.find · i) (hdrop _ _).seqs_eq).trans (find_put_same _ _ _), rfl, rfl, ?_, ?_, fun m hm l hl hloc => ?_, fun k hk => ?_⟩
    · rw [(hdrop _ _).1]
      exact (congrArg Charges.r2 (charge_setCharge_same _ _ _)).trans (by unfold State.charge; rw [hu.charges_eq])
    · rw [(hdrop _ _).1]
      exact (congrArg Charges.t2 (charge_setCharge_same _ _ _)).trans (by unfold State.charge; rw [hu.charges_eq])
    · refine hf m.1 (.inl (List.mem_map.mpr ⟨m, List.mem_filter.mpr ⟨hm, ?_⟩, rfl⟩))
      simp [hl, hloc]
    · rw [(hdrop _ _).seqs_eq]
      exact (find_put_ne _ _ hk).trans (by rw [← hu.seqs_eq]; rfl)

end

/-! ### The commit of a flush (R193, R214, R237) -/

section
variable (s : State) (i : Nat) (e : Seq)

/-- The charge of a tenant once T2 records are given back is the same in every other tier. -/
theorem charge_freeT2 : (s.freeT2 i e).charge (tenantOf i) = { s.charge (tenantOf i) with t2 := (s.charge (tenantOf i)).t2 - e.t2 } :=
  charge_setCharge_same _ _ _

theorem freeT2_drives : (s.freeT2 i e).drives = s.drives := rfl

/-- What a flushed sequence gives up: its records in T2 and its frames, the hub coder's work counted. -/
def flushFreed (copied : Nat) : State :=
  ((((e.leaves.filter fun l => decide (l.2.loc = 1)).foldl (fun u l => u.countCoded l.2.val (s.shape e.binding)) s).bumpBy 0x290105 copied).freeT2 i e).dropRefs
    e.frameList

theorem flushFreed_kept (copied : Nat) : (flushFreed s i e copied).drives = s.drives ∧
    ((flushFreed s i e copied).charge (tenantOf i)).r3 = (s.charge (tenantOf i)).r3 ∧ ((flushFreed s i e copied).charge (tenantOf i)).t3 = (s.charge (tenantOf i)).t3 := by
  have hcounted (l : Map Leaf) : OnlySealed s ((l.foldl (fun u l => u.countCoded l.2.val (s.shape e.binding)) s).bumpBy 0x290105 copied) :=
    .trans (.foldl (fun u _ => countCoded_onlySealed u _ _) l s) (bumpBy_onlySealed _ _ _)
  have hdrop (u : State) := dropRefs_onlyDropped u e.frameList
  unfold flushFreed
  refine ⟨?_, ?_, ?_⟩
  · rw [(hdrop _).drives_eq, freeT2_drives, (hcounted _).drives_eq]
  · rw [(hdrop _).1, charge_freeT2, State.charge, (hcounted _).charges_eq]
    rfl
  · rw [(hdrop _).1, charge_freeT2, State.charge, (hcounted _).charges_eq]
    rfl

/-- A sequence that is FLUSHED as an image of `blocks` blocks. -/
def flushed (e : Seq) (blocks : Nat) (img : Map Stored) : Seq :=
  { e with st := .flushed, t2 := 0, t3 := blocks, reserved := 0, mover := none, leaves := [], stored := img, extents := e.extents.take (extentsOf blocks) }

/-- What stands once an image of `blocks` blocks has been charged and its sequence is FLUSHED. -/
def flushCommitted (u : State) (i : Nat) (e : Seq) (blocks : Nat) (img : Map Stored) : State :=
  (((u.setDrive e.drive { u.drive e.drive with images := (u.drive e.drive).images ++ [i] }).giveExtents e.drive (e.extents.drop (extentsOf blocks))).chargeBy
    (tenantOf i) fun c => { c with r3 := c.r3 - e.reserved, t3 := c.t3 + blocks }).setSeq i (flushed e blocks img)

theorem commitFlush_eq (lost : List Nat) : ∃ copied blocks img out,
    (s.commitFlush i e lost).1 = { flushCommitted (flushFreed s i e copied) i e blocks img with out := out } := ⟨_, _, _, _, rfl⟩

/-- A flush that commits: its sequence is FLUSHED at its image's size, in its drive's images, and its charge is that size. -/
theorem commitFlush_spec (lost : List Nat) : ∃ e', Map.find (s.commitFlush i e lost).1.seqs i = some e' ∧ e'.st = .flushed ∧ e'.leaves = [] ∧ e'.reserved = 0 ∧
    e'.t2 = 0 ∧ ((s.commitFlush i e lost).1.charge (tenantOf i)).r3 = (s.charge (tenantOf i)).r3 - e.reserved ∧
    ((s.commitFlush i e lost).1.charge (tenantOf i)).t3 = (s.charge (tenantOf i)).t3 + e'.t3 ∧
    ((s.commitFlush i e lost).1.drive e.drive).images = (s.drive e.drive).images ++ [i] := by
  obtain ⟨copied, blocks, img, out, heq⟩ := commitFlush_eq s i e lost
  obtain ⟨hdrives, hr3, ht3⟩ := flushFreed_kept s i e copied
  generalize flushFreed s i e copied = u at *
  have hdrive : u.drive e.drive = s.drive e.drive := by unfold State.drive; rw [hdrives]
  have hcharge : (flushCommitted u i e blocks img).charge (tenantOf i) =
      { u.charge (tenantOf i) with r3 := (u.charge (tenantOf i)).r3 - e.reserved, t3 := (u.charge (tenantOf i)).t3 + blocks } :=
    charge_setCharge_same _ _ _
  rw [heq]
  refine ⟨flushed e blocks img, find_put_same _ _ _, rfl, rfl, rfl, rfl, ?_, ?_, ?_⟩
  · exact (congrArg Charges.r3 hcharge).trans (by rw [hr3])
  · exact (congrArg Charges.t3 hcharge).trans (by rw [ht3]; rfl)
  · change ((flushCommitted u i e blocks img).drive e.drive).images = _
    unfold flushCommitted State.giveExtents
    have hkept (v : State) : ((v.chargeBy (tenantOf i) fun c => { c with r3 := c.r3 - e.reserved, t3 := c.t3 + blocks }).setSeq i (flushed e blocks img)).drive e.drive
        = v.drive e.drive := rfl
    rw [hkept, drive_setDrive_same, drive_setDrive_same, hdrive]

end

/-! ### The commit of a restore (R193, R215, R216) -/

/-- Values that a list gives to keys, each key once: a key reads as its own. -/
theorem find_foldl_putFst {α β : Type} (g : Nat × β → α) {l : List (Nat × β)} (hl : (l.map Prod.fst).Nodup) (m : Map α) {x : Nat × β} (hx : x ∈ l) :
    Map.find (l.foldl (fun m x => Map.put m x.1 (g x)) m) x.1 = some (g x) := by
  have hout (l : List (Nat × β)) (m : Map α) (k : Nat) : k ∉ l.map Prod.fst → Map.find (l.foldl (fun m x => Map.put m x.1 (g x)) m) k = Map.find m k := by
    induction l generalizing m with
    | nil => exact fun _ => rfl
    | cons y l ih =>
      intro hk
      rw [List.map_cons, List.mem_cons, not_or] at hk
      exact (ih _ hk.2).trans (find_put_ne _ _ hk.1)
  induction l generalizing m with
  | nil => cases hx
  | cons y l ih =>
    rw [List.map_cons, List.nodup_cons] at hl
    rcases List.mem_cons.mp hx with rfl | hx
    · exact (hout l _ _ hl.1).trans (find_put_same _ _ _)
    · exact ih hl.2 _ hx

section
variable {s : State} {i : Nat} {e : Seq}

/-- A restored page's frame counts one reference. -/
def linkFrame (s : State) (m : Nat × Nat) : State :=
  match Map.find s.frames m.2 with
  | some f => s.putFrame m.2 { f with count := 1 }
  | none => s

theorem linkFrame_charges (s : State) (m : Nat × Nat) : (linkFrame s m).charges = s.charges := by
  unfold linkFrame
  split <;> rfl

/-- A sequence restored whole: each page that moved is named at location 1. -/
def restored (e : Seq) : Seq :=
  { e with st := .active, t2 := 0, t3 := 0, reserved := 0, mover := none, moving := [], taken := [], stored := [], extents := [],
           leaves := (e.moving ++ e.taken).foldl (fun m x => Map.put m x.1 ⟨x.2, 1⟩) (Map.keep e.leaves fun _ l => decide (l.loc ≠ 2)) }

theorem commitRestore_of_whole (hgone : s.goneKeys e = []) (hfell : s.lostTaken e = []) (hprior : e.prior = .spilled) :
    (s.commitRestore i e []).1 = ((((e.moving.foldl linkFrame s).chargeBy (tenantOf i) fun c => { c with r1 := c.r1 - e.reserved, t1 := c.t1 + e.moving.length }).freeT2
      i e).bumpBy 0x290103 e.moving.length).setSeq i (restored e) := by
  unfold State.commitRestore
  have hgood : (e.moving.filter fun m => !([] : List Nat).contains m.1) = e.moving := List.filter_eq_self.mpr fun _ _ => rfl
  have hbad : (e.moving.filter fun m => ([] : List Nat).contains m.1) = [] := List.filter_eq_nil_iff.mpr fun _ _ => by simp
  have hprior' : e.prior ≠ .flushed := by rw [hprior]; decide
  dsimp only
  rw [hgone, hfell]
  simp only [List.append_nil, List.filter_nil, List.dedup_nil, List.foldl_nil, hgood, hbad, List.map_nil, if_neg hprior', if_true]
  rfl

/-- A restore with no page lost: its sequence is ACTIVE, and its charge has moved from T2 to T1. -/
theorem commitRestore_spec (hgone : s.goneKeys e = []) (hfell : s.lostTaken e = []) (hprior : e.prior = .spilled) :
    ∃ e', Map.find (s.commitRestore i e []).1.seqs i = some e' ∧ e'.st = .active ∧ e'.stored = [] ∧ e'.moving = [] ∧
      ((s.commitRestore i e []).1.charge (tenantOf i)).r1 = (s.charge (tenantOf i)).r1 - e.reserved ∧
      ((s.commitRestore i e []).1.charge (tenantOf i)).t1 = (s.charge (tenantOf i)).t1 + e.moving.length ∧
      ((s.commitRestore i e []).1.charge (tenantOf i)).t2 = (s.charge (tenantOf i)).t2 - e.t2 ∧
      (Map.wf e.moving → e.taken = [] → ∀ m ∈ e.moving, Map.find e'.leaves m.1 = some ⟨m.2, 1⟩) := by
  have hlinked (t : Nat) : (e.moving.foldl linkFrame s).charge t = s.charge t := by
    unfold State.charge
    rw [foldl_proj_eq (p := State.charges) linkFrame_charges]
  rw [commitRestore_of_whole hgone hfell hprior]
  have hkept (u : State) : ((u.bumpBy 0x290103 e.moving.length).setSeq i (restored e)).charge (tenantOf i) = u.charge (tenantOf i) := rfl
  refine ⟨restored e, find_put_same _ _ _, rfl, rfl, rfl, ?_, ?_, ?_, fun hwf htaken m hm => ?_⟩
  · rw [hkept, charge_freeT2, State.chargeBy, charge_setCharge_same, hlinked]
  · rw [hkept, charge_freeT2, State.chargeBy, charge_setCharge_same, hlinked]
  · rw [hkept, charge_freeT2, State.chargeBy, charge_setCharge_same, hlinked]
  · unfold restored
    rw [htaken, List.append_nil]
    exact find_foldl_putFst (fun x => (⟨x.2, 1⟩ : Leaf)) (keys_nodup hwf) _ hm

end

/-! ### MOVE_COMPLETE and MOVE_FAILED (R193, R258) -/

section
variable {s : State} {i : Nat} {e : Seq} (he : Map.find s.seqs i = some e)
include he

/-- The move of a sequence that no request started commits where its pages read. -/
theorem moveComplete_of_auto (lost : List Nat) (hauto : e.mover = none) (hwritten : e.st = .flushing → e.written = 2) (hkeys : s.sec.storageKeys = true)
    (hread : s.unread (s.shape e.binding) (s.moveReads e) = []) (hgood : s.suspectIn (s.moveReads e) = false) : s.moveComplete i lost = s.commitMove i e lost := by
  unfold State.moveComplete
  rw [he]
  dsimp only
  rw [if_neg fun h => h.2 (hwritten h.1), if_neg (by simp [hkeys]), if_neg (by simp [hread, hgood]), hauto]

theorem moveComplete_of_unwritten (lost : List Nat) (hst : e.st = .flushing) (hwritten : e.written ≠ 2) : s.moveComplete i lost = s := by
  unfold State.moveComplete
  rw [he]
  exact if_pos ⟨hst, hwritten⟩

/-- A move out of T1 fails where no storage key stands. -/
theorem moveComplete_of_unkeyed (lost : List Nat) (hst : e.st ≠ .restoring) (hwritten : e.st = .flushing → e.written = 2) (hkeys : s.sec.storageKeys = false) :
    s.moveComplete i lost = s.moveFailed i := by
  unfold State.moveComplete
  rw [he]
  dsimp only
  rw [if_neg fun h => h.2 (hwritten h.1), if_pos ⟨hst, by simp [hkeys]⟩]

theorem moveFailed_of_still (hst : e.st ≠ .spilling ∧ e.st ≠ .flushing ∧ e.st ≠ .restoring) : s.moveFailed i = s := by
  unfold State.moveFailed
  rw [he]
  exact if_pos hst

end

section
variable {s : State} {i : Nat} {e : Seq} (hauto : e.mover = none) (lost : List Nat)
include hauto

/-- A spill that no request started is counted, and for its tenant its pages. -/
theorem commitMove_spill {t : State} {body : List Nat} (hst : e.st = .spilling) (h : s.commitSpill i e = some (t, body)) :
    s.commitMove i e lost = (t.bump 0x2B4105).bumpBy (tenantKey (tenantOf i) 0xA) e.moving.length := by
  unfold State.commitMove
  dsimp only
  rw [hst, h, hauto]
  rfl

theorem commitMove_flush (hst : e.st = .flushing) :
    s.commitMove i e lost = ((s.commitFlush i e lost).1.bump 0x290007).bumpBy 0x290106 e.leaves.length := by
  unfold State.commitMove
  dsimp only
  rw [hst, hauto]
  rfl

theorem commitMove_restore (hst : e.st = .restoring) : s.commitMove i e lost = (s.commitRestore i e lost).1 := by
  unfold State.commitMove
  dsimp only
  rw [hst, hauto]

end

/-- A move out of T1 that is undone: its sequence is in its prior state with nothing of the move left. -/
def undone (e : Seq) : Seq :=
  { e with st := e.prior, reserved := 0, mover := none, moving := [], taken := [], extents := if e.st = .flushing then [] else e.extents }

section
variable {s : State} {i : Nat} {e : Seq} (he : Map.find s.seqs i = some e)
include he

theorem undoMove_spilling (hst : e.st = .spilling) :
    s.undoMove i = (s.chargeBy (tenantOf i) fun c => { c with r2 := c.r2 - e.reserved }).setSeq i (undone e) := by
  unfold State.undoMove undone
  rw [he]
  dsimp only
  rw [hst]
  rfl

theorem undoMove_flushing (hst : e.st = .flushing) :
    s.undoMove i = ((s.chargeBy (tenantOf i) fun c => { c with r3 := c.r3 - e.reserved }).giveExtents e.drive e.extents).setSeq i (undone e) := by
  unfold State.undoMove undone
  rw [he]
  dsimp only
  rw [hst]
  rfl

/-- Undoing a move out of T1 returns its reservation and touches no frame, byte or request. -/
theorem undoMove_spec (hst : e.st = .spilling ∨ e.st = .flushing) : Map.find (s.undoMove i).seqs i = some (undone e) ∧
    (e.st = .spilling → ((s.undoMove i).charge (tenantOf i)).r2 = (s.charge (tenantOf i)).r2 - e.reserved) ∧
    (e.st = .flushing → ((s.undoMove i).charge (tenantOf i)).r3 = (s.charge (tenantOf i)).r3 - e.reserved) ∧ (s.undoMove i).frames = s.frames ∧
    (s.undoMove i).mem = s.mem ∧ (s.undoMove i).moveFails = s.moveFails := by
  rcases hst with hst | hst
  · rw [undoMove_spilling he hst]
    exact ⟨find_put_same _ _ _, fun _ => congrArg Charges.r2 (charge_setCharge_same _ _ _), fun h => absurd (hst.symm.trans h) (by decide), rfl, rfl, rfl⟩
  · rw [undoMove_flushing he hst]
    exact ⟨find_put_same _ _ _, fun h => absurd (hst.symm.trans h) (by decide), fun _ => congrArg Charges.r3 (charge_setCharge_same _ _ _), rfl, rfl, rfl⟩

end

/-- A completion changes no sequence but for its last use (R187). -/
theorem find_seqsUsed {s : State} {i : Nat} {e : Seq} (he : Map.find s.seqs i = some e) (q : Request) :
    ∃ n, Map.find (seqsUsed s q) i = some { e with lastUse := n } := by
  unfold seqsUsed
  split
  · rename_i f hf
    split
    · exact ⟨e.lastUse, he⟩
    · by_cases hi : i = q.seqId
      · subst hi
        obtain rfl : e = f := Option.some.inj (he.symm.trans hf)
        exact ⟨s.time, find_put_same _ _ _⟩
      · exact ⟨e.lastUse, (find_put_ne _ _ hi).trans he⟩
  · exact ⟨e.lastUse, he⟩

/-- A move out of T1 that fails leaves its sequence as it was but for its last use, and ends the request that started it. -/
def MoveUndone (s : State) (i : Nat) (e : Seq) (t : State) : Prop :=
  (∃ n, Map.find t.seqs i = some { undone e with lastUse := n }) ∧
    (e.st = .spilling → (t.charge (tenantOf i)).r2 = (s.charge (tenantOf i)).r2 - e.reserved) ∧
    (e.st = .flushing → (t.charge (tenantOf i)).r3 = (s.charge (tenantOf i)).r3 - e.reserved) ∧ t.frames = s.frames ∧ t.mem = s.mem ∧
    (e.mover = none → t.moveFails = s.moveFails + 1) ∧
    ∀ tag q, e.mover = some tag → Map.find s.reqs tag = some q → Ended s t tag q (.busy 0x0B)

theorem moveFailed_undone {s : State} {i : Nat} {e : Seq} (he : Map.find s.seqs i = some e) (hst : e.st = .spilling ∨ e.st = .flushing)
    (hmover : ∀ tag, e.mover = some tag → ∃ q, Map.find s.reqs tag = some q ∧ q.src.isMirror = false) : MoveUndone s i e (s.moveFailed i) := by
  obtain ⟨hseq, hr2, hr3, hframes, hmem, hfails⟩ := undoMove_spec he hst
  have hreqs : (s.undoMove i).reqs = s.reqs := (undoMove_sameRequests s i).reqs_eq
  have hstarted : ¬ (e.st ≠ .spilling ∧ e.st ≠ .flushing ∧ e.st ≠ .restoring) := fun h => hst.elim h.1 h.2.1
  unfold State.moveFailed
  rw [he]
  dsimp only
  rw [if_neg hstarted]
  cases hm : e.mover with
  | none => exact ⟨⟨e.lastUse, hseq⟩, hr2, hr3, hframes, hmem, fun _ => congrArg (· + 1) hfails, fun _ _ h => absurd (hm.symm.trans h) (by simp)⟩
  | some tag =>
    obtain ⟨q, hq, hsrc⟩ := hmover tag hm
    dsimp only
    rw [hreqs, hq]
    have hanswer := complete_onlyAnswered (s := s.undoMove i) (tag := tag) (q := q) (a := .busy 0x0B) (data := []) hsrc
    obtain ⟨n, hn⟩ := find_seqsUsed hseq q
    have hcharge : ((s.undoMove i).complete tag q (.busy 0x0B)).charge (tenantOf i) = (s.undoMove i).charge (tenantOf i) := by
      unfold State.charge
      rw [hanswer.charges_eq]
      rfl
    refine ⟨⟨n, ?_⟩, fun h => ?_, fun h => ?_, ?_, ?_, fun h => absurd (hm.symm.trans h) (by simp), fun tag' q' htag hq' => ?_⟩
    · rw [hanswer.seqs_eq]
      exact hn
    · rw [hcharge, hr2 h]
    · rw [hcharge, hr3 h]
    · exact hanswer.frames_eq.trans hframes
    · exact hanswer.mem_eq.trans hmem
    · obtain rfl : tag = tag' := Option.some.inj (hm.symm.trans htag)
      obtain rfl : q = q' := Option.some.inj (hq.symm.trans hq')
      exact ended_of_complete s _ tag q _ [] hsrc fun k _ => by rw [hreqs]

/-- Settles O31: what each commit leaves by the lemma about it, a failed move by what undoing it returns. That the request of a
move that fails ends BUSY_RETRY 0Bh is log entry 43. -/
theorem movesCommitOrAreUndone : Obligations.MovesCommitOrAreUndone := by
  unfold Obligations.MovesCommitOrAreUndone
  refine ⟨fun s i e lost he hauto hkeys hread hgood => ?_, fun s i e c he hst hc hmover => ?_, fun s i e lost he hst hwritten => ?_, fun s i hstill => ?_⟩
  · dsimp only
    refine ⟨fun hst t body hcommit => ?_, fun hst hwritten => ?_, fun hst hlost hgone hfell hprior => ?_⟩
    · refine ⟨_, rfl, ?_⟩
      rw [moveComplete_of_auto he lost hauto (by simp [hst]) hkeys hread hgood, commitMove_spill hauto lost hst hcommit]
      have hspilled := commitSpill_some hcommit
      exact hspilled
    · refine ⟨_, rfl, ?_⟩
      rw [moveComplete_of_auto he lost hauto (fun _ => hwritten) hkeys hread hgood, commitMove_flush hauto lost hst]
      exact commitFlush_spec s i e lost
    · refine ⟨_, rfl, ?_⟩
      rw [moveComplete_of_auto he lost hauto (by simp [hst]) hkeys hread hgood, commitMove_restore hauto lost hst, hlost]
      exact commitRestore_spec hgone hfell hprior
  · have hfailed : exec c s = .next (s.moveFailed i) := by
      rcases hc with rfl | ⟨⟨lost, rfl⟩, hwritten, hkeys⟩
      · rfl
      · exact congrArg Host.Outcome.next (moveComplete_of_unkeyed he lost (by rcases hst with h | h <;> simp [h]) hwritten hkeys)
    obtain ⟨⟨n, hn⟩, hrest⟩ := moveFailed_undone he hst fun tag htag =>
      have ⟨q, hq, _, hsrc⟩ := hmover tag htag
      ⟨q, hq, hsrc⟩
    exact ⟨_, hfailed, _, hn, rfl, hrest⟩
  · exact ⟨_, rfl, moveComplete_of_unwritten he lost hst hwritten⟩
  · refine ⟨_, rfl, ?_⟩
    rcases hstill with hnone | ⟨e, he, hst⟩
    · show s.moveFailed i = s
      unfold State.moveFailed
      rw [hnone]
    · exact moveFailed_of_still he hst

end Sys2Proof.Proofs

/-! PROOFS. Moves that start (O30): what taking a tag leaves alone, a request that comes to its turn, extents of a drive, and the turn of each move. -/

namespace Sys2Proof.Safety
open Sys2Proof.Machine

/-- Only requests, their tags and order changed, and the count of rings' requests (R23). -/
def OnlyTaken (s u : State) : Prop := (∀ k, k ≠ 0x2F0008 → u.obj k = s.obj k) ∧
  u = { s with gens := u.gens, orderCtr := u.orderCtr, reqs := u.reqs, regs := u.regs }

theorem OnlyTaken.refl (s : State) : OnlyTaken s s := ⟨fun _ _ => rfl, rfl⟩

section
variable {s u : State} (h : OnlyTaken s u)
include h

theorem OnlyTaken.seqs_eq : u.seqs = s.seqs := by rw [h.2]
theorem OnlyTaken.frames_eq : u.frames = s.frames := by rw [h.2]
theorem OnlyTaken.mem_eq : u.mem = s.mem := by rw [h.2]
theorem OnlyTaken.charges_eq : u.charges = s.charges := by rw [h.2]
theorem OnlyTaken.drives_eq : u.drives = s.drives := by rw [h.2]
theorem OnlyTaken.time_eq : u.time = s.time := by rw [h.2]
theorem OnlyTaken.charge_eq (t : Nat) : u.charge t = s.charge t := by unfold State.charge; rw [h.charges_eq]
theorem OnlyTaken.drive_eq (d : Nat) : u.drive d = s.drive d := by unfold State.drive; rw [h.drives_eq]
theorem OnlyTaken.dutyGone_eq (d : Nat) : u.dutyGone d = s.dutyGone d := by rw [h.2]; rfl
theorem OnlyTaken.wideHeld_eq (kind : Nat) : u.wideHeld kind = s.wideHeld kind := by rw [h.2]; rfl
theorem OnlyTaken.exhausted_eq (slot : Nat) : u.exhausted slot = s.exhausted slot := by rw [h.2]; rfl
theorem OnlyTaken.suspectIn_eq (m : Map Leaf) : u.suspectIn m = s.suspectIn m := by rw [h.2]; rfl
theorem OnlyTaken.privatePages_eq (e : Seq) : u.privatePages e = s.privatePages e := by rw [h.2]; rfl
theorem OnlyTaken.driveFor_eq (n : Nat) : u.driveFor n = s.driveFor n := by rw [h.2]; rfl
theorem OnlyTaken.spillBlocks_eq : u.spillBlocks = s.spillBlocks := by rw [h.2]; rfl
theorem OnlyTaken.spillFree_eq : u.spillFree = s.spillFree := by rw [h.2]; rfl
theorem OnlyTaken.host_eq : u.host = s.host := by rw [h.2]

end

end Sys2Proof.Safety

namespace Sys2Proof.Proofs
open Sys2Proof.Machine Sys2Proof.Safety Sys2Proof.Laws

/-! ### Taking a tag leaves what a move's tests read (R23, R209, R260) -/

section
variable {s u : State} (h : OnlyTaken s u)
include h

theorem quotaFor_onlyTaken (t tier n : Nat) : u.quotaFor t tier n = s.quotaFor t tier n := by
  unfold State.quotaFor
  dsimp only
  rw [h.1 _ (tenantKey_ne t _), h.charge_eq]

theorem mapRoom_onlyTaken (n : Nat) : u.mapRoom n = s.mapRoom n := by
  have hgranules : u.obj 0x2B4002 = s.obj 0x2B4002 := h.1 _ (by decide)
  unfold State.mapRoom State.freeGranules
  rw [hgranules, h.2]
  rfl

/-- Whether a request is mirrored reads its tenant's composition alone of the objects. -/
theorem mirrored_onlyTaken (q : Request) : u.mirrored q = s.mirrored q := by
  have hkey (i sub : Nat) (hsub : sub < 8) : u.obj (recKey 0x2440 i sub) = s.obj (recKey 0x2440 i sub) := by
    refine h.1 _ ?_
    unfold recKey
    omega
  have hcomp (t : Nat) : u.compOf t = s.compOf t := by
    unfold State.compOf
    simp only [h.1 _ (tenantKey_ne t 0xB), hkey _ 1 (by decide)]
  have hpair : u.pair = s.pair := by rw [h.2]
  have hcharts : u.charts = s.charts := by rw [h.2]
  unfold State.mirrored State.pairOwned State.entryIdx State.spans State.chart
  simp only [hcomp, hkey _ 5 (by decide), hpair, hcharts]

/-- A record's size reads no object that counts rings' requests. -/
theorem rawRecord_onlyTaken (b : Nat) : (u.shape b).rawRecord = (s.shape b).rawRecord := by
  have hkey {sub : Nat} (hsub : sub < 8) : u.obj (recKey 0x2B80 b sub) = s.obj (recKey 0x2B80 b sub) := by
    refine h.1 _ ?_
    unfold recKey
    omega
  have hshape : u.shape b = { s.shape b with groups := (u.shape b).groups, transform := (u.shape b).transform } := by
    unfold State.shape
    simp [hkey]
  rw [hshape]
  rfl

theorem spillRaw_onlyTaken (e : Seq) : spillRaw u e = spillRaw s e := by
  unfold spillRaw
  rw [h.privatePages_eq, rawRecord_onlyTaken h]

theorem flushRaw_onlyTaken (e : Seq) : flushRaw u e = flushRaw s e := by
  unfold flushRaw
  rw [rawRecord_onlyTaken h]

theorem spilling_onlyTaken (e : Seq) (mover : Option Nat) : spilling u e mover = spilling s e mover := by
  unfold spilling
  rw [spillRaw_onlyTaken h, h.privatePages_eq]

end

theorem begun_onlyTaken (s : State) (r : Req) (tag : Nat) (phase : Phase) : OnlyTaken s (begun s r tag phase) := ⟨fun _ hk => begun_obj phase hk, rfl⟩

/-! ### A request of a move at its turn (R191, R192) -/

/-- A request of a move comes to its turn in a state that differs from the one before by its tag alone: what the turn gives is what the command does. -/
structure Turning (s : State) (i : Instr) (r : Req) (tag : Nat) (e : Seq) (u : State) (q : Request) : Prop where
  taken : OnlyTaken s u
  src : q.src = r.src
  kind : q.kind = r.kind
  seqId : q.seqId = r.seqId
  client : r.src.isMirror = false
  slot : s.exhausted r.src.keySlot = false
  single : s.mirrored q = false
  duty : s.dutyGone 2 = false
  runs : ∀ t, u.moveTurn tag q e = .ok t → exec i s = .next t

section
variable {s : State} {r : Req} {tag : Nat} {e : Seq}

/-- The sequence-wide turn of a SWAP_OUT, SWAP_IN or FLUSH is its move's. -/
theorem wideTurn_of_move {u : State} {q : Request} (he : Map.find u.seqs q.seqId = some e) (hk : q.kind = 7 ∨ q.kind = 8 ∨ q.kind = 9) :
    u.wideTurn tag q = u.moveTurn tag q e := by
  unfold State.wideTurn
  rw [he]
  rcases hk with hk | hk | hk <;> simp [hk]

variable (he : Map.find s.seqs r.seqId = some e) (hk : r.kind = 7 ∨ r.kind = 8 ∨ r.kind = 9)
include he hk

/-- A move that passes its checks and that nothing holds has its turn at once. -/
theorem turning_of_atTurn {i : Instr} (hi : i = .swapOut r ∨ i = .swapIn r ∨ i = .flush r) (h : AtTurn s i r tag) :
    Turning s i r tag e (begun s r tag .held) (admitted s r tag .held) := by
  obtain ⟨⟨write, create, needs, span, bad, hchecks, hpass⟩, htag, hheld, hwide, hduty, hslot, hsingle⟩ := h
  have hclient := passes_not_mirror hpass
  have hbegun := begun_onlyTaken s r tag .held
  refine ⟨hbegun, rfl, rfl, rfl, hclient, hslot, hsingle, hduty 2, fun t ht => ?_⟩
  have hswap : exec i s = .next (s.swap r) := by rcases hi with rfl | rfl | rfl <;> rfl
  have hchecks' : (r, true, false, true, 0, wideBad r 0 [(20, 12)]) = (r, write, create, needs, span, bad) := by
    rcases hi with rfl | rfl | rfl <;> exact Option.some.inj hchecks
  have hpass' : Safety.Passes s r true false true wideSpan (wideBad r 0 [(20, 12)]) := by
    simp only [Prod.mk.injEq, true_and] at hchecks'
    obtain ⟨rfl, rfl, rfl, rfl, rfl⟩ := hchecks'
    exact hpass
  have hturn : (begun s r tag .held).wideTurn tag (admitted s r tag .held) = .ok t := by
    rw [wideTurn_of_move (by rw [hbegun.seqs_eq]; exact he) hk]
    exact ht
  have hheld' : ¬ ((begun s r tag .held).heldBack (admitted s r tag .held) = true ∨ (begun s r tag .held).wideHeld (admitted s r tag .held).kind = true) := by
    rw [hbegun.wideHeld_eq]
    exact fun h => h.elim (fun h => absurd (hheld.symm.trans h) (by simp)) fun h => absurd (hwide.symm.trans h) (by simp)
  have htake : s.take r .held = some (tag, admitted s r tag .held, begun s r tag .held) := take_eq_taken .held hclient htag
  rw [hswap, State.swap, gate_of_passes _ hpass', State.enterWide, htake]
  dsimp only
  rw [if_neg hheld', hturn]

/-- A held move that nothing holds any more has its turn (R192). -/
theorem turning_of_held {q : Request} (hq : Map.find s.reqs tag = some q) (hsrc : q.src = r.src) (hkind : q.kind = r.kind) (hseq : q.seqId = r.seqId)
    (hphase : q.phase = .held) (hheld : s.heldBack q = false) (hsingle : s.mirrored q = false) (hwide : s.wideHeld r.kind = false)
    (hduty : ∀ d, s.dutyGone d = false) (hslot : s.exhausted r.src.keySlot = false) (hclient : r.src.isMirror = false) :
    Turning s (.sequenceWideTurn tag) r tag e s q := by
  refine ⟨.refl s, hsrc, hkind, hseq, hclient, hslot, hsingle, hduty 2, fun t ht => ?_⟩
  have hwideKind : wideKind q.kind = true := by rw [hkind]; rcases hk with hk | hk | hk <;> rw [hk] <;> rfl
  have hturn : s.wideTurn tag q = .ok t := by
    rw [wideTurn_of_move (by rw [hseq]; exact he) (by rw [hkind]; exact hk), ht]
  refine congrArg Host.Outcome.next ?_
  unfold State.takeTurn
  rw [hq]
  dsimp only
  rw [if_neg (by simp [hphase, hwideKind, hheld, hkind ▸ hwide]), hturn]

end

/-! ### Extents of a drive (R235) -/

/-- The extents that a drive gives up to a flush are as many as it needs, none of them extent 0 and none in use. -/
theorem pick_spec (d : DriveSt) (n : Nat) : (d.pick n).length = n ∧ ∀ x ∈ d.pick n, x ≠ 0 ∧ x ∉ d.used := by
  have hdrop : (List.range (d.used.length + n + 1)).drop 1 = (List.range (d.used.length + n)).map Nat.succ := by
    rw [List.range_succ_eq_map]
    rfl
  unfold DriveSt.pick
  rw [hdrop]
  refine ⟨?_, fun x hx => ?_⟩
  · have hnodup : ((List.range (d.used.length + n)).map Nat.succ).Nodup := List.nodup_range.map Nat.succ_injective
    have hused : (((List.range (d.used.length + n)).map Nat.succ).filter fun x => d.used.contains x).length ≤ d.used.length :=
      (List.subperm_of_subset (hnodup.filter _) fun x hx => by simpa using (List.mem_filter.mp hx).2).length_le
    have hsplit := List.length_eq_length_filter_add (l := (List.range (d.used.length + n)).map Nat.succ) fun x => d.used.contains x
    rw [List.length_map, List.length_range] at hsplit
    rw [List.length_take]
    omega
  · obtain ⟨hmem, hfree⟩ := List.mem_filter.mp (List.mem_of_mem_take hx)
    obtain ⟨j, -, rfl⟩ := List.mem_map.mp hmem
    exact ⟨Nat.succ_ne_zero j, by simpa using hfree⟩

section
variable (s : State) (d n : Nat)

theorem takeExtents_spec : ((s.takeExtents d n).1.drive d).used = (s.drive d).used ++ (s.drive d).pick n ∧ (s.takeExtents d n).1.charges = s.charges := by
  have htaken (x : DriveSt) (l : List Nat) : (l.foldl (fun s _ => s.work (flashRoot d) 5 4194304) (s.setDrive d x)).drive d = x ∧
      (l.foldl (fun s _ => s.work (flashRoot d) 5 4194304) (s.setDrive d x)).charges = s.charges := by
    have hwork := deallocate_onlyWorked (s.setDrive d x) d l
    refine ⟨?_, hwork.charges_eq⟩
    unfold State.drive
    rw [hwork.drives_eq]
    exact drive_setDrive_same _ _ _
  obtain ⟨hdrive, hcharges⟩ := htaken _ _
  exact ⟨congrArg DriveSt.used hdrive, hcharges⟩

end

/-! ### The turn of each move (R193, R195, R213 to R215) -/

section
variable {u t : State} {tag : Nat} {q : Request} {e : Seq} (hduty : u.dutyGone 2 = false)
include hduty

/-- A request whose move has started waits for it. -/
def movingNow (t : State) (tag : Nat) (q : Request) : State := t.setReq tag { q with phase := .move }

theorem moveTurn_of_spill (hk : q.kind = 7) (hst : e.st = .active) (h : u.startSpill q.seqId e (some tag) = .ok t) :
    u.moveTurn tag q e = .ok (movingNow t tag q) := by
  unfold State.moveTurn
  simp [hduty, hk, hst, h, movingNow]

theorem moveTurn_of_flush (hk : q.kind = 9) (hst : e.st = .active ∨ e.st = .spilled) (h : u.startFlush q.seqId e (some tag) = .ok t) :
    u.moveTurn tag q e = .ok (movingNow t tag q) := by
  unfold State.moveTurn
  rcases hst with hst | hst <;> simp [hduty, hk, hst, h, movingNow]

theorem moveTurn_of_restore (hk : q.kind = 8) (hst : e.st = .spilled ∨ e.st = .flushed) (h : u.startRestore q.seqId (some (tag, q.gen)) = .ok t) :
    u.moveTurn tag q e = .ok (movingNow t tag q) := by
  unfold State.moveTurn
  rcases hst with hst | hst <;> simp [hduty, hk, hst, h, movingNow]

/-- A move to where its sequence is ends OK with zero pages (R195). -/
theorem moveTurn_of_there (h : q.kind = 7 ∧ e.st = .spilled ∨ q.kind = 9 ∧ e.st = .flushed ∨ q.kind = 8 ∧ e.st = .active)
    (hslot : u.exhausted q.src.keySlot = false) (hsingle : u.mirrored q = false) :
    u.moveTurn tag q e = .ok (u.complete tag q (.ok (leBytes 8 0 ++ [e.st.code]))) := by
  unfold State.moveTurn State.finishWide
  rcases h with ⟨hk, hst⟩ | ⟨hk, hst⟩ | ⟨hk, hst⟩ <;> simp [hduty, hk, hst, hslot, hsingle, SeqState.code]

end

theorem startRestore_ok {s t : State} {i : Nat} {e : Seq} {mover : Option (Nat × Nat)} (he : Map.find s.seqs i = some e) (h : s.startRestore i mover = .ok t) :
    ∃ e', Map.find t.seqs i = some e' ∧ e'.st = .restoring ∧ e'.prior = e.st ∧ e'.mover = mover.map Prod.fst := by
  unfold State.startRestore at h
  rw [he] at h
  dsimp only at h
  split_ifs at h
  split at h
  · cases h
  · obtain rfl := Except.ok.inj h
    exact ⟨_, find_put_same _ _ _, rfl, rfl, rfl⟩

/-- A completion leaves its request's sequence but for its last use, and no frame, byte or charge changes. -/
theorem complete_kept {u : State} {tag : Nat} {q : Request} {e : Seq} (hsrc : q.src.isMirror = false) (hk : q.kind ≠ 11) (he : Map.find u.seqs q.seqId = some e)
    (a : Answer) : Map.find (u.complete tag q a).seqs q.seqId = some { e with lastUse := u.time } ∧ (u.complete tag q a).frames = u.frames ∧
      (u.complete tag q a).charges = u.charges ∧ (u.complete tag q a).mem = u.mem := by
  have hanswer := complete_onlyAnswered (s := u) (tag := tag) (q := q) (a := a) (data := []) hsrc
  refine ⟨?_, hanswer.frames_eq, hanswer.charges_eq, hanswer.mem_eq⟩
  rw [hanswer.seqs_eq]
  change Map.find (seqsUsed u q) q.seqId = _
  unfold seqsUsed
  rw [he]
  dsimp only
  rw [if_neg (by simp [hk]), find_put_same]

section
variable {s u : State} {i : Instr} {r : Req} {tag : Nat} {e : Seq} {q : Request} (h : Turning s i r tag e u q)
include h

theorem turning_duty_eq : u.dutyGone 2 = false := (h.taken.dutyGone_eq 2).trans h.duty

/-- A SWAP_OUT's turn on an active sequence starts its spill (R213, R260). -/
theorem turning_spills (hk : r.kind = 7) (hst : e.st = .active) (hquota : s.quotaFor (tenantOf r.seqId) 2 (spillRaw s e) = true) (harea : 0 < s.spillBlocks)
    (hfree : spillRaw s e ≤ s.spillFree) (hmap : s.host.spillMap.length + (s.privatePages e).length ≤ 16777215)
    (hroom : s.mapRoom (s.privatePages e).length = true) (hgood : s.suspectIn (s.privatePages e) = false) : Runs i s fun t =>
      Map.find t.seqs r.seqId = some (spilling s e (some tag)) ∧ (t.charge (tenantOf r.seqId)).r2 = (s.charge (tenantOf r.seqId)).r2 + spillRaw s e ∧
      (∃ q, Map.find t.reqs tag = some q ∧ q.phase = .move) ∧ t.frames = s.frames ∧ t.mem = s.mem ∧ ∀ k, k ≠ r.seqId → Map.find t.seqs k = Map.find s.seqs k := by
  have hstart : u.startSpill q.seqId e (some tag) = .ok ((spillRead u r.seqId e).setSeq r.seqId (spilling s e (some tag))) := by
    rw [startSpill_eq, h.seqId, turning_duty_eq h, spillRaw_onlyTaken h.taken, quotaFor_onlyTaken h.taken, h.taken.spillBlocks_eq, h.taken.spillFree_eq, h.taken.host_eq,
      h.taken.privatePages_eq, mapRoom_onlyTaken h.taken, h.taken.suspectIn_eq, spilling_onlyTaken h.taken, hquota, hroom, hgood]
    rw [if_neg Bool.false_ne_true, if_neg (by simp), if_neg (by omega), if_neg (by simp), if_neg Bool.false_ne_true]
  have hread := spillRead_onlyWorked u r.seqId e
  refine ⟨_, h.runs _ (moveTurn_of_spill (turning_duty_eq h) (h.kind.trans hk) hst hstart), find_put_same _ _ _, ?_, ⟨_, find_put_same _ _ _, rfl⟩, ?_, ?_, fun k hne => ?_⟩
  · change ((spillRead u r.seqId e).charge _).r2 = _
    unfold State.charge
    rw [hread.charges_eq]
    refine (congrArg Charges.r2 (charge_setCharge_same _ _ _)).trans ?_
    rw [h.taken.charge_eq, spillRaw_onlyTaken h.taken]
    rfl
  · exact hread.frames_eq.trans h.taken.frames_eq
  · exact hread.mem_eq.trans h.taken.mem_eq
  · refine (find_put_ne _ _ hne).trans ?_
    rw [spillRead_seqs, h.taken.seqs_eq]

/-- A FLUSH's turn starts its image on a drive that has the extents free (R214, R235). -/
theorem turning_flushes (hk : r.kind = 9) (hst : e.st = .active ∨ e.st = .spilled) {d : Nat} (hquota : s.quotaFor (tenantOf r.seqId) 3 (flushRaw s e) = true)
    (hdrive : s.driveFor (extentsOf (flushRaw s e)) = some d) (hgood : s.suspectIn e.leaves = false) : Runs i s fun t =>
      ∃ l, Map.find t.seqs r.seqId = some { e with st := .flushing, prior := e.st, reserved := flushRaw s e, mover := some tag, drive := d, extents := l, written := 0, since := s.time } ∧
        l.length = extentsOf (flushRaw s e) ∧ (∀ x ∈ l, x ≠ 0 ∧ x ∉ (s.drive d).used) ∧ (t.drive d).used = (s.drive d).used ++ l ∧
        (t.charge (tenantOf r.seqId)).r3 = (s.charge (tenantOf r.seqId)).r3 + flushRaw s e ∧
        (∃ q, Map.find t.reqs tag = some q ∧ q.phase = .move) ∧ t.frames = s.frames ∧ t.mem = s.mem := by
  have hstart : u.startFlush q.seqId e (some tag) = .ok (flushStarted u r.seqId e (some tag) d) := by
    rw [startFlush_eq, h.seqId, turning_duty_eq h, flushRaw_onlyTaken h.taken, quotaFor_onlyTaken h.taken, h.taken.driveFor_eq, h.taken.suspectIn_eq, hquota, hdrive, hgood]
    rfl
  have hread := flushRead_onlyWorked u r.seqId e d
  have htaken := flushTaken_onlyMoving u r.seqId e d
  have hraw := flushRaw_onlyTaken h.taken e
  obtain ⟨hused, hcharges⟩ := takeExtents_spec (u.chargeBy (tenantOf r.seqId) fun c => { c with r3 := c.r3 + flushRaw u e }) d (extentsOf (flushRaw u e))
  have hextents : (flushTaken u r.seqId e d).2 = (s.drive d).pick (extentsOf (flushRaw s e)) := by
    rw [← h.taken.drive_eq, ← hraw]
    rfl
  obtain ⟨hlength, hfresh⟩ := pick_spec (s.drive d) (extentsOf (flushRaw s e))
  refine ⟨_, h.runs _ (moveTurn_of_flush (turning_duty_eq h) (h.kind.trans hk) hst hstart), (s.drive d).pick (extentsOf (flushRaw s e)), ?_, hlength, hfresh, ?_, ?_,
    ⟨_, find_put_same _ _ _, rfl⟩, ?_, ?_⟩
  · refine (find_put_same _ _ _).trans (congrArg some ?_)
    unfold flushing
    rw [hraw, hextents, hread.time_eq, htaken.time_eq, h.taken.time_eq]
  · change ((flushRead u r.seqId e d).drive d).used = _
    rw [State.drive, hread.drives_eq]
    exact hused.trans (by rw [← hraw, ← h.taken.drive_eq]; rfl)
  · change ((flushRead u r.seqId e d).charge _).r3 = _
    rw [State.charge, hread.charges_eq, show (flushTaken u r.seqId e d).1.charges = _ from hcharges]
    refine (congrArg Charges.r3 (charge_setCharge_same _ _ _)).trans ?_
    rw [h.taken.charge_eq, hraw]
  · exact hread.frames_eq.trans (htaken.frames_eq.trans h.taken.frames_eq)
  · exact hread.mem_eq.trans (htaken.mem_eq.trans h.taken.mem_eq)

/-- A SWAP_IN's turn on a stored sequence whose restore can start (R215). -/
theorem turning_restores (he : Map.find s.seqs r.seqId = some e) (hk : r.kind = 8) (hst : e.st = .spilled ∨ e.st = .flushed) {v : State}
    (hstart : u.startRestore r.seqId (some (tag, q.gen)) = .ok v) : Runs i s fun t =>
      (∃ e', Map.find t.seqs r.seqId = some e' ∧ e'.st = .restoring ∧ e'.prior = e.st ∧ e'.mover = some tag) ∧
        t.frames = v.frames ∧ t.charges = v.charges ∧ ∃ q, Map.find t.reqs tag = some q ∧ q.phase = .move :=
  ⟨_, h.runs _ (moveTurn_of_restore (turning_duty_eq h) (h.kind.trans hk) hst (by rw [h.seqId]; exact hstart)),
    startRestore_ok (by rw [h.taken.seqs_eq]; exact he) hstart, rfl, rfl, _, find_put_same _ _ _, rfl⟩

/-- A move to where its sequence is ends at once (R195). -/
theorem turning_staysThere (he : Map.find s.seqs r.seqId = some e) (hthere : r.kind = 7 ∧ e.st = .spilled ∨ r.kind = 9 ∧ e.st = .flushed ∨ r.kind = 8 ∧ e.st = .active) :
    Runs i s fun t => Map.find t.reqs tag = none ∧ (∃ g, Answered t r.src tag g (.ok (leBytes 8 0 ++ [e.st.code]))) ∧
      Map.find t.seqs r.seqId = some { e with lastUse := s.time } ∧ t.frames = s.frames ∧ t.charges = s.charges ∧ t.mem = s.mem := by
  have hclient : q.src.isMirror = false := h.src ▸ h.client
  have hkind : q.kind ≠ 11 := by rw [h.kind]; omega
  have hturn := moveTurn_of_there (tag := tag) (turning_duty_eq h) (by rw [h.kind]; exact hthere) (by rw [h.src, h.taken.exhausted_eq]; exact h.slot)
    (by rw [mirrored_onlyTaken h.taken]; exact h.single)
  obtain ⟨hseq, hframes, hcharges, hmem⟩ := complete_kept (tag := tag) hclient hkind (by rw [h.seqId, h.taken.seqs_eq]; exact he) (.ok (leBytes 8 0 ++ [e.st.code]))
  refine ⟨_, h.runs _ hturn, (find_complete _ _ _ _ _ _).trans (if_pos rfl), ⟨q.gen, ?_⟩, ?_, hframes.trans h.taken.frames_eq, hcharges.trans h.taken.charges_eq,
    hmem.trans h.taken.mem_eq⟩
  · exact h.src ▸ complete_answered u tag q _ [] hclient
  · rw [← h.seqId, hseq, h.taken.time_eq]

end

/-! ### What refuses a spill, and a turn that changes nothing (R192, R193) -/

section
variable {s : State} {i : Nat} {e : Seq} {mover : Option Nat} (hduty : s.dutyGone 2 = false)
include hduty

theorem startSpill_of_no_quota (h : s.quotaFor (tenantOf i) 2 (spillRaw s e) = false) : s.startSpill i e mover = .error (quotaAnswer 2 (tenantOf i)) := by
  rw [startSpill_eq, if_neg (by simp [hduty]), if_pos (by simp [h])]

variable (hquota : s.quotaFor (tenantOf i) 2 (spillRaw s e) = true)
include hquota

theorem startSpill_of_no_area (h : s.spillBlocks = 0 ∨ s.spillFree < spillRaw s e) : s.startSpill i e mover = .error (.busy 9) := by
  rw [startSpill_eq, if_neg (by simp [hduty]), if_neg (by simp [hquota]), if_pos (h.imp_right .inl)]

variable (harea : 0 < s.spillBlocks) (hfree : spillRaw s e ≤ s.spillFree) (hmap : s.host.spillMap.length + (s.privatePages e).length ≤ 16777215)
include harea hfree hmap

theorem startSpill_of_room : s.startSpill i e mover = if !s.mapRoom (s.privatePages e).length then .error (.busy 8)
    else if s.suspectIn (s.privatePages e) then .error (.busy 0x0B) else .ok ((spillRead s i e).setSeq i (spilling s e mover)) := by
  rw [startSpill_eq, if_neg (by simp [hduty]), if_neg (by simp [hquota]), if_neg (by omega)]

end

/-- SEQUENCE_WIDE_TURN of a request that is still held back, is not held or is not sequence-wide. -/
theorem takeTurn_of_other {s : State} {tag : Nat} (h : ∀ q, Map.find s.reqs tag = some q → q.phase ≠ .held ∨ s.heldBack q = true ∨ q.kind < 4 ∨ 9 < q.kind) :
    s.takeTurn tag = s := by
  unfold State.takeTurn
  split
  · rfl
  · rename_i q hq
    refine if_pos ?_
    rcases h q hq with hphase | hheld | hkind | hkind
    · exact .inl hphase
    · exact .inr (.inr (.inl hheld))
    · exact .inr (.inl (by simp [wideKind]; omega))
    · exact .inr (.inl (by simp [wideKind]; omega))

/-- Settles O30: the turn is the same at admission and at SEQUENCE_WIDE_TURN but for the tag that is taken. That a flush takes the lowest drive with
the extents free is log entry 44, the record of a spill its index log entry 45, and the lanes of a restore log entry 43. -/
theorem movesStartAtTheirTurn : Obligations.MovesStartAtTheirTurn := by
  unfold Obligations.MovesStartAtTheirTurn
  refine ⟨fun s r tag e i turn hcomes he => ?_, fun s i e mover hduty => ?_, fun s tag h => ⟨_, rfl, takeTurn_of_other h⟩⟩
  · dsimp only
    have hturning (hk : r.kind = 7 ∨ r.kind = 8 ∨ r.kind = 9) : ∃ q, (turn = true → Map.find s.reqs tag = some q) ∧ (turn = false → q = admitted s r tag .held) ∧
        Turning s i r tag e (if turn then s else taken s r tag (admitted s r tag .held)) q := by
      rcases hcomes with ⟨rfl, hi, hat⟩ | ⟨rfl, rfl, ⟨q, hq, hsrc, -, hkind, hseq, hphase, -, -, hheld, hsingle⟩, hwide, hduty, hslot, hclient⟩
      · exact ⟨_, by simp, fun _ => rfl, turning_of_atTurn he hk hi hat⟩
      · exact ⟨q, fun _ => hq, by simp, turning_of_held he hk hq hsrc hkind hseq hphase hheld hsingle hwide hduty hslot hclient⟩
    refine ⟨fun hk hst hquota harea hfree hmap hroom hgood => ?_, fun hk hst d hquota hdrive hgood => ?_, fun hk hst g v hturn hadmit hstart => ?_, fun hthere => ?_⟩
    · obtain ⟨q, -, -, h⟩ := hturning (.inl hk)
      have hspills := turning_spills h hk hst hquota harea hfree hmap hroom hgood
      unfold spilling at hspills
      rw [hst] at hspills
      exact hspills
    · obtain ⟨q, -, -, h⟩ := hturning (.inr (.inr hk))
      exact turning_flushes h hk hst hquota hdrive hgood
    · obtain ⟨q, hheld, hadmitted, h⟩ := hturning (.inr (.inl hk))
      have hgen : q.gen = g := by
        cases turn with
        | false => rw [hadmitted rfl, hadmit rfl]
        | true =>
          obtain ⟨p, hp, hgen⟩ := hturn rfl
          rw [Option.some.inj ((hheld rfl).symm.trans hp), hgen]
      exact turning_restores h he hk hst (hgen ▸ hstart)
    · obtain ⟨q, -, -, h⟩ := hturning (by omega)
      exact turning_staysThere h he hthere
  · dsimp only
    refine ⟨startSpill_of_no_quota (hduty 2), startSpill_of_no_area (hduty 2), fun hquota harea hfree hmap hroom => ?_, fun hquota harea hfree hmap hroom hbad => ?_⟩
    · exact (startSpill_of_room (hduty 2) hquota harea hfree hmap).trans (if_pos (by simp [hroom]))
    · exact (startSpill_of_room (hduty 2) hquota harea hfree hmap).trans ((if_neg (by simp [hroom])).trans (if_pos hbad))

end Sys2Proof.Proofs

/-! PROOFS. Drives (O35): what the end of a request leaves of sequences, drives and every object that counts no traffic (the number of time-outs that
withdraws a drive is read after a move has failed), a move that fails, a drive that is withdrawn, and the events of a drive by its state. -/

namespace Sys2Proof.Safety
open Sys2Proof.Machine

/-- The objects in which messages, answers and accesses to the stacks are counted. -/
def trafficCounter (k : Nat) : Bool :=
  decide (k / 256 ∈ [0x2430, 0x2600, 0x2700, 0x2800, 0x2B10, 0x2B11, 0x2B30, 0x2B32, 0x2B33, 0x2B40, 0x2B44, 0x2E30]) || decide (0x3000 ≤ k / 256)

/-- The sequences and the drives stand as before, and so does every object that does not count traffic. -/
def TiersKept (s t : State) : Prop := t.seqs = s.seqs ∧ t.drives = s.drives ∧ ∀ k, trafficCounter k = false → t.obj k = s.obj k

theorem TiersKept.of_eq {s t : State} (hs : t.seqs = s.seqs) (hd : t.drives = s.drives) (hr : t.regs = s.regs) : TiersKept s t :=
  ⟨hs, hd, fun k _ => congrArg (Map.getD · k (objDefault k)) hr⟩

theorem TiersKept.refl (s : State) : TiersKept s s := .of_eq rfl rfl rfl

theorem TiersKept.trans {s t u : State} (h : TiersKept s t) (g : TiersKept t u) : TiersKept s u :=
  ⟨g.1.trans h.1, g.2.1.trans h.2.1, fun k hk => (g.2.2 k hk).trans (h.2.2 k hk)⟩

theorem TiersKept.ite {s a b : State} {c : Prop} [Decidable c] (h : TiersKept s a) (g : TiersKept s b) : TiersKept s (if c then a else b) := by
  split <;> assumption

theorem TiersKept.foldl {α : Type} {f : State → α → State} (h : ∀ s x, TiersKept s (f s x)) (l : List α) (s : State) : TiersKept s (l.foldl f s) :=
  List.foldlRecOn (motive := TiersKept s) l f (.refl s) fun u hu x _ => hu.trans (h u x)

theorem TiersKept.setSched {s t : State} (h : TiersKept s t) (x : Sched) : TiersKept s { t with sched := x } := h.trans (.of_eq rfl rfl rfl)

/-- Every drive is in the state in which it was, for the same reason, and every object that does not count traffic stands. -/
def DrivesStand (s t : State) : Prop :=
  (∀ d, (t.drive d).st = (s.drive d).st ∧ (t.drive d).reason = (s.drive d).reason) ∧ ∀ k, trafficCounter k = false → t.obj k = s.obj k

theorem DrivesStand.of_eq {s t : State} (hd : t.drives = s.drives) (hr : t.regs = s.regs) : DrivesStand s t :=
  ⟨fun d => by unfold State.drive; rw [hd]; exact ⟨rfl, rfl⟩, fun k _ => congrArg (Map.getD · k (objDefault k)) hr⟩

theorem DrivesStand.refl (s : State) : DrivesStand s s := .of_eq rfl rfl

theorem DrivesStand.trans {s t u : State} (h : DrivesStand s t) (g : DrivesStand t u) : DrivesStand s u :=
  ⟨fun d => ⟨(g.1 d).1.trans (h.1 d).1, (g.1 d).2.trans (h.1 d).2⟩, fun k hk => (g.2 k hk).trans (h.2 k hk)⟩

theorem DrivesStand.ite {s a b : State} {c : Prop} [Decidable c] (h : DrivesStand s a) (g : DrivesStand s b) : DrivesStand s (if c then a else b) := by
  split <;> assumption

theorem DrivesStand.foldl {α : Type} {f : State → α → State} (h : ∀ s x, DrivesStand s (f s x)) (l : List α) (s : State) : DrivesStand s (l.foldl f s) :=
  List.foldlRecOn (motive := DrivesStand s) l f (.refl s) fun u hu x _ => hu.trans (h u x)

theorem TiersKept.drivesStand {s t : State} (h : TiersKept s t) : DrivesStand s t :=
  ⟨fun d => by unfold State.drive; rw [h.2.1]; exact ⟨rfl, rfl⟩, h.2.2⟩

/-- Only drives, objects and event sources changed. -/
def OnlyDrives (s t : State) : Prop := t = { s with drives := t.drives, regs := t.regs, gath := t.gath }

theorem OnlyDrives.trans {s t u : State} (h : OnlyDrives s t) (g : OnlyDrives t u) : OnlyDrives s u := Eq.trans g (by rw [h])

end Sys2Proof.Safety

namespace Sys2Proof.Proofs
open Sys2Proof.Machine Sys2Proof.Safety Sys2Proof.Laws

/-! ### What leaves the device leaves sequences and drives (R269, R285, R295, R335) -/

theorem bump_tiersKept (s : State) {k : Nat} (h : trafficCounter k = true) : TiersKept s (s.bump k) :=
  ⟨rfl, rfl, fun j hj => obj_bump_ne s fun e => by rw [e, h] at hj; cases hj⟩

theorem work_tiersKept (s : State) (res c len : Nat) : TiersKept s (s.work res c len) := .of_eq rfl rfl rfl

theorem arrive_tiersKept (s : State) (x : Nat) : TiersKept s (s.arrive x) := .of_eq (arrive_seqs s x) (arrive_drives s x) (arrive_regs s x)

theorem handOver_tiersKept (s : State) (c : Context) : TiersKept s (s.handOver c) := by
  unfold State.handOver
  exact .ite (.ite (bump_tiersKept s (by decide)) (.refl s)) (.of_eq rfl rfl rfl)

theorem reassemble_tiersKept {s t : State} {k : Packet} (h : s.reassemble k = some t) : TiersKept s t := by
  have hcount : TiersKept s (s.bump 0x270008) := bump_tiersKept s (by decide)
  have hopen (l : List Context) : TiersKept s { s with contexts := l } := .of_eq rfl rfl rfl
  have hover (l : List Context) (c : Context) : TiersKept s (State.handOver { s with contexts := l } c) := (hopen l).trans (handOver_tiersKept _ c)
  simp only [State.reassemble] at h
  split at h
  · cases h; exact hcount
  · split at h
    · split at h
      · cases h; exact hcount
      · split_ifs at h <;> cases h
        exacts [hcount, hover _ _, hopen _]
    · split at h
      · cases h
      · split_ifs at h <;> cases h
        exacts [hcount, hover _ _, hopen _]

theorem fetchRecord_tiersKept (s : State) (c : Nat) : TiersKept s (s.fetchRecord c) := by
  unfold State.fetchRecord
  exact .ite (.refl s) ((bump_tiersKept s (by decide)).trans (work_tiersKept _ _ _ _))

theorem acceptClear_tiersKept {s t : State} {k : Packet} (h : s.acceptClear k = some t) : TiersKept s t := by
  simp only [State.acceptClear] at h
  split at h
  · cases h; exact bump_tiersKept s (by decide)
  · split at h
    · split at h <;> cases h
      exact .trans (t := { s with miss := s.miss ++ [k] }) (.of_eq rfl rfl rfl) (.ite (fetchRecord_tiersKept _ _) (.refl _))
    · exact reassemble_tiersKept h

theorem accept_tiersKept {s t : State} {k : Packet} (h : s.accept k = some t) : TiersKept s t := by
  unfold State.accept at h
  split at h
  · exact acceptClear_tiersKept h
  · split at h
    · cases h; exact bump_tiersKept s (by decide)
    · split at h
      · cases h; exact bump_tiersKept s (by decide)
      · obtain ⟨u, hu, rfl⟩ := Option.map_eq_some_iff.mp h
        exact (acceptClear_tiersKept hu).trans (bump_tiersKept u (by decide))

theorem deliverOwn_tiersKept (s : State) (k : Packet) : TiersKept s (s.deliverOwn k) := by
  unfold State.deliverOwn
  refine .ite (bump_tiersKept s (by decide)) ?_
  split
  case h_1 t h => exact accept_tiersKept h
  case h_2 => exact .of_eq rfl rfl rfl

/-- A packet that came in by no port is counted and raises its source. -/
theorem discardNoRoute_tiersKept (s : State) (k : Packet) (w : Work) (answer : Bool) (h : w.inPort = none) :
    TiersKept s (s.discardNoRoute k w answer) := by
  simp only [State.discardNoRoute, State.leaveIngress, h]
  exact (bump_tiersKept s (by decide)).trans (arrive_tiersKept _ _)

theorem spray_tiersKept (s : State) (w : Work) (k : Packet) (h : w.inPort = none) : TiersKept s (s.spray w k) := by
  unfold State.spray
  split
  · exact .of_eq rfl rfl rfl
  · exact .of_eq rfl rfl rfl
  · exact discardNoRoute_tiersKept s k w true h

theorem sourcePacket_tiersKept (s : State) (tenant : Option Nat) (flow : Nat) (k : Packet) : TiersKept s (s.sourcePacket tenant flow k) := by
  have hfull (c : Prop) [Decidable c] : TiersKept s (if c then s.bump 0x280003 else s) := .ite (bump_tiersKept s (by decide)) (.refl s)
  unfold State.sourcePacket
  exact .ite (deliverOwn_tiersKept s k) (.ite (bump_tiersKept s (by decide)) (.ite (discardNoRoute_tiersKept s k _ false rfl)
    (.ite (spray_tiersKept s _ k rfl) (.setSched (.ite (hfull _) (.setSched (hfull _) _)) _))))

theorem sourceMessage_tiersKept (s : State) (kind c dst pol slot msg : Nat) (data : List Nat) (tenant : Option Nat) (flow kindWord : Nat) :
    TiersKept s (s.sourceMessage kind c dst pol slot msg data tenant flow kindWord) := by
  unfold State.sourceMessage
  exact .ite (.refl s) (.foldl (fun u k => sourcePacket_tiersKept u tenant flow k) _ s)

/-! ### A request's answer leaves sequences and drives (R15, R143, R179, R222, R363) -/

theorem ringEntry_tiersKept (s : State) (r : Nat) : TiersKept s (s.ringEntry r) := by
  have hset (g : RingSt) : TiersKept s (s.setRing r g) := .of_eq rfl rfl rfl
  unfold State.ringEntry
  exact .ite ((hset _).trans (arrive_tiersKept _ _)) (hset _)

theorem emit_tiersKept (s : State) (o : Out) : TiersKept s (s.emit o) := by
  unfold State.emit
  split
  · exact .ite ((ringEntry_tiersKept s _).trans (.of_eq rfl rfl rfl)) (.of_eq rfl rfl rfl)
  · exact .of_eq rfl rfl rfl

theorem reply_tiersKept (s : State) (src : Src) (tag gen tenant replyAt : Nat) (data : List Nat) (a : Answer) :
    TiersKept s (s.reply src tag gen tenant replyAt data a) := by
  cases src with
  | fabric => exact (sourceMessage_tiersKept s _ _ _ _ _ _ _ _ _ _).trans (emit_tiersKept _ _)
  | ring => exact (work_tiersKept s _ _ _).trans (emit_tiersKept _ _)
  | mirror => exact .ite (.refl s) (.trans (.of_eq rfl rfl rfl) (sourceMessage_tiersKept _ _ _ _ _ _ _ _ _ _ _))

theorem trafficCounter_statusCounter (kind : Nat) (x : Status) : trafficCounter (statusCounter kind x.code) = true := by
  unfold statusCounter
  split_ifs <;> cases x <;> rfl

theorem trafficCounter_tenantKey (t sub : Nat) : trafficCounter (tenantKey t sub) = true := by
  have hhigh : 0x3000 ≤ tenantKey t sub / 256 := by unfold tenantKey recKey; omega
  simp [trafficCounter, hhigh]

theorem countStatus_tiersKept (s : State) (kind seqId : Nat) (a : Answer) : TiersKept s (s.countStatus kind seqId a) := by
  have hkind : TiersKept s (if 1 ≤ kind ∧ kind ≤ 11 then s.bump (statusCounter kind a.status.code) else s) :=
    .ite (bump_tiersKept s (trafficCounter_statusCounter kind a.status)) (.refl s)
  simp only [State.countStatus]
  generalize (if 1 ≤ kind ∧ kind ≤ 11 then _ else _ : State) = u at hkind ⊢
  have hbusy (k : Nat) (hk : trafficCounter k = true) (c : Prop) [Decidable c] {v : State} (hv : TiersKept u v) :
      TiersKept u (if c then u.bump k else v) := .ite (bump_tiersKept u hk) hv
  refine hkind.trans ?_
  split
  · exact bump_tiersKept u (trafficCounter_tenantKey _ _)
  · exact bump_tiersKept u (by decide)
  · exact hbusy _ rfl _ (hbusy _ rfl _ (hbusy _ rfl _ (hbusy _ rfl _ (hbusy _ rfl _ (.refl u)))))
  · exact .refl u

section
variable (s : State) (tag : Nat) (q : Request) (a : Answer) (data : List Nat)

/-- The end of a request notes its sequence's last use, and changes no other sequence. -/
theorem complete_seqs : (s.complete tag q a data).seqs = seqsUsed s q := by
  rw [complete_eq_closed]
  exact (reply_tiersKept (closed s tag q a) _ _ _ _ _ _ _).1

theorem closed_drivesStand : DrivesStand s (closed s tag q a) := by
  refine ⟨fun _ => ⟨rfl, rfl⟩, fun k hk => ?_⟩
  have hcount := (countStatus_tiersKept s q.kind q.seqId a).2.2 k hk
  unfold closed
  by_cases hm : q.src.isMirror = true
  · simp only [State.obj, hm, if_true]
  · simp only [State.obj, hm]
    exact hcount

theorem complete_drivesStand : DrivesStand s (s.complete tag q a data) := by
  rw [complete_eq_closed]
  exact (closed_drivesStand s tag q a).trans (reply_tiersKept _ _ _ _ _ _ _ _).drivesStand

end

/-! ### References given up count accesses to the stacks (R140, R200, R227) -/

theorem stackAccess_tiersKept (s : State) (c off len : Nat) : TiersKept s (s.stackAccess c off len) := by
  have hwork := stackAccess_onlyWorked s c off len
  exact ⟨hwork.seqs_eq, hwork.drives_eq, fun k hk => hwork.1 k (fun e => by rw [e] at hk; cases hk) fun e => by rw [e] at hk; cases hk⟩

theorem writeStack_tiersKept (s : State) (a : Nat) (bs : List Nat) : TiersKept s (s.writeStack a bs) := .of_eq rfl rfl rfl
theorem setFrames_tiersKept (s : State) (m : Map Frame) : TiersKept s { s with frames := m } := .of_eq rfl rfl rfl
theorem chargeBy_tiersKept (s : State) (t : Nat) (f : Charges → Charges) : TiersKept s (s.chargeBy t f) := .of_eq rfl rfl rfl

theorem dropRef_tiersKept (s : State) (k : Nat) : TiersKept s (s.dropRef k) := by
  have hfree : TiersKept s (s.freeFrame k) := by
    unfold State.freeFrame
    split
    · exact .refl s
    · exact ((writeStack_tiersKept s _ _).trans (setFrames_tiersKept _ _)).trans (chargeBy_tiersKept _ _ _)
  have hcount (f : Frame) (n : Nat) : TiersKept s (s.recount k f n) :=
    ((stackAccess_tiersKept s 4 (k * 65536) 64).trans (setFrames_tiersKept _ _)).trans (writeStack_tiersKept _ _ _)
  have hjournal (u : State) : TiersKept u (u.journal k (-1)) := .ite (.of_eq rfl rfl rfl) (.refl u)
  unfold State.dropRef
  split
  · exact .refl s
  · exact .trans (.ite (.refl s) (.ite hfree (hcount _ _))) (hjournal _)

theorem dropRefs_tiersKept (s : State) (l : List Nat) : TiersKept s (s.dropRefs l) := .foldl dropRef_tiersKept l s

/-! ### A move that fails (R193, R258) -/

theorem setDrive_drivesStand (s : State) {d : Nat} {x : DriveSt} (hst : x.st = (s.drive d).st) (hreason : x.reason = (s.drive d).reason) :
    DrivesStand s (s.setDrive d x) := by
  refine ⟨fun k => ?_, fun _ _ => rfl⟩
  rw [drive_setDrive]
  split
  · rename_i hk
    subst hk
    exact ⟨hst, hreason⟩
  · exact ⟨rfl, rfl⟩

theorem giveExtents_drivesStand (s : State) (d : Nat) (l : List Nat) : DrivesStand s (s.giveExtents d l) := setDrive_drivesStand s rfl rfl

/-- A move that is undone gives extents of its drive back at most. -/
theorem undoMove_drivesStand (s : State) (i : Nat) : DrivesStand s (s.undoMove i) := by
  unfold State.undoMove
  split
  · exact .refl s
  · dsimp only
    split
    · exact .of_eq rfl rfl
    · exact (chargeBy_tiersKept s _ _).drivesStand.trans ((giveExtents_drivesStand _ _ _).trans (.of_eq rfl rfl))
    · exact .trans (.of_eq rfl rfl) (dropRefs_tiersKept _ _).drivesStand
    · exact .refl s

theorem moveFailed_drivesStand (s : State) (i : Nat) : DrivesStand s (s.moveFailed i) := by
  have hundone := undoMove_drivesStand s i
  unfold State.moveFailed
  split
  · exact .refl s
  · refine .ite (.refl s) ?_
    dsimp only
    split
    · exact hundone.trans (.of_eq rfl rfl)
    · split
      · exact hundone.trans (complete_drivesStand _ _ _ _ _)
      · exact hundone

/-- A sequence has a move under way. -/
def underMove (e : Seq) : Bool := decide (e.st = .spilling ∨ e.st = .flushing ∨ e.st = .restoring)

/-- A move that is undone puts its sequence in its prior state, and changes no other. -/
theorem undoMove_seqs {s : State} {i : Nat} {e : Seq} (he : Map.find s.seqs i = some e) (hmove : underMove e = true) :
    (s.undoMove i).seqs = Map.put s.seqs i (undone e) := by
  unfold underMove at hmove
  rcases of_decide_eq_true hmove with hst | hst | hst
  · rw [undoMove_spilling he hst]
    rfl
  · rw [undoMove_flushing he hst]
    rfl
  · unfold State.undoMove undone
    rw [he]
    dsimp only
    rw [hst]
    exact (dropRefs_onlyDropped _ _).seqs_eq

theorem undoMove_of_still {s : State} {i : Nat} (h : ∀ e, Map.find s.seqs i = some e → underMove e = false) : s.undoMove i = s := by
  unfold State.undoMove
  split
  · rfl
  · rename_i e he
    have hstill : ¬ (e.st = .spilling ∨ e.st = .flushing ∨ e.st = .restoring) := of_decide_eq_false (h e he)
    simp only [not_or] at hstill
    dsimp only
    split
    · exact absurd ‹_› hstill.1
    · exact absurd ‹_› hstill.2.1
    · exact absurd ‹_› hstill.2.2
    · rfl

section
variable {s : State} (i : Nat) {k : Nat} {e : Seq}

/-- A move that fails does to the sequences what undoing it does, but for the last use that its request's end notes. -/
theorem find_moveFailed (hk : Map.find (s.undoMove i).seqs k = some e) : ∃ n, Map.find (s.moveFailed i).seqs k = some { e with lastUse := n } := by
  have hsame : Map.find (s.undoMove i).seqs k = some { e with lastUse := e.lastUse } := hk
  unfold State.moveFailed
  split
  · rename_i hnone
    rw [undoMove_of_still fun f hf => by rw [hnone] at hf; cases hf] at hsame
    exact ⟨_, hsame⟩
  · rename_i f hf
    split_ifs with hstill
    · rw [undoMove_of_still fun g hg => by rw [hf] at hg; cases hg; simpa [underMove] using hstill] at hsame
      exact ⟨_, hsame⟩
    · dsimp only
      split
      · exact ⟨_, hsame⟩
      · split
        · rw [complete_seqs]
          exact find_seqsUsed hk _
        · exact ⟨_, hsame⟩

/-- A sequence with no move under way keeps its state when a move fails. -/
theorem find_moveFailed_of_still (hk : Map.find s.seqs k = some e) (hstill : underMove e = false) :
    ∃ n, Map.find (s.moveFailed i).seqs k = some { e with lastUse := n } := by
  refine find_moveFailed i ?_
  by_cases hmove : ∃ f, Map.find s.seqs i = some f ∧ underMove f = true
  · obtain ⟨f, hf, hmove⟩ := hmove
    have hne : k ≠ i := by
      rintro rfl
      rw [hk] at hf
      cases hf
      rw [hstill] at hmove
      cases hmove
    rw [undoMove_seqs hf hmove, find_put_ne _ _ hne, hk]
  · rw [undoMove_of_still fun f hf => by simpa using fun h => hmove ⟨f, hf, h⟩]
    exact hk

/-- The sequence whose move fails is in its prior state. -/
theorem find_moveFailed_of_moving (hk : Map.find s.seqs k = some e) (hmove : underMove e = true) :
    ∃ n, Map.find (s.moveFailed k).seqs k = some { undone e with lastUse := n } :=
  find_moveFailed k (by rw [undoMove_seqs hk hmove, find_put_same])

end

/-- A move that uses a drive is under way. -/
theorem movesOn_spec {s : State} {i d : Nat} (h : s.movesOn i d = true) : ∃ e, Map.find s.seqs i = some e ∧ underMove e = true := by
  unfold State.movesOn at h
  split at h
  · rename_i e he
    simp only [Bool.and_eq_true, decide_eq_true_eq] at h
    exact ⟨e, he, decide_eq_true (h.2.elim (fun h => .inr (.inl h)) fun h => .inr (.inr h.1))⟩
  · cases h

/-! ### The state of a drive (R234, R261, R514) -/

theorem driveSource_real (d : Drive) {k : Nat} (hk : k < 3) : sourceReal (driveSource d k) = true := by
  have hd := d.isLt
  unfold sourceReal driveSource
  rw [if_neg (by omega), if_neg (by omega), if_neg (by omega), if_pos (by omega)]
  exact decide_eq_true (by omega)

theorem source_arrive_drive (s : State) (d : Drive) {k : Nat} (hk : k < 3) :
    (s.arrive (driveSource d k)).source (driveSource d k) = (s.source (driveSource d k)).arrive := by
  rw [source_arrive _ (driveSource_real d hk), if_pos rfl]

theorem arrive_onlyGath (s : State) (x : Nat) : s.arrive x = { s with gath := (s.arrive x).gath } := by
  unfold State.arrive
  split <;> rfl

@[simp] theorem logEvent_drive (s : State) (c a b e f j : Nat) : (s.logEvent c a b e f).drive j = s.drive j := by simp [State.drive]

theorem arrive_onlyDrives (s : State) (x : Nat) : OnlyDrives s (s.arrive x) := Eq.trans (arrive_onlyGath s x) (by rw [arrive_onlyGath])

section
variable (s : State) (d : Drive) (st : DriveState) (reason : Nat)

@[simp] theorem driveState_drive : (s.driveState d st reason).drive d = { s.drive d with st := st, reason := reason } := by
  simp [State.driveState]

theorem driveState_source : (s.driveState d st reason).source (0xF0 + 4 * d) = (s.source (0xF0 + 4 * d)).arrive :=
  source_arrive_drive (s.setDrive d _) d (by decide : 0 < 3)

theorem driveState_only : s.driveState d st reason = { s with drives := (s.driveState d st reason).drives, gath := (s.driveState d st reason).gath } := by
  unfold State.driveState
  rw [arrive_onlyGath]
  rfl

end

/-! ### A drive that is withdrawn (R236, R237) -/

/-- A sequence's image lies on a drive. -/
def ImageOn (s : State) (k d : Nat) : Prop := ∃ e, Map.find s.seqs k = some e ∧ e.st = .flushed ∧ e.drive = d

theorem moveFailed_imageOn {s : State} {k d : Nat} (i : Nat) (h : ImageOn s k d) : ImageOn (s.moveFailed i) k d := by
  obtain ⟨e, he, hst, hdrive⟩ := h
  obtain ⟨n, hn⟩ := find_moveFailed_of_still i he (by simp [underMove, hst])
  exact ⟨_, hn, hst, hdrive⟩

theorem dropWeights_drivesStand (s : State) (b : Nat) : DrivesStand s (s.dropWeights b) := by
  unfold State.dropWeights
  have hshare (u : State) (d : Nat) (l : List Nat) : DrivesStand u (u.setDrive d { u.drive d with weights := l }) := setDrive_drivesStand u rfl rfl
  refine .trans (.foldl (fun u x => ?_) _ s) (.of_eq rfl rfl)
  exact .ite (.of_eq rfl rfl) (.ite ((hshare u _ _).trans (giveExtents_drivesStand _ _ _)) (.refl u))

theorem unloadWeights_drivesStand (s : State) (b : Nat) : DrivesStand s (s.unloadWeights b) := by
  have hset (u : State) (w : Weights) : DrivesStand u (u.setWeight b w) := .of_eq rfl rfl
  have hmeasure (u : State) (place : Nat) (m : Option Meas) : DrivesStand u (u.measure place m) := .of_eq rfl rfl
  unfold State.unloadWeights
  exact .trans (.trans (.ite (dropWeights_drivesStand s b) (.refl s)) (hset _ _)) (.ite (hmeasure _ _ _) (.refl _))

/-- An image on the drive that is lost: every page of it is, and it holds no extents. -/
theorem loseImage_of_flushed {e : Seq} (h : e.st = .flushed) : (e.loseImage e.drive).st = .flushed ∧ (e.loseImage e.drive).extents = [] ∧
    ∀ y ∈ (e.loseImage e.drive).stored, y.2.lost = true := by
  unfold Seq.loseImage
  rw [if_pos ⟨rfl, .inl h⟩]
  refine ⟨h, rfl, fun y hy => ?_⟩
  obtain ⟨x, -, rfl⟩ := List.mem_map.mp hy
  rfl

section
variable (s : State) (d reason : Nat)

/-- A drive's withdrawal is noted, in its state and in the log. -/
def withdrawalNoted : State := (s.driveState d .withdrawn reason).logEvent 11 3 d 0 reason

/-- A drive that is being withdrawn: the moves that write to it have failed, and the weight sets with a share on it are unloaded. -/
def withdrawing : State :=
  (s.drive d).weights.dedup.foldl State.unloadWeights
    (((Map.keep (withdrawalNoted s d reason).seqs fun _ e => decide (e.st = .flushing) && decide (e.drive = d)).map Prod.fst).foldl State.moveFailed
      (withdrawalNoted s d reason))

theorem withdraw_of_absent (h : (s.drive d).present = false) : s.withdraw d reason = s := by
  unfold State.withdraw
  exact if_pos (by simp [h])

theorem withdraw_of_present (h : (s.drive d).present = true) : s.withdraw d reason =
    { (withdrawing s d reason).setDrive d { (withdrawing s d reason).drive d with images := [], weights := [], total := 0, used := [], cleared := [] } with
      seqs := Map.each (withdrawing s d reason).seqs fun _ e => e.loseImage d } := by
  unfold State.withdraw
  exact if_neg (by simp [h])

theorem withdrawing_drive : ((withdrawing s d reason).drive d).st = .withdrawn ∧ ((withdrawing s d reason).drive d).reason = reason := by
  have hstand : DrivesStand (withdrawalNoted s d reason) (withdrawing s d reason) :=
    (DrivesStand.foldl moveFailed_drivesStand _ _).trans (.foldl unloadWeights_drivesStand _ _)
  obtain ⟨hst, hreason⟩ := hstand.1 d
  have hdrive : (withdrawalNoted s d reason).drive d = { s.drive d with st := .withdrawn, reason := reason } := by
    simp [withdrawalNoted, State.driveState]
  rw [hdrive] at hst hreason
  exact ⟨hst, hreason⟩

theorem withdrawing_imageOn {k : Nat} (h : ImageOn s k d) : ImageOn (withdrawing s d reason) k d := by
  unfold withdrawing
  refine List.foldlRecOn (motive := fun u => ImageOn u k d) _ _ ?_ fun u hu b _ => ?_
  · refine List.foldlRecOn (motive := fun u => ImageOn u k d) _ _ ?_ fun u hu i _ => moveFailed_imageOn i hu
    unfold ImageOn at h ⊢
    simpa [withdrawalNoted, State.driveState] using h
  · unfold ImageOn
    rw [(unloadWeights_sharesFreed u b).seqs_eq]
    exact hu

/-- A drive that was withdrawn for a reason holds nothing, and the images that it held are lost (R236, R237). -/
def Withdrawn (s : State) (d reason : Nat) (t : State) : Prop :=
  (t.drive d).st = .withdrawn ∧ (t.drive d).reason = reason ∧ (t.drive d).images = [] ∧ (t.drive d).weights = [] ∧ (t.drive d).total = 0 ∧
    (t.drive d).used = [] ∧ ∀ k, ImageOn s k d → ∃ e, Map.find t.seqs k = some e ∧ e.st = .flushed ∧ e.extents = [] ∧ ∀ y ∈ e.stored, y.2.lost = true

theorem withdraw_withdrawn (h : (s.drive d).present = true) : Withdrawn s d reason (s.withdraw d reason) := by
  obtain ⟨hst, hreason⟩ := withdrawing_drive s d reason
  have hdrive : (s.withdraw d reason).drive d =
      { (withdrawing s d reason).drive d with images := [], weights := [], total := 0, used := [], cleared := [] } := by
    rw [withdraw_of_present s d reason h]
    exact drive_setDrive_same _ _ _
  unfold Withdrawn
  rw [hdrive]
  refine ⟨hst, hreason, rfl, rfl, rfl, rfl, fun k hk => ?_⟩
  obtain ⟨e, he, hflushed, rfl⟩ := withdrawing_imageOn s d reason hk
  have hlost := find_each (withdrawing s e.drive reason).seqs (fun _ f => f.loseImage e.drive) k
  rw [he] at hlost
  rw [withdraw_of_present s _ reason h]
  exact ⟨_, hlost, loseImage_of_flushed hflushed⟩

end

/-! ### What a drive's health log and its Writes' end show (R237, R261) -/

section
variable (s : State) (d : Drive) (r : NvmeReply)

theorem health_of_none (h : r.health = none) : s.health d r = s := by
  unfold State.health
  rw [h]

/-- What a drive's health log shows, before its source is raised. -/
def healthNoted (errors wear : Nat) : State :=
  (s.setDrive d { s.drive d with wear := wear % 256 }).setObj (recKey 0x2910 d 8) (min errors (2 ^ 32 - 1))

theorem health_of_some {errors wear : Nat} (h : r.health = some (errors, wear)) : s.health d r =
    if s.obj (recKey 0x2910 d 8) < min errors (2 ^ 32 - 1) then (healthNoted s d errors wear).arrive (driveSource d 2) else healthNoted s d errors wear := by
  unfold State.health
  rw [h]
  rfl

theorem healthNoted_drive (errors wear : Nat) : (healthNoted s d errors wear).drive d = { s.drive d with wear := wear % 256 } :=
  drive_setDrive_same s d _

/-- A health log changes its drive's wear, its errors as counted, and by a rise of them its drive's source. -/
theorem health_spec {errors wear : Nat} (h : r.health = some (errors, wear)) :
    (s.health d r).drive d = { s.drive d with wear := wear % 256 } ∧ (s.health d r).obj (recKey 0x2910 d 8) = min errors (2 ^ 32 - 1) ∧
      (s.health d r).source (0xF0 + 4 * d + 2) = (if s.obj (recKey 0x2910 d 8) < min errors (2 ^ 32 - 1)
        then (s.source (0xF0 + 4 * d + 2)).arrive else s.source (0xF0 + 4 * d + 2)) ∧ OnlyDrives s (s.health d r) := by
  have hdrive := healthNoted_drive s d errors wear
  have hobj : (healthNoted s d errors wear).obj (recKey 0x2910 d 8) = min errors (2 ^ 32 - 1) := obj_setObj_same _ _ _
  have honly : OnlyDrives s (healthNoted s d errors wear) := rfl
  rw [health_of_some s d r h]
  split
  · have hgath : OnlyDrives (healthNoted s d errors wear) ((healthNoted s d errors wear).arrive (driveSource d 2)) := arrive_onlyDrives _ _
    exact ⟨(arrive_drive _ _ _).trans hdrive, (arrive_obj _ _ _).trans hobj, source_arrive_drive (healthNoted s d errors wear) d (by decide : 2 < 3),
      honly.trans hgath⟩
  · exact ⟨hdrive, hobj, rfl, honly⟩

/-- Whatever a health log shows, of its drive only the wear changes. -/
theorem health_kept : (s.health d r).drive d = { s.drive d with wear := ((s.health d r).drive d).wear } ∧ OnlyDrives s (s.health d r) := by
  cases h : r.health with
  | none =>
    rw [health_of_none s d r h]
    exact ⟨rfl, rfl⟩
  | some x =>
    obtain ⟨errors, wear⟩ := x
    obtain ⟨hdrive, -, -, honly⟩ := health_spec s d r h
    exact ⟨by rw [hdrive], honly⟩

variable {s} {d} {cmd : Nat}

theorem imageWritten_of_flushing {e : Seq} (he : Map.find s.seqs cmd = some e) (hst : e.st = .flushing) (hdrive : e.drive = d) :
    Map.find (s.imageWritten cmd d).seqs cmd =
        some (if e.written = 0 ∧ (s.drive d).cache = true then { e with written := 1, since := s.time } else { e with written := 2 }) ∧
      (s.imageWritten cmd d).out = (if e.written = 0 ∧ (s.drive d).cache = true then [.nvme d 0] else []) ++ s.out ∧
      s.imageWritten cmd d = { s with seqs := (s.imageWritten cmd d).seqs, out := (s.imageWritten cmd d).out } := by
  unfold State.imageWritten
  rw [he]
  dsimp only
  rw [if_neg (by simp [hst, hdrive])]
  split
  · exact ⟨find_put_same _ _ _, rfl, rfl⟩
  · exact ⟨find_put_same _ _ _, rfl, rfl⟩

theorem imageWritten_of_other (h : ∀ e, Map.find s.seqs cmd = some e → e.st ≠ .flushing ∨ e.drive ≠ d) : s.imageWritten cmd d = s := by
  unfold State.imageWritten
  split
  · rfl
  · exact if_pos (h _ ‹_›)

end

/-! ### NVME_COMPLETION and NVME_COMMAND_TIMEOUT (R234, R236, R237, R258) -/

section
variable {s : State} {d : Drive} (cmd : Nat) (ok : Bool) (r : NvmeReply)

theorem nvmeDone_of_ready (h : (s.drive d).st = .ready) : s.nvmeDone d cmd ok r =
    if ok then (s.health d r).imageWritten cmd d else if (s.health d r).movesOn cmd d then (s.health d r).moveFailed cmd else s.health d r := by
  unfold State.nvmeDone
  rw [h]

theorem movesOn_of_none (h : Map.find s.seqs cmd = none) : s.movesOn cmd d = false := by
  unfold State.movesOn
  rw [h]

/-- The end of a command of no sequence shows the drive's health alone. -/
theorem nvmeDone_of_idle (hst : (s.drive d).st = .ready) (hnone : Map.find s.seqs cmd = none) : s.nvmeDone d cmd ok r = s.health d r := by
  have hseqs : Map.find (s.health d r).seqs cmd = none := by rw [(health_kept s d r).2]; exact hnone
  rw [nvmeDone_of_ready cmd ok r hst, imageWritten_of_other fun e he => by rw [hseqs] at he; cases he]
  simp [movesOn_of_none cmd hseqs]

theorem nvmeDone_of_plain (hst : (s.drive d).st = .ready) (h : r.health = none) : s.nvmeDone d cmd ok r =
    if ok then s.imageWritten cmd d else if s.movesOn cmd d then s.moveFailed cmd else s := by
  rw [nvmeDone_of_ready cmd ok r hst, health_of_none s d r h]

/-- A drive that answers its initialisation shows its link first. -/
def linkShown (s : State) (d : Drive) (r : NvmeReply) : State := s.setDrive d { s.drive d with link := r.link % 256 }

/-- A drive that is taken into use: its extents are the LBAs by 1 024, extent 0 left out (R235). -/
def driveSized (s : State) (d : Drive) (r : NvmeReply) : State :=
  (linkShown s d r).setDrive d { (linkShown s d r).drive d with total := r.blocks / 1024 - 1, used := [], cleared := [], cache := r.cache }

theorem nvmeDone_of_starting (h : (s.drive d).st = .absent ∨ (s.drive d).st = .initialising) : s.nvmeDone d cmd ok r =
    if !ok then linkShown s d r else if r.refusal ≠ 0 then (linkShown s d r).driveState d .refused r.refusal
    else ((driveSized s d r).driveState d .ready 0).health d r := by
  unfold State.nvmeDone
  rcases h with h | h <;> rw [h] <;> rfl

theorem nvmeDone_of_out (h : (s.drive d).st = .refused ∨ (s.drive d).st = .withdrawn ∨ (s.drive d).st = .offline) : s.nvmeDone d cmd ok r = s := by
  unfold State.nvmeDone
  rcases h with h | h | h <;> rw [h]

end

section
variable {s : State} {d : Drive} {cmd : Nat}

theorem movesOn_congr {t : State} (h : t.seqs = s.seqs) (i k : Nat) : t.movesOn i k = s.movesOn i k := by
  unfold State.movesOn
  rw [h]

/-- The commands of a move are not early once they went out the command timeout ago. -/
theorem early_eq_false (h : s.movesOn cmd d = true → ∀ e, Map.find s.seqs cmd = some e → s.obj 0x292001 ≤ s.since e.since) : s.early cmd d = false := by
  unfold State.early
  cases hmove : s.movesOn cmd d with
  | false => rfl
  | true =>
    obtain ⟨e, he, -⟩ := movesOn_spec hmove
    rw [he]
    simpa using h hmove e he

/-- A command of a drive is aborted and counted (R236). -/
def timedOut (s : State) (d : Drive) : State :=
  let u := ((s.setDrive d { s.drive d with timeouts := (s.drive d).timeouts + 1 }).bump (recKey 0x2910 d 7)).arrive (driveSource d 1)
  { u with out := .nvme d 8 :: u.out }.work (flashRoot d) 0 64

/-- The move that a command belonged to has failed with it. -/
def moveTimedOut (s : State) (d : Drive) (cmd : Nat) : State :=
  if (timedOut s d).movesOn cmd d then (timedOut s d).moveFailed cmd else timedOut s d

theorem nvmeTimeout_of_still (h : (s.drive d).st ≠ .ready ∨ s.early cmd d = true) : s.nvmeTimeout d cmd = s := if_pos h

theorem nvmeTimeout_of_late (hst : (s.drive d).st = .ready) (hlate : s.early cmd d = false) : s.nvmeTimeout d cmd =
    if (s.drive d).timeouts + 1 ≥ (moveTimedOut s d cmd).obj 0x292002 then (moveTimedOut s d cmd).withdraw d 7 else moveTimedOut s d cmd :=
  if_neg (by simp [hst, hlate])

theorem timedOut_drive : (timedOut s d).drive d = { s.drive d with timeouts := (s.drive d).timeouts + 1 } :=
  (arrive_drive _ _ _).trans (drive_setDrive_same s d _)

theorem timedOut_seqs : (timedOut s d).seqs = s.seqs := arrive_seqs _ _

theorem timedOut_obj_ne {k : Nat} (h : k ≠ recKey 0x2910 d 7) : (timedOut s d).obj k = s.obj k := (arrive_obj _ _ _).trans (obj_bump_ne _ h)

/-- Timed-out commands are counted in a 32-bit object of their drive's record (2910h.07). -/
theorem objMax_timeouts : ∀ d : Drive, objMax (recKey 0x2910 d 7) = 2 ^ 32 - 1 := by decide

theorem timedOut_counts : (timedOut s d).obj (recKey 0x2910 d 7) = min (s.obj (recKey 0x2910 d 7) + 1) (2 ^ 32 - 1) :=
  (arrive_obj _ _ _).trans (obj_bump _ (objMax_timeouts d))

theorem timedOut_source : (timedOut s d).source (0xF0 + 4 * d + 1) = (s.source (0xF0 + 4 * d + 1)).arrive :=
  source_arrive_drive (State.bump (s.setDrive d _) _) d (by decide : 1 < 3)

theorem timedOut_out : (timedOut s d).out = .nvme d 8 :: s.out := congrArg (_ :: ·) (arrive_out _ _)

theorem timedOut_only : timedOut s d = { s with drives := (timedOut s d).drives, regs := (timedOut s d).regs, gath := (timedOut s d).gath,
                                                out := (timedOut s d).out, sched := (timedOut s d).sched } := by
  unfold timedOut
  rw [arrive_onlyGath]
  rfl

/-- The number of time-outs that withdraws a drive is no object of a drive's record. -/
theorem moveTimedOut_limit : (moveTimedOut s d cmd).obj 0x292002 = s.obj 0x292002 := by
  have hlimit : (timedOut s d).obj 0x292002 = s.obj 0x292002 := timedOut_obj_ne (by have := d.isLt; unfold recKey; omega)
  unfold moveTimedOut
  split
  · exact ((moveFailed_drivesStand _ _).2 _ (by decide)).trans hlimit
  · exact hlimit

theorem moveTimedOut_st : ((moveTimedOut s d cmd).drive d).st = (s.drive d).st := by
  have hst : ((timedOut s d).drive d).st = (s.drive d).st := by rw [timedOut_drive]
  unfold moveTimedOut
  split
  · exact ((moveFailed_drivesStand _ _).1 d).1.trans hst
  · exact hst

theorem moveTimedOut_imageOn {k : Nat} (h : ImageOn s k d) : ImageOn (moveTimedOut s d cmd) k d := by
  have himage : ImageOn (timedOut s d) k d := by
    unfold ImageOn
    rw [timedOut_seqs]
    exact h
  unfold moveTimedOut
  split
  · exact moveFailed_imageOn cmd himage
  · exact himage

/-- A time-out that brings a drive to the set number withdraws it with reason 7. -/
theorem nvmeTimeout_withdrawn (hst : (s.drive d).st = .ready) (hlate : s.early cmd d = false) (hlimit : s.obj 0x292002 ≤ (s.drive d).timeouts + 1) :
    Withdrawn s d 7 (s.nvmeTimeout d cmd) := by
  have hpresent : ((moveTimedOut s d cmd).drive d).present = true := by simp [DriveSt.present, moveTimedOut_st, hst]
  obtain ⟨hstate, hreason, himages, hweights, htotal, hused, hlost⟩ := withdraw_withdrawn (moveTimedOut s d cmd) d 7 hpresent
  rw [nvmeTimeout_of_late hst hlate, if_pos (by rw [moveTimedOut_limit]; exact hlimit)]
  exact ⟨hstate, hreason, himages, hweights, htotal, hused, fun k hk => hlost k (moveTimedOut_imageOn hk)⟩

/-- A time-out that does not, of a command of no move, is counted alone. -/
theorem nvmeTimeout_counted (hst : (s.drive d).st = .ready) (hmove : s.movesOn cmd d = false) (hlimit : (s.drive d).timeouts + 1 < s.obj 0x292002) :
    s.nvmeTimeout d cmd = timedOut s d := by
  have hlate : s.early cmd d = false := by simp [State.early, hmove]
  have hmoved : moveTimedOut s d cmd = timedOut s d := if_neg (by simp [movesOn_congr timedOut_seqs, hmove])
  rw [nvmeTimeout_of_late hst hlate, if_neg (by rw [moveTimedOut_limit]; omega), hmoved]

end

/-! ### The controls of a drive's record (R261) -/

section
variable {s : State} {d : Drive}

theorem driveOffline_of_held (h : s.dutyDown 2 = true ∨ (s.drive d).images ≠ [] ∨ (s.drive d).weights ≠ [] ∨ (s.drive d).st = .absent) :
    (s.driveOffline d).getD s = s := by
  unfold State.driveOffline State.dutyTry
  rcases h with hduty | hheld
  · rw [if_pos hduty]
    rfl
  · split
    · rfl
    · exact congrArg (Option.getD · s) (if_pos hheld)

theorem driveOffline_of_free (hduty : s.dutyDown 2 = false) (himages : (s.drive d).images = []) (hweights : (s.drive d).weights = [])
    (hst : (s.drive d).st ≠ .absent) : (s.driveOffline d).getD s = s.driveState d .offline (s.drive d).reason := by
  simp [State.driveOffline, State.dutyTry, hduty, himages, hweights, hst]

theorem driveReinit_of_other (h : s.dutyDown 2 = true ∨ ((s.drive d).st ≠ .withdrawn ∧ (s.drive d).st ≠ .offline)) : (s.driveReinit d).getD s = s := by
  unfold State.driveReinit State.dutyTry
  rcases h with hduty | hother
  · rw [if_pos hduty]
    rfl
  · split
    · rfl
    · exact congrArg (Option.getD · s) (if_neg (not_or.mpr hother))

theorem driveReinit_of_out (hduty : s.dutyDown 2 = false) (hst : (s.drive d).st = .withdrawn ∨ (s.drive d).st = .offline) :
    (s.driveReinit d).getD s = (s.setDrive d { s.drive d with timeouts := 0 }).driveState d .initialising 0 := by
  simp [State.driveReinit, State.dutyTry, hduty, hst]

end

/-! ### The obligation -/

/-- Why a drive is refused, in the order of R234. -/
theorem refusal_cases (r : NvmeReply) : (r.controller = false → r.refusal = 1) ∧ (r.controller = true → r.nsid = false → r.refusal = 3) ∧
    (r.controller = true → r.nsid = true → r.data ≠ 4096 ∨ r.meta_ ≠ 0 → r.refusal = 2) ∧
    (r.controller = true → r.nsid = true → r.data = 4096 → r.meta_ = 0 → r.refusal = if 64 * 10 ^ 12 < r.blocks * 4096 then 4 else 0) := by
  unfold NvmeReply.refusal
  refine ⟨fun hc => ?_, fun hc hn => ?_, fun hc hn hformat => ?_, fun hc hn hdata hmeta => ?_⟩
  · simp [hc]
  · simp [hc, hn]
  · rw [if_neg (by simp [hc]), if_neg (by simp [hn]), if_pos hformat]
  · simp [hc, hn, hdata, hmeta]

section
variable {s : State} {d : Drive} {r : NvmeReply} {cmd : Nat}

/-- A drive that passes its initialisation is ready with its extents, whatever its health log shows beside (R234, R235). -/
theorem nvmeDone_accepted (hst : (s.drive d).st = .absent ∨ (s.drive d).st = .initialising) (hgood : r.refusal = 0) :
    (s.nvmeDone d cmd true r).drive d =
      { s.drive d with st := .ready, reason := 0, link := r.link % 256, total := r.blocks / 1024 - 1, used := [], cleared := [], cache := r.cache,
                       wear := ((s.nvmeDone d cmd true r).drive d).wear } ∧
    OnlyDrives s (s.nvmeDone d cmd true r) ∧
    (r.health = none → s.nvmeDone d cmd true r = (driveSized s d r).driveState d .ready 0) := by
  have hdone : s.nvmeDone d cmd true r = ((driveSized s d r).driveState d .ready 0).health d r := by
    rw [nvmeDone_of_starting cmd true r hst, if_neg (by simp), if_neg (by simp [hgood])]
  have hready : OnlyDrives s ((driveSized s d r).driveState d .ready 0) :=
    OnlyDrives.trans (t := driveSized s d r) rfl (arrive_onlyDrives _ _)
  obtain ⟨hdrive, honly⟩ := health_kept ((driveSized s d r).driveState d .ready 0) d r
  rw [hdone]
  refine ⟨?_, hready.trans honly, health_of_none _ d r⟩
  rw [hdrive]
  simp [driveSized, linkShown]

/-- A drive that does not pass is refused with the reason. -/
theorem nvmeDone_refused (hst : (s.drive d).st = .absent ∨ (s.drive d).st = .initialising) (hbad : r.refusal ≠ 0) :
    s.nvmeDone d cmd true r = (linkShown s d r).driveState d .refused r.refusal := by
  rw [nvmeDone_of_starting cmd true r hst, if_neg (by simp), if_pos hbad]

end

/-- Settles O35: NVME_COMPLETION by the state of its drive, a time-out by whether it reaches the set number, the three withdrawals by one lemma, and
the controls of the drive's record. That extent 0 is left out as the drive's first 1 024 LBAs, that a completion of an absent drive is the end of its
initialisation, and which operation aborts a command are readings of log entry 47. -/
theorem drivesComeAndGo : Obligations.DrivesComeAndGo := by
  unfold Obligations.DrivesComeAndGo
  intro s d x fired
  refine ⟨fun cmd r hst => ⟨fun hgood => ⟨_, rfl, ?_⟩, fun hbad => ⟨_, rfl, ?_⟩, ⟨_, rfl, ?_⟩, ⟨_, rfl, ?_⟩⟩, refusal_cases,
    fun habsent hinit => ⟨_, rfl, if_neg (by simp [x, habsent, hinit])⟩, fun cmd r errors wear ok hst hnone hhealth => ⟨_, rfl, ?_⟩,
    fun cmd r hst hhealth => ?_, fun cmd ok r hst => ⟨_, rfl, nvmeDone_of_out cmd ok r hst⟩, fun cmd hst hearly => ⟨_, rfl, ?_⟩,
    fun cmd hst hlimit hmove => ⟨_, rfl, ?_⟩, fun i reason hst hi => ?_, fun i hready hinit hi => ?_,
    fun hduty himages hweights hst => ⟨_, rfl, ?_⟩, fun h => ⟨_, rfl, driveOffline_of_held h⟩, fun hduty hst => ⟨_, rfl, ?_⟩,
    fun h => ⟨_, rfl, driveReinit_of_other h⟩⟩
  · obtain ⟨hdrive, honly, hplain⟩ := nvmeDone_accepted (cmd := cmd) hst hgood
    refine ⟨hdrive, fun hhealth => ?_, honly⟩
    rw [hplain hhealth]
    refine ⟨driveState_source _ d _ _, ?_, driveState_only _ d _ _⟩
    rw [driveState_drive]
    simp [driveSized, linkShown, x]
  · rw [nvmeDone_refused hst hbad]
    refine ⟨?_, driveState_source _ d _ _, driveState_only _ d _ _⟩
    rw [driveState_drive]
    simp [linkShown, x]
  · rw [nvmeDone_of_starting cmd false r hst]
    exact ⟨drive_setDrive_same s d _, rfl⟩
  · rw [show s.driveInitTimeout d = s.driveState d .refused 5 from if_pos hst]
    exact ⟨driveState_drive s d _ _, driveState_source s d _ _, driveState_only s d _ _⟩
  · obtain ⟨hdrive, hobj, hsource, honly⟩ := health_spec s d r hhealth
    rw [nvmeDone_of_idle cmd ok r hst hnone]
    exact ⟨hdrive, hobj, hsource, honly⟩
  · have hdone (ok : Bool) := nvmeDone_of_plain cmd ok r hst hhealth
    refine ⟨fun e he hflushing hdrive => ⟨_, rfl, ?_⟩, fun hother => ⟨_, rfl, ?_⟩, fun hmove => ⟨_, rfl, ?_⟩, fun hmove => ⟨_, rfl, ?_⟩⟩
    · rw [hdone]
      exact imageWritten_of_flushing he hflushing hdrive
    · exact (hdone true).trans (imageWritten_of_other hother)
    · rw [hdone, if_neg (by simp), if_neg (by simp [hmove])]
    · obtain ⟨e, he, hunder⟩ := movesOn_spec hmove
      obtain ⟨n, hn⟩ := find_moveFailed_of_moving he hunder
      rw [hdone, if_neg (by simp), if_pos hmove]
      exact ⟨e, _, he, hn, rfl⟩
  · obtain ⟨e, hmove, he, hsince⟩ := hearly
    exact nvmeTimeout_of_still (.inr (by simp [State.early, hmove, he, hsince]))
  · rw [nvmeTimeout_counted hst hmove hlimit]
    exact ⟨timedOut_drive, timedOut_out, timedOut_counts, timedOut_source, timedOut_only⟩
  · have hpresent : (s.drive d).present = true := decide_eq_true hst
    suffices hw : ∃ t, exec i s = .next t ∧ Withdrawn s d reason t by
      obtain ⟨t, ht, hstate, hreason, himages, hweights, htotal, hused, hlost⟩ := hw
      exact ⟨t, ht, hstate, hreason, himages, hweights, htotal, hused, fun k e he hflushed hdrive => hlost k ⟨e, he, hflushed, hdrive⟩⟩
    rcases hi with ⟨rfl, rfl⟩ | ⟨rfl, rfl⟩ | ⟨⟨cmd, rfl, hready, hlate, hlimit⟩, rfl⟩
    · exact ⟨_, rfl, withdraw_withdrawn s d 6 hpresent⟩
    · exact ⟨_, rfl, withdraw_withdrawn s d 8 hpresent⟩
    · exact ⟨_, rfl, nvmeTimeout_withdrawn hready (early_eq_false hlate) hlimit⟩
  · have habsent : (s.drive d).present = false := decide_eq_false (not_or.mpr ⟨hready, hinit⟩)
    rcases hi with rfl | rfl | ⟨cmd, rfl⟩
    · exact ⟨_, rfl, withdraw_of_absent s d 6 habsent⟩
    · exact ⟨_, rfl, withdraw_of_absent s d 8 habsent⟩
    · exact ⟨_, rfl, nvmeTimeout_of_still (.inl hready)⟩
  · rw [driveOffline_of_free hduty himages hweights hst]
    exact ⟨driveState_drive s d _ _, driveState_source s d _ _, driveState_only s d _ _⟩
  · rw [driveReinit_of_out hduty hst]
    refine ⟨?_, driveState_source _ d _ _, driveState_only _ d _ _⟩
    rw [driveState_drive]
    simp [x]

end Sys2Proof.Proofs

/-! PROOFS. The state after reset (O59), and the schedulers (O42): a weighted group whose last visited class is none of its own. -/

namespace Sys2Proof.Proofs
open Sys2Proof.Machine Sys2Proof.Safety Sys2Proof.Laws

/-! ### Reset (R459) -/

/-- Settles O59: every keyed list of the reset state is empty, so that each record reads as its own default. What those defaults hold is log
entries 3 to 8 and 10. -/
theorem resetStandsAtItsDefaults : Obligations.ResetStandsAtItsDefaults := by
  unfold Obligations.ResetStandsAtItsDefaults
  have hmem : MemWf State.reset := ⟨.nil, fun _ h => nomatch h⟩
  exact ⟨fun _ => rfl, rfl, rfl, rfl, rfl, rfl, hmem, fun _ => rfl, fun _ => rfl, fun _ => rfl, fun _ => ⟨rfl, rfl⟩, fun _ => rfl, fun _ => rfl,
    fun _ => rfl, fun _ => ⟨rfl, rfl, rfl⟩, rfl, rfl, rfl, rfl, fun _ => rfl, rfl, rfl, fun _ => rfl⟩

/-! ### Deficit round robin (R333) -/

/-- A device whose weighted group at flash root A last visited class 8, with one byte of work queued in class 3. -/
def strayVisit : State := { sched := { queues := [(resClass 13 3, [{ len := 1 }])], visit := [(13, 8)] } }

/-- The head of class 3 is ready, no strict class's is, and every weighted class has a weight. -/
theorem strayVisit_ready : (∀ c, c < 3 → (strayVisit.countHolds 13).readyHead 13 c = none) ∧ ((strayVisit.countHolds 13).readyHead 13 3).isSome = true ∧
    ∀ c, 3 ≤ c → c < 8 → 1 ≤ strayVisit.classWeight 13 c := by
  refine ⟨fun c hc => ?_, by decide +kernel, by decide +kernel⟩
  interval_cases c <;> rfl

/-- The round goes on from class 9, never comes to classes 3 to 7, and ends with nothing sent. -/
theorem strayVisit_out : (strayVisit.schedule 13).out = [] := by decide +kernel

/-- Refutes O42: nothing bounds the class that `visit` names. After class 8 the round robin takes classes 9, 10 and so on, so that class 3, whose
head is ready and whose weight is 8, is never visited, where the statement wants a weighted class served. -/
theorem not_schedulersServeReadyHeadsInOrder : ¬ Obligations.SchedulersServeReadyHeadsInOrder := by
  unfold Obligations.SchedulersServeReadyHeadsInOrder
  intro h
  obtain ⟨hstrict, hready, hweights⟩ := strayVisit_ready
  obtain ⟨-, hserve⟩ := h.1 strayVisit (.flash false)
  obtain ⟨-, -, -, hweighted⟩ := hserve (.inl (by decide))
  obtain ⟨t, ht, c, head, v, -, -, -, -, -, -, -, hsent⟩ := hweighted hstrict ⟨3, le_rfl, by decide, hready⟩ hweights
  obtain ⟨-, -, -, -, -, -, hwork, hpacket, -⟩ := hsent
  obtain rfl : strayVisit.schedule 13 = t := Host.Outcome.next.inj ht
  cases hpkt : head.w.pkt with
  | none =>
    have hout := hwork hpkt
    rw [strayVisit_out] at hout
    cases hout
  | some k =>
    obtain ⟨⟨l, m, hout⟩, -⟩ := hpacket k hpkt
    rw [strayVisit_out] at hout
    simp at hout

end Sys2Proof.Proofs

/-! PROOFS. The receipt of packets (O37): what link control and returned units leave of the ports, the tests of a packet in their order, the hop that
is chosen, and a context that opens or runs out. -/

namespace Sys2Proof.Safety
open Sys2Proof.Machine

/-- Only ports and outputs changed. -/
def OnlyPorts (s t : State) : Prop := t = { s with ports := t.ports, out := t.out }

theorem OnlyPorts.refl (s : State) : OnlyPorts s s := rfl

theorem OnlyPorts.trans {s t u : State} (h : OnlyPorts s t) (g : OnlyPorts t u) : OnlyPorts s u := Eq.trans g (by rw [h])

theorem OnlyPorts.obj_eq {s t : State} (h : OnlyPorts s t) (k : Nat) : t.obj k = s.obj k := by rw [h]; rfl

/-- Only ports, counters, event sources and outputs changed: nothing of a packet is taken. -/
def OnlyNoticed (s t : State) : Prop := t = { s with ports := t.ports, regs := t.regs, gath := t.gath, out := t.out }

theorem OnlyNoticed.trans {s t u : State} (h : OnlyNoticed s t) (g : OnlyNoticed t u) : OnlyNoticed s u := Eq.trans g (by rw [h])

theorem OnlyPorts.noticed {s t : State} (h : OnlyPorts s t) : OnlyNoticed s t := by
  unfold OnlyNoticed
  rw [h]

/-- A port but for the link-control frames that it has sent or keeps, and the units of which it has told its neighbour (R275, R281). -/
def SameButControl (x y : PortSt) : Prop := y = { x with returned := y.returned, ctl := y.ctl, ctlSent := y.ctlSent }

theorem SameButControl.refl (x : PortSt) : SameButControl x x := rfl

theorem SameButControl.trans {x y z : PortSt} (h : SameButControl x y) (g : SameButControl y z) : SameButControl x z := Eq.trans g (by rw [h])

end Sys2Proof.Safety

namespace Sys2Proof.Proofs
open Sys2Proof.Machine Sys2Proof.Safety Sys2Proof.Laws

/-! ### Link control and returned units (R275, R281) -/

theorem nth_setNth_same (l : List Nat) (i v : Nat) : nth (setNth l i v) i = v := by
  unfold nth setNth
  split
  · rename_i h
    simp [h]
  · rename_i h
    have hlen : (l ++ List.replicate (i - l.length) 0).length = i := by simp; omega
    rw [List.getD_eq_getElem?_getD, List.getElem?_append_right (by omega), hlen]
    simp

section
variable (s : State) (n : Nat)

theorem sendControl_onlyPorts (subtype : Nat) (payload : List Nat) : OnlyPorts s (s.sendControl n subtype payload) := by
  unfold State.sendControl
  dsimp only
  split <;> rfl

theorem sendControl_port (subtype : Nat) (payload : List Nat) (m : Nat) : SameButControl (s.port m) ((s.sendControl n subtype payload).port m) := by
  have hset (x : PortSt) (hx : SameButControl (s.port n) x) : SameButControl (s.port m) ((s.setPort n x).port m) := by
    rw [port_setPort]
    split
    · rename_i h
      rw [h]
      exact hx
    · rfl
  unfold State.sendControl
  dsimp only
  split
  · exact hset _ rfl
  · exact hset _ rfl

theorem setPort_onlyPorts (x : PortSt) : OnlyPorts s (s.setPort n x) := rfl

theorem sendCredit_onlyPorts : OnlyPorts s (s.sendCredit n) := (setPort_onlyPorts s n _).trans (sendControl_onlyPorts _ _ _ _)

theorem sendCredit_port (m : Nat) : SameButControl (s.port m) ((s.sendCredit n).port m) := by
  refine SameButControl.trans ?_ (sendControl_port _ n _ _ m)
  rw [port_setPort]
  split
  · rename_i h
    rw [h]
    rfl
  · rfl

/-- A port that returns units grants them again. -/
def regranted (x : PortSt) (c len : Nat) : PortSt := { x with rxGranted := setNth x.rxGranted c ((nth x.rxGranted c + needUnits len) % 2 ^ 32) }

/-- The returned units are granted again, and a CREDIT says so at once or a later one does. -/
theorem returnUnits_cases (c len : Nat) : ∃ r, s.returnUnits n c len = s.setPort n { regranted (s.port n) c len with returned := r } ∨
    s.returnUnits n c len = (s.setPort n { regranted (s.port n) c len with returned := r }).sendCredit n := by
  unfold State.returnUnits
  dsimp only
  split
  · exact ⟨_, .inr rfl⟩
  · exact ⟨_, .inl rfl⟩

theorem returnUnits_onlyPorts (c len : Nat) : OnlyPorts s (s.returnUnits n c len) := by
  obtain ⟨r, h | h⟩ := returnUnits_cases s n c len
  · rw [h]
    exact setPort_onlyPorts s n _
  · rw [h]
    exact (setPort_onlyPorts s n _).trans (sendCredit_onlyPorts _ _)

theorem returnUnits_port (c len m : Nat) :
    SameButControl (if m = n then regranted (s.port n) c len else s.port m) ((s.returnUnits n c len).port m) := by
  have hset (r : List Nat) : SameButControl (if m = n then regranted (s.port n) c len else s.port m)
      ((s.setPort n { regranted (s.port n) c len with returned := r }).port m) := by
    rw [port_setPort]
    split <;> rfl
  obtain ⟨r, h | h⟩ := returnUnits_cases s n c len
  · rw [h]
    exact hset r
  · rw [h]
    exact (hset r).trans (sendCredit_port _ n m)

/-- No packet waits for a hop: none is taken through R286 again. -/
theorem respray_of_none (h : s.sched.waiting = []) : s.respray = s := by
  unfold State.respray
  rw [h]
  dsimp only [List.foldl]
  rw [← h]

end

/-! ### The tests of a packet (R265, R267, R280, R285) -/

section
variable (s : State) (n : Nat) (first cut : Bool) (k : Packet)

/-- The port that takes a packet: a 400GMII frame that begins is not lost (R265). -/
def framed : State := if first then s.setPort n { s.port n with rxLost := false } else s

/-- The state in which a packet of an ACTIVE port is judged: it is counted, and one that passes its check is proof of the neighbour (R279). -/
def judged : State := (if k.ok then (framed s n first).proof n else framed s n first).bump (portKey n 0xD)

/-- The packet has taken its class's units (R280). -/
def tookUnits : State :=
  (judged s n first k).setPort n { (judged s n first k).port n with
    rxConsumed := setNth ((framed s n first).port n).rxConsumed k.cls ((nth ((framed s n first).port n).rxConsumed k.cls + needUnits k.len) % 2 ^ 32) }

/-- A state in which a packet is tested: the part is as before but for the count of packets and the packet's own port. -/
structure Tested (u : State) : Prop where
  eq : u = { s with ports := u.ports, regs := u.regs }
  port : ∀ m, u.port m = { s.port m with rxLost := (u.port m).rxLost, lastRx := (u.port m).lastRx, rxConsumed := (u.port m).rxConsumed }
  obj : ∀ j, j ≠ portKey n 0xD → u.obj j = s.obj j

theorem framed_tested : Tested s n (framed s n first) := by
  unfold framed
  split
  · refine ⟨rfl, fun m => ?_, fun j _ => rfl⟩
    rw [port_setPort]
    split
    · rename_i h
      rw [h]
    · rfl
  · exact ⟨rfl, fun m => rfl, fun j _ => rfl⟩

variable {s n} in
theorem Tested.setPort {u : State} (h : Tested s n u) {y : PortSt} (hy : y = { u.port n with rxLost := y.rxLost, lastRx := y.lastRx, rxConsumed := y.rxConsumed }) :
    Tested s n (u.setPort n y) := by
  refine ⟨by rw [h.eq]; rfl, fun m => ?_, h.obj⟩
  rw [port_setPort]
  split
  · rename_i hm
    subst hm
    rw [hy, h.port m]
  · exact h.port m

theorem judged_tested : Tested s n (judged s n first k) := by
  have hproof : Tested s n (if k.ok then (framed s n first).proof n else framed s n first) := by
    split
    · exact (framed_tested s n first).setPort rfl
    · exact framed_tested s n first
  unfold judged
  exact ⟨by rw [hproof.eq]; rfl, hproof.port, fun j hj => (obj_bump_ne _ hj).trans (hproof.obj j hj)⟩

theorem tookUnits_tested : Tested s n (tookUnits s n first k) := (judged_tested s n first k).setPort rfl

theorem framed_rxConsumed : ((framed s n first).port n).rxConsumed = (s.port n).rxConsumed := by
  unfold framed
  split
  · rw [port_setPort_same]
  · rfl

theorem judged_rxConsumed : ((judged s n first k).port n).rxConsumed = (s.port n).rxConsumed := by
  have hframed := framed_rxConsumed s n first
  unfold judged
  rw [bump_port]
  split
  · rw [State.proof, port_setPort_same]
    exact hframed
  · exact hframed

theorem tookUnits_rxConsumed : ((tookUnits s n first k).port n).rxConsumed =
    setNth (s.port n).rxConsumed k.cls ((nth (s.port n).rxConsumed k.cls + needUnits k.len) % 2 ^ 32) := by
  rw [tookUnits, port_setPort_same, framed_rxConsumed]

/-- The tests of a packet in their order. -/
theorem receivePacket_tests : s.receivePacket n first cut k =
    if ((framed s n first).port n).st ≠ .active ∨ ((framed s n first).port n).rxLost then framed s n first
    else if k.ok && (decide (k.version ≠ 1) || decide (k.ptype ≠ 0)) then judged s n first k
    else if gap (nth ((framed s n first).port n).rxGranted k.cls) (nth ((framed s n first).port n).rxConsumed k.cls) < needUnits k.len then
      (judged s n first k).discardAtPort n
    else if !k.ok then (tookUnits s n first k).badPacket n cut k
    else if (tookUnits s n first k).me = 0 then (tookUnits s n first k).returnUnits n k.cls k.len
    else if k.dst = (tookUnits s n first k).me then (tookUnits s n first k).deliverPacket n k
    else (tookUnits s n first k).forwardPacket n k := rfl

variable {s n first} in
theorem receivePacket_of_deaf (h : (s.port n).st ≠ .active ∨ first = false ∧ (s.port n).rxLost = true) : s.receivePacket n first cut k = framed s n first := by
  rw [receivePacket_tests, if_pos]
  rcases h with hst | ⟨rfl, hlost⟩
  · exact .inl (by rw [(framed_tested s n first).port]; exact hst)
  · exact .inr hlost

variable {s n first k} in
/-- A data packet of an ACTIVE port and of a node with an identity: the credit first, then the check, then its destination. -/
theorem receivePacket_eq (hactive : (s.port n).st = .active) (hframe : first = true ∨ (s.port n).rxLost = false) (hversion : k.version = 1)
    (htype : k.ptype = 0) (hme : s.me ≠ 0) : s.receivePacket n first cut k =
      if gap (nth (s.port n).rxGranted k.cls) (nth (s.port n).rxConsumed k.cls) < needUnits k.len then (judged s n first k).discardAtPort n
      else if !k.ok then (tookUnits s n first k).badPacket n cut k
      else if k.dst = s.me then (tookUnits s n first k).deliverPacket n k else (tookUnits s n first k).forwardPacket n k := by
  have hport := (framed_tested s n first).port n
  have hst : ((framed s n first).port n).st = .active := (congrArg PortSt.st hport :).trans hactive
  have hgranted : ((framed s n first).port n).rxGranted = (s.port n).rxGranted := (congrArg PortSt.rxGranted hport :)
  have hlost : ((framed s n first).port n).rxLost = false := by
    unfold framed
    split
    · rw [port_setPort_same]
    · rename_i h
      exact hframe.resolve_left h
  have hsame : (tookUnits s n first k).me = s.me := (tookUnits_tested s n first k).obj _ (by unfold portKey recKey; omega)
  rw [receivePacket_tests, hst, hlost, hgranted, framed_rxConsumed, hsame, hversion, htype, if_neg (by decide), if_neg (by simp), if_neg hme]

end

/-! ### Packets that are discarded (R265, R267, R272, R285) -/

theorem Tested.noticed {s u : State} {n : Nat} (h : Tested s n u) : OnlyNoticed s u := by
  unfold OnlyNoticed
  rw [h.eq]

theorem bump_noticed (s : State) (k : Nat) : OnlyNoticed s (s.bump k) := rfl

theorem arrive_noticed (s : State) (x : Nat) : OnlyNoticed s (s.arrive x) := by
  unfold State.arrive
  split <;> rfl

/-- What reassembly, the schedulers, memory, sequences and requests hold stands. -/
theorem OnlyNoticed.quiet {s t : State} (h : OnlyNoticed s t) :
    t.contexts = s.contexts ∧ t.sched.queues = s.sched.queues ∧ t.miss = s.miss ∧ t.mem = s.mem ∧ t.seqs = s.seqs ∧ t.reqs = s.reqs := by
  rw [h]
  exact ⟨rfl, rfl, rfl, rfl, rfl, rfl⟩

section
variable (s : State) (n : Nat)

theorem discardAtPort_noticed : OnlyNoticed s (s.discardAtPort n) := (bump_noticed s _).trans (arrive_noticed _ _)

theorem objMax_discards : ∀ n : Port, objMax (portKey n 0xA) = 2 ^ 32 - 1 := by decide

/-- A discard is counted at the port. -/
theorem discardAtPort_counts (n : Port) : (s.discardAtPort n).obj (portKey n 0xA) = min (s.obj (portKey n 0xA) + 1) (2 ^ 32 - 1) :=
  (arrive_obj _ _ _).trans (obj_bump s (objMax_discards n))

theorem discardAtPort_port (m : Nat) : (s.discardAtPort n).port m = s.port m := arrive_port _ _ _

variable (cut : Bool) (k : Packet)

theorem cutShort_onlyPorts : OnlyPorts s (s.cutShort n k) := by
  unfold State.cutShort
  split <;> rfl

/-- A packet that is cut short has taken units of the port that it left by, and nothing else of any. -/
theorem cutShort_port (m : Nat) : ∃ l, (s.cutShort n k).port m = { s.port m with consumed := l } := by
  unfold State.cutShort
  split
  · rename_i p _
    by_cases hm : m = p
    · subst hm
      exact ⟨_, getD_put_same _ _ _ _⟩
    · exact ⟨_, getD_put_ne _ _ _ hm⟩
  · exact ⟨_, rfl⟩

/-- A packet that fails its check: its units are returned, and the rest of its frame is lost (R265, R267; log entry 53). -/
def afterBad : State :=
  ((s.discardAtPort n).returnUnits n k.cls k.len).setPort n { ((s.discardAtPort n).returnUnits n k.cls k.len).port n with rxLost := true }

theorem afterBad_noticed : OnlyNoticed s (afterBad s n k) :=
  (discardAtPort_noticed s n).trans ((returnUnits_onlyPorts _ n _ _).noticed.trans (setPort_onlyPorts _ n _).noticed)

theorem afterBad_port : SameButControl { regranted (s.port n) k.cls k.len with rxLost := true } ((afterBad s n k).port n) := by
  have hreturned := returnUnits_port (s.discardAtPort n) n k.cls k.len n
  rw [if_pos rfl, discardAtPort_port] at hreturned
  rw [afterBad, port_setPort_same, hreturned]
  rfl

theorem badPacket_cases : s.badPacket n cut k = afterBad s n k ∨ s.badPacket n cut k = (afterBad s n k).cutShort n k := by
  unfold State.badPacket
  dsimp only
  split
  · exact .inr rfl
  · exact .inl rfl

theorem badPacket_noticed : OnlyNoticed s (s.badPacket n cut k) := by
  rcases badPacket_cases s n cut k with h | h
  · rw [h]
    exact afterBad_noticed s n k
  · rw [h]
    exact (afterBad_noticed s n k).trans (cutShort_onlyPorts _ n k).noticed

theorem badPacket_port : ((s.badPacket n cut k).port n).rxConsumed = (s.port n).rxConsumed ∧
    nth ((s.badPacket n cut k).port n).rxGranted k.cls = (nth (s.port n).rxGranted k.cls + needUnits k.len) % 2 ^ 32 ∧
    ((s.badPacket n cut k).port n).rxLost = true := by
  have hafter : ((afterBad s n k).port n).rxConsumed = (s.port n).rxConsumed ∧
      nth ((afterBad s n k).port n).rxGranted k.cls = (nth (s.port n).rxGranted k.cls + needUnits k.len) % 2 ^ 32 ∧ ((afterBad s n k).port n).rxLost = true := by
    rw [afterBad_port]
    exact ⟨rfl, nth_setNth_same _ _ _, rfl⟩
  rcases badPacket_cases s n cut k with h | h
  · rw [h]
    exact hafter
  · obtain ⟨l, hcut⟩ := cutShort_port (afterBad s n k) n k n
    rw [h, hcut]
    exact hafter

theorem afterBad_counts (n : Port) : (afterBad s n k).obj (portKey n 0xA) = min (s.obj (portKey n 0xA) + 1) (2 ^ 32 - 1) :=
  ((returnUnits_onlyPorts (s.discardAtPort n) n k.cls k.len).obj_eq _).trans (discardAtPort_counts s n)

theorem badPacket_counts (n : Port) : (s.badPacket n cut k).obj (portKey n 0xA) = min (s.obj (portKey n 0xA) + 1) (2 ^ 32 - 1) := by
  rcases badPacket_cases s n cut k with h | h
  · rw [h]
    exact afterBad_counts s k n
  · rw [h, (cutShort_onlyPorts _ _ k).obj_eq]
    exact afterBad_counts s k n

end

/-! ### Packets to forward (R272, R285, R286) -/

section
variable {s : State} (n : Nat) {k : Packet}

theorem forwardPacket_of_foreign (h : k.dst = 0 ∨ k.dst = linkNode ∨ domainOf k.dst ≠ domainOf s.me) :
    s.forwardPacket n k = (s.bump 0x260009).returnUnits n k.cls k.len := if_pos h

variable (hhere : ¬ (k.dst = 0 ∨ k.dst = linkNode ∨ domainOf k.dst ≠ domainOf s.me))
include hhere

theorem forwardPacket_of_no_route (h : s.routeEntry k.dst % 16 = 15) :
    s.forwardPacket n k = ((s.bump 0x260007).arrive 0x015).returnUnits n k.cls k.len := (if_neg hhere).trans (if_pos h)

theorem forwardPacket_of_last_hop (h : s.routeEntry k.dst % 16 ≠ 15) (hhop : k.hop = 0) :
    s.forwardPacket n k = ((s.bump 0x260008).arrive 0x015).returnUnits n k.cls k.len := (if_neg hhere).trans ((if_neg h).trans (if_pos hhop))

theorem forwardPacket_of_hop {m : Nat} (h : s.routeEntry k.dst % 16 ≠ 15) (hhop : k.hop ≠ 0) (hgo : s.chooseHop { k with hop := k.hop - 1 } (some n) = .go m) :
    s.forwardPacket n k = s.enqueue m k.cls { len := k.len + 40, pkt := some { k with hop := k.hop - 1 }, inPort := some n } := by
  refine (if_neg hhere).trans ((if_neg h).trans ((if_neg hhop).trans ?_))
  unfold State.spray
  dsimp only
  rw [hgo]
  rfl

end

/-- The best hop is one of those offered, and its units cover the packet. -/
theorem bestHop_some {s : State} {k : Packet} {hops : List Nat} {m : Nat} (h : s.bestHop k hops = some m) :
    m ∈ hops ∧ needUnits k.len ≤ (s.port m).avail k.cls := by
  have hall : ∀ m, s.bestHop k hops = some m → m ∈ hops ∧ needUnits k.len ≤ (s.port m).avail k.cls := by
    unfold State.bestHop
    refine List.foldlRecOn (motive := fun acc => ∀ m, acc = some m → m ∈ hops ∧ needUnits k.len ≤ (s.port m).avail k.cls) hops _ ?_ ?_
    · intro m hm
      cases hm
    · intro acc hacc x hx m hm
      split_ifs at hm with hfew
      · exact hacc m hm
      · have hnew (h : some x = some m) : m ∈ hops ∧ needUnits k.len ≤ (s.port m).avail k.cls := by
          cases h
          exact ⟨hx, not_lt.mp hfew⟩
        split at hm
        · split_ifs at hm
          · exact hnew hm
          · exact hacc _ hm
        · exact hnew hm
  exact hall m h

/-- The hop that R286 chooses is eligible and has the units. -/
theorem chooseHop_go {s : State} {k : Packet} {inPort : Option Nat} {m : Nat} (h : s.chooseHop k inPort = .go m) :
    s.eligibleHop k inPort m = true ∧ needUnits k.len ≤ (s.port m).avail k.cls := by
  have hpick {l hops : List Nat} (hl : l = hops.filter (s.eligibleHop k inPort)) (h : (match s.bestHop k l with | some b => Hop.go b | none => .wait) = .go m) :
      s.eligibleHop k inPort m = true ∧ needUnits k.len ≤ (s.port m).avail k.cls := by
    split at h
    · rename_i b hb
      cases h
      obtain ⟨hmem, hunits⟩ := bestHop_some hb
      rw [hl] at hmem
      exact ⟨(List.mem_filter.mp hmem).2, hunits⟩
    · cases h
  unfold State.chooseHop at h
  dsimp only at h
  split at h
  · cases h
  · exact hpick rfl h
  · exact hpick rfl h

theorem eligibleHop_spec {s : State} {k : Packet} {n m : Nat} (h : s.eligibleHop k (some n) m = true) :
    (s.port m).st = .active ∧ m ≠ n ∧ Map.has s.downMarks (downKey m k.dst) = false := by
  simp only [State.eligibleHop, Bool.and_eq_true, decide_eq_true_eq, Bool.not_eq_true'] at h
  obtain ⟨⟨⟨⟨-, hst⟩, hport⟩, hmark⟩, -⟩ := h
  exact ⟨hst, fun e => hport (congrArg some e), hmark⟩

/-- The tests of a packet change nothing that the choice of its hop reads. -/
theorem Tested.chooseHop {s u : State} {n : Nat} (h : Tested s n u) (k : Packet) (inPort : Option Nat) : u.chooseHop k inPort = s.chooseHop k inPort := by
  have hroute : u.routeEntry = s.routeEntry := by rw [h.eq]; rfl
  have havail (m c : Nat) : (u.port m).avail c = (s.port m).avail c := by rw [h.port]; rfl
  have heligible : u.eligibleHop = s.eligibleHop := by
    funext k inPort m
    have hst : (u.port m).st = (s.port m).st := by rw [h.port]
    have hlink : u.pairLink m = s.pairLink m := by rw [h.eq]; rfl
    have hdown : u.downMarks = s.downMarks := by rw [h.eq]
    have hpair : u.pair = s.pair := by rw [h.eq]
    unfold State.eligibleHop
    rw [hst, hlink, hdown, hpair]
  have hbest : u.bestHop = s.bestHop := by
    funext k hops
    unfold State.bestHop
    simp only [havail]
  unfold State.chooseHop
  rw [hroute, heligible, hbest]

/-! ### Packets for this device (R285, R295, R299) -/

/-- The context that the first packet of a message opens. -/
def opened (s : State) (k : Packet) : Context :=
  { source := k.src, msg := k.msg, total := k.total, kind := k.kind, kindWord := k.kindWord, sel := k.srcSel, ranges := [(k.off, k.len)],
    parts := [(k.off, k.data)], opened := s.time }

/-- Reassembly opens a context for the first packet of a message that it does not complete. -/
theorem reassemble_opens {s : State} {k : Packet} (hnone : s.contexts = []) (hkey : k.key = 0) (hlen : 0 < k.len) (htotal : k.total ≤ 1048576)
    (hpart : k.off + k.len < k.total) : s.reassemble k = some { s with contexts := [opened s k] } := by
  have hreserved : s.reserved = 0 := by rw [State.reserved, hnone]; rfl
  have hrange : addRange [] k.off k.len = [(k.off, k.len)] := by
    show [(k.off, k.off + k.len - k.off)] = _
    rw [Nat.add_sub_cancel_left]
  have hsum : rangeTotal [(k.off, k.len)] = k.len := Nat.add_zero _
  have hput : Map.put ([] : Map (List Nat)) k.off k.data = [(k.off, k.data)] := rfl
  unfold State.reassemble
  dsimp only
  rw [if_neg (by omega), hnone, List.find?_nil]
  dsimp only
  rw [hreserved, if_neg (by simp; omega), hrange, if_neg (by simp; omega), hsum, if_neg (by omega), hput, hkey]
  rfl

/-- A part of a clear message of kind 1 for this node's hub opens a context, and its units return. -/
theorem deliverPacket_opens {s : State} {n : Nat} {k : Packet} (hsel : k.polSel = 15) (hkind : k.kind = 1) (hclear : k.enc = false) (hnone : s.contexts = [])
    (hlen : 0 < k.len) (htotal : k.total ≤ 1048576) (hpart : k.off + k.len < k.total) :
    s.deliverPacket n k = ({ s with contexts := [opened s k] }).returnUnits n k.cls k.len := by
  have hkind5 : k.kind ≠ 5 := by rw [hkind]; decide
  have haccept : s.accept k = some { s with contexts := [opened s k] } := by
    unfold State.accept
    rw [hclear]
    refine (if_pos rfl).trans ?_
    unfold State.acceptClear
    dsimp only
    rw [if_neg (fun h => hkind5 h.1), if_neg (fun h => hkind5 h.1)]
    exact reassemble_opens hnone rfl hlen htotal hpart
  unfold State.deliverPacket
  rw [if_neg (by simp [hsel, hkind]), haccept, hnone]
  exact if_neg (Nat.not_lt_zero _)

/-! ### Held packets are offered again (R296) -/

/-- No port holds a packet. -/
def NoneHeld (s : State) : Prop := ∀ n, (s.port n).held = []

theorem noneHeld_of_mem {s : State} (h : ∀ e ∈ s.ports, e.2.held = []) : NoneHeld s := by
  intro n
  unfold State.port Map.getD
  cases hfind : Map.find s.ports n with
  | none => rfl
  | some x => exact h _ (mem_of_find hfind)

/-- With no packet held, offering a port's changes nothing but how the ports are listed. -/
theorem offerHeld_of_none {s : State} (h : NoneHeld s) (test : State → Packet → Bool) (n : Nat) :
    OnlyPorts s (s.offerHeld test n) ∧ NoneHeld (s.offerHeld test n) := by
  have hempty : s.offerHeld test n = s.setPort n { s.port n with held := [] } := by
    unfold State.offerHeld
    rw [h n]
    rfl
  rw [hempty]
  refine ⟨setPort_onlyPorts s n _, fun m => ?_⟩
  rw [port_setPort]
  split
  · rfl
  · exact h m

theorem retryHeld_of_none {s : State} (h : NoneHeld s) : OnlyPorts s s.retryHeld := by
  have hfold (test : State → Packet → Bool) (l : List Nat) {u : State} (hu : OnlyPorts s u ∧ NoneHeld u) :
      OnlyPorts s (l.foldl (fun s n => s.offerHeld test n) u) ∧ NoneHeld (l.foldl (fun s n => s.offerHeld test n) u) :=
    List.foldlRecOn (motive := fun v => OnlyPorts s v ∧ NoneHeld v) l _ hu fun v hv n _ =>
      ⟨hv.1.trans (offerHeld_of_none hv.2 test n).1, (offerHeld_of_none hv.2 test n).2⟩
  exact (hfold _ _ (hfold _ _ ⟨.refl s, h⟩)).1

section
variable {s : State} {source msg : Nat}

/-- A context of a message whose time has run out (R299). -/
def runOut (s : State) (source msg : Nat) (c : Context) : Prop := c.source = source ∧ c.msg = msg ∧ s.obj 0x270006 ≤ s.since c.opened

theorem runOut_iff (c : Context) :
    (decide (c.source = source) && decide (c.msg = msg) && decide (s.since c.opened ≥ s.obj 0x270006)) = true ↔ runOut s source msg c := by
  simp [runOut, and_assoc]

theorem reassemblyTimeout_of_none (h : ∀ c ∈ s.contexts, ¬ runOut s source msg c) : s.reassemblyTimeout source msg = s := by
  refine if_neg fun hany => ?_
  obtain ⟨c, hc, hmine⟩ := List.any_eq_true.mp hany
  exact h c hc ((runOut_iff c).mp hmine)

/-- A message that runs out: its contexts go, and it is counted and raised. -/
theorem reassemblyTimeout_of_some (h : ∃ c ∈ s.contexts, runOut s source msg c) (hheld : NoneHeld s) :
    ∃ l, (∀ c, c ∈ l ↔ c ∈ s.contexts ∧ ¬ runOut s source msg c) ∧
      OnlyPorts (({ s with contexts := l }.bump 0x270007).arrive 0x014) (s.reassemblyTimeout source msg) := by
  obtain ⟨c, hc, hmine⟩ := h
  refine ⟨s.contexts.filter fun c => !(decide (c.source = source) && decide (c.msg = msg) && decide (s.since c.opened ≥ s.obj 0x270006)), fun c => ?_, ?_⟩
  · rw [List.mem_filter, Bool.not_eq_true', ← Bool.not_eq_true, runOut_iff]
  · unfold State.reassemblyTimeout
    dsimp only
    rw [if_pos (List.any_eq_true.mpr ⟨c, hc, (runOut_iff c).mpr hmine⟩)]
    exact retryHeld_of_none fun n => (congrArg PortSt.held (arrive_port _ _ n)).trans (hheld n)

end

/-! ### A packet's receipt, outcome by outcome -/

theorem domainOf_me_of_tested {s u : State} {n : Nat} (h : Tested s n u) : u.me = s.me := h.obj _ (by unfold portKey recKey; omega)

theorem objMax_fabric : objMax 0x260007 = 2 ^ 32 - 1 ∧ objMax 0x260008 = 2 ^ 32 - 1 ∧ objMax 0x260009 = 2 ^ 32 - 1 ∧ objMax 0x26000B = 2 ^ 32 - 1 ∧
    objMax 0x270007 = 2 ^ 32 - 1 := by decide

section
variable {s : State} {n : Port} {first cut : Bool} {k : Packet}

/-- An object of the fabric is not the packet count of a port. -/
theorem fabric_ne_received {key : Nat} (h : key / 256 = 0x2600) (n : Port) : key ≠ portKey n 0xD := by
  unfold portKey recKey
  omega

/-- A packet that is counted as undeliverable and whose units return. -/
theorem undeliverable {t : State} {key : Nat} (hkey : key / 256 = 0x2600) (hmax : objMax key = 2 ^ 32 - 1)
    (h : ∃ u, (u = (tookUnits s n first k).bump key ∨ u = ((tookUnits s n first k).bump key).arrive 0x015) ∧ t = u.returnUnits n k.cls k.len) :
    t.obj key = min (s.obj key + 1) (2 ^ 32 - 1) ∧ OnlyNoticed s t := by
  have htested := tookUnits_tested s n first k
  have hbump := (obj_bump (tookUnits s n first k) hmax).trans (by rw [htested.obj key (fabric_ne_received hkey n)])
  obtain ⟨u, rfl | rfl, rfl⟩ := h
  · exact ⟨((returnUnits_onlyPorts _ n k.cls k.len).obj_eq key).trans hbump,
      htested.noticed.trans ((bump_noticed _ _).trans (returnUnits_onlyPorts _ n _ _).noticed)⟩
  · exact ⟨((returnUnits_onlyPorts _ n k.cls k.len).obj_eq key).trans ((arrive_obj _ _ _).trans hbump),
      htested.noticed.trans ((bump_noticed _ _).trans ((arrive_noticed _ _).trans (returnUnits_onlyPorts _ n _ _).noticed))⟩

end

section
variable {s : State} {n : Port} {first cut : Bool} {k : Packet} (hactive : (s.port n).st = .active) (hframe : first = true ∨ (s.port n).rxLost = false)
  (hversion : k.version = 1) (htype : k.ptype = 0) (hme : s.me ≠ 0)
include hactive hframe hversion htype hme

theorem receive_without_room (h : gap (nth (s.port n).rxGranted k.cls) (nth (s.port n).rxConsumed k.cls) < needUnits k.len) :
    s.receivePacket n first cut k = (judged s n first k).discardAtPort n := by
  rw [receivePacket_eq cut hactive hframe hversion htype hme, if_pos h]

variable (hroom : needUnits k.len ≤ gap (nth (s.port n).rxGranted k.cls) (nth (s.port n).rxConsumed k.cls))
include hroom

theorem receive_bad (h : k.ok = false) : s.receivePacket n first cut k = (tookUnits s n first k).badPacket n cut k := by
  rw [receivePacket_eq cut hactive hframe hversion htype hme, if_neg (not_lt.mpr hroom), h]
  rfl

theorem receive_here (h : k.ok = true) (hdst : k.dst = s.me) : s.receivePacket n first cut k = (tookUnits s n first k).deliverPacket n k := by
  rw [receivePacket_eq cut hactive hframe hversion htype hme, if_neg (not_lt.mpr hroom), h, if_neg (by decide), if_pos hdst]

theorem receive_elsewhere (h : k.ok = true) (hdst : k.dst ≠ s.me) : s.receivePacket n first cut k = (tookUnits s n first k).forwardPacket n k := by
  rw [receivePacket_eq cut hactive hframe hversion htype hme, if_neg (not_lt.mpr hroom), h, if_neg (by decide), if_neg hdst]

end

/-! ### The obligation -/

/-- Settles O37: the receipt by its tests in order, then the node ID, the routing banks, PATH_DOWN and its hold, and the reassembly time-out. That a
port which is not ACTIVE takes nothing is log entry 53. -/
theorem packetsAreTestedForwardedAndReassembled : Obligations.PacketsAreTestedForwardedAndReassembled := by
  unfold Obligations.PacketsAreTestedForwardedAndReassembled
  refine ⟨fun s n first cut k hactive hframe hversion htype hme => ?_, fun s n first cut k hdeaf => ?_, fun s node => ?_, fun s => ?_, fun s n dst hwaiting => ?_,
    fun s source msg => ?_⟩
  · have htested := tookUnits_tested s n first k
    have hjudged := judged_tested s n first k
    have hsame : (tookUnits s n first k).me = s.me := domainOf_me_of_tested htested
    obtain ⟨hroute, hhop, hdomain, -, -⟩ := objMax_fabric
    refine ⟨fun hroom => ?_, fun hroom hok => ?_, fun hroom hok hdst hforeign => ?_, fun hroom hok hdst h0 hlink hhere => ?_,
      fun hroom hok hdst hsel hkind hclear hnone htotal hpart hlen => ?_⟩
    · refine ⟨_, congrArg Host.Outcome.next (receive_without_room hactive hframe hversion htype hme (not_le.mp hroom)), ?_, ?_, ?_, ?_⟩
      · exact (discardAtPort_counts _ n).trans (by rw [hjudged.obj _ (by unfold portKey recKey; omega)]; rfl)
      · rw [discardAtPort_port]
        exact judged_rxConsumed s n first k
      · rw [discardAtPort_port, hjudged.port]
      · exact OnlyNoticed.quiet (hjudged.noticed.trans (discardAtPort_noticed _ _))
    · obtain ⟨hconsumed, hgranted, hlost⟩ := badPacket_port (tookUnits s n first k) n cut k
      refine ⟨_, congrArg Host.Outcome.next (receive_bad hactive hframe hversion htype hme hroom hok), ?_, ?_, ?_, ?_, hlost⟩
      · exact (badPacket_counts _ cut k n).trans (by rw [htested.obj _ (by unfold portKey recKey; omega)]; rfl)
      · exact OnlyNoticed.quiet (htested.noticed.trans (badPacket_noticed _ _ _ _))
      · exact hconsumed.trans (tookUnits_rxConsumed s n first k)
      · rw [hgranted, htested.port]
        rfl
    · have hcases : k.dst = 0 ∨ k.dst = linkNode ∨ domainOf k.dst ≠ domainOf (tookUnits s n first k).me := by rw [hsame]; exact hforeign
      obtain ⟨hcount, hquiet⟩ := undeliverable (s := s) (n := n) (first := first) (by decide) hdomain ⟨_, .inl rfl, forwardPacket_of_foreign n hcases⟩
      exact ⟨_, congrArg Host.Outcome.next (receive_elsewhere hactive hframe hversion htype hme hroom hok hdst), hcount, OnlyNoticed.quiet hquiet⟩
    · have hours : ¬ (k.dst = 0 ∨ k.dst = linkNode ∨ domainOf k.dst ≠ domainOf (tookUnits s n first k).me) := by
        rw [hsame]
        exact not_or.mpr ⟨h0, not_or.mpr ⟨hlink, not_not.mpr hhere⟩⟩
      have hentry : (tookUnits s n first k).routeEntry k.dst = s.routeEntry k.dst := by rw [htested.eq]; rfl
      have hgo := receive_elsewhere (cut := cut) hactive hframe hversion htype hme hroom hok hdst
      refine ⟨fun h15 => ?_, fun h15 hlast => ?_, fun m h15 hlast hchoice => ?_⟩
      · obtain ⟨hcount, hquiet⟩ := undeliverable (s := s) (n := n) (first := first) (by decide) hroute
          ⟨_, .inr rfl, forwardPacket_of_no_route n hours (by rw [hentry]; exact h15)⟩
        exact ⟨_, congrArg Host.Outcome.next hgo, hcount, OnlyNoticed.quiet hquiet⟩
      · obtain ⟨hcount, hquiet⟩ := undeliverable (s := s) (n := n) (first := first) (by decide) hhop
          ⟨_, .inr rfl, forwardPacket_of_last_hop n hours (by rw [hentry]; exact h15) hlast⟩
        exact ⟨_, congrArg Host.Outcome.next hgo, hcount, OnlyNoticed.quiet hquiet⟩
      · obtain ⟨heligible, hunits⟩ := chooseHop_go hchoice
        obtain ⟨hst, hport, hmark⟩ := eligibleHop_spec heligible
        rw [forwardPacket_of_hop n hours (by rw [hentry]; exact h15) hlast (by rw [htested.chooseHop]; exact hchoice)] at hgo
        refine ⟨_, congrArg Host.Outcome.next hgo, hst, hport, hmark, hunits, ?_, by rw [htested.eq]; rfl⟩
        have hkey : resClass m k.cls = m * 8 + k.cls := by rw [resClass, Nat.mod_eq_of_lt k.cls.isLt]
        have hqueues : (tookUnits s n first k).sched = s.sched := by rw [htested.eq]
        rw [← hkey, ← hqueues]
        exact getD_put_same _ _ _ _
    · have hcontexts : (tookUnits s n first k).contexts = [] := (OnlyNoticed.quiet htested.noticed).1.trans hnone
      have htime : (tookUnits s n first k).time = s.time := by rw [htested.eq]
      have hgo := receive_here (cut := cut) hactive hframe hversion htype hme hroom hok hdst
      rw [deliverPacket_opens hsel hkind hclear hcontexts hlen htotal hpart] at hgo
      obtain ⟨hopen, -, -, hmem, -, hreqs⟩ := OnlyNoticed.quiet (returnUnits_onlyPorts { tookUnits s n first k with contexts := [opened (tookUnits s n first k) k] } n k.cls k.len).noticed
      obtain ⟨-, -, -, hmem', -, hreqs'⟩ := OnlyNoticed.quiet htested.noticed
      refine ⟨_, congrArg Host.Outcome.next hgo, hopen.trans ?_, hmem.trans hmem', hreqs.trans hreqs'⟩
      rw [opened, htime]
  · exact ⟨_, congrArg Host.Outcome.next (receivePacket_of_deaf cut k hdeaf), rfl⟩
  · refine ⟨fun hnode => ⟨_, rfl, ?_⟩, fun hnode hfree => ⟨_, rfl, ?_⟩, fun hme hother hup => ⟨_, rfl, ?_⟩⟩
    · rw [State.writeNode, if_pos (.inl hnode)]
      rfl
    · have hallowed : ¬ (node = linkNode ∨ (s.me ≠ 0 ∧ node ≠ s.me ∧ s.ports.any (fun e => decide (e.2.st ≠ .disabled)) = true)) := by
        rintro (h | ⟨hme, hother, hany⟩)
        · exact hnode h
        · obtain ⟨e, he, hst⟩ := List.any_eq_true.mp hany
          exact of_decide_eq_true hst (((hfree.resolve_left hme).resolve_left hother) e he)
      rw [State.writeNode, if_neg hallowed]
      exact ⟨obj_setObj_same _ _ _, rfl⟩
    · obtain ⟨e, he, hst⟩ := hup
      rw [State.writeNode, if_pos (.inr ⟨hme, hother, List.any_eq_true.mpr ⟨e, he, decide_eq_true hst⟩⟩)]
      rfl
  · have hbad : ((if s.bank then s.routes0 else s.routes1).any fun e => (hopsAt e.2 0 ++ hopsAt e.2 16).any fun h => decide (12 ≤ h) && decide (h ≤ 14)) = true ↔
        ∃ e ∈ (if s.bank then s.routes0 else s.routes1), ∃ h ∈ hopsAt e.2 0 ++ hopsAt e.2 16, 12 ≤ h ∧ h ≤ 14 := by
      simp only [List.any_eq_true, Bool.and_eq_true, decide_eq_true_eq]
    refine ⟨fun hreserved => ⟨_, rfl, ?_⟩, fun hreserved hwaiting => ⟨_, rfl, ?_⟩⟩
    · unfold State.commitRoutes
      dsimp only
      rw [if_pos (hbad.mpr hreserved)]
      rfl
    · unfold State.commitRoutes
      dsimp only
      rw [if_neg (fun h => hreserved (hbad.mp h))]
      exact respray_of_none _ hwaiting
  · refine ⟨⟨_, rfl, ?_⟩, fun at_ hat hdue => ⟨_, rfl, ?_⟩, fun hearly => ⟨_, rfl, ?_⟩⟩
    · obtain ⟨-, -, -, hdown, -⟩ := objMax_fabric
      unfold State.pathDown
      dsimp only
      rw [respray_of_none _ (by exact hwaiting)]
      exact ⟨find_put_same _ _ _, fun j hj => find_put_ne _ _ hj, obj_bump (s.proof n) hdown, rfl⟩
    · rw [hat]
      dsimp only
      rw [if_pos hdue, respray_of_none _ (by exact hwaiting)]
      exact ⟨find_del_same _ _, fun j hj => find_del_ne _ hj, rfl⟩
    · split
      · rename_i at_ hat
        exact if_neg (not_le.mpr (hearly at_ hat))
      · rfl
  · refine ⟨fun hnone => ⟨_, rfl, reassemblyTimeout_of_none hnone⟩, fun hsome hheld => ?_⟩
    obtain ⟨l, hl, honly⟩ := reassemblyTimeout_of_some hsome (noneHeld_of_mem hheld)
    obtain ⟨-, -, -, -, hcounter⟩ := objMax_fabric
    refine ⟨_, rfl, fun c => ?_, ?_, ?_, ?_⟩
    · rw [honly, arrive_contexts]
      exact hl c
    · exact (honly.obj_eq _).trans ((arrive_obj _ _ _).trans (obj_bump _ hcounter))
    · rw [honly]
      exact (source_arrive _ (by decide) _).trans (if_pos rfl)
    · rw [honly]
      simp

end Sys2Proof.Proofs

/-! PROOFS. Port states (O36): what packets that go back through R286 and messages that are sent again leave of the device when a port leaves ACTIVE,
the entry into HOLD, and HELLO. -/

namespace Sys2Proof.Safety
open Sys2Proof.Machine

/-- A port but for its credit towards the neighbour, its frames and its held packets (R265, R275, R281, R296). -/
def SameState (x y : PortSt) : Prop := y = { x with
  rxGranted := y.rxGranted, returned := y.returned, ctl := y.ctl, ctlSent := y.ctlSent, held := y.held, inFrame := y.inFrame, rxLost := y.rxLost }

theorem SameState.refl (x : PortSt) : SameState x x := rfl

theorem SameState.trans {x y z : PortSt} (h : SameState x y) (g : SameState y z) : SameState x z := Eq.trans g (by rw [h])

theorem SameButControl.sameState {x y : PortSt} (h : SameButControl x y) : SameState x y := by
  rw [h]
  rfl

/-- Nothing changed but what packets on their way out change (R286 to R289): every port is in its state, every object that counts no traffic stands,
and of the pair only the transmissions of its records changed. -/
def Rerouted (s t : State) : Prop :=
  (∀ m, m ≠ 12 → SameState (s.port m) (t.port m)) ∧ (∀ k, trafficCounter k = false → t.obj k = s.obj k) ∧
  t = { s with out := t.out, host := { s.host with waiting := t.host.waiting }, regs := t.regs, sched := t.sched, rings := t.rings, gath := t.gath,
               kept := t.kept, contexts := t.contexts, miss := t.miss, ports := t.ports, downSent := t.downSent, sec := t.sec,
               conduits := t.conduits, pair := { s.pair with unplaced := t.pair.unplaced } }

theorem Rerouted.refl (s : State) : Rerouted s s := ⟨fun _ _ => rfl, fun _ _ => rfl, rfl⟩

theorem Rerouted.trans {s t u : State} (h : Rerouted s t) (g : Rerouted t u) : Rerouted s u :=
  ⟨fun m hm => (h.1 m hm).trans (g.1 m hm), fun k hk => (g.2.1 k hk).trans (h.2.1 k hk), g.2.2.trans (by rw [h.2.2])⟩

theorem Rerouted.ite {s a b : State} {c : Prop} [Decidable c] (h : Rerouted s a) (g : Rerouted s b) : Rerouted s (if c then a else b) := by
  split <;> assumption

theorem Rerouted.setSched {s t : State} (h : Rerouted s t) (x : Sched) : Rerouted s { t with sched := x } := h.trans ⟨fun _ _ => rfl, fun _ _ => rfl, rfl⟩

theorem Rerouted.foldl {α : Type} {f : State → α → State} (h : ∀ s x, Rerouted s (f s x)) (l : List α) (s : State) : Rerouted s (l.foldl f s) :=
  List.foldlRecOn (motive := Rerouted s) l f (.refl s) fun u hu x _ => hu.trans (h u x)

theorem OnlyAnswered.rerouted {s t : State} (h : OnlyAnswered s t) (hobj : TiersKept s t) : Rerouted s t := by
  obtain ⟨hport, heq⟩ := h
  refine ⟨fun m hm => ?_, hobj.2.2, ?_⟩
  · rw [hport m hm]
    rfl
  · rw [heq]

theorem OnlyPorts.rerouted {s t : State} (h : OnlyPorts s t) (hport : ∀ m, m ≠ 12 → SameState (s.port m) (t.port m)) : Rerouted s t := by
  refine ⟨hport, fun k _ => h.obj_eq k, ?_⟩
  rw [h]

end Sys2Proof.Safety

namespace Sys2Proof.Proofs
open Sys2Proof.Machine Sys2Proof.Safety Sys2Proof.Laws

/-! ### Packets go back through R286 and messages are sent again (R286 to R289) -/

section
variable (s : State)

theorem returnUnits_rerouted (n c len : Nat) : Rerouted s (s.returnUnits n c len) := by
  refine (returnUnits_onlyPorts s n c len).rerouted fun m _ => ?_
  refine SameState.trans ?_ (returnUnits_port s n c len m).sameState
  split
  · rename_i h
    rw [h]
    rfl
  · rfl

theorem sendControl_rerouted (n subtype : Nat) (payload : List Nat) : Rerouted s (s.sendControl n subtype payload) :=
  (sendControl_onlyPorts s n subtype payload).rerouted fun m _ => (sendControl_port s n subtype payload m).sameState

theorem bump_rerouted {k : Nat} (h : trafficCounter k = true) : Rerouted s (s.bump k) := (bump_onlyAnswered s k).rerouted (bump_tiersKept s h)

theorem arrive_rerouted (x : Nat) : Rerouted s (s.arrive x) := (arrive_onlyAnswered s x).rerouted (arrive_tiersKept s x)

theorem leaveIngress_rerouted (k : Packet) (w : Work) : Rerouted s (s.leaveIngress k w) := by
  unfold State.leaveIngress
  split
  · split
    · exact .refl s
    · exact returnUnits_rerouted s _ _ _
  · exact .refl s

theorem sendPathDown_rerouted (n dst : Nat) : Rerouted s (s.sendPathDown n dst) := by
  have hmarked (x : Map Nat) : Rerouted s { s.bump 0x26000A with downSent := x } :=
    .trans (bump_rerouted s (by decide)) ⟨fun _ _ => rfl, fun _ _ => rfl, rfl⟩
  unfold State.sendPathDown
  dsimp only
  exact .ite ((hmarked _).trans (sendControl_rerouted _ _ _ _)) (.refl s)

theorem discardNoRoute_rerouted (k : Packet) (w : Work) (answer : Bool) : Rerouted s (s.discardNoRoute k w answer) := by
  have hcounted : Rerouted s (((s.bump 0x260007).arrive 0x015).leaveIngress k w) :=
    (bump_rerouted s (by decide)).trans ((arrive_rerouted _ _).trans (leaveIngress_rerouted _ k w))
  unfold State.discardNoRoute
  dsimp only
  split
  · split
    · exact hcounted.trans (sendPathDown_rerouted _ _ _)
    · exact hcounted
  · exact hcounted

theorem spray_rerouted (w : Work) (k : Packet) : Rerouted s (s.spray w k) := by
  unfold State.spray
  split
  · exact ⟨fun _ _ => rfl, fun _ _ => rfl, rfl⟩
  · exact ⟨fun _ _ => rfl, fun _ _ => rfl, rfl⟩
  · exact discardNoRoute_rerouted s k w true

theorem sprayed_rerouted (w : Work) (o : Option Packet) : Rerouted s (match o with | some k => s.spray w k | none => s) := by
  cases o with
  | none => exact .refl s
  | some k => exact spray_rerouted s w k

theorem respray_rerouted : Rerouted s s.respray := by
  unfold State.respray
  dsimp only
  refine .trans (t := { s with sched := { s.sched with waiting := [] } }) ⟨fun _ _ => rfl, fun _ _ => rfl, rfl⟩ (.foldl (fun u x => ?_) _ _)
  exact sprayed_rerouted u x.2 x.2.pkt

theorem drawId_rerouted (slot : Nat) : Rerouted s (s.drawId slot).1 := by
  have hsec (x : Sec) : Rerouted s { s with sec := x } := ⟨fun _ _ => rfl, fun _ _ => rfl, rfl⟩
  unfold State.drawId
  dsimp only
  split_ifs
  · exact hsec _
  · exact (hsec _).trans (arrive_rerouted _ _)
  · exact hsec _

theorem sourceMessage_rerouted (kind c dst pol slot msg : Nat) (data : List Nat) (tenant : Option Nat) (flow kindWord : Nat) :
    Rerouted s (s.sourceMessage kind c dst pol slot msg data tenant flow kindWord) :=
  (sourceMessage_onlyAnswered s _ _ _ _ _ _ _ _ _ _).rerouted (sourceMessage_tiersKept s _ _ _ _ _ _ _ _ _ _)

theorem drawnFor_rerouted (p : Prop) [Decidable p] (slot msg : Nat) : Rerouted s (if p then s.drawId slot else (s, msg)).1 := by
  split
  · exact drawId_rerouted s slot
  · exact .refl s

theorem sendConduit_rerouted (c op msg : Nat) (body : List Nat) (what seq word : Nat) : Rerouted s (s.sendConduit c op msg body what seq word) := by
  unfold State.sendConduit
  exact .trans (t := { s with out := .conduit c op seq word :: s.out }) ⟨fun _ _ => rfl, fun _ _ => rfl, rfl⟩ (sourceMessage_rerouted _ _ _ _ _ _ _ _ _ _ _)

theorem setConduit_rerouted (c : Nat) (x : Conduit) : Rerouted s (s.setConduit c x) := ⟨fun _ _ => rfl, fun _ _ => rfl, rfl⟩

theorem setUnplaced_rerouted (x : Map SentMsg) (l : List Out) : Rerouted s { s with pair := { s.pair with unplaced := x }, out := l } :=
  ⟨fun _ _ => rfl, fun _ _ => rfl, rfl⟩

theorem transmit_rerouted (c seq : Nat) (retry : Bool) : Rerouted s (s.transmit c seq retry) := by
  unfold State.transmit
  dsimp only
  split
  · exact .refl s
  · rename_i m _
    exact (drawnFor_rerouted s (m.tries = 0) _ m.msg).trans ((setConduit_rerouted _ c _).trans (sendConduit_rerouted _ _ _ _ _ _ _ _))

theorem sendRecord_rerouted (n : Nat) (retry : Bool) : Rerouted s (s.sendRecord n retry) := by
  unfold State.sendRecord
  dsimp only
  split
  · exact .refl s
  · rename_i m _
    exact (drawnFor_rerouted s (m.tries = 0) 0 m.msg).trans ((setUnplaced_rerouted _ _ _).trans (sourceMessage_rerouted _ _ _ _ _ _ _ _ _ _ _))

theorem resendThrough_rerouted (n : Nat) : Rerouted s (s.resendThrough n) := by
  unfold State.resendThrough
  dsimp only
  refine .trans (.foldl (fun u e => ?_) _ s) (.foldl (fun u k => sendRecord_rerouted u k false) _ _)
  exact .foldl (fun v k => transmit_rerouted v e.1 k false) _ u

/-- A port that leaves ACTIVE keeps the state that it has been given; its packets go elsewhere (R265, R288, R289). -/
theorem leaveActive_rerouted (n : Nat) : Rerouted s (s.leaveActive n (s.port n)) := by
  have hports (a b : PortSt) (ha : SameState (s.port n) a) : Rerouted s ((s.setPort n a).setPort 12 b) := by
    refine OnlyPorts.rerouted rfl fun m hm => ?_
    rw [port_setPort, if_neg hm, port_setPort]
    split
    · rename_i h
      rw [h]
      exact ha
    · rfl
  unfold State.leaveActive
  dsimp only
  refine .trans (.trans (.setSched (hports _ _ (by rfl)) _) (.foldl (fun u w => ?_) _ _)) ((respray_rerouted _).trans (resendThrough_rerouted _ n))
  exact sprayed_rerouted u (w.strand n) w.pkt

end

/-! ### A port takes another state, and HOLD (R277, R278, R514) -/

section
variable (s : State) (n : Port)

theorem sourceReal_port : ∀ n : Port, ∀ k < 4, sourceReal (portSource n k) = true := by decide

theorem objMax_port : ∀ n : Port, objMax (portKey n 7) = 2 ^ 32 - 1 ∧ objMax (portKey n 8) = 2 ^ 64 - 1 ∧ objMax (portKey n 9) = 2 ^ 32 - 1 := by decide

theorem trafficCounter_port : ∀ n : Port, ∀ sub < 16, trafficCounter (portKey n sub) = false := by decide

/-- A port's new state raises its source and changes nothing else. -/
theorem portState_fires (x : PortSt) : let t := s.portState n x
    t.port n = x ∧ t.source (0xC0 + 4 * n) = (s.source (0xC0 + 4 * n)).arrive ∧ t = { s with ports := t.ports, regs := t.regs, gath := t.gath } := by
  refine ⟨?_, ?_, ?_⟩
  · rw [State.portState, arrive_port, port_setPort_same]
  · exact (source_arrive _ (sourceReal_port n 0 (by decide)) _).trans (if_pos rfl)
  · unfold State.portState State.arrive
    split <;> rfl

theorem portState_regs (x : PortSt) : (s.portState n x).regs = s.regs := arrive_regs _ _

theorem portState_port_ne (x : PortSt) {m : Nat} (h : m ≠ n) : (s.portState n x).port m = s.port m := by
  rw [State.portState, arrive_port, port_setPort, if_neg h]

section
variable (s : State) (code cls unit count data : Nat)

theorem logEvent_port (m : Nat) : (s.logEvent code cls unit count data).port m = s.port m := by unfold State.port; rw [logEvent_ports]

theorem logEvent_obj (k : Nat) : (s.logEvent code cls unit count data).obj k = s.obj k := by unfold State.obj; rw [logEvent_regs]

theorem logEvent_log_head : (s.logEvent code cls unit count data).log.entries.head? = some ⟨s.time, code, cls, unit, count, data⟩ := by
  unfold State.logEvent
  dsimp only
  split
  · rw [arrive_log]
    rfl
  · rfl

theorem logEvent_source {x : Nat} (h : x ≠ 0x016) : (s.logEvent code cls unit count data).source x = s.source x := by
  unfold State.logEvent
  dsimp only
  split
  · exact (source_arrive _ (by decide) x).trans (if_neg h)
  · rfl

end

/-- The port in HOLD: it has lost its neighbour, and its hold-down begins. -/
def heldDown (now : Nat) (x : PortSt) : PortSt :=
  { x with st := .hold, holdMs := holdFor now x, lastHold := some now, nbr := none, hellos := 0, heard := false }

/-- The entry into HOLD before a port's packets go elsewhere: the flap is counted, raised and logged with its reason. -/
def flapped (reason : Nat) : State :=
  (((((s.portState n (heldDown s.time (s.port n))).bump (portKey n 7)).arrive (portSource n 3)).setObj (portKey n 0xE) reason).logEvent 4 2 n 0 reason)

theorem flapped_port (reason m : Nat) : (flapped s n reason).port m = if m = n then heldDown s.time (s.port n) else s.port m := by
  rw [flapped, logEvent_port, setObj_port, arrive_port, bump_port]
  split
  · rename_i h
    rw [h]
    exact (portState_fires s n _).1
  · rename_i h
    exact portState_port_ne s n _ h

theorem flapped_source (reason : Nat) : (flapped s n reason).source (0xC0 + 4 * n) = (s.source (0xC0 + 4 * n)).arrive := by
  rw [flapped, logEvent_source _ _ _ _ _ _ (by omega), setObj_source, source_arrive _ (sourceReal_port n 3 (by decide)), if_neg (by unfold portSource; omega), bump_source]
  exact (portState_fires s n _).2.1

theorem flapped_obj (reason : Nat) : (flapped s n reason).obj (portKey n 0xE) = reason ∧
    (flapped s n reason).obj (portKey n 7) = min (s.obj (portKey n 7) + 1) (2 ^ 32 - 1) := by
  rw [flapped, logEvent_obj, logEvent_obj]
  refine ⟨obj_setObj_same _ _ _, ?_⟩
  rw [obj_setObj_ne _ _ (by unfold portKey recKey; omega), arrive_obj, obj_bump _ (objMax_port n).1]
  exact congrArg (fun v => min (v + 1) (2 ^ 32 - 1)) (arrive_obj _ _ _)

/-- A port has entered HOLD for a reason (R277, R278). -/
structure EntersHold (reason : Nat) (t : State) : Prop where
  port : (t.port n).st = .hold ∧ (t.port n).nbr = none ∧ (t.port n).heard = false
  hold : ((s.port n).lastHold = none → (t.port n).holdMs = 1) ∧ (t.port n).lastHold = some s.time
  obj : t.obj (portKey n 0xE) = reason ∧ t.obj (portKey n 7) = min (s.obj (portKey n 7) + 1) (2 ^ 32 - 1)
  log : t.log.entries.head? = some ⟨s.time, 4, 2, n, 0, reason⟩
  rest : t.mem = s.mem ∧ t.seqs = s.seqs ∧ t.reqs = s.reqs

theorem flapped_entersHold (reason : Nat) : EntersHold s n reason (flapped s n reason) := by
  have hport := (flapped_port s n reason n).trans (if_pos rfl)
  refine ⟨?_, ?_, flapped_obj s n reason, ?_, ?_⟩
  · rw [hport]
    exact ⟨rfl, rfl, rfl⟩
  · rw [hport]
    refine ⟨fun h => ?_, rfl⟩
    simp only [heldDown, holdFor, h]
  · rw [flapped, logEvent_log_head]
    simp [State.portState]
  · simp [flapped, State.portState]

variable {s n} in
theorem EntersHold.rerouted {reason : Nat} {t u : State} (h : EntersHold s n reason t) (g : Rerouted t u) : EntersHold s n reason u := by
  obtain ⟨hports, hobj, heq⟩ := g
  have hport := hports n (by omega)
  refine ⟨by rw [hport]; exact h.port, by rw [hport]; exact h.hold, ?_, by rw [heq]; exact h.log, by rw [heq]; exact h.rest⟩
  rw [hobj _ (trafficCounter_port n 0xE (by decide)), hobj _ (trafficCounter_port n 7 (by decide))]
  exact h.obj

/-- A port's entry into HOLD: one that was ACTIVE then sends its packets elsewhere. -/
theorem holdPort_eq (reason : Nat) : s.holdPort n reason =
    if (s.port n).st = .active then (flapped s n reason).leaveActive n ((flapped s n reason).port n) else flapped s n reason := by
  rw [flapped_port, if_pos rfl]
  rfl

theorem holdPort_entersHold (reason : Nat) : EntersHold s n reason (s.holdPort n reason) := by
  rw [holdPort_eq]
  split
  · exact (flapped_entersHold s n reason).rerouted (leaveActive_rerouted _ n)
  · exact flapped_entersHold s n reason

theorem holdPort_of_not_active (reason : Nat) (h : (s.port n).st ≠ .active) :
    (s.holdPort n reason).source (0xC0 + 4 * n) = (s.source (0xC0 + 4 * n)).arrive ∧ ∀ m, m ≠ n.val → (s.holdPort n reason).port m = s.port m := by
  rw [holdPort_eq, if_neg h]
  exact ⟨flapped_source s n reason, fun m hm => (flapped_port s n reason m).trans (if_neg hm)⟩

variable {s n} in
/-- What a state shares with the one before is all that the entry reads. -/
theorem EntersHold.of_eq {r t : State} {reason : Nat} (h : EntersHold r n reason t) (hlast : (r.port n).lastHold = (s.port n).lastHold) (htime : r.time = s.time)
    (hflaps : r.obj (portKey n 7) = s.obj (portKey n 7)) (hrest : r.mem = s.mem ∧ r.seqs = s.seqs ∧ r.reqs = s.reqs) : EntersHold s n reason t := by
  obtain ⟨hport, hhold, hobj, hlog, hmem, hseqs, hreqs⟩ := h
  obtain ⟨hmem', hseqs', hreqs'⟩ := hrest
  refine ⟨hport, by rwa [← hlast, ← htime], by rwa [← hflaps], by rwa [← htime], hmem.trans hmem', hseqs.trans hseqs', hreqs.trans hreqs'⟩

end

/-! ### HELLO (R276, R277, R279) -/

/-- Whether a HELLO comes from the neighbour that the port has heard. -/
def knows (x : PortSt) (h : Hello) : Bool :=
  match x.nbr with
  | some o => decide (o.digest = h.digest) && decide (o.node = h.node)
  | none => false

theorem knows_of_same {x : PortSt} {h o : Hello} (ho : x.nbr = some o) (hdigest : o.digest = h.digest) (hnode : o.node = h.node) : knows x h = true := by
  simp [knows, ho, hdigest, hnode]

theorem knows_of_other {x : PortSt} {h : Hello} (hother : ∀ o, x.nbr = some o → o.digest ≠ h.digest ∨ o.node ≠ h.node) : knows x h = false := by
  unfold knows
  split
  · rename_i o ho
    rcases hother o ho with hne | hne <;> simp [hne]
  · rfl

/-- The port that has heard its neighbour. -/
def heardFrom (now : Nat) (x : PortSt) (h : Hello) (count : Nat) : PortSt := { x with nbr := some h, hellos := count, heard := true, lastRx := now }

section
variable (s : State) (n : Nat) (h : Hello)

theorem setPort_setPort (x y : PortSt) : (s.setPort n x).setPort n y = s.setPort n y := by
  unfold State.setPort
  dsimp only
  rw [put_put]

theorem proof_port : (s.proof n).port n = { s.port n with lastRx := s.time } := port_setPort_same _ _ _

theorem hello_of_deaf (hactive : (s.port n).st ≠ .active) (hhello : (s.port n).st ≠ .hello) : s.hello n h = s.proof n := by
  unfold State.hello
  dsimp only
  rw [proof_port]
  dsimp only
  split
  · exact absurd ‹_› hactive
  · exact absurd ‹_› hhello
  · rfl

theorem hello_of_active (hst : (s.port n).st = .active) : s.hello n h =
    if knows (s.port n) h then s.setPort n { s.port n with nbr := some h, lastRx := s.time } else (s.proof n).holdPort n 5 := by
  unfold State.hello
  dsimp only
  rw [proof_port]
  dsimp only
  rw [hst]
  dsimp only [State.proof]
  rw [setPort_setPort, hst]
  rfl

/-- Whether a HELLO that the port knows takes it to ACTIVE (R277). -/
def comesUp : Prop := 1 ≤ (s.port n).hellos ∧ h.ready = true ∧ h.heard = true ∧ s.ownReady = true ∧ domainOf h.node = domainOf s.me

theorem setPort_proof (x : PortSt) : (s.proof n).setPort n x = s.setPort n x := setPort_setPort s n _ x

/-- A port in HELLO that has heard a neighbour, once more or for the first time. -/
def noted (x : PortSt) : PortSt := { x with nbr := some h, hellos := if knows x h then x.hellos + 1 else 1, heard := true }

/-- What R277 says of a HELLO that has been noted. -/
def answered (t : State) (y : PortSt) : State :=
  if y.hellos ≥ 2 ∧ h.ready ∧ h.heard ∧ t.ownReady ∧ domainOf h.node = domainOf t.me then
    if t.pairRules n h then t.activatePort n y h else t.setObj (portKey n 0xE) 8
  else t

theorem hello_of_hello (hst : (s.port n).st = .hello) : s.hello n h =
    let y := noted h { s.port n with lastRx := s.time }
    answered n h (if knows (s.port n) h then s.setPort n y else (s.setPort n y).noteNeighbour n h) y := by
  have hproof : ((s.proof n).port n).st = .hello := by rw [proof_port]; exact hst
  have hstep : s.hello n h = answered n h (if knows ((s.proof n).port n) h then (s.proof n).setPort n (noted h ((s.proof n).port n))
      else ((s.proof n).setPort n (noted h ((s.proof n).port n))).noteNeighbour n h) (noted h ((s.proof n).port n)) := by
    unfold State.hello
    dsimp only
    split
    · exact absurd (hproof.symm.trans ‹_›) (by decide)
    · rfl
    · exact absurd hproof ‹_›
  rw [hstep, setPort_proof, proof_port]
  rfl

/-- A neighbour that is recorded changes objects only. -/
theorem noteNeighbour_digest : (s.noteNeighbour n h).obj (portKey n 5) = h.digest := by
  unfold State.noteNeighbour
  rw [obj_setObj_same]

theorem noteNeighbour_port (m : Nat) : (s.noteNeighbour n h).port m = s.port m := by
  unfold State.noteNeighbour
  rw [setObj_port, setObj_port]

theorem noteNeighbour_only : s.noteNeighbour n h = { s with regs := (s.noteNeighbour n h).regs } := by
  unfold State.noteNeighbour State.setObj
  rfl

variable {s n h}

theorem hello_of_other (hst : (s.port n).st = .hello) (hother : knows (s.port n) h = false) :
    s.hello n h = (s.setPort n (heardFrom s.time (s.port n) h 1)).noteNeighbour n h := by
  have hnoted : noted h { s.port n with lastRx := s.time } = heardFrom s.time (s.port n) h 1 := by
    rw [noted, if_neg (by exact Bool.eq_false_iff.mp hother)]
    rfl
  rw [hello_of_hello s n h hst, hnoted, hother]
  exact if_neg fun hup => absurd hup.1 (by decide : ¬ 1 ≥ 2)

section
variable (hst : (s.port n).st = .hello) (hsame : knows (s.port n) h = true)
include hst hsame

theorem hello_of_same : s.hello n h =
    let y := heardFrom s.time (s.port n) h ((s.port n).hellos + 1)
    answered n h (s.setPort n y) y := by
  have hnoted : noted h { s.port n with lastRx := s.time } = heardFrom s.time (s.port n) h ((s.port n).hellos + 1) := by
    rw [noted, if_pos (by exact hsame)]
    rfl
  rw [hello_of_hello s n h hst, hnoted, hsame]
  rfl

theorem hello_of_early (hup : ¬ comesUp s n h) : s.hello n h = s.setPort n (heardFrom s.time (s.port n) h ((s.port n).hellos + 1)) := by
  rw [hello_of_same hst hsame]
  exact if_neg fun ⟨hcount, hrest⟩ => hup ⟨Nat.le_of_succ_le_succ hcount, hrest⟩

theorem hello_of_up (hup : comesUp s n h) : s.hello n h =
    let y := heardFrom s.time (s.port n) h ((s.port n).hellos + 1)
    if (s.setPort n y).pairRules n h then (s.setPort n y).activatePort n y h else (s.setPort n y).setObj (portKey n 0xE) 8 := by
  rw [hello_of_same hst hsame]
  obtain ⟨hcount, hrest⟩ := hup
  exact if_pos ⟨Nat.succ_le_succ hcount, hrest⟩

end

/-- The pair rules read the other pair link's port, not this one. -/
theorem pairRules_setPort (y : PortSt) : (s.setPort n y).pairRules n h = s.pairRules n h := by
  have hother : (s.setPort n y).port (if n = 10 then 11 else 10) = s.port (if n = 10 then 11 else 10) := by
    rw [port_setPort, if_neg]
    split <;> omega
  unfold State.pairRules
  dsimp only
  rw [hother]
  rfl

end

/-! ### Link-control frames (R275) -/

section
variable (s : State) (n : Nat) (y : PortSt)

/-- A link-control frame leaves at once, or waits behind the one that has left since the last packet. -/
theorem sendControl_setPort (subtype : Nat) (payload : List Nat) : (s.setPort n y).sendControl n subtype payload =
    if y.ctlSent && s.packetsWait n then s.setPort n { y with ctl := y.ctl ++ [s.controlFrame subtype payload] }
    else { s.setPort n { y with ctlSent := true } with out := .packet n (s.controlFrame subtype payload) :: s.out } := by
  unfold State.sendControl
  dsimp only
  rw [port_setPort_same]
  split
  · exact (setPort_setPort s n y _).trans (if_pos ‹_›).symm
  · refine Eq.trans ?_ (if_neg ‹_›).symm
    rw [State.putControl, port_setPort_same, setPort_setPort]
    rfl

theorem sendCredit_eq : s.sendCredit n =
    (s.setPort n { s.port n with returned := [] }).sendControl n 2 ((List.range 8).flatMap fun c => leBytes 4 (nth (s.port n).rxGranted c)) := rfl

end

/-! ### ACTIVE (R277, R281, R365) -/

/-- The port that has come up: its counts begin again, and it grants its allocation. -/
def broughtUp (s : State) (n : Nat) (x : PortSt) : PortSt :=
  { x with st := .active, activeSince := s.time, lastRx := s.time, granted := [], consumed := [], rxConsumed := [], returned := [],
           rxGranted := (List.range 8).map (s.allocation n) }

/-- The state in which a port has come up and granted its allocation. -/
def cameUp (s : State) (n : Nat) (x : PortSt) : State := (s.portState n (broughtUp s n x)).sendCredit n

section
variable (s : State) (n : Port) (x : PortSt) (h : Hello)

theorem cameUp_onlyPorts : OnlyPorts (s.portState n (broughtUp s n x)) (cameUp s n x) := sendCredit_onlyPorts _ _

theorem cameUp_sched : (cameUp s n x).sched = s.sched := by
  rw [cameUp_onlyPorts, (portState_fires s n _).2.2]

theorem cameUp_pair : (cameUp s n x).pair = s.pair := by
  rw [cameUp_onlyPorts, (portState_fires s n _).2.2]

theorem cameUp_port : SameButControl (broughtUp s n x) ((cameUp s n x).port n) := by
  have h := sendCredit_port (s.portState n (broughtUp s n x)) n n
  rw [(portState_fires s n _).1] at h
  exact h

theorem cameUp_source (j : Nat) : (cameUp s n x).source j = (s.portState n (broughtUp s n x)).source j := by
  rw [cameUp_onlyPorts]
  rfl

/-- The first CREDIT grants the allocation. -/
theorem cameUp_credit : let c := s.controlFrame 2 ((List.range 8).flatMap fun c => leBytes 4 (s.allocation n c))
    ((x.ctlSent && s.packetsWait n) = false → (cameUp s n x).out.head? = some (.packet n c)) ∧
    ((x.ctlSent && s.packetsWait n) = true → ((cameUp s n x).port n).ctl = x.ctl ++ [c]) := by
  have hgrants : ((List.range 8).flatMap fun c => leBytes 4 (nth ((List.range 8).map (s.allocation n)) c)) =
      (List.range 8).flatMap fun c => leBytes 4 (s.allocation n c) := by
    refine List.flatMap_congr fun c hc => ?_
    rw [nth, List.getD_eq_getElem?_getD, List.getElem?_map, List.getElem?_range (List.mem_range.mp hc)]
    rfl
  have hframe (payload : List Nat) : (s.portState n (broughtUp s n x)).controlFrame 2 payload = s.controlFrame 2 payload := by
    unfold State.controlFrame State.me State.obj
    rw [portState_regs]
  have hwait : (s.portState n (broughtUp s n x)).packetsWait n = s.packetsWait n := by
    rw [(portState_fires s n _).2.2]
    rfl
  have hcame : cameUp s n x = ((s.portState n (broughtUp s n x)).setPort n (broughtUp s n x)).sendControl n 2
      ((List.range 8).flatMap fun c => leBytes 4 (nth ((List.range 8).map (s.allocation n)) c)) := by
    rw [cameUp, sendCredit_eq, (portState_fires s n _).1]
    rfl
  have hsent : (broughtUp s n x).ctlSent = x.ctlSent := rfl
  dsimp only
  rw [hcame, sendControl_setPort, hframe, hwait, hsent, hgrants]
  refine ⟨fun h => ?_, fun h => ?_⟩
  · rw [if_neg (by rw [h]; decide)]
    rfl
  · rw [if_pos h, port_setPort_same, ← hgrants]
    rfl

/-- A pair link that has come up gives the pair its partner, and forms a pair that was OFF (R365). -/
def withPartner (t : State) : State :=
  if !t.pairLink n then t
  else
    let u := { t with pair := { t.pair with partner := h.node, st := if t.pair.st = .off then .forming else t.pair.st } }
    if t.pair.st = .off then u.arrive 0x003 else u

theorem activatePort_of_none (hwaiting : s.sched.waiting = []) : s.activatePort n x h = withPartner n h (cameUp s n x) :=
  congrArg (withPartner n h) (respray_of_none (cameUp s n x) (by rw [cameUp_sched]; exact hwaiting))

end

/-! ### The commands of the ports, and the obligation -/

section
variable (s : State) (n : Port)

/-- PORT_ENABLE (R277). -/
theorem enablePort_cases : let t := s.enablePort n
    t.obj (portKey n 2) = 1 ∧ t = { s with ports := t.ports, regs := t.regs, gath := t.gath } ∧
    ((s.port n).st = .disabled → s.start.portsUp = true →
      t.port n = { s.port n with st := .training, since := s.time } ∧ t.source (0xC0 + 4 * n) = (s.source (0xC0 + 4 * n)).arrive) ∧
    ((s.port n).st ≠ .disabled ∨ s.start.portsUp = false → t.ports = s.ports) := by
  have hset : (s.setObj (portKey n 2) 1).obj (portKey n 2) = 1 := obj_setObj_same _ _ _
  by_cases hup : (s.port n).st = .disabled ∧ s.start.portsUp = true
  · have htrain : s.enablePort n = (s.setObj (portKey n 2) 1).portState n { s.port n with st := .training, since := s.time } := if_pos ⟨hup.1, hset, hup.2⟩
    obtain ⟨hport, hsource, honly⟩ := portState_fires (s.setObj (portKey n 2) 1) n { s.port n with st := .training, since := s.time }
    dsimp only
    rw [htrain]
    refine ⟨?_, ?_, fun _ _ => ⟨hport, hsource⟩, fun h => ?_⟩
    · unfold State.obj
      rw [portState_regs]
      exact hset
    · rw [honly]
      rfl
    · rcases h with h | h
      · exact absurd hup.1 h
      · exact absurd (hup.2.symm.trans h) (by decide)
  · have hstay : s.enablePort n = s.setObj (portKey n 2) 1 := if_neg fun h => hup ⟨h.1, h.2.2⟩
    dsimp only
    rw [hstay]
    exact ⟨hset, rfl, fun h h' => absurd ⟨h, h'⟩ hup, fun _ => rfl⟩

/-- A port that is taken to DISABLED before its packets go elsewhere. -/
def switchedOff : State :=
  ((s.setObj (portKey n 2) 0).portState n { s.port n with
    st := .disabled, nbr := none, hellos := 0, heard := false, lastHold := if rested s.time (s.port n) then none else (s.port n).lastHold }).setObj (portKey n 0xE) 7

/-- PORT_DISABLE (R277). -/
theorem disablePort_eq (h : (s.port n).st ≠ .disabled) : s.disablePort n =
    if (s.port n).st = .active then (switchedOff s n).leaveActive n ((switchedOff s n).port n) else switchedOff s n := by
  refine (if_neg h).trans ?_
  rw [switchedOff, setObj_port, (portState_fires _ n _).1]
  rfl

theorem switchedOff_port : (switchedOff s n).port n = { s.port n with
    st := .disabled, nbr := none, hellos := 0, heard := false, lastHold := if rested s.time (s.port n) then none else (s.port n).lastHold } :=
  (portState_fires _ n _).1

theorem switchedOff_obj_of_ne {k : Nat} (h : k ≠ portKey n 0xE) : (switchedOff s n).obj k = (s.setObj (portKey n 2) 0).obj k :=
  (obj_setObj_ne _ _ h).trans (congrArg (Map.getD · k (objDefault k)) (portState_regs _ n _))

theorem switchedOff_only : switchedOff s n = { s with ports := (switchedOff s n).ports, regs := (switchedOff s n).regs, gath := (switchedOff s n).gath } := by
  rw [switchedOff, (portState_fires _ n _).2.2]
  rfl

theorem disablePort_rerouted (h : (s.port n).st ≠ .disabled) : Rerouted (switchedOff s n) (s.disablePort n) := by
  rw [disablePort_eq s n h]
  exact .ite (leaveActive_rerouted _ n) (.refl _)

/-- A port's disable touches neither the mode of the pair nor what it shall be. -/
theorem disablePort_mode : (s.disablePort n).obj 0x250001 = s.obj 0x250001 ∧ (s.disablePort n).pair.mode = s.pair.mode := by
  have hset : (s.setObj (portKey n 2) 0).obj 0x250001 = s.obj 0x250001 := obj_setObj_ne _ _ (by unfold portKey recKey; omega)
  by_cases h : (s.port n).st = .disabled
  · rw [show s.disablePort n = s.setObj (portKey n 2) 0 from if_pos h]
    exact ⟨hset, rfl⟩
  · obtain ⟨-, hobj, heq⟩ := disablePort_rerouted s n h
    rw [hobj _ (by decide), switchedOff_obj_of_ne s n (by unfold portKey recKey; omega), heq, switchedOff_only]
    exact ⟨hset, rfl⟩

/-- What R277 says of a port that is taken to DISABLED. -/
theorem disablePort_cases : let t := s.disablePort n
    t.obj (portKey n 2) = 0 ∧ ((s.port n).st = .disabled → t = { s with ports := t.ports, regs := t.regs, gath := t.gath } ∧ t.ports = s.ports) ∧
    ((s.port n).st ≠ .disabled → (t.port n).st = .disabled ∧ (t.port n).nbr = none ∧ t.obj (portKey n 0xE) = 7 ∧ t.mem = s.mem ∧ t.seqs = s.seqs) ∧
    ((s.port n).st ≠ .disabled → (s.port n).st ≠ .active →
      t.source (0xC0 + 4 * n) = (s.source (0xC0 + 4 * n)).arrive ∧ t = { s with ports := t.ports, regs := t.regs, gath := t.gath }) := by
  have hset : (s.setObj (portKey n 2) 0).obj (portKey n 2) = 0 := obj_setObj_same _ _ _
  by_cases h : (s.port n).st = .disabled
  · dsimp only
    rw [show s.disablePort n = s.setObj (portKey n 2) 0 from if_pos h]
    exact ⟨hset, fun _ => ⟨rfl, rfl⟩, fun hne => absurd h hne, fun hne => absurd h hne⟩
  · have hstays := disablePort_eq s n h
    obtain ⟨hports, hobj, heq⟩ := disablePort_rerouted s n h
    have hport := hports n (by omega)
    have hrest : (s.disablePort n).mem = s.mem ∧ (s.disablePort n).seqs = s.seqs := by rw [heq, switchedOff_only]; exact ⟨rfl, rfl⟩
    rw [switchedOff_port] at hport
    refine ⟨?_, fun hst => absurd hst h, fun _ => ⟨by rw [hport], by rw [hport], ?_, hrest⟩, fun _ hactive => ?_⟩
    · rw [hobj _ (trafficCounter_port n 2 (by decide)), switchedOff_obj_of_ne s n (by unfold portKey recKey; omega)]
      exact hset
    · rw [hobj _ (trafficCounter_port n 0xE (by decide))]
      exact obj_setObj_same _ _ _
    · rw [hstays, if_neg hactive]
      exact ⟨(portState_fires _ n _).2.1, switchedOff_only s n⟩

theorem syncPairMode_of_mode {t : State} (h : decide (t.obj 0x250001 = 1) = t.pair.mode) : t.syncPairMode = t := if_pos (.inl h)

variable {s n}

/-- What the table says of an entry into HOLD. -/
theorem EntersHold.table {reason : Nat} {t : State} (h : EntersHold s n reason t)
    (hquiet : (s.port n).st ≠ .active → t.source (0xC0 + 4 * n) = (s.source (0xC0 + 4 * n)).arrive ∧ ∀ m, m ≠ n.val → t.port m = s.port m) :
    (t.port n).st = .hold ∧ (t.port n).nbr = none ∧ (t.port n).heard = false ∧ ((s.port n).lastHold = none → (t.port n).holdMs = 1) ∧
    (t.port n).lastHold = some s.time ∧ t.obj (portKey n 0xE) = reason ∧ t.log.entries.head? = some ⟨s.time, 4, 2, n, 0, reason⟩ ∧
    t.obj (portKey n 7) = min (s.obj (portKey n 7) + 1) (2 ^ 32 - 1) ∧ t.mem = s.mem ∧ t.seqs = s.seqs ∧ t.reqs = s.reqs ∧
    ((s.port n).st ≠ .active → t.source (0xC0 + 4 * n) = (s.source (0xC0 + 4 * n)).arrive ∧ ∀ m, m ≠ n.val → t.port m = s.port m) := by
  obtain ⟨⟨hst, hnbr, hheard⟩, ⟨hfirst, hlast⟩, ⟨hreason, hflaps⟩, hlog, hmem, hseqs, hreqs⟩ := h
  exact ⟨hst, hnbr, hheard, hfirst, hlast, hreason, hlog, hflaps, hmem, hseqs, hreqs, hquiet⟩

/-- PORT_STATE_TIMEOUT (R277). -/
theorem portStateTimeout_of_training (h : (s.port n).st = .training) (hdue : 2000000 ≤ s.since (s.port n).since) :
    execPortStateTimeout n s = .next (s.holdPort n 6) := by
  unfold execPortStateTimeout
  rw [h]
  exact congrArg Host.Outcome.next (if_pos hdue)

theorem portStateTimeout_of_pcsUp (h : (s.port n).st = .pcsUp) (hdue : 1000 ≤ s.since (s.port n).since) :
    execPortStateTimeout n s = .next (s.holdPort n 2) := by
  unfold execPortStateTimeout
  rw [h]
  exact congrArg Host.Outcome.next (if_pos hdue)

theorem portStateTimeout_of_early (htraining : (s.port n).st ≠ .training ∨ s.since (s.port n).since < 2000000)
    (hlock : (s.port n).st ≠ .pcsUp ∨ s.since (s.port n).since < 1000) : execPortStateTimeout n s = .next s := by
  unfold execPortStateTimeout
  refine congrArg Host.Outcome.next ?_
  split
  · exact if_neg (not_le.mpr (htraining.resolve_left (not_not.mpr ‹_›)))
  · exact if_neg (not_le.mpr (hlock.resolve_left (not_not.mpr ‹_›)))
  · rfl

/-! FEC_DEGRADE (R277, R293) -/

/-- The codewords are counted. -/
def coded (s : State) (n : Port) (a b : Nat) : State := (s.bumpBy (portKey n 8) a).bumpBy (portKey n 9) b

theorem coded_obj_ne {a b k : Nat} (h8 : k ≠ portKey n 8) (h9 : k ≠ portKey n 9) : (coded s n a b).obj k = s.obj k :=
  (obj_setObj_ne _ _ h9).trans (obj_setObj_ne _ _ h8)

theorem coded_obj (a b : Nat) : (coded s n a b).obj (portKey n 8) = (s.obj (portKey n 8) + a) % 2 ^ 64 ∧
    (coded s n a b).obj (portKey n 9) = min (s.obj (portKey n 9) + b) (2 ^ 32 - 1) := by
  obtain ⟨-, hwide, hnarrow⟩ := objMax_port n
  have hne : portKey n 9 ≠ portKey n 8 := by unfold portKey recKey; omega
  refine ⟨(obj_setObj_ne _ _ hne.symm).trans ((obj_setObj_same _ _ _).trans ?_), (obj_setObj_same _ _ _).trans ?_⟩
  · rw [hwide, if_pos rfl]
  · rw [hnarrow, if_neg (by decide)]
    exact congrArg (fun v => min (v + b) (2 ^ 32 - 1)) (obj_setObj_ne _ _ hne)

theorem fecDegrade_of_good {a b : Nat} (h : (s.port n).st ≠ .active ∨ b ≤ s.obj 0x250004) : s.fecDegrade n a b = coded s n a b := by
  refine if_neg fun ⟨hst, hmany⟩ => ?_
  have hlimit : (coded s n a b).obj 0x250004 = s.obj 0x250004 := coded_obj_ne (by unfold portKey recKey; omega) (by unfold portKey recKey; omega)
  exact h.elim (fun h => h hst) (fun h => absurd (hlimit ▸ hmany) (not_lt.mpr h))

theorem fecDegrade_of_bad {a b : Nat} (hst : (s.port n).st = .active) (hmany : s.obj 0x250004 < b) :
    s.fecDegrade n a b = ((coded s n a b).arrive (portSource n 1)).holdPort n 3 := by
  have hlimit : (coded s n a b).obj 0x250004 = s.obj 0x250004 := coded_obj_ne (by unfold portKey recKey; omega) (by unfold portKey recKey; omega)
  exact if_pos ⟨hst, hlimit.trans_lt hmany⟩

theorem fecDegrade_entersHold {a b : Nat} (hst : (s.port n).st = .active) (hmany : s.obj 0x250004 < b) : EntersHold s n 3 (s.fecDegrade n a b) := by
  rw [fecDegrade_of_bad hst hmany]
  refine (holdPort_entersHold _ n 3).of_eq (congrArg PortSt.lastHold (arrive_port _ _ _)) (arrive_time _ _) ?_ ?_
  · rw [arrive_obj]
    exact coded_obj_ne (by unfold portKey recKey; omega) (by unfold portKey recKey; omega)
  · exact ⟨arrive_mem _ _, arrive_seqs _ _, arrive_reqs _ _⟩

theorem hello_entersHold {h : Hello} (hst : (s.port n).st = .active) (hother : knows (s.port n) h = false) : EntersHold s n 5 (s.hello n h) := by
  rw [hello_of_active s n h hst, hother]
  exact (holdPort_entersHold (s.proof n) n 5).of_eq (by rw [proof_port]) rfl rfl ⟨rfl, rfl, rfl⟩

end

/-- What R275 says of a link-control frame. -/
theorem sendControl_table (s : State) (n : Nat) (y : PortSt) (subtype : Nat) (payload : List Nat) : let t := (s.setPort n y).sendControl n subtype payload
    if (y.ctlSent && s.packetsWait n) = true then t = s.setPort n { y with ctl := y.ctl ++ [s.controlFrame subtype payload] }
    else t = { s.setPort n { y with ctlSent := true } with out := .packet n (s.controlFrame subtype payload) :: s.out } := by
  dsimp only
  rw [sendControl_setPort]
  split <;> rfl

section
variable {s : State} {n : Port} {h : Hello} (hst : (s.port n).st = .hello) (hsame : knows (s.port n) h = true) (hup : comesUp s n h)
include hst hsame hup

/-- The state in which the neighbour's second HELLO has brought the port up. -/
theorem hello_comesUp (hrules : s.pairRules n h = true) (hwaiting : s.sched.waiting = []) :
    let y := heardFrom s.time (s.port n) h ((s.port n).hellos + 1)
    s.hello n h = withPartner n h (cameUp (s.setPort n y) n y) := by
  rw [hello_of_up hst hsame hup]
  exact (if_pos ((pairRules_setPort _).trans hrules)).trans (activatePort_of_none (s.setPort n _) n _ h hwaiting)

theorem hello_breaksRules (hrules : s.pairRules n h = false) :
    s.hello n h = (s.setPort n (heardFrom s.time (s.port n) h ((s.port n).hellos + 1))).setObj (portKey n 0xE) 8 := by
  rw [hello_of_up hst hsame hup]
  exact if_neg (by rw [pairRules_setPort, hrules]; decide)

end

section
variable (s : State) (n : Port) (x : PortSt) (h : Hello)

theorem withPartner_of_no_link (hlink : s.pairLink n = false) : withPartner n h (cameUp s n x) = cameUp s n x := by
  have hcame : (cameUp s n x).pairLink n = false := by unfold State.pairLink; rw [cameUp_pair]; exact hlink
  unfold withPartner
  rw [hcame]
  rfl

theorem withPartner_of_link (hlink : s.pairLink n = true) : let t := withPartner n h (cameUp s n x)
    (t.port n).st = .active ∧ t.pair.partner = h.node ∧ (s.pair.st = .off → t.pair.st = .forming ∧ t.source 3 = (s.source 3).arrive) ∧
    (s.pair.st ≠ .off → t.pair.st = s.pair.st) := by
  have hcame : (cameUp s n x).pairLink n = true := by unfold State.pairLink; rw [cameUp_pair]; exact hlink
  have hport : ((cameUp s n x).port n).st = .active := by rw [cameUp_port]; rfl
  have hsource : (cameUp s n x).source 3 = s.source 3 := by
    rw [cameUp_source]
    exact (source_arrive _ (sourceReal_port n 0 (by decide)) 3).trans (if_neg (by unfold portSource; omega))
  unfold withPartner
  dsimp only
  rw [hcame, cameUp_pair, if_neg (by decide)]
  by_cases hoff : s.pair.st = .off
  · rw [if_pos hoff, if_pos hoff]
    refine ⟨(congrArg PortSt.st (arrive_port _ _ _)).trans hport, by rw [arrive_pair], fun _ => ⟨by rw [arrive_pair], ?_⟩, fun hne => absurd hoff hne⟩
    exact (source_arrive _ (by decide) 3).trans ((if_pos rfl).trans (congrArg GSource.arrive hsource))
  · rw [if_neg hoff, if_neg hoff]
    exact ⟨hport, rfl, fun he => absurd he hoff, fun _ => rfl⟩

end

/-- Settles O36: each command by the case of the port's state that R277's table names; an entry into HOLD is `EntersHold`, whatever the packets of an
ACTIVE port then do (`Rerouted`). A HELLO is read as log entry 56 says, and a link-control frame waits as log entry 153 says. -/
theorem portsChangeStateByTheTable : Obligations.PortsChangeStateByTheTable := by
  unfold Obligations.PortsChangeStateByTheTable
  intro s n
  dsimp only
  have hdown (reason : Nat) := (holdPort_entersHold s n reason).table (holdPort_of_not_active s n reason)
  have hfires (x : PortSt) := portState_fires s n x
  refine ⟨⟨_, rfl, enablePort_cases s n⟩, fun hmode => ⟨_, rfl, ?_⟩, fun hst => ⟨_, congrArg Host.Outcome.next (if_pos hst), hfires _⟩,
    fun hst => ⟨_, congrArg Host.Outcome.next (if_neg hst), rfl⟩, fun hst => ⟨_, congrArg Host.Outcome.next (if_pos hst), hfires _⟩,
    fun hst => ⟨_, congrArg Host.Outcome.next (if_neg hst), rfl⟩, fun hst hdue => ⟨_, portStateTimeout_of_training hst hdue, hdown 6⟩,
    fun hst hdue => ⟨_, portStateTimeout_of_pcsUp hst hdue, hdown 2⟩, fun htraining hlock => ⟨_, portStateTimeout_of_early htraining hlock, rfl⟩,
    fun a b => ⟨fun hst hmany => ⟨_, rfl, ?_⟩, fun hgood => ⟨_, congrArg Host.Outcome.next (fecDegrade_of_good hgood), rfl, coded_obj a b⟩⟩,
    fun hst => ⟨⟨_, congrArg Host.Outcome.next (if_pos hst), hdown 1⟩, ⟨_, congrArg Host.Outcome.next (if_pos hst), hdown 2⟩,
      fun hdue => ⟨_, congrArg Host.Outcome.next (if_pos ⟨hst, hdue⟩), hdown 4⟩, fun h hother => ⟨_, rfl, ?_⟩⟩,
    fun hst => ⟨⟨_, congrArg Host.Outcome.next (if_neg hst), rfl⟩, ⟨_, congrArg Host.Outcome.next (if_neg hst), rfl⟩⟩,
    fun hearly => ⟨_, congrArg Host.Outcome.next (if_neg ?_), rfl⟩,
    fun hst hon hdue => ⟨_, congrArg Host.Outcome.next (if_pos ⟨hst, hon, hdue⟩), hfires _⟩,
    fun hearly => ⟨_, congrArg Host.Outcome.next (if_neg ?_), rfl⟩, fun h o hst ho hdigest hnode => ⟨_, rfl, ?_⟩,
    fun h hactive hhello => ⟨_, congrArg Host.Outcome.next (hello_of_deaf s n h hactive hhello), rfl⟩,
    fun h hst hother => ⟨_, congrArg Host.Outcome.next (hello_of_other hst (knows_of_other hother)), ?_⟩,
    fun h o hst ho hdigest hnode => ?_, fun hst => ⟨_, congrArg Host.Outcome.next (if_pos hst), ?_⟩, fun hhello hactive => ⟨_, congrArg Host.Outcome.next (if_neg ?_), rfl⟩,
    fun hst => ⟨_, congrArg Host.Outcome.next (if_pos hst), ?_⟩, fun hst => ⟨⟨_, congrArg Host.Outcome.next (if_neg hst), rfl⟩, fun g => ⟨_, congrArg Host.Outcome.next (if_neg hst), rfl⟩⟩,
    fun g hst hwaiting => ⟨_, congrArg Host.Outcome.next (if_pos hst), respray_of_none _ hwaiting⟩⟩
  · obtain ⟨hobj, hpair⟩ := disablePort_mode s n
    rw [syncPairMode_of_mode (by rw [hobj, hpair]; exact hmode)]
    exact disablePort_cases s n
  · exact (fecDegrade_entersHold hst hmany).table fun h => absurd hst h
  · exact (hello_entersHold hst (knows_of_other hother)).table fun h => absurd hst h
  · rintro ⟨hst, hdue⟩
    exact hearly.elim (fun h => h hst) (fun h => absurd hdue (not_le.mpr h))
  · rintro ⟨hst, hon, hdue⟩
    exact hearly.elim (fun h => h hst) (fun h => h.elim (fun h => h hon) (fun h => absurd hdue (not_le.mpr h)))
  · exact (hello_of_active s n h hst).trans (if_pos (knows_of_same ho hdigest hnode))
  · refine ⟨?_, noteNeighbour_digest _ n h, ?_⟩
    · rw [noteNeighbour_port, port_setPort_same]
      rfl
    · rw [noteNeighbour_only]
      rfl
  · have hsame := knows_of_same ho hdigest hnode
    refine ⟨fun hup => ⟨_, congrArg Host.Outcome.next (hello_of_early hst hsame hup), rfl⟩, fun hup hlink hwaiting => ?_, fun hup hlink hrules => ?_,
      fun hup hlink hrules hwaiting => ?_⟩
    · have hrules : s.pairRules n h = true := by rw [State.pairRules, hlink]; rfl
      refine ⟨_, congrArg Host.Outcome.next ((hello_comesUp hst hsame hup hrules hwaiting).trans (withPartner_of_no_link _ n _ h hlink)), ?_⟩
      obtain ⟨hout, hctl⟩ := cameUp_credit (s.setPort n (heardFrom s.time (s.port n) h ((s.port n).hellos + 1))) n (heardFrom s.time (s.port n) h ((s.port n).hellos + 1))
      refine ⟨?_, ?_, ?_, ?_, hout, hctl, (cameUp_source _ n _ _).trans (portState_fires _ n _).2.1⟩ <;> rw [cameUp_port] <;> rfl
    · exact ⟨_, congrArg Host.Outcome.next (hello_breaksRules hst hsame hup hrules), port_setPort_same _ _ _, obj_setObj_same _ _ _, rfl⟩
    · exact ⟨_, congrArg Host.Outcome.next (hello_comesUp hst hsame hup hrules hwaiting), withPartner_of_link _ n _ h hlink⟩
  · exact sendControl_table s n { s.port n with seq := ((s.port n).seq + 1) % 65536 } 1 (s.ownHello n).bytes
  · exact not_or.mpr ⟨hhello, hactive⟩
  · exact sendControl_table s n { s.port n with returned := [] } 2 _

end Sys2Proof.Proofs

/-! PROOFS. The redundant pair (O45): what a commit leaves of the pair, the entry into sole-owner mode, record numbers, beats, rebuilds and the
holding of records. -/

namespace Sys2Proof.Safety
open Sys2Proof.Machine

/-- The device time stands, and of the pair all but what it has placed and holds of its partner's records (R361, R363). -/
def PairStands (s t : State) : Prop := t.time = s.time ∧ t.pair = { s.pair with rxPlaced := t.pair.rxPlaced, heldRecs := t.pair.heldRecs }

theorem PairStands.of_eq {s t : State} (htime : t.time = s.time) (hpair : t.pair = s.pair) : PairStands s t := ⟨htime, by rw [hpair]⟩

theorem PairStands.refl (s : State) : PairStands s s := .of_eq rfl rfl

theorem PairStands.trans {s t u : State} (h : PairStands s t) (g : PairStands t u) : PairStands s u := ⟨g.1.trans h.1, Eq.trans g.2 (by rw [h.2])⟩

theorem PairStands.ite {s a b : State} {c : Prop} [Decidable c] (h : PairStands s a) (g : PairStands s b) : PairStands s (if c then a else b) := by
  split <;> assumption

theorem PairStands.foldl {α : Type} {f : State → α → State} (h : ∀ s x, PairStands s (f s x)) (l : List α) (s : State) : PairStands s (l.foldl f s) :=
  List.foldlRecOn (motive := PairStands s) l f (.refl s) fun u hu x _ => hu.trans (h u x)

theorem OnlyAnswered.pairStands {s t : State} (h : OnlyAnswered s t) : PairStands s t := by
  rw [h.2]
  exact .of_eq rfl rfl

theorem OnlyAnswered.pair_eq {s t : State} (h : OnlyAnswered s t) : t.pair = s.pair := by rw [h.2]

theorem OnlyWorked.pairStands {s t : State} (h : OnlyWorked s t) : PairStands s t := by
  rw [h.2]
  exact .of_eq rfl rfl

theorem OnlyDropped.pairStands {s t : State} (h : OnlyDropped s t) : PairStands s t := by
  rw [h.2]
  exact .of_eq rfl rfl

theorem OnlySealed.pairStands {s t : State} (h : OnlySealed s t) : PairStands s t := by
  rw [h]
  exact .of_eq rfl rfl

end Sys2Proof.Safety

namespace Sys2Proof.Proofs
open Sys2Proof.Machine Sys2Proof.Safety Sys2Proof.Laws

/-! ### What ends a request leaves of the pair (R15, R168, R363) -/

section
variable (s : State)

theorem drawId_pair (slot : Nat) : PairStands s (s.drawId slot).1 := by
  unfold State.drawId
  dsimp only
  split_ifs
  · exact .of_eq rfl rfl
  · exact .of_eq (arrive_time _ _) (arrive_pair _ _)
  · exact .of_eq rfl rfl

theorem sendMirrorAck_pair (refused : Nat) : PairStands s (s.sendMirrorAck refused) := by
  unfold State.sendMirrorAck
  dsimp only
  refine .trans (.of_eq rfl rfl) ((drawId_pair { s with out := .recordAck (s.pair.rxPlaced % 2 ^ 32) (refused % 2 ^ 32) :: s.out } 0).trans ?_)
  exact (sendMirror_onlyAnswered _ _ _ _ _ _).pairStands

theorem recordDone_pair (n : Nat) (placed : Bool) : PairStands s (s.recordDone n placed) := by
  unfold State.recordDone
  exact .ite (.refl s) (.trans ⟨rfl, rfl⟩ (sendMirrorAck_pair _ 0))

theorem reply_pair (src : Src) (tag gen tenant replyAt : Nat) (data : List Nat) (a : Answer) : PairStands s (s.reply src tag gen tenant replyAt data a) := by
  cases src with
  | mirror n => exact recordDone_pair s n _
  | fabric | ring => exact (reply_onlyAnswered s tag gen tenant replyAt data a rfl).pairStands

theorem complete_pair (tag : Nat) (q : Request) (a : Answer) (data : List Nat) : PairStands s (s.complete tag q a data) := by
  rw [complete_eq_closed]
  exact .trans (.of_eq rfl rfl) (reply_pair (closed s tag q a) _ _ _ _ _ _ _)

theorem releaseHeld_pair (tag : Nat) (q : Request) : PairStands s (s.releaseHeld tag q) := by
  refine .of_eq ?_ ?_
  · refine foldl_proj_eq (p := State.time) (fun u w => ?_) q.writes _
    dsimp only
    split <;> rfl
  · refine foldl_proj_eq (p := State.pair) (fun u w => ?_) q.writes _
    dsimp only
    split <;> rfl

theorem fail_pair (tag : Nat) (q : Request) (a : Answer) : PairStands s (s.fail tag q a) := (releaseHeld_pair s tag q).trans (complete_pair _ tag q a [])

theorem chargeBy_pair (t : Nat) (f : Charges → Charges) : PairStands s (s.chargeBy t f) := .of_eq rfl rfl

theorem setSeq_pair (i : Nat) (e : Seq) : PairStands s (s.setSeq i e) := .of_eq rfl rfl

theorem bumpBy_pairStands (k n : Nat) : PairStands s (s.bumpBy k n) := .of_eq rfl rfl

theorem delFrame_pair (k : Nat) : PairStands s { s with frames := Map.del s.frames k } := .of_eq rfl rfl

theorem setPolder_pair (p : Nat) (x : Polder) : PairStands s (s.setPolder p x) := .of_eq rfl rfl

theorem link_pair (q : Request) : PairStands s (s.link q) := by
  unfold State.link
  split
  · exact .refl s
  · dsimp only
    refine .trans (.foldl (fun u w => ?_) q.writes s) (setSeq_pair _ _ _)
    split
    · exact .refl u
    · refine (putFrame_onlyDropped u _ _).pairStands.trans (.ite (chargeBy_pair _ _ _) (.trans (.trans ?_ (delFrame_pair _ _)) (setPolder_pair _ _ _)))
      split
      · exact (writeStack_onlyDropped _ _ _).pairStands
      · exact .refl _

theorem meterRequest_pair (q : Request) : PairStands s (s.meterRequest q) := by
  have hadd (u : State) (t kind n : Nat) : PairStands u (u.meterAdd t kind n) := .of_eq rfl rfl
  unfold State.meterRequest
  dsimp only
  exact .ite (.ite ((hadd _ _ _ _).trans (hadd _ _ _ _)) (hadd _ _ _ _)) (.ite (hadd _ _ _ _) (.ite (.ite (hadd _ _ _ _) ((hadd _ _ _ _).trans (hadd _ _ _ _))) (.refl s)))

theorem replySegments_pair (tag : Nat) (q : Request) (sh : Shape) (parts : List (List Nat)) : PairStands s (s.replySegments tag q sh parts) := by
  unfold State.replySegments
  split
  · exact .refl s
  · exact .refl s
  · rename_i slot _ _
    dsimp only
    refine .foldl (fun u x => (drawId_pair u slot).trans ?_) _ s
    exact .trans (t := { (u.drawId slot).1 with out := _ }) (.of_eq rfl rfl) (sourceMessage_onlyAnswered _ _ _ _ _ _ _ _ _ _ _).pairStands

theorem drawId_reqs (slot : Nat) : (s.drawId slot).1.reqs = s.reqs := by
  unfold State.drawId
  dsimp only
  split_ifs
  · rfl
  · exact arrive_reqs _ _
  · rfl

theorem putFrame_sameRequests (k : Nat) (f : Frame) : SameRequests s (s.putFrame k f) :=
  (setFrames_sameRequests s _).trans (writeStack_sameRequests _ _ _)

theorem setPolder_sameRequests (p : Nat) (x : Polder) : SameRequests s (s.setPolder p x) := ⟨rfl, rfl, rfl, rfl, rfl⟩

theorem link_sameRequests (q : Request) : SameRequests s (s.link q) := by
  unfold State.link
  split
  · exact .refl s
  · dsimp only
    refine SameRequests.trans (.foldl (fun u w => ?_) q.writes s) ⟨rfl, rfl, rfl, rfl, rfl⟩
    split
    · exact .refl u
    · split
      · exact (putFrame_sameRequests u _ _).trans (chargeBy_sameRequests _ _ _)
      · refine SameRequests.trans (.trans ?_ (setFrames_sameRequests _ _)) (setPolder_sameRequests _ _ _)
        split
        · exact (putFrame_sameRequests u _ _).trans (writeStack_sameRequests _ _ _)
        · exact putFrame_sameRequests u _ _

theorem meterRequest_reqs (q : Request) : (s.meterRequest q).reqs = s.reqs := by
  unfold State.meterRequest
  dsimp only
  split_ifs <;> rfl

theorem replySegments_reqs (tag : Nat) (q : Request) (sh : Shape) (parts : List (List Nat)) : (s.replySegments tag q sh parts).reqs = s.reqs := by
  unfold State.replySegments
  split
  · rfl
  · rfl
  · refine foldl_proj_eq (p := State.reqs) (fun u x => ?_) _ s
    exact (sourceMessage_onlyAnswered _ _ _ _ _ _ _ _ _ _ _).reqs_eq.trans (drawId_reqs u _)

/-- A request that ends OK is completed once its effects stand; they leave the pair and the other requests (R168, R197). -/
theorem commit_eq_complete (tag : Nat) (q : Request) : ∃ u body data, s.commit tag q = u.complete tag q (.ok body) data ∧ PairStands s u ∧ u.reqs = s.reqs := by
  have hlinked : PairStands s (if q.isWrite then s.link q else s) ∧ (if q.isWrite then s.link q else s).reqs = s.reqs := by
    split
    · exact ⟨link_pair s q, (link_sameRequests s q).reqs_eq⟩
    · exact ⟨.refl s, rfl⟩
  unfold State.commit
  dsimp only
  generalize (if q.isWrite = true then s.link q else s) = t at hlinked ⊢
  obtain ⟨hpair, hreqs⟩ := hlinked
  have hmetered : PairStands s (if q.src.isMirror then t else t.meterRequest q) ∧ (if q.src.isMirror then t else t.meterRequest q).reqs = s.reqs := by
    split
    · exact ⟨hpair, hreqs⟩
    · exact ⟨hpair.trans (meterRequest_pair t q), (meterRequest_reqs t q).trans hreqs⟩
  generalize (if q.src.isMirror = true then t else t.meterRequest q) = u at hmetered ⊢
  obtain ⟨hpair, hreqs⟩ := hmetered
  have hsegments (v : State) (sh : Shape) (parts : List (List Nat)) (hp : PairStands s v) (hr : v.reqs = s.reqs) :
      PairStands s (if q.kind = 3 then v.replySegments tag q sh parts else v) ∧ (if q.kind = 3 then v.replySegments tag q sh parts else v).reqs = s.reqs := by
    split
    · exact ⟨hp.trans (replySegments_pair v tag q sh parts), (replySegments_reqs v tag q sh parts).trans hr⟩
    · exact ⟨hp, hr⟩
  have hout (v : State) (c : Prop) [Decidable c] (l : List Out) (h : PairStands s v ∧ v.reqs = s.reqs) :
      PairStands s (if c then v else { v with out := l }) ∧ (if c then v else { v with out := l }).reqs = s.reqs := by
    split
    · exact h
    · exact ⟨h.1.trans (.of_eq rfl rfl), h.2⟩
  exact ⟨_, _, _, rfl, hout _ _ _ (hsegments { u with bodies := Map.keep u.bodies fun _ b => decide (b.tag ≠ tag) } _ _ (hpair.trans (.of_eq rfl rfl)) hreqs)⟩

theorem commit_pair (tag : Nat) (q : Request) : PairStands s (s.commit tag q) := by
  obtain ⟨u, body, data, heq, hpair, -⟩ := commit_eq_complete s tag q
  rw [heq]
  exact hpair.trans (complete_pair u _ _ _ _)

end

/-! ### What a commit leaves of the pair (R197 to R201, R206, R213 to R216, R361) -/

section
variable (s : State)

theorem copyPage_pair (sh : Shape) (src dst v : Nat) : PairStands s (s.copyPage sh src dst v) := by
  unfold State.copyPage
  split
  · exact .refl s
  · have hread : PairStands s ((s.pageAccess 4 src sh).pageAccess 4 dst sh) :=
      ((pageAccess_onlyWorked s _ _ _).trans (pageAccess_onlyWorked _ _ _ _)).pairStands
    refine (hread.trans (.foldl (fun u k => ?_) _ _)).trans ((putFrame_onlyDropped _ _ _).pairStands.trans (bumpBy_pairStands _ _ _))
    exact (writeStack_onlyDropped u _ _).pairStands

theorem copyPages_pair (sh : Shape) (src : Nat × Nat × Nat → Nat) (v : Nat) (l : List (Nat × Nat × Nat)) :
    PairStands s (l.foldl (fun s w => s.copyPage sh (src w) w.2.1 v) s) := .foldl (fun u _ => copyPage_pair u sh _ _ v) l s

theorem addRef_pair (k : Nat) : PairStands s (s.addRef k) := by
  unfold State.addRef
  split
  · exact .refl s
  · exact PairStands.trans (.ite (.refl s) (recount_onlyDropped s _ _ _).pairStands) (journal_onlyDropped _ _ _).pairStands

theorem commitCreate_pair (tag : Nat) (q : Request) : PairStands s (s.commitCreate tag q) := (setSeq_pair s _ _).trans (complete_pair _ _ _ _ _)

theorem commitFork_pair (tag : Nat) (q : Request) : PairStands s (s.commitFork tag q) := by
  unfold State.commitFork
  split
  · exact fail_pair s tag q _
  · rename_i e _
    exact ((copyPages_pair s _ _ _ q.writes).trans (chargeBy_pair _ _ _)).trans
      ((PairStands.foldl addRef_pair _ _).trans ((setSeq_pair _ _ _).trans (complete_pair _ _ _ _ _)))

theorem truncate_pair (i : Nat) (e : Seq) (sh : Shape) (p : Nat) (copies : List (Nat × Nat × Nat)) : PairStands s (s.truncate i e sh p copies) :=
  (setSeq_pair s _ _).trans (dropRefs_onlyDropped _ _).pairStands

theorem commitTruncate_pair (tag : Nat) (q : Request) : PairStands s (s.commitTruncate tag q) := by
  unfold State.commitTruncate
  split
  · exact fail_pair s tag q _
  · exact ((copyPages_pair s _ _ _ q.writes).trans (chargeBy_pair _ _ _)).trans ((truncate_pair _ _ _ _ _ _).trans (complete_pair _ _ _ _ _))

theorem freeT2_pair (i : Nat) (e : Seq) : PairStands s (s.freeT2 i e) := .of_eq rfl rfl

theorem freeT3_pair (i : Nat) (e : Seq) : PairStands s (s.freeT3 i e) := .of_eq rfl rfl

theorem dropAll_pair (i : Nat) (e : Seq) : PairStands s (s.dropAll i e) := by
  unfold State.dropAll
  dsimp only
  exact .trans (.trans ((freeT2_pair s i e).trans (dropRefs_onlyDropped _ _).pairStands) (.ite (freeT3_pair _ i e) (.refl _))) (.of_eq rfl rfl)

theorem commitRelease_pair (tag : Nat) (q : Request) : PairStands s (s.commitRelease tag q) := by
  unfold State.commitRelease
  split
  · exact complete_pair s tag q _ _
  · exact (dropAll_pair s _ _).trans (complete_pair _ _ _ _ _)

theorem commitPin_pair (tag : Nat) (q : Request) : PairStands s (s.commitPin tag q) := by
  unfold State.commitPin
  split
  · exact fail_pair s tag q _
  · dsimp only
    split
    · refine PairStands.trans ?_ (complete_pair _ _ _ _ _)
      exact .ite (.of_eq rfl rfl) (.of_eq rfl rfl)
    · refine PairStands.trans (.foldl (fun u k => ?_) _ s) (complete_pair _ _ _ _ _)
      split
      · exact .ite (.refl u) (recount_onlyDropped u _ _ _).pairStands
      · exact .refl u

theorem giveExtents_pair (d : Nat) (l : List Nat) : PairStands s (s.giveExtents d l) := .of_eq rfl rfl

theorem undoMove_pair (i : Nat) : PairStands s (s.undoMove i) := by
  unfold State.undoMove
  split
  · exact .refl s
  · dsimp only
    split
    · exact (chargeBy_pair s _ _).trans (setSeq_pair _ _ _)
    · exact ((chargeBy_pair s _ _).trans (giveExtents_pair _ _ _)).trans (setSeq_pair _ _ _)
    · refine .trans ?_ (dropRefs_onlyDropped _ _).pairStands
      exact .of_eq rfl rfl
    · exact .refl s

theorem commitSpill_pair {i : Nat} {e : Seq} {t : State} {body : List Nat} (h : s.commitSpill i e = some (t, body)) : PairStands s t := by
  unfold State.commitSpill at h
  dsimp only at h
  split at h
  · cases h
  · rename_i u f n hfold
    obtain ⟨rfl, -⟩ := Prod.mk.inj (Option.some.inj h)
    exact ((foldl_spillOne_some hfold).1.pairStands.trans (chargeBy_pair _ _ _)).trans ((setSeq_pair _ _ _).trans (dropRefs_onlyDropped _ _).pairStands)

theorem commitFlush_pair (i : Nat) (e : Seq) (lost : List Nat) : PairStands s (s.commitFlush i e lost).1 := by
  obtain ⟨copied, blocks, img, out, heq⟩ := commitFlush_eq s i e lost
  have hcounted : PairStands s (((e.leaves.filter fun l => decide (l.2.loc = 1)).foldl (fun u l => u.countCoded l.2.val (s.shape e.binding)) s).bumpBy 0x290105 copied) :=
    (OnlySealed.trans (.foldl (fun u _ => countCoded_onlySealed u _ _) _ s) (bumpBy_onlySealed _ _ _)).pairStands
  have hfreed : PairStands s (flushFreed s i e copied) := hcounted.trans ((freeT2_pair _ i e).trans (dropRefs_onlyDropped _ _).pairStands)
  rw [heq]
  generalize flushFreed s i e copied = u at hfreed ⊢
  exact hfreed.trans (.of_eq rfl rfl)

/-- What a restore releases once its good frames are linked: the frames that are bad, its reservation, and its records or image. -/
theorem restoreFreed_pair (t : State) (frames : Map Frame) (i : Nat) (e : Seq) (n : Nat) : PairStands t (State.bumpBy
    (if e.prior = .flushed then ({ t with frames := frames }.chargeBy (tenantOf i) fun c => { c with r1 := c.r1 - e.reserved, t1 := c.t1 + n }).freeT3 i e
      else ({ t with frames := frames }.chargeBy (tenantOf i) fun c => { c with r1 := c.r1 - e.reserved, t1 := c.t1 + n }).freeT2 i e) 0x290103 n) := by
  have hframes : PairStands t { t with frames := frames } := .of_eq rfl rfl
  exact (hframes.trans (chargeBy_pair _ _ _)).trans (.trans (.ite (freeT3_pair _ i e) (freeT2_pair _ i e)) (bumpBy_pairStands _ _ _))

theorem commitRestore_pair (i : Nat) (e : Seq) (lost : List Nat) : PairStands s (s.commitRestore i e lost).1 := by
  unfold State.commitRestore
  dsimp only
  split
  · refine PairStands.trans (.trans (.foldl (fun u m => ?_) _ s) (restoreFreed_pair _ _ i e _)) (setSeq_pair _ _ _)
    split
    · exact (putFrame_onlyDropped u _ _).pairStands
    · exact .refl u
  · refine PairStands.trans (.trans (.foldl (fun u m => ?_) _ s) (restoreFreed_pair _ _ i e _))
      ((setSeq_pair _ _ _).trans ((truncate_pair _ _ _ _ _ _).trans (bumpBy_pairStands _ _ _)))
    split
    · exact (putFrame_onlyDropped u _ _).pairStands
    · exact .refl u

theorem finishMove_pair (o : Option Nat) (a : Answer) : PairStands s (match o with
    | none => s
    | some tag => match Map.find s.reqs tag with
      | some q => s.complete tag q a
      | none => s) := by
  split
  · exact .refl s
  · split
    · exact complete_pair s _ _ _ _
    · exact .refl s

theorem commitMove_pair (i : Nat) (e : Seq) (lost : List Nat) : PairStands s (s.commitMove i e lost) := by
  unfold State.commitMove
  dsimp only
  split
  · split
    · rename_i t body h
      have hcommit := commitSpill_pair s h
      exact PairStands.trans (.ite (hcommit.trans ((bumpBy_pairStands _ _ _).trans (bumpBy_pairStands _ _ _))) hcommit) (finishMove_pair _ _ _)
    · exact (undoMove_pair s i).trans (finishMove_pair _ _ _)
  · have hcommit := commitFlush_pair s i e lost
    exact PairStands.trans (.ite (hcommit.trans ((bumpBy_pairStands _ _ _).trans (bumpBy_pairStands _ _ _))) hcommit) (finishMove_pair _ _ _)
  · exact (commitRestore_pair s i e lost).trans (finishMove_pair _ _ _)
  · exact .refl s

theorem commitClaimed_pair (tag : Nat) (q : Request) : PairStands s (s.commitClaimed tag q) := by
  unfold State.commitClaimed
  dsimp only
  refine .ite (commit_pair s tag q) (.ite (.ite (commitCreate_pair s tag q) (commitFork_pair s tag q))
    (.ite (.ite (commitTruncate_pair s tag q) (commitRelease_pair s tag q)) (.ite (commitPin_pair s tag q) ?_)))
  split
  · refine .ite ?_ (complete_pair s tag q _ _)
    unfold State.commitMoved
    split
    · exact commitMove_pair s _ _ _
    · exact .refl s
  · exact fail_pair s tag q _

theorem commitRecords_pair (first n : Nat) : PairStands s (s.commitRecords first n) := by
  unfold State.commitRecords
  refine .foldl (fun u i => ?_) _ s
  split
  · exact commitClaimed_pair u _ _
  · exact .refl u

end

/-! ### Records given up (R361, R366) -/

theorem commitRecords_of_none {s : State} {first n : Nat} (h : ∀ e ∈ s.reqs, e.2.phase = .mirror → ∀ i < n, e.2.lastRecord ≠ first + i) :
    s.commitRecords first n = s := by
  have hfind (i : Nat) (hi : i < n) : (s.reqs.find? fun e => decide (e.2.phase = .mirror) && decide (e.2.lastRecord = first + i)) = none := by
    refine List.find?_eq_none.mpr fun e he hmatch => ?_
    obtain ⟨hphase, hlast⟩ := Bool.and_eq_true_iff.mp hmatch
    exact h e he (of_decide_eq_true hphase) i hi (of_decide_eq_true hlast)
  unfold State.commitRecords
  refine List.foldlRecOn (motive := fun t => t = s) (List.range n) _ rfl fun t ht i hi => ?_
  rw [ht, hfind i (List.mem_range.mp hi)]

theorem commitRecords_succ (s : State) (first n : Nat) : s.commitRecords first (n + 1) = (s.commitRecords first n).commitRecords (first + n) 1 := by
  unfold State.commitRecords
  rw [List.range_succ, List.foldl_append]
  rfl

/-- The one request that waits for a record commits once its last record is among those placed. -/
theorem commitRecords_of_one {s : State} {k first n : Nat} {q : Request} (hreqs : s.reqs = [(k, q)]) (hphase : q.phase = .mirror) (hfirst : first ≤ q.lastRecord)
    (hlast : q.lastRecord < first + n) (hgone : (s.commitClaimed k q).reqs = []) : s.commitRecords first n = s.commitClaimed k q := by
  induction n with
  | zero => omega
  | succ n ih =>
    rw [commitRecords_succ]
    by_cases hearlier : q.lastRecord < first + n
    · rw [ih hearlier]
      exact commitRecords_of_none (by simp [hgone])
    · have hnone : s.commitRecords first n = s := commitRecords_of_none (by rw [hreqs]; simp; omega)
      have heq : q.lastRecord = first + n := by omega
      rw [hnone]
      unfold State.commitRecords
      simp [hreqs, hphase, heq]

/-- A single append, prefill or attend that waits for its record commits: it is answered OK, and no request is left. -/
theorem commitClaimed_of_write {s : State} {k : Nat} {q : Request} (hreqs : s.reqs = [(k, q)]) (hkind : q.kind ≤ 3) :
    (s.commitClaimed k q).reqs = [] ∧ (q.src.isMirror = false → ∃ a : Answer, a.status = .ok ∧ Answered (s.commitClaimed k q) q.src k q.gen a) := by
  obtain ⟨u, body, data, heq, -, hsame⟩ := commit_eq_complete s k q
  rw [show s.commitClaimed k q = s.commit k q from if_pos hkind, heq]
  refine ⟨?_, fun hsrc => ⟨.ok body, rfl, complete_answered u k q _ data hsrc⟩⟩
  rw [complete_reqs, hsame, hreqs]
  simp [Map.del]

theorem logEvent_answered {t : State} {src : Src} {tag gen : Nat} {a : Answer} (h : Answered t src tag gen a) (code cls unit count data : Nat) :
    Answered (t.logEvent code cls unit count data) src tag gen a := by
  unfold Answered at h ⊢
  rw [logEvent_out, logEvent_host, logEvent_time]
  exact h

theorem giveUpRecords_pair (s : State) : s.giveUpRecords.time = s.time ∧ s.giveUpRecords.pair.st = s.pair.st ∧ s.giveUpRecords.pair.cause = s.pair.cause ∧
    s.giveUpRecords.pair.unplaced = [] ∧ s.giveUpRecords.pair.rebuilt = s.pair.rebuilt ∧ s.giveUpRecords.pair.mode = s.pair.mode := by
  obtain ⟨htime, hpair⟩ := commitRecords_pair { s with pair := { s.pair with placed := s.pair.next - 1, sent := s.pair.next - 1, unplaced := [] } }
    (s.pair.placed + 1) (s.pair.next - 1 - s.pair.placed)
  unfold State.giveUpRecords
  dsimp only
  rw [hpair]
  exact ⟨htime, rfl, rfl, rfl, rfl, rfl⟩

/-- What a device that has become sole owner has done with its records (R365, R366). -/
def TakesOver (s t : State) (cause : Nat) : Prop :=
  t.pair.st = .soleOwner ∧ t.pair.cause = cause ∧ t.pair.unplaced = [] ∧ t.log.entries.head? = some ⟨s.time, 6, 0, 0, cause, 0⟩ ∧
  ((∀ e ∈ s.reqs, e.2.phase ≠ .mirror) → t.mem = s.mem ∧ t.seqs = s.seqs ∧ t.reqs = s.reqs) ∧
  ∀ k q, s.reqs = [(k, q)] → q.phase = .mirror → q.kind ≤ 3 → q.src.isMirror = false → s.pair.placed < q.lastRecord → q.lastRecord < s.pair.next →
    t.reqs = [] ∧ ∃ a, a.status = .ok ∧ Answered t q.src k q.gen a

/-- What a state shares with the one before is all that the entry reads. -/
theorem TakesOver.of_eq {r s t : State} {cause : Nat} (h : TakesOver r t cause) (htime : r.time = s.time) (hreqs : r.reqs = s.reqs) (hmem : r.mem = s.mem)
    (hseqs : r.seqs = s.seqs) (hplaced : r.pair.placed = s.pair.placed) (hnext : r.pair.next = s.pair.next) : TakesOver s t cause := by
  unfold TakesOver at h ⊢
  rwa [← htime, ← hreqs, ← hmem, ← hseqs, ← hplaced, ← hnext]

theorem setPairState_of_ne {s : State} {st : PairState} (h : s.pair.st ≠ st) : s.setPairState st = { s with pair := { s.pair with st := st } }.arrive 0x003 := if_neg h

/-- A device that leaves PAIRED as sole owner before its records are given up. -/
def soleOwned (s : State) (cause : Nat) : State := { s with pair := { s.pair with cause := cause, st := .soleOwner } }.arrive 0x003

theorem enterSole_of_paired {s : State} (h : s.pair.st = .paired) (cause : Nat) : s.enterSole cause = (soleOwned s cause).giveUpRecords.logEvent 6 0 0 cause 0 := by
  unfold State.enterSole
  rw [h]
  dsimp only
  rw [setPairState_of_ne (by dsimp only; rw [h]; decide)]
  rfl

theorem enterSole_takesOver {s : State} (h : s.pair.st = .paired) (cause : Nat) : TakesOver s (s.enterSole cause) cause := by
  have hpair : (soleOwned s cause).pair = { s.pair with cause := cause, st := .soleOwner } := arrive_pair _ _
  have hreqs : (soleOwned s cause).reqs = s.reqs := arrive_reqs _ _
  have hsame : (soleOwned s cause).mem = s.mem ∧ (soleOwned s cause).seqs = s.seqs ∧ (soleOwned s cause).time = s.time :=
    ⟨arrive_mem _ _, arrive_seqs _ _, arrive_time _ _⟩
  rw [enterSole_of_paired h]
  generalize soleOwned s cause = v at *
  obtain ⟨hmem, hseqs, hnow⟩ := hsame
  obtain ⟨htime, hst, hcause, hunplaced, -, -⟩ := giveUpRecords_pair v
  refine ⟨?_, ?_, ?_, ?_, fun hnone => ?_, fun k q hone hphase hkind hsrc hfirst hlast => ?_⟩
  · rw [logEvent_pair, hst, hpair]
  · rw [logEvent_pair, hcause, hpair]
  · rw [logEvent_pair, hunplaced]
  · rw [logEvent_log_head, htime, hnow]
  · have hgiven : v.giveUpRecords = { v with pair := { v.pair with placed := v.pair.next - 1, sent := v.pair.next - 1, unplaced := [] } } :=
      commitRecords_of_none fun e he hphase => absurd hphase (hnone e (hreqs ▸ he))
    rw [logEvent_mem, logEvent_seqs, logEvent_reqs, hgiven]
    exact ⟨hmem, hseqs, hreqs⟩
  · obtain ⟨hgone, hanswer⟩ := commitClaimed_of_write (s := { v with pair := { v.pair with placed := v.pair.next - 1, sent := v.pair.next - 1, unplaced := [] } })
      (k := k) (q := q) (hreqs.trans hone) hkind
    have hgiven : v.giveUpRecords = State.commitClaimed _ k q :=
      commitRecords_of_one (hreqs.trans hone) hphase (by rw [hpair]; exact hfirst) (by rw [hpair]; dsimp only; omega) hgone
    obtain ⟨a, hok, ha⟩ := hanswer hsrc
    rw [logEvent_reqs, hgiven]
    exact ⟨hgone, a, hok, logEvent_answered ha _ _ _ _ _⟩

/-! ### Record numbers (R361 to R363, R379) -/

theorem fullSeq_self (base : Nat) : fullSeq base (base % 2 ^ 32) = base := by
  unfold fullSeq gap
  omega

theorem fullSeq_mod {base n : Nat} (hle : base ≤ n) (hnear : n - base < 2 ^ 32) : fullSeq base (n % 2 ^ 32) = n := by
  unfold fullSeq gap
  omega

theorem recordsPlaced_again (s : State) : s.recordsPlaced (s.pair.placed % 2 ^ 32) = s := if_pos (.inl (fullSeq_self _))

/-- Records went out: no request changed, nor what is placed, and no record is new (R363). -/
def RecordsSent (s t : State) : Prop :=
  t.reqs = s.reqs ∧ t.pair.placed = s.pair.placed ∧ ∀ k, Map.find s.pair.unplaced k = none → Map.find t.pair.unplaced k = none

theorem RecordsSent.refl (s : State) : RecordsSent s s := ⟨rfl, rfl, fun _ h => h⟩

theorem RecordsSent.trans {s t u : State} (h : RecordsSent s t) (g : RecordsSent t u) : RecordsSent s u := by
  obtain ⟨hreqs, hplaced, hnone⟩ := h
  obtain ⟨greqs, gplaced, gnone⟩ := g
  exact ⟨greqs.trans hreqs, gplaced.trans hplaced, fun k hk => gnone k (hnone k hk)⟩

/-- A record that goes out, as its table then stands: the transmission is counted, under the identifier of the first. -/
theorem sendRecord_unplaced {s : State} {n : Nat} {m : SentMsg} (h : Map.find s.pair.unplaced n = some m) (retry : Bool) :
    ∃ m', (s.sendRecord n retry).pair.unplaced = Map.put s.pair.unplaced n m' ∧ m'.tries = (if retry then m.tries + 1 else m.tries) ∧
      (m.tries ≠ 0 → m'.msg = m.msg) := by
  have hdrawn : PairStands s (if m.tries = 0 then s.drawId 0 else (s, m.msg)).1 := by
    split
    · exact drawId_pair s 0
    · exact .refl s
  have hmsg (hsent : m.tries ≠ 0) : (if m.tries = 0 then s.drawId 0 else (s, m.msg)).2 = m.msg := by rw [if_neg hsent]
  unfold State.sendRecord
  rw [h]
  dsimp only
  generalize (if m.tries = 0 then s.drawId 0 else (s, m.msg)) = r at hdrawn hmsg ⊢
  rw [(sendMirror_onlyAnswered _ _ _ _ _ _).pair_eq]
  dsimp only
  rw [hdrawn.2]
  exact ⟨_, rfl, rfl, hmsg⟩

theorem sendRecord_sends {s : State} {n : Nat} {m : SentMsg} (h : Map.find s.pair.unplaced n = some m) (hsent : m.tries ≠ 0) (retry : Bool) :
    Sent s (s.sendRecord n retry) (.record n m.what) := by
  unfold State.sendRecord
  rw [h]
  dsimp only
  rw [if_neg hsent]
  exact .of_outGrows (sourceMessage_outGrows _ _ _ _ _ _ _ _ _ _ _) rfl

theorem sendRecord_recordsSent (s : State) (n : Nat) (retry : Bool) : RecordsSent s (s.sendRecord n retry) := by
  obtain ⟨-, -, heq⟩ := sendRecord_rerouted s n retry
  refine ⟨by rw [heq], by rw [heq], fun k hk => ?_⟩
  cases hn : Map.find s.pair.unplaced n with
  | none =>
    unfold State.sendRecord
    rw [hn]
    exact hk
  | some m =>
    obtain ⟨m', hput, -, -⟩ := sendRecord_unplaced hn retry
    have hne : k ≠ n := fun he => by rw [he, hn] at hk; cases hk
    rw [hput, find_put_ne _ _ hne]
    exact hk

theorem sendWindow_recordsSent (s : State) : RecordsSent s s.sendWindow := by
  unfold State.sendWindow
  dsimp only
  split
  · exact .refl s
  · exact RecordsSent.trans ⟨rfl, rfl, fun _ h => h⟩ (List.foldlRecOn (motive := RecordsSent _) _ _ (.refl _) fun u hu n _ => hu.trans (sendRecord_recordsSent u n true))

/-- The records up to a number are placed. -/
def placedTo (s : State) (n : Nat) : State := { s with pair := { s.pair with placed := n, unplaced := Map.keep s.pair.unplaced fun k _ => decide (k > n) } }

/-- What the partner says it has placed is placed here, and the one write that waits for it ends (R361). -/
theorem recordsPlaced_spec {s : State} {n : Nat} (hnew : s.pair.placed < n) (hsent : n ≤ s.pair.sent) (hnear : n - s.pair.placed < 2 ^ 32) :
    let t := s.recordsPlaced (n % 2 ^ 32)
    t.pair.placed = n ∧ (∀ k, k ≤ n → Map.find t.pair.unplaced k = none) ∧
    ∀ k q, s.reqs = [(k, q)] → q.phase = .mirror → q.kind ≤ 3 → s.pair.placed < q.lastRecord → q.lastRecord ≤ n → t.reqs = [] := by
  have hstep : s.recordsPlaced (n % 2 ^ 32) = ((placedTo s n).commitRecords (s.pair.placed + 1) (n - s.pair.placed)).sendWindow := by
    unfold State.recordsPlaced
    dsimp only
    rw [fullSeq_mod hnew.le hnear, if_neg (by omega)]
    rfl
  obtain ⟨hreqs, hplaced, hnone⟩ := sendWindow_recordsSent ((placedTo s n).commitRecords (s.pair.placed + 1) (n - s.pair.placed))
  obtain ⟨-, hpair⟩ := commitRecords_pair (placedTo s n) (s.pair.placed + 1) (n - s.pair.placed)
  dsimp only
  rw [hstep]
  refine ⟨?_, fun k hk => hnone k ?_, fun k q hone hphase hkind hfirst hlast => ?_⟩
  · rw [hplaced, hpair]
    rfl
  · have hkept : (placedTo s n).pair.unplaced = Map.keep s.pair.unplaced fun k _ => decide (k > n) := rfl
    rw [hpair]
    dsimp only
    rw [hkept, find_keep_key, if_neg (by simp; omega)]
  · have hgone := (commitClaimed_of_write (s := placedTo s n) hone hkind).1
    rw [hreqs, commitRecords_of_one (s := placedTo s n) hone hphase (by omega) (by omega) hgone]
    exact hgone

theorem arrive_eq (s : State) (x : Nat) : s.arrive x = { s with gath := (s.arrive x).gath } := by
  unfold State.arrive
  split <;> rfl

theorem drawId_out (s : State) (slot : Nat) : (s.drawId slot).1.out = s.out := by
  unfold State.drawId
  dsimp only
  split_ifs
  · rfl
  · exact arrive_out _ _
  · rfl

/-! ### MIRROR_ACK, MIRROR_RETRY and RECORD_HOLD_EXPIRY (R361, R363, R365) -/

section
variable {s : State}

theorem mirrorAck_of_good (placed : Nat) : s.mirrorAck placed 0 = s.recordsPlaced placed := by
  unfold State.mirrorAck
  exact if_pos rfl

theorem mirrorAck_still : s.mirrorAck (s.pair.placed % 2 ^ 32) 0 = s := by
  unfold State.mirrorAck
  rw [recordsPlaced_again]
  rfl

theorem mirrorAck_refused {refused : Nat} (h : refused ≠ 0) : s.mirrorAck (s.pair.placed % 2 ^ 32) refused = s.enterSole 5 := by
  unfold State.mirrorAck
  rw [recordsPlaced_again]
  exact if_neg h

variable {seq : Nat}

theorem mirrorRetry_of_none (h : Map.find s.pair.unplaced (fullSeq s.pair.placed seq) = none) : s.mirrorRetry seq = s := by
  unfold State.mirrorRetry
  dsimp only
  rw [h]

theorem mirrorRetry_of_some {m : SentMsg} (h : Map.find s.pair.unplaced (fullSeq s.pair.placed seq) = some m) : s.mirrorRetry seq =
    if m.tries = 0 ∨ s.fence.st = .fenced ∨ !s.waited m.last m.tries then s
    else if m.tries ≥ 9 then s.enterSole 4 else s.sendRecord (fullSeq s.pair.placed seq) true := by
  unfold State.mirrorRetry
  dsimp only
  rw [h]

/-- Whether the record that is next has lacked a resource for the hold limit (R363). -/
def holdExpires (s : State) (n : Nat) : Prop :=
  n = s.pair.rxPlaced + 1 ∧ Map.has s.pair.heldRecs n = true ∧ (∃ a, s.pair.lacking = some (n, a) ∧ s.obj 0x2C1006 ≤ s.since a) ∧ ∀ e ∈ s.reqs, e.2.src ≠ .mirror n

theorem lacksLong_iff (n : Nat) : s.lacksLong n = true ↔ ∃ a, s.pair.lacking = some (n, a) ∧ s.obj 0x2C1006 ≤ s.since a := by
  unfold State.lacksLong
  split
  · rename_i m t hlack
    rw [hlack, Bool.and_eq_true, decide_eq_true_eq, decide_eq_true_eq]
    constructor
    · rintro ⟨rfl, hdue⟩
      exact ⟨t, rfl, hdue⟩
    · rintro ⟨a, ha, hdue⟩
      cases ha
      exact ⟨rfl, hdue⟩
  · rename_i hlack
    rw [hlack]
    simp

theorem any_mirror_iff (l : Map Request) (n : Nat) : (l.any fun e => decide (e.2.src = .mirror n)) = true ↔ ∃ e ∈ l, e.2.src = .mirror n := by
  simp only [List.any_eq_true, decide_eq_true_eq]

/-- What a refused record leaves: it is named to the partner, and no record is held any more. -/
def recordRefused (s : State) (n : Nat) : State :=
  { s.sendMirrorAck n with pair := { (s.sendMirrorAck n).pair with heldRecs := [], receiving := false } }

theorem not_holdExpires_iff (n : Nat) : (n ≠ s.pair.rxPlaced + 1 ∨ (!Map.has s.pair.heldRecs n) = true ∨ (!s.lacksLong n) = true ∨
    (s.reqs.any fun e => decide (e.2.src = .mirror n)) = true) ↔ ¬ holdExpires s n := by
  unfold holdExpires
  rw [any_mirror_iff, ← lacksLong_iff, Bool.not_eq_true', Bool.not_eq_true', not_and_or, not_and_or, not_and_or, Bool.not_eq_true, Bool.not_eq_true]
  simp only [not_forall, not_not, exists_prop]

theorem recordHoldExpiry_still (h : ¬ holdExpires s (fullSeq s.pair.rxPlaced seq)) : s.recordHoldExpiry seq = s :=
  if_pos ((not_holdExpires_iff _).mpr h)

theorem recordHoldExpiry_refuses (h : holdExpires s (fullSeq s.pair.rxPlaced seq)) : s.recordHoldExpiry seq =
    (recordRefused s (fullSeq s.pair.rxPlaced seq)).detach.logEvent 7 0 0 (fullSeq s.pair.rxPlaced seq) 0 :=
  if_neg fun hc => (not_holdExpires_iff _).mp hc h

/-- A device that stops applying records (R365): its state changes if it was PAIRED, and its source fires. -/
theorem detach_eq {t : State} (hheld : t.pair.heldRecs = []) :
    t.detach = { t with gath := t.detach.gath, pair := { t.pair with st := if t.pair.st = .paired then .detached else t.pair.st } } := by
  by_cases hpaired : t.pair.st = .paired
  · have hstep : t.detach = { t with pair := { t.pair with heldRecs := [], st := .detached } }.arrive 0x003 :=
      (if_neg (not_not.mpr hpaired)).trans (setPairState_of_ne (by dsimp only; rw [hpaired]; decide))
    rw [hstep, arrive_eq, ← hheld, if_pos hpaired]
  · rw [show t.detach = t from if_pos hpaired, if_neg hpaired]

/-- An acknowledgement names what is placed here, and a record that is refused. -/
theorem sendMirrorAck_sends (refused : Nat) : Sent s (s.sendMirrorAck refused) (.recordAck (s.pair.rxPlaced % 2 ^ 32) (refused % 2 ^ 32)) := by
  have hdrawn := drawId_out { s with out := .recordAck (s.pair.rxPlaced % 2 ^ 32) (refused % 2 ^ 32) :: s.out } 0
  exact .of_outGrows (sourceMessage_outGrows (State.drawId _ 0).1 _ _ _ _ _ _ _ _ _ _) hdrawn

end

section
variable {s : State}

theorem sendMirrorAck_rerouted (refused : Nat) : Rerouted s (s.sendMirrorAck refused) := by
  have hout (l : List Out) : Rerouted s { s with out := l } := ⟨fun _ _ => rfl, fun _ _ => rfl, rfl⟩
  unfold State.sendMirrorAck
  exact (hout _).trans ((drawId_rerouted _ 0).trans (sourceMessage_rerouted _ _ _ _ _ _ _ _ _ _ _))

theorem sent_of_out_eq {t u : State} {o : Out} (h : Sent s t o) (hout : u.out = t.out) : Sent s u o := by
  unfold Sent
  rwa [hout]

/-- What a record that is refused at its hold limit leaves (R363, R365). -/
theorem recordHoldExpiry_spec {seq n : Nat} (hn : fullSeq s.pair.rxPlaced seq = n) (h : holdExpires s n) : let t := s.recordHoldExpiry seq
    Sent s t (.recordAck (s.pair.rxPlaced % 2 ^ 32) (n % 2 ^ 32)) ∧ t.pair.heldRecs = [] ∧ t.pair.receiving = false ∧
    t.pair.st = (if s.pair.st = .paired then .detached else s.pair.st) ∧ t.log.entries.head? = some ⟨s.time, 7, 0, 0, n, 0⟩ ∧
    t.mem = s.mem ∧ t.seqs = s.seqs ∧ t.reqs = s.reqs := by
  subst hn
  obtain ⟨-, -, hack⟩ := sendMirrorAck_rerouted (s := s) (fullSeq s.pair.rxPlaced seq)
  have hrest : (recordRefused s (fullSeq s.pair.rxPlaced seq)).time = s.time ∧ (recordRefused s (fullSeq s.pair.rxPlaced seq)).mem = s.mem ∧
      (recordRefused s (fullSeq s.pair.rxPlaced seq)).seqs = s.seqs ∧ (recordRefused s (fullSeq s.pair.rxPlaced seq)).reqs = s.reqs := by
    unfold recordRefused
    rw [hack]
    exact ⟨rfl, rfl, rfl, rfl⟩
  have hst : (recordRefused s (fullSeq s.pair.rxPlaced seq)).pair.st = s.pair.st := by
    unfold recordRefused
    rw [hack]
  obtain ⟨htime, hmem, hseqs, hreqs⟩ := hrest
  have hdetach := detach_eq (t := recordRefused s (fullSeq s.pair.rxPlaced seq)) rfl
  rw [hst] at hdetach
  dsimp only
  rw [recordHoldExpiry_refuses h, logEvent_pair, logEvent_log_head, logEvent_mem, logEvent_seqs, logEvent_reqs]
  refine ⟨sent_of_out_eq (sendMirrorAck_sends _) ?_, ?_, ?_, ?_, ?_, ?_, ?_, ?_⟩
  · rw [logEvent_out, hdetach]
    rfl
  · rw [hdetach]
    rfl
  · rw [hdetach]
    rfl
  · rw [hdetach]
  · rw [hdetach]
    exact congrArg (fun now => some (⟨now, 7, 0, 0, fullSeq s.pair.rxPlaced seq, 0⟩ : LogEntry)) htime
  · rw [hdetach]
    exact hmem
  · rw [hdetach]
    exact hseqs
  · rw [hdetach]
    exact hreqs

/-! ### MIRROR_RECORD (R363) -/

theorem applyRecords_of_none {fuel : Nat} (h : Map.find s.pair.heldRecs (s.pair.rxPlaced + 1) = none) : s.applyRecords fuel = s := by
  cases fuel with
  | zero => rfl
  | succ fuel =>
    unfold State.applyRecords
    dsimp only
    rw [h]

theorem applyRecords_of_some {fuel : Nat} {r : Req} (h : Map.find s.pair.heldRecs (s.pair.rxPlaced + 1) = some r)
    (hfree : ∀ e ∈ s.reqs, e.2.src ≠ .mirror (s.pair.rxPlaced + 1)) : s.applyRecords (fuel + 1) =
      if (s.request r).pair.rxPlaced = s.pair.rxPlaced + 1 then (s.request r).applyRecords fuel else (s.request r).noteLack (s.pair.rxPlaced + 1) := by
  rw [State.applyRecords]
  dsimp only
  rw [h]
  dsimp only
  rw [if_neg]
  rw [any_mirror_iff]
  rintro ⟨e, he, hsrc⟩
  exact hfree e he hsrc

/-- A record of which a request came lacks nothing. -/
theorem noteLack_of_request {n : Nat} (h : ∃ e ∈ s.reqs, e.2.src = .mirror n) : s.noteLack n = s := if_pos ((any_mirror_iff _ n).mpr h)

/-- A record of which none came lacks a resource, from the first time on. -/
theorem noteLack_of_none {n : Nat} (h : ∀ e ∈ s.reqs, e.2.src ≠ .mirror n) :
    s.noteLack n = { s with pair := { s.pair with lacking := (s.noteLack n).pair.lacking } } ∧
    ∃ a, (s.noteLack n).pair.lacking = some (n, a) ∧ (s.pair.lacking = some (n, a) ∨ a = s.time ∧ ∀ b, s.pair.lacking ≠ some (n, b)) := by
  have hnone : ¬ (s.reqs.any fun e => decide (e.2.src = .mirror n)) = true := by
    rw [any_mirror_iff]
    rintro ⟨e, he, hsrc⟩
    exact h e he hsrc
  unfold State.noteLack
  rw [if_neg hnone]
  split
  · rename_i m t hlack
    refine ⟨rfl, _, rfl, ?_⟩
    by_cases hm : m = n
    · subst hm
      exact .inl (by rw [if_pos rfl]; exact hlack)
    · refine .inr ⟨if_neg hm, fun b hb => hm ?_⟩
      cases hlack.symm.trans hb
      rfl
  · rename_i hlack
    exact ⟨rfl, _, rfl, .inr ⟨rfl, fun b hb => by rw [hlack] at hb; cases hb⟩⟩

/-- The record is held for its turn. -/
def holding (s : State) (n : Nat) (r : Req) : State := { s with pair := { s.pair with heldRecs := Map.put s.pair.heldRecs n { r with src := .mirror n } } }

theorem mirrorRecord_eq (seq : Nat) (r : Req) : s.mirrorRecord seq (s.pair.placed % 2 ^ 32) r =
    if !s.applies then s
    else if fullSeq s.pair.rxPlaced seq = s.pair.rxPlaced ∨ gap seq s.pair.rxPlaced ≥ 2 ^ 31 then s.recordDone s.pair.rxPlaced true
    else if fullSeq s.pair.rxPlaced seq > s.pair.rxPlaced + 64 then s
    else (holding s (fullSeq s.pair.rxPlaced seq) r).applyRecords 64 := by
  unfold State.mirrorRecord
  rw [recordsPlaced_again]
  rfl

end

/-! ### What the counts of messages leave alone (R269, R285, R295, R304, R335)

A transfer reads the objects of tenants and compositions after its OPEN went out, so the counters that a message bumps are told apart from those of
`trafficCounter`, among which a tenant's are. -/

/-- The objects in which messages are counted. -/
def messageCounter (k : Nat) : Bool := decide (k / 256 ∈ [0x2600, 0x2700, 0x2800, 0x2E30])

/-- Every object that counts no messages stands. -/
def ObjsStand (s t : State) : Prop := ∀ k, messageCounter k = false → t.obj k = s.obj k

theorem ObjsStand.of_eq {s t : State} (h : t.regs = s.regs) : ObjsStand s t := fun k _ => congrArg (Map.getD · k (objDefault k)) h

theorem ObjsStand.refl (s : State) : ObjsStand s s := .of_eq rfl

theorem ObjsStand.trans {s t u : State} (h : ObjsStand s t) (g : ObjsStand t u) : ObjsStand s u := fun k hk => (g k hk).trans (h k hk)

theorem ObjsStand.setSched {s t : State} (h : ObjsStand s t) (x : Sched) : ObjsStand s { t with sched := x } := h

theorem ObjsStand.ite {s a b : State} {c : Prop} [Decidable c] (h : ObjsStand s a) (g : ObjsStand s b) : ObjsStand s (if c then a else b) := by
  split <;> assumption

theorem bump_objsStand (s : State) {k : Nat} (h : messageCounter k = true) : ObjsStand s (s.bump k) :=
  fun j hj => obj_bump_ne s fun e => by rw [e, h] at hj; cases hj

theorem handOver_objsStand (s : State) (c : Context) : ObjsStand s (s.handOver c) := by
  unfold State.handOver
  exact .ite (.ite (bump_objsStand s (by decide)) (.refl s)) (.of_eq rfl)

theorem reassemble_objsStand {s t : State} {k : Packet} (h : s.reassemble k = some t) : ObjsStand s t := by
  have hplaced (bad done : Prop) [Decidable bad] [Decidable done] (c : Context) (closed opened : List Context)
      (h : (if bad then some (s.bump 0x270008) else if done then some (State.handOver { s with contexts := closed } c)
        else some { s with contexts := opened }) = some t) : ObjsStand s t := by
    split_ifs at h <;> cases h
    · exact bump_objsStand s (by decide)
    · exact .trans (.of_eq rfl) (handOver_objsStand _ c)
    · exact .of_eq rfl
  have hbad (h : some (s.bump 0x270008) = some t) : ObjsStand s t := by
    cases h
    exact bump_objsStand s (by decide)
  unfold State.reassemble at h
  dsimp only at h
  split at h
  · exact hbad h
  · split at h
    · split at h
      · exact hbad h
      · exact hplaced _ _ _ _ _ h
    · split at h
      · cases h
      · exact hplaced _ _ _ _ _ h

theorem fetchRecord_objsStand (s : State) (c : Nat) : ObjsStand s (s.fetchRecord c) := by
  unfold State.fetchRecord
  exact .ite (.refl s) (bump_objsStand s (by decide))

theorem acceptClear_objsStand {s t : State} {k : Packet} (h : s.acceptClear k = some t) : ObjsStand s t := by
  unfold State.acceptClear at h
  dsimp only at h
  split at h
  · cases h
    exact bump_objsStand s (by decide)
  · split at h
    · split at h <;> cases h
      exact .trans (t := { s with miss := s.miss ++ [k] }) (.of_eq rfl) (.ite (fetchRecord_objsStand _ _) (.refl _))
    · exact reassemble_objsStand h

theorem accept_objsStand {s t : State} {k : Packet} (h : s.accept k = some t) : ObjsStand s t := by
  unfold State.accept at h
  split at h
  · exact acceptClear_objsStand h
  · split at h
    · cases h
      exact bump_objsStand s (by decide)
    · split at h
      · cases h
        exact bump_objsStand s (by decide)
      · obtain ⟨u, hu, rfl⟩ := Option.map_eq_some_iff.mp h
        exact (acceptClear_objsStand hu).trans (bump_objsStand u (by decide))

theorem deliverOwn_objsStand (s : State) (k : Packet) : ObjsStand s (s.deliverOwn k) := by
  unfold State.deliverOwn
  refine .ite (bump_objsStand s (by decide)) ?_
  split
  case h_1 t h => exact accept_objsStand h
  case h_2 => exact .of_eq rfl

theorem discardNoRoute_objsStand (s : State) (k : Packet) (w : Work) (answer : Bool) (h : w.inPort = none) : ObjsStand s (s.discardNoRoute k w answer) := by
  simp only [State.discardNoRoute, State.leaveIngress, h]
  exact (bump_objsStand s (by decide)).trans (.of_eq (arrive_regs _ _))

theorem spray_objsStand (s : State) (w : Work) (k : Packet) (h : w.inPort = none) : ObjsStand s (s.spray w k) := by
  unfold State.spray
  split
  · exact .of_eq rfl
  · exact .of_eq rfl
  · exact discardNoRoute_objsStand s k w true h

theorem sourcePacket_objsStand (s : State) (tenant : Option Nat) (flow : Nat) (k : Packet) : ObjsStand s (s.sourcePacket tenant flow k) := by
  have hfull (c : Prop) [Decidable c] : ObjsStand s (if c then s.bump 0x280003 else s) := .ite (bump_objsStand s (by decide)) (.refl s)
  unfold State.sourcePacket
  exact .ite (deliverOwn_objsStand s k) (.ite (bump_objsStand s (by decide)) (.ite (discardNoRoute_objsStand s k _ false rfl)
    (.ite (spray_objsStand s _ k rfl) (.setSched (.ite (hfull _) (.setSched (hfull _) _)) _))))

theorem sourceMessage_objsStand (s : State) (kind c dst pol slot msg : Nat) (data : List Nat) (tenant : Option Nat) (flow kindWord : Nat) :
    ObjsStand s (s.sourceMessage kind c dst pol slot msg data tenant flow kindWord) := by
  unfold State.sourceMessage
  exact .ite (.refl s) (List.foldlRecOn (motive := ObjsStand s) _ _ (.refl s) fun u hu k _ => hu.trans (sourcePacket_objsStand u tenant flow k))

/-! ### The pair conduit (R303, R365) -/

/-- What an OPEN leaves of the device: the pair, the charts and the sequences stand, and every object that counts no messages. -/
structure Opened (s t : State) : Prop where
  pair : t.pair = s.pair
  charts : t.charts = s.charts
  seqs : t.seqs = s.seqs
  objs : ObjsStand s t

theorem Opened.trans {s t u : State} (h : Opened s t) (g : Opened t u) : Opened s u :=
  ⟨g.pair.trans h.pair, g.charts.trans h.charts, g.seqs.trans h.seqs, h.objs.trans g.objs⟩

theorem drawId_opened (s : State) (slot : Nat) : Opened s (s.drawId slot).1 := by
  unfold State.drawId
  dsimp only
  split_ifs
  · exact ⟨rfl, rfl, rfl, .of_eq rfl⟩
  · exact ⟨arrive_pair _ _, arrive_charts _ _, arrive_seqs _ _, .of_eq (arrive_regs _ _)⟩
  · exact ⟨rfl, rfl, rfl, .of_eq rfl⟩

theorem sendPlain_opened (s : State) (c op word : Nat) : Opened s (s.sendPlain c op word) ∧ (s.sendPlain c op word).conduits = s.conduits := by
  have hsent (u : State) (kind cls dst pol slot msg : Nat) (data : List Nat) (tenant : Option Nat) (flow kindWord : Nat) :
      Opened u (u.sourceMessage kind cls dst pol slot msg data tenant flow kindWord) ∧
      (u.sourceMessage kind cls dst pol slot msg data tenant flow kindWord).conduits = u.conduits := by
    have h := sourceMessage_onlyAnswered u kind cls dst pol slot msg data tenant flow kindWord
    exact ⟨⟨by rw [h.2], by rw [h.2], by rw [h.2], sourceMessage_objsStand u _ _ _ _ _ _ _ _ _ _⟩, by rw [h.2]⟩
  have hout (u : State) (l : List Out) : Opened u { u with out := l } := ⟨rfl, rfl, rfl, .of_eq rfl⟩
  unfold State.sendPlain State.sendConduit
  dsimp only
  obtain ⟨hopened, hconduits⟩ := hsent { (s.drawId (s.conduit c).slot).1 with out := .conduit c op 0 word :: (s.drawId (s.conduit c).slot).1.out } 5
    (((s.drawId (s.conduit c).slot).1.conduit c).cls op) ((s.drawId (s.conduit c).slot).1.conduit c).node 15 ((s.drawId (s.conduit c).slot).1.conduit c).slot
    (s.drawId (s.conduit c).slot).2 (((s.drawId (s.conduit c).slot).1.conduit c).header c 0 word ++ [])
    (if 4 ≤ op ∧ op ≤ 8 then some (tenantOf 0) else none) (2 ^ 20 + c) (((s.drawId (s.conduit c).slot).1.conduit c).peer + op * 2 ^ 20)
  exact ⟨((drawId_opened s _).trans (hout _ _)).trans hopened, hconduits.trans (drawId_conduits s _)⟩

theorem makeRoom_opened (s : State) : Opened s s.makeRoom := by
  unfold State.makeRoom
  split
  · exact ⟨rfl, rfl, rfl, .refl s⟩
  · dsimp only
    split
    · exact ⟨rfl, rfl, rfl, .of_eq rfl⟩
    · exact ⟨rfl, rfl, rfl, .refl s⟩

/-- The conduit that is opened is OPENING. -/
theorem openConduit_opened (s : State) (c : Nat) : Opened s (s.openConduit c) ∧ ((s.openConduit c).conduit c).st = .opening := by
  unfold State.openConduit
  dsimp only
  refine ⟨.trans ?_ (sendPlain_opened _ c 1 _).1, ?_⟩
  · exact (makeRoom_opened s).trans ⟨rfl, rfl, rfl, .of_eq rfl⟩
  · rw [State.conduit, (sendPlain_opened _ c 1 _).2]
    exact congrArg Conduit.st (getD_put_same _ _ _ _)

theorem openTo_of_free {s : State} {c : Nat} (hroom : s.conduitRoom = true) (hfree : s.freeConduit = some c) (node : Nat) :
    ∃ t, s.openTo node = some (t, c) ∧ Opened s t ∧ (t.conduit c).st = .opening := by
  obtain ⟨hopened, hst⟩ := openConduit_opened (s.setConduit c { (s.conduit c).freed with node := node }) c
  have hnode : Opened s (s.setConduit c { (s.conduit c).freed with node := node }) := ⟨rfl, rfl, rfl, .of_eq rfl⟩
  refine ⟨_, ?_, hnode.trans hopened, hst⟩
  unfold State.openTo
  rw [hroom, hfree]
  rfl

theorem openTo_eq_none_iff {s : State} {node : Nat} : s.openTo node = none ↔ s.conduitRoom = false ∨ s.freeConduit = none := by
  unfold State.openTo
  cases s.conduitRoom <;> cases s.freeConduit <;> simp

theorem openTo_some {s t : State} {node c : Nat} (h : s.openTo node = some (t, c)) : Opened s t := by
  cases hroom : s.conduitRoom with
  | false => rw [openTo_eq_none_iff.mpr (.inl hroom)] at h; cases h
  | true =>
    cases hfree : s.freeConduit with
    | none => rw [openTo_eq_none_iff.mpr (.inr hfree)] at h; cases h
    | some d =>
      obtain ⟨u, hu, hopened, -⟩ := openTo_of_free hroom hfree node
      obtain ⟨rfl, -⟩ := Prod.mk.inj (Option.some.inj (hu.symm.trans h))
      exact hopened

/-! ### Rebuilds (R365, R368) -/

section
variable {s : State}

/-- A rebuild that cannot go on leaves no record to send, and this device sole owner (R361, R365). -/
theorem dropRebuild_spec (h : s.pair.st = .rebuilding) : s.dropRebuild.pair.st = .soleOwner ∧ s.dropRebuild.pair.unplaced = [] ∧ s.dropRebuild.pair.rebuilt = [] := by
  have hstep : s.dropRebuild = ({ s with pair := { s.pair with move := {}, rebuilt := [], st := .soleOwner } }.arrive 0x003).giveUpRecords :=
    (if_pos h).trans (congrArg State.giveUpRecords (setPairState_of_ne (by dsimp only; rw [h]; decide)))
  obtain ⟨-, hst, -, hunplaced, hrebuilt, -⟩ := giveUpRecords_pair ({ s with pair := { s.pair with move := {}, rebuilt := [], st := .soleOwner } }.arrive 0x003)
  rw [hstep]
  exact ⟨hst.trans (by rw [arrive_pair]), hunplaced, hrebuilt.trans (by rw [arrive_pair])⟩

theorem enterSole_of_rebuilding (h : s.pair.st = .rebuilding) (cause : Nat) : s.enterSole cause = s.dropRebuild := by
  unfold State.enterSole
  rw [h]

/-- The pair from which a rebuild copies: its record numbers begin again, and nothing is copied yet. -/
def rebuilding (s : State) : State := { s with pair := { s.pair.renumber with move := {}, rebuilt := [], st := .rebuilding } }.arrive 0x003

theorem rebuilding_pair : (rebuilding s).pair = { s.pair.renumber with move := {}, rebuilt := [], st := .rebuilding } := arrive_pair _ _

theorem rebuild_eq (hst : s.pair.st = .soleOwner) {b : Beat} (hbeat : s.pair.lastBeat = some b) (hdetached : b.detached = true) : s.rebuild =
    if (rebuilding s).pairReady then some (((rebuilding s).setMove .pair { conduit := some (rebuilding s).pair.conduit, todo := (rebuilding s).rebuildLeft }).carry .pair)
    else (rebuilding s).openPair.map fun s => s.setMove .pair { todo := s.rebuildLeft } := by
  have hbegun : ({ s with pair := { s.pair.renumber with move := {}, rebuilt := [] } } : State).setPairState .rebuilding = rebuilding s :=
    setPairState_of_ne (by dsimp only [Pair.renumber]; rw [hst]; decide)
  unfold State.rebuild
  rw [hbegun, hst, hbeat]
  exact if_neg (by simp [hdetached])

theorem rebuild_of_not (h : s.pair.st ≠ .soleOwner ∨ ∀ b, s.pair.lastBeat = some b → b.detached = false) : s.rebuild = none := by
  refine if_pos (h.imp_right fun hno => ?_)
  split
  · rename_i b hb
    rw [hno b hb]
    rfl
  · rfl

theorem rebuilding_pairReady : (rebuilding s).pairReady = s.pairReady := by
  unfold State.pairReady State.conduit
  rw [rebuilding_pair, show (rebuilding s).conduits = s.conduits from arrive_conduits _ _]
  rfl

end

theorem compOf_lt {s : State} {tenant i : Nat} (h : s.compOf tenant = some i) : i < 16 := by
  unfold State.compOf at h
  dsimp only at h
  split at h
  · cases h
  · exact List.mem_range.mp (List.mem_of_find?_eq_some h)

section
variable {s t : State} (hobjs : ObjsStand s t)
include hobjs

theorem comp_obj_eq {i sub : Nat} (hi : i < 16) (hsub : sub < 256) : t.obj (recKey 0x2440 i sub) = s.obj (recKey 0x2440 i sub) := by
  refine hobjs _ (decide_eq_false ?_)
  unfold recKey
  simp only [List.mem_cons, List.not_mem_nil, or_false]
  omega

theorem compOf_eq (tenant : Nat) : t.compOf tenant = s.compOf tenant := by
  have htenant : t.obj (tenantKey tenant 0xB) = s.obj (tenantKey tenant 0xB) := by
    refine hobjs _ (decide_eq_false ?_)
    unfold tenantKey recKey
    simp only [List.mem_cons, List.not_mem_nil, or_false]
    omega
  have hfind (id : Nat) : (List.range 16).find? (fun i => decide (t.obj (recKey 0x2440 i 1) = id)) = (List.range 16).find? fun i => decide (s.obj (recKey 0x2440 i 1) = id) := by
    rw [← List.head?_filter, ← List.head?_filter]
    refine congrArg List.head? (List.filter_congr fun i hi => ?_)
    rw [comp_obj_eq hobjs (List.mem_range.mp hi) (by decide)]
  unfold State.compOf
  dsimp only
  rw [htenant, hfind]

/-- The sequences of a pair stay its own where its chart and its objects stand. -/
theorem pairOwned_eq (hcharts : t.charts = s.charts) (hs : s.pair.st = .soleOwner) (ht : t.pair.st = .rebuilding) : t.pairOwned = s.pairOwned := by
  funext i
  unfold State.pairOwned
  rw [hs, ht, compOf_eq hobjs]
  refine congrArg (true && ·) ?_
  split
  · rfl
  · rename_i k hk
    have hspans : t.spans k = s.spans k := comp_obj_eq hobjs (compOf_lt hk) (by decide)
    unfold State.entryIdx State.chart
    rw [hspans, hcharts]

end

/-- A rebuild with nothing left to copy ends PAIRED (R365). -/
theorem carry_pair_paired {s : State} (hst : s.pair.st = .rebuilding) (hleft : s.rebuildLeft = []) (c : Nat) :
    ((s.setMove .pair { conduit := some c, todo := [] }).carry .pair).pair.st = .paired := by
  have hleft' : (s.setMove .pair { conduit := some c, todo := [] }).rebuildLeft = [] := hleft
  have hst' : (s.setMove .pair { conduit := some c, todo := [] }).pair.st = .rebuilding := hst
  have hmove : (s.setMove .pair { conduit := some c, todo := [] }).moveOf .pair = { conduit := some c, todo := [] } := rfl
  generalize s.setMove .pair { conduit := some c, todo := [] } = u at hleft' hst' hmove ⊢
  unfold State.carry State.advance
  rw [hmove]
  dsimp only
  rw [if_neg (not_not.mpr hst'), hleft']
  dsimp only
  rw [setPairState_of_ne (by dsimp only; rw [hst']; decide), arrive_pair]

section
variable {s : State} (hst : s.pair.st = .soleOwner) {b : Beat} (hbeat : s.pair.lastBeat = some b) (hdetached : b.detached = true)

theorem rebuilding_objsStand : ObjsStand s (rebuilding s) := .of_eq (arrive_regs _ _)

theorem rebuildLeft_of_none {t : State} (h : t.pair.rebuilt = []) : t.rebuildLeft = (Map.keys t.seqs).filter t.pairOwned := by
  unfold State.rebuildLeft
  rw [h]
  exact List.filter_congr fun i _ => by simp

include hst

theorem rebuilding_left : (rebuilding s).rebuildLeft = (Map.keys s.seqs).filter s.pairOwned := by
  rw [rebuildLeft_of_none (by rw [rebuilding_pair]), pairOwned_eq rebuilding_objsStand (arrive_charts _ _) hst (by rw [rebuilding_pair]),
    show (rebuilding s).seqs = s.seqs from arrive_seqs _ _]

include hbeat hdetached

theorem rebuild_of_no_end (hready : s.pairReady = false) (hfull : s.openTo s.pair.partner = none) : s.rebuild = none := by
  have hconduits : (rebuilding s).conduits = s.conduits := arrive_conduits _ _
  have hnone : (rebuilding s).openTo (rebuilding s).pair.partner = none := by
    have hroom : (rebuilding s).conduitRoom = s.conduitRoom := by
      unfold State.conduitRoom State.openConduits
      rw [hconduits, show (rebuilding s).host = s.host from arrive_host _ _]
    have hfree : (rebuilding s).freeConduit = s.freeConduit := by
      unfold State.freeConduit
      rw [hconduits]
    rw [openTo_eq_none_iff, hroom, hfree]
    exact openTo_eq_none_iff.mp hfull
  rw [rebuild_eq hst hbeat hdetached, rebuilding_pairReady, hready]
  unfold State.openPair
  rw [hnone]
  rfl

/-- A rebuild opens the pair conduit where it stands READY no more. -/
theorem rebuild_opens {c : Nat} (hready : s.pairReady = false) (hfree : s.freeConduit = some c) (hroom : s.conduitRoom = true) : ∃ t, s.rebuild = some t ∧
    t.pair.st = .rebuilding ∧ t.pair.move.todo = (Map.keys s.seqs).filter s.pairOwned ∧ t.pair.next = 1 ∧ t.pair.rxPlaced = 0 ∧ t.pair.conduit = c ∧
    (t.conduit c).st = .opening := by
  have hconduits : (rebuilding s).conduits = s.conduits := arrive_conduits _ _
  have hroom' : (rebuilding s).conduitRoom = true := by
    unfold State.conduitRoom State.openConduits
    rw [hconduits, show (rebuilding s).host = s.host from arrive_host _ _]
    exact hroom
  have hfree' : (rebuilding s).freeConduit = some c := by
    unfold State.freeConduit
    rw [hconduits]
    exact hfree
  obtain ⟨u, hu, ⟨hpair, hcharts, hseqs, hobjs⟩, hopening⟩ := openTo_of_free hroom' hfree' (rebuilding s).pair.partner
  have hstep : s.rebuild = some (State.setMove { u with pair := { u.pair with conduit := c } } .pair { todo := State.rebuildLeft { u with pair := { u.pair with conduit := c } } }) := by
    rw [rebuild_eq hst hbeat hdetached, rebuilding_pairReady, hready]
    unfold State.openPair
    rw [hu]
    rfl
  have hleft : State.rebuildLeft { u with pair := { u.pair with conduit := c } } = (Map.keys s.seqs).filter s.pairOwned := by
    rw [rebuildLeft_of_none (by dsimp only; rw [hpair, rebuilding_pair]), pairOwned_eq (t := { u with pair := { u.pair with conduit := c } })
      (rebuilding_objsStand.trans hobjs) (hcharts.trans (arrive_charts _ _)) hst (by dsimp only; rw [hpair, rebuilding_pair])]
    dsimp only
    rw [hseqs, show (rebuilding s).seqs = s.seqs from arrive_seqs _ _]
  refine ⟨_, hstep, ?_, hleft, ?_, ?_, rfl, hopening⟩
  · exact congrArg Pair.st (hpair.trans rebuilding_pair)
  · exact congrArg Pair.next (hpair.trans rebuilding_pair)
  · exact congrArg Pair.rxPlaced (hpair.trans rebuilding_pair)

/-- With nothing of the pair to copy, a rebuild over a READY conduit is done at once. -/
theorem rebuild_at_once (hready : s.pairReady = true) (hempty : (Map.keys s.seqs).filter s.pairOwned = []) : ∃ t, s.rebuild = some t ∧ t.pair.st = .paired := by
  have hleft : (rebuilding s).rebuildLeft = [] := (rebuilding_left hst).trans hempty
  have hrebuilding : (rebuilding s).pair.st = .rebuilding := by rw [rebuilding_pair]
  refine ⟨_, by rw [rebuild_eq hst hbeat hdetached, rebuilding_pairReady, if_pos hready, hleft], ?_⟩
  generalize rebuilding s = v at hleft hrebuilding ⊢
  exact carry_pair_paired hrebuilding hleft v.pair.conduit

end

/-! ### Beats (R364, R365) -/

section
variable {s : State}

/-- The state in which a beat of a pair link is judged: the port has shown that it lives, and the beat is the latest. -/
def beaten (s : State) (n : Nat) (b : Beat) : State :=
  { s.setPort n { s.port n with lastRx := s.time } with pair := { s.pair with lastBeat := some b, lastAt := s.time, down := b.down } }

/-- What a beat records in the pair. -/
def Heard (s t : State) (b : Beat) : Prop := t.pair.lastBeat = some b ∧ t.pair.lastAt = s.time ∧ t.pair.down = b.down

theorem beaten_heard (s : State) (n : Nat) (b : Beat) : Heard s (beaten s n b) b := ⟨rfl, rfl, rfl⟩

/-- The part of the pair that a beat writes. -/
def SameBeat (s t : State) : Prop := t.pair.lastBeat = s.pair.lastBeat ∧ t.pair.lastAt = s.pair.lastAt ∧ t.pair.down = s.pair.down

theorem Heard.of_sameBeat {s t u : State} {b : Beat} (h : Heard s t b) (g : SameBeat t u) : Heard s u b := by
  obtain ⟨hbeat, hat, hdown⟩ := h
  obtain ⟨gbeat, gat, gdown⟩ := g
  exact ⟨gbeat.trans hbeat, gat.trans hat, gdown.trans hdown⟩

theorem SameBeat.of_pair {s t : State} (h : t.pair = s.pair) : SameBeat s t := ⟨by rw [h], by rw [h], by rw [h]⟩

/-- A change of the pair's state raises its source. -/
theorem setPairState_fires {st : PairState} (h : s.pair.st ≠ st) : (s.setPairState st).pair.st = st ∧ (s.setPairState st).source 3 = (s.source 3).arrive := by
  rw [setPairState_of_ne h, arrive_pair, source_arrive _ (by decide)]
  exact ⟨rfl, if_pos rfl⟩

theorem setPairState_sameBeat (s : State) (st : PairState) : SameBeat s (s.setPairState st) := by
  unfold State.setPairState
  split
  · exact .of_pair rfl
  · exact ⟨by rw [arrive_pair], by rw [arrive_pair], by rw [arrive_pair]⟩

theorem enterSole_sameBeat (h : s.pair.st = .paired) (cause : Nat) : SameBeat s (s.enterSole cause) := by
  have hpair : (soleOwned s cause).pair = { s.pair with cause := cause, st := .soleOwner } := arrive_pair _ _
  obtain ⟨-, hcommit⟩ := commitRecords_pair
    { soleOwned s cause with pair := { (soleOwned s cause).pair with placed := (soleOwned s cause).pair.next - 1, sent := (soleOwned s cause).pair.next - 1, unplaced := [] } }
    ((soleOwned s cause).pair.placed + 1) ((soleOwned s cause).pair.next - 1 - (soleOwned s cause).pair.placed)
  have hgiven : SameBeat s (soleOwned s cause).giveUpRecords := by
    unfold State.giveUpRecords
    dsimp only
    unfold SameBeat
    rw [hcommit]
    dsimp only
    rw [hpair]
    exact ⟨rfl, rfl, rfl⟩
  rw [enterSole_of_paired h]
  unfold SameBeat
  rw [logEvent_pair]
  exact hgiven

theorem releasePair_of_empty (h : s.seqs = []) : s.releasePair = { s with lostHere := [] } := by
  have hnone : (Map.keys s.seqs).filter s.pairOwned = [] := by
    rw [h]
    rfl
  unfold State.releasePair
  dsimp only
  rw [hnone]
  rfl

theorem pairBeat_still {n : Nat} {b : Beat} (h : s.pairLink n = false ∨ (s.port n).st ≠ .active ∨ s.pair.st = .off) : s.pairBeat n b = s :=
  if_pos (h.imp_left fun hlink => by rw [hlink]; rfl)

theorem pairBeat_heard {n : Nat} {b : Beat} (hlink : s.pairLink n = true) (hactive : (s.port n).st = .active) (hon : s.pair.st ≠ .off)
    (hplaced : b.placed = s.pair.placed % 2 ^ 32) : s.pairBeat n b = (beaten s n b).beatState b := by
  have hagain := recordsPlaced_again (beaten s n b)
  have hstep : s.pairBeat n b = ((beaten s n b).recordsPlaced b.placed).beatState b := by
    refine if_neg ?_
    rw [hlink]
    rintro (h | h | h)
    · cases h
    · exact h hactive
    · exact hon h
  rw [hstep, hplaced]
  exact congrArg (State.beatState · b) hagain

/-! The rows of R365 for a beat that was heard. -/

variable {b : Beat}

theorem beatState_forming_holds (h : s.pair.st = .forming) (hseqs : s.seqs ≠ []) : s.beatState b = s.setPairState .soleOwner := by
  unfold State.beatState
  rw [h]
  exact if_pos hseqs

theorem beatState_forming_partnerHolds (h : s.pair.st = .forming) (hseqs : s.seqs = []) (hholds : b.partnerHolds = true) : s.beatState b = s.setPairState .detached := by
  unfold State.beatState
  rw [h]
  exact (if_neg (not_not.mpr hseqs)).trans (if_pos hholds)

/-- A pair that forms: its record numbers begin at one. -/
def formed (s : State) : State := State.setPairState { s with pair := s.pair.renumber } .paired

theorem beatState_forming_empty (h : s.pair.st = .forming) (hseqs : s.seqs = []) (hholds : b.partnerHolds = false) :
    s.beatState b = if (formed s).me < (formed s).pair.partner ∧ !(formed s).pairReady then (formed s).openPair.getD (formed s) else formed s := by
  unfold State.beatState
  rw [h]
  exact (if_neg (not_not.mpr hseqs)).trans (if_neg (by simp [hholds]))

theorem formed_pair (h : s.pair.st = .forming) : (formed s).pair = { s.pair.renumber with st := .paired } := by
  unfold formed
  rw [setPairState_of_ne (by dsimp only [Pair.renumber]; rw [h]; decide), arrive_pair]

/-- Opening the pair conduit changes the pair by the conduit alone. -/
theorem openPair_getD_pair (s : State) : ∃ c, (s.openPair.getD s).pair = { s.pair with conduit := c } := by
  unfold State.openPair
  split
  · rename_i t c hopen
    exact ⟨c, congrArg (fun p : Pair => { p with conduit := c }) (openTo_some hopen).pair⟩
  · exact ⟨s.pair.conduit, rfl⟩

theorem beatState_formed (h : s.pair.st = .forming) (hseqs : s.seqs = []) (hholds : b.partnerHolds = false) :
    ∃ c, (s.beatState b).pair = { s.pair.renumber with st := .paired, conduit := c } := by
  rw [beatState_forming_empty h hseqs hholds]
  split
  · obtain ⟨c, hc⟩ := openPair_getD_pair (formed s)
    exact ⟨c, by rw [hc, formed_pair h]⟩
  · exact ⟨s.pair.conduit, by rw [formed_pair h]; rfl⟩

theorem beatState_fenced (h : s.pair.st = .paired) (hfenced : b.fenced = true) : s.beatState b = s.enterSole 2 := by
  unfold State.beatState
  rw [h, hfenced]
  rfl

theorem beatState_partnerDetached (h : s.pair.st = .paired) (hfenced : b.fenced = false) (hdetached : b.detached = true) : s.beatState b = s.enterSole 3 := by
  unfold State.beatState
  rw [h, hfenced, hdetached]
  rfl

theorem beatState_still (h : s.pair.st = .paired ∧ b.fenced = false ∧ b.detached = false ∨ s.pair.st = .soleOwner ∨ s.pair.st = .rebuilding) : s.beatState b = s := by
  unfold State.beatState
  obtain ⟨hst, hfenced, hdetached⟩ | hst | hst := h
  · rw [hst, hfenced, hdetached]
    rfl
  · rw [hst]
  · rw [hst]

theorem beatState_receives (h : s.pair.st = .detached) (hfence : s.fence.st ≠ .fenced) (hreceiving : s.pair.receiving = false) (hrebuilding : b.rebuilding = true)
    (hseqs : s.seqs = []) : s.beatState b = { s with pair := { s.pair.renumber with receiving := true }, lostHere := [] } := by
  unfold State.beatState
  rw [h, hreceiving, hrebuilding, releasePair_of_empty hseqs]
  exact if_neg hfence

theorem beatState_rebuilt (h : s.pair.st = .detached) (hfence : s.fence.st ≠ .fenced) (hreceiving : s.pair.receiving = true) (hrebuilding : b.rebuilding = false)
    (hsole : b.sole = false) : s.beatState b = State.setPairState { s with pair := { s.pair with receiving := false } } .paired := by
  unfold State.beatState
  rw [h, hreceiving, hrebuilding, hsole]
  exact if_neg hfence

end

section
variable {s : State} {n : Nat} {b : Beat} (hstep : s.pairBeat n b = (beaten s n b).beatState b)
include hstep

/-- A FORMING device that holds sequences becomes sole owner. -/
theorem pairBeat_takes (h : s.pair.st = .forming) (hseqs : s.seqs ≠ []) :
    Heard s (s.pairBeat n b) b ∧ (s.pairBeat n b).pair.st = .soleOwner ∧ (s.pairBeat n b).source 3 = (s.source 3).arrive := by
  rw [hstep, beatState_forming_holds (s := beaten s n b) h hseqs]
  exact ⟨(beaten_heard s n b).of_sameBeat (setPairState_sameBeat _ _), setPairState_fires (by rw [show (beaten s n b).pair.st = .forming from h]; decide)⟩

/-- One that holds none, and whose partner does, is DETACHED. -/
theorem pairBeat_detaches (h : s.pair.st = .forming) (hseqs : s.seqs = []) (hholds : b.partnerHolds = true) :
    Heard s (s.pairBeat n b) b ∧ (s.pairBeat n b).pair.st = .detached ∧ (s.pairBeat n b).source 3 = (s.source 3).arrive := by
  rw [hstep, beatState_forming_partnerHolds (s := beaten s n b) h hseqs hholds]
  exact ⟨(beaten_heard s n b).of_sameBeat (setPairState_sameBeat _ _), setPairState_fires (by rw [show (beaten s n b).pair.st = .forming from h]; decide)⟩

theorem pairBeat_forms (h : s.pair.st = .forming) (hseqs : s.seqs = []) (hholds : b.partnerHolds = false) :
    Heard s (s.pairBeat n b) b ∧ (s.pairBeat n b).pair.st = .paired ∧ (s.pairBeat n b).pair.next = 1 ∧ (s.pairBeat n b).pair.placed = 0 ∧
    (s.pairBeat n b).pair.rxPlaced = 0 ∧ (s.pairBeat n b).pair.unplaced = [] := by
  obtain ⟨c, hc⟩ := beatState_formed (s := beaten s n b) h hseqs hholds
  unfold Heard
  rw [hstep, hc]
  exact ⟨⟨rfl, rfl, rfl⟩, rfl, rfl, rfl, rfl, rfl⟩

theorem pairBeat_sole {cause : Nat} (h : s.pair.st = .paired) (hsole : (beaten s n b).beatState b = (beaten s n b).enterSole cause) :
    Heard s (s.pairBeat n b) b ∧ TakesOver s (s.pairBeat n b) cause := by
  have hpaired : (beaten s n b).pair.st = .paired := h
  rw [hstep, hsole]
  exact ⟨(beaten_heard s n b).of_sameBeat (enterSole_sameBeat hpaired cause), (enterSole_takesOver hpaired cause).of_eq rfl rfl rfl rfl rfl rfl⟩

theorem pairBeat_receives (h : s.pair.st = .detached) (hfence : s.fence.st ≠ .fenced) (hreceiving : s.pair.receiving = false) (hrebuilding : b.rebuilding = true)
    (hseqs : s.seqs = []) : Heard s (s.pairBeat n b) b ∧ (s.pairBeat n b).pair.receiving = true ∧ (s.pairBeat n b).pair.st = .detached ∧
    (s.pairBeat n b).pair.rxPlaced = 0 ∧ (s.pairBeat n b).lostHere = [] := by
  rw [hstep, beatState_receives (s := beaten s n b) h hfence hreceiving hrebuilding hseqs]
  exact ⟨⟨rfl, rfl, rfl⟩, rfl, h, rfl, rfl⟩

theorem pairBeat_rebuilt (h : s.pair.st = .detached) (hfence : s.fence.st ≠ .fenced) (hreceiving : s.pair.receiving = true) (hrebuilding : b.rebuilding = false)
    (hsole : b.sole = false) : Heard s (s.pairBeat n b) b ∧ (s.pairBeat n b).pair.st = .paired ∧ (s.pairBeat n b).pair.receiving = false ∧
    (s.pairBeat n b).seqs = s.seqs := by
  rw [hstep, beatState_rebuilt (s := beaten s n b) h hfence hreceiving hrebuilding hsole,
    setPairState_of_ne (by dsimp only [beaten]; rw [h]; decide)]
  unfold Heard
  rw [arrive_pair, arrive_seqs]
  exact ⟨⟨rfl, rfl, rfl⟩, rfl, rfl, rfl⟩

end

/-! ### Silence of the partner (R365) -/

section
variable {s : State}

theorem beatTimeout_eq (h : s.pair.st = .paired ∨ s.pair.st = .rebuilding) (hdue : 10 ≤ s.since s.pair.lastAt) : s.beatTimeout = (s.logEvent 5 0 0 1 0).enterSole 1 :=
  if_pos ⟨h, hdue⟩

theorem beatTimeout_still (h : (s.pair.st ≠ .paired ∧ s.pair.st ≠ .rebuilding) ∨ s.since s.pair.lastAt < 10) : s.beatTimeout = s := by
  refine if_neg ?_
  rintro ⟨hst, hdue⟩
  obtain ⟨hpaired, hrebuilding⟩ | hearly := h
  · exact hst.elim hpaired hrebuilding
  · omega

theorem beatTimeout_sole (h : s.pair.st = .paired) (hdue : 10 ≤ s.since s.pair.lastAt) : TakesOver s s.beatTimeout 1 := by
  rw [beatTimeout_eq (.inl h) hdue]
  refine (enterSole_takesOver ((congrArg Pair.st (logEvent_pair ..)).trans h) 1).of_eq ?_ ?_ ?_ ?_ ?_ ?_
  · exact logEvent_time ..
  · exact logEvent_reqs ..
  · exact logEvent_mem ..
  · exact logEvent_seqs ..
  · rw [logEvent_pair]
  · rw [logEvent_pair]

theorem beatTimeout_rebuilding (h : s.pair.st = .rebuilding) (hdue : 10 ≤ s.since s.pair.lastAt) :
    s.beatTimeout.pair.st = .soleOwner ∧ s.beatTimeout.pair.unplaced = [] ∧ s.beatTimeout.pair.rebuilt = [] := by
  have hlogged : (s.logEvent 5 0 0 1 0).pair.st = .rebuilding := (congrArg Pair.st (logEvent_pair ..)).trans h
  rw [beatTimeout_eq (.inr h) hdue, enterSole_of_rebuilding hlogged]
  exact dropRebuild_spec hlogged

end

/-! ### The beat timer (R275, R364) -/

theorem sent_of_before {s u t : State} {o : Out} (h : Sent u t o) (g : OutGrows s u) : Sent s t o := by
  obtain ⟨l, m, hl⟩ := h
  obtain ⟨x, hx⟩ := g
  exact ⟨l, m ++ x, by rw [hl, ← hx, List.append_assoc]⟩

theorem sent_of_after {s u t : State} {o : Out} (h : Sent s u o) (g : OutGrows u t) : Sent s t o := by
  obtain ⟨l, m, hl⟩ := h
  obtain ⟨x, hx⟩ := g
  exact ⟨x ++ l, m, by rw [← hx, hl, List.append_assoc]⟩

/-- What a port does with a link-control frame: it leaves at once, or waits behind the one that has left since the last packet (R275). -/
def ControlOut (s t : State) (n : Nat) (k : Packet) : Prop :=
  if ((s.port n).ctlSent && s.packetsWait n) = true then (t.port n).ctl = (s.port n).ctl ++ [k] else Sent s t (.packet n k)

theorem sendControl_out (s : State) (n subtype : Nat) (payload : List Nat) :
    ControlOut s (s.sendControl n subtype payload) n (s.controlFrame subtype payload) ∧ OutGrows s (s.sendControl n subtype payload) := by
  unfold State.sendControl ControlOut
  dsimp only
  split
  · rw [port_setPort_same]
    exact ⟨rfl, .of_eq rfl⟩
  · exact ⟨⟨[], [], rfl⟩, [_], rfl⟩

theorem sendControl_port_of_ne (s : State) {n m : Nat} (h : m ≠ n) (subtype : Nat) (payload : List Nat) : (s.sendControl n subtype payload).port m = s.port m := by
  unfold State.sendControl
  dsimp only
  split
  · exact (port_setPort s n m _).trans (if_neg h)
  · exact (port_setPort s n m _).trans (if_neg h)

/-- The beat on each of the links. -/
def beatOn (s : State) (b : Beat) (links : List Nat) : State := links.foldl (fun u n => u.sendControl n 3 (b.bytes u.time)) s

theorem beatOn_onlyPorts (s : State) (b : Beat) (links : List Nat) : OnlyPorts s (beatOn s b links) :=
  List.foldlRecOn (motive := OnlyPorts s) links _ (.refl s) fun u hu n _ => hu.trans (sendControl_onlyPorts u n 3 (b.bytes u.time))

theorem beatOn_outGrows (s : State) (b : Beat) (links : List Nat) : OutGrows s (beatOn s b links) := .foldl (fun u n => (sendControl_out u n 3 (b.bytes u.time)).2) links s

theorem beatOn_port_of_not_mem (b : Beat) (links : List Nat) {n : Nat} (h : n ∉ links) (s : State) : (beatOn s b links).port n = s.port n :=
  List.foldlRecOn (motive := fun u => u.port n = s.port n) links _ rfl fun u hu m hm =>
    (sendControl_port_of_ne u (fun he : n = m => h (he ▸ hm)) 3 (b.bytes u.time)).trans hu

/-- One beat goes out on every link. -/
theorem beatOn_out (b : Beat) : ∀ (links : List Nat) (s : State), links.Nodup → ∀ n ∈ links, ControlOut s (beatOn s b links) n (s.controlFrame 3 (b.bytes s.time))
  | [], _, _, _, hn => nomatch hn
  | m :: links, s, hdistinct, n, hn => by
    obtain ⟨hm, hrest⟩ := List.nodup_cons.mp hdistinct
    obtain ⟨hout, hgrows⟩ := sendControl_out s m 3 (b.bytes s.time)
    have honly := sendControl_onlyPorts s m 3 (b.bytes s.time)
    have hport (h : n ≠ m) := sendControl_port_of_ne s h 3 (b.bytes s.time)
    rw [show beatOn s b (m :: links) = beatOn (s.sendControl m 3 (b.bytes s.time)) b links from rfl]
    generalize s.sendControl m 3 (b.bytes s.time) = u at hout hgrows honly hport ⊢
    by_cases hnm : n = m
    · subst hnm
      unfold ControlOut at hout ⊢
      rw [beatOn_port_of_not_mem b links hm u]
      split
      · rwa [if_pos ‹_›] at hout
      · rw [if_neg ‹_›] at hout
        exact sent_of_after hout (beatOn_outGrows u b links)
    · have hout := beatOn_out b links u hrest n ((List.mem_cons.mp hn).resolve_left hnm)
      have hwait : u.packetsWait n = s.packetsWait n := by
        rw [honly]
        rfl
      have hframe : u.controlFrame 3 (b.bytes u.time) = s.controlFrame 3 (b.bytes s.time) := by
        rw [honly]
        rfl
      unfold ControlOut at hout ⊢
      rw [hport hnm, hwait, hframe] at hout
      split
      · rwa [if_pos ‹_›] at hout
      · rw [if_neg ‹_›] at hout
        exact sent_of_before hout hgrows

section
variable {s : State}

/-- The pair links that are ACTIVE. -/
def activeLinks (s : State) : List Nat := [10, 11].filter fun n => s.pairLink n && decide ((s.port n).st = .active)

/-- The beats of this period are out. -/
def beatsOut (s : State) : State :=
  beatOn { s with pair := { s.pair with beatSeq := (s.pair.beatSeq + 1) % 2 ^ 32 } } (s.ownBeat ((s.pair.beatSeq + 1) % 2 ^ 32)) (activeLinks s)

/-- A partner that has been silent is counted, and its source fires. -/
def missedBeat (s : State) : State := if s.pair.lastBeat.isSome && decide (s.time - s.pair.lastAt ≥ 2000) then (s.bump 0x2C1004).arrive 4 else s

theorem missedBeat_pair (s : State) : (missedBeat s).pair = s.pair := by
  unfold missedBeat
  split
  · rw [arrive_pair, bump_pair]
  · rfl

theorem pairBeatTimer_eq (h : s.pair.st ≠ .off) (hheld : s.pair.heldRecs = []) : s.pairBeatTimer = missedBeat (beatsOut s) := by
  have hstep : s.pairBeatTimer = if (missedBeat (beatsOut s)).applies then (missedBeat (beatsOut s)).applyRecords recordWindow else missedBeat (beatsOut s) := if_neg h
  have hnone : Map.find (missedBeat (beatsOut s)).pair.heldRecs ((missedBeat (beatsOut s)).pair.rxPlaced + 1) = none := by
    rw [missedBeat_pair, beatsOut, beatOn_onlyPorts]
    dsimp only
    rw [hheld]
    rfl
  rw [hstep, applyRecords_of_none hnone, ite_self]

theorem missedBeat_counts (h : s.pair.lastBeat.isSome = true) (hdue : s.pair.lastAt + 2000 ≤ s.time) :
    (missedBeat s).obj 0x2C1004 = min (s.obj 0x2C1004 + 1) (2 ^ 32 - 1) ∧ (missedBeat s).source 4 = (s.source 4).arrive := by
  have hmissed : missedBeat s = (s.bump 0x2C1004).arrive 4 := if_pos (by rw [h, decide_eq_true (by omega)]; rfl)
  rw [hmissed]
  exact ⟨(arrive_obj _ _ _).trans (obj_bump s (by decide)), (source_arrive _ (by decide) 4).trans (if_pos rfl)⟩

theorem missedBeat_onlyNoticed (s : State) : (missedBeat s).ports = s.ports ∧ (missedBeat s).out = s.out ∧ (missedBeat s).mem = s.mem ∧
    (missedBeat s).seqs = s.seqs ∧ (missedBeat s).reqs = s.reqs := by
  unfold missedBeat
  split
  · rw [arrive_ports, arrive_out, arrive_mem, arrive_seqs, arrive_reqs, bump_ports, bump_out, bump_mem, bump_seqs, bump_reqs]
    exact ⟨rfl, rfl, rfl, rfl, rfl⟩
  · exact ⟨rfl, rfl, rfl, rfl, rfl⟩

theorem beatsOut_spec (s : State) : (beatsOut s).pair = { s.pair with beatSeq := (s.pair.beatSeq + 1) % 2 ^ 32 } ∧ (beatsOut s).time = s.time ∧
    (beatsOut s).regs = s.regs ∧ (beatsOut s).gath = s.gath ∧ (beatsOut s).mem = s.mem ∧ (beatsOut s).seqs = s.seqs ∧ (beatsOut s).reqs = s.reqs := by
  unfold beatsOut
  rw [beatOn_onlyPorts]
  exact ⟨rfl, rfl, rfl, rfl, rfl, rfl, rfl⟩

theorem beatsOut_out {n : Nat} (hn : n = 10 ∨ n = 11) (hlink : s.pairLink n = true) (hactive : (s.port n).st = .active) :
    ControlOut s (beatsOut s) n (s.controlFrame 3 ((s.ownBeat ((s.pair.beatSeq + 1) % 2 ^ 32)).bytes s.time)) := by
  have hdistinct : (activeLinks s).Nodup := List.Nodup.filter _ (by decide)
  have hmem : n ∈ activeLinks s := List.mem_filter.mpr ⟨by simpa using hn, by rw [hlink, decide_eq_true hactive]; rfl⟩
  exact beatOn_out _ (activeLinks s) { s with pair := { s.pair with beatSeq := (s.pair.beatSeq + 1) % 2 ^ 32 } } hdistinct n hmem

theorem controlOut_of_eq {t u : State} {n : Nat} {k : Packet} (h : ControlOut s t n k) (hports : u.ports = t.ports) (hout : u.out = t.out) : ControlOut s u n k := by
  have hport : u.port n = t.port n := congrArg (fun m : Map PortSt => Map.getD m n {}) hports
  unfold ControlOut at h ⊢
  rw [hport]
  split
  · rwa [if_pos ‹_›] at h
  · rw [if_neg ‹_›] at h
    exact sent_of_out_eq h hout

/-- One period of the beat timer (R364). -/
theorem pairBeatTimer_spec (h : s.pair.st ≠ .off) (hheld : s.pair.heldRecs = []) : let t := s.pairBeatTimer
    t.pair.beatSeq = (s.pair.beatSeq + 1) % 2 ^ 32 ∧
    (∀ n, n = 10 ∨ n = 11 → s.pairLink n = true → (s.port n).st = .active →
      ControlOut s t n (s.controlFrame 3 ((s.ownBeat ((s.pair.beatSeq + 1) % 2 ^ 32)).bytes s.time))) ∧
    (s.pair.lastBeat.isSome = true → s.pair.lastAt + 2000 ≤ s.time → t.obj 0x2C1004 = min (s.obj 0x2C1004 + 1) (2 ^ 32 - 1) ∧ t.source 4 = (s.source 4).arrive) ∧
    t.mem = s.mem ∧ t.seqs = s.seqs ∧ t.reqs = s.reqs := by
  obtain ⟨hpair, htime, hregs, hgath, hmem, hseqs, hreqs⟩ := beatsOut_spec s
  obtain ⟨mports, mout, mmem, mseqs, mreqs⟩ := missedBeat_onlyNoticed (beatsOut s)
  dsimp only
  rw [pairBeatTimer_eq h hheld]
  refine ⟨by rw [missedBeat_pair, hpair], fun n hn hlink hactive => controlOut_of_eq (beatsOut_out hn hlink hactive) mports mout, fun hbeat hdue => ?_,
    mmem.trans hmem, mseqs.trans hseqs, mreqs.trans hreqs⟩
  obtain ⟨hcount, hsource⟩ := missedBeat_counts (s := beatsOut s) (by rw [hpair]; exact hbeat) (by rw [hpair, htime]; exact hdue)
  have hobj : (beatsOut s).obj 0x2C1004 = s.obj 0x2C1004 := congrArg (Map.getD · 0x2C1004 (objDefault 0x2C1004)) hregs
  have hfour : (beatsOut s).source 4 = s.source 4 := congrArg (fun g : Gatherer => Map.getD g.sources 4 {}) hgath
  exact ⟨hcount.trans (by rw [hobj]), hsource.trans (by rw [hfour])⟩

end

/-! ### The pair mode, a stack interface, and the obligation (R292, R369) -/

section
variable {s : State}

/-- The pair that has gone OFF keeps its last cause and its beat number alone (R292). -/
theorem syncPairMode_leaves (hmode : s.pair.mode = true) (hwant : s.obj 0x250001 ≠ 1) (h10 : (s.port 10).st = .disabled) (h11 : (s.port 11).st = .disabled) :
    s.syncPairMode.pair.mode = false ∧ s.syncPairMode.pair.st = .off := by
  unfold State.syncPairMode
  dsimp only
  rw [if_neg (by rw [decide_eq_false hwant, hmode, h10, h11]; decide), if_neg (by rw [decide_eq_false hwant]; decide)]
  exact ⟨rfl, rfl⟩

/-- A port that is not ACTIVE is taken to DISABLED, and no other port changes. -/
theorem disablePort_ports (n : Port) (h : (s.port n).st ≠ .active) :
    ((s.disablePort n).port n).st = .disabled ∧ ∀ m, m ≠ n.val → (s.disablePort n).port m = s.port m := by
  by_cases hdisabled : (s.port n).st = .disabled
  · rw [show s.disablePort n = s.setObj (portKey n 2) 0 from if_pos hdisabled]
    exact ⟨hdisabled, fun _ _ => rfl⟩
  · rw [disablePort_eq s n hdisabled, if_neg h, switchedOff_port]
    exact ⟨rfl, fun m hm => portState_port_ne _ n _ hm⟩

theorem portDisable_leavesPair (hmode : s.pair.mode = true) (hwant : s.obj 0x250001 ≠ 1) (h10 : (s.port 10).st ≠ .active) (h11 : (s.port 11).st = .disabled) :
    (s.disablePort 10).syncPairMode.pair.mode = false ∧ (s.disablePort 10).syncPairMode.pair.st = .off := by
  obtain ⟨hobj, hpair⟩ := disablePort_mode s (10 : Port)
  obtain ⟨hport, hothers⟩ := disablePort_ports (s := s) (10 : Port) h10
  exact syncPairMode_leaves (hpair.trans hmode) (fun h => hwant (hobj.symm.trans h)) hport ((congrArg PortSt.st (hothers 11 (by decide))).trans h11)

/-- A stack interface that fails takes its polder down. -/
theorem stackInterfaceFailure_spec (q : Pol) : let t := (s.setPolder q { s.polder q with down := true }).arrive (polderSource q 10)
    (t.polder q).down = true ∧ t = (s.setPolder q { s.polder q with down := true }).arrive (0x4A + 16 * q) := by
  have hsource : polderSource q 10 = 0x4A + 16 * q := by unfold polderSource; omega
  dsimp only
  rw [hsource, arrive_polder, polder_setPolder_same]
  exact ⟨rfl, rfl⟩

end

/-! The cases of a record's number (R363). -/

section
variable {s : State} {seq n : Nat} {r : Req} (hn : fullSeq s.pair.rxPlaced seq = n)

theorem mirrorRecord_of_deaf (h : s.applies = false) : s.mirrorRecord seq (s.pair.placed % 2 ^ 32) r = s := by
  rw [mirrorRecord_eq, h]
  rfl

/-- A record that is placed is acknowledged again. -/
theorem recordDone_again (s : State) : let t := s.recordDone s.pair.rxPlaced true
    Sent s t (.recordAck (s.pair.rxPlaced % 2 ^ 32) 0) ∧ t.pair.rxPlaced = s.pair.rxPlaced ∧ t.seqs = s.seqs ∧ t.reqs = s.reqs := by
  have hdone : s.recordDone s.pair.rxPlaced true =
      State.sendMirrorAck { s with pair := { s.pair with heldRecs := Map.del s.pair.heldRecs s.pair.rxPlaced } } 0 := if_neg (by decide)
  obtain ⟨-, -, hack⟩ := sendMirrorAck_rerouted (s := { s with pair := { s.pair with heldRecs := Map.del s.pair.heldRecs s.pair.rxPlaced } }) 0
  have hsent := sendMirrorAck_sends (s := { s with pair := { s.pair with heldRecs := Map.del s.pair.heldRecs s.pair.rxPlaced } }) 0
  dsimp only
  rw [hdone]
  refine ⟨hsent, ?_⟩
  rw [hack]
  exact ⟨rfl, rfl, rfl⟩

include hn

theorem mirrorRecord_again (happlies : s.applies = true) (h : n = s.pair.rxPlaced) :
    s.mirrorRecord seq (s.pair.placed % 2 ^ 32) r = s.recordDone s.pair.rxPlaced true := by
  rw [mirrorRecord_eq, happlies, if_neg (by decide), if_pos (.inl (hn.trans h))]

theorem mirrorRecord_beyond (h : s.pair.rxPlaced + 64 < n) (hnear : n - s.pair.rxPlaced < 2 ^ 31) : s.mirrorRecord seq (s.pair.placed % 2 ^ 32) r = s := by
  have hgap : gap seq s.pair.rxPlaced = n - s.pair.rxPlaced := by
    rw [← hn, fullSeq, Nat.add_sub_cancel_left]
  rw [mirrorRecord_eq, hn, hgap, if_neg (c := n = s.pair.rxPlaced ∨ _) (by omega), if_pos (c := n > s.pair.rxPlaced + 64) h, ite_self]

/-- A record of the window is held, and the records that are next are applied. -/
theorem mirrorRecord_within (happlies : s.applies = true) (h : s.pair.rxPlaced < n) (hwindow : n ≤ s.pair.rxPlaced + 64) :
    s.mirrorRecord seq (s.pair.placed % 2 ^ 32) r = (holding s n r).applyRecords 64 := by
  have hgap : gap seq s.pair.rxPlaced = n - s.pair.rxPlaced := by
    rw [← hn, fullSeq, Nat.add_sub_cancel_left]
  rw [mirrorRecord_eq, hn, hgap, happlies, if_neg (by decide), if_neg (by omega), if_neg (by omega)]

/-- One that is not next waits for those before it. -/
theorem mirrorRecord_held (happlies : s.applies = true) (h : s.pair.rxPlaced + 1 < n) (hwindow : n ≤ s.pair.rxPlaced + 64)
    (hnone : Map.find s.pair.heldRecs (s.pair.rxPlaced + 1) = none) : s.mirrorRecord seq (s.pair.placed % 2 ^ 32) r = holding s n r := by
  rw [mirrorRecord_within hn happlies (by omega) hwindow]
  have hne : s.pair.rxPlaced + 1 ≠ n := by omega
  exact applyRecords_of_none ((find_put_ne _ _ hne).trans hnone)

/-- The next one is applied, and then those that follow it. -/
theorem mirrorRecord_next (happlies : s.applies = true) (h : n = s.pair.rxPlaced + 1) (hfree : ∀ e ∈ s.reqs, e.2.src ≠ .mirror n) :
    s.mirrorRecord seq (s.pair.placed % 2 ^ 32) r =
      if ((holding s n r).request { r with src := .mirror n }).pair.rxPlaced = n then ((holding s n r).request { r with src := .mirror n }).applyRecords 63
      else ((holding s n r).request { r with src := .mirror n }).noteLack n := by
  rw [mirrorRecord_within hn happlies (by omega) (by omega)]
  subst h
  exact applyRecords_of_some (s := holding s _ r) (find_put_same _ _ _) hfree

/-- What the turn of a record leaves: it is placed and the next is absent, or its request goes on, or it lacks a resource. -/
theorem mirrorRecord_turn (happlies : s.applies = true) (h : n = s.pair.rxPlaced + 1) (hfree : ∀ e ∈ s.reqs, e.2.src ≠ .mirror n) :
    let u := (holding s n r).request { r with src := .mirror n }
    let t := s.mirrorRecord seq (s.pair.placed % 2 ^ 32) r
    (u.pair.rxPlaced = n → Map.find u.pair.heldRecs (n + 1) = none → t = u) ∧ (u.pair.rxPlaced ≠ n → (∃ e ∈ u.reqs, e.2.src = .mirror n) → t = u) ∧
    (u.pair.rxPlaced ≠ n → (∀ e ∈ u.reqs, e.2.src ≠ .mirror n) → t = { u with pair := { u.pair with lacking := t.pair.lacking } } ∧
      ∃ a, t.pair.lacking = some (n, a) ∧ (u.pair.lacking = some (n, a) ∨ a = u.time ∧ ∀ b, u.pair.lacking ≠ some (n, b))) := by
  dsimp only
  rw [mirrorRecord_next hn happlies h hfree]
  generalize (holding s n r).request { r with src := .mirror n } = u
  refine ⟨fun hplaced hnone => ?_, fun hplaced hreq => ?_, fun hplaced hreq => ?_⟩
  · rw [if_pos hplaced]
    exact applyRecords_of_none (by rw [hplaced]; exact hnone)
  · rw [if_neg hplaced]
    exact noteLack_of_request hreq
  · rw [if_neg hplaced]
    exact noteLack_of_none hreq

end

section
variable {s : State} {seq : Nat} {m : SentMsg} (h : Map.find s.pair.unplaced (fullSeq s.pair.placed seq) = some m)
include h

theorem mirrorRetry_still (hwait : m.tries = 0 ∨ s.fence.st = .fenced ∨ s.waited m.last m.tries = false) : s.mirrorRetry seq = s := by
  rw [mirrorRetry_of_some h, if_pos]
  exact hwait.imp_right (Or.imp_right fun hw => by rw [hw]; rfl)

variable (hsent : m.tries ≠ 0) (hfence : s.fence.st ≠ .fenced) (hwaited : s.waited m.last m.tries = true)
include hsent hfence hwaited

theorem mirrorRetry_due : s.mirrorRetry seq = if m.tries ≥ 9 then s.enterSole 4 else s.sendRecord (fullSeq s.pair.placed seq) true := by
  rw [mirrorRetry_of_some h, if_neg]
  rw [hwaited]
  simp [hsent, hfence]

/-- A record goes again under its number and its identifier (R363, R379). -/
theorem mirrorRetry_sends (hfew : m.tries < 9) : let t := s.mirrorRetry seq
    let n := fullSeq s.pair.placed seq
    Sent s t (.record n m.what) ∧ (∃ m', Map.find t.pair.unplaced n = some m' ∧ m'.tries = m.tries + 1 ∧ m'.msg = m.msg) ∧
    t.mem = s.mem ∧ t.seqs = s.seqs ∧ t.reqs = s.reqs := by
  obtain ⟨m', hput, htries, hmsg⟩ := sendRecord_unplaced h true
  obtain ⟨-, -, heq⟩ := sendRecord_rerouted s (fullSeq s.pair.placed seq) true
  dsimp only
  rw [mirrorRetry_due h hsent hfence hwaited, if_neg (not_le.mpr hfew)]
  refine ⟨sendRecord_sends h hsent true, ⟨m', ?_, htries, hmsg hsent⟩, ?_⟩
  · rw [hput]
    exact find_put_same _ _ _
  · rw [heq]
    exact ⟨rfl, rfl, rfl⟩

/-- After the eighth retry this device is sole owner. -/
theorem mirrorRetry_sole (hmany : 9 ≤ m.tries) (hst : s.pair.st = .paired) : TakesOver s (s.mirrorRetry seq) 4 := by
  rw [mirrorRetry_due h hsent hfence hwaited, if_pos hmany]
  exact enterSole_takesOver hst 4

end

/-- Settles O45: each command by the row of R365's table that its premises name. The entry into sole-owner mode is `TakesOver`, whatever commits when the
records are given up (`PairStands`). A record that is placed again is acknowledged as log entry 72 says. -/
theorem thePairChangesStateByTheTable : Obligations.ThePairChangesStateByTheTable := by
  unfold Obligations.ThePairChangesStateByTheTable
  intro s
  dsimp only
  refine ⟨fun n b => ⟨fun h => ⟨_, congrArg Host.Outcome.next (pairBeat_still h), rfl⟩, fun hlink hactive hon hplaced => ?_⟩,
    fun hst hdue => ⟨_, rfl, beatTimeout_sole hst hdue⟩, fun hst x hx => ?_, ⟨fun h => ⟨_, congrArg Host.Outcome.next (beatTimeout_still h), rfl⟩,
    fun hst => ⟨s, ?_, rfl⟩, fun h => ⟨s, ?_, rfl⟩, fun b hst hbeat hdetached => ⟨fun hready hfull => ⟨s, ?_, rfl⟩, fun hready hfree hroom => ?_, fun hready hempty => ?_⟩,
    fun placed refused n hnew hsent hnear hplaced hgood => ⟨s.recordsPlaced (n % 2 ^ 32), ?_, recordsPlaced_spec hnew hsent hnear⟩, fun refused => ⟨fun hgood => ⟨_, rfl, ?_⟩, fun hbad hst => ⟨_, rfl, ?_⟩⟩,
    fun seq r => ⟨fun hdeaf => ⟨_, congrArg Host.Outcome.next (mirrorRecord_of_deaf hdeaf), rfl⟩, fun happlies => ?_⟩,
    fun seq => ⟨fun h => ⟨_, congrArg Host.Outcome.next (recordHoldExpiry_still h), rfl⟩, fun h => ⟨_, rfl, recordHoldExpiry_spec rfl h⟩⟩,
    fun seq m => ⟨fun hnone => ⟨_, congrArg Host.Outcome.next (mirrorRetry_of_none hnone), rfl⟩, fun hsome => ?_⟩,
    fun hoff => ⟨_, congrArg Host.Outcome.next (if_pos hoff), rfl⟩, fun hon hheld => ⟨_, rfl, pairBeatTimer_spec hon hheld⟩,
    fun hmode hwant h10 h11 => ⟨_, rfl, portDisable_leavesPair hmode hwant h10 h11⟩, fun q => ⟨_, rfl, stackInterfaceFailure_spec q⟩⟩⟩
  · have hstep := pairBeat_heard hlink hactive hon hplaced
    exact ⟨fun hst hseqs => ⟨_, rfl, pairBeat_takes hstep hst hseqs⟩, fun hst hseqs hholds => ⟨_, rfl, pairBeat_detaches hstep hst hseqs hholds⟩,
      fun hst hseqs hholds => ⟨_, rfl, pairBeat_forms hstep hst hseqs hholds⟩,
      fun hst hfenced => ⟨_, rfl, pairBeat_sole hstep hst (beatState_fenced (s := beaten s n b) hst hfenced)⟩,
      fun hst hfenced hdetached => ⟨_, rfl, pairBeat_sole hstep hst (beatState_partnerDetached (s := beaten s n b) hst hfenced hdetached)⟩,
      fun h => ⟨_, congrArg Host.Outcome.next (hstep.trans (beatState_still (s := beaten s n b) h)), rfl⟩,
      fun hst hfence hreceiving hrebuilding hseqs => ⟨_, rfl, pairBeat_receives hstep hst hfence hreceiving hrebuilding hseqs⟩,
      fun hst hfence hreceiving hrebuilding hsole => ⟨_, rfl, pairBeat_rebuilt hstep hst hfence hreceiving hrebuilding hsole⟩⟩
  · obtain ⟨rfl, hdue⟩ | rfl := hx
    · exact ⟨_, rfl, beatTimeout_rebuilding hst hdue⟩
    · exact ⟨s.dropRebuild, congrArg (fun o : Option State => Host.Outcome.next (o.getD s)) (if_pos hst), dropRebuild_spec hst⟩
  · exact congrArg (fun o : Option State => Host.Outcome.next (o.getD s)) (if_neg hst)
  · exact congrArg (fun o : Option State => Host.Outcome.next (o.getD s)) (rebuild_of_not h)
  · exact congrArg (fun o : Option State => Host.Outcome.next (o.getD s)) (rebuild_of_no_end hst hbeat hdetached hready hfull)
  · obtain ⟨c, hc⟩ := hfree
    obtain ⟨t, hrebuild, hst', htodo, hnext, hrx, hconduit, hopening⟩ := rebuild_opens hst hbeat hdetached hready hc hroom
    exact ⟨t, congrArg (fun o : Option State => Host.Outcome.next (o.getD s)) hrebuild, hst', htodo, hnext, hrx, hc.trans (congrArg some hconduit.symm), by rw [hconduit]; exact hopening⟩
  · obtain ⟨t, hrebuild, hpaired⟩ := rebuild_at_once hst hbeat hdetached hready hempty
    exact ⟨t, congrArg (fun o : Option State => Host.Outcome.next (o.getD s)) hrebuild, hpaired⟩
  · rw [hplaced, hgood]
    exact congrArg Host.Outcome.next (mirrorAck_of_good _)
  · subst hgood
    exact mirrorAck_still
  · rw [mirrorAck_refused hbad]
    exact enterSole_takesOver hst 5
  · refine ⟨fun hn => ⟨_, congrArg Host.Outcome.next (mirrorRecord_again rfl happlies hn), recordDone_again s⟩,
      fun hfar hnear => ⟨_, congrArg Host.Outcome.next (mirrorRecord_beyond rfl hfar hnear), rfl⟩,
      fun hlater hwindow hnone => ⟨_, congrArg Host.Outcome.next (mirrorRecord_held rfl happlies hlater hwindow hnone), rfl⟩, fun hn hfree => ?_⟩
    obtain ⟨hplaced, hgoes, hlacks⟩ := mirrorRecord_turn (r := r) (seq := seq) rfl happlies hn hfree
    exact ⟨fun h hnone => ⟨_, rfl, hplaced h hnone⟩, fun h hreq => ⟨_, rfl, hgoes h hreq⟩, fun h hreq => ⟨_, rfl, hlacks h hreq⟩⟩
  · exact ⟨fun h => ⟨_, congrArg Host.Outcome.next (mirrorRetry_still hsome h), rfl⟩, fun hsent hfence hwaited =>
      ⟨fun hfew => ⟨_, rfl, mirrorRetry_sends hsome hsent hfence hwaited hfew⟩, fun hmany hst => ⟨_, rfl, mirrorRetry_sole hsome hsent hfence hwaited hmany hst⟩⟩⟩

end Sys2Proof.Proofs
